-- ==== Sys2Proof/Word.lean ====
section
/-! DEFINITION. The word types of the W32: bytes, the 16-, 32-, 48- and 64-bit words software sees, and the ordering
codes.  Everything else is built on these. -/

namespace Sys2Proof

/-- One byte of memory or of a packet (spec/00 Table 0-4: byte 0 holds bits [7:0]). -/
abbrev Byte := BitVec 8
/-- A 16-bit field. -/
abbrev W16 := BitVec 16
/-- A 32-bit field. -/
abbrev W32 := BitVec 32
/-- A 48-bit counter (spec/00 R12). -/
abbrev W48 := BitVec 48
/-- A 64-bit register. -/
abbrev W64 := BitVec 64

/-- The ordering code (spec/00 R1, Table 0-1). -/
inductive Variant where
  | f   -- JW32-F
  | e   -- JW32-E
  deriving DecidableEq, Repr

/-- A host link (spec/00 Table 0-6): H0 on M0, H1 on M1. -/
inductive LinkId where
  | h0
  | h1
  deriving DecidableEq, Repr

end Sys2Proof
end

