-- ==== Sys2Proof/Machine/Tab.lean ====
section
/-! DEFINITION. Sparse tables with a default, the form in which the model holds the W32's many numbered units: a list
of (index, value) pairs in rising order of index; an index that is not listed holds the default its reader names. -/

namespace Sys2Proof.Machine

/-- A sparse table: (index, value) pairs, rising in the index. -/
abbrev Tab (α : Type) := List (Nat × α)

/-- The value at an index; `d` where the table lists none. -/
def Tab.get {α : Type} (d : α) : Tab α → Nat → α
  | [], _ => d
  | (i, v) :: t, k => if i = k then v else Tab.get d t k

/-- The table with the value at an index replaced (or put in its place in the order). -/
def Tab.set {α : Type} (t : Tab α) (k : Nat) (v : α) : Tab α :=
  match t with
  | [] => [(k, v)]
  | (i, w) :: t' =>
    if i = k then (k, v) :: t'
    else if k < i then (k, v) :: (i, w) :: t'
    else (i, w) :: Tab.set t' k v

/-- The table with one entry changed by a function. -/
def Tab.upd {α : Type} (d : α) (t : Tab α) (k : Nat) (f : α → α) : Tab α := t.set k (f (t.get d k))

/-- The table without its entry at an index, which then holds the default. -/
def Tab.clear {α : Type} (t : Tab α) (k : Nat) : Tab α := t.filter (fun p => p.1 != k)

/-- The listed indices. -/
def Tab.keys {α : Type} (t : Tab α) : List Nat := t.map Prod.fst

end Sys2Proof.Machine
end

