-- ==== Sys2Proof/Machine/FabricTypes.lean ====
section
/-! DEFINITION. Plain data of the Caskline fabric (spec/10): transactions, flits, ports, lanes, bonds and time. -/

namespace Sys2Proof.Machine

/-- A transaction: the header of spec/10 Table 10-6, the meta word of a REDUCE_PUT (empty otherwise), and the payload. -/
structure Txn where
  ttype : Nat
  rsp : Bool
  status : Nat
  dst : W16
  src : W16
  dstand : Nat
  sstand : Nat
  tag : Nat
  addr : Nat
  len : Nat
  ttl : Nat
  meta_ : List Byte
  payload : List Byte
  /-- payload words that are not proper Flashing words, by index: the difference of their check symbols from the encoding of their
  data (spec/01 R20); no word that is received has one (R255) -/
  diffs : Tab (Byte × Byte) := []
  deriving DecidableEq, Repr

/-- What the word of a TIME transaction takes from the time base as its flit first leaves (spec/10 R270): t1 of the request with a TAG,
or the t3 of a response. -/
inductive Stamp where
  | none
  | t1 (tag : Nat)
  | t3
  deriving DecidableEq, Repr

/-- A body word of a channel's stream, marked where a transaction begins. -/
structure TxWord where
  data : List Byte
  start : Bool
  /-- the request or response it belongs to: (source stand, tag), for R257 -/
  owner : Nat × Nat
  /-- the difference of its check symbols from the encoding of its data (spec/01 R20) -/
  diff : Byte × Byte
  stamp : Stamp
  deriving DecidableEq, Repr

/-- CTRL subtypes (spec/10 R254). A DEGRADE names the physical lanes that have failed, from which both ends know the healthy ones
(R249; the specification gives the message no form: DESIGN CHOICE 91). -/
inductive CtrlMsg where
  | hello (device : W16) (port : Nat)
  | ready
  | subst (lane : Nat)
  | degrade (failed : Nat)
  | lock (stamp : W64)
  deriving DecidableEq, Repr

/-- A sent flit held for retry (spec/10 R256): SEQ, its channel (`none` for CTRL, whose message is `ctrl`), BSEQ, body words with their
check symbols, START, how often it was sent, and the requests it carries. -/
structure RetryFlit where
  seq : Nat
  vc : Option Nat
  ctrl : Option CtrlMsg
  bseq : Nat
  start : Nat
  words : List (List Byte)
  sends : Nat
  owners : List (Nat × Nat)
  /-- when it was last sent -/
  sentAt : W64
  deriving DecidableEq, Repr

/-- A transaction received whole and not yet taken by its unit: its channel, the flits that brought it, by port and number, whose
credit waits for it (spec/10 R258), and the time at which the last of them crossed the PMA (R270). -/
structure RxTxn where
  vc : Nat
  refs : List (Nat × Nat)
  txn : Txn
  time : W64
  deriving DecidableEq, Repr

/-- A transaction received in part (spec/10 R254, R257): its bytes so far, the flits that brought them, and whether its first flit
met a fence (R272). -/
structure RxPart where
  bytes : List Byte
  refs : List (Nat × Nat)
  fenced : Bool
  deriving DecidableEq, Repr

def RxPart.none : RxPart := ⟨[], [], false⟩

/-- Port states (spec/10 Table 10-3). -/
inductive PortMode where
  | down | training | quiet | ramp | active | retrain | miscabled
  deriving DecidableEq, Repr

/-- One Caskline port (spec/10 Tables 10-13, 10-14; R247-R259). -/
structure PortSt where
  /-- STATE (Table 10-3); reset DOWN -/
  mode : PortMode
  /-- DEGRADED: width 4 (R249); reset 0 -/
  degraded : Bool
  /-- SPARE_FOR: the logical lane on lane 8 (R248); reset none -/
  spareFor : Option Nat
  /-- the same substitution in the receive direction, followed by the lane marker (R248); reset none -/
  rxSpareFor : Option Nat
  /-- RAMP_STEP, 0 to 3 (R253); reset 0 -/
  rampStep : Nat
  /-- PEER_DEVICE seen in HELLO (R251); reset 0 -/
  peerDevice : W16
  /-- PEER_PORT seen in HELLO (R251); reset 0 -/
  peerPort : Nat
  /-- READY sent (R252); reset 0 -/
  readySent : Bool
  /-- READY received (R252); reset 0 -/
  readyRecv : Bool
  /-- training has finished and the HELLO exchange is due (R251); reset 0 -/
  trained : Bool
  /-- physical lanes of the transmit direction known as failed, one bit each (R248, R249); reset 0 -/
  txFailed : Nat
  /-- LOCKED, one bit per physical lane (Table 10-14); reset 0 -/
  locked : Nat
  /-- FAILED, one bit per physical lane (Table 10-14); reset 0 -/
  failed : Nat
  /-- WIDTH: 8, 4 or 0 (Table 10-14); reset 0 -/
  width : Nat
  /-- a substitution is pending, so replays do not count toward the limit (R248); reset 0 -/
  substPending : Bool
  /-- next SEQ to send, 12 bits (R256); reset 0 -/
  txSeq : Nat
  /-- the retry buffer, oldest first, at most 1,024 flits (R256); reset empty -/
  retry : List RetryFlit
  /-- SEQ expected, 12 bits (R255); reset 0 -/
  rxSeq : Nat
  /-- a DATA or CTRL flit has been received in order, so ACK has a meaning (Table 10-4); reset 0 -/
  rxSome : Bool
  /-- a NAK has been sent since the last good flit (R256); reset 0 -/
  nakSent : Bool
  /-- credits held for each channel (R258); reset 0 -/
  credits : Tab Nat
  /-- credits to return to the peer for each channel (R253, R258); reset 0 -/
  owed : Tab Nat
  /-- words waiting to be sent: key 65 × channel + participant, transit being 64 (R259); reset empty -/
  txq : Tab (List TxWord)
  /-- the participant last served on each channel (R259); reset 64 -/
  lastSrc : Tab Nat
  /-- the participant whose transaction runs on into the channel's next flit; reset none -/
  carryOn : Tab (Option Nat)
  /-- flits of VC1 and of VC2 sent in the present weighted turn (R259); reset 0 -/
  turn1 : Nat
  turn2 : Nat
  /-- CTRL messages waiting to be sent, ahead of every DATA flit (R259); reset none -/
  ctrlq : List CtrlMsg
  /-- flits to send again, ahead of every DATA flit (R256, R259); reset none -/
  replayq : List Nat
  /-- bytes of a transaction received in part, per channel (R254, R257); reset none -/
  rxPart : Tab RxPart
  /-- transactions received whole and not yet taken by their units; reset none -/
  rxq : List RxTxn
  /-- DATA flits delivered, by which they are numbered (R258, the model's own); reset 0 -/
  rxCount : Nat
  /-- the port has started training since chip reset (spec/14 R359); reset 0 -/
  started : Bool
  /-- when the port entered its present state, or the step of the ramp it is in (R250, R253; the model's own); reset 0 -/
  since : W64
  deriving DecidableEq, Repr

def PortSt.reset : PortSt :=
  { mode := .down, degraded := false, spareFor := none, rxSpareFor := none, rampStep := 0, peerDevice := 0,
    peerPort := 0, readySent := false, readyRecv := false, trained := false, txFailed := 0, locked := 0, failed := 0, width := 0,
    substPending := false, txSeq := 0, retry := [], rxSeq := 0, rxSome := false, nakSent := false, credits := [], owed := [],
    txq := [], lastSrc := [], carryOn := [], turn1 := 0, turn2 := 0, ctrlq := [], replayq := [], rxPart := [],
    rxq := [], rxCount := 0, started := false, since := 0 }

/-- A flit of a bond that arrived ahead of its turn (spec/10 R261). -/
structure HeldFlit where
  bseq : Nat
  port : Nat
  vc : Nat
  start : Nat
  words : List (List Byte)
  /-- its number on its port, and when it crossed the PMA -/
  num : Nat
  time : W64
  deriving DecidableEq, Repr

/-- One bond (spec/10 R261, R262, Table 10-15). -/
structure BondSt where
  /-- LOCKED (R261); reset 0 -/
  locked : Bool
  /-- SKEW_NS, 8 bits (Table 10-15); reset 0 -/
  skew : Nat
  /-- the deskew delay of each port, in ns (R261); reset 0 -/
  deskew : Tab Nat
  /-- next BSEQ to send, 16 bits; reset 0 -/
  txBseq : Nat
  /-- next BSEQ to pass on, 16 bits; reset 0 -/
  rxBseq : Nat
  /-- flits received ahead of their turn; reset none -/
  held : List HeldFlit
  /-- flits that a port of the bond held unacknowledged when it went down, to be sent again on the others (R262); reset
  none -/
  resend : List RetryFlit
  deriving DecidableEq, Repr

def BondSt.reset : BondSt := ⟨false, 0, [], 0, 0, [], []⟩

/-- What a request is for: what its response completes. -/
inductive ReqFor where
  | skidder (ticket : Nat)              -- a remote block of a Skidder command (spec/06 R141)
  | collective (ticket segment rank : Nat)
  | permute (ticket block : Nat)
  | permuteMsg (ticket : Nat)
  | time (t1 : W64)
  | commit (ticket rank : Nat)
  | fence (device : W16)
  | checkpoint (ticket : Nat)
  | other
  deriving DecidableEq, Repr

/-- An outstanding request (spec/10 R265, R266). -/
structure Req where
  stand : Nat
  tag : Nat
  ttype : Nat
  dst : W16
  addr : Nat
  len : Nat
  what : ReqFor
  /-- the egress its route chose (R265, R268) -/
  egress : Nat
  /-- when it was sent, for TXN_TIMEOUT (R266) -/
  sentAt : W64
  deriving DecidableEq, Repr

/-- A request that waits for a TAG or for an earlier route's requests to end (spec/10 R265). -/
structure HeldReq where
  ttype : Nat
  dst : W16
  dstand : Nat
  addr : Nat
  meta_ : List Byte
  payload : List Byte
  /-- as of `Txn` -/
  diffs : Tab (Byte × Byte)
  coll : Bool
  what : ReqFor
  /-- only a direct bond may carry it: a collective over a tensor group (spec/09 R233) -/
  bond : Bool := false
  deriving DecidableEq, Repr

/-- Time alignment (spec/10 R270, R271, Table 10-10). -/
structure TimeSync where
  /-- (offset, delay) in ns of the last exchanges, newest first, at most 8; reset none -/
  samples : List (Int × Int)
  /-- the offset kept (CSK_TIME.OFFSET); reset 0 -/
  offset : Int
  /-- the delay kept (CSK_TIME.DELAY); reset 0 -/
  delay : Int
  /-- the first offset has been applied before STANDS_READY; reset 0 -/
  stepped : Bool
  /-- ticks the time base still holds its value for a negative first offset (R270); reset 0 -/
  hold : Nat
  /-- ticks still to slew toward the parent, positive to add (R270); reset 0 -/
  slew : Int
  deriving DecidableEq, Repr

def TimeSync.reset : TimeSync := ⟨[], 0, 0, false, 0, 0⟩

/-- One die link port (spec/01 R18): a die and its port number. -/
structure DieLink where
  /-- lanes that have failed and been replaced or lost; reset from the wear ledger, none recorded -/
  failedLanes : List Nat
  /-- running at reduced width until the next chip reset (R18); reset 0 -/
  reduced : Bool
  /-- out of service since a chip reset (R18); reset 0 -/
  out : Bool
  /-- flits delivered, and retries asked for, the model's record of R18; reset 0 -/
  delivered : Nat
  retried : Nat
  /-- the stand whose flit crossed toward this port last, 64 for the module's own traffic (R22); reset 64 -/
  turn : Nat
  deriving DecidableEq, Repr

def DieLink.reset : DieLink := ⟨[], false, false, 0, 0, 64⟩

/-- One more lane has failed. -/
def DieLink.failLane (x : DieLink) (lane : Nat) : DieLink :=
  if x.failedLanes.contains lane then x else { x with failedLanes := x.failedLanes ++ [lane] }

end Sys2Proof.Machine
end

