-- ==== Sys2Proof/Machine/HostTypes.lean ====
section
/-! DEFINITION. Plain data of the host links (spec/02 R30-R34, R54) and what the W32 sends to the outside. -/

namespace Sys2Proof.Machine

/-- An MSI-X table entry (spec/02 R54; layout of the PCI Express base specification). -/
structure MsixEntry where
  /-- message address, 64 bits -/
  addr : W64
  /-- message data, 32 bits -/
  data : W32
  /-- the vector control word's mask bit -/
  masked : Bool
  deriving DecidableEq, Repr

/-- The base specification's reset: masked, address and data zero. -/
def MsixEntry.reset : MsixEntry := ⟨0, 0, true⟩

/-- One host link's endpoint (spec/02 R30-R34, R54). -/
structure HostLink where
  /-- PERST is deasserted and training has begun (spec/14 R358); reset 0 -/
  training : Bool
  /-- GLB_STATUS.H0_UP or H1_UP, 1 bit (Table 2-4); reset 0 -/
  up : Bool
  /-- in D3hot (R32); reset 0 -/
  d3hot : Bool
  /-- Bus Master Enable (R31); reset 0 -/
  bme : Bool
  /-- GLB_BAR4_BASE.BASE of the link, in GiB, 10 bits (Table 2-5); reset 0 -/
  bar4Base : Nat
  /-- log2 of the BAR4 size in GiB, 0 to 10 (Table 2-1); reset 0 -/
  bar4Log2 : Nat
  /-- MSI-X enable and function mask (R54); reset 0 -/
  msixEnable : Bool
  msixMask : Bool
  /-- the MSI-X table, 64 entries (R54); reset masked -/
  msix : Tab MsixEntry
  /-- the pending-bit array: vectors pending (R54); reset none -/
  pba : List Nat
  deriving DecidableEq, Repr

def HostLink.reset : HostLink := ⟨false, false, false, false, 0, 0, false, false, [], []⟩

/-- What ends a link's endpoint state (spec/02 R32). -/
inductive LinkEnd where
  | hotReset | linkDown | perst | d3hot
  deriving DecidableEq, Repr

/-- A PCI Express configuration request, as far as this manual gives it an effect (spec/02 R31, R33, R34, R54). -/
inductive CfgReq where
  | read
  /-- a read of the Device Serial Number capability (R30) -/
  | readSerial
  | setBme (on : Bool)
  | setD0
  | setD3hot
  | setMsix (enable mask : Bool)
  | setBar4Size (log2Gib : Nat)
  deriving DecidableEq, Repr

/-- What the W32 sends out of the module. -/
inductive Output where
  /-- an MSI-X message of a vector on a link (spec/02 R54) -/
  | msix (link : LinkId) (vector : Nat) (addr : W64) (data : W32)
  /-- a configuration request's completion; `retry`: Request Retry Status (spec/02 R33) -/
  | cfg (link : LinkId) (retry : Bool)
  /-- the completion of a read of the Device Serial Number, the same on both links (spec/02 R30) -/
  | serial (link : LinkId) (number : W64)
  /-- a BAR4 read's completion: the bytes and the Poisoned bit (spec/02 R34) -/
  | bar4 (link : LinkId) (data : List Byte) (poisoned : Bool)
  /-- a flit on a port: its 16 Flashing words in order, each of 16 data bytes and two check symbols, with the physical lane that it
  rides (spec/10 R247, R249, R254) -/
  | flit (port : Nat) (words : List (Nat × List Byte))
  /-- the lane marker on lane 8 of a port (spec/10 R248) -/
  | marker (port lane : Nat)
  /-- a reply to an SPDM request: its transport, whether it is ERROR and its bytes (spec/15 R384) -/
  | spdm (transport : Nat) (error : Bool) (data : List Byte)
  /-- a reply on the I3C sideband (spec/15 R383) -/
  | i3c (data : List Byte)
  /-- a PLDM reply: its transport, completion code and bytes (spec/15 R381, R382) -/
  | pldm (transport code : Nat) (data : List Byte)
  /-- a die-link retry asked for (spec/01 R18) -/
  | dieRetry (die port : Nat)
  /-- a flit that a transit die passes on unaltered: the die, the next die, its words (spec/01 R19, R20) -/
  | dieForward (die next : Nat) (words : List (List Byte))
  deriving DecidableEq, Repr

end Sys2Proof.Machine
end

