-- ==== Sys2Proof/Machine/Mem.lean ====
section
/-! DEFINITION. The Flashing word code (spec/07 R165, R166, R175) and stored memory: bytes in one canonical form with
the stored check bits of each 16-byte word beside them.  One `Mem` holds the HBM of the module, one each core
scratchpad, one each cluster scratch. -/

namespace Sys2Proof.Machine

/-! ### GF(2^8) with polynomial 0x11D (spec/07 R165) -/

/-- Multiplication by alpha = 0x02. -/
def gfX (a : Byte) : Byte := if a.msb then (a <<< 1) ^^^ 0x1d#8 else a <<< 1

/-- Shift-and-add product over the low `n` bits of the second factor. -/
def gfMulN : Nat → Byte → Byte → Byte
  | 0, _, _ => 0
  | n + 1, a, b => (if b.getLsbD 0 then a else 0) ^^^ gfMulN n (gfX a) (b >>> 1)

/-- The product in GF(2^8). -/
def gfMul (a b : Byte) : Byte := gfMulN 8 a b

/-- `alpha ^ i`. -/
def gfPow : Nat → Byte
  | 0 => 1
  | i + 1 => gfX (gfPow i)

/-- The inverse of 0x03 = 1 + alpha, by which R165 divides. -/
def gfInv3 : Byte := 0xf4#8

/-- The check symbols (P0, P1) of a single data byte `x` at Dk; the code is linear (spec/07 R165). -/
def chkOfByte (k : Nat) (x : Byte) : Byte × Byte :=
  let b := gfMul x (gfPow (k + 2))
  let p1 := gfMul (x ^^^ b) gfInv3
  (x ^^^ p1, p1)

/-- The exclusive or of two pairs of check symbols. -/
def chkXor (a b : Byte × Byte) : Byte × Byte := (a.1 ^^^ b.1, a.2 ^^^ b.2)

/-- The check symbols of data bytes D_k, D_(k+1), ... (spec/07 R165). -/
def chkOf : Nat → List Byte → Byte × Byte
  | _, [] => (0, 0)
  | k, x :: xs => chkXor (chkOfByte k x) (chkOf (k + 1) xs)

/-- The syndromes of a stored word from the difference of its stored check symbols and the encoding of its stored data
(spec/07 R166): S0 = C(1), S1 = C(alpha). -/
def syndromes (d : Byte × Byte) : Byte × Byte := (d.1 ^^^ d.2, d.1 ^^^ gfX d.2)

/-- What a reader makes of a word (spec/07 R166). -/
inductive WordCheck where
  | clean
  | corrected (pos : Nat) (x : Byte)   -- the symbol position and what is added to it
  | uncorrectable
  deriving DecidableEq, Repr

/-- The symbol position from `i` down whose power of alpha is S1/S0, among 0 to `i`. -/
def findPos (s0 s1 : Byte) : Nat → Option Nat
  | 0 => if gfMul s0 (gfPow 0) = s1 then some 0 else none
  | i + 1 => if gfMul s0 (gfPow (i + 1)) = s1 then some (i + 1) else findPos s0 s1 i

/-- R166's decision. -/
def checkWord (d : Byte × Byte) : WordCheck :=
  let (s0, s1) := syndromes d
  if s0 = 0 ∧ s1 = 0 then .clean
  else if s0 = 0 ∨ s1 = 0 then .uncorrectable
  else match findPos s0 s1 17 with
    | some i => .corrected i s0
    | none => .uncorrectable

/-- The difference that a word's poison code shows: 0xA5 in each check symbol (spec/07 R175). -/
def poisonDiff : Byte × Byte := (0xa5#8, 0xa5#8)

/-! ### Bytes in canonical form -/

/-- Bytes of a store: addresses strictly rising, no entry equal to zero, which is what an unlisted byte reads. -/
abbrev Cells := List Host.Cell

/-- The byte at an address; zero where none is listed. -/
def cellGet : Cells → Nat → Byte
  | [], _ => 0
  | (i, v) :: t, k => if i = k then v else cellGet t k

/-- The bytes with one address written, in canonical form. -/
def cellSet : Cells → Nat → Byte → Cells
  | [], k, v => if v = 0 then [] else [(k, v)]
  | (i, w) :: t, k, v =>
    if i = k then (if v = 0 then t else (k, v) :: t)
    else if k < i then (if v = 0 then (i, w) :: t else (k, v) :: (i, w) :: t)
    else (i, w) :: cellSet t k v

/-- Every listed address is at least `lo`, addresses rise strictly, and no listed byte is zero. -/
def cellsWf : Nat → Cells → Bool
  | _, [] => true
  | lo, (i, v) :: t => decide (lo ≤ i) && decide (v ≠ 0) && cellsWf (i + 1) t

/-! ### A store -/

/-- A store: its bytes, and for each 16-byte word whose stored check symbols are not the encoding of its stored data,
their difference.  Words without an entry are proper Flashing words (spec/00 R20). -/
structure Mem where
  bytes : Cells
  diff : Tab (Byte × Byte)
  deriving DecidableEq, Repr

/-- A store with nothing listed: every byte zero, every word proper. -/
def Mem.empty : Mem := ⟨[], []⟩

/-- The canonical form of the check differences: indices strictly rising, no zero entry. -/
def diffWf : Nat → Tab (Byte × Byte) → Bool
  | _, [] => true
  | lo, (i, v) :: t => decide (lo ≤ i) && decide (v ≠ (0, 0)) && diffWf (i + 1) t

/-- The canonical form. -/
def Mem.wf (m : Mem) : Bool := cellsWf 0 m.bytes && diffWf 0 m.diff

/-- The check difference of word `w` (the word holding bytes 16w to 16w+15). -/
def Mem.diffAt (m : Mem) (w : Nat) : Byte × Byte := m.diff.get (0, 0) w

/-- The differences with one word's replaced, in canonical form. -/
def diffSet : Tab (Byte × Byte) → Nat → Byte × Byte → Tab (Byte × Byte)
  | [], k, v => if v = (0, 0) then [] else [(k, v)]
  | (i, w) :: t, k, v =>
    if i = k then (if v = (0, 0) then t else (k, v) :: t)
    else if k < i then (if v = (0, 0) then (i, w) :: t else (k, v) :: (i, w) :: t)
    else (i, w) :: diffSet t k v

/-- What a reader finds at word `w`. -/
def Mem.check (m : Mem) (w : Nat) : WordCheck := checkWord (m.diffAt w)

/-- A byte as stored, before correction. -/
def Mem.raw (m : Mem) (a : Nat) : Byte := cellGet m.bytes a

/-- A byte as a reader delivers it: corrected where R166 corrects it, as stored in an uncorrectable word. -/
def Mem.read (m : Mem) (a : Nat) : Byte :=
  match m.check (a / 16) with
  | .corrected p x => if p = a % 16 + 2 then m.raw a ^^^ x else m.raw a
  | _ => m.raw a

/-- `n` bytes from an address, as delivered. -/
def Mem.readN (m : Mem) : Nat → Nat → List Byte
  | _, 0 => []
  | a, n + 1 => m.read a :: m.readN (a + 1) n

/-- Is the word uncorrectable? -/
def Mem.bad (m : Mem) (w : Nat) : Bool := decide (m.check w = .uncorrectable)

/-- Does a read of the word correct it? -/
def Mem.corrects (m : Mem) (w : Nat) : Bool :=
  match m.check w with
  | .corrected _ _ => true
  | _ => false

/-- One byte written raw, its word's check symbols kept equal to the encoding's difference `d`. -/
def Mem.writeRaw (m : Mem) (a : Nat) (v : Byte) : Mem := { m with bytes := cellSet m.bytes a v }

/-- A word's check difference set. -/
def Mem.setDiff (m : Mem) (w : Nat) (d : Byte × Byte) : Mem := { m with diff := diffSet m.diff w d }

/-- Bytes written one after another from an address. -/
def Mem.writeRawN (m : Mem) (a : Nat) : List Byte → Mem
  | [] => m
  | v :: vs => (m.writeRaw a v).writeRawN (a + 1) vs

/-- The word corrected in place: what a read-modify-write or a scrub writes back (spec/07 R166, R176). -/
def Mem.correctWord (m : Mem) (w : Nat) : Mem :=
  match m.check w with
  | .corrected p x =>
    let m' := if p ≥ 2 then m.writeRaw (16 * w + (p - 2)) (m.raw (16 * w + (p - 2)) ^^^ x) else m
    m'.setDiff w (0, 0)
  | _ => m

/-- One byte written by a unit that reads, merges and encodes the word again: a proper or correctable word becomes
proper, and an uncorrectable word stays uncorrectable, under its poison code. -/
def Mem.writeByte (m : Mem) (a : Nat) (v : Byte) : Mem :=
  if m.bad (a / 16) then (m.writeRaw a v).setDiff (a / 16) poisonDiff
  else (m.correctWord (a / 16)).writeRaw a v

/-- A run of bytes written byte by byte as `writeByte`. -/
def Mem.writeBytes (m : Mem) (a : Nat) : List Byte → Mem
  | [] => m
  | v :: vs => (m.writeByte a v).writeBytes (a + 1) vs

/-- The `n` words from word `w` given fresh check symbols. -/
def Mem.freshWords (m : Mem) : Nat → Nat → Mem
  | _, 0 => m
  | w, n + 1 => (m.setDiff w (0, 0)).freshWords (w + 1) n

/-- A run of bytes written: every word that it covers whole is new data, and takes fresh check symbols whatever it held
(spec/00 R20, spec/07 R175); a word covered in part is written as `writeByte` writes it. -/
def Mem.writeRange (m : Mem) (a : Nat) (bs : List Byte) : Mem :=
  let w0 := (a + 15) / 16
  (m.freshWords w0 ((a + bs.length) / 16 - w0)).writeBytes a bs

/-- A whole word written with fresh check symbols (spec/00 R20); any earlier fault or poison of the word ends. -/
def Mem.writeWord (m : Mem) (w : Nat) (bs : List Byte) : Mem :=
  (m.writeRawN (16 * w) bs).setDiff w (0, 0)

/-- A word turned into its poison code: its data as stored, its check symbols encoded afresh and 0xA5 added into each
(spec/07 R175). -/
def Mem.poison (m : Mem) (w : Nat) : Mem := m.setDiff w poisonDiff

/-- Is the word already its poison code (spec/07 R175)? -/
def Mem.isPoison (m : Mem) (w : Nat) : Bool := decide (m.diffAt w = poisonDiff)

/-- An upset of symbol `pos` (0: P0, 1: P1, k+2: Dk) of word `w` by `x`: what a fault does to a stored word. -/
def Mem.upset (m : Mem) (w pos : Nat) (x : Byte) : Mem :=
  if pos = 0 then m.setDiff w (chkXor (m.diffAt w) (x, 0))
  else if pos = 1 then m.setDiff w (chkXor (m.diffAt w) (0, x))
  else (m.writeRaw (16 * w + (pos - 2)) (m.raw (16 * w + (pos - 2)) ^^^ x)).setDiff w
    (chkXor (m.diffAt w) (chkOfByte (pos - 2) x))

/-- The words of a byte range that a read finds uncorrectable; only listed differences can be. -/
def Mem.badIn (m : Mem) (a n : Nat) : List Nat :=
  (m.diff.filter (fun p => decide (a / 16 ≤ p.1) && decide (16 * p.1 < a + n)
    && decide (checkWord p.2 = .uncorrectable))).map Prod.fst

/-- The words of a byte range that a read corrects. -/
def Mem.correctedIn (m : Mem) (a n : Nat) : List Nat :=
  (m.diff.filter (fun p => decide (a / 16 ≤ p.1) && decide (16 * p.1 < a + n)
    && (match checkWord p.2 with | .corrected _ _ => true | _ => false))).map Prod.fst

end Sys2Proof.Machine
end

