-- ==== Sys2Proof/Machine/IntegrityTypes.lean ====
section
/-! DEFINITION. Plain data of integrity (spec/11): the wear ledger, captures, cruise and the checked tiles under
recompute. -/

namespace Sys2Proof.Machine

/-- A wear ledger entry (spec/11 Table 11-6). -/
structure WearEntry where
  opsec : W64
  kind : Nat
  cause : Nat
  unit : Nat
  detail : W32
  entry : W32
  deriving DecidableEq, Repr

/-- A failing-operand capture (spec/11 R288). -/
structure Capture where
  stand : Nat
  body : List Byte
  /-- array g -/
  array : Nat
  /-- A and B ranges of the checked tile as held in the core's scratchpad -/
  aBytes : List Byte
  bBytes : List Byte
  /-- the kept input values of the tile -/
  kept : List W64
  original : List W64
  recomputed : List W64
  deriving DecidableEq, Repr

/-- A deviation of one result of a checked tile from what fault-free cells give (spec/04 R102-R104): its row and column in
the tile and the code found.  With outputs or weights stationary, `col = 64` is the checksum of a row, with outputs or
inputs stationary `row = 128` that of a column, both as binary64 codes; with weights or inputs stationary, `row = 129` is a
column sum read back from the stationary registers. -/
structure Deviation where
  row : Nat
  col : Nat
  code : W64
  deriving DecidableEq, Repr

/-- One checked tile at its end (spec/04 R102, R103): the logical core and array, the row and column block of C, the
reduction range of the check, and what a hardware fault, if there was one, left in the accumulators. -/
structure TileCheck where
  core : Nat
  array : Nat
  mt : Nat
  nt : Nat
  k0 : Nat
  k1 : Nat
  devs : List Deviation
  deriving DecidableEq, Repr

/-- A checked tile whose mismatch awaits its recompute (spec/04 R104), with its physical core. -/
structure TileFault where
  stand : Nat
  ticket : Nat
  core : Nat
  tile : TileCheck
  deriving DecidableEq, Repr

/-- A cruise run of a core in progress (spec/11 R291). -/
structure CruiseRun where
  /-- cluster x = 4 × die + cluster, and the position of the core under test -/
  cluster : Nat
  core : Nat
  deriving DecidableEq, Repr

/-- SRAM scrub and spare rows of one store (spec/11 R295): rows spared, and words scrub has written back corrected. -/
structure SramRows where
  spared : List Nat
  scrubbed : List Nat
  deriving DecidableEq, Repr

def SramRows.reset : SramRows := ⟨[], []⟩

end Sys2Proof.Machine
end

