-- ==== Sys2Proof/Machine/Num.lean ====
section
/-! DEFINITION. Number formats and accumulation (spec/03): exact values, the element formats and their codes, rounding
to nearest and stochastic rounding with its Philox generator, block scales and recipes, the format word and its checks,
and binary32 arithmetic outside the arrays. -/

namespace Sys2Proof.Machine

/-- An exact value: a not-a-number, an infinity, or `(-1)^neg * man * 2^exp`.  A zero mantissa is a signed zero.
Decoding never rounds (spec/03 R57), so operands of every engine are held in this form. -/
inductive Val where
  | nan
  | inf (neg : Bool)
  | fin (neg : Bool) (man : Nat) (exp : Int)
  deriving DecidableEq, Repr

/-- Positive zero. -/
def Val.zero : Val := .fin false 0 0

/-- The value one. -/
def Val.one : Val := .fin false 1 0

/-- The exact value of a natural number. -/
def Val.ofNat (n : Nat) : Val := .fin false n 0

/-- The exact value of an integer. -/
def Val.ofInt (n : Int) : Val := .fin (decide (n < 0)) n.natAbs 0

/-- `2 ^ e` exactly. -/
def Val.pow2 (e : Int) : Val := .fin false 1 e

/-- A zero of either sign. -/
def Val.isZero : Val → Bool
  | .fin _ m _ => m == 0
  | _ => false

/-- Not-a-number or infinity. -/
def Val.nonFinite : Val → Bool
  | .fin _ _ _ => false
  | _ => true

def Val.isNan : Val → Bool
  | .nan => true
  | _ => false

/-- The sign bit (false for a not-a-number, whose sign is not preserved: spec/03 R70). -/
def Val.isNeg : Val → Bool
  | .nan => false
  | .inf n => n
  | .fin n _ _ => n

def Val.neg : Val → Val
  | .nan => .nan
  | .inf n => .inf (!n)
  | .fin n m e => .fin (!n) m e

def Val.abs : Val → Val
  | .nan => .nan
  | .inf _ => .inf false
  | .fin _ m e => .fin false m e

/-- The signed integer mantissa at exponent `e'` (which must not exceed the value's own exponent). -/
def alignMan (neg : Bool) (m : Nat) (e e' : Int) : Int :=
  let v : Int := ((m * 2 ^ (e - e').toNat : Nat) : Int)
  if neg then -v else v

/-- The exact sum (spec/03 R70): not-a-numbers spread, opposite infinities give a not-a-number, a zero sum of non-zero
terms is +0, and a sum of zeros is -0 only when both are -0. -/
def Val.add : Val → Val → Val
  | .nan, _ => .nan
  | _, .nan => .nan
  | .inf a, .inf b => if a == b then .inf a else .nan
  | .inf a, _ => .inf a
  | _, .inf b => .inf b
  | .fin n1 m1 e1, .fin n2 m2 e2 =>
    if m1 == 0 && m2 == 0 then .fin (n1 && n2) 0 0
    else if m1 == 0 then .fin n2 m2 e2
    else if m2 == 0 then .fin n1 m1 e1
    else
      let e := min e1 e2
      let v := alignMan n1 m1 e1 e + alignMan n2 m2 e2 e
      if v == 0 then .fin false 0 0 else .fin (decide (v < 0)) v.natAbs e

def Val.sub (a b : Val) : Val := a.add b.neg

/-- The exact product (spec/03 R70, R73): infinity times zero is a not-a-number. -/
def Val.mul : Val → Val → Val
  | .nan, _ => .nan
  | _, .nan => .nan
  | .inf a, .inf b => .inf (a != b)
  | .inf a, .fin n m _ => if m == 0 then .nan else .inf (a != n)
  | .fin n m _, .inf b => if m == 0 then .nan else .inf (n != b)
  | .fin n1 m1 e1, .fin n2 m2 e2 => .fin (n1 != n2) (m1 * m2) (e1 + e2)

/-- Multiplication by a power of two, exact. -/
def Val.scale (v : Val) (k : Int) : Val :=
  match v with
  | .fin n m e => .fin n m (e + k)
  | w => w

/-- The exact sum of a list of terms, starting from its first; the empty sum is +0. -/
def Val.sum : List Val → Val
  | [] => Val.zero
  | v :: vs => vs.foldl Val.add v

/-- Comparison of two finite magnitudes, exact. -/
def magLt (m1 : Nat) (e1 : Int) (m2 : Nat) (e2 : Int) : Bool :=
  let e := min e1 e2
  decide (m1 * 2 ^ (e1 - e).toNat < m2 * 2 ^ (e2 - e).toNat)

/-- Numeric `<`; false when either side is a not-a-number; zeros of both signs are equal. -/
def Val.lt : Val → Val → Bool
  | .nan, _ => false
  | _, .nan => false
  | .inf a, .inf b => a && !b
  | .inf a, _ => a
  | _, .inf b => !b
  | .fin n1 m1 e1, .fin n2 m2 e2 =>
    let e := min e1 e2
    decide (alignMan n1 m1 e1 e < alignMan n2 m2 e2 e)

/-- Numeric equality; false for a not-a-number. -/
def Val.eqv (a b : Val) : Bool := !a.isNan && !b.isNan && !a.lt b && !b.lt a

def Val.le (a b : Val) : Bool := a.lt b || a.eqv b

/-- A binary floating-point element format (spec/03 Table 3-1). `ieee` says that the top exponent field is reserved for
infinities and not-a-numbers; E4M3 is the one format where it is not. -/
structure FltFmt where
  eb : Nat
  mb : Nat
  bias : Nat
  ieee : Bool
  deriving DecidableEq, Repr

/-- spec/03 Table 3-1. -/
def fFP32 : FltFmt := ⟨8, 23, 127, true⟩
/-- spec/03 Table 3-1. -/
def fFP16 : FltFmt := ⟨5, 10, 15, true⟩
/-- spec/03 Table 3-1. -/
def fBF16 : FltFmt := ⟨8, 7, 127, true⟩
/-- spec/03 Table 3-1. -/
def fE4M3 : FltFmt := ⟨4, 3, 7, false⟩
/-- spec/03 Table 3-1. -/
def fE5M2 : FltFmt := ⟨5, 2, 15, true⟩
/-- The long accumulator, 1/11/52 (spec/03 Table 3-1). -/
def fAcc : FltFmt := ⟨11, 52, 1023, true⟩

/-- Width of a code in bits. -/
def FltFmt.bits (f : FltFmt) : Nat := 1 + f.eb + f.mb

/-- Exponent of one quantum of the subnormal range. -/
def FltFmt.qmin (f : FltFmt) : Int := 1 - (f.bias : Int) - (f.mb : Int)

/-- The integer significand of the largest finite value. -/
def FltFmt.fmaxMan (f : FltFmt) : Nat := if f.ieee then 2 ^ (f.mb + 1) - 1 else 2 ^ (f.mb + 1) - 2

/-- The exponent that goes with `fmaxMan`; also the exponent of the spacing u of the top binade (spec/03 R71). -/
def FltFmt.fmaxExp (f : FltFmt) : Int :=
  (2 ^ f.eb : Nat) - (if f.ieee then 2 else 1) - (f.bias : Int) - (f.mb : Int)

/-- The largest finite value. -/
def FltFmt.fmax (f : FltFmt) : Val := .fin false f.fmaxMan f.fmaxExp

/-- The canonical not-a-number code (spec/03 Table 3-1). -/
def FltFmt.nanCode (f : FltFmt) : Nat :=
  if f.ieee then (2 ^ f.eb - 1) * 2 ^ f.mb + 2 ^ (f.mb - 1) else 2 ^ (f.eb + f.mb) - 1

/-- The sign bit's weight. -/
def FltFmt.signBit (f : FltFmt) : Nat := 2 ^ (f.eb + f.mb)

/-- The infinity code; formats without infinities use it only in non-finite blocks (spec/03 Table 3-2: 0x7E for E4M3,
which is their largest finite code). -/
def FltFmt.infCode (f : FltFmt) : Nat :=
  if f.ieee then (2 ^ f.eb - 1) * 2 ^ f.mb else 2 ^ (f.eb + f.mb) - 2

/-- Exact decoding of a code, gradual underflow included (spec/03 R55-R57). -/
def FltFmt.decode (f : FltFmt) (code : Nat) : Val :=
  let s := (code / f.signBit) % 2 == 1
  let e := (code / 2 ^ f.mb) % 2 ^ f.eb
  let m := code % 2 ^ f.mb
  if f.ieee && e == 2 ^ f.eb - 1 then (if m == 0 then .inf s else .nan)
  else if !f.ieee && e == 2 ^ f.eb - 1 && m == 2 ^ f.mb - 1 then .nan
  else if e == 0 then .fin s m f.qmin
  else .fin s (m + 2 ^ f.mb) ((e : Int) - (f.bias : Int) - (f.mb : Int))

/-- Encoding of a magnitude that a rounding of this format returned: `man` is below `2^(mb+1)` or equal to it, and `exp`
is `qmin` wherever `man` is below `2^mb`. -/
def FltFmt.encodeMag (f : FltFmt) (man : Nat) (exp : Int) : Nat :=
  if man < 2 ^ f.mb then man
  else ((exp - f.qmin).toNat + 1) * 2 ^ f.mb + (man - 2 ^ f.mb)

/-- The quantum exponent at which a magnitude is rounded to `p` bits with least quantum `qmin`. -/
def quantum (man : Nat) (exp : Int) (p : Nat) (qmin : Int) : Int :=
  max (exp + (Nat.log2 man : Int) + 1 - (p : Int)) qmin

/-- Magnitude floor at a quantum: the count of quanta, and the remainder as numerator over a power of two. -/
def floorAt (man : Nat) (exp q : Int) : Nat × Nat × Nat :=
  if q ≤ exp then (man * 2 ^ (exp - q).toNat, 0, 1)
  else
    let d := 2 ^ (q - exp).toNat
    (man / d, man % d, d)

/-- Round to nearest, ties to even, of a non-zero magnitude to `p` bits (spec/03 R78). -/
def rneMag (man : Nat) (exp : Int) (p : Nat) (qmin : Int) : Nat × Int :=
  let q := quantum man exp p qmin
  let (lo, r, d) := floorAt man exp q
  let up := decide (2 * r > d) || (decide (2 * r = d) && decide (lo % 2 = 1) && decide (r ≠ 0))
  (if up then lo + 1 else lo, q)

/-- Round to nearest with an unlimited exponent at the top: the run and accumulator roundings (spec/03 R74, R75), which
neither overflow nor underflow. -/
def Val.roundBits (p : Nat) (qmin : Int) : Val → Val
  | .fin n m e => if m == 0 then .fin n 0 0 else let (m', e') := rneMag m e p qmin; .fin n m' e'
  | v => v

/-- The 24-bit rounding of a run (spec/03 R74). -/
def Val.round24 (v : Val) : Val := v.roundBits 24 (-1074)

/-- The 53-bit rounding of the long accumulator (spec/03 R75). -/
def Val.round53 (v : Val) : Val := v.roundBits 53 (-1074)

/-- R71's overflow test for a finite magnitude: rounding among the finite magnitudes and fmax + u gives fmax + u. -/
def FltFmt.overflows (f : FltFmt) (man : Nat) (exp : Int) : Bool :=
  -- compare |x| with fmax + u/2, that is (2*fmaxMan + 1) * 2^(fmaxExp-1)
  let hm := 2 * f.fmaxMan + 1
  let he := f.fmaxExp - 1
  if magLt hm he man exp then true
  else if magLt man exp hm he then false
  else f.fmaxMan % 2 == 1

/-- A magnitude above the largest finite one. -/
def FltFmt.aboveMax (f : FltFmt) (man : Nat) (exp : Int) : Bool := magLt f.fmaxMan f.fmaxExp man exp

/-- Stochastic rounding of a magnitude not above fmax with the 16-bit draw `u` (spec/03 R79). -/
def srMag (man : Nat) (exp : Int) (p : Nat) (qmin : Int) (u : Nat) : Nat × Int :=
  let q := quantum man exp p qmin
  let (lo, r, d) := floorAt man exp q
  let t := r * 65536 / d
  (if decide (t + u ≥ 65536) then lo + 1 else lo, q)

/-- One rounding of a finite magnitude that does not overflow, into the format (spec/03 R78, R79; a magnitude above fmax
that does not overflow is fmax). `draw` is `none` for round to nearest. -/
def FltFmt.roundMag (f : FltFmt) (man : Nat) (exp : Int) (draw : Option Nat) : Nat × Int :=
  if f.aboveMax man exp then (f.fmaxMan, f.fmaxExp)
  else match draw with
    | none => rneMag man exp (f.mb + 1) f.qmin
    | some u => srMag man exp (f.mb + 1) f.qmin u

/-- The code of a value rounded once into the format, an overflowing value giving the infinity of its sign. Used for
binary32 results and for the long accumulator, whose overflow rule is IEEE 754's (spec/03 R82). -/
def FltFmt.encode (f : FltFmt) (v : Val) : Nat :=
  match v with
  | .nan => f.nanCode
  | .inf n => f.infCode + (if n then f.signBit else 0)
  | .fin n m e =>
    (if n then f.signBit else 0) +
      (if m == 0 then 0
       else if f.overflows m e then f.infCode
       else let (m', e') := f.roundMag m e none; f.encodeMag m' e')

/-- One binary32 rounding, to nearest, ties to even (spec/03 R82). -/
def Val.r32 (v : Val) : Val :=
  match v with
  | .fin n m e =>
    if m == 0 then .fin n 0 0
    else if fFP32.overflows m e then .inf n
    else let (m', e') := fFP32.roundMag m e none; .fin n m' e'
  | w => w

/-- Binary32 operations with one rounding (spec/03 R82). -/
def add32 (a b : Val) : Val := (a.add b).r32
def sub32 (a b : Val) : Val := (a.sub b).r32
def mul32 (a b : Val) : Val := (a.mul b).r32
/-- The fused multiply-add, one rounding (spec/03 R82). -/
def fma32 (a b c : Val) : Val := ((a.mul b).add c).r32

/-- A quotient with 64 bits beyond the divisor and a sticky bit: rounding it gives the rounding of the exact quotient
for every precision up to 60 bits. -/
def quotSticky (m1 : Nat) (e1 : Int) (m2 : Nat) (e2 : Int) : Nat × Int :=
  let k := 64 + Nat.log2 m2 + 1
  let a := m1 * 2 ^ k
  (2 * (a / m2) + (if a % m2 == 0 then 0 else 1), e1 - e2 - (k : Int) - 1)

/-- Binary32 division by IEEE 754 (spec/03 R70, R82): 0/0 and inf/inf are not-a-numbers, x/0 is an infinity. -/
def div32 : Val → Val → Val
  | .nan, _ => .nan
  | _, .nan => .nan
  | .inf _, .inf _ => .nan
  | .inf a, .fin n _ _ => .inf (a != n)
  | .fin n _ _, .inf b => .fin (n != b) 0 0
  | .fin n1 m1 e1, .fin n2 m2 e2 =>
    if m2 == 0 then (if m1 == 0 then .nan else .inf (n1 != n2))
    else if m1 == 0 then .fin (n1 != n2) 0 0
    else let (m, e) := quotSticky m1 e1 m2 e2; (Val.fin (n1 != n2) m e).r32

/-- Integer square root with a sticky bit below at least 64 result bits. -/
def sqrtSticky (m : Nat) (e : Int) : Nat × Int :=
  -- make the exponent even and the radicand at least 130 bits long
  let m0 := if e % 2 == 0 then m else 2 * m
  let e0 := if e % 2 == 0 then e else e - 1
  let a := m0 * 2 ^ 140
  let r := Nat.sqrt a
  (2 * r + (if r * r == a then 0 else 1), (e0 - 140) / 2 - 1)

/-- Binary32 square root by IEEE 754 (spec/03 R70, R82): a negative operand gives a not-a-number, -0 gives -0. -/
def sqrt32 : Val → Val
  | .nan => .nan
  | .inf n => if n then .nan else .inf false
  | .fin n m e =>
    if m == 0 then .fin n 0 0
    else if n then .nan
    else let (m', e') := sqrtSticky m e; (Val.fin false m' e').r32

/-- IEEE 754 maximum with a not-a-number spreading (spec/03 R70: a not-a-number in any operand gives one). -/
def Val.max (a b : Val) : Val :=
  if a.isNan || b.isNan then .nan
  else if a.lt b then b
  else if b.lt a then a
  else if a.isNeg then b else a

def Val.min (a b : Val) : Val :=
  if a.isNan || b.isNan then .nan
  else if a.lt b then a
  else if b.lt a then b
  else if a.isNeg then a else b

/-- The binary32 code of a value. -/
def Val.code32 (v : Val) : W32 := BitVec.ofNat 32 (fFP32.encode v)

/-- The value of a binary32 code. -/
def val32 (w : W32) : Val := fFP32.decode w.toNat

/-- The long accumulator's 64-bit code of a value (spec/03 Table 3-1), used for kept sets and exported sums. -/
def Val.codeAcc (v : Val) : W64 := BitVec.ofNat 64 (fAcc.encode v)

def valAcc (w : W64) : Val := fAcc.decode w.toNat

/-! ### Stochastic rounding's generator (spec/03 R80) -/

/-- What keys and counts a draw (spec/03 R80). -/
structure SrCtx where
  seed : W64
  step : W64
  seq : W32
  stream : W16
  deriving DecidableEq, Repr

/-- One Philox round on `(ctr, key)` (spec/03 R80). -/
def philoxRound (c : W32 × W32 × W32 × W32) (k : W32 × W32) : W32 × W32 × W32 × W32 :=
  let p0 := 0xd2511f53 * c.1.toNat
  let p1 := 0xcd9e8d57 * c.2.2.1.toNat
  (BitVec.ofNat 32 (p1 / 2 ^ 32) ^^^ c.2.1 ^^^ k.1, BitVec.ofNat 32 p1,
   BitVec.ofNat 32 (p0 / 2 ^ 32) ^^^ c.2.2.2 ^^^ k.2, BitVec.ofNat 32 p0)

/-- The key schedule's step (spec/03 R80). -/
def philoxKey (k : W32 × W32) : W32 × W32 := (k.1 + 0x9e3779b9#32, k.2 + 0xbb67ae85#32)

/-- `n` rounds of Philox 4x32 (spec/03 R80). -/
def philoxN : Nat → W32 × W32 × W32 × W32 → W32 × W32 → W32 × W32 × W32 × W32
  | 0, c, _ => c
  | n + 1, c, k => philoxN n (philoxRound c k) (philoxKey k)

/-- The ten rounds of spec/03 R80. -/
def philox (c : W32 × W32 × W32 × W32) (k : W32 × W32) : W32 × W32 × W32 × W32 := philoxN 10 c k

/-- The 128 output bits with out[0] in bits [31:0]. -/
def philoxBits (c : W32 × W32 × W32 × W32) (k : W32 × W32) : Nat :=
  let o := philox c k
  o.1.toNat + o.2.1.toNat * 2 ^ 32 + o.2.2.1.toNat * 2 ^ 64 + o.2.2.2.toNat * 2 ^ 96

/-- The 16-bit draw of the element with linear index `i` (spec/03 R80). -/
def srDraw (x : SrCtx) (i : Nat) : Nat :=
  let h := i / 8
  let c0 := BitVec.ofNat 32 h
  let c1 := BitVec.ofNat 32 ((h / 2 ^ 32) % 2 ^ 16 + x.stream.toNat * 2 ^ 16)
  let b := philoxBits (c0, c1, x.seq, BitVec.ofNat 32 x.step.toNat)
    (BitVec.ofNat 32 x.seed.toNat, BitVec.ofNat 32 (x.seed.toNat / 2 ^ 32))
  (b / 2 ^ (16 * (i % 8))) % 2 ^ 16

/-! ### The format word (spec/03 R66, R67) -/

/-- Element formats of a format word (spec/03 Table 3-3); `bad` is every other code. -/
inductive ElemFmt where
  | fp32 | fp16 | bf16 | e4m3 | e5m2 | intp | bad
  deriving DecidableEq, Repr

/-- The format word's fields (spec/03 Table 3-3). -/
structure FmtWord where
  fmt : ElemFmt
  block : Nat      -- B: 16, 32, 64 or 128
  blockCode : Nat
  scaled : Bool
  zp : Bool
  wbits : Nat      -- W - 1
  kind : Nat
  round : Bool
  sat : Bool
  stream : W16
  deriving DecidableEq, Repr

def elemFmtOf (n : Nat) : ElemFmt :=
  match n with
  | 0 => .fp32
  | 1 => .fp16
  | 2 => .bf16
  | 3 => .e4m3
  | 4 => .e5m2
  | 5 => .intp
  | _ => .bad

/-- The format word laid out as spec/03 Table 3-3. -/
def fmtWordOf (w : W32) : FmtWord :=
  let n := w.toNat
  { fmt := elemFmtOf (n % 16)
    blockCode := (n / 16) % 4
    block := 16 * 2 ^ ((n / 16) % 4)
    scaled := (n / 64) % 2 == 1
    zp := (n / 128) % 2 == 1
    wbits := (n / 256) % 8
    kind := (n / 2048) % 8
    round := (n / 16384) % 2 == 1
    sat := (n / 32768) % 2 == 1
    stream := BitVec.ofNat 16 (n / 65536) }

/-- The floating-point format of an element format; INTP and invalid codes have none and answer FP32. -/
def ElemFmt.flt : ElemFmt → FltFmt
  | .fp16 => fFP16
  | .bf16 => fBF16
  | .e4m3 => fE4M3
  | .e5m2 => fE5M2
  | _ => fFP32

/-- Bits of one element; an INTP element counts its W planes (spec/03 R64). -/
def FmtWord.elemBits (f : FmtWord) : Nat :=
  match f.fmt with
  | .fp32 => 32
  | .fp16 => 16
  | .bf16 => 16
  | .e4m3 => 8
  | .e5m2 => 8
  | .intp => f.wbits + 1
  | .bad => 32

def ElemFmt.isFp8 : ElemFmt → Bool
  | .e4m3 => true
  | .e5m2 => true
  | _ => false

/-- R67's FORMAT_INVALID conditions; `out` says that the operand is written. -/
def FmtWord.invalid (f : FmtWord) (out : Bool) : Bool :=
  decide (f.fmt = .bad) || decide (f.kind ≥ 5)
  || (!f.scaled && (f.fmt.isFp8 || decide (f.fmt = .intp)))
  || (f.scaled && decide (f.fmt = .fp32))
  || ((f.zp || decide (f.wbits ≠ 0)) && decide (f.fmt ≠ .intp))
  || (decide (f.blockCode ≠ 0) && !f.scaled)
  || (decide (f.fmt = .intp) && decide (f.wbits = 0) && !f.zp)
  || (!out && (decide (f.kind ≠ 0) || f.round || f.sat || decide (f.stream ≠ 0)))

/-- Floating-point formats accepted by the vector unit, the Batten engine and array outputs (spec/03 Table 3-4). -/
def ElemFmt.isFloat : ElemFmt → Bool
  | .fp32 => true
  | .fp16 => true
  | .bf16 => true
  | .e4m3 => true
  | .e5m2 => true
  | _ => false

/-- Formats accepted by array operands and landing-engine parameters (spec/03 Table 3-4). -/
def ElemFmt.isNarrow : ElemFmt → Bool
  | .fp16 => true
  | .bf16 => true
  | .e4m3 => true
  | .e5m2 => true
  | _ => false

/-! ### Reading elements (spec/03 R57-R65) -/

/-- The value of a floating-point code in a block with scale byte `E` (`none`: unscaled). -/
def decodeElem (f : FltFmt) (scale : Option Nat) (code : Nat) : Val :=
  match scale with
  | none => f.decode code
  | some e =>
    if e == 255 then
      -- Table 3-2
      if code == f.infCode then .inf false
      else if code == f.infCode + f.signBit then .inf true
      else .nan
    else (f.decode code).scale ((e : Int) - 127)

/-- The value of an INTP code (spec/03 R63). -/
def decodeIntp (w : Nat) (zp : Option Nat) (scale : Nat) (q : Nat) : Val :=
  if scale == 255 then .nan
  else
    let v : Int := match zp with
      | some z => (q : Int) - (z : Int)
      | none => if q < 2 ^ (w - 1) then (q : Int) else (q : Int) - ((2 ^ w : Nat) : Int)
    (Val.ofInt v).scale ((scale : Int) - 127)

/-- What a binary32 consumer uses of a decoded value, and whether FMT_DECODE_OVERFLOW counts (spec/03 R57). -/
def toConsumer32 (v : Val) : Val × Nat :=
  match v with
  | .fin n m e => if fFP32.aboveMax m e then (.inf n, 1) else (v, 0)
  | w => (w, 0)

/-! ### Writing elements and blocks (spec/03 R62, R68-R72) -/

/-- What a writer adds to the counters of spec/03 Table 3-6. -/
structure WrCount where
  nonfinite : Nat
  overflow : Nat
  saturated : Nat
  floor : Nat
  decode : Nat
  deriving DecidableEq, Repr

def WrCount.zero : WrCount := ⟨0, 0, 0, 0, 0⟩

def WrCount.add (a b : WrCount) : WrCount :=
  ⟨a.nonfinite + b.nonfinite, a.overflow + b.overflow, a.saturated + b.saturated, a.floor + b.floor,
    a.decode + b.decode⟩

/-- A recipe of spec/03 Table 3-5: its rule, its byte E and its H. -/
structure Recipe where
  rule : Nat
  e : Nat
  h : Nat
  deriving DecidableEq, Repr

/-- The rule STANDARD, which Ibdex writes where the image names no recipe (spec/03 R69). -/
def Recipe.standard : Recipe := ⟨0, 0, 0⟩

/-- One element written unscaled (spec/03 R71, R78, R79): its code and what it counts. -/
def writeElem (f : FltFmt) (sat : Bool) (draw : Option Nat) (v : Val) : Nat × WrCount :=
  match v with
  | .nan => (f.nanCode, WrCount.zero)
  | .inf n => (f.infCode + (if n then f.signBit else 0), WrCount.zero)
  | .fin n m e =>
    let sg := if n then f.signBit else 0
    if m == 0 then (sg, WrCount.zero)
    else if f.overflows m e then
      if sat then (sg + f.encodeMag f.fmaxMan f.fmaxExp, { WrCount.zero with saturated := 1 })
      else (sg + f.infCode, { WrCount.zero with overflow := 1 })
    else let (m', e') := f.roundMag m e draw; (sg + f.encodeMag m' e', WrCount.zero)

/-- The larger of two finite magnitudes, as (mantissa, exponent). -/
def magMax (a b : Nat × Int) : Nat × Int := if magLt a.1 a.2 b.1 b.2 then b else a

/-- The largest magnitude among the finite values of a block (spec/03 R68). -/
def blockMag : List Val → Nat × Int
  | [] => (0, 0)
  | .fin _ m e :: vs => magMax (m, e) (blockMag vs)
  | _ :: vs => blockMag vs

/-- The smallest integer e with `m <= fmax * 2^e`, for non-zero m (spec/03 R68). -/
def scaleExp (f : FltFmt) (m : Nat × Int) : Int :=
  let e0 := ((Nat.log2 m.1 : Nat) : Int) + m.2 - (((Nat.log2 f.fmaxMan : Nat) : Int) + f.fmaxExp)
  if magLt f.fmaxMan (f.fmaxExp + e0) m.1 m.2 then e0 + 1 else e0

/-- R68's choice: the exponent before the overflow test, and whether the clamp at -127 counts (R72). -/
def chooseExp (f : FltFmt) (m : Nat × Int) : Int × Nat :=
  if m.1 == 0 then (-127, 0)
  else
    let e := scaleExp f m
    if e < -127 then (-127, 1) else (e, 0)

/-- A non-finite block (spec/03 R62, Table 3-2): each infinity keeps its code, everything else is canonical
not-a-number. -/
def nonfiniteCode (f : FltFmt) (v : Val) : Nat :=
  match v with
  | .inf n => f.infCode + (if n then f.signBit else 0)
  | _ => f.nanCode

/-- One element of a block with a finite scale 2^e; a scaled magnitude above fmax is held at fmax. -/
def scaledCode (f : FltFmt) (e : Int) (draw : Option Nat) (v : Val) : Nat :=
  match v with
  | .fin n m x =>
    let sg := if n then f.signBit else 0
    if m == 0 then sg
    else let (m', e') := f.roundMag m (x - e) draw; sg + f.encodeMag m' e'
  | w => nonfiniteCode f w

/-- Does the element exceed fmax at scale 2^e (spec/03 Table 3-5, FIXED)? -/
def exceedsAt (f : FltFmt) (e : Int) (v : Val) : Bool :=
  match v with
  | .fin _ m x => decide (m ≠ 0) && f.aboveMax m (x - e)
  | _ => false

/-- Does the element overflow a scaled output: R68 would need an exponent above 127 for it (spec/03 R68, R71). -/
def overflows127 (f : FltFmt) (v : Val) : Bool := exceedsAt f 127 v

/-- A block whose elements, paired with their stochastic draws, are written under a chosen exponent. -/
def writeAt (f : FltFmt) (e : Int) (vs : List (Val × Option Nat)) : List Nat :=
  vs.map (fun p => scaledCode f e p.2 p.1)

/-- A block is written as non-finite (spec/03 R62). -/
def writeNonfinite (f : FltFmt) (vs : List Val) (ovf : Nat) : Nat × List Nat × WrCount :=
  (255, vs.map (nonfiniteCode f), { WrCount.zero with nonfinite := 1, overflow := ovf })

/-- An overflowing element becomes the infinity of its sign (spec/03 R71). -/
def overflowToInf (f : FltFmt) (v : Val) : Val := if overflows127 f v then .inf v.isNeg else v

/-- A scaled block whose exponent under R68 (with HEADROOM's or FLOOR's adjustment) is `e`, `fl` counting R72. -/
def writeChosen (f : FltFmt) (sat : Bool) (e : Int) (fl : Nat) (vs : List (Val × Option Nat)) :
    Nat × List Nat × WrCount :=
  if e > 127 then
    let n := (vs.filter (fun p => overflows127 f p.1)).length
    if n == 0 || sat then (254, writeAt f 127 vs, { WrCount.zero with saturated := n, floor := fl })
    else writeNonfinite f (vs.map (fun p => overflowToInf f p.1)) n
  else ((e + 127).toNat, writeAt f e vs, { WrCount.zero with floor := fl })

/-- A scaled block written under its kind's recipe (spec/03 R62, R68, R69, R71, R72): scale byte, codes, counts.  No rule excludes a
recipe byte E = 0xFF.  DESIGN CHOICE (log entry 17): FIXED then writes the scale byte 0xFF beside codes of finite elements at 2^128 and
counts no non-finite block, and FLOOR's exponent 128 is held at 127, scale byte 0xFE. -/
def writeBlock (f : FltFmt) (sat : Bool) (r : Recipe) (vs : List (Val × Option Nat)) :
    Nat × List Nat × WrCount :=
  if vs.any (fun p => p.1.nonFinite) then writeNonfinite f (vs.map Prod.fst) 0
  else
    let (e, fl) := chooseExp f (blockMag (vs.map Prod.fst))
    match r.rule with
    | 1 =>
      let ef := (r.e : Int) - 127
      (r.e, writeAt f ef vs,
        { WrCount.zero with saturated := (vs.filter (fun p => exceedsAt f ef p.1)).length })
    | 2 => writeChosen f sat (if e > 127 then e else min (e + (r.h : Int)) 127) fl vs
    | 3 => writeChosen f sat (max e ((r.e : Int) - 127)) fl vs
    | _ => writeChosen f sat e fl vs

end Sys2Proof.Machine
end

