-- ==== Sys2Proof/Machine/Layout.lean ====
section
/-! DEFINITION. Shingle layouts (spec/06 R130-R139): where every element, scale byte and zero point of a tensor lies, its
extent, and the bytes a writer of the whole tensor stores. -/

namespace Sys2Proof.Machine

/-! ### Byte-order helpers (spec/00 Table 0-4: little-endian) -/

/-- The number held by bytes, the first least significant. -/
def leNat : List Byte → Nat
  | [] => 0
  | b :: bs => b.toNat + 256 * leNat bs

/-- `n` bytes of a number, least significant first. -/
def natLe : Nat → Nat → List Byte
  | 0, _ => []
  | n + 1, v => BitVec.ofNat 8 v :: natLe n (v / 256)

/-- `n` bytes of a packet from offset `o`, as a number; bytes beyond its end count as zero. -/
def fld (bs : List Byte) (o n : Nat) : Nat := leNat ((bs.drop o).take n)

/-- Bits [hi:lo] of a number. -/
def bits (v hi lo : Nat) : Nat := (v / 2 ^ lo) % 2 ^ (hi + 1 - lo)

/-- Bit n of a number. -/
def bit (v n : Nat) : Bool := (v / 2 ^ n) % 2 == 1

/-- The smallest multiple of `m` not below `n`. -/
def roundUp (n m : Nat) : Nat := (n + m - 1) / m * m

/-- `⌈n/m⌉`. -/
def ceilDiv (n m : Nat) : Nat := (n + m - 1) / m

/-- A run of `n` addresses from `a` cut at every multiple of `b`, as (address, length); `f` bounds the pieces. -/
def cuts (b : Nat) : Nat → Nat → Nat → List (Nat × Nat)
  | 0, _, _ => []
  | f + 1, a, n => if n = 0 then [] else
      let k := min n (b - a % b)
      (a, k) :: cuts b f (a + k) (n - k)

/-- Is `x` a valid value with at most `k` low bits; used for reserved-field checks. -/
def isZeroRange (bs : List Byte) (o n : Nat) : Bool := ((bs.drop o).take n).all (· == 0)

/-! ### Descriptors -/

/-- The layouts of spec/06 Table 6-1. -/
inductive Layout where
  | shingle | piCol | piRow | linear
  deriving DecidableEq, Repr

/-- A tensor descriptor (spec/06 Table 6-1), with the two-axis operands of the arrays as the special case of R132. -/
structure Desc where
  fmtRaw : W32
  fmt : FmtWord
  space : Nat
  layout : Layout
  rowax : Nat
  cluster : Nat
  core : Nat
  table : Nat
  addr : Nat
  e0 : Nat
  e1 : Nat
  e2 : Nat
  e3 : Nat
  deriving DecidableEq, Repr

def layoutOf (n : Nat) : Layout :=
  match n with
  | 0 => .shingle
  | 1 => .piCol
  | 2 => .piRow
  | _ => .linear

/-- The descriptor at offset `o` of a packet (spec/06 R130). -/
def descOf (p : List Byte) (o : Nat) : Desc :=
  let b4 := fld p (o + 4) 1
  { fmtRaw := BitVec.ofNat 32 (fld p o 4)
    fmt := fmtWordOf (BitVec.ofNat 32 (fld p o 4))
    space := bits b4 2 0
    layout := layoutOf (bits b4 4 3)
    rowax := bits b4 6 5
    cluster := bits (fld p (o + 5) 1) 6 0
    core := bits (fld p (o + 6) 1) 1 0
    table := bits (fld p (o + 7) 1) 3 0
    addr := bits (fld p (o + 8) 8) 39 0
    e0 := bits (fld p (o + 16) 4) 23 0
    e1 := bits (fld p (o + 20) 4) 23 0
    e2 := bits (fld p (o + 24) 4) 23 0
    e3 := bits (fld p (o + 28) 4) 23 0 }

/-- Every reserved field of the descriptor at offset `o` is zero (spec/06 R130). -/
def descReservedOk (p : List Byte) (o : Nat) : Bool :=
  !bit (fld p (o + 4) 1) 7 && !bit (fld p (o + 5) 1) 7 && (bits (fld p (o + 6) 1) 7 2 == 0)
    && (bits (fld p (o + 7) 1) 7 4 == 0) && (bits (fld p (o + 8) 8) 63 40 == 0)
    && [16, 20, 24, 28].all (fun k => fld p (o + k + 3) 1 == 0)

/-- The two-axis descriptor of an array, vector or Batten operand (spec/06 R132): `rows` by `cols`, in a scratchpad. -/
def desc2 (w : W32) (addr rows cols : Nat) (layout : Layout) : Desc :=
  { fmtRaw := w, fmt := fmtWordOf w, space := 2, layout := layout, rowax := 1, cluster := 0, core := 0, table := 0,
    addr := addr, e0 := cols, e1 := rows, e2 := 1, e3 := 1 }

/-- Bytes per element; an INTP element has none of its own (its planes are bits). -/
def Desc.w (d : Desc) : Nat := d.fmt.elemBits / 8

/-- The extent of axis `k`. -/
def Desc.ext (d : Desc) (k : Nat) : Nat :=
  match k with
  | 0 => d.e0
  | 1 => d.e1
  | 2 => d.e2
  | _ => d.e3

/-- The count of elements. -/
def Desc.count (d : Desc) : Nat := d.e0 * d.e1 * d.e2 * d.e3

/-- The count of rows (spec/06 R132). -/
def Desc.rows (d : Desc) : Nat := d.e1 * d.e2 * d.e3

/-- Column tiles, padded for B = 128 (spec/03 R60) and for PI_COL (spec/06 R137). -/
def Desc.t0 (d : Desc) : Nat :=
  let t := ceilDiv d.e0 64
  if d.layout = .piCol then roundUp t 4
  else if d.fmt.scaled && d.fmt.block == 128 then roundUp t 2 else t

/-- Row tiles, padded for PI_ROW (spec/06 R137). -/
def Desc.tr (d : Desc) : Nat :=
  let t := ceilDiv (d.ext d.rowax) 64
  if d.layout = .piRow then roundUp t 4 else t

/-- The length of axis `k` (1 to 3) in the shingle tuple: row tiles for ROWAX (spec/06 R133). -/
def Desc.tupLen (d : Desc) (k : Nat) : Nat := if k = d.rowax then d.tr else d.ext k

/-- The shingle count N (spec/06 R135, R137). -/
def Desc.shingles (d : Desc) : Nat := d.tupLen 3 * d.tupLen 2 * d.tupLen 1 * d.t0

/-- Bytes of one shingle's data, S (spec/06 R133). -/
def Desc.shBytes (d : Desc) : Nat := d.fmt.elemBits * 512

/-- A position in the shingle grid and inside a shingle. -/
structure Pos where
  n : Nat       -- shingle number in the order of R133
  dn : Nat      -- shingle number in data order (differs under PI_ROW only)
  r : Nat
  c : Nat
  deriving DecidableEq, Repr

/-- The position of a logical element (spec/06 R133, R137); `e1`, `e2`, `e3` may run into the padding of ROWAX and `e0`
into that of axis 0. -/
def Desc.pos (d : Desc) (e0 e1 e2 e3 : Nat) : Pos :=
  let er := if d.rowax = 1 then e1 else if d.rowax = 2 then e2 else e3
  let i1 := if d.rowax = 1 then e1 / 64 else e1
  let i2 := if d.rowax = 2 then e2 / 64 else e2
  let i3 := if d.rowax = 3 then e3 / 64 else e3
  let ct := e0 / 64
  let n := ((i3 * d.tupLen 2 + i2) * d.tupLen 1 + i1) * d.t0 + ct
  let q := (er / 64) % 4
  let j1 := if d.rowax = 1 then i1 / 4 else i1
  let j2 := if d.rowax = 2 then i2 / 4 else i2
  let j3 := if d.rowax = 3 then i3 / 4 else i3
  let l1 := if d.rowax = 1 then d.tr / 4 else d.e1
  let l2 := if d.rowax = 2 then d.tr / 4 else d.e2
  let dn := if d.layout = .piRow then (((j3 * l2 + j2) * l1 + j1) * d.t0 + ct) * 4 + q else n
  { n := n, dn := dn, r := er % 64, c := e0 % 64 }

/-- The offset of byte `o` of shingle `dn`'s data from ADDR (spec/06 R133, R137); `plane` is the bytes of one plane for
INTP and of the whole shingle otherwise. -/
def Desc.dataOff (d : Desc) (dn o : Nat) : Nat :=
  match d.layout with
  | .piCol | .piRow =>
    let pl := if d.fmt.fmt = .intp then 512 else d.shBytes
    let p := o / pl
    let wd := (o % pl) / 16
    (dn / 4) * (4 * d.shBytes) + p * (4 * pl) + (4 * wd + dn % 4) * 16 + o % 16
  | _ => dn * d.shBytes + o

/-- The offset from ADDR of a floating-point element (spec/06 R133, R137, R139). -/
def Desc.elemOff (d : Desc) (e0 e1 e2 e3 : Nat) : Nat :=
  match d.layout with
  | .linear => d.w * (((e3 * d.e2 + e2) * d.e1 + e1) * d.e0 + e0)
  | _ => let p := d.pos e0 e1 e2 e3; d.dataOff p.dn ((64 * p.r + p.c) * d.w)

/-- The offset and bit of plane `p` of an INTP element (spec/06 R134, R137). -/
def Desc.planeOff (d : Desc) (p e0 e1 e2 e3 : Nat) : Nat × Nat :=
  let q := d.pos e0 e1 e2 e3
  (d.dataOff q.dn ((d.fmt.wbits - p) * 512 + 8 * q.r + q.c / 8), q.c % 8)

/-- Bytes of the data area. -/
def Desc.dataBytes (d : Desc) : Nat :=
  match d.layout with
  | .linear => d.count * d.w
  | _ => d.shingles * d.shBytes

/-- Bytes of one area of scale bytes or zero points (spec/06 R135). -/
def Desc.areaBytes (d : Desc) : Nat := if d.fmt.scaled then d.shingles * (4096 / d.fmt.block) else 0

/-- The offset from ADDR of the byte for the block of position `p` in an area that starts at `base` (spec/06 R135). -/
def Desc.blockOff (d : Desc) (base : Nat) (p : Pos) : Nat :=
  if d.fmt.block = 128 then base + 32 * (p.n / 2 * 2) + p.r
  else base + p.n * (4096 / d.fmt.block) + p.r * (64 / d.fmt.block) + p.c / d.fmt.block

/-- Where the scale area starts. -/
def Desc.scaleBase (d : Desc) : Nat := d.dataBytes

/-- Where the zero-point area starts (spec/06 R135). -/
def Desc.zpBase (d : Desc) : Nat := roundUp (d.dataBytes + d.areaBytes) 512

/-- The extent in bytes, as every range and overlap check covers it (spec/06 R135, R139). -/
def Desc.extent (d : Desc) : Nat :=
  if d.layout = .linear then roundUp d.dataBytes 512
  else if d.fmt.scaled && d.fmt.zp then roundUp (d.zpBase + d.areaBytes) 512
  else roundUp (d.dataBytes + d.areaBytes) 512

/-- The offset of an element's scale byte. -/
def Desc.scaleOff (d : Desc) (e0 e1 e2 e3 : Nat) : Nat := d.blockOff d.scaleBase (d.pos e0 e1 e2 e3)

/-- The offset of an element's zero point. -/
def Desc.zpOff (d : Desc) (e0 e1 e2 e3 : Nat) : Nat := d.blockOff d.zpBase (d.pos e0 e1 e2 e3)

/-- Does logical element (e0, e1, e2, e3) exist? -/
def Desc.inside (d : Desc) (e0 e1 e2 e3 : Nat) : Bool :=
  decide (e0 < d.e0) && decide (e1 < d.e1) && decide (e2 < d.e2) && decide (e3 < d.e3)

/-- The logical index of R132. -/
def Desc.lin (d : Desc) (e0 e1 e2 e3 : Nat) : Nat := ((e3 * d.e2 + e2) * d.e1 + e1) * d.e0 + e0

/-- The coordinates of a logical index. -/
def Desc.unlin (d : Desc) (i : Nat) : Nat × Nat × Nat × Nat :=
  (i % d.e0, i / d.e0 % d.e1, i / d.e0 / d.e1 % d.e2, i / d.e0 / d.e1 / d.e2)

/-- The INTP code of an element, its planes read through `rd` (an offset's byte). -/
def Desc.intpCode (d : Desc) (rd : Nat → Byte) (e0 e1 e2 e3 : Nat) : Nat :=
  (List.range (d.fmt.wbits + 1)).foldl (fun acc p =>
    let o := d.planeOff p e0 e1 e2 e3
    acc + (if (rd o.1).getLsbD o.2 then 2 ^ p else 0)) 0

/-- The raw code of an element. -/
def Desc.code (d : Desc) (rd : Nat → Byte) (e0 e1 e2 e3 : Nat) : Nat :=
  if d.fmt.fmt = .intp then d.intpCode rd e0 e1 e2 e3
  else
    let o := d.elemOff e0 e1 e2 e3
    leNat ((List.range d.w).map (fun k => rd (o + k)))

/-- The exact value of a logical element, `rd` giving the delivered byte at an offset from ADDR; pad positions read +0
(spec/03 R57, spec/06 R136). -/
def Desc.value (d : Desc) (rd : Nat → Byte) (e0 e1 e2 e3 : Nat) : Val :=
  if !d.inside e0 e1 e2 e3 then Val.zero
  else if d.fmt.fmt = .intp then
    let z := if d.fmt.zp then some ((rd (d.zpOff e0 e1 e2 e3)).toNat % 2 ^ (d.fmt.wbits + 1)) else none
    decodeIntp (d.fmt.wbits + 1) z (rd (d.scaleOff e0 e1 e2 e3)).toNat (d.code rd e0 e1 e2 e3)
  else
    decodeElem d.fmt.fmt.flt (if d.fmt.scaled then some (rd (d.scaleOff e0 e1 e2 e3)).toNat else none)
      (d.code rd e0 e1 e2 e3)

/-! ### Writing a whole tensor -/

/-- What a write of a tensor stores, as (offset from ADDR, byte) pairs, and what it counts. -/
structure Stored where
  bytes : List (Nat × Byte)
  cnt : WrCount
  deriving DecidableEq, Repr

/-- The coordinates of the row `r` of the shingle at tuple index (i3, i2, i1): ROWAX runs inside its tile. -/
def Desc.rowCoord (d : Desc) (i1 i2 i3 r : Nat) : Nat × Nat × Nat :=
  (if d.rowax = 1 then 64 * i1 + r else i1, if d.rowax = 2 then 64 * i2 + r else i2,
   if d.rowax = 3 then 64 * i3 + r else i3)

/-- All the tiled rows of a tensor, pads of ROWAX included, as (e1, e2, e3) (spec/06 R136). -/
def Desc.tiledRows (d : Desc) : List (Nat × Nat × Nat) :=
  (List.range (d.tupLen 3)).flatMap fun i3 => (List.range (d.tupLen 2)).flatMap fun i2 =>
    (List.range (d.tupLen 1)).flatMap fun i1 => (List.range 64).map fun r => d.rowCoord i1 i2 i3 r

/-- The bytes of one element's code at an offset. -/
def putCode (o w code : Nat) : List (Nat × Byte) :=
  (List.range w).map (fun k => (o + k, BitVec.ofNat 8 (code / 256 ^ k)))

/-- The draw of an element, `none` under round to nearest (spec/03 R78-R80). -/
def drawOf (f : FmtWord) (sr : SrCtx) (i : Nat) : Option Nat := if f.round then some (srDraw sr i) else none

/-- One run of `n` elements of a row from column `c0`, written unscaled: the values of logical positions by `v`, the
draws by the logical index `ix`. -/
def Desc.storeElem (d : Desc) (sr : SrCtx) (v : Nat → Nat → Nat → Nat → Val)
    (ix : Nat → Nat → Nat → Nat → Nat) (e0 e1 e2 e3 : Nat) : Stored :=
  let o := d.elemOff e0 e1 e2 e3
  if d.inside e0 e1 e2 e3 then
    let (c, n) := writeElem d.fmt.fmt.flt d.fmt.sat (drawOf d.fmt sr (ix e0 e1 e2 e3)) (v e0 e1 e2 e3)
    ⟨putCode o d.w c, n⟩
  else ⟨putCode o d.w 0, WrCount.zero⟩

/-- One scaled block of row (e1, e2, e3) from column `c0`; a block with no logical element is a pad block and takes scale
byte 0x00 and codes of +0, and the pad positions of any other block take codes of +0, in a non-finite block too (spec/03
R61, spec/06 R136). -/
def Desc.storeBlock (d : Desc) (rc : Recipe) (sr : SrCtx) (v : Nat → Nat → Nat → Nat → Val)
    (ix : Nat → Nat → Nat → Nat → Nat) (c0 e1 e2 e3 : Nat) : Stored :=
  let cols := (List.range d.fmt.block).map (c0 + ·)
  let so := d.scaleOff c0 e1 e2 e3
  if d.inside c0 e1 e2 e3 then
    let vs := cols.map (fun e0 =>
      if d.inside e0 e1 e2 e3 then (v e0 e1 e2 e3, drawOf d.fmt sr (ix e0 e1 e2 e3)) else (Val.zero, none))
    let (e, cs, n) := writeBlock d.fmt.fmt.flt d.fmt.sat rc vs
    ⟨(so, BitVec.ofNat 8 e) :: (cols.zip cs).flatMap (fun p =>
      putCode (d.elemOff p.1 e1 e2 e3) d.w (if d.inside p.1 e1 e2 e3 then p.2 else 0)), n⟩
  else ⟨(so, 0) :: cols.flatMap (fun e0 => putCode (d.elemOff e0 e1 e2 e3) d.w 0), WrCount.zero⟩

def Stored.empty : Stored := ⟨[], WrCount.zero⟩

def Stored.append (a b : Stored) : Stored := ⟨a.bytes ++ b.bytes, a.cnt.add b.cnt⟩

/-- Everything a converting writer stores (spec/03 R61, R68-R72, R76; spec/06 R136, R139): whole shingles with their
pads, or the logical bytes of a linear tensor. -/
def Desc.store (d : Desc) (rc : Recipe) (sr : SrCtx) (v : Nat → Nat → Nat → Nat → Val)
    (ix : Nat → Nat → Nat → Nat → Nat) : Stored :=
  match d.layout with
  | .linear =>
    (List.range d.count).foldl (fun acc i =>
      let c := d.unlin i
      acc.append (d.storeElem sr v ix c.1 c.2.1 c.2.2.1 c.2.2.2)) Stored.empty
  | _ =>
    d.tiledRows.foldl (fun acc e =>
      if d.fmt.scaled then
        (List.range (64 * d.t0 / d.fmt.block)).foldl (fun acc b =>
          acc.append (d.storeBlock rc sr v ix (b * d.fmt.block) e.1 e.2.1 e.2.2)) acc
      else
        (List.range (64 * d.t0)).foldl (fun acc e0 =>
          acc.append (d.storeElem sr v ix e0 e.1 e.2.1 e.2.2)) acc) Stored.empty

/-- What a code-for-code copy stores: each destination element takes a source element's code, scale and zero point
(spec/06 R148); `code`, `scale` and `zp` give the source's raw bytes for a destination coordinate. -/
def Desc.storeCodes (d : Desc) (code scale zp : Nat → Nat → Nat → Nat → Nat) : Stored :=
  let one (e0 e1 e2 e3 : Nat) : List (Nat × Byte) :=
    let c := if d.inside e0 e1 e2 e3 then code e0 e1 e2 e3 else 0
    if d.fmt.fmt = .intp then
      -- planes are written a bit at a time by `storePlanes`
      []
    else putCode (d.elemOff e0 e1 e2 e3) d.w c
  let blk (e0 e1 e2 e3 : Nat) : List (Nat × Byte) :=
    let i := d.inside e0 e1 e2 e3
    [(d.scaleOff e0 e1 e2 e3, BitVec.ofNat 8 (if i then scale e0 e1 e2 e3 else 0))]
      ++ (if d.fmt.zp then [(d.zpOff e0 e1 e2 e3, BitVec.ofNat 8 (if i then zp e0 e1 e2 e3 else 0))] else [])
  match d.layout with
  | .linear =>
    ⟨(List.range d.count).flatMap (fun i => let c := d.unlin i; one c.1 c.2.1 c.2.2.1 c.2.2.2), WrCount.zero⟩
  | _ =>
    ⟨d.tiledRows.flatMap (fun e =>
      (if d.fmt.fmt = .intp then
        -- each byte of each plane gathers eight neighbouring columns' bits
        (List.range (d.fmt.wbits + 1)).flatMap fun p => (List.range (8 * d.t0)).map fun b =>
          ((d.planeOff p (8 * b) e.1 e.2.1 e.2.2).1,
           BitVec.ofNat 8 ((List.range 8).foldl (fun acc k =>
             acc + (if d.inside (8 * b + k) e.1 e.2.1 e.2.2 && bit (code (8 * b + k) e.1 e.2.1 e.2.2) p
                    then 2 ^ k else 0)) 0))
       else (List.range (64 * d.t0)).flatMap fun e0 => one e0 e.1 e.2.1 e.2.2)
      ++ (if d.fmt.scaled then
            (List.range (64 * d.t0 / d.fmt.block)).flatMap fun b => blk (b * d.fmt.block) e.1 e.2.1 e.2.2
          else [])), WrCount.zero⟩

end Sys2Proof.Machine
end

