-- ==== Sys2Proof/Machine/MemTypes.lean ====
section
/-! DEFINITION. Plain data of the stacked memory system and the landing engines (spec/07, spec/08). -/

namespace Sys2Proof.Machine

/-- One HBM3E stack (spec/07 Tables 7-3, 7-4, 7-7). -/
structure StackSt where
  /-- MEM_STACK.TRAINED, 1 bit (Table 7-7); reset 0 -/
  trained : Bool
  /-- MEM_STACK.TEMP, 8 bits, °C (Table 7-7); reset 0 -/
  temp : Nat
  /-- MEM_STACK.STEP, 0 to 3 (Table 7-7, R184); reset 0 -/
  step : Nat
  /-- MEM_STACK.REFRESH_2X, 1 bit (Table 7-7, R180); reset 0 -/
  refresh2x : Bool
  /-- row directory entries: (bank, row) remapped to the pool (Table 7-3, R177), a bank numbered 128 × pseudo-channel +
  bank; reset from the wear ledger -/
  rowDir : List (Nat × Nat)
  /-- bank directory entries (Table 7-3); reset from the wear ledger -/
  bankDir : List Nat
  /-- the pseudo-channel entry (Table 7-3); reset from the wear ledger -/
  pcDir : Option Nat
  /-- rows under soft post-package repair: (bank, row) (Table 7-3); reset none -/
  sppr : List (Nat × Nat)
  /-- MEM_STACK.DIR_FULL, 1 bit (Table 7-7, R178); reset 0 -/
  dirFull : Bool
  /-- words that scrub has written back corrected (R177's row class); reset none -/
  scrubbed : List Nat
  /-- row faults found in each bank (R177's bank class); reset none -/
  bankFaults : Tab Nat
  /-- (pseudo-channel, symbol position, bank) corrected within the current scrub pass (R177); reset none -/
  pcSymbols : List (Nat × Nat × Nat)
  /-- repair moves in progress: 2 for a bank and 3 for a pseudo-channel, its number, and the words copied (R178); reset
  none -/
  moves : List (Nat × Nat × Nat)
  /-- refreshes issued since reset, the model's record of R180; reset 0 -/
  refreshes : Nat
  deriving DecidableEq, Repr

def StackSt.reset : StackSt :=
  { trained := false, temp := 0, step := 0, refresh2x := false, rowDir := [], bankDir := [], pcDir := none, sppr := [],
    dirFull := false, scrubbed := [], bankFaults := [], pcSymbols := [], moves := [], refreshes := 0 }

/-- One flume gate (spec/07 R182, R183). -/
structure Gate where
  /-- rate bucket, in quarter bytes (R182); reset 0 -/
  rate : Nat
  /-- floor bucket, in quarter bytes (R182); reset 0 -/
  floor : Nat
  /-- burst estimate in KiB, exact (R183, FLM_STATE.EST); reset the image's SEED, taken up at STANDS_READY -/
  est : Rat
  /-- samples taken, saturating at 32 (FLM_STATE.SAMPLES); reset 0 -/
  samples : Nat
  deriving DecidableEq, Repr

def Gate.reset : Gate := ⟨0, 0, 0, 0⟩

/-- A block staged in a copy-ahead buffer (spec/08 R209): the stand, the block's number (die-local address / 64 KiB)
and its bytes. -/
structure StagedBlock where
  stand : Nat
  block : Nat
  bytes : Cells
  diff : Tab (Byte × Byte)
  deriving DecidableEq, Repr

/-- Whose data a controller command moves (spec/07 R181). -/
inductive MemUser where
  | command (stand : Nat)
  | landingEngine (stand : Nat)
  | logDeck (stand : Nat)
  | checkpoint (stand : Nat)
  | copyAhead (stand : Nat)
  | sharedBase (reader : Nat)
  | remote (named : Nat)
  | host
  | firmware
  | eventStaging
  | incrementCore
  deriving DecidableEq, Repr

/-- The one gate that a controller command belongs to: 0 to 63 for the stands, 64 for BAR4 from both links, 65 for the Warden's own
(spec/07 R181). -/
def MemUser.gate : MemUser → Nat
  | .command st | .landingEngine st | .logDeck st | .checkpoint st | .copyAhead st | .sharedBase st | .remote st => st
  | .host => 64
  | .firmware | .eventStaging | .incrementCore => 65

/-- A copy-ahead access, which is granted in class a (spec/08 R209). -/
def MemUser.isCopyAhead : MemUser → Bool
  | .copyAhead _ => true
  | _ => false

/-- A request waiting at a landing die's gates: whose it is and its data bytes (spec/07 R182). -/
structure FlumeReq where
  user : MemUser
  bytes : Nat
  deriving DecidableEq, Repr

def FlumeReq.gate (r : FlumeReq) : Nat := r.user.gate

/-- A word that scrub has read and will write back: its number, and its data symbols and check difference as read (spec/07 R176). -/
structure WriteBack where
  word : Nat
  data : List Byte
  diff : Byte × Byte
  deriving DecidableEq, Repr

/-- One landing die (spec/07, spec/08). -/
structure LandDie where
  /-- the 66 gates (R181); reset as `Gate.reset` -/
  gates : Tab Gate
  /-- the gate last granted in class a (R182); reset 65, so that the first search starts at gate 0 -/
  lastA : Nat
  /-- the gate last granted in class b (R182); reset 65 -/
  lastB : Nat
  /-- the gate last granted in class c (R182); reset 65 -/
  lastC : Nat
  /-- requests waiting at its gates, oldest first (R182); reset none -/
  waiting : List FlumeReq
  /-- the copy-ahead buffer, at most 4,096 blocks of 64 KiB (spec/08 R209); reset empty -/
  staged : List StagedBlock
  /-- landing engines retired (spec/11 R293); reset from the wear ledger -/
  retired : List Nat
  /-- landing engines out for cruise (spec/11 R293); reset none -/
  cruise : List Nat
  /-- landing engines fenced until chip reset (spec/13 R342); reset none -/
  fenced : List Nat
  deriving DecidableEq, Repr

def LandDie.reset : LandDie :=
  { gates := [], lastA := 65, lastB := 65, lastC := 65, waiting := [], staged := [], retired := [],
    cruise := [], fenced := [] }

/-- The versions of one update group (spec/08 Table 8-12). -/
structure UGroup where
  /-- SEL: the copy holding the committed version (R194); reset 0 -/
  sel : Bool
  /-- TENT: a tentative version exists (R194); reset 0 -/
  tent : Bool
  /-- SEALED (R197); reset 0 -/
  isSealed : Bool
  /-- DAMAGED (R199); reset 0 -/
  damaged : Bool
  /-- the committed update exponent, -126 to 126 (spec/03 R83-R85); reset the image's seed -/
  uCommit : Int
  /-- the tentative update exponent (spec/03 R85); reset the image's seed -/
  uTent : Int
  /-- OPTIMS, saturating at 32 (Table 8-12); reset 0 -/
  optims : Nat
  /-- TSTEP, 32 bits (Table 8-12); reset 0 -/
  tstep : W32
  deriving DecidableEq, Repr

def UGroup.reset (seed : Int) : UGroup := ⟨false, false, false, false, seed, seed, 0, 0⟩

end Sys2Proof.Machine
end

