-- ==== Sys2Proof/Machine/ResetTypes.lean ====
section
/-! DEFINITION. Plain data of hangs, resets and escalation (spec/13). -/

namespace Sys2Proof.Machine

/-- The engines that have a progress watchdog and can be reset on their own (spec/13 R334, R341). -/
inductive EngineId where
  | arrays (core : Nat)              -- the array set of physical core c
  | vector (core : Nat)
  | batten (core : Nat)
  | taps (core : Nat)
  | skidder (cluster : Nat)          -- cluster x = 4 × die + cluster
  | purlin (cluster : Nat)
  | trussDie (die : Nat)
  | trussLink (link : Nat)
  | landing (die engine : Nat)
  | frontend                         -- the command front end of the stand
  deriving DecidableEq, Repr

/-- What started a rung (spec/13 Table 13-9, CAUSE). -/
inductive RungCause where
  | engineWdt | waitWdt | frontWdt | host | escalation
  deriving DecidableEq, Repr

/-- A rung in progress on a stand (spec/13 R338). -/
structure Rung where
  rung : Nat
  ctx : Nat
  cause : RungCause
  engine : Option EngineId
  /-- tickets of the context's commands that the engine has not abandoned -/
  stuck : List Nat
  started : W64
  /-- an increment core sample is running (R349) -/
  sampling : Bool
  deriving DecidableEq, Repr

/-- GLB_RST_STAND of one stand (spec/13 Table 13-9), and the rungs in progress. -/
structure RstStand where
  /-- rungs in progress, the highest last (ACTIVE); reset none -/
  active : List Rung
  /-- LAST, 3 bits; reset 0 -/
  last : Nat
  /-- CONTEXT, 4 bits; reset 0 -/
  ctx : Nat
  /-- CAUSE, 3 bits; reset 0 -/
  cause : Nat
  /-- T_LAST_US, 32 bits; reset 0 -/
  tLast : W32
  /-- engines of the stand that are fenced (FENCED_ENGINE, R342); reset none -/
  fenced : List EngineId
  /-- contexts whose packets already in the chute are to be discarded at the head: (context, how many packets of the
  chute the reset covers) (R339); reset none -/
  discard : List (Nat × Nat)
  /-- the stand's bit is clear in the heartbeat mask (R344); reset 0 -/
  masked : Bool
  deriving DecidableEq, Repr

def RstStand.reset : RstStand :=
  { active := [], last := 0, ctx := 0, cause := 0, tLast := 0, fenced := [], discard := [], masked := false }

/-- An increment core sample (spec/13 R349, R350, Table 13-3). -/
structure Sample where
  time : W64
  rung : Nat
  stand : Nat
  cause : Nat
  incomplete : Bool
  unit : Nat
  seq : W32
  /-- BYTES: bytes sampled -/
  bytes : Nat
  /-- the stores sampled, in order, with their Flashing status: how many bytes of each, and its contents -/
  parts : List (Nat × Mem)
  deriving DecidableEq, Repr

/-- The reset registers of the GLB block (spec/13 Table 13-8) and the module's reset machinery. -/
structure RstMod where
  /-- GLB_RST_LAST.CAUSE; reset 0 -/
  cause : Nat
  /-- GLB_RST_LAST.SUBST, REPLACED, SPARE; reset 0 -/
  subst : Option (Nat × Nat)
  /-- GLB_RST_LAST.DURATION_MS, 32 bits; reset 0 -/
  duration : W32
  /-- a chip reset decided or under way, with its cause and its time (R345, R346); reset none -/
  pendingCause : Option Nat
  decidedAt : W64
  /-- its phases have begun, and STANDS_READY has not been set since (Table 13-2); reset 0 -/
  running : Bool
  /-- increment core samples, newest first, at most 64 (R349); reset none -/
  samples : List Sample
  deriving DecidableEq, Repr

def RstMod.reset : RstMod :=
  { cause := 0, subst := none, duration := 0, pendingCause := none, decidedAt := 0, running := false, samples := [] }

end Sys2Proof.Machine
end

