-- ==== Sys2Proof/Machine/StandTypes.lean ====
section
/-! DEFINITION. Plain data of one stand's front end (spec/02): packets, the chute, result slots, event counters, and the
commands in flight. -/

namespace Sys2Proof.Machine

/-- A complete packet in a chute: its bytes (64 per flit), the link that delivered it, and the status its header checks
gave when it was parsed (0x0000: none failed; spec/02 R46, R417). -/
structure Packet where
  bytes : List Byte
  link : LinkId
  verdict : W16
  deriving DecidableEq, Repr

/-- The incomplete packet: its bytes so far, its owner and its length in flits (spec/02 R39, R40). -/
structure Partial where
  bytes : List Byte
  link : LinkId
  len : Nat
  deriving DecidableEq, Repr

/-- One stand's chute (spec/02 R38-R43, Tables 2-6, 2-8). -/
structure Chute where
  /-- complete packets, the head first; 0 to 4,096 flits with the incomplete one (R38, R39); reset none -/
  packets : List Packet
  /-- the time at which the packet at the head came to it (spec/13 R336); reset 0 -/
  headAt : W64
  /-- the packet being assembled (R39, R40: ASSEMBLING, OWNER_LINK, ASSEMBLED); reset none -/
  part : Option Partial
  /-- discard state, 1 bit (R41); reset 0 -/
  discard : Bool
  /-- sticky OVERRUN, 1 bit (Table 2-6); reset 0 -/
  overrun : Bool
  /-- sticky PTR_RESET, 1 bit (Table 2-6); reset 0 -/
  ptrReset : Bool
  /-- sticky XLINK, 1 bit (Table 2-6); reset 0 -/
  xlink : Bool
  /-- sticky BAD_LENGTH, 1 bit (Table 2-6); reset 0 -/
  badLength : Bool
  /-- head pointer, first copy, modulo 4,096 flits (R42); reset 0 -/
  head : Nat
  /-- tail pointer, first copy (R42); reset 0 -/
  tail : Nat
  /-- head pointer, second copy (R42); reset 0 -/
  headCopy : Nat
  /-- tail pointer, second copy (R42); reset 0 -/
  tailCopy : Nat
  /-- CHU_DISPATCHED_SEQ.SEQ, 32 bits (Table 2-8); reset 0 -/
  seq : W32
  /-- CHU_DISPATCHED_SEQ.VALID, 1 bit (Table 2-8); reset 0 -/
  seqValid : Bool
  deriving DecidableEq, Repr

def Chute.reset : Chute :=
  { packets := [], headAt := 0, part := none, discard := false, overrun := false, ptrReset := false, xlink := false,
    badLength := false, head := 0, tail := 0, headCopy := 0, tailCopy := 0, seq := 0, seqValid := false }

/-- The states of a result slot (spec/02 R50). -/
inductive SlotSt where
  | free
  | reserved
  | ready
  deriving DecidableEq, Repr

/-- A result slot (spec/02 Table 2-15); `payload` holds bytes 16 on, absent bytes being zero. -/
structure Slot where
  st : SlotSt
  seq : W32
  status : W16
  gen : W16
  ctx : Nat
  op : Nat
  payload : List Byte
  deriving DecidableEq, Repr

/-- Never written: generation 0 (spec/02 Table 2-15). -/
def Slot.reset : Slot := ⟨.free, 0, 0, 0, 0, 0, []⟩

/-- Where a command in flight stands. -/
inductive Stage where
  | queued                 -- in its engine's queue
  | running                -- its engine has begun; it ends by later events
  | phase (n : Nat)        -- a numbered phase of a command with several
  | done                   -- every part has completed; it waits to be completed by COMMAND_COMPLETE
  deriving DecidableEq, Repr

/-- An accumulator that a hardware fault changed (spec/04 R102-R104): logical core, row and column of C, the number of
products it had taken, and its code then. -/
structure AccFault where
  core : Nat
  row : Nat
  col : Nat
  k : Nat
  code : W64
  deriving DecidableEq, Repr

/-- Where a lane's result goes (spec/05 R127, spec/08 R189). -/
inductive LanePlace where
  | elem (i : Nat)                          -- element i of a VECOP's or ROWOP's output, row by row
  | entry (row : Nat) (second : Bool)       -- a word of a row's Batten store entry
  | sum (beta : Bool) (col : Nat)           -- an element of dgamma or dbeta
  | tile (tile row : Nat) (second : Bool)   -- a tap's statistic of a row of a tile: its maximum, or its sum
  | role (j e : Nat)                        -- element e of the j-th role that OPTIM writes; of G, for ACCUM, with j = 0
  | item (row col : Nat)                    -- an element of SCATTER_ADD's destination in memory
  | digest                                  -- DIGEST's result
  deriving DecidableEq, Repr

/-- A value that the primary lane left when a re-execution disagreed again, still to be written (spec/05 R128): the physical core
(zero on a landing engine), its place, and its code: binary32, or 128 bits for a digest. -/
structure LaneFault where
  core : Nat
  place : LanePlace
  code : BitVec 128
  deriving DecidableEq, Repr

/-- A command in flight: issued and not yet complete (spec/02 R47-R50). -/
structure Cmd where
  /-- names the command within its stand; counts issues -/
  ticket : Nat
  bytes : List Byte
  link : LinkId
  /-- the result slot it holds, if it holds one (R50) -/
  slot : Option Nat
  /-- re-issued by replay (spec/12 R316) -/
  replay : Bool
  /-- the instance number of its member table (spec/09 R223), zero where it names none -/
  inst : W32
  /-- the step record it belongs to (spec/12 R305), if any -/
  step : Option W64
  /-- rounding seed, dropout seed and number of the step most recently opened when it issued, zero where none was (spec/03
  R80, spec/05 R115) -/
  seeds : W64 × W64 × W64
  stage : Stage
  /-- completion statuses found so far, DONE left out; the lowest is reported (R46) -/
  statuses : List W16
  tStart : W64
  /-- STREAM of spec/04 Table 4-9 -/
  stream : Nat
  /-- MISMATCH of spec/04 Table 4-9 -/
  mism : Nat
  /-- RECOMPUTE of spec/04 Table 4-9 -/
  recomp : Nat
  /-- payload bytes 16 on that the engine left, for the opcodes whose payload is not Table 4-9 -/
  pay : List Byte
  /-- work left to later events: indices whose meaning the opcode gives -/
  todo : List Nat
  /-- accumulators of a product that a hardware fault changed and that stand, oldest first (spec/04 Table 4-6) -/
  accFaults : List AccFault
  /-- primary-lane values that are written in place of the others, newest first (spec/05 R128) -/
  laneFaults : List LaneFault
  /-- the kept values that a product started from: logical core, rows, columns, codes (spec/04 R108) -/
  keptIn : List (Nat × Nat × Nat × List W64)
  /-- remote blocks that a Skidder command has fetched, by block (spec/06 R141) -/
  fetched : List (Nat × List Byte)
  /-- remote blocks that no response brings (spec/06 R142) -/
  lost : List Nat
  deriving DecidableEq, Repr

end Sys2Proof.Machine
end

