-- ==== Sys2Proof/Machine/StepTypes.lean ====
section
/-! DEFINITION. Plain data of step replay, checkpoints and membership (spec/12). -/

namespace Sys2Proof.Machine

/-- Step states that hold a record (spec/12 Table 12-1). -/
inductive StepMode where
  | isOpen | closed | applied
  deriving DecidableEq, Repr

/-- A command kept in a record (spec/12 R306). -/
structure LoggedCmd where
  bytes : List Byte
  link : LinkId
  deriving DecidableEq, Repr

/-- A collective result kept under KEEP (spec/12 R306). -/
structure KeptResult where
  seq : W32
  mtab : Nat
  inst : W32
  segment : Nat
  vals : List W32
  deriving DecidableEq, Repr

/-- A step record (spec/12 R306, Table 12-3). -/
structure StepRec where
  step : W64
  dpos : W64
  rseed : W64
  dseed : W64
  job : W32
  gov : Nat
  mode : StepMode
  /-- CAUSE, Table 12-4; `none` while unmarked -/
  mark : Option Nat
  overflow : Bool
  /-- opened without room for its header and snapshot, so that the deck holds nothing of it (R305) -/
  unheld : Bool
  cmds : List LoggedCmd
  /-- late-ledger entries recorded -/
  entries : Nat
  kept : List KeptResult
  snapEvt : Tab W32
  snapWait : Tab W32
  inst : List W32
  /-- the ticket of its STEP_END while that waits -/
  endTicket : Option Nat
  /-- the time at which it was last APPLIED (R311) -/
  applied : W64
  deriving DecidableEq, Repr

/-- A replay (spec/12 R316). It is in progress while steps are left; what it holds beside them serves the re-issued commands
that are still in flight. -/
structure Replay where
  /-- step numbers still to be re-issued, oldest first, and the next logged command of the first -/
  steps : List W64
  next : Nat
  /-- the replay event counters and wait values -/
  evt : Tab W32
  wait : Tab W32
  /-- the least FIRST_LIVE received: kept results are used below it -/
  firstLive : W64
  /-- the COMMIT that restarts when the replay has ended -/
  commit : Nat
  deriving DecidableEq, Repr

/-- Why a stand is rolling back, which says how its rollback ends (spec/12 R314-R317, R322, R326). -/
inductive RollbackFor where
  | only                                  -- COMMIT with ROLLBACK_ONLY
  | group (firstLive : W64)               -- group rollback, then replay
  | halt (status : W16)                   -- discard, HALTED, complete with the status
  deriving DecidableEq, Repr

/-- A commit message (spec/12 R311). -/
structure CommitMsg where
  mtabVersion : W32
  step : W64
  round : Nat
  rollback : Bool
  firstLive : W64
  blaze : BitVec 128
  rank : Nat
  deriving DecidableEq, Repr

/-- A decision to commit (spec/12 R311): the number that the next command to issue took then, n, the members expelled, and the messages
that it rests on, by rank. -/
structure CommitDecision where
  before : Nat
  n : Nat
  expelled : Nat
  msgs : List (Nat × Option CommitMsg)
  deriving DecidableEq, Repr

/-- A COMMIT in flight (spec/12 R311). -/
structure CommitSt where
  ticket : Nat
  mtab : Nat
  step : W64
  phase : Nat            -- 1, 3 (digested), 4 (message sent), 5 (decided: the groups commit next)
  rollback : Bool
  firstLive : W64
  blaze : BitVec 128
  waitFrom : W64         -- time at which phase 3 began
  expelled : Nat
  restored : Bool        -- commits a restored step (R322)
  bad : Bool             -- its digest read a word that failed correction (R311)
  decided : Option CommitDecision
  deriving DecidableEq, Repr

/-- The committed step's inputs kept for CHECKPOINT (spec/12 R314). -/
structure CommittedMeta where
  dpos : W64
  rseed : W64
  dseed : W64
  job : W32
  deriving DecidableEq, Repr

/-- A restored step that awaits its COMMIT (spec/12 R321, R322). -/
structure RestoredStep where
  step : W64
  dpos : W64
  rseed : W64
  dseed : W64
  job : W32
  /-- a COMMIT of it has issued -/
  issued : Bool
  deriving DecidableEq, Repr

/-- A piece of a background copy: bytes of one role of one pinned copy that lie in one copy-ahead block (spec/08 R209). -/
structure CopyPiece where
  die : Nat
  /-- die-local address / 64 KiB -/
  block : Nat
  /-- HBM key of its first byte, and its length -/
  key : Nat
  len : Nat
  /-- the shard it belongs to, and its offset in the shard's role data -/
  shard : Nat
  off : Nat
  deriving DecidableEq, Repr

/-- A background copy, of a CHECKPOINT or a mirror (spec/08 R208-R210, spec/12 R319, R320). -/
structure BgCopy where
  /-- the CHECKPOINT's ticket; `none` for a mirror -/
  ticket : Option Nat
  ctx : Nat
  /-- the update groups in shard order, with the copy pinned for each (true: the twin) -/
  groups : List (Nat × Bool)
  /-- pieces still to read -/
  todo : List CopyPiece
  /-- what was read: (shard, offset in the shard's role data, bytes) -/
  got : List (Nat × Nat × List Byte)
  /-- destination stand of a peer device, or none for the stand's own memory -/
  remote : Option (W16 × Nat)
  dest : Nat
  otver : W32
  sign : Bool
  step : W64
  meta_ : CommittedMeta
  deriving DecidableEq, Repr

/-- States of a watched peer (spec/12 Table 12-21). -/
inductive PeerState where
  | live | suspect | fenced | sapling
  deriving DecidableEq, Repr

/-- One entry of the Lookout (spec/12 R323, Table 12-21). -/
structure Peer where
  device : W16
  state : PeerState
  source : Nat
  /-- jitter estimate in µs, exact (R323); starts at the image's seed -/
  est : Rat
  samples : Nat
  /-- arrival time in ns of the last heartbeat that named the peer stand, and whether the last heartbeat did -/
  lastNamed : W64
  named : Bool
  saplingLeft : Nat
  deriving DecidableEq, Repr

/-- The step machinery of one stand (spec/12 Tables 12-17, 12-18). -/
structure StepSt where
  /-- unverified records, oldest first, at most 64 (R303); reset none -/
  records : List StepRec
  /-- DCK_NEXT_STEP, 64 bits (Table 12-18); reset 0 -/
  next : W64
  /-- NEXT_VALID (Table 12-17); reset 0 -/
  nextValid : Bool
  /-- DCK_COMMITTED, 64 bits (Table 12-18); reset 0 -/
  committed : W64
  /-- COMMITTED_VALID (Table 12-17); reset 0 -/
  committedValid : Bool
  /-- HALTED (Table 12-17); reset 0 -/
  halted : Bool
  /-- EXPELLED (Table 12-17); reset 0 -/
  expelled : Bool
  /-- the devices whose FENCE, or whose majority, expelled the stand (R326); reset none -/
  expellers : List W16
  /-- RESTORED and what it restored (Table 12-17, R321); reset none -/
  restored : Option RestoredStep
  /-- ROUND, 4 bits (Table 12-17); reset 0 -/
  round : Nat
  /-- steps opened since the last COMMIT of the stand issued (R305); reset 0 -/
  opened : Nat
  /-- seeds and number of the step most recently opened (spec/03 R80, spec/05 R115); reset none, which reads as zero -/
  last : Option (W64 × W64 × W64)
  /-- governor mode of the stand, TRS_STAND.MODE (spec/09 R240); reset 0 -/
  gov : Nat
  /-- DPOS, RSEED, DSEED and JOB of the committed step (R314); reset zero -/
  meta_ : CommittedMeta
  /-- COMMITs in flight, in chute order (R310); reset none -/
  commits : List CommitSt
  /-- commit messages received and not yet used (R311); reset none -/
  msgs : List CommitMsg
  /-- a rollback that waits for the issued commands to complete (R315); reset none -/
  rollback : Option RollbackFor
  /-- the replay in progress, or the last one (R316); reset none -/
  replay : Option Replay
  /-- issue from the chute stays stopped after a replay was cut short (R317); reset 0 -/
  stopped : Bool
  /-- the background copy that holds the stand's pin (spec/08 R208); reset none -/
  copy : Option BgCopy
  /-- a mirror that waits (MIRROR_QUEUED, R319); reset none -/
  mirrorWait : Option BgCopy
  /-- the next mirror goes to MADDR plus the slot size (R319); reset 0 -/
  mirrorOdd : Bool
  deriving DecidableEq, Repr

def StepSt.reset : StepSt :=
  { records := [], next := 0, nextValid := false, committed := 0, committedValid := false, halted := false,
    expelled := false, expellers := [], restored := none, round := 0, opened := 0, last := none, gov := 0, meta_ := ⟨0, 0, 0, 0⟩,
    commits := [], msgs := [], rollback := none, replay := none, stopped := false, copy := none, mirrorWait := none,
    mirrorOdd := false }

end Sys2Proof.Machine
end

