-- ==== Sys2Proof/Machine/OperandTypes.lean ====
section
/-! DEFINITION. Operands of commands that are small records: what an event carries from outside the model. -/

namespace Sys2Proof.Machine

/-- The units whose lanes are shadowed (spec/05 R127, spec/08 R189). -/
inductive LaneUnit where
  | vector (core : Nat)
  | batten (core : Nat)
  | tap (core : Nat)
  | landing (die engine : Nat)
  deriving DecidableEq, Repr

/-- A flit that waits to cross a die link: its stand (64: the module's own traffic), the dies at its two ends, the number of the 4 KiB
page that it is for, and its words (spec/01 R18, R19, R22). -/
structure DieFlit where
  stand : Nat
  src : Nat
  dst : Nat
  page : Nat
  words : List (List Byte)
  deriving DecidableEq, Repr

/-- A controller slot of a landing die: its number, and the requests that have come to the gates (spec/07 R182, R185). -/
structure FlumeSlot where
  slot : Nat
  requests : List FlumeReq
  deriving DecidableEq, Repr

/-- A flit as the lanes give it after the FEC: its 16 words, and how many codewords the FEC corrected and could not correct (spec/10
R254, R255). -/
structure RxFlit where
  words : List (List Byte)
  corrected : Nat
  uncorrectable : Nat
  deriving DecidableEq, Repr

/-- A DEGRADE request as a port receives it, with the mask of the lanes that have failed (spec/10 R249). -/
structure DegradeReq where
  port : Nat
  failed : Nat
  deriving DecidableEq, Repr

/-- A rollback of a stand, with the steps whose log in HBM cannot be read (spec/12 R315, R328). -/
structure RollbackDue where
  stand : Nat
  unreadable : List W64
  deriving DecidableEq, Repr

/-- The stores that SRAM scrub reads (spec/11 R295). -/
inductive SramStore where
  | scratchpad (core : Nat)
  | batten (core : Nat)
  | cluster (x : Nat)
  deriving DecidableEq, Repr

/-- Where a request of spec/15 Table 15-6 comes from: a mailbox that holds it, or the Jorusk vendor-defined MCTP type over I3C, with its
bytes (R383, R387). -/
inductive ReqVia where
  | mbox (m : Nat)
  | i3c (request : List Byte)
  deriving DecidableEq, Repr

/-- The uses that the Jorusk key-purpose extension names (spec/15 R377). -/
inductive KeyPurpose where
  | firmware | image | library | device
  deriving DecidableEq, Repr

/-- A certificate of a chain in flash as the published standards read it (spec/15 R377): whether it is DER X.509, whether it is signed
with RSASSA-PKCS1-v1_5 and SHA-512 by the key of the next certificate, the SHA-512 digest of its own public key, what its key-purpose
extension names, and its list of serial numbers. -/
structure CertRead where
  der : Bool
  byNext : Bool
  keyDigest : List Byte
  purpose : Option KeyPurpose
  serials : Option (List W64)
  deriving DecidableEq, Repr

/-- A signature trailer as they read it: whether SIG is the leaf key's RSASSA-PKCS1-v1_5 signature with SHA-512 over the signed bytes,
and the certificates, leaf first (spec/15 R378). -/
structure SigRead where
  signed : Bool
  certs : List CertRead
  deriving DecidableEq, Repr

end Sys2Proof.Machine
end

