-- ==== Sys2Proof/Syntax.lean ====
section
/-! DEFINITION. The commands: one constructor for each row of the opcode table, with the row's operands.  A command that
stands for something the module does of itself or its surroundings do to it (an event) carries what the specification
leaves to happen outside its own rules: which unit, what was measured, what a check outside the model found. -/

namespace Sys2Proof

open Machine

/-- The commands, in the order of the opcode table. -/
inductive Instr where
  /-- POWER_GOOD (R393): Input power good is asserted after the input has stayed within 46–60 V for 50 ms, and the
  power-on sequence and time base start. -/
  | powerGood
  /-- INPUT_OUT_OF_RANGE (R393): The input stays below 44 V or above 62 V for 100 µs, and all 20 switched domains turn
  off together within 1 ms, losing memory. -/
  | inputOutOfRange (millivolts : Int)
  /-- DOMAIN_SWITCH_ON (R396): A switched domain starts at its time in the power-up order and must reach regulation
  within 10 ms. -/
  | domainSwitchOn (pd : Nat)
  /-- DOMAIN_REGULATION_TIMEOUT (R396): A domain has not reached regulation within 10 ms, so it is switched off and
  flagged in PWR_DOMAIN.FAULT. -/
  | domainRegulationTimeout (pd : Nat)
  /-- PHASE_FAULT (R395): A regulator phase faults and is disabled within 10 µs; the fault is recorded, and the domain
  is derated beyond two failed phases. -/
  | phaseFault (pd : Nat) (phase : Nat)
  /-- LIMITER_WINDOW (R397): At the end of each 1 ms window the limiter compares average input power with LIMIT_W and
  lowers or raises the power fraction p. -/
  | limiterWindow (watts : Nat) (amps : List (Nat × Nat))
  /-- FAST_LIMIT (R398): The input current exceeds its fast limit for 20 µs, so p drops at once by 4 (not below 4) and
  PWR_FAST_LIMIT counts. -/
  | fastLimit (amps : Nat)
  /-- THERMTRIP (R406): A stack or die junction reaches its trip temperature; THERMTRIP_N is asserted and all domains
  switch off within 1 ms without the Warden. -/
  | thermtrip (isStack : Bool) (unit : Nat) (celsius : Int)
  /-- PWR_CYCLE_REQ_TIMEOUT (R407): Input power has not been removed 10 s after PWR_CYCLE_REQ_N, so the W32 switches
  off all domains and stays off. -/
  | pwrCycleReqTimeout
  /-- SLEEP (R408): SLEEP_N is held low for 10 ms: issue stops, ledger and log entries are written, and all domains
  switch off in reverse order. -/
  | sleep
  /-- WAKE (R409): WAKE_N is held low for 1 ms while SLEEP_N is high, and the power-on sequence runs. -/
  | wake (sleepN : Bool)
  /-- CLOCK_MONITOR_EXCURSION (R402): A PLL loses lock or REFCLK leaves range: steps are marked, dies stop granting
  issue slots, and timers run from the internal oscillator. -/
  | clockMonitorExcursion (die : Option Nat)
  /-- CLOCK_RECOVERED (R402): REFCLK has been in range and every PLL locked for 10 ms, and Warden firmware decides a
  chip reset with CAUSE 3. -/
  | clockRecovered
  /-- VOLTAGE_MONITOR_EXCURSION (R402): A domain rail leaves nominal ±5 %: steps are marked under R280, and after 1 ms
  out of range the dies stop issuing and a chip reset is decided. -/
  | voltageMonitorExcursion (pd : Nat) (lasted : Bool)
  /-- TEMP_MONITOR_EXCURSION (R402): A die junction exceeds 105 °C: steps are marked, and the die is held to the step
  3 pattern. -/
  | tempMonitorExcursion (die : Nat) (celsius : Int)
  /-- JUNCTION_HOLD_RELEASE (R402): Every junction sensor of a held die has read below 100 °C for 1 ms, and the hot-
  junction hold ends. -/
  | junctionHoldRelease (die : Nat)
  /-- STACK_TEMP_SAMPLE (R184): A stack temperature is sampled every 1 µs, and the stack and its zone enter a higher
  throttle step when it reaches a threshold. -/
  | stackTempSample (stack : Nat) (celsius : Nat)
  /-- THROTTLE_STEP_LEAVE (R184): A stack has stayed 3 °C below its step's threshold for 1 ms, and it leaves that step
  by one. -/
  | throttleStepLeave (stack : Nat)
  /-- REFRESH_RATE_RESTORE (R180): A stack has been below 92 °C for 1 ms, and its refresh returns to the base
  interval. -/
  | refreshRateRestore (stack : Nat)
  /-- THERMAL_PREDICTOR_SAMPLE (R405): Once per ms a zone's rise-rate predictor takes a sample, and once seasoned it
  may enter a throttle step early. -/
  | thermalPredictorSample (zone : Nat)
  /-- HBM_REFRESH (R180): A refresh falls due and is issued, preempting every other controller command. -/
  | hbmRefresh (stack : Nat)
  /-- LINK_RECALIBRATION (R299): A link recalibration preempts traffic on an HBM, die or Caskline link for at most 200
  NCLK. -/
  | linkRecalibration (kind : Nat) (unit : Nat)
  /-- PERST_DEASSERT (R358): A host link's PERST input deasserts, and link training on that link begins within 20 ms.
  -/
  | perstDeassert (link : LinkId)
  /-- HOST_LINK_RESET (R32): A hot reset, link-down, PERST assertion or D3hot entry on one link resets only that
  endpoint's state, and its incomplete packet is dropped. -/
  | hostLinkReset (link : LinkId) (why : LinkEnd)
  /-- CONFIG_REQUEST (R33): A PCI Express configuration request is answered with Request Retry Status before
  IMAGE_VERIFIED, and normally afterwards. -/
  | configRequest (link : LinkId) (req : CfgReq)
  /-- CHUTE_WRITE (R38): A write to a chute window is accepted whole and appended at the tail, or it is ignored and
  counted under the precedence of R416. -/
  | chuteWrite (link : LinkId) (stand : Nat) (offset : Nat) (data : List Byte)
  /-- CHUTE_PTR_MISMATCH (R42): The duplicated chute pointers disagree, and within 4 NCLK the chute is emptied, its
  pointers are zeroed and it enters the discard state. -/
  | chutePtrMismatch (stand : Nat)
  /-- DROP (R43): Writing 1 to CHU_CTRL.DROP discards the incomplete packet and ends the discard state. -/
  | drop (link : LinkId) (stand : Nat)
  /-- RES_RELEASE (R52): A write to RES_RELEASE naming a READY slot and its generation frees it; otherwise it is
  ignored and counted. -/
  | resRelease (link : LinkId) (stand : Nat) (slot : Nat) (gen : W16)
  /-- REGISTER_WRITE (R9): A write to a register without a row of its own takes effect by the field access codes (RW,
  W1C, W1S) or is ignored. -/
  | registerWrite (link : LinkId) (offset : Nat) (width : Nat) (value : W64)
  /-- BAR4_READ (R34): A BAR4 read returns software-visible memory byte by byte, zero beyond capacity, and a poisoned
  completion for an uncorrectable word. -/
  | bar4Read (link : LinkId) (offset : Nat) (count : Nat)
  /-- BAR4_WRITE (R174): A BAR4 write stores each byte that lies in a HOST_WR region and ignores the others, counting
  the write once. -/
  | bar4Write (link : LinkId) (offset : Nat) (data : List Byte)
  /-- HEADER_REFUSAL (R417): A command that failed a header check leaves the chute at the head once a result slot is
  reserved, and its refusal result is written. -/
  | headerRefusal (stand : Nat)
  /-- COMMAND_ISSUE (R47): The head command issues when all R47 conditions hold; its issue checks are made, and it is
  refused or sent to its engine queue. -/
  | commandIssue (stand : Nat)
  /-- COMMAND_COMPLETE (R48): A command's last part completes: the result slot is written or freed, SIGNAL is applied,
  and an MSI-X message is sent where due. -/
  | commandComplete (stand : Nat) (ticket : Nat)
  /-- MATMUL (R106): MATMUL computes C = A × B on the selected cores with the chosen stationary operand. -/
  | matmul (stand : Nat) (ticket : Nat)
  /-- MATMUL_PLANE (R95): MATMUL_PLANE computes a product with an INTP bit-plane weight, outputs stationary. -/
  | matmulPlane (stand : Nat) (ticket : Nat)
  /-- VECOP (R116): VECOP performs an element-wise operation, function, derivative or dropout on the vector unit. -/
  | vecop (stand : Nat) (ticket : Nat)
  /-- ROWOP (R125): ROWOP performs a softmax, normalisation or store operation on the Batten engine, or arms a tap. -/
  | rowop (stand : Nat) (ticket : Nat)
  /-- MOVE (R147): MOVE copies or converts a tensor, permuting axes, or fills it with VALUE. -/
  | move (stand : Nat) (ticket : Nat)
  /-- GATHER (R151): GATHER copies the source rows named by an index list. -/
  | gather (stand : Nat) (ticket : Nat)
  /-- SCATTER_ADD (R153): SCATTER_ADD adds source rows into FP32 destination rows in list order. -/
  | scatterAdd (stand : Nat) (ticket : Nat)
  /-- WINDOW (R156): WINDOW expands convolution windows into a matrix on the Bucker. -/
  | window (stand : Nat) (ticket : Nat)
  /-- OPTIM (R201): OPTIM applies the optimiser to an update group, writing its tentative version. -/
  | optim (stand : Nat) (ticket : Nat)
  /-- ACCUM (R203): ACCUM adds or writes a source tensor into an update group's FP32 gradient accumulator. -/
  | accum (stand : Nat) (ticket : Nat)
  /-- SWEEP (R207): SWEEP zeroes named private regions with their twins and resets their update groups. -/
  | sweep (stand : Nat) (ticket : Nat)
  /-- DIGEST (R205): DIGEST computes a Blaze over update groups and may seal them. -/
  | digest (stand : Nat) (ticket : Nat)
  /-- REDUCE (R220): REDUCE sums contributions through the chain and tree below the device level. -/
  | reduce (stand : Nat) (ticket : Nat)
  /-- COLLECTIVE (R224): COLLECTIVE runs an allreduce, reduce-scatter, allgather, broadcast or barrier over a member
  table. -/
  | collective (stand : Nat) (ticket : Nat)
  /-- PERMUTE (R235): PERMUTE reshards a tensor from owner table OLD to NEW among the members of MTAB. -/
  | permute (stand : Nat) (ticket : Nat)
  /-- OWNER_LOAD (R222): OWNER_LOAD loads an owner table or a member table from memory. -/
  | ownerLoad (stand : Nat) (ticket : Nat)
  /-- STEP_BEGIN (R305): STEP_BEGIN opens a step record with a snapshot and chooses the governor mode. -/
  | stepBegin (stand : Nat)
  /-- STEP_END (R303): STEP_END closes the step's command segment and completes when the step is APPLIED. -/
  | stepEnd (stand : Nat)
  /-- COMMIT (R311): COMMIT verifies the covered steps through digest, ledger settlement and message exchange, or
  rolls back under ROLLBACK_ONLY. -/
  | commit (stand : Nat) (ticket : Nat)
  /-- CHECKPOINT (R319): CHECKPOINT writes the committed version of update groups as a manifest and shards. -/
  | checkpoint (stand : Nat) (ticket : Nat)
  /-- RESTORE (R321): RESTORE verifies a checkpoint and installs it as the tentative version. -/
  | restore (stand : Nat) (ticket : Nat)
  /-- FENCE_PEER (R324): FENCE_PEER fences a device for the stand and may relay a FENCE to the members of a table. -/
  | fencePeer (stand : Nat) (ticket : Nat)
  /-- READMIT (R327): READMIT clears a peer's fence and puts the peer in sapling mode. -/
  | readmit (stand : Nat) (ticket : Nat)
  /-- EVENT (R48): EVENT adds to or sets an event counter, or sets or arms a wait value, at issue. -/
  | event (stand : Nat)
  /-- RESULT (R53): RESULT writes a result slot with its flit's payload at issue. -/
  | result (stand : Nat)
  /-- NOP (R53): NOP does nothing beyond its flags. -/
  | nop (stand : Nat)
  /-- SCALER_CHECK (R103): At the end of a checked tile the Scaler compares residuals with the threshold and reports a
  mismatch. -/
  | scalerCheck (stand : Nat) (ticket : Nat) (tile : TileCheck)
  /-- RECOMPUTE (R104): After a mismatch the checked tile is recomputed on the neighbouring array, and its outcome is
  classified under R285. -/
  | recompute (stand : Nat) (ticket : Nat) (devs : List Deviation)
  /-- LANE_REEXECUTION (R128): A shadow-lane mismatch holds the outputs and re-executes 64 elements, and a second
  mismatch confirms a lane fault. -/
  | laneReexecution (unit : LaneUnit) (lane : Nat) (again : Option (LanePlace × BitVec 128)) (stand : Nat) (ticket : Nat)
  /-- TAP_TILE (R122): An armed tap takes a tile written by its product, combines it in column order, and completes or
  ends with TAP_ORDER. -/
  | tapTile (stand : Nat) (ticket : Nat) (core : Nat) (tile : Nat)
  /-- CORE_HANDOVER (R101): A spare core takes a logical core number, with its kept sets copied, between that core's
  commands. -/
  | coreHandover (cluster : Nat) (logical : Nat) (toSpare : Bool)
  /-- COLUMN_REMAP (R286): Warden firmware remaps an array's failing column to its spare column and removes the two
  faults from the core's count. -/
  | columnRemap (array : Nat) (column : Nat)
  /-- CRUISE_STEP (R290): A cluster's hourly cruise step starts, handing over a core to the spare and running its scan
  patterns and capture replays. -/
  | cruiseStep (cluster : Nat)
  /-- CRUISE_RUN_END (R291): A cruise run ends; the core returns, or on failure it is retired. -/
  | cruiseRunEnd (passed : Bool)
  /-- CRUISE_OVERDUE (R292): A core passes 6 h without a cruise run, or a further hour, and is counted overdue, its
  die being marked when the cluster has no spare. -/
  | cruiseOverdue (core : Nat)
  /-- LANDING_CRUISE (R293): A landing engine is taken out for up to 3 s of scan test, and retired on failure. -/
  | landingCruise (die : Nat) (engine : Nat) (passed : Option Bool)
  /-- SRAM_SCRUB (R295): SRAM scrub reads and corrects a line, writes it back or poisons it, and repairs row faults
  with spare rows. -/
  | sramScrub (store : SramStore) (word : Nat) (macro_ : Nat) (row : Nat)
  /-- HBM_SCRUB (R176): HBM scrub reads a Flashing block and writes back corrected or poisoned words. -/
  | hbmScrub (die : Nat) (block : Nat)
  /-- REPAIR_MOVE (R178): The contents of a remapped bank or pseudo-channel move to the pool, with writes going to
  both locations. -/
  | repairMove (stack : Nat) (words : Nat)
  /-- FLUME_GRANT (R182): Each MCLK the gates' buckets refill and a free controller slot is granted by class and
  round-robin. -/
  | flumeGrant (die : Nat) (turn : FlumeSlot)
  /-- FLUME_BURST_SAMPLE (R183): At the end of a 64 µs interval a gate takes a burst sample and updates its estimate
  and depth. -/
  | flumeBurstSample (die : Nat) (gate : Nat) (burstBytes : Nat) (busy : Bool)
  /-- COPY_AHEAD (R209): A write to an unread block of a pinned copy stages the block into the copy-ahead buffer
  before it proceeds. -/
  | copyAhead (die : Nat) (stand : Nat) (block : Nat)
  /-- BACKGROUND_COPY_READ (R210): A background copy reads its next block, staged blocks first, freeing each staged
  block. -/
  | backgroundCopyRead (stand : Nat)
  /-- DELIVERY_INTO_G (R221): A reduction result is delivered into an update group's G role after earlier landing-
  engine accesses end. -/
  | deliveryIntoG (stand : Nat) (ticket : Nat)
  /-- REDUCTION_PIECE (R219): A 64 KiB piece passes through a reduction stage. -/
  | reductionPiece (stand : Nat) (ticket : Nat)
  /-- LATE_WINDOW_EXPIRE (R227): A segment's late window closes at T0 + W, and missing contributions become late
  ledger entries. -/
  | lateWindowExpire (stand : Nat) (ticket : Nat) (segment : Nat)
  /-- SEGMENT_FORM (R224): An owner forms a segment's group result from the contributions and carries, and sends it
  with its ledger entries. -/
  | segmentForm (stand : Nat) (ticket : Nat) (segment : Nat)
  /-- PERMUTE_CLOSE (R235): When all unfenced members have finished pulling, the member sets NEW entries valid or
  absent and the PERMUTE completes. -/
  | permuteClose (stand : Nat) (ticket : Nat)
  /-- PUT (R263): A received PUT writes its payload at ADDR after region checks, and a response is returned. -/
  | put (port : Nat) (txn : Txn)
  /-- GET (R263): A received GET reads the requested bytes and returns them on the bulk channel. -/
  | get (port : Nat) (txn : Txn)
  /-- REDUCE_PUT (R225): A received REDUCE_PUT contribution is matched under R226 and held in reduction staging. -/
  | reducePut (port : Nat) (txn : Txn)
  /-- PERMUTE_MESSAGE (R235): A received PERMUTE opening, pull-done or closing message is applied to the resharding.
  -/
  | permuteMessage (port : Nat) (txn : Txn)
  /-- TIME (R270): A received TIME request is stamped and answered with t2 and t3. -/
  | time (port : Nat) (txn : Txn)
  /-- TIME_RESPONSE (R270): A TIME response gives an offset and delay, and the time base is stepped or set to slew. -/
  | timeResponse (port : Nat) (txn : Txn)
  /-- HEARTBEAT (R323): A received heartbeat updates the Lookout's liveness and jitter estimates for the peer's
  stands. -/
  | heartbeat (port : Nat) (txn : Txn)
  /-- FENCE (R325): A received FENCE fences the named device for the stand, or expels the stand when the FENCE names
  itself. -/
  | fence (port : Nat) (txn : Txn)
  /-- TXN_RESPONSE (R266): A response completes its request by TAG with its status. -/
  | txnResponse (port : Nat) (txn : Txn)
  /-- TRANSIT_FORWARD (R268): A transaction for another device is forwarded by the routing table, or dropped on TTL or
  missing route. -/
  | transitForward (port : Nat) (txn : Txn)
  /-- TXN_TIMEOUT (R266): A request has no response within TXN_TIMEOUT and completes UNREACHABLE. -/
  | txnTimeout (stand : Nat) (tag : Nat)
  /-- TIME_EXCHANGE (R270): Every 1 ms a device sends a TIME request on its parent port. -/
  | timeExchange
  /-- TIME_SLEW (R270): After STANDS_READY the time base adds or skips at most one tick per 1,000 NCLK toward the
  parent. -/
  | timeSlew
  /-- HEARTBEAT_SEND (R323): Every HB_PERIOD_US a device sends a heartbeat with its live-stand mask to every watched
  device. -/
  | heartbeatSend
  /-- PEER_SILENT (R323): A watched peer is silent for T, and a seasoned Lookout fences it or an unseasoned one marks
  it SUSPECT. -/
  | peerSilent (stand : Nat) (device : W16)
  /-- FLIT_RECEIVE (R255): A received flit is corrected and checked, and it is delivered or treated as bad. -/
  | flitReceive (port : Nat) (flit : RxFlit)
  /-- NAK (R256): A received NAK makes the sender replay from the wanted SEQ within 64 NCLK. -/
  | nak (port : Nat) (ack : Nat)
  /-- RETRY_TIMEOUT (R256): The oldest unacknowledged flit waits 2,048 NCLK and is replayed, and eight sends put the
  port into RETRAIN. -/
  | retryTimeout (port : Nat)
  /-- EGRESS_ARBITRATE (R259): A port's egress arbiter picks the next flit by priority and round-robin among channels
  and stands. -/
  | egressArbitrate (port : Nat)
  /-- LANE_FAILING (R248): A lane loses lock or decodes four uncorrectable codewords, and the receiver requests
  substitution or degraded width. -/
  | laneFailing (port : Nat) (lane : Nat) (codewords : Bool)
  /-- SUBST (R248): A received SUBST request moves a logical lane onto the spare lane at the next codeword boundary,
  followed by a replay. -/
  | subst (port : Nat) (lane : Nat)
  /-- DEGRADE (R249): A received DEGRADE request puts the port into four-lane width. -/
  | degrade (request : DegradeReq)
  /-- PORT_DOWN (R257): A port goes DOWN, discarding partial transactions and completing unacknowledged ones
  UNREACHABLE, or resending them on the bond. -/
  | portDown (port : Nat)
  /-- PORT_TRAINING_START (R250): A port starts training at power-up or 100 ms after going down. -/
  | portTrainingStart (port : Nat)
  /-- PORT_TRAINED (R251): A port finishes training and exchanges HELLO. -/
  | portTrained (port : Nat) (healthy : Nat)
  /-- HELLO (R251): A received HELLO is checked against the expected peer, moving the port to QUIET or MISCABLED. -/
  | hello (port : Nat) (device : W16) (peerPort : Nat)
  /-- TRAINING_TIMEOUT (R250): A port in TRAINING or RETRAIN is untrained after 500 ms and goes DOWN. -/
  | trainingTimeout (port : Nat)
  /-- READY (R252): READY is received from the peer; once both ends have sent it, the port moves from QUIET to RAMP.
  -/
  | ready (port : Nat)
  /-- RAMP_DOUBLING (R253): Each 1 ms in RAMP the advertised credit share doubles, and ACTIVE is reached after the
  third doubling. -/
  | rampDoubling (port : Nat)
  /-- LOCK (R261): Received LOCK flits set the bond's deskew, and the bond relocks when its skew leaves the range. -/
  | lock (bond : Nat) (lags : List (Nat × Nat))
  /-- LOCK_REMEASURE (R261): Every 1 ms a bond sends LOCK flits to re-measure its skew. -/
  | lockRemeasure (bond : Nat)
  /-- DIE_LINK_FLIT (R18): A die-link flit is checked on receipt, and a failing flit is retried. -/
  | dieLinkFlit (die : Nat) (port : Nat) (waiting : List DieFlit) (checkOk : Bool)
  /-- DIE_LINK_LANE_FAIL (R18): A die-link lane fails and is replaced by a spare lane, or a third failure reduces the
  port's width. -/
  | dieLinkLaneFail (die : Nat) (port : Nat) (lane : Nat)
  /-- COMMIT_PHASE1_END (R311): 10 µs after the covered steps are APPLIED, the COMMIT digests and seals its groups. -/
  | commitPhase1End (stand : Nat) (ticket : Nat)
  /-- LEDGER_SETTLED (R311): The covered steps' ledger entries are all settled, and the commit message is sent to the
  members. -/
  | ledgerSettled (stand : Nat) (ticket : Nat)
  /-- COMMIT_MESSAGE (R312): A commit message is received, and once all are held the commit decision is made. -/
  | commitMessage (stand : Nat) (msg : CommitMsg)
  /-- COMMIT_WAIT_EXPIRE (R314): COMMIT_WAIT_MS expires, and the stand rolls back, discards its records, halts, and
  completes PEER_TIMEOUT. -/
  | commitWaitExpire (stand : Nat) (ticket : Nat)
  /-- ROLLBACK (R315): Once every issued command has completed, the update groups are rolled back and TRS_INST is
  restored; `unreadable` are the steps of which the log deck gives back an uncorrectable word (R308). -/
  | rollback (due : RollbackDue)
  /-- REPLAY_ISSUE (R316): Replay re-issues the next logged command of the unverified steps with its recorded packet,
  and chute issue resumes at the end. -/
  | replayIssue (stand : Nat)
  /-- ENGINE_WATCHDOG (R334): At each millisecond tick the watchdogs find engines with no progress for 16 ms and start
  the first rung. -/
  | engineWatchdog (stand : Nat) (engine : EngineId)
  /-- WAIT_WATCHDOG (R336): The head command has waited WAIT_LIMIT_MS under WAIT, and its context is reset. -/
  | waitWatchdog (stand : Nat)
  /-- CONTEXT_RESET_REQUEST (R354): GLB_RST_REQ with RUNG 0b01 requests a context reset, accepted only from a
  permitted link. -/
  | contextResetRequest (link : LinkId) (stand : Nat) (context : Nat)
  /-- STAND_RESET_REQUEST (R354): GLB_RST_REQ with RUNG 0b11 requests a stand reset, accepted only from a permitted
  link. -/
  | standResetRequest (link : LinkId) (stand : Nat)
  /-- HEAD_DISCARD (R339): A command of a reset context reaches the head, reserves a slot and completes with
  CONTEXT_RESET. -/
  | headDiscard (stand : Nat)
  /-- RUNG_TIMEOUT (R338): A rung has not completed within its time limit, and the next rung starts. -/
  | rungTimeout (stand : Nat)
  /-- STAND_RESET (R343): A stand reset discards the stand's commands, empties the chute, clears its state, fences
  itself and rolls back. -/
  | standReset (stand : Nat)
  /-- SAMPLE_BOX_EXPIRE (R349): An increment core sample is not complete when its time box ends, and it is abandoned.
  -/
  | sampleBoxExpire (stand : Nat) (sampled : Nat)
  /-- CHIP_RESET (R345): A decided chip reset runs its phases from discard to STANDS_READY. -/
  | chipReset (scan : List (Nat × Bool))
  /-- CHIP_RESET_TIMER (R346): STANDS_READY is not set within 2.5 s of a chip reset decision, and PWR_CYCLE_REQ_N is
  asserted. -/
  | chipResetTimer
  /-- DEADLINE_TIMER (R347): The Warden deadline timer runs 5 s without a rearm and asserts PWR_CYCLE_REQ_N. -/
  | deadlineTimer
  /-- DEADLINE_REARM (R347): The active Warden's write to the deadline register rearms the timer. -/
  | deadlineRearm
  /-- MASK_ROM_BOOT (R361): Mask ROM reconstructs identity and verifies and starts a firmware slot, or enters recovery
  mode. -/
  | maskRomBoot (puf : Nat) (sigA : SigRead) (sigB : SigRead)
  /-- IMAGE_VERIFY (R366): Warden firmware verifies an image slot, applies it and fills CAP, or falls back and
  requests a power cycle. `missing` names units that start-up test does not find: dies by the numbers of Table 11-9, stack n as
  64 + n, port p as 128 + p, the Bucker 256, H1 257, the standby Warden 258. -/
  | imageVerify (readA : Bool) (readB : Bool) (sigA : SigRead) (sigB : SigRead) (missing : List Nat) (scan : List (Nat × Bool))
      (library : SigRead)
  /-- HBM_TRAINED (R357): The stacks are trained, hard repairs are applied and memory is zeroed. -/
  | hbmTrained (failed : List Nat)
  /-- STANDS_READY (R360): Stands, tables, gates and estimators are set from the image, and the chutes accept writes,
  unless a start-up fault holds. -/
  | standsReady
  /-- LOCKSTEP_MISMATCH (R373): The active Warden's cores disagree, so they halt, release the pins and start the
  standby. -/
  | lockstepMismatch
  /-- WARDEN_TAKEOVER (R373): The standby Warden completes journalled decisions, arms its timer and serves as active
  Warden. -/
  | wardenTakeover
  /-- STANDBY_FAULT (R374): The standby Warden fails its lockstep self-test and is retired. -/
  | standbyFault
  /-- WEAR_LEDGER_WRITE (R297): A pending wear ledger entry is written to flash within 1 s. -/
  | wearLedgerWrite
  /-- LEDGER_COMPACT (R297): A full wear ledger is compacted, removing old alarm and confirmed-fault entries. -/
  | ledgerCompact
  /-- CAPTURE_COPY (R288): Warden firmware copies a capture into the cruise library supplement in flash. -/
  | captureCopy (index : Nat)
  /-- EVENT_LOG_COPY (R386): A staged event is copied, deferred, into the flash event log. -/
  | eventLogCopy
  /-- SENSOR_SAMPLE (R385): Warden firmware samples a sensor at its period. -/
  | sensorSample (sensor : Nat) (reading : Int)
  /-- ENTDAA (R383): The W32 takes its I3C dynamic address through ENTDAA. -/
  | entdaa (address : Nat)
  /-- GET_CERTIFICATE (R384): An SPDM GET_CERTIFICATE request returns the slot 0 chain, or ERROR without identity. -/
  | getCertificate (via : Nat) (slot : Nat) (offset : Nat) (length : Nat)
  /-- CHALLENGE (R384): An SPDM CHALLENGE request is answered with a signature by the attestation key. -/
  | challenge (via : Nat) (nonce : List Byte)
  /-- GET_MEASUREMENTS (R384): An SPDM GET_MEASUREMENTS request returns the measurements of Table 15-3, signed. -/
  | getMeasurements (via : Nat) (index : Nat) (signed : Bool) (nonce : List Byte)
  /-- SPDM_NEGOTIATION (R384): An SPDM version, capability or algorithm request is answered with RSA-4096 and SHA-512
  only. -/
  | spdmNegotiation (via : Nat) (code : Nat) (data : List Byte)
  /-- REQUEST_UPDATE (R382): A PLDM RequestUpdate starts an update, or is refused ALREADY_IN_UPDATE_MODE while another
  agent is served. -/
  | requestUpdate (via : Nat)
  /-- UPDATE_TRANSFER (R381): PLDM update data is written into the inactive slot, marking it TRIAL. -/
  | updateTransfer (via : Nat) (component : Nat) (offset : Nat) (data : List Byte)
  /-- VERIFY_COMPLETE (R381): At VerifyComplete the written component is verified, and a failure is reported as
  VerifyFailed. -/
  | verifyComplete (via : Nat) (component : Nat) (sig : SigRead)
  /-- ACTIVATE_FIRMWARE (R382): ActivateFirmware over I3C starts a chip reset within 10 ms; over the mailbox it only
  sets PENDING_ACT. -/
  | activateFirmware (via : Nat)
  /-- MAILBOX_WRITE (R387): A write to a mailbox request window is assembled, or ignored and counted, and the request
  is parsed at LENGTH. -/
  | mailboxWrite (link : LinkId) (mbox : Nat) (offset : Nat) (data : List Byte)
  /-- LOG_READ (R387): A LOG_READ from a mailbox or over I3C returns event log entries. -/
  | logRead (via : ReqVia)
  /-- LEDGER_READ (R387): A LEDGER_READ from a mailbox or over I3C returns wear ledger entries. -/
  | ledgerRead (via : ReqVia)
  /-- SAMPLE_READ (R387): A SAMPLE_READ from a mailbox or over I3C returns an increment core sample. -/
  | sampleRead (via : ReqVia)
  /-- CAPTURE_READ (R387): A CAPTURE_READ from a mailbox or over I3C returns a capture from staging or from the supplement. -/
  | captureRead (via : ReqVia)
  /-- ROUTE_READ (R387): A ROUTE_READ from a mailbox or over I3C returns routing table entries. -/
  | routeRead (via : ReqVia)
  /-- SENSOR_READ (R385): A SENSOR_READ from a mailbox or over I3C returns one reading for each sensor. -/
  | sensorRead (via : ReqVia)
  /-- CERT_READ (R387): A CERT_READ from a mailbox or over I3C returns the DEVICE chain, or NOT_AVAILABLE without identity. -/
  | certRead (via : ReqVia)
  /-- PLDM (R387): A PLDM request from a mailbox or over I3C carries a PLDM type 0, 2 or 5 message and returns its response. -/
  | pldm (via : ReqVia)
  /-- VARIANT_READ (R387): A VARIANT_READ from a mailbox or over I3C returns the signed variant record. -/
  | variantRead (via : ReqVia)
  /-- MAILBOX_ABORT (R387): WDN_MBOX_CTRL.ABORT discards the request being assembled. -/
  | mailboxAbort (link : LinkId) (mbox : Nat)
  /-- MAILBOX_RELEASE (R387): WDN_MBOX_CTRL.RELEASE with the current GEN frees the mailbox; any other release is
  ignored. -/
  | mailboxRelease (link : LinkId) (mbox : Nat) (gen : W16)
  /-- HOST_LINK_UP (R358): A host link finishes PCI Express training and its data link comes up, setting
  GLB_STATUS.H0_UP or H1_UP. -/
  | hostLinkUp (link : LinkId)
  /-- MCTP_CONTROL_MESSAGE (R383): An MCTP control message arrives over I3C, such as the bus owner's assignment of the
  endpoint ID, and is answered. -/
  | mctpControlMessage (code : Nat) (data : List Byte)
  /-- STANDBY_POWER_LOSS (R410): P3V3_STBY is lost, the wake circuit stops, and LAST_OFF later reads 0, unknown. -/
  | standbyPowerLoss
  /-- MONITOR_BACK_IN_RANGE (R280): A clock, voltage or temperature monitor returns to its range, starting the 1 ms
  after which new steps on its dies are no longer marked, and ending a voltage excursion without a chip reset. -/
  | monitorBackInRange (kind : Nat) (unit : Nat)
  /-- LANE_MARKER_RECEIVE (R248): The receiver finds the lane marker on physical lane 8 and moves the logical lane
  onto the spare lane in its stream. -/
  | laneMarkerReceive (port : Nat) (lane : Nat)
  deriving DecidableEq, Repr

end Sys2Proof
end

