-- ==== Sys2Proof/Config.lean ====
section
/-! DEFINITION. What the specification leaves open and the machine goes on with: values that no definition fixes.  Each is
an opaque constant, so that a claim holds whatever it is. -/

namespace Sys2Proof.Config

/-- A byte that the specification does not give; the argument counts the free values taken (log entry 1). -/
opaque freeByte : Nat → BitVec 8

/-- A 32-bit value that the specification does not give. -/
opaque freeW32 : Nat → BitVec 32

/-- A 64-bit value that the specification does not give. -/
opaque freeW64 : Nat → BitVec 64

/-- A number that the specification does not give. -/
opaque freeNat : Nat → Nat

/-- A choice that the specification does not make. -/
opaque freeBool : Nat → Bool

/-- Coefficients c0, c1, c2 of a segment of a function's table (its code, and whether its derivative's), as binary32 codes (spec/05
R113: held in mask ROM, not given). -/
opaque romCoef : Nat → Bool → Int → BitVec 32 × BitVec 32 × BitVec 32

/-- The uniform grid of a function's table: segments of 2^-g, the first segment's number and how many follow it (spec/05 R113). -/
opaque romGrid : Nat → Bool → Nat × Int × Nat

/-- How many top mantissa bits select a segment of a table that goes by the exponent (spec/05 R113). -/
opaque romTopBits : Nat → Bool → Nat

/-- Whether the last product and sum of a layer normalisation are one fused operation (spec/05 R119 gives them no rounding). -/
opaque normFused : Bool

/-- VEC_TABLE_ID: VERSION and CHECK of the function tables (spec/05 Table 5-7). -/
opaque tableId : BitVec 48

/-- The macro and row of an SRAM store, given by its number of words, in which a word lies (spec/11 R295 names no layout). -/
opaque sramPlace : Nat → Nat → Nat × Nat

/-- The DRAM bank in its pseudo-channel, the row in the bank, and the first of the 18 bursts in the row, of a Flashing block whose
die-local number is b, from b >> 7 (spec/07 R169 leaves them to the stack geometry). -/
opaque bankOf : Nat → Nat
opaque rowOf : Nat → Nat
opaque burstOf : Nat → Nat

/-- Soft post-package repairs that one bank has resources for (spec/07 R177). -/
opaque softRepairs : Nat

/-- Hard post-package repairs that one bank has resources for (spec/07 R179). -/
opaque hardRepairs : Nat

/-- CAUSE of a wear ledger entry of a KIND for which spec/11 Table 11-6 names no detector: a coppice, a die marked or substituted, a fence, a
Warden takeover. -/
opaque wearCause : Nat → Nat

/-- How an increment core sample holds one 16-byte word with its Flashing status (0 clean, 1 corrected, 2 uncorrectable): spec/13
R350 gives no layout. -/
opaque sampleWord : List (BitVec 8) → Nat → List (BitVec 8)

/-- The bytes of a failing-operand capture (spec/11 R288 lists its parts and gives no layout), from those parts in R288's order. -/
opaque captureBytes : List (List (BitVec 8)) → List (BitVec 8)

/-- A sensor's 8-byte reading (spec/15 Table 15-6 gives no layout), from the unit's presence and its last sample, in units of the
sensor's resolution. -/
opaque sensorWord : Bool → Option Int → List (BitVec 8)

/-- The hash by which a link die chooses a compute die for a 4 KiB page (spec/01 R19). -/
opaque pageHash : Nat → Nat

/-- Protected bytes of one bank and of one row (spec/07 R177, R178). -/
opaque bankBytes : Nat
opaque rowBytes : Nat

/-- The device attestation key's signature over given bytes (spec/15 R375, spec/12 Table 12-9). -/
opaque signature : List (BitVec 8) → List (BitVec 8)

/-- The DEVICE certificate chain, leaf first (spec/15 R377, R387). -/
opaque deviceChain : List (BitVec 8)

/-- The mask ROM version (spec/15 Table 15-3, index 1). -/
opaque romVersion : List (BitVec 8)

/-- A management protocol's reply bytes to a request, where the specification names a published standard alone
(spec/15 R383, R384). -/
opaque managementReply : Nat → List (BitVec 8) → List (BitVec 8)

/-- The body of a CTRL flit (spec/10 R254 names its subtypes and gives no layout), from its subtype in R254's order and its
arguments. -/
opaque ctrlBody : Nat → Nat → Nat → List (BitVec 8)

/-- The 64-bit digest of NEW's entries in a PERMUTE's opening message (spec/09 R235 names no function), over the table's 16-byte
entries. -/
opaque permuteDigest : List (BitVec 8) → BitVec 64

/-- How the opening message holds the VERSIONs of OLD, NEW and ALT beside the digest in its one word (spec/09 R235, spec/10
Table 10-7), 56 bits. -/
opaque permuteVersions : BitVec 32 → BitVec 32 → BitVec 32 → BitVec 56

end Sys2Proof.Config
end

