-- ==== Sys2Proof/Machine/Reals.lean ====
section
/-! DEFINITION. The exact functions of the vector unit and their exact derivatives (spec/05 Table 5-1, R114), to 512 fraction bits:
what the accuracies of R113 and R114 are measured against.  Truncation of the series stays far below the smallest stated bound
(log entry 82). -/

namespace Sys2Proof.Machine

/-- One, with 512 fraction bits. -/
def fixOne : Nat := 2 ^ 512

/-- ln 2 with 512 fraction bits. -/
def fixLn2 : Nat :=
  9293584264128987901384440660653081117630633404975079641076009770578364573633075645167623918067512986930843040596952636663673675798576024949780480621393957

/-- 1/√(2π) with 512 fraction bits. -/
def fixNormal : Nat :=
  5348941470755712198646750007682177443835115376392592444138995792460249438482006689649181438381986101946420819632906916886095183257957789698649401813142783

/-- The exact value of an integer over 2^512. -/
def Val.ofFix (i : Int) : Val := .fin (decide (i < 0)) i.natAbs (-512)

/-- A finite value as an integer over 2^512; exact for every binary32 value. -/
def fixOf (neg : Bool) (m : Nat) (e : Int) : Int :=
  let v : Nat := if e ≥ -512 then m * 2 ^ (e + 512).toNat else m / 2 ^ (-512 - e).toNat
  if neg then -(v : Int) else v

/-- The product of two such integers. -/
def fixMul (a b : Int) : Int := a * b / (fixOne : Int)

/-- Σ r^k/k! from term `k`, whose value is `t`. -/
def expSum (r : Nat) : Nat → Nat → Nat → Nat
  | 0, _, _ => 0
  | n + 1, k, t => t + expSum r n (k + 1) (t * r / fixOne / (k + 1))

/-- e^r for 0 ≤ r ≤ ln 2. -/
def expSmall (r : Nat) : Nat := expSum r 110 0 fixOne

/-- 2^f for 0 ≤ f < 1. -/
def exp2Small (f : Nat) : Nat := expSmall (f * fixLn2 / fixOne)

/-- 2^x and e^x as values. -/
def exp2Real (x : Int) : Val := .fin false (exp2Small (x % (fixOne : Int)).toNat) (x / (fixOne : Int) - 512)
def expReal (x : Int) : Val :=
  let n := x / (fixLn2 : Int)
  .fin false (expSmall (x - n * fixLn2).toNat) (n - 512)

/-- e^(−y) for y ≥ 0. -/
def expNeg (y : Nat) : Nat :=
  let n := y / fixLn2 + 1
  expSmall (n * fixLn2 - y) / 2 ^ n

/-- Σ p/(2k+1) over falling powers p, with t² = `t2`. -/
def atanhSum (t2 : Nat) : Nat → Nat → Nat → Nat
  | 0, _, _ => 0
  | n + 1, k, p => p / (2 * k + 1) + atanhSum t2 n (k + 1) (p * t2 / fixOne)

/-- ln (a/b) for b ≤ a ≤ 2b. -/
def lnRatio (a b : Nat) : Nat :=
  let t := (a - b) * fixOne / (a + b)
  2 * atanhSum (t * t / fixOne) 170 0 t

/-- log₂ of a positive value. -/
def log2Fix (m : Nat) (e : Int) : Int :=
  (e + (Nat.log2 m : Int)) * fixOne + lnRatio m (2 ^ Nat.log2 m) * fixOne / fixLn2

/-- 1/(1 + e^(−x)). -/
def sigFix (x : Int) : Int :=
  let E := expNeg x.natAbs
  if x < 0 then ((E * fixOne / (fixOne + E) : Nat) : Int) else ((fixOne * fixOne / (fixOne + E) : Nat) : Int)

/-- ln(1 + e^x). -/
def softplusFix (x : Int) : Int := max x 0 + lnRatio (fixOne + expNeg x.natAbs) fixOne

/-- Σ x^(2k+1)/(2k+1)!! from term `k`, whose value is `p`. -/
def erfSum (x2 : Nat) : Nat → Nat → Nat → Nat
  | 0, _, _ => 0
  | n + 1, k, p => p + erfSum x2 n (k + 1) (p * x2 / fixOne / (2 * k + 3))

/-- The normal density, and the normal distribution function Φ, for |x| ≤ 16. -/
def densityFix (x : Int) : Int := ((fixNormal * expNeg (x.natAbs * x.natAbs / fixOne / 2) / fixOne : Nat) : Int)
def phiFix (x : Int) : Int :=
  let h := fixMul (densityFix x) (erfSum (x.natAbs * x.natAbs / fixOne) 800 0 x.natAbs)
  (fixOne / 2 : Nat) + (if x < 0 then -h else h)

/-- 2 √(2/π) × (x + 0.044715 x³), twice the argument of the tanh form of GELU, and its derivative (spec/05 names only 'tanh form':
the usual constants, PRESUMED, log entry 82). -/
def geluArg (x : Int) : Int := 4 * fixMul fixNormal (x + fixMul x (fixMul x x) * 44715 / 1000000)
def geluArg' (x : Int) : Int := 4 * fixMul fixNormal (fixOne + fixMul x x * 134145 / 1000000)

/-- f(x) of a table function other than EXP2 and LOG2 at a finite argument, |x| ≤ 256 (Table 5-1). -/
def tableFix (f : Nat) (x : Int) : Int :=
  match f with
  | 0x08 => 2 * sigFix (2 * x) - fixOne
  | 0x09 => sigFix x
  | 0x0a => fixMul x (phiFix x)
  | 0x0b => fixMul x (sigFix (geluArg x))
  | 0x0c => fixMul x (sigFix x)
  | _ => softplusFix x

/-- f′(x) of the same functions. -/
def tableFix' (f : Nat) (x : Int) : Int :=
  let σ := sigFix x
  match f with
  | 0x08 => let τ := sigFix (2 * x); 4 * fixMul τ (fixOne - τ)
  | 0x09 => fixMul σ (fixOne - σ)
  | 0x0a => phiFix x + fixMul x (densityFix x)
  | 0x0b => let τ := sigFix (geluArg x); τ + fixMul x (fixMul (fixMul τ (fixOne - τ)) (geluArg' x))
  | 0x0c => σ + fixMul x (fixMul σ (fixOne - σ))
  | _ => σ

/-- Beyond this magnitude the functions and derivatives above are within 2^-100 of their limits. -/
def reach (f : Nat) : Nat := if f = 0x0a ∨ f = 0x0b then 16 else 256

/-- f(x) of a table function with limits 0 and 1, −1 and 1, or 0 and x. -/
def tableReal (f : Nat) (n : Bool) (m : Nat) (e : Int) : Val :=
  if m = 0 then (if f = 0x09 then Val.pow2 (-1) else if f = 0x0d then Val.ofFix (softplusFix 0) else .fin n 0 0)
  else if (Val.ofNat (reach f)).lt (.fin false m e) then
    (if f = 0x08 then Val.ofInt (if n then -1 else 1) else if f = 0x09 then (if n then .fin false 0 0 else Val.one)
     else if n then .fin (decide (f ≠ 0x0d)) 0 0 else .fin n m e)
  else Val.ofFix (tableFix f (fixOf n m e))

/-- A quotient to 512 fraction bits and more. -/
def quotReal (n : Bool) (m1 : Nat) (e1 : Int) (m2 : Nat) (e2 : Int) : Val :=
  .fin n (m1 * 2 ^ (512 + Nat.log2 m2) / m2) (e1 - e2 - 512 - (Nat.log2 m2 : Int))

/-- 1/√x of a positive value, to 500 fraction bits and more. -/
def rsqrtReal (m : Nat) (e : Int) : Nat × Int :=
  let m0 := if e % 2 == 0 then m else 2 * m
  let e0 := if e % 2 == 0 then e else e - 1
  let k := 512 + Nat.log2 m0
  (Nat.sqrt (2 ^ (2 * k) / m0), -(k : Int) - e0 / 2)

/-- f′(x) of every function except RELU at a finite argument inside the domain. -/
def derivReal (f : Nat) (n : Bool) (m : Nat) (e : Int) : Val :=
  let x : Val := .fin n m e
  match f with
  | 0x01 => if (Val.ofNat 256).lt x then .inf false else if x.lt (Val.ofInt (-512)) then Val.zero
            else (exp2Real (fixOf n m e)).mul (Val.ofFix fixLn2)
  | 0x02 => if (Val.ofNat 256).lt x then .inf false else if x.lt (Val.ofInt (-512)) then Val.zero else expReal (fixOf n m e)
  | 0x03 => (quotReal n 1 0 m e).mul (quotReal false fixOne 0 fixLn2 0)
  | 0x04 => quotReal n 1 0 m e
  | 0x05 => quotReal true 1 0 (m * m) (2 * e)
  | 0x06 => let (a, b) := rsqrtReal m e; .fin true (a * a * a) (3 * b - 1)
  | 0x07 => let (a, b) := rsqrtReal m e; .fin false a (b - 1)
  | _ =>
    if (Val.ofNat (reach f)).lt (.fin false m e) then
      (if f = 0x08 ∨ f = 0x09 ∨ n then Val.zero else Val.one)
    else Val.ofFix (tableFix' f (fixOf n m e))

/-- The limits of the exact derivative at −∞ and at +∞ (none where the domain does not reach), and at the zero that ends the
domain or is a pole (DEDUCED from R113's 'limits of the exact function', log entry 82). -/
def derivLimits (f : Nat) : Option Val × Option Val × Option Val :=
  match f with
  | 0x01 | 0x02 => (some Val.zero, some (.inf false), none)
  | 0x03 | 0x04 => (none, some Val.zero, some (.inf false))
  | 0x05 => (some Val.zero.neg, some Val.zero.neg, some (.inf true))
  | 0x06 => (none, some Val.zero.neg, some (.inf true))
  | 0x07 => (none, some Val.zero, some (.inf false))
  | 0x08 | 0x09 => (some Val.zero, some Val.zero, none)
  | _ => (some Val.zero, some Val.one, none)

/-! ### Table values and their accuracy (R113, R114) -/

/-- One unit in the last place of a value. -/
def ulpOf (m : Nat) (e : Int) : Val := Val.pow2 (quantum m e 24 (-149))

/-- A table's value where it keeps the stated accuracy, some ulp or an absolute bound whichever is larger; otherwise, as no such table is
this hardware's, the exact value correctly rounded (log entry 82). -/
def withAccuracy (exact : Val) (ulps : Nat) (absExp : Option Int) (cand : Val) : Val :=
  match exact.r32, exact with
  | .fin _ _ _, .fin _ m e =>
    let err := (cand.sub exact).abs
    let near (b : Val) : Bool := !cand.nonFinite && err.le b
    if near ((ulpOf m e).mul (Val.ofNat ulps)) || (match absExp with | some k => near (Val.pow2 k) | none => false) then cand
    else exact.r32
  | w, _ => w

/-- The table's polynomial at an offset: c0 + t × (c1 + t × c2) by two fused multiply-adds (R113). -/
def segValue (f : Nat) (deriv : Bool) (seg : Int) (t : Val) : Val :=
  let c := Config.romCoef f deriv seg
  fma32 t.r32 (fma32 t.r32 (val32 c.2.2) (val32 c.2.1)) (val32 c.1)

/-- The largest integer not above a finite value. -/
def floorInt (neg : Bool) (m : Nat) (e : Int) : Int :=
  let v : Int := if neg then -(m : Int) else m
  if e ≥ 0 then v * (2 ^ e.toNat : Nat) else v / ((2 ^ (-e).toNat : Nat) : Int)

/-- The value is an integer. -/
def isInteger (m : Nat) (e : Int) : Bool := decide (e ≥ 0) || decide (m % 2 ^ (-e).toNat = 0)

/-- A table over a uniform grid: segments of width 2^-g, of which those of a bounded range are kept (R113, step 1). -/
def gridValue (f : Nat) (deriv : Bool) (n : Bool) (m : Nat) (e : Int) : Val :=
  let (g, lo, count) := Config.romGrid f deriv
  let k := min (max (floorInt n m (e + g)) lo) (lo + count)
  segValue f deriv k ((Val.fin n m e).sub ((Val.ofInt k).scale (-(g : Int))))

/-- A table by exponent and top mantissa bits (R113, step 1). -/
def expValue (f : Nat) (deriv : Bool) (n : Bool) (m : Nat) (e : Int) : Val :=
  let b := Config.romTopBits f deriv
  let q := e + (Nat.log2 m : Int) - (b : Int)
  let k := floorInt false m (e - q)
  segValue f deriv ((q + b) * 2 ^ (b + 1) + (if n then -k else k)) ((Val.fin n m e).sub ((Val.fin n k.toNat 0).scale q))

/-- A table whose segments go by the exponent: LOG2, and the derivatives of LOG2, LN, RECIP, RSQRT and SQRT. -/
def byExponent (f : Nat) : Bool := decide (3 ≤ f) && decide (f ≤ 7)

/-- A table's value at a finite, non-zero argument. -/
def romValue (f : Nat) (deriv : Bool) (n : Bool) (m : Nat) (e : Int) : Val :=
  if byExponent f then expValue f deriv n m e else gridValue f deriv n m e

end Sys2Proof.Machine
end

