-- ==== Sys2Proof/Machine/Functions.lean ====
section
/-! DEFINITION. The functions of the vector unit and their derivatives (spec/05 R113, R114), and the sums of the Batten engine
(R119). -/

namespace Sys2Proof.Machine

/-- The binary32 constants of Table 5-1. -/
def ln2Const : Val := val32 0x3f317218
def log2eConst : Val := val32 0x3fb8aa3b

/-- EXP2 at a finite argument that is no integer: the table's value for the fraction, 1 ulp, then scaled by 2^n (R113). -/
def exp2Frac (n : Bool) (m : Nat) (e : Int) : Val :=
  let k := floorInt n m e
  match (Val.fin n m e).sub (Val.ofInt k) with
  | .fin _ mf ef =>
    (withAccuracy (.fin false (exp2Small (fixOf false mf ef).toNat) (-512)) 1 none (gridValue 1 false false mf ef)).scale k
  | w => w

/-- EXP2: exact at integers, and otherwise the table's value for the fraction scaled by 2^n (R113). Beyond binary32's range the result
is the limit. -/
def exp2Fn (x : Val) : Val :=
  match x with
  | .nan => .nan
  | .inf n => if n then Val.zero else .inf false
  | .fin n m e =>
    if m = 0 then Val.one
    else if (Val.ofNat 128).le x then .inf false
    else if x.lt (Val.ofInt (-160)) then Val.zero
    else if isInteger m e then (Val.pow2 (floorInt n m e)).r32
    else (exp2Frac n m e).r32

/-- LOG2 (R113): its zeros and negatives, and otherwise the table, to 1 ulp or 2^-24 in [0.5, 2). -/
def log2Fn (x : Val) : Val :=
  match x with
  | .nan => .nan
  | .inf n => if n then .nan else .inf false
  | .fin n m e =>
    if m = 0 then .inf true else if n then .nan
    else withAccuracy (Val.ofFix (log2Fix m e)) 1 (if (Val.pow2 (-1)).le x && x.lt (Val.ofNat 2) then some (-24) else none)
      (romValue 3 false n m e)

/-- 1/√m × 2^(−e/2) for an even e, with a sticky bit below at least 64 result bits. -/
def rsqrtSticky (m : Nat) (e : Int) : Nat × Int :=
  let m0 := if e % 2 == 0 then m else 2 * m
  let e0 := if e % 2 == 0 then e else e - 1
  let k := 80 + Nat.log2 m0
  let q := Nat.sqrt (2 ^ (2 * k) / m0)
  (2 * q + (if q * q * m0 = 2 ^ (2 * k) then 0 else 1), -(k : Int) - e0 / 2 - 1)

/-- RSQRT, correctly rounded (Table 5-1). -/
def rsqrtFn (x : Val) : Val :=
  match x with
  | .nan => .nan
  | .inf n => if n then .nan else Val.zero
  | .fin n m e =>
    if m = 0 then .inf n else if n then .nan else let (m', e') := rsqrtSticky m e; (Val.fin false m' e').r32

/-- RECIP, correctly rounded (Table 5-1). -/
def recipFn (x : Val) : Val := div32 Val.one x

/-- A table function with its limits at the infinities, within Table 5-1's accuracy (R113). -/
def limitsFn (f : Nat) (atNeg atPos x : Val) : Val :=
  match x with
  | .nan => .nan
  | .inf n => if n then atNeg else atPos
  | .fin n m e => withAccuracy (tableReal f n m e) (if f ≤ 0x09 then 2 else 4) (some (if f ≤ 0x09 then -26 else -24)) (romValue f false n m e)

/-- f(x) of Table 5-1. -/
def funcVal (f : Nat) (x : Val) : Val :=
  match f with
  | 0x01 => exp2Fn x
  | 0x02 => exp2Fn (mul32 x log2eConst)
  | 0x03 => log2Fn x
  | 0x04 => mul32 (log2Fn x) ln2Const
  | 0x05 => recipFn x
  | 0x06 => rsqrtFn x
  | 0x07 => sqrt32 x
  | 0x08 => limitsFn 0x08 Val.one.neg Val.one x
  | 0x09 => limitsFn 0x09 Val.zero Val.one x
  | 0x0a => limitsFn 0x0a Val.zero (.inf false) x
  | 0x0b => limitsFn 0x0b Val.zero (.inf false) x
  | 0x0c => limitsFn 0x0c Val.zero (.inf false) x
  | 0x0d => limitsFn 0x0d Val.zero (.inf false) x
  | _ => if x.isNan then .nan else if Val.zero.lt x then x else Val.zero

/-- 1 where a value is above zero, and 0 otherwise: RELU's derivative (R114). -/
def stepVal (x : Val) : Val := if x.isNan then .nan else if Val.zero.lt x then Val.one else Val.zero

/-- f′ by its own table (R114): the exact derivative's limits at the infinities and at the end of the domain, not-a-number below a
domain that starts at zero, and otherwise the table's value within 4 ulp or 2^-22. -/
def derivTable (f : Nat) (x : Val) : Val :=
  let lim := derivLimits f
  match x with
  | .nan => .nan
  | .inf n => (if n then lim.1 else lim.2.1).getD .nan
  | .fin n m e =>
    match (if m = 0 then lim.2.2 else none) with
    | some v => v
    | none => if n && decide (m ≠ 0) && lim.1.isNone then .nan else withAccuracy (derivReal f n m e) 4 (some (-22)) (romValue f true n m e)

/-- f′ from the saved input (R114, DMODE 0). -/
def derivIn (f : Nat) (x : Val) : Val := if f = 0x0e then stepVal x else derivTable f x

/-- A function has a T8 formula (Table 5-1). -/
def hasOutputForm (f : Nat) : Bool := [0x01, 0x02, 0x05, 0x06, 0x07, 0x08, 0x09, 0x0d, 0x0e].contains f

/-- f′ from the saved output (R114, DMODE 1, Table 5-1). -/
def derivOut (f : Nat) (y : Val) : Val :=
  match f with
  | 0x01 => mul32 y ln2Const
  | 0x02 => y
  | 0x05 => (mul32 y y).neg
  | 0x06 => mul32 (mul32 (mul32 (Val.pow2 (-1)).neg y) y) y
  | 0x07 => mul32 (Val.pow2 (-1)) (recipFn y)
  | 0x08 => fma32 y.neg y Val.one
  | 0x09 => mul32 y (sub32 Val.one y)
  | 0x0d => sub32 Val.one (funcVal 0x02 y.neg)
  | _ => stepVal y

/-! ### Sums of rows (R119) -/

/-- Neighbours added in pairs. -/
def pairs32 : List Val → List Val
  | a :: b :: rest => add32 a b :: pairs32 rest
  | l => l

/-- The binary pairwise tree over 64 values. -/
def tree64 (l : List Val) : Val := (pairs32 (pairs32 (pairs32 (pairs32 (pairs32 (pairs32 l)))))).headD Val.zero

/-- sumt: the tile sums added in ascending order; `x` gives +0 beyond the columns. -/
def sumt (tiles : Nat) (x : Nat → Val) : Val :=
  let ts := (List.range tiles).map (fun t => tree64 ((List.range 64).map (fun j => x (64 * t + j))))
  match ts with
  | [] => Val.zero
  | t :: rest => rest.foldl add32 t

/-- The maximum over a tile, a not-a-number spreading. -/
def maxVal : List Val → Val
  | [] => .inf true
  | v :: vs => vs.foldl Val.max v

/-- (mt, lt) of one tile (R119): its maximum, and the tree sum of the exponentials where the tile is not masked whole. -/
def tileStats (z : List Val) : Val × Val :=
  let mt := maxVal z
  (mt, if mt = .inf true then Val.zero else tree64 (z.map (fun v => exp2Fn (sub32 v mt))))

/-- One tile combined into a row's (m, l) (R119). -/
def combine (p : Val × Val) (t : Val × Val) : Val × Val :=
  if t.1 = .inf true then p
  else
    let mn := p.1.max t.1
    (mn, add32 (mul32 p.2 (exp2Fn (sub32 p.1 mn))) (mul32 t.2 (exp2Fn (sub32 t.1 mn))))

end Sys2Proof.Machine
end

