-- ==== Sys2Proof/Machine/ComputeTypes.lean ====
section
/-! DEFINITION. Plain data of the compute dies (spec/04, spec/05, spec/06): arrays, cores, clusters, taps and kept
accumulator sets. -/

namespace Sys2Proof.Machine

/-- A kept long accumulator set (spec/04 R108): held or free, the context that kept it, and its values, row by row, as
64-bit accumulator codes. -/
structure KeptSet where
  held : Bool
  ctx : Nat
  rows : Nat
  cols : Nat
  vals : List W64
  deriving DecidableEq, Repr

def KeptSet.empty : KeptSet := ⟨false, 0, 0, 0, []⟩

/-- The statistics of one tile row as a tap combines it: the tile's maximum and sum (spec/05 R118). -/
structure TileStat where
  mt : W32
  lt : W32
  deriving DecidableEq, Repr

/-- An armed tap (spec/05 R122, R123). -/
structure Tap where
  stand : Nat
  ticket : Nat
  slotNo : Nat
  /-- next tile due, 0 to 2,047 -/
  next : Nat
  /-- tiles taken ahead of their turn: (tile, the 64 rows' statistics) -/
  window : List (Nat × List TileStat)
  /-- tiles taken of products still in flight: (the product's ticket, tile) -/
  seen : List (Nat × Nat)
  /-- the rows' (m, l) so far, as binary32 codes -/
  rows : List (W32 × W32)
  deriving DecidableEq, Repr

/-- A data cell's registers (spec/04 R86): the stationary register in use and the one loading, 16 bits each, the run register, which
holds an exact sum, and the long accumulator's code. -/
structure Cell where
  inUse : W16
  loading : W16
  run : Val
  acc : W64
  deriving DecidableEq, Repr

def Cell.reset : Cell := ⟨0, 0, Val.zero, 0⟩

/-- One array (spec/04 R86, R105; spec/11 R285-R287). -/
structure ArraySt where
  /-- the 64 × 64 data cells, row by row (R86); reset every cell zero, an absent cell being so -/
  cells : List Cell
  /-- MAT_COLMAP.COLUMN, 7 bits (Table 4-12); reset from the wear ledger, none recorded -/
  column : Nat
  /-- MAT_COLMAP.VALID, 1 bit (Table 4-12); reset from the wear ledger -/
  remapped : Bool
  /-- confirmed faults of the array, the newest first: the operating second of each, and the column that its capture
  located (MAT_STATE.CONFIRMED, spec/11 R285, R286); reset from the wear ledger -/
  faults : List (W64 × Option Nat)
  /-- operating seconds of the threshold alarms not yet counted as a fault (spec/11 R285); reset from the wear ledger -/
  alarms : List W64
  deriving DecidableEq, Repr

def ArraySt.reset : ArraySt := ⟨[], 0, false, [], []⟩

/-- One physical core (spec/04 R97-R101, spec/05 R117, R122). -/
structure CoreSt where
  /-- the logical core number it answers, MAT_CORE.LOGICAL (Table 4-14); reset its own number for cores 0 to 3, none
  for core 4 -/
  logical : Option Nat
  /-- retired (MAT_STATE.ROLE 0b10, Table 4-13); reset from the wear ledger -/
  retired : Bool
  /-- out for cruise (MAT_STATE.CRUISE, Table 4-13); reset 0 -/
  cruise : Bool
  /-- kept set 0 (R108); reset free -/
  kept0 : KeptSet
  /-- kept set 1 (R108); reset free -/
  kept1 : KeptSet
  /-- the 2 MiB scratchpad with its Flashing words (R97); reset zero -/
  spad : Mem
  /-- the Batten store, 32,768 entries of two binary32 words, entry e at byte 8e (spec/05 R117); reset +0 -/
  batten : Mem
  /-- armed taps, at most 4 (spec/05 R122); reset none -/
  taps : List Tap
  /-- operating seconds of confirmed lane faults (VEC_LANE.CONFIRMED, spec/05 Table 5-8); reset from the wear ledger -/
  laneFaults : List W64
  /-- VEC_LANE.LAST_LANE, 10 bits (Table 5-8); reset 0x3FF -/
  lastLane : Nat
  /-- operating second at which the core came into service or last passed a cruise run (spec/11 R292); reset 0 -/
  lastCruise : W64
  /-- cruise runs counted overdue since then (spec/11 R292); reset 0 -/
  overdue : Nat
  /-- the core has come into service since power-up, so that `lastCruise` counts (spec/11 R292); reset 0 -/
  serving : Bool
  deriving DecidableEq, Repr

/-- The reset state of the core at position `k` (0 to 4) of its cluster (spec/04 Table 4-14). -/
def CoreSt.reset (k : Nat) : CoreSt :=
  { logical := if k < 4 then some k else none, retired := false, cruise := false, kept0 := KeptSet.empty,
    kept1 := KeptSet.empty, spad := Mem.empty, batten := Mem.empty, taps := [], laneFaults := [],
    lastLane := 0x3ff, lastCruise := 0, overdue := 0, serving := false }

end Sys2Proof.Machine
end

