-- ==== Sys2Proof/Machine/TrsTypes.lean ====
section
/-! DEFINITION. Plain data of reductions, collectives and resharding (spec/06 R140, spec/09). -/

namespace Sys2Proof.Machine

/-- An owner table entry (spec/06 Table 6-2); `state` is 0 absent, 1 valid, 2 moving. -/
structure OwnerEntry where
  device : W16
  stand : Nat
  state : Nat
  addr : Nat
  deriving DecidableEq, Repr

/-- An owner table (spec/06 R140, Table 6-10; spec/09 R222). -/
structure OwnerTab where
  loaded : Bool
  blockLog2 : Nat
  entries : List OwnerEntry
  version : W32
  blockKib : Nat
  deriving DecidableEq, Repr

def OwnerTab.reset : OwnerTab := ⟨false, 0, [], 0, 0⟩

/-- A member table (spec/09 R222, R223, Tables 9-4, 9-15, 9-16). -/
structure MemberTab where
  loaded : Bool
  tg : Bool
  members : List (W16 × Nat)
  version : W32
  /-- next instance number (Table 9-16) -/
  inst : W32
  deriving DecidableEq, Repr

def MemberTab.reset : MemberTab := ⟨false, false, [], 0, 0⟩

/-- A late estimator (spec/09 R228): exact estimate in µs, samples taken saturating at 32. -/
structure LateEst where
  est : Rat
  samples : Nat
  deriving DecidableEq, Repr

/-- Why a ledger entry was made (spec/09 Table 9-5). -/
inductive LateReason where
  | late | fenced | mismatch
  deriving DecidableEq, Repr

/-- A ledger entry's disposition (spec/09 Table 9-5). -/
inductive LateDisp where
  | isOpen | carried | dropped
  deriving DecidableEq, Repr

/-- A late-ledger entry (spec/09 Table 9-5) with the step that made it. -/
structure LateEntry where
  step : Option W64
  collId : Nat
  mtab : Nat
  /-- the member table's version then -/
  version : W32
  reason : LateReason
  disp : LateDisp
  rank : Nat
  segment : Nat
  inst : W32
  carryInst : W32
  /-- made by this device as the segment's owner -/
  own : Bool
  /-- the estimator was unseasoned, or the policy CARRY, when the window closed (R230) -/
  mayCarry : Bool
  deriving DecidableEq, Repr

/-- A carried contribution held at its owner (spec/09 R231). -/
structure Carry where
  collId : Nat
  mtab : Nat
  version : W32
  segment : Nat
  rank : Nat
  inst : W32
  vals : List W32
  /-- it carries TAINT (R226) -/
  taint : Bool
  /-- the instance that added it, and the step of that instance's command -/
  added : Option (W32 × Option W64)
  deriving DecidableEq, Repr

/-- A contribution held in reduction staging (spec/09 R225, R226). -/
structure Contrib where
  mtab : Nat
  inst : W32
  version : W32
  op : Nat
  collId : Nat
  count : Nat
  rank : Nat
  segment : Nat
  taint : Bool
  vals : List W32
  /-- the time at which it was complete in staging -/
  doneAt : Option W64
  deriving DecidableEq, Repr

/-- A REDUCE or COLLECTIVE at work on this device (spec/09 R219-R227). -/
structure Coll where
  ticket : Nat
  mtab : Nat
  inst : W32
  version : W32
  op : Nat
  collId : Nat
  /-- E, the elements of the whole tensor -/
  count : Nat
  policy : Nat
  /-- this device's module result so far, one binary32 code per element -/
  vals : List W32
  /-- this device's contribution carries TAINT (R226) -/
  taint : Bool
  /-- the time at which the module result was complete -/
  ownAt : Option W64
  /-- segments owned here whose late window has closed (R227) -/
  closed : List Nat
  /-- (segment, rank) of contributions discarded under R226 -/
  mism : List (Nat × Nat)
  /-- (segment, result codes so far, TAINT) formed here or received -/
  results : List (Nat × List W32 × Bool)
  /-- segments formed here -/
  formed : List Nat
  /-- ledger entries of the instance, carries applied, the window used in µs -/
  lateCount : Nat
  carriedCount : Nat
  windowUs : Nat
  /-- a member was fenced while it ran -/
  memberFenced : Bool
  /-- the results come from the step record (R232) -/
  fromRecord : Bool
  /-- (segment, owner) of own contributions that found no route or whose request failed: they are sent again, never dropped
  (R225) -/
  unsent : List (Nat × Nat)
  deriving DecidableEq, Repr

/-- A PERMUTE in flight (spec/09 R235-R237). -/
structure Perm where
  ticket : Nat
  mtab : Nat
  inst : W32
  phase : Nat          -- 1 opening, 2 pulling, 3 holding and closing
  /-- ranks whose opening message has arrived -/
  opened : List Nat
  /-- ranks that have finished pulling -/
  pulledBy : List Nat
  /-- blocks still to pull -/
  todo : List Nat
  /-- blocks asked of their ALT owner -/
  alted : List Nat
  /-- blocks a piece of which was refused or lost since the last attempt: the block, and whether STEPCHK refused it -/
  failed : List (Nat × Bool)
  /-- blocks that some source failed to supply for another reason than STEPCHK (R237) -/
  hard : List Nat
  /-- data of pulled blocks in the space reserved for it, by where it goes, that the memory does not take yet (spec/10 R260) -/
  arrived : List (Nat × List Byte)
  pulled : Nat
  copied : Nat
  /-- blocks of NEW that no source supplied, here or at the member that they were for -/
  absent : List Nat
  /-- blocks absent only because of STEPCHK -/
  stepAbsent : List Nat
  /-- states of NEW's entries as loaded, for VERSION_MISMATCH -/
  loaded : List Nat
  mismatch : Bool
  memberFenced : Bool
  deriving DecidableEq, Repr

end Sys2Proof.Machine
end

