-- ==== Sys2Proof/Machine/UnitTypes.lean ====
section
/-! DEFINITION. The units gathered: a stand, a cluster, the memory system, the fabric and the integrity machinery. -/

namespace Sys2Proof.Machine

/-- One stand (spec/02, spec/09, spec/12, spec/13): everything that is its own apart from its clusters. -/
structure StandSt where
  /-- the chute and its registers (spec/02 R38-R43) -/
  chute : Chute
  /-- result slots, 256 (spec/02 Table 2-15); reset FREE -/
  slots : Tab Slot
  /-- RES_CURSOR.CURSOR, 8 bits (Table 2-17); reset 0 -/
  cursor : Nat
  /-- EVT_VALUE, 256 of 32 bits (spec/02 R47); reset 0 -/
  evt : Tab W32
  /-- EVT_WAITVAL, 256 of 32 bits (spec/02 R47); reset 0 -/
  wait : Tab W32
  /-- commands issued and not complete, in issue order (spec/02 R47); reset none -/
  inflight : List Cmd
  /-- the number the next issued command takes; reset 0 -/
  nextTicket : Nat
  /-- the step machinery (spec/12) -/
  steps : StepSt
  /-- resets (spec/13) -/
  rst : RstStand
  /-- owner tables, 16 (spec/06 R140); reset unloaded -/
  owners : Tab OwnerTab
  /-- member tables, 16 (spec/09 R222); reset unloaded -/
  mtabs : Tab MemberTab
  /-- late estimators, 256 by COLL_ID (spec/09 R228); reset the image's seed -/
  lates : Tab LateEst
  /-- late-ledger entries not yet released (spec/09 Table 9-5); reset none -/
  ledger : List LateEntry
  /-- carried contributions held (spec/09 R231); reset none -/
  carries : List Carry
  /-- contributions in reduction staging (spec/09 R225); reset none -/
  contribs : List Contrib
  /-- collectives in flight (spec/09 R224); reset none -/
  colls : List Coll
  /-- PERMUTEs in flight (spec/09 R235); reset none -/
  perms : List Perm
  /-- watched peers (spec/12 R323); reset none -/
  peers : List Peer
  /-- outstanding requests (spec/10 R265, R266); reset none -/
  reqs : List Req
  /-- next transaction TAG (spec/10 R265); reset 0 -/
  nextTag : Nat
  /-- requests that wait for a TAG or for those outstanding on another route to the same device (spec/10 R265); reset
  none -/
  held : List HeldReq
  /-- the recovery window is open (spec/09 R239); reset 0 -/
  recovery : Bool
  deriving DecidableEq, Repr

def StandSt.reset : StandSt :=
  { chute := Chute.reset, slots := [], cursor := 0, evt := [], wait := [], inflight := [], nextTicket := 0,
    steps := StepSt.reset, rst := RstStand.reset, owners := [], mtabs := [], lates := [], ledger := [], carries := [],
    contribs := [], colls := [], perms := [], peers := [], reqs := [], nextTag := 0, held := [], recovery := false }

/-- One cluster's own state beside its cores (spec/01 R15, spec/06, spec/11). -/
structure ClusterSt where
  /-- the 12 MiB cluster scratch (spec/06); reset zero -/
  scratch : Mem
  /-- the spare core is in permanent service (spec/11 R287); reset from the wear ledger -/
  coppiced : Bool
  /-- the next core of cruise rotation, 0 to 4 (spec/11 R290); reset 0 -/
  rotation : Nat
  /-- spared and scrubbed rows of the cluster's SRAM macros, by the macro's number (spec/11 R295); reset none -/
  rows : Tab SramRows
  deriving DecidableEq, Repr

def ClusterSt.reset : ClusterSt := ⟨Mem.empty, false, 0, []⟩

/-- The compute dies' units (spec/04, spec/05, spec/06). -/
structure Compute where
  /-- physical cores, c = 20 × die + 5 × cluster + core, 0 to 359 (spec/11 Table 11-9) -/
  cores : Tab CoreSt
  /-- arrays, g = 4 × c + array (spec/04 R86) -/
  arrays : Tab ArraySt
  /-- clusters, x = 4 × die + cluster, 0 to 71 -/
  clusters : Tab ClusterSt
  deriving DecidableEq, Repr

def Compute.reset : Compute := ⟨[], [], []⟩

/-- The stacked memory system beside its contents (spec/07, spec/08). -/
structure MemSys where
  /-- stacks S00 to S31 -/
  stk : Tab StackSt
  /-- landing dies L0 to L7 -/
  lands : Tab LandDie
  /-- update groups, 8,192 (spec/08 R192) -/
  groups : Tab UGroup
  /-- MEM_SCRUB.PASSES, 32 bits (spec/07 Table 7-6); reset 0 -/
  passes : W32
  /-- Flashing blocks that the present scrub pass has read, numbered 2^28 × landing die + block, as intervals [lo, hi) that rise
  and do not touch; MEM_SCRUB.PROGRESS follows from them (R176, Table 7-6); reset none -/
  scrubbed : List (Nat × Nat)
  /-- words that scrub has read and not yet written back (R176); reset none -/
  writeBacks : List WriteBack
  /-- words that a read corrected, with the symbol position, or found uncorrectable, whose fault the controller has still to
  classify (R177); reset none -/
  faults : List (Nat × Option Nat)
  deriving DecidableEq, Repr

def MemSys.reset : MemSys := ⟨[], [], [], 0, [], [], []⟩

/-- The Caskline fabric and the die links (spec/10, spec/01 R18). -/
structure Fabric where
  /-- ports P00 to P27 -/
  ports : Tab PortSt
  /-- bonds 0 to 11 -/
  bonds : Tab BondSt
  /-- die-link ports, key 32 × die + port -/
  dieLinks : Tab DieLink
  /-- fence bits: (stand, device) (spec/10 R272); reset none -/
  fences : List (Nat × W16)
  /-- transactions that have crossed from one link die to another in transit, key 4 × from + to (spec/10 R269; the model's own record);
  reset 0 -/
  ring : Tab Nat
  /-- the reduction that holds the link-die Truss stages, by stand and ticket, and the stand that held them last (spec/01 R22); reset
  none and 63 -/
  trussNow : Option (Nat × Nat)
  trussLast : Nat
  /-- TIME requests outstanding: (TAG, t1) (spec/10 R270); reset none -/
  timeReqs : List (Nat × W64)
  /-- next TAG of the module's own requests; reset 0 -/
  nextTag : Nat
  deriving DecidableEq, Repr

def Fabric.reset : Fabric :=
  { ports := [], bonds := [], dieLinks := [], fences := [], ring := [], trussNow := none, trussLast := 63, timeReqs := [], nextTag := 0 }

/-- Integrity (spec/11). -/
structure Integ where
  /-- wear ledger entries not yet in flash, oldest first (R297); reset none -/
  pending : List WearEntry
  /-- captures in the increment core region, newest first, at most 64 (R288); reset none -/
  captures : List Capture
  /-- the cruise run in progress, at most one in the module (R290); reset none -/
  cruise : Option CruiseRun
  /-- checked tiles whose mismatch awaits its recompute (spec/04 R104); reset none -/
  tiles : List TileFault
  /-- engines fenced until the next chip reset (spec/13 R342); reset none -/
  fenced : List EngineId
  /-- cores whose retirement waits for a command to complete: stand, ticket, core, cause (spec/11 Table 11-7); reset
  none -/
  retiring : List (Nat × Nat × Nat × Nat)
  /-- retirements that a halted Warden did not apply: core, cause (spec/11 Table 11-7); reset none -/
  decided : List (Nat × Nat)
  deriving DecidableEq, Repr

def Integ.reset : Integ := ⟨[], [], none, [], [], [], []⟩

/-- The time base (spec/16 R401) and its alignment (spec/10 R270). -/
structure ClockSt where
  /-- TB_NOW.NS, 64 bits (spec/16 Table 16-11); reset 0 -/
  now : W64
  /-- alignment with the parent (spec/10 R270) -/
  sync : TimeSync
  deriving DecidableEq, Repr

def ClockSt.reset : ClockSt := ⟨0, TimeSync.reset⟩

/-- The counter block (spec/02 R12, spec/11 R300). -/
structure Counters where
  /-- 48-bit counters by their offset in the CNT block divided by 8 (Table 11-9); reset 0 -/
  vals : Tab W48
  /-- bytes or elements counted toward the next unit of a counter that counts whole 4 KiB pages or the like; reset 0 -/
  rest : Tab Nat
  deriving DecidableEq, Repr

def Counters.reset : Counters := ⟨[], []⟩

end Sys2Proof.Machine
end

