-- ==== Sys2Proof/Machine/Flags.lean ====
section
/-! DEFINITION. Counters (spec/02 R12, R13; spec/11 R300, R301): the index of each counter in its entry, the place of each
entry in the CNT block, and what it is to count. -/

namespace Sys2Proof.Machine

/-! spec/02 Table 2-19 -/

def cChuBadWrite : Nat := 0x000
def cChuBadLength : Nat := 0x001
def cChuXlinkIgnored : Nat := 0x002
def cChuWriteIgnored : Nat := 0x003
def cChuOverrun : Nat := 0x004
def cChuDiscardedWrites : Nat := 0x005
def cChuPtrMismatch : Nat := 0x006
def cCmdIssued : Nat := 0x007
def cCmdRefused : Nat := 0x008
def cCmdRefusedAbsent : Nat := 0x009
def cHeadStallCycles : Nat := 0x00a
def cResWaitCycles : Nat := 0x00b
def cResBadRelease : Nat := 0x00c
def cOrderStallCycles : Nat := 0x00d
def cUnusedStandWrites : Nat := 0x000
def cHostReadPoisoned : Nat := 0x001

/-! spec/03 Table 3-6 -/

def cFmtNonfiniteBlock : Nat := 0x010
def cFmtOverflow : Nat := 0x011
def cFmtSaturated : Nat := 0x012
def cFmtScaleFloor : Nat := 0x013
def cFmtDecodeOverflow : Nat := 0x014
def cFmtPartialBlock : Nat := 0x015
def cFmtFormatRefused : Nat := 0x016
def cUpdexpClamped : Nat := 0x017

/-! spec/04 Table 4-15 -/

def cMatCommands : Nat := 0x020
def cMatStream4k : Nat := 0x021
def cMatBubbleCycles : Nat := 0x022
def cMatKeepCycles : Nat := 0x023
def cMatBankWaitCycles : Nat := 0x024
def cMatHoldCycles : Nat := 0x025
def cMatScalerMismatch : Nat := 0x026
def cMatRecomputes : Nat := 0x027
def cMatRecomputeCycles : Nat := 0x028

/-! spec/05 Table 5-11 -/

def cVecCommands : Nat := 0x030
def cBatCommands : Nat := 0x031
def cVecBankWaitCycles : Nat := 0x032
def cBatBankWaitCycles : Nat := 0x033
def cBatEntryHoldCycles : Nat := 0x034
def cBatTapOrder : Nat := 0x035
def cBatRowMasked : Nat := 0x036
def cVecLaneMismatch : Nat := 0x037
def cBatLaneMismatch : Nat := 0x038
def cLaneConfirmed : Nat := 0x039

/-! spec/06 Table 6-11 -/

def cSkdCommands : Nat := 0x040
def cSkdWindowCommands : Nat := 0x041
def cSkdLines4k : Nat := 0x042
def cSkdIndexRange : Nat := 0x043
def cSkdScatterCollisions : Nat := 0x044
def cSkdScatterOrderCycles : Nat := 0x045
def cSkdOwnerWaitCycles : Nat := 0x046
def cSkdOwnerUnavailable : Nat := 0x047
def cSkdPoisonMoved : Nat := 0x048

/-! spec/07 Table 7-14 -/

def cFlmFloor4k : Nat := 0x050
def cFlmRate4k : Nat := 0x051
def cFlmSpare4k : Nat := 0x052
def cFlmWaitCycles : Nat := 0x053
def cMemRegionFault : Nat := 0x054
def cMemRemoteRefused : Nat := 0x055
def cHostWriteIgnored : Nat := 0x004
def cMemCorrected : Nat := 0x000
def cMemUncorrectable : Nat := 0x001
def cMemPoisonWritten : Nat := 0x002
def cMemScrubDropped : Nat := 0x003
def cMemSppr : Nat := 0x004
def cMemRowRemaps : Nat := 0x005
def cMemBankRemaps : Nat := 0x006
def cMemPcRemaps : Nat := 0x007
def cMemPoolExhausted : Nat := 0x000
def cMemZoneStep1Cycles : Nat := 0x000
def cMemZoneStep2Cycles : Nat := 0x001
def cMemZoneStep3Cycles : Nat := 0x002

/-! spec/08 Table 8-14 -/

def cLndOptim : Nat := 0x060
def cLndAccum : Nat := 0x061
def cLndDigest : Nat := 0x062
def cLndSweep : Nat := 0x063
def cLndNonfinite : Nat := 0x064
def cLndPoisonRead : Nat := 0x065
def cLndDamaged : Nat := 0x066
def cLndLaneMismatch : Nat := 0x067
def cLndOrderCycles : Nat := 0x068
def cLndSealWaitCycles : Nat := 0x069
def cLndCopyahead : Nat := 0x06a
def cLndCopyaheadWaitCycles : Nat := 0x06b
def cLndCaFullCycles : Nat := 0x06c
def cLndSweepHoldCycles : Nat := 0x06d

/-! spec/09 Table 9-18 -/

def cTrsReduce : Nat := 0x070
def cTrsCollective : Nat := 0x071
def cTrsPieces : Nat := 0x072
def cTrsLate : Nat := 0x073
def cTrsFencedLeaf : Nat := 0x074
def cTrsMismatch : Nat := 0x075
def cTrsCarried : Nat := 0x076
def cTrsDropped : Nat := 0x077
def cTrsTainted : Nat := 0x078
def cTrsLedgerFullCycles : Nat := 0x079
def cTrsStageWaitCycles : Nat := 0x07a
def cTrsSrcHoldCycles : Nat := 0x07b
def cTrsPermute : Nat := 0x07c
def cTrsPermuteAbsent : Nat := 0x07d
def cTrsGovOffloadSteps : Nat := 0x07e
def cTrsGovRecomputeSteps : Nat := 0x07f

/-! spec/10 Table 10-16 -/

def cCskTxFlits4k : Nat := 0x000
def cCskRxFlits4k : Nat := 0x001
def cCskTransitFlits4k : Nat := 0x002
def cCskFecCorrectedCw : Nat := 0x003
def cCskFecUncorrectableCw : Nat := 0x004
def cCskWordCorrected : Nat := 0x005
def cCskFlitBad : Nat := 0x006
def cCskReplays : Nat := 0x007
def cCskRetryTimeout : Nat := 0x008
def cCskRetrain : Nat := 0x009
def cCskPortDown : Nat := 0x00a
def cCskLaneSubst : Nat := 0x00b
def cCskDegraded : Nat := 0x00c
def cCskCreditWaitCycles : Nat := 0x00d
def cCskLockLost : Nat := 0x000
def cCskDuplicate : Nat := 0x001
def cCskMiscabled : Nat := 0x008
def cCskNoRoute : Nat := 0x009
def cCskTtlExpired : Nat := 0x00a
def cCskBadTxn : Nat := 0x00b
def cCskTimeStep : Nat := 0x00c
def cCskFenceDropped : Nat := 0x080
def cCskFenceOut : Nat := 0x081
def cCskTxnTimeout : Nat := 0x082
def cCskUnreachable : Nat := 0x083
def cCskRefusedRx : Nat := 0x084

/-! spec/11 Table 11-11 -/

def cIntThresholdAlarm : Nat := 0x090
def cIntFaultConfirmed : Nat := 0x091
def cIntCoreUnavailable : Nat := 0x092
def cIntHandoverCycles : Nat := 0x093
def cIntMonitorMark : Nat := 0x094
def cIntOperandPoison : Nat := 0x095
def cIntCoreAlarm : Nat := 0x000
def cIntCoreConfirmed : Nat := 0x001
def cIntCruiseRuns : Nat := 0x002
def cIntCruiseFail : Nat := 0x003
def cIntSramCorrected : Nat := 0x004
def cIntSramUncorrectable : Nat := 0x005
def cIntSramRowSpared : Nat := 0x006
def cIntCaptures : Nat := 0x007
def cDlkWordCorrected : Nat := 0x000
def cDlkFlitRetry : Nat := 0x001
def cDlkLaneSubst : Nat := 0x002
def cDieCruiseRuns : Nat := 0x003
def cDieScratchCorrected : Nat := 0x004
def cIntCoreRetired : Nat := 0x010
def cIntColumnRemapped : Nat := 0x011
def cIntCoreCoppiced : Nat := 0x012
def cIntDiePending : Nat := 0x013
def cIntCruiseOverdue : Nat := 0x014
def cIntCruiseAborted : Nat := 0x015
def cIntMonClock : Nat := 0x016
def cIntMonVoltage : Nat := 0x017
def cIntMonTemp : Nat := 0x018
def cIntLedgerWrites : Nat := 0x019
def cIntLedgerCompact : Nat := 0x01a
def cIntCaptureDropped : Nat := 0x01b

/-! spec/12 Table 12-22 -/

def cDckStepsOpened : Nat := 0x0a0
def cDckStepsCommitted : Nat := 0x0a1
def cDckStepsMarked : Nat := 0x0a2
def cDckRollbacks : Nat := 0x0a3
def cDckReplayedSteps : Nat := 0x0a4
def cDckReplayCycles : Nat := 0x0a5
def cDckReplayExhausted : Nat := 0x0a6
def cDckBlazeMismatch : Nat := 0x0a7
def cDckPeerTimeout : Nat := 0x0a8
def cDckNoQuorum : Nat := 0x0a9
def cDckDeckWaitCycles : Nat := 0x0aa
def cDckCommitWaitCycles : Nat := 0x0ab
def cDckOverflow : Nat := 0x0ac
def cDckKeepSkipped : Nat := 0x0ad
def cDckCheckpoints : Nat := 0x0ae
def cDckMirrors : Nat := 0x0af
def cDckPinWaitCycles : Nat := 0x0b0
def cDckMirrorSuperseded : Nat := 0x0b1
def cDckRestores : Nat := 0x0b2
def cDckRestoreRejected : Nat := 0x0b3
def cLkoSuspect : Nat := 0x0b4
def cLkoFenceLookout : Nat := 0x0b5
def cLkoFenceCommand : Nat := 0x0b6
def cLkoFenceRelayed : Nat := 0x0b7
def cLkoExpelledPeers : Nat := 0x0b8
def cLkoSelfExpelled : Nat := 0x0b9
def cLkoReadmit : Nat := 0x0ba
def cLkoSaplingPromoted : Nat := 0x0bb
def cLkoSaplingFailed : Nat := 0x0bc
def cLkoUnwatched : Nat := 0x0bd
def cLkoHbTx4k : Nat := 0x030
def cLkoHbRx4k : Nat := 0x031
def cLkoFenceRx : Nat := 0x032

/-! spec/13 Table 13-10 -/

def cRstWdtEngine : Nat := 0x0e0
def cRstWdtWait : Nat := 0x0e1
def cRstWdtFrontend : Nat := 0x0e2
def cRstContext : Nat := 0x0e3
def cRstEngine : Nat := 0x0e4
def cRstEngineFenced : Nat := 0x0e5
def cRstStand : Nat := 0x0e6
def cRstPartMoved : Nat := 0x0e7
def cRstSamples : Nat := 0x0e8
def cRstSampleAbandoned : Nat := 0x0e9
def cRstChipRequested : Nat := 0x040
def cRstSpareDie : Nat := 0x041
def cRstReqIgnored : Nat := 0x042

/-! spec/14 Table 14-11 -/

def cBootFwFallback : Nat := 0x050
def cBootImageFallback : Nat := 0x051
def cBootLatePorts : Nat := 0x052

/-! spec/15 Table 15-11 -/

def cWdnTakeover : Nat := 0x060
def cWdnStandbyFault : Nat := 0x061
def cWdnRollback : Nat := 0x062
def cWdnUpdateRefused : Nat := 0x063
def cWdnMboxRequests : Nat := 0x064
def cWdnMboxIgnored : Nat := 0x065
def cWdnMboxBad : Nat := 0x066
def cWdnSpdmRequests : Nat := 0x067
def cWdnSpdmErrors : Nat := 0x068
def cWdnEvlogWritten : Nat := 0x069
def cWdnEvlogOverwritten : Nat := 0x06a

/-! spec/16 Table 16-17 -/

def cPwrWithheldCycles : Nat := 0x0f0
def cPwrLimitWindows : Nat := 0x070
def cPwrFastLimit : Nat := 0x071
def cPwrPhaseFault : Nat := 0x072
def cPwrDomainDerated : Nat := 0x073
def cThmEarlyStep : Nat := 0x074

/-! Table 11-9, in units of 8 bytes -/

def kStand (s i : Nat) : Nat := 512 * s + i
def kStack (n i : Nat) : Nat := 0x8000 + 32 * n + i
def kPort (p i : Nat) : Nat := 0x8400 + 32 * p + i
def kBond (b i : Nat) : Nat := 0x8800 + 8 * b + i
def kZone (z i : Nat) : Nat := 0x8880 + 8 * z + i
def kLand (l i : Nat) : Nat := 0x88c0 + 8 * l + i
def kCore (c i : Nat) : Nat := 0x9000 + 8 * c + i
def kDie (d i : Nat) : Nat := 0xa000 + 16 * d + i
def kModule (i : Nat) : Nat := 0xc000 + i

/-- The value of a counter. -/
def Counters.get (c : Counters) (k : Nat) : W48 := c.vals.get 0 k

/-- A counter rises by an amount, modulo 2^48 (spec/02 R12). -/
def Counters.add (c : Counters) (k n : Nat) : Counters :=
  if n = 0 then c else { c with vals := c.vals.upd 0 k (fun v => v + BitVec.ofNat 48 n) }

/-- A counter of whole groups of `unit`: `n` more have happened; what is left over waits for the next group. -/
def Counters.addUnits (c : Counters) (k unit n : Nat) : Counters :=
  let t := c.rest.get 0 k + n
  { c with rest := c.rest.set k (t % unit) }.add k (t / unit)

end Sys2Proof.Machine
end

