-- ==== Sys2Proof/Machine/ImageTypes.lean ====
section
/-! DEFINITION. The applied Ibdex image (spec/14): what every field marked "image" in a register table holds.  It is
read at chip reset and does not change until the next one (spec/02 R28). -/

namespace Sys2Proof.Machine

/-- A STANDS entry (spec/14 Table 14-5); `clusters` lists the named cluster indices 4 × die + cluster in rising order. -/
structure StandCfg where
  enabled : Bool
  h0 : Bool
  h1 : Bool
  contexts : W16
  clusters : List Nat
  deckMib : Nat
  blazeK : Nat
  replayMax : Nat
  commitWaitMs : Nat
  budgetGib : Nat
  act : Nat
  spill : Nat
  spillValid : Bool
  govTest : Bool
  lateMaxUs : Nat
  lateMinUs : Nat
  lateMarginUs : Nat
  reduceStageMib : Nat
  carryMib : Nat
  lateSeedUs : Nat
  deriving DecidableEq, Repr

/-- A stand not in use: every field zero (spec/14 R367). -/
def StandCfg.unused : StandCfg :=
  { enabled := false, h0 := false, h1 := false, contexts := 0, clusters := [], deckMib := 0, blazeK := 0,
    replayMax := 0, commitWaitMs := 0, budgetGib := 0, act := 0, spill := 0, spillValid := false, govTest := false,
    lateMaxUs := 0, lateMinUs := 0, lateMarginUs := 0, reduceStageMib := 0, carryMib := 0, lateSeedUs := 0 }

/-- A region (spec/07 Table 7-9); base and size in bytes. -/
structure Region where
  valid : Bool
  sharedRo : Bool
  hostWr : Bool
  trainable : Bool
  granLog2 : Nat
  rot : Nat
  group : Nat
  owner : Nat
  base : Nat
  size : Nat
  deriving DecidableEq, Repr

def Region.undefined : Region := ⟨false, false, false, false, 0, 0, 0, 0, 0, 0⟩

/-- A region table entry (spec/07 Table 7-10). -/
structure SReg where
  region : Nat
  valid : Bool
  write : Bool
  remote : Bool
  contexts : W16
  deriving DecidableEq, Repr

def SReg.unused : SReg := ⟨0, false, false, false, 0⟩

/-- A flume gate's settings (spec/07 Table 7-12). -/
structure GateCfg where
  rate : Nat
  floor : Nat
  burstMax : Nat
  seed : Nat
  enabled : Bool
  deriving DecidableEq, Repr

def GateCfg.unused : GateCfg := ⟨0, 0, 0, 0, false⟩

/-- A trainable group's roles (spec/08 Table 8-10); 255 is empty. -/
structure TGroup where
  p : Nat
  ps : Nat
  m1 : Nat
  m1s : Nat
  m2 : Nat
  m2s : Nat
  g : Nat
  deriving DecidableEq, Repr

def TGroup.unused : TGroup := ⟨255, 255, 255, 255, 255, 255, 255⟩

/-- A region's twin and element layout (spec/08 Table 8-11); `width` is the field code, `block` the field code. -/
structure Twin where
  twin : Nat
  valid : Bool
  width : Nat
  block : Nat
  isScale : Bool
  deriving DecidableEq, Repr

def Twin.unused : Twin := ⟨0, false, 0, 0, false⟩

/-- An update group's definition (spec/08 Table 8-13). -/
structure UDef where
  tgrp : Nat
  isDefined : Bool
  owner : Nat
  tag : W16
  first4k : Nat
  count4k : Nat
  seedU : Int
  deriving DecidableEq, Repr

def UDef.undefined : UDef := ⟨0, false, 0, 0, 0, 0, 0⟩

/-- A port's settings (spec/10 Table 10-12). -/
structure PortCfg where
  enabled : Bool
  iface : Nat
  checkPeer : Bool
  bond : Nat
  peerDevice : W16
  peerPort : Nat
  deriving DecidableEq, Repr

def PortCfg.unused : PortCfg := ⟨false, 0, false, 0, 0, 0⟩

/-- A bond's settings (spec/10 Table 10-15). -/
structure BondCfg where
  ports : Nat
  firstPort : Nat
  deriving DecidableEq, Repr

def BondCfg.unused : BondCfg := ⟨0, 0⟩

/-- A routing table entry (spec/10 R268). -/
structure Route where
  valid : Bool
  egress : Nat
  altValid : Bool
  alt : Nat
  deriving DecidableEq, Repr

def Route.none : Route := ⟨false, 0, false, 0⟩

/-- The applied image (spec/14 Tables 14-4 to 14-6). -/
structure ImageCfg where
  /-- STANDS, 64 entries (Table 14-5) -/
  stands : Tab StandCfg
  /-- REGIONS, up to 256 (Table 14-4, spec/07 R168) -/
  regions : Tab Region
  /-- REGION_TABLES, key 32 × stand + entry (Table 14-4) -/
  sregs : Tab SReg
  /-- FLUME, key 66 × landing die + gate (Table 14-4) -/
  gates : Tab GateCfg
  /-- TRAINABLE, LND_TGRP (Table 14-4) -/
  tgroups : Tab TGroup
  /-- TRAINABLE, LND_TWIN (Table 14-4) -/
  twins : Tab Twin
  /-- UPDATE_GROUPS, up to 8,192 (Table 14-4) -/
  udefs : Tab UDef
  /-- RECIPES of KIND 1 to 4 (Table 14-4, spec/03 R69) -/
  recipes : Tab Recipe
  /-- CSK_DEVICE.DEVICE_ID, 16 bits (spec/10 Table 10-9) -/
  deviceId : W16
  /-- CSK_DEVICE.TIME_ROOT (Table 10-9) -/
  timeRoot : Bool
  /-- CSK_DEVICE.TXN_TIMEOUT_MS (Table 10-9) -/
  txnTimeoutMs : Nat
  /-- CSK_DEVICE.W_COLL and W_BULK (Table 10-9) -/
  wColl : Nat
  wBulk : Nat
  /-- CSK_TIME.PARENT_PORT (Table 10-10) -/
  parentPort : Nat
  /-- CSK_PORT_CFG (Table 10-12) -/
  ports : Tab PortCfg
  /-- CSK_BOND's image fields (Table 10-15) -/
  bonds : Tab BondCfg
  /-- ROUTES: VERSION and the entries (spec/10 R268) -/
  routeVersion : W32
  routes : Tab Route
  /-- GLB_RST_CFG (spec/13 Table 13-6) -/
  waitLimitMs : Nat
  sample : Bool
  spareRequest : Bool
  /-- LKO_CFG (spec/12 Table 12-20) -/
  hbPeriodUs : Nat
  deadMs : Nat
  saplingSteps : Nat
  jitterSeedUs : Nat
  /-- MAT_SCALER_CFG (spec/04 Table 4-11) -/
  checkInterval : Nat
  thrProfile : Nat
  /-- POWER_LIMIT_W (Table 14-6) -/
  powerLimitW : Nat
  /-- THERM_SEED of each zone, the 64-bit field (Table 14-6); `none` when SEEDS is absent -/
  thermSeed : Tab W64
  deriving DecidableEq, Repr

/-- No image applied: the state from reset until the image-verified milestone. -/
def ImageCfg.absent : ImageCfg :=
  { stands := [], regions := [], sregs := [], gates := [], tgroups := [], twins := [], udefs := [], recipes := [],
    deviceId := 0, timeRoot := false, txnTimeoutMs := 0, wColl := 0, wBulk := 0, parentPort := 0, ports := [],
    bonds := [], routeVersion := 0, routes := [], waitLimitMs := 0, sample := false, spareRequest := false,
    hbPeriodUs := 0, deadMs := 0, saplingSteps := 0, jitterSeedUs := 0, checkInterval := 0, thrProfile := 0,
    powerLimitW := 0, thermSeed := [] }

end Sys2Proof.Machine
end

