-- ==== Sys2Proof/Machine/PowerTypes.lean ====
section
/-! DEFINITION. Plain data of power, thermal zones and the dies' monitors (spec/16, spec/07 R184). -/

namespace Sys2Proof.Machine

/-- One switched domain (spec/16 R394-R396, Table 16-14). -/
structure Domain where
  /-- ON, 1 bit (Table 16-14); reset 0, the domain's state -/
  on : Bool
  /-- the failed phases, whose count is FAILED (R395); reset from the wear ledger -/
  failed : List Nat
  /-- DERATED, 1 bit (R395); reset 0 -/
  derated : Bool
  /-- FAULT, 1 bit (R396); reset 0 -/
  fault : Bool
  /-- the rail is outside nominal +-5 % (Table 16-5); reset 0 -/
  volt : Bool
  /-- the rail has left its range since the last STANDS_READY (Table 16-5: again before it, the domain is off); reset 0 -/
  left : Bool
  deriving DecidableEq, Repr

def Domain.reset : Domain := ⟨false, [], false, false, false, false⟩

/-- One thermal zone (spec/07 R184, spec/16 R405, Table 16-15). -/
structure Zone where
  /-- STEP, 2 bits (Table 16-15); reset 0 -/
  step : Nat
  /-- EARLY, 1 bit (Table 16-15); reset 0 -/
  early : Bool
  /-- rise estimate in m°C per ms, exact (R405); reset THERM_SEED -/
  est : Rat
  /-- SAMPLES, 0 to 32 (Table 16-15); reset 0 -/
  samples : Nat
  /-- TZ, the hottest stack's reading in °C (Table 16-15); reset 0 -/
  tz : Nat
  /-- TZ a millisecond ago, from which the predictor takes its sample (R405); reset none -/
  lastTz : Option Nat
  deriving DecidableEq, Repr

def Zone.reset : Zone := ⟨0, false, 0, 0, 0, none⟩

/-- One die: its monitors (spec/16 R402, spec/11 R280) and its service (spec/11 R296, spec/13 R352). Dies are numbered as
in spec/11 Table 11-9. -/
structure DieSt where
  /-- TJ, °C plus 64, 8 bits (Table 16-16); reset 0 -/
  tj : Nat
  /-- HOT, 1 bit (Table 16-16); reset 0 -/
  hot : Bool
  /-- HELD, the hot-junction hold (Table 16-16); reset 0 -/
  held : Bool
  /-- monitors out of range: 1 clock, 2 voltage, 3 temperature (R402); reset none -/
  out : List Nat
  /-- time base at which the last monitor came back into range (R280); reset none -/
  backAt : Option W64
  /-- the die grants no issue slot (Table 16-5); reset 0 -/
  noIssue : Bool
  /-- marked for replacement (spec/11 R296); reset from the wear ledger, 0 at delivery -/
  marked : Bool
  /-- taken out of service: replaced by a spare, or a spare that failed its scan test (spec/13 R352); reset 0 -/
  out_ : Bool
  /-- the die whose identity a spare has taken (spec/13 R352); reset none -/
  standsFor : Option Nat
  deriving DecidableEq, Repr

def DieSt.reset : DieSt := ⟨0, false, false, [], none, false, false, false, none⟩

/-- Codes of PWR_STATUS.LAST_OFF (spec/16 R410). -/
inductive OffCause where
  | unknown | inputLow | sleep | tripStack | tripDie | cycleReq | inputHigh
  deriving DecidableEq, Repr

def OffCause.code : OffCause → Nat
  | .unknown => 0
  | .inputLow => 1
  | .sleep => 2
  | .tripStack => 3
  | .tripDie => 4
  | .cycleReq => 5
  | .inputHigh => 6

/-- The module's power (spec/16). -/
structure PowerSt where
  /-- input power good (R393); reset 0 -/
  good : Bool
  /-- the power fraction p, 4 to 16 (R397, PWR_STATUS.P); reset 16 -/
  p : Nat
  /-- consecutive windows below 95 % of LIMIT_W (R397); reset 0 -/
  below : Nat
  /-- PWR_STATUS.FAST, 1 bit (Table 16-13); reset 0 -/
  fast : Bool
  /-- INPUT_W, 16 bits (Table 16-13); reset 0 -/
  inputW : Nat
  /-- LAST_OFF as it reads (R410); reset unknown -/
  lastOff : OffCause
  /-- the wake circuit's latch of the first cause since the last input power good (R410); reset none -/
  latched : Option OffCause
  /-- the 20 switched domains (R394) -/
  domains : Tab Domain
  /-- asleep, only the wake circuit running (R408); reset 0 -/
  asleep : Bool
  /-- THERMTRIP_N asserted (R406); reset 0 -/
  thermtrip : Bool
  /-- PWR_CYCLE_REQ_N asserted (R407, R348); reset 0 -/
  cycleReq : Bool
  /-- the domains stay off until input power is removed and restored (R406, R407); reset 0 -/
  locked : Bool
  /-- the thermal zones -/
  zones : Tab Zone
  /-- TB_STATUS.OSC: the time base counts from the internal oscillator (R401); reset 0 -/
  osc : Bool
  /-- P3V3_STBY has been lost since input power good, so that the wake circuit has stopped (R410); reset 0 -/
  stbyLost : Bool
  deriving DecidableEq, Repr

/-- The power state before input power good. -/
def PowerSt.reset : PowerSt :=
  { good := false, p := 16, below := 0, fast := false, inputW := 0, lastOff := .unknown, latched := none, domains := [],
    asleep := false, thermtrip := false, cycleReq := false, locked := false, zones := [], osc := false,
    stbyLost := false }

end Sys2Proof.Machine
end

