-- ==== Sys2Proof/Machine/WardenTypes.lean ====
section
/-! DEFINITION. Plain data of the Warden subsystem, start-up and the flash (spec/14, spec/15). -/

namespace Sys2Proof.Machine

/-- TRIAL and ATTEMPTS of one slot in the boot-state record (spec/15 R380). -/
structure SlotTrial where
  trial : Bool
  attempts : Nat
  deriving DecidableEq, Repr

/-- The boot-state record (spec/15 R380): FLOOR and the four slots' trial state. -/
structure BootState where
  floor : Nat
  fwA : SlotTrial
  fwB : SlotTrial
  imgA : SlotTrial
  imgB : SlotTrial
  deriving DecidableEq, Repr

/-- States of the standby Warden (spec/15 Table 15-9). -/
inductive StandbySt where
  | ready | starting | retired
  deriving DecidableEq, Repr

/-- An event log entry (spec/15 R386). -/
structure EvLog where
  time : W64
  opsec : W64
  seq : W32
  code : Nat
  unit : Nat
  data : W32
  deriving DecidableEq, Repr

/-- Mailbox states (spec/15 Table 15-10). -/
inductive MboxMode where
  | free | assembling | busy | ready
  deriving DecidableEq, Repr

/-- One WDN mailbox (spec/15 R387, Table 15-10). -/
structure Mbox where
  /-- STATE; reset FREE -/
  mode : MboxMode
  /-- OWNER_LINK; reset none -/
  owner : Option LinkId
  /-- sticky IGNORED; reset 0 -/
  ignored : Bool
  /-- GEN, 16 bits; reset 0 -/
  gen : W16
  /-- the request's bytes so far (RECEIVED); reset none -/
  req : List Byte
  /-- the response: TAG, STATUS and data; reset none -/
  tag : W32
  status : W16
  data : List Byte
  deriving DecidableEq, Repr

def Mbox.reset : Mbox := ⟨.free, none, false, 0, [], 0, 0, []⟩

/-- Who is served as update agent (spec/15 Table 15-9, UPDATE). -/
inductive UpdAgent where
  | idle | i3c | mailbox
  deriving DecidableEq, Repr

/-- A decision in the Warden's journal (spec/15 R373). -/
inductive Decision where
  | retireCore (core cause : Nat)
  | remapColumn (array column : Nat)
  | hbmRepair (stack kind index : Nat)
  | chipReset (cause : Nat)
  deriving DecidableEq, Repr

/-- The Warden subsystem (spec/15 Table 15-9, R372-R390). -/
structure Warden where
  /-- Warden firmware runs (Table 14-1); reset 0 -/
  running : Bool
  /-- recovery mode of mask ROM (spec/14 R361, spec/15 R382); reset 0 -/
  recovery : Bool
  /-- ACTIVE: 0 M0, 1 M1 (Table 15-9); reset 0 -/
  active : Nat
  /-- STANDBY (Table 15-9); reset ready -/
  standby : StandbySt
  /-- the active Warden's cores are halted (R373); reset 0 -/
  halted : Bool
  /-- IDENTITY (Table 15-9, R375); reset 0 -/
  identity : Bool
  /-- UPDATE (Table 15-9, R382); reset idle -/
  update : UpdAgent
  /-- the component and slot offset being written (R381); reset none -/
  component : Option Nat
  /-- components that have verified and wait for activation (R381); reset none -/
  verified : List Nat
  /-- PENDING_ACT (Table 15-9); reset 0 -/
  pendingAct : Bool
  /-- I3C_DA, 7 bits (Table 15-9); reset 0 -/
  da : Nat
  /-- the MCTP endpoint ID assigned by the bus owner (R383); reset 0, unassigned -/
  eid : Nat
  /-- FW_SVN (Table 15-9); reset 0 -/
  fwSvn : Nat
  /-- SPDM connection state per transport: 0 I3C, 1 H0, 2 H1: how far negotiation has gone (R384); reset 0 -/
  spdm : Tab Nat
  /-- events staged and not yet in flash (R386); reset none -/
  staged : List EvLog
  /-- the four mailboxes (R387); reset free -/
  mbox : Tab Mbox
  /-- sensor readings by PLDM ID (R385); reset none sampled -/
  sensors : Tab Int
  /-- the deadline timer of the active Warden: the time base when it was last rearmed, if it is armed (R347); reset none -/
  deadline : Option W64
  /-- PLDM type 5 responses and bytes transferred, the write offset of the transfer (R381); reset 0 -/
  xfer : Nat
  /-- the cruise library has verified and is in use (spec/11 R289); reset 0 -/
  libraryOk : Bool
  /-- the SHA-512 digest of the vendor root key that mask ROM holds (R377); it never changes, and the specification does not give it:
  DESIGN CHOICE 92, 64 zero bytes -/
  rootDigest : List Byte
  deriving DecidableEq, Repr

def Warden.reset : Warden :=
  { running := false, recovery := false, active := 0, standby := .ready, halted := false,
    identity := false, update := .idle, component := none, verified := [], pendingAct := false, da := 0, eid := 0,
    fwSvn := 0, spdm := [], staged := [], mbox := [],
    sensors := [], deadline := none, xfer := 0, libraryOk := false, rootDigest := List.replicate 64 0 }

/-- The flash, which alone keeps its contents without power (spec/14 Table 14-2). -/
structure Flash where
  /-- bytes of the firmware slots, the image slots and the cruise library, by flash offset (Table 14-2); at delivery
  empty -/
  cells : Cells
  /-- the vendor-signed variant record (Table 14-2, spec/15 R376); reset empty -/
  variantRec : List Byte
  /-- SERIAL of the variant record (spec/15 R376); reset 0 -/
  serial : W64
  /-- operating seconds at the last start of the time base (Table 14-2, spec/11 Table 11-6); reset 0 -/
  opsec : W64
  /-- the boot-state record (spec/15 R380); reset none present -/
  boot : Option BootState
  /-- the wear ledger, oldest first (spec/11 R297); reset empty -/
  wear : List WearEntry
  /-- next ENTRY, 32 bits (spec/11 Table 11-6); reset 0 -/
  wearNext : W32
  /-- the flash event log, oldest first, at most 1,048,576 entries (spec/15 R386); reset empty -/
  log : List EvLog
  /-- next event SEQ, 32 bits (spec/15 R386); reset 0 -/
  evSeq : W32
  /-- the cruise library supplement, newest first, at most 8 (spec/11 R288); reset empty -/
  supplement : List Capture
  /-- Wardens retired, by management die (spec/15 R374); reset none -/
  retired : List Nat
  /-- journalled decisions not yet applied (spec/15 R373); reset none -/
  journal : List Decision
  deriving DecidableEq, Repr

def Flash.reset : Flash :=
  { cells := [], variantRec := [], serial := 0, opsec := 0, boot := none, wear := [], wearNext := 0, log := [],
    evSeq := 0, supplement := [], retired := [], journal := [] }

/-- Start-up registers (spec/14 Tables 14-8 to 14-10) and the milestones (spec/02 Table 2-4). -/
structure BootRegs where
  /-- IMAGE_VERIFIED (Table 2-4); reset 0 -/
  imageVerified : Bool
  /-- HBM_TRAINED (Table 2-4); reset 0 -/
  hbmTrained : Bool
  /-- FABRIC_READY (Table 2-4); reset 0 -/
  fabricReady : Bool
  /-- STANDS_READY (Table 2-4); reset 0 -/
  standsReady : Bool
  /-- time base of power good, of the wake or of the chip reset decision, from which the times are counted (R357, R370);
  reset 0 -/
  origin : W64
  /-- T_WARDEN_MS to T_STANDS_MS, 12 bits each (Table 14-8); reset 0 -/
  tWarden : Nat
  tImage : Nat
  tHbm : Nat
  tFabric : Nat
  tStands : Nat
  /-- FAULT (Table 14-8); reset 0 -/
  fault : Nat
  /-- units that the variant record names and start-up test did not find (spec/00 R3), numbered as `missing` of IMAGE_VERIFY; reset
  none -/
  missing : List Nat
  /-- SLOT, FW_SLOT, IMG_FALLBACK, FW_FALLBACK (Table 14-9); reset 0 -/
  slot : Nat
  fwSlot : Nat
  imgFallback : Bool
  fwFallback : Bool
  /-- FAIL_OTHER (Table 14-9); reset 0 -/
  failOther : Nat
  /-- IBDEX_VERSION and GENERATION (Table 14-9); reset 0 -/
  ibdexVersion : Nat
  generation : W32
  /-- SECTION and ENTRY (Table 14-10); reset 0 -/
  section_ : Nat
  entry : Nat
  deriving DecidableEq, Repr

def BootRegs.reset : BootRegs :=
  { imageVerified := false, hbmTrained := false, fabricReady := false, standsReady := false, origin := 0,
    tWarden := 0, tImage := 0, tHbm := 0, tFabric := 0, tStands := 0, fault := 0, missing := [], slot := 0, fwSlot := 0,
    imgFallback := false, fwFallback := false, failOther := 0, ibdexVersion := 0, generation := 0, section_ := 0,
    entry := 0 }

end Sys2Proof.Machine
end

