-- ==== Sys2Proof/Machine/State.lean ====
section
/-! DEFINITION. The state of a W32 module, the reasons for which a command has no next state, and the state before input
power good. -/

namespace Sys2Proof.Machine

/-- The module. Every field is plain data; what a field of a unit's record means, and its value at reset, stands at that
record. -/
structure State where
  /-- the commands that are waiting, first in, first out (the model's own); reset none -/
  pending : List Instr
  /-- what the module has sent, oldest first (the model's own record of its outputs); reset none -/
  sent : List Output
  /-- the counter of free values taken (the model's own); reset 0, DESIGN CHOICE 1 -/
  freeCtr : Nat
  /-- the ordering code (spec/00 Table 0-1); reset JW32-F, DESIGN CHOICE 2 -/
  variant : Variant
  /-- power, spec/16 -/
  power : PowerSt
  /-- dies and their monitors, spec/16 R402, numbered as spec/11 Table 11-9 -/
  dies : Tab DieSt
  /-- the time base, spec/16 R401 -/
  clock : ClockSt
  /-- the flash, spec/14 R362 -/
  flash : Flash
  /-- the Warden subsystem, spec/15 -/
  warden : Warden
  /-- milestones and start-up registers, spec/14 -/
  boot : BootRegs
  /-- the applied image, spec/14 -/
  img : ImageCfg
  /-- host link H0, spec/02 R30 -/
  link0 : HostLink
  /-- host link H1, spec/02 R30 -/
  link1 : HostLink
  /-- counters, spec/02 R12, spec/11 R300 -/
  counters : Counters
  /-- stands 0 to 63, spec/02 -/
  stands : Tab StandSt
  /-- cores, arrays and clusters, spec/04 to spec/06 -/
  comp : Compute
  /-- HBM: the protected bytes of the stacks by landing die and die-local address, key 2^38 × die + address
  (spec/07 R167-R169), reserved ranges included; reset empty -/
  hbm : Mem
  /-- stacks, landing dies and update groups, spec/07, spec/08 -/
  mem : MemSys
  /-- ports, bonds, die links and fences, spec/10 -/
  fabric : Fabric
  /-- wear, captures, cruise, spec/11 -/
  integ : Integ
  /-- the module's resets, spec/13 -/
  rst : RstMod
  deriving DecidableEq, Repr

/-- Why the machine stops. -/
inductive Fault where
  /-- Raised by INPUT_OUT_OF_RANGE alone, for an input voltage beyond the absolute maximum ratings of spec/16 Table 16-2,
  where R392 guarantees no behaviour at all. Safe: no claim about what follows can be proved. -/
  | absoluteMaximumExceeded
  deriving DecidableEq, Repr

/-- Why a command has no meaning. -/
inductive Refusal where
  /-- Raised by an arm of `exec` whose command has no meaning yet. Safe. -/
  | notModelled (mnemonic : String)
  deriving DecidableEq, Repr

/-- The machine before input power good: nothing runs, and the flash is empty. -/
def State.reset : State :=
  { pending := [], sent := [], freeCtr := 0, variant := .f, power := PowerSt.reset, dies := [], clock := ClockSt.reset,
    flash := Flash.reset, warden := Warden.reset, boot := BootRegs.reset, img := ImageCfg.absent,
    link0 := HostLink.reset, link1 := HostLink.reset, counters := Counters.reset, stands := [], comp := Compute.reset,
    hbm := Mem.empty, mem := MemSys.reset, fabric := Fabric.reset, integ := Integ.reset, rst := RstMod.reset }

end Sys2Proof.Machine
end

