-- ==== Sys2Proof/Machine/Setters.lean ====
section
/-! DEFINITION. One setter for each field of the state: every meaning changes the state through these alone. -/

namespace Sys2Proof.Machine

def State.setPending (s : State) (v : List Instr) : State := { s with pending := v }
def State.setSent (s : State) (v : List Output) : State := { s with sent := v }
def State.setFreeCtr (s : State) (v : Nat) : State := { s with freeCtr := v }
def State.setVariant (s : State) (v : Variant) : State := { s with variant := v }
def State.setPower (s : State) (v : PowerSt) : State := { s with power := v }
def State.setDies (s : State) (v : Tab DieSt) : State := { s with dies := v }
def State.setClock (s : State) (v : ClockSt) : State := { s with clock := v }
def State.setFlash (s : State) (v : Flash) : State := { s with flash := v }
def State.setWarden (s : State) (v : Warden) : State := { s with warden := v }
def State.setBoot (s : State) (v : BootRegs) : State := { s with boot := v }
def State.setImg (s : State) (v : ImageCfg) : State := { s with img := v }
def State.setLink0 (s : State) (v : HostLink) : State := { s with link0 := v }
def State.setLink1 (s : State) (v : HostLink) : State := { s with link1 := v }
def State.setCounters (s : State) (v : Counters) : State := { s with counters := v }
def State.setStands (s : State) (v : Tab StandSt) : State := { s with stands := v }
def State.setComp (s : State) (v : Compute) : State := { s with comp := v }
def State.setHbm (s : State) (v : Mem) : State := { s with hbm := v }
def State.setMem (s : State) (v : MemSys) : State := { s with mem := v }
def State.setFabric (s : State) (v : Fabric) : State := { s with fabric := v }
def State.setInteg (s : State) (v : Integ) : State := { s with integ := v }
def State.setRst (s : State) (v : RstMod) : State := { s with rst := v }

end Sys2Proof.Machine
end

