-- ==== Sys2Proof/Machine/Ops.lean ====
section
/-! DEFINITION. The named operations over the state that every family of commands shares. -/

namespace Sys2Proof

/-! ### What the variant fixes (spec/00 Table 0-1) -/

def Variant.computeDies : Variant → Nat
  | .f => 16
  | .e => 12

def Variant.landDies : Variant → Nat
  | .f => 8
  | .e => 6

def Variant.stacks : Variant → Nat
  | .f => 32
  | .e => 24

def Variant.linkDies : Variant → Nat
  | .f => 4
  | .e => 3

def Variant.ports : Variant → Nat
  | .f => 28
  | .e => 21

/-- Thermal zones (spec/01 R27). -/
def Variant.zones : Variant → Nat
  | .f => 8
  | .e => 6

def Variant.hasH1 : Variant → Bool
  | .f => true
  | .e => false

def Variant.hasBucker : Variant → Bool
  | .f => true
  | .e => false

/-- Maximum input power in W (spec/00 Table 0-1). -/
def Variant.maxWatts : Variant → Nat
  | .f => 13000
  | .e => 10000

/-- Software-visible capacity in bytes (spec/00 Table 0-1). -/
def Variant.visibleBytes : Variant → Nat
  | .f => 960 * 2 ^ 30
  | .e => 704 * 2 ^ 30

/-- A die of spec/11 Table 11-9 exists in the package (spec/00 Table 0-1). -/
def Variant.hasDie (v : Variant) (d : Nat) : Bool :=
  if d < 16 then decide (d < v.computeDies)
  else if d < 18 then true
  else if d < 26 then decide (d - 18 < v.landDies)
  else if d < 30 then decide (d - 26 < v.linkDies)
  else decide (d < 32)

end Sys2Proof

namespace Sys2Proof.Machine

/-! ### Units -/

def State.stand (s : State) (i : Nat) : StandSt := s.stands.get StandSt.reset i
def State.setStand (s : State) (i : Nat) (x : StandSt) : State := s.setStands (s.stands.set i x)
/-- The image's configuration of a stand (spec/02 R28). -/
def State.cfg (s : State) (i : Nat) : StandCfg := s.img.stands.get StandCfg.unused i

def State.die (s : State) (d : Nat) : DieSt := s.dies.get DieSt.reset d
def State.setDie (s : State) (d : Nat) (x : DieSt) : State := s.setDies (s.dies.set d x)

def State.core (s : State) (c : Nat) : CoreSt := s.comp.cores.get (CoreSt.reset (c % 5)) c
def State.setCore (s : State) (c : Nat) (x : CoreSt) : State := s.setComp { s.comp with cores := s.comp.cores.set c x }
def State.array (s : State) (g : Nat) : ArraySt := s.comp.arrays.get ArraySt.reset g
def State.setArray (s : State) (g : Nat) (x : ArraySt) : State :=
  s.setComp { s.comp with arrays := s.comp.arrays.set g x }
def State.cluster (s : State) (x : Nat) : ClusterSt := s.comp.clusters.get ClusterSt.reset x
def State.setCluster (s : State) (x : Nat) (v : ClusterSt) : State :=
  s.setComp { s.comp with clusters := s.comp.clusters.set x v }

def State.stack (s : State) (n : Nat) : StackSt := s.mem.stk.get StackSt.reset n
def State.setStack (s : State) (n : Nat) (x : StackSt) : State := s.setMem { s.mem with stk := s.mem.stk.set n x }
def State.land (s : State) (n : Nat) : LandDie := s.mem.lands.get LandDie.reset n
def State.setLand (s : State) (n : Nat) (x : LandDie) : State := s.setMem { s.mem with lands := s.mem.lands.set n x }
def State.udef (s : State) (k : Nat) : UDef := s.img.udefs.get UDef.undefined k
def State.ugroup (s : State) (k : Nat) : UGroup := s.mem.groups.get (UGroup.reset (s.udef k).seedU) k
def State.setUgroup (s : State) (k : Nat) (x : UGroup) : State :=
  s.setMem { s.mem with groups := s.mem.groups.set k x }

def State.port (s : State) (p : Nat) : PortSt := s.fabric.ports.get PortSt.reset p
def State.setPort (s : State) (p : Nat) (x : PortSt) : State :=
  s.setFabric { s.fabric with ports := s.fabric.ports.set p x }
def State.portCfg (s : State) (p : Nat) : PortCfg := s.img.ports.get PortCfg.unused p
def State.bond (s : State) (b : Nat) : BondSt := s.fabric.bonds.get BondSt.reset b
def State.setBond (s : State) (b : Nat) (x : BondSt) : State :=
  s.setFabric { s.fabric with bonds := s.fabric.bonds.set b x }
def State.bondCfg (s : State) (b : Nat) : BondCfg := s.img.bonds.get BondCfg.unused b

def State.domain (s : State) (pd : Nat) : Domain := s.power.domains.get Domain.reset pd
def State.setDomain (s : State) (pd : Nat) (x : Domain) : State :=
  s.setPower { s.power with domains := s.power.domains.set pd x }
def State.zone (s : State) (z : Nat) : Zone := s.power.zones.get Zone.reset z
def State.setZone (s : State) (z : Nat) (x : Zone) : State :=
  s.setPower { s.power with zones := s.power.zones.set z x }

def State.link (s : State) : LinkId → HostLink
  | .h0 => s.link0
  | .h1 => s.link1
def State.setLink (s : State) (l : LinkId) (x : HostLink) : State :=
  match l with
  | .h0 => s.setLink0 x
  | .h1 => s.setLink1 x
/-- The variant has the link (spec/02 R30). -/
def State.hasLink (s : State) : LinkId → Bool
  | .h0 => true
  | .h1 => s.variant.hasH1

def State.mbox (s : State) (m : Nat) : Mbox := s.warden.mbox.get Mbox.reset m
def State.setMbox (s : State) (m : Nat) (x : Mbox) : State := s.setWarden { s.warden with mbox := s.warden.mbox.set m x }

/-! ### Counting, sending, free values -/

def State.count (s : State) (k n : Nat) : State := s.setCounters (s.counters.add k n)
/-- One more of a stand's counter. -/
def State.countStand (s : State) (st c : Nat) : State := s.count (kStand st c) 1
/-- One more of a module counter. -/
def State.countModule (s : State) (c : Nat) : State := s.count (kModule c) 1
def State.send (s : State) (o : Output) : State := s.setSent (s.sent ++ [o])
/-- A free value has been taken: the next one is another. -/
def State.tookFree (s : State) : State := s.setFreeCtr (s.freeCtr + 1)

/-! ### Spare dies and the physical place of a core (spec/13 R352, spec/04 R101) -/

/-- The die that stands in the place of compute die `d` (spec/13 R352): a spare brought in for it, or `d` itself. -/
def State.physDie (s : State) (d : Nat) : Nat :=
  if (s.die 16).standsFor = some d then 16 else if (s.die 17).standsFor = some d then 17 else d

/-- The identity of a compute die: the die a spare replaces, or its own (spec/13 R352). -/
def State.dieIdentity (s : State) (d : Nat) : Nat := (s.die d).standsFor.getD d

/-- The compute die is in service (spec/00 R3, spec/13 R352). -/
def State.dieInService (s : State) (d : Nat) : Bool :=
  s.variant.hasDie d && !(s.die d).out_ && (decide (d < 16) || decide (d ≥ 18) || (s.die d).standsFor.isSome)

/-- The physical cluster that serves the image's cluster `x` = 4 × die + cluster. -/
def State.physCluster (s : State) (x : Nat) : Nat := 4 * s.physDie (x / 4) + x % 4

/-- The physical core that answers logical core `r` of physical cluster `px`, if there is one (spec/04 R101, spec/11
R296). -/
def State.physCore (s : State) (px r : Nat) : Option Nat :=
  ((List.range 5).map (fun k => 5 * px + k)).find? (fun c =>
    decide ((s.core c).logical = some r))

/-- The `r`-th cluster of a stand, as a physical cluster (spec/02 R21). -/
def State.standCluster (s : State) (st r : Nat) : Option Nat := ((s.cfg st).clusters[r]?).map s.physCluster

/-- Every physical cluster of a stand, in rising order of the image's index. -/
def State.standClusters (s : State) (st : Nat) : List Nat := (s.cfg st).clusters.map s.physCluster

/-- The stand that owns a physical cluster, if one does (spec/01 R21). -/
def State.clusterOwner (s : State) (px : Nat) : Option Nat :=
  (List.range 64).find? (fun st => (s.cfg st).enabled && (s.standClusters st).contains px)

/-- A spare core of the cluster can still stand in: core 4 is neither retired nor in permanent service (spec/11 R287). -/
def State.spareFree (s : State) (px : Nat) : Bool := !(s.core (5 * px + 4)).retired && !(s.cluster px).coppiced

/-! ### Events, the wear ledger (spec/15 R386, spec/11 R297) -/

/-- Operating seconds now (spec/11 Table 11-6). -/
def State.opsec (s : State) : W64 := s.flash.opsec + BitVec.ofNat 64 (s.clock.now.toNat / 1000000000)

/-- An event is staged (spec/15 R386, Table 15-5). -/
def State.event (s : State) (code unit data : Nat) : State :=
  (s.setWarden { s.warden with staged := s.warden.staged ++
      [⟨s.clock.now, s.opsec, s.flash.evSeq, code, unit, BitVec.ofNat 32 data⟩] }).setFlash
    { s.flash with evSeq := s.flash.evSeq + 1 }

/-- A wear ledger entry is made and waits for flash (spec/11 R297, Table 11-6). -/
def State.wear (s : State) (kind cause unit detail : Nat) : State :=
  (s.setInteg { s.integ with pending := s.integ.pending ++
      [⟨s.opsec, kind, cause, unit, BitVec.ofNat 32 detail, s.flash.wearNext⟩] }).setFlash
    { s.flash with wearNext := s.flash.wearNext + 1 }

/-! ### Steps and their marks (spec/12 R303, R307) -/

/-- The stand's OPEN step, if there is one (spec/12 R303). -/
def StepSt.openStep (x : StepSt) : Option W64 := (x.records.find? (fun r => decide (r.mode = .isOpen))).map (·.step)

/-- A step's record carries its first marking cause (spec/12 R307). -/
def StepRec.withMark (r : StepRec) (cause : Nat) : StepRec :=
  match r.mark with
  | some _ => r
  | none => { r with mark := some cause }

/-- The record of a step is marked; a step without a record is not. -/
def StepSt.marked (x : StepSt) (step : W64) (cause : Nat) : StepSt :=
  { x with records := x.records.map (fun r => if r.step = step then r.withMark cause else r) }

/-- The step has a record without a mark, so that a mark counts (spec/12 R307: once per step). -/
def StepSt.unmarked (x : StepSt) (step : W64) : Bool :=
  x.records.any (fun r => decide (r.step = step) && r.mark.isNone)

/-- A step of a stand is marked with a cause of spec/12 Table 12-4. -/
def State.mark (s : State) (st : Nat) (step : Option W64) (cause : Nat) : State :=
  match step with
  | none => s
  | some n =>
    let x := s.stand st
    (s.setStand st { x with steps := x.steps.marked n cause }).count (kStand st cDckStepsMarked)
      (if x.steps.unmarked n then 1 else 0)

/-- A stand's recovery window opens (spec/09 R239). -/
def State.openWindow (s : State) (st : Nat) : State := s.setStand st { s.stand st with recovery := true }

/-! ### Dies of a stand and monitor marks (spec/11 R280) -/

/-- A physical core's, cluster's or landing die's die number in spec/11 Table 11-9. -/
def dieOfCore (c : Nat) : Nat := c / 20
def dieOfCluster (px : Nat) : Nat := px / 4
def dieOfLanding (l : Nat) : Nat := 18 + l

/-- The dies on which a stand's steps work: its clusters' compute dies and every landing die (spec/11 R280; every region
is interleaved over all landing dies, spec/07 R168). -/
def State.standDies (s : State) (st : Nat) : List Nat :=
  (s.standClusters st).map dieOfCluster ++ (List.range s.variant.landDies).map dieOfLanding

/-- The stand has a landing-engine part or a Skidder transfer in flight (spec/11 R280): of a command of opcode 0x10 to 0x13 or 0x20 to
0x23, of a reduction that delivers into an update group, of a PERMUTE, a CHECKPOINT or a RESTORE, or of a COMMIT that has still to
digest its groups. -/
def StandSt.onLanding (x : StandSt) : Bool :=
  x.inflight.any (fun c => let o := fld c.bytes 0 1
    (decide (0x10 ≤ o) && decide (o ≤ 0x13)) || (decide (0x20 ≤ o) && decide (o ≤ 0x23)) ||
      ((decide (o = 0x30) || decide (o = 0x31)) && bit (fld c.bytes 20 1) 7) || decide (o = 0x32) || decide (o = 0x43) ||
      decide (o = 0x44)) || x.steps.commits.any (fun j => decide (j.phase = 1)) || x.steps.copy.isSome

/-- The dies on which a stand has a cluster, a landing-engine part or a Skidder transfer just now (spec/11 R280). -/
def State.standDiesNow (s : State) (st : Nat) : List Nat :=
  (s.standClusters st).map dieOfCluster ++
    (if (s.stand st).onLanding then (List.range s.variant.landDies).map dieOfLanding else [])

/-- A die's monitor is out of range, or came back less than 1 ms ago, so that a step opened now on it is marked (spec/11
R280). -/
def State.dieMarks (s : State) (d : Nat) : Bool :=
  decide ((s.die d).out ≠ []) ||
    (match (s.die d).backAt with
     | some t => decide (s.clock.now.toNat < t.toNat + 1000000)
     | none => false)

/-- The steps that a stand works on: the open one, and those closed whose commands have not all completed (spec/11 R280). -/
def StepSt.current (x : StepSt) : List W64 :=
  (x.openStep.toList ++ (x.records.filter (fun r => decide (r.mode = .closed))).map (·.step)).dedup

/-- The current steps of every stand in a list are marked for a monitor (spec/11 R280, cause 0x8). -/
def State.monitorMarks (s : State) : List Nat → State
  | [] => s
  | st :: sts =>
    ((s.stand st).steps.current.foldl (fun t n => (t.mark st (some n) 8).countStand st cIntMonitorMark) s).monitorMarks sts

/-- The stands whose current step an excursion on any of the given dies marks (spec/11 R280). -/
def State.standsOn (s : State) (ds : List Nat) : List Nat :=
  (List.range 64).filter (fun st => (s.cfg st).enabled && (s.standDiesNow st).any (ds.contains ·))

/-! ### Commands in flight -/

def Cmd.opcode (c : Cmd) : Nat := fld c.bytes 0 1
def Cmd.flags (c : Cmd) : Nat := fld c.bytes 1 1
def Cmd.waits (c : Cmd) : Bool := bit c.flags 0
def Cmd.signals (c : Cmd) : Bool := bit c.flags 1
def Cmd.logged (c : Cmd) : Bool := bit c.flags 2
def Cmd.rpt (c : Cmd) : Bool := bit c.flags 3
def Cmd.context (c : Cmd) : Nat := bits (fld c.bytes 4 1) 3 0
def Cmd.seq (c : Cmd) : W32 := BitVec.ofNat 32 (fld c.bytes 8 4)
def Cmd.sigEvent (c : Cmd) : Nat := fld c.bytes 12 2
def Cmd.sigInc (c : Cmd) : W32 := BitVec.ofNat 32 (fld c.bytes 14 2)

/-- The command in flight that has a ticket. -/
def StandSt.cmd (x : StandSt) (t : Nat) : Option Cmd := x.inflight.find? (fun c => decide (c.ticket = t))

/-- The command of a ticket replaced. -/
def StandSt.setCmd (x : StandSt) (t : Nat) (c : Cmd) : StandSt :=
  { x with inflight := x.inflight.map (fun d => if d.ticket = t then c else d) }

/-- A status joins a command's completion statuses (spec/02 R46: the lowest is reported). -/
def Cmd.withStatus (c : Cmd) (st : W16) : Cmd := { c with statuses := c.statuses ++ [st] }

/-- The status that a completion reports: the lowest found, DONE where none was. -/
def Cmd.status (c : Cmd) : W16 :=
  match c.statuses with
  | [] => 0
  | x :: xs => xs.foldl (fun a b => if b.toNat < a.toNat then b else a) x

end Sys2Proof.Machine
end

