-- ==== Sys2Proof/Machine/DiePaths.lean ====
section
/-! DEFINITION. Die-link ports and the paths of traffic between dies (spec/01 R17-R19, Table 1-3; spec/10 R269). -/

namespace Sys2Proof.Machine

/-- The die at the other end of a die-link port (Table 1-3). Ports are numbered in the table's order: a compute die's 0 to 7
face L0 to L7, and 8 and 9 its link dies; a landing die's port m faces Cm; a link die's face its compute dies in rising order,
then its two neighbours, M0 and M1; a management die's face K0 to K3 and the other management die. -/
def dieLinkPeer (d port : Nat) : Option Nat :=
  if d < 18 then
    if port < 8 then some (18 + port)
    else if port < 10 then
      let i := port - 8
      some (26 + (if d < 16 then (d + i) % 4 else 2 * (d - 16) + i))
    else none
  else if d < 26 then (if port < 18 then some port else none)
  else if d < 30 then
    let k := d - 26
    let cs := (List.range 18).filter (fun m => decide (m < 16 ∧ (m % 4 = k ∨ (m + 1) % 4 = k)) || decide (16 ≤ m ∧ (m - 16) = k / 2))
    match cs[port]? with
    | some m => some m
    | none => if port = 9 then some (26 + (k + 1) % 4) else if port = 10 then some (26 + (k + 3) % 4)
      else if port = 11 then some 30 else if port = 12 then some 31 else none
  else if d < 32 then (if port < 4 then some (26 + port) else if port = 4 then some (61 - d) else none)
  else none

/-- The port of a die that faces another, if one does. -/
def portToward (a b : Nat) : Option Nat := (List.range 18).find? (fun p => decide (dieLinkPeer a p = some b))

def State.dieLink (s : State) (d port : Nat) : DieLink := s.fabric.dieLinks.get DieLink.reset (32 * d + port)
def State.setDieLink (s : State) (d port : Nat) (x : DieLink) : State :=
  s.setFabric { s.fabric with dieLinks := s.fabric.dieLinks.set (32 * d + port) x }

/-- The port carries traffic: the dies at both ends are in service, and neither end has been taken out (R17, R18). -/
def State.dieLinkOn (s : State) (d port : Nat) : Bool :=
  match dieLinkPeer d port with
  | some e => s.dieInService d && s.dieInService e && !(s.dieLink d port).out &&
      (match portToward e d with | some q => !(s.dieLink e q).out | none => true)
  | none => false

/-- Two dies are joined by a link that carries traffic. -/
def State.joined (s : State) (a b : Nat) : Bool :=
  match portToward a b with
  | some p => s.dieLinkOn a p
  | none => false

/-! ### Paths (R19, spec/10 R269) -/

/-- The link dies from `a` to `b`, both included (0 to 3): the chain K0-K1-K2 of the JW32-E, or the ring by the shorter way, that with
the lower-numbered link die first on a tie. -/
def linkWay (v : Variant) (a b : Nat) : List Nat :=
  if v.linkDies < 4 then
    if a ≤ b then (List.range (b + 1 - a)).map (a + ·) else (List.range (a + 1 - b)).map (a - ·)
  else
    let up := (List.range ((b + 4 - a) % 4 + 1)).map (fun i => (a + i) % 4)
    let down := (List.range ((a + 4 - b) % 4 + 1)).map (fun i => (a + 4 - i) % 4)
    if up.length < down.length then up
    else if down.length < up.length then down
    else if (a + 1) % 4 < (a + 3) % 4 then up else down

/-- The link dies, as die numbers, that a compute die reaches. -/
def State.linksOf (s : State) (c : Nat) : List Nat := ((List.range 4).map (26 + ·)).filter (s.joined c)

/-- The in-service compute dies attached to a link die. -/
def State.computesOf (s : State) (k : Nat) : List Nat := (List.range 18).filter (fun c => s.joined k c)

/-- The compute die through which a link die's traffic to a 4 KiB page of memory goes, by a hash that the specification does not give. -/
def State.pageDie (s : State) (k page : Nat) : Option Nat :=
  let cs := s.computesOf k
  cs[Config.pageHash page % cs.length]?

/-- The shorter of two ways, the first on a tie. -/
def shorter (a b : List Nat) : List Nat := if b.length < a.length then b else a

/-- The shortest way between any link die of a list and any of another; of ways of one length the first, so that of the lowest-numbered
link dies. -/
def linkPath (v : Variant) (as bs : List Nat) : Option (List Nat) :=
  match (as.flatMap fun a => bs.map fun b => (linkWay v (a - 26) (b - 26)).map (26 + ·)) with
  | [] => none
  | w :: ws => some (ws.foldl shorter w)

/-- The link dies at which a die's traffic to other dies begins: its own, or itself. -/
def State.linkEnds (s : State) (d : Nat) : List Nat :=
  if d < 18 then s.linksOf d else if 26 ≤ d ∧ d < 30 then [d] else []

/-- From a management die or a link die to memory: the dies on the way to landing die `l`.  Which of its link dies a management die's
traffic takes the specification does not say: a hash of the page too. -/
def State.memoryPath (s : State) (d l page : Nat) : Option (List Nat) :=
  let ks := (List.range 4).map (26 + ·) |>.filter (s.joined d)
  let k? := if 30 ≤ d then ks[Config.pageHash page % ks.length]? else some d
  k?.bind (fun k => (s.pageDie k page).map (fun c => (if 30 ≤ d then [d, k] else [k]) ++ [c, l]))

/-- The dies that traffic from one die to another passes, both ends included; none where no path exists (R19). `page` is the number of
the 4 KiB page that the traffic is for. -/
def State.diePath (s : State) (src dst page : Nat) : Option (List Nat) :=
  let land (d : Nat) : Bool := decide (18 ≤ d) && decide (d < 26)
  if src = dst then some [src]
  else if land src && land dst then none
  else if land dst then (if src < 18 then some [src, dst] else s.memoryPath src dst page)
  else if land src then (if dst < 18 then some [src, dst] else (s.memoryPath dst src page).map List.reverse)
  else if 30 ≤ src && 30 ≤ dst then some [src, dst]
  else if 30 ≤ src then
    if dst < 18 then (s.linksOf dst).head?.map (fun k => [src, k, dst]) else some [src, dst]
  else if 30 ≤ dst then
    if src < 18 then (s.linksOf src).head?.map (fun k => [src, k, dst]) else some [src, dst]
  else
    let ends (d : Nat) (w : List Nat) : List Nat := if d < 18 then d :: w else w
    (linkPath s.variant (s.linkEnds src) (s.linkEnds dst)).map (fun w => (ends dst (ends src w).reverse).reverse)

/-- One die comes straight after another on a path. -/
def hop (a b : Nat) : List Nat → Bool
  | x :: y :: rest => (decide (x = a) && decide (y = b)) || hop a b (y :: rest)
  | _ => false

/-- What comes after a die on a path. -/
def afterDie (d : Nat) : List Nat → Option Nat
  | x :: y :: rest => if x = d then some y else afterDie d (y :: rest)
  | _ => none

end Sys2Proof.Machine
end

