-- ==== Sys2Proof/Machine/PowerOps.lean ====
section
/-! DEFINITION. Shared operations of power (spec/16): what a power-off leaves, what the wear ledger restores at power-on,
the decision of a chip reset, and monitors. -/

namespace Sys2Proof.Machine

/-- Phases N that each domain needs (spec/16 Table 16-3). -/
def domainN (pd : Nat) : Nat :=
  if pd < 8 then 12 else if pd < 10 then 6 else if pd < 14 then 5 else if pd < 16 then 6
  else if pd = 16 then 7 else if pd = 17 then 6 else if pd = 18 then 2 else 1

/-- The rated current of each domain in A (spec/16 Table 16-3). -/
def domainAmps (pd : Nat) : Nat :=
  if pd < 8 then 1200 else if pd < 10 then 600 else if pd < 14 then 500 else if pd < 16 then 600
  else if pd = 16 then 700 else if pd = 17 then 600 else if pd = 18 then 200 else 100

/-- PWR_DOMAIN.USED: the domain serves a present unit (spec/16 R394). -/
def domainUsed (v : Variant) (pd : Nat) : Bool :=
  decide (pd < 20) && !(decide (v = .e) && (pd == 6 || pd == 7 || pd == 13))

/-- The dies of a domain, numbered as spec/11 Table 11-9 (spec/16 Table 16-3); a stack domain's are the landing dies that
own its stacks. -/
def domainDies (v : Variant) (pd : Nat) : List Nat :=
  (if pd < 8 then [2 * pd, 2 * pd + 1] else if pd = 8 then [16] else if pd = 9 then [17]
   else if pd < 14 then [18 + 2 * (pd - 10), 19 + 2 * (pd - 10)]
   else if pd = 14 then [18, 19, 20, 21] else if pd = 15 then [22, 23, 24, 25]
   else if pd < 18 then [26, 27, 28, 29] else [30, 31]).filter v.hasDie

/-- The command front end and the time base run: input power is good, the module is awake and PD18 is on (spec/16 Table
16-3). -/
def State.alive (s : State) : Bool := s.power.good && !s.power.asleep && !s.power.locked && (s.domain 18).on

/-- The fraction at which a compute die issues: the limiter's p, or less where its domain is derated (spec/16 R395, R399,
Table 16-8). -/
def State.dieFraction (s : State) (d : Nat) : Nat :=
  let pd := if d < 16 then d / 2 else d - 8
  let f := (s.domain pd).failed.length
  if f ≤ 2 then s.power.p else min s.power.p (min 16 (16 * (domainN pd + 2 - f) / domainN pd))

/-- The limiter grants candidate `j` (spec/16 R399). -/
def grants (p j : Nat) : Bool := decide ((j + 1) * p / 16 > j * p / 16)

/-! ### Losing power -/

/-- The first cause of a power-off is latched; a later one does not overwrite it (spec/16 R410). -/
def PowerSt.latch (p : PowerSt) (c : OffCause) : PowerSt := { p with latched := some (p.latched.getD c) }

/-- The module without power: everything but the flash, the wake circuit's latch and its pins is lost (spec/16 R393, R406,
R408). -/
def State.dark (s : State) (p : PowerSt) : State :=
  { State.reset with pending := s.pending, sent := s.sent, freeCtr := s.freeCtr, variant := s.variant,
                     flash := { s.flash with opsec := s.opsec }, power := p
                     warden := { Warden.reset with rootDigest := s.warden.rootDigest } }

/-- What the wake circuit keeps of the power state with the domains off (spec/16 R406, R407, R410). -/
def PowerSt.wakeCircuit (p : PowerSt) : PowerSt :=
  { PowerSt.reset with
      good := p.good
      lastOff := p.lastOff
      latched := p.latched
      asleep := p.asleep
      thermtrip := p.thermtrip
      cycleReq := p.cycleReq
      locked := p.locked
      stbyLost := p.stbyLost }

/-- All 20 domains off, by a cause (spec/16 R393, R406, R407). -/
def State.powerOff (s : State) (c : OffCause) : State := s.dark (s.power.wakeCircuit.latch c)

/-! ### What the wear ledger restores (spec/11 R297, spec/16 R395) -/

/-- The logical number that a coppiced spare takes: that of its cluster's first retired core (spec/11 R287). -/
def State.coppiceFor (s : State) (px : Nat) : Option Nat :=
  (List.range 4).find? (fun k => (s.core (5 * px + k)).retired && !((s.core (5 * px + 4)).logical == some k))

/-- A core retired: it answers no logical number. -/
def CoreSt.retire (c : CoreSt) : CoreSt := { c with retired := true, logical := none, cruise := false }

/-- An HBM repair's place in the DETAIL word of the ledger: 1 row, 2 bank, 3 pseudo-channel in bits [31:30]; a row's bank
in [29:18] and row in [17:0]; a bank or pseudo-channel in [17:0] (DESIGN CHOICE 20). -/
def repairDetail (kind a b : Nat) : Nat := kind * 2 ^ 30 + (a % 2 ^ 12) * 2 ^ 18 + b % 2 ^ 18

/-- A repair that the ledger records, made again (spec/07 R179).  The ledger names a softly repaired row as any other: where no hard
resource remains for it, it is from now on a row directory entry, made without asking the directory or the pool for room, which the
spec does not say (DESIGN CHOICE, log entry 88). -/
def StackSt.restoreRepair (x : StackSt) (d : Nat) : StackSt :=
  let a := bits d 29 18
  let b := bits d 17 0
  match d / 2 ^ 30 with
  | 1 => { x with rowDir := x.rowDir ++ [(a, b)] }
  | 2 => { x with bankDir := x.bankDir ++ [b] }
  | 3 => { x with pcDir := some b }
  | _ => x

/-- A spare takes the identity of a compute die, which is out of service from then on (spec/13 R352). -/
def State.substitute (s : State) (d sp : Nat) : State :=
  let t := s.setDie d { s.die d with out_ := true, marked := false, standsFor := none }
  t.setDie sp { t.die sp with standsFor := some (s.dieIdentity d) }

/-- One ledger entry's lasting effect, restored at power-on (spec/11 Table 11-6). -/
def State.restoreEntry (s : State) (e : WearEntry) : State :=
  match e.kind with
  | 0x01 => s.setArray e.unit { s.array e.unit with alarms := e.opsec :: (s.array e.unit).alarms }
  | 0x02 =>
    let x := s.array e.unit
    if e.cause = 0 then s.setArray e.unit { x with
      faults := (e.opsec, if e.detail.toNat ≤ 64 then some e.detail.toNat else none) :: x.faults
      alarms := if e.detail = 0xffffffff then [] else x.alarms }
    else if e.unit ≥ 360 then s
    else s.setCore e.unit { s.core e.unit with laneFaults := e.opsec :: (s.core e.unit).laneFaults }
  | 0x03 => s.setArray e.unit { s.array e.unit with column := e.detail.toNat, remapped := true, faults := (s.array e.unit).faults.drop 2 }
  | 0x04 => s.setCore e.unit (s.core e.unit).retire
  | 0x05 =>
    let px := e.unit / 5
    match s.coppiceFor px with
    | some k => (s.setCore e.unit { s.core e.unit with logical := some k }).setCluster px
        { s.cluster px with coppiced := true }
    | none => s
  | 0x06 => if e.unit < 16 || (s.die e.unit).standsFor.isSome then s.setDie e.unit { s.die e.unit with marked := true }
            else s.setDie e.unit { s.die e.unit with out_ := true }
  | 0x07 => s.substitute e.unit e.detail.toNat
  | 0x08 =>
    let x := if e.unit < 1024 then e.unit / 5 else e.unit - 1024
    let m := e.detail.toNat / 65536
    let r := (s.cluster x).rows.get SramRows.reset m
    s.setCluster x { s.cluster x with
      rows := (s.cluster x).rows.set m { r with spared := r.spared ++ [e.detail.toNat % 65536] } }
  | 0x09 => s.setStack e.unit ((s.stack e.unit).restoreRepair e.detail.toNat)
  | 0x0b =>
    let x := (s.dieLink (e.unit / 32) (e.unit % 32)).failLane e.detail.toNat
    s.setDieLink (e.unit / 32) (e.unit % 32) { x with out := x.out || decide (3 ≤ x.failedLanes.length) }
  | 0x0c => s.setLand (e.unit / 16) { s.land (e.unit / 16) with retired := (s.land (e.unit / 16)).retired ++ [e.unit % 16] }
  | 0x0d => s.setDomain e.unit { s.domain e.unit with
      failed := (s.domain e.unit).failed ++ [e.detail.toNat],
      derated := decide ((s.domain e.unit).failed.length ≥ 2) }
  | _ => s

/-- Every entry of the flash ledger, oldest first. -/
def State.restoreWear (s : State) : State := s.flash.wear.foldl State.restoreEntry s

/-- The power-on sequence begins: the time base starts at zero, and the ledger's retirements and repairs hold (spec/16 R393,
R401, R409). -/
def State.powerOn (s : State) (p : PowerSt) : State := (s.dark p).restoreWear

/-! ### Pending entries reach the flash -/

/-- Pending wear entries and staged events written to flash (spec/11 R297, spec/15 R386, spec/16 R408). -/
def State.flushFlash (s : State) : State :=
  (((s.setFlash { s.flash with wear := s.flash.wear ++ s.integ.pending,
                               log := (s.flash.log ++ s.warden.staged).drop
                                 ((s.flash.log ++ s.warden.staged).length - 1048576) }).setInteg
      { s.integ with pending := [] }).setWarden { s.warden with staged := [] }).setCounters
    (((s.counters.add (kModule cIntLedgerWrites) s.integ.pending.length).add (kModule cWdnEvlogWritten)
        s.warden.staged.length).add (kModule cWdnEvlogOverwritten)
      ((s.flash.log ++ s.warden.staged).length - 1048576))

/-! ### The chip reset decision (spec/13 R345) -/

/-- A chip reset is decided with a cause of spec/13 Table 13-8; a decision already standing keeps its cause. -/
def State.decideChipReset (s : State) (cause : Nat) : State :=
  if s.rst.pendingCause.isSome || !s.alive then s
  else ((s.setRst { s.rst with pendingCause := some cause, decidedAt := s.clock.now }).countModule
    cRstChipRequested).event 0x0020 0 cause

/-- Warden firmware decides a chip reset; while the active Warden is halted the decision stands in the journal, and the standby applies it
(spec/15 R373). -/
def State.wardenReset (s : State) (cause : Nat) : State :=
  if s.warden.halted then s.setFlash { s.flash with journal := s.flash.journal ++ [.chipReset cause] } else s.decideChipReset cause

/-- The decisions in the journal applied by the standby (spec/15 R373). -/
def State.journalled (s : State) : State :=
  s.flash.journal.foldl (fun t d => match d with
    | .chipReset cause => t.decideChipReset cause
    | _ => t) (s.setFlash { s.flash with journal := [] })

/-! ### Units that start-up test does not find (spec/00 R3, spec/14 R360, spec/16 R396) -/

/-- GLB_BOOT.FAULT names the first fault found, and an event is logged (spec/14 R360). -/
def State.startFault (s : State) (code : Nat) : State :=
  if s.boot.fault = 0 then (s.setBoot { s.boot with fault := code }).event 0x0004 0 code else s

/-- Units that the variant record names and start-up test does not find (spec/00 R3). -/
def State.missingUnits (s : State) (units : List Nat) : State :=
  let new := (units.filter (fun n => !s.boot.missing.contains n)).dedup
  let t := new.foldl (fun u n => u.event 0x0001 n 0) (s.setBoot { s.boot with missing := s.boot.missing ++ new })
  if new.isEmpty then t else t.startFault 1

/-- The dies or stacks that a domain supplies, numbered as `missing` of IMAGE_VERIFY (Table 16-3). -/
def domainUnits (v : Variant) (pd : Nat) : List Nat :=
  if pd = 14 ∨ pd = 15 then ((List.range 16).map (fun n => 16 * (pd - 14) + n)).filterMap (fun n =>
    if n < v.stacks then some (64 + n) else none)
  else domainDies v pd

/-- The units of the domains that failed to regulate, which start-up test does not find (R396). -/
def State.unpowered (s : State) : List Nat :=
  (List.range 20).flatMap (fun pd => if (s.domain pd).fault then domainUnits s.variant pd else [])

/-- A domain switched off as one that failed (R396): after IMAGE_VERIFIED, while start-up goes on, its units are missing at once. -/
def State.domainFails (s : State) (pd : Nat) : State :=
  let t := s.setDomain pd { s.domain pd with on := false, fault := true }
  if t.boot.imageVerified && !t.boot.standsReady then t.missingUnits (domainUnits t.variant pd) else t

/-! ### Monitors (spec/16 R402, spec/11 R280) -/

/-- A die's monitor of a kind leaves its range. -/
def DieSt.leave (x : DieSt) (kind : Nat) : DieSt := { x with out := kind :: x.out.filter (· ≠ kind) }

/-- A die's monitor of a kind is back in range. -/
def DieSt.back (x : DieSt) (kind : Nat) (now : W64) : DieSt :=
  if x.out.contains kind then { x with out := x.out.filter (· ≠ kind), backAt := some now } else x

/-- One change to each die of a list. -/
def State.onDies (s : State) (ds : List Nat) (f : DieSt → DieSt) : State :=
  s.setDies (ds.foldl (fun t d => t.upd DieSt.reset d f) s.dies)

/-- A monitor leaves its range on some dies: counted, the current steps of the stands there marked, an event logged. -/
def State.excursion (s : State) (ds : List Nat) (kind c : Nat) : State :=
  (((s.countModule c).monitorMarks (s.standsOn ds)).onDies ds (·.leave kind)).event 0x0031 (ds.headD 30) kind

/-- Every die of the module. -/
def State.allDies (s : State) : List Nat := (List.range 32).filter s.variant.hasDie

end Sys2Proof.Machine
end

