-- ==== Sys2Proof/Machine/Chute.lean ====
section
/-! DEFINITION. Chutes, result slots and MSI-X (spec/02): the shared operations, and the commands that a host link or a
pointer comparison sends to one chute. -/

namespace Sys2Proof.Machine

/-! ### MSI-X (spec/02 R31, R54) -/

/-- The link can carry a message now: it exists, is up, out of D3hot, and Bus Master Enable is set. -/
def State.mayMessage (s : State) (l : LinkId) : Bool :=
  s.hasLink l && (s.link l).up && !(s.link l).d3hot && (s.link l).bme && (s.link l).msixEnable

/-- A vector is masked, by the function or by its own entry. -/
def HostLink.masked (h : HostLink) (v : Nat) : Bool := h.msixMask || (h.msix.get MsixEntry.reset v).masked

/-- The message of a vector. -/
def HostLink.message (h : HostLink) (l : LinkId) (v : Nat) : Output :=
  let e := h.msix.get MsixEntry.reset v
  .msix l v e.addr e.data

/-- Vector `v` is signalled on a link: sent, or held pending while masked (spec/02 R54). -/
def State.msix (s : State) (l : LinkId) (v : Nat) : State :=
  let h := s.link l
  if !s.mayMessage l then s
  else if h.masked v then s.setLink l { h with pba := v :: h.pba.filter (· ≠ v) }
  else s.send (h.message l v)

/-- The vectors that are pending and no longer masked are sent (spec/02 R54). -/
def State.msixFlush (s : State) (l : LinkId) : State :=
  let h := s.link l
  if !s.mayMessage l then s
  else
    let go := h.pba.filter (fun v => !h.masked v)
    (s.setLink l { h with pba := h.pba.filter (fun v => h.masked v) }).setSent (s.sent ++ go.reverse.map (h.message l))

/-! ### Result slots (spec/02 R50-R52) -/

def StandSt.slot (x : StandSt) (n : Nat) : Slot := x.slots.get Slot.reset n

/-- The lowest-numbered FREE slot at or after the cursor, wrapping past 255 (R50). -/
def StandSt.freeSlot (x : StandSt) : Option Nat :=
  ((List.range 256).map (fun i => (x.cursor + i) % 256)).find? (fun n => decide ((x.slot n).st = .free))

/-- A slot is reserved and the cursor moves past it (R50). -/
def StandSt.reserve (x : StandSt) (n : Nat) : StandSt :=
  { x with slots := x.slots.set n { x.slot n with st := .reserved }, cursor := (n + 1) % 256 }

/-- RES_CURSOR.HELD: slots RESERVED or READY (Table 2-17). -/
def StandSt.heldSlots (x : StandSt) : Nat := ((List.range 256).filter (fun n => decide ((x.slot n).st ≠ .free))).length

/-- The next generation: from 0xFFFF to 1 (Table 2-15). -/
def nextGen (g : W16) : W16 := if g = 0xffff then 1 else g + 1

/-- A slot written with a result: GEN one higher, READY (R50, Table 2-15). -/
def Slot.write (x : Slot) (seq : W32) (status : W16) (ctx op : Nat) (payload : List Byte) : Slot :=
  { st := .ready, seq := seq, status := status, gen := nextGen x.gen, ctx := ctx, op := op, payload := payload }

/-- A result written into a slot of a stand, with its MSI-X message on the link that delivered the packet (R50, R54). -/
def State.writeSlot (s : State) (st n : Nat) (link : LinkId) (bytes : List Byte) (status : W16) (payload : List Byte) :
    State :=
  let x := s.stand st
  let v := (x.slot n).write (BitVec.ofNat 32 (fld bytes 8 4)) status (bits (fld bytes 4 1) 3 0) (fld bytes 0 1) payload
  (s.setStand st { x with slots := x.slots.set n v }).msix link st

/-- A slot returned unwritten, its generation unchanged (R50). -/
def StandSt.freeUnwritten (x : StandSt) (n : Nat) : StandSt :=
  { x with slots := x.slots.set n { x.slot n with st := .free } }

/-! ### Event counters (spec/02 R48) -/

/-- The wait condition of R48. -/
def StandSt.waitHolds (x : StandSt) (bytes : List Byte) : Bool :=
  decide ((x.evt.get 0 (fld bytes 6 1) - x.wait.get 0 (fld bytes 7 1)).toNat < 2 ^ 31)

/-- An increment of an event counter, modulo 2^32. -/
def StandSt.signal (x : StandSt) (e : Nat) (inc : W32) : StandSt := { x with evt := x.evt.upd 0 e (· + inc) }

/-! ### The chute (spec/02 R38-R43) -/

def Packet.flits (p : Packet) : Nat := p.bytes.length / 64

/-- Flits in the chute, complete packets and the incomplete one. -/
def Chute.used (c : Chute) : Nat :=
  (c.packets.map Packet.flits).sum + (match c.part with | some p => p.bytes.length / 64 | none => 0)

/-- CHU_STATUS.FREE (R41). -/
def Chute.free (c : Chute) : Nat := 4096 - c.used

/-- Both copies of the tail pointer moved on by `n` flits (R42). -/
def Chute.advanceTail (c : Chute) (n : Nat) : Chute :=
  { c with tail := (c.tail + n) % 4096, tailCopy := (c.tailCopy + n) % 4096 }

/-- Both copies of the head pointer moved on by `n` flits (R42). -/
def Chute.advanceHead (c : Chute) (n : Nat) : Chute :=
  { c with head := (c.head + n) % 4096, headCopy := (c.headCopy + n) % 4096 }

/-- The incomplete packet dropped and its flits freed, the discard state ended (R43). -/
def Chute.drop (c : Chute) : Chute :=
  match c.part with
  | some p => { c.advanceTail (4096 - p.bytes.length / 64 % 4096) with part := none, discard := false }
  | none => { c with discard := false }

/-- What R40 does for a chute whose incomplete packet belonged to a link that went down. -/
def Chute.linkLost (c : Chute) (l : LinkId) : Chute :=
  match c.part with
  | some p => if p.link = l then c.drop else c
  | none => c

/-- A chute emptied: every flit discarded, the incomplete packet too, and all four pointers zero (R42, spec/13 R343). -/
def Chute.emptied (c : Chute) : Chute :=
  { c with packets := [], part := none, head := 0, tail := 0, headCopy := 0, tailCopy := 0 }

/-! ### Header checks (spec/02 R46) -/

/-- The lengths that Table 2-11 accepts for an opcode; `none` for an opcode not in it. -/
def lengthsOf (op : Nat) : Option (Nat × Nat) :=
  if op = 0x52 then some (1, 64)
  else if op = 0x10 ∨ op = 0x11 ∨ op = 0x12 ∨ op = 0x13 ∨ op = 0x20 ∨ op = 0x30 ∨ op = 0x31 then some (2, 2)
  else if op = 0x01 ∨ op = 0x02 ∨ op = 0x08 ∨ op = 0x09 ∨ op = 0x21 ∨ op = 0x22 ∨ op = 0x23 ∨ op = 0x32 ∨ op = 0x33 ∨
    op = 0x40 ∨ op = 0x41 ∨ op = 0x42 ∨ op = 0x43 ∨ op = 0x44 ∨ op = 0x48 ∨ op = 0x49 ∨ op = 0x50 ∨ op = 0x51
    then some (1, 1)
  else none

/-- A reserved field of the header is not zero, or SIG_EVENT is above 255 (R46; the other indices have 8 bits). -/
def headerMalformed (p : List Byte) : Bool :=
  decide (bits (fld p 1 1) 7 4 ≠ 0) || decide (bits (fld p 4 1) 7 4 ≠ 0) || decide (fld p 5 1 ≠ 0) ||
    decide (fld p 12 2 > 255)

/-- The first header check that a packet fails, as its status; 0 where none does (R46). -/
def headerVerdict (v : Variant) (cfg : StandCfg) (p : List Byte) : W16 :=
  if headerMalformed p then 0x0001
  else match lengthsOf (fld p 0 1) with
    | none => 0x0002
    | some (lo, hi) =>
      if fld p 2 2 < lo ∨ hi < fld p 2 2 then 0x0001
      else if !bit cfg.contexts.toNat (bits (fld p 4 1) 3 0) then 0x0004
      else if fld p 0 1 = 0x13 ∧ !v.hasBucker then 0x0003
      else 0x0000

/-! ### Packet assembly (spec/02 R39, R40) -/

/-- One flit appended: it begins a packet, goes on with one, or is refused for its length. -/
def Chute.append (v : Variant) (cfg : StandCfg) (link : LinkId) (c : Chute) (flit : List Byte) : Chute :=
  let n := match c.part with | some p => p.len | none => fld flit 2 2
  let bs := (match c.part with | some p => p.bytes | none => []) ++ flit
  if n = 0 ∨ n > 64 then { c with badLength := true, discard := true }
  else
    let d := c.advanceTail 1
    if bs.length ≥ 64 * n then { d with part := none, packets := d.packets ++ [⟨bs, link, headerVerdict v cfg bs⟩] }
    else { d with part := some ⟨bs, link, n⟩ }

/-- The flits of a write, 64 bytes each. -/
def flitsOf : Nat → List Byte → List (List Byte)
  | 0, _ => []
  | n + 1, bs => bs.take 64 :: flitsOf n (bs.drop 64)

/-- The flits of an accepted write appended in address order; what follows a bad first flit is discarded with it (R39). -/
def Chute.appendAll (v : Variant) (cfg : StandCfg) (link : LinkId) : Chute → List (List Byte) → Chute
  | c, [] => c
  | c, f :: fs => let d := c.append v cfg link f; if d.discard then d else d.appendAll v cfg link fs

def State.setChute (s : State) (st : Nat) (c : Chute) : State := s.setStand st { s.stand st with chute := c }

/-- The image lets a link write a chute (Table 2-9). -/
def StandCfg.permits (c : StandCfg) : LinkId → Bool
  | .h0 => c.h0
  | .h1 => c.h1

/-- Accesses through a link's BARs reach the W32: the front end runs, the link exists, is up, and its memory decoding is on
(spec/02 R30, R32). -/
def State.reaches (s : State) (l : LinkId) : Bool := s.alive && s.hasLink l && (s.link l).up && !(s.link l).d3hot

/-- A chute write (R38-R41), with its reasons to be ignored in R416's order. -/
def State.chuteWrite (s : State) (link : LinkId) (st offset : Nat) (data : List Byte) : State :=
  let cfg := s.cfg st
  let c := (s.stand st).chute
  let n := data.length / 64
  if !cfg.enabled then s.countModule cUnusedStandWrites
  else if !s.boot.standsReady || !cfg.permits link then s.countStand st cChuWriteIgnored
  else if offset % 64 ≠ 0 ∨ data.length % 64 ≠ 0 ∨ data.length > 512 ∨ offset + data.length > 2 ^ 20 then
    s.countStand st cChuBadWrite
  else if c.discard then s.countStand st cChuDiscardedWrites
  else if (match c.part with | some p => decide (p.link ≠ link) | none => false) then
    (s.setChute st { c with xlink := true }).countStand st cChuXlinkIgnored
  else if n > c.free then
    (s.setChute st { c with overrun := true, discard := true }).countStand st cChuOverrun
  else
    let d := c.appendAll s.variant cfg link (flitsOf n data)
    let d := if c.packets.isEmpty && !d.packets.isEmpty then { d with headAt := s.clock.now } else d
    (s.setChute st d).count (kStand st cChuBadLength) (if d.discard then 1 else 0)

/-- A write to a chute window (R38). -/
def execChuteWrite (link : LinkId) (stand offset : Nat) (data : List Byte) (s : State) :
    Host.Outcome State Fault Refusal :=
  .next (if s.reaches link ∧ stand < 64 then s.chuteWrite link stand offset data else s)

/-- The duplicated pointers disagree: the chute is emptied and discards until DROP (R42). -/
def execChutePtrMismatch (stand : Nat) (s : State) : Host.Outcome State Fault Refusal :=
  .next (if s.alive ∧ (s.cfg stand).enabled then
    let x := s.stand stand
    (s.setStand stand { x with chute := { x.chute.emptied with ptrReset := true, discard := true }
                               rst := { x.rst with discard := [] } }).countStand stand
      cChuPtrMismatch
    else s)

/-- Writing 1 to CHU_CTRL.DROP (R43). -/
def State.drop (s : State) (st : Nat) : State :=
  if (s.cfg st).enabled then s.setChute st (s.stand st).chute.drop else s

/-- CHU_CTRL.DROP written with 1 (R43). -/
def execDrop (link : LinkId) (stand : Nat) (s : State) : Host.Outcome State Fault Refusal :=
  .next (if s.reaches link then s.drop stand else s)

/-- A release of a slot: it frees a READY slot of its generation, and is counted otherwise (R52). -/
def State.release (s : State) (st slot : Nat) (gen : W16) : State :=
  let x := s.stand st
  let v := x.slot slot
  if !(s.cfg st).enabled then s
  else if v.st = .ready ∧ v.gen = gen then s.setStand st (x.freeUnwritten slot)
  else s.countStand st cResBadRelease

/-- RES_RELEASE written with a slot and its generation (R52). -/
def execResRelease (link : LinkId) (stand slot : Nat) (gen : W16) (s : State) : Host.Outcome State Fault Refusal :=
  .next (if s.reaches link then s.release stand (slot % 256) gen else s)

/-! ### Completion (spec/02 R48, R50) -/

/-- The three statuses of a command that a reset discarded (R48). -/
def discarded (status : W16) : Bool := decide (status = 6) || decide (status = 7) || decide (status = 8)

/-- The result slot of a command that has completed: written where RPT is set, the command is RESULT or its status is not
DONE, and returned otherwise (R50). -/
def State.reportSlot (s : State) (st : Nat) (c : Cmd) (payload : List Byte) : State :=
  match c.slot with
  | none => s
  | some n =>
    if c.rpt || decide (c.opcode = 0x51) || decide (c.status ≠ 0) then
      s.writeSlot st n c.link c.bytes c.status (if discarded c.status then [] else payload)
    else s.setStand st ((s.stand st).freeUnwritten n)

/-- An OWNER_LOAD whose entries showed what R233 or R239 of spec/09 refuses: it ends as a refusal, though it has issued. -/
def Cmd.refusedLate (c : Cmd) : Bool := decide (c.opcode = 0x33) && (decide (c.status = 0x0107) || decide (c.status = 0x010a))

/-- SIGNAL, applied by every completion but a discard or a late refusal (R46, R48); a replayed command signals the replay's own counters (spec/12
R316). -/
def State.applySignal (s : State) (st : Nat) (c : Cmd) : State :=
  let x := s.stand st
  if !c.signals || discarded c.status || c.refusedLate then s
  else if c.replay then
    match x.steps.replay with
    | some r => s.setStand st { x with steps := { x.steps with
        replay := some { r with evt := r.evt.upd 0 c.sigEvent (· + c.sigInc) } } }
    | none => s
  else s.setStand st (x.signal c.sigEvent c.sigInc)

/-- A command completes: its slot, then its signal, and it is in flight no longer (R48). -/
def State.finish (s : State) (st : Nat) (c : Cmd) (payload : List Byte) : State :=
  let t := (s.reportSlot st c payload).applySignal st c
  let x := t.stand st
  t.setStand st { x with inflight := x.inflight.filter (fun d => decide (d.ticket ≠ c.ticket)) }

end Sys2Proof.Machine
end

