-- ==== Sys2Proof/Machine/Hbm.lean ====
section
/-! DEFINITION. Access to the stacked memory (spec/07 R168-R175, spec/08 R193-R195): the address map, the copies of
versioned regions, reads with their corrections and poison, and writes. -/

namespace Sys2Proof.Machine

/-! ### The address map -/

/-- The key of byte `loc` of landing die `die`'s protected memory. -/
def hbmKey (die loc : Nat) : Nat := die * 2 ^ 38 + loc
def keyDie (k : Nat) : Nat := k / 2 ^ 38
def keyLoc (k : Nat) : Nat := k % 2 ^ 38

/-- The stack of a Flashing block's key (spec/07 R169). -/
def keyStack (k : Nat) : Nat := 4 * keyDie k + keyLoc k / 512 % 4

/-- The pseudo-channel of a key (spec/07 R169). -/
def keyChannel (k : Nat) : Nat :=
  let b := keyLoc k / 512
  ((b / 4) ^^^ (b / 128)) % 32

/-- The bank of a key, numbered 128 × pseudo-channel + bank, its row in the bank, and the first of its Flashing block's 18 bursts in the
row (spec/07 R169: they follow from b >> 7). -/
def keyBank (k : Nat) : Nat := 128 * keyChannel k + Config.bankOf (keyLoc k / 512 / 128) % 128
def keyRow (k : Nat) : Nat := Config.rowOf (keyLoc k / 512 / 128) % 2 ^ 18
def keyBurst (k : Nat) : Nat := Config.burstOf (keyLoc k / 512 / 128)

/-! ### A Flashing block on the pins (spec/07 R167) -/

/-- The burst, of a block's 18, and the data pin on which a symbol of its word `w` travels, a beat for each bit; symbols go by their
positions of R165: P0, P1, then D0 to D15. -/
def symbolPin (w sym : Nat) : Nat × Nat :=
  if 2 ≤ sym then (w / 2, 16 * (w % 2) + (sym - 2))
  else (16 + w / 16, if w % 2 = 0 then 16 + w % 16 + sym else w % 16 - 1 + sym)

/-- The word of a block and its symbol that a data pin carries in a burst. -/
def pinSymbol (m p : Nat) : Nat × Nat :=
  if m < 16 then (2 * m + p / 16, p % 16 + 2)
  else (16 * (m - 16) + (if 16 ≤ p then (p - 16) / 2 * 2 else p / 2 * 2 + 1), p % 2)

/-- A stored symbol of a word. -/
def Mem.symbol (m : Mem) (w sym : Nat) : Byte :=
  let c := chkXor (chkOf 0 ((List.range 16).map (fun i => m.raw (16 * w + i)))) (m.diffAt w)
  if sym = 0 then c.1 else if sym = 1 then c.2 else m.raw (16 * w + (sym - 2))

/-- The bit on a data pin in one beat of a burst of the block whose first word is `w0`. -/
def Mem.pinBit (m : Mem) (w0 burst pin beat : Nat) : Bool :=
  (m.symbol (w0 + (pinSymbol burst pin).1) (pinSymbol burst pin).2).getLsbD beat

/-- Granules of a region (spec/07 R170: the last may be short). -/
def Region.granules (r : Region) : Nat := ceilDiv r.size (2 ^ r.granLog2)

/-- How many numbers below `v` are congruent to `l` modulo `n`. -/
def countMod (v l n : Nat) : Nat := (v + n - 1 - l) / n

/-- Granules of a region on landing die `l` of `n` (spec/07 R168). -/
def Region.granulesOn (r : Region) (l n : Nat) : Nat := countMod (r.granules + r.rot) l n - countMod r.rot l n

def State.region (s : State) (r : Nat) : Region := s.img.regions.get Region.undefined r

/-- P(r, l): the granules of the regions below `r` on die `l`, each at its full size (spec/07 R168). -/
def State.placeBase (s : State) (r l : Nat) : Nat :=
  ((s.img.regions.filter (fun p => decide (p.1 < r) && p.2.valid)).map
    (fun p => p.2.granulesOn l s.variant.landDies * 2 ^ p.2.granLog2)).sum

/-- The key of byte `off` of region `r`, whichever copy it is (spec/07 R168). -/
def State.regionKey (s : State) (r off : Nat) : Nat :=
  let x := s.region r
  let g := 2 ^ x.granLog2
  let j := off / g + x.rot
  let l := j % s.variant.landDies
  hbmKey l (s.placeBase r l + j / s.variant.landDies * g + off % g)

/-- The region that holds a software-visible address, and its index (spec/07 R168: regions do not overlap). -/
def State.regionAt (s : State) (a : Nat) : Option (Nat × Region) :=
  s.img.regions.find? (fun p => p.2.valid && decide (p.2.base ≤ a) && decide (a < p.2.base + p.2.size))

/-! ### Versioned regions (spec/08 R193-R195) -/

def State.twinOf (s : State) (r : Nat) : Twin := s.img.twins.get Twin.unused r

/-- Element width in bytes of a data region (spec/08 Table 8-11). -/
def Twin.widthBytes (t : Twin) : Nat := 2 ^ t.width

/-- Block size B of a scale region (spec/08 Table 8-11, spec/03 Table 3-3). -/
def Twin.blockSize (t : Twin) : Nat := 16 * 2 ^ t.block

/-- The unit of 4,096 elements to which a byte of a trainable group's region belongs (spec/08 R193, R195). -/
def Twin.unit4k (t : Twin) (off : Nat) : Nat :=
  if t.isScale then (if t.blockSize = 128 then off / 64 * 2 else off / (4096 / t.blockSize))
  else off / t.widthBytes / 4096

/-- The update group that holds a unit of 4,096 elements of a trainable group (spec/08 R192: they do not overlap). -/
def State.groupAt (s : State) (t unit : Nat) : Option Nat :=
  (s.img.udefs.find? (fun p => p.2.isDefined && decide (p.2.tgrp = t) && decide (p.2.first4k ≤ unit) &&
    decide (unit < p.2.first4k + p.2.count4k))).map Prod.fst

/-- Does the current copy lie in the twin (spec/08 R194, R195)? -/
def UGroup.current (g : UGroup) : Bool := if g.tent then !g.sel else g.sel

/-- The region that a read or a permitted write of byte `off` of region `r` reaches (spec/08 R195). -/
def State.redirect (s : State) (r off : Nat) : Nat :=
  let t := s.twinOf r
  if !t.valid then r
  else match s.groupAt (s.region r).group (t.unit4k off) with
    | some k => if (s.ugroup k).current then t.twin else r
    | none => r

/-- The region is some versioned region's twin (spec/08 R191). -/
def State.isTwin (s : State) (r : Nat) : Bool := s.img.twins.any (fun p => p.2.valid && decide (p.2.twin = r))

/-- The key that a software-visible address reaches, if it is allocated. -/
def State.visKey (s : State) (a : Nat) : Option Nat :=
  (s.regionAt a).map (fun p => s.regionKey (s.redirect p.1 (a - p.2.base)) (a - p.2.base))

/-! ### Reading -/

/-- A fault that a read showed, for the controller to classify (spec/07 R177). -/
def State.addFault (s : State) (w : Nat) (pos : Option Nat) : State :=
  s.setMem { s.mem with faults := s.mem.faults ++ [(w, pos)] }

/-- A read of the word at a word key is noted: a correction counts, an uncorrectable word counts and becomes its poison
code unless it is that already (spec/07 R166, R175); either is a fault to classify, but a word that already held its poison code is
none (log entry 86). -/
def State.noteWord (s : State) (w : Nat) : State :=
  match s.hbm.check w with
  | .clean => s
  | .corrected pos _ => (s.count (kStack (keyStack (16 * w)) cMemCorrected) 1).addFault w (some pos)
  | .uncorrectable =>
    let t := s.count (kStack (keyStack (16 * w)) cMemUncorrectable) 1
    if s.hbm.isPoison w then t
    else ((t.setHbm (s.hbm.poison w)).count (kStack (keyStack (16 * w)) cMemPoisonWritten) 1).addFault w none

/-- Reads of the given word keys are noted, each once. -/
def State.noteWords (s : State) (ws : List Nat) : State := if s.hbm.diff = [] then s else ws.foldl State.noteWord s

/-- The addresses of the 16-byte words that a range touches. -/
def wordAddrs (a n : Nat) : List Nat :=
  if n = 0 then [] else (List.range ((a + n - 1) / 16 - a / 16 + 1)).map (fun i => 16 * (a / 16 + i))

/-- The word keys of a software-visible range. -/
def State.wordKeys (s : State) (a n : Nat) : List Nat := (wordAddrs a n).filterMap (fun x => (s.visKey x).map (· / 16))

/-- The delivered byte at a software-visible address: zero where nothing is allocated (spec/07 R174). -/
def State.readByte (s : State) (a : Nat) : Byte :=
  match s.visKey a with
  | some k => s.hbm.read k
  | none => 0

/-- The delivered bytes of a software-visible range. -/
def State.readSoft (s : State) (a n : Nat) : List Byte := (List.range n).map (fun i => s.readByte (a + i))

/-- The words of a software-visible range that a read finds uncorrectable. -/
def State.badSoft (s : State) (a n : Nat) : List Nat :=
  if s.hbm.diff = [] then [] else (s.wordKeys a n).filter s.hbm.bad

/-- A read of a software-visible range is noted word by word. -/
def State.noteSoft (s : State) (a n : Nat) : State := s.noteWords (s.wordKeys a n)

/-! ### Writing -/

/-- The words that written keys cover only in part: such a write is merged with the word, which is read first. -/
def partWords (ks : List Nat) : List Nat :=
  ((ks.map (· / 16)).dedup).filter (fun w => !(List.range 16).all (fun i => ks.contains (16 * w + i)))

/-- The words that a write of the given keys merges with are noted as read. -/
def State.noteMerge (s : State) (ks : List Nat) : State := if s.hbm.diff = [] then s else s.noteWords (partWords ks)

/-- A run of bytes at consecutive keys inside one granule. -/
def State.writeKey (s : State) (k : Nat) (bs : List Byte) : State :=
  let t := s.noteMerge ((List.range bs.length).map (k + ·))
  t.setHbm (t.hbm.writeRange k bs)

/-- A run of bytes at software-visible addresses, in pieces of at most `f` that end at 64-byte boundaries, which neither a granule
(spec/07 R168) nor an update group's scale bytes (spec/08 R193) split. -/
def State.writeSoftN (s : State) : Nat → Nat → List Byte → State
  | 0, _, _ => s
  | _, _, [] => s
  | f + 1, a, bs =>
    let n := min bs.length (64 - a % 64)
    let t := match s.visKey a with
      | some k => s.writeKey k (bs.take n)
      | none => s
    t.writeSoftN f (a + n) (bs.drop n)

/-- A run of bytes written at software-visible addresses. -/
def State.writeSoft (s : State) (a : Nat) (bs : List Byte) : State := s.writeSoftN (bs.length / 64 + 2) a bs

/-! ### Region tables (spec/07 R172, R173) -/

def State.sreg (s : State) (st k : Nat) : SReg := s.img.sregs.get SReg.unused (32 * st + k)

/-- The stand's table has an entry for region `r` that satisfies `p`. -/
def State.hasEntry (s : State) (st r : Nat) (p : SReg → Bool) : Bool :=
  (List.range 32).any (fun k => let e := s.sreg st k; e.valid && decide (e.region = r) && p e)

/-- An entry lets a context of a command read, or write too (spec/07 R172). -/
def SReg.allows (e : SReg) (ctx : Nat) (write : Bool) : Bool := bit e.contexts.toNat ctx && (e.write || !write)

/-- An entry lets a Caskline peer read, or write too (spec/07 R173). -/
def SReg.remoteAllows (write : Bool) (e : SReg) : Bool := e.remote && (e.write || !write)

/-- Every byte of a range lies in a region for which `p` holds; a range may span adjacent regions (spec/07 R172).  `f`
bounds the regions crossed. -/
def State.rangeIn (s : State) (p : Nat → Bool) : Nat → Nat → Nat → Bool
  | _, _, 0 => true
  | 0, _, _ => false
  | f + 1, a, n =>
    match s.regionAt a with
    | none => false
    | some (r, x) =>
      let k := min n (x.base + x.size - a)
      p r && s.rangeIn p f (a + k) (n - k)

/-- A command's range check (spec/07 R172). -/
def State.mayAccess (s : State) (st ctx a n : Nat) (write : Bool) : Bool :=
  s.rangeIn (fun r => s.hasEntry st r (·.allows ctx write)) 257 a n

/-- A Caskline access's range check (spec/07 R173). -/
def State.mayRemote (s : State) (st a n : Nat) (write : Bool) : Bool :=
  s.rangeIn (fun r => s.hasEntry st r (SReg.remoteAllows write)) 257 a n

end Sys2Proof.Machine
end

