-- ==== Sys2Proof/Machine/Engine.lean ====
section
/-! DEFINITION. What every engine's commands share: the queues of spec/02 R47, the checks' order of spec/02 R46 and spec/03
R67, and the end of an engine's work. -/

namespace Sys2Proof.Machine

/-! ### Refusal checks -/

/-- The status of the first check that fails: (it fails, its status). -/
def firstFail : List (Bool × W16) → Option W16
  | [] => none
  | (b, w) :: cs => if b then some w else firstFail cs

/-- One format word of a command: the word, whether its operand is written, and whether Table 3-4 of spec/03 and the
command's chapter accept it there. -/
structure FmtUse where
  word : W32
  out : Bool
  accepted : Bool
  deriving DecidableEq, Repr

/-- The format checks of spec/03 R67: every word for FORMAT_INVALID, then every word for FORMAT_UNSUPPORTED. -/
def fmtFail (ws : List FmtUse) : Option W16 :=
  if ws.any (fun u => (fmtWordOf u.word).invalid u.out) then some 0x01f0
  else if ws.any (fun u => !u.accepted) then some 0x01f1
  else none

/-- A format word of a packet. -/
def fmtAt (p : List Byte) (o : Nat) : W32 := BitVec.ofNat 32 (fld p o 4)

/-! ### Queues (spec/02 R47) -/

/-- The engine class whose queue takes an opcode; `none` for the commands that the front end handles itself. -/
def classOf (op : Nat) : Option Nat :=
  if op = 0x01 ∨ op = 0x02 then some 0
  else if op = 0x08 then some 1
  else if op = 0x09 then some 2
  else if 0x10 ≤ op ∧ op ≤ 0x13 then some 3
  else if 0x20 ≤ op ∧ op ≤ 0x23 then some 4
  else if 0x30 ≤ op ∧ op ≤ 0x33 then some 5
  else none

/-- The cluster of the stand whose engine a command names (spec/04 Table 4-7, spec/05 Tables 5-2 and 5-3, spec/06 Table
6-3); zero for the classes that are not a cluster's. -/
def Cmd.clusterField (c : Cmd) : Nat :=
  match classOf c.opcode with
  | some 4 | some 5 | none => 0
  | some _ => bits (fld c.bytes 16 1) 6 0

/-- The command's work is on the landing engines in chute order: classes 0x20 to 0x23 and SCATTER_ADD (spec/08 R190). -/
def Cmd.onLanding (c : Cmd) : Bool := decide (classOf c.opcode = some 4) || decide (c.opcode = 0x12)

/-- A ROWOP STATS_TAP, which is armed at issue and waits in no queue (spec/05 R122). -/
def Cmd.isTap (c : Cmd) : Bool := decide (c.opcode = 0x09) && decide (fld c.bytes 18 1 = 1)

/-- Two commands that go through one engine in turn; nothing orders the reductions of a stand but their instances (spec/09
R223) and R24. -/
def Cmd.sameEngine (c d : Cmd) : Bool :=
  !c.isTap && !d.isTap && decide (classOf c.opcode ≠ some 5) &&
  ((c.onLanding && d.onLanding) ||
    (classOf c.opcode).isSome && decide (classOf c.opcode = classOf d.opcode) && decide (c.clusterField = d.clusterField))

/-- An engine's work on the command is over. -/
def Cmd.ended (c : Cmd) : Bool := decide (c.stage = .done)

/-- Every command that its engine took before `c` has ended its work there. -/
def StandSt.turnOf (x : StandSt) (c : Cmd) : Bool :=
  x.inflight.all (fun d => decide (d.ticket ≥ c.ticket) || !d.sameEngine c || d.ended)

/-- The command is one that a rung in progress left on a hung engine (spec/13 R338, R339). -/
def StandSt.hung (x : StandSt) (ticket : Nat) : Bool := x.rst.active.any (fun a => decide (a.rung = 1) && a.stuck.contains ticket)

/-- A decided commit has still to take effect, and the command, which issued after the decision, is to see the new versions (spec/12
R314). -/
def StandSt.awaitsCommit (x : StandSt) (c : Cmd) : Bool :=
  (decide (c.opcode = 0x20) || decide (c.opcode = 0x23) || decide (c.opcode = 0x43) || decide (c.opcode = 0x44)) &&
    x.steps.commits.any (fun j => j.decided.any (fun d => decide (d.before ≤ c.ticket)))

/-- The die on which a command takes issue slots, an array's, a vector unit's, a Batten engine's or a tap's (spec/16 R399), grants none
(spec/16 Table 16-5). -/
def State.issueStopped (s : State) (st : Nat) (c : Cmd) : Bool :=
  (classOf c.opcode).any (fun k => decide (k ≤ 2)) && (s.standCluster st c.clusterField).any (fun x => (s.die (dieOfCluster x)).noIssue)

/-- The queued command of a ticket and an opcode, if its engine may begin it; a hung engine begins nothing, and a die that grants no issue
slot neither. -/
def State.canRun (s : State) (st t op : Nat) : Option Cmd :=
  if !s.alive || !(s.cfg st).enabled then none
  else match (s.stand st).cmd t with
    | some c => if c.opcode = op ∧ c.stage = .queued ∧ !(s.stand st).hung t ∧ (s.stand st).turnOf c ∧ !(s.stand st).awaitsCommit c ∧
        !s.issueStopped st c then
        some c else none
    | none => none

/-- A command replaced in its stand. -/
def State.setCmd (s : State) (st : Nat) (c : Cmd) : State := s.setStand st ((s.stand st).setCmd c.ticket c)

/-- The engine has ended its work on a command that it began now. -/
def State.engineDone (s : State) (st : Nat) (c : Cmd) : State := s.setCmd st { c with stage := .done }

/-- What a converting writer counts for a stand (spec/03 Table 3-6). -/
def State.countFmt (s : State) (st : Nat) (w : WrCount) : State :=
  ((((s.count (kStand st cFmtNonfiniteBlock) w.nonfinite).count (kStand st cFmtOverflow) w.overflow).count
    (kStand st cFmtSaturated) w.saturated).count (kStand st cFmtScaleFloor) w.floor).count
    (kStand st cFmtDecodeOverflow) w.decode

/-- The draws of a command's writes in a format word's stream (spec/03 R80). -/
def Cmd.sr (c : Cmd) (f : FmtWord) : SrCtx := ⟨c.seeds.1, c.seeds.2.2, c.seq, f.stream⟩

/-- The recipe of an output's kind (spec/03 R69). -/
def State.recipe (s : State) (f : FmtWord) : Recipe :=
  if 1 ≤ f.kind ∧ f.kind ≤ 4 then s.img.recipes.get Recipe.standard f.kind else Recipe.standard

/-- A command's own step is marked (spec/12 R307). -/
def State.markCmd (s : State) (st : Nat) (c : Cmd) (cause : Nat) : State := s.mark st c.step cause

/-- The counters that a completion of an opcode increments: spec/04 Table 4-15, spec/05 Table 5-11, spec/06 Table 6-11, spec/08
Table 8-14, spec/09 Table 9-18. -/
def doneCounters (op : Nat) : List Nat :=
  match op with
  | 0x01 | 0x02 => [cMatCommands]
  | 0x08 => [cVecCommands]
  | 0x09 => [cBatCommands]
  | 0x10 | 0x11 | 0x12 => [cSkdCommands]
  | 0x13 => [cSkdCommands, cSkdWindowCommands]
  | 0x20 => [cLndOptim]
  | 0x21 => [cLndAccum]
  | 0x22 => [cLndSweep]
  | 0x23 => [cLndDigest]
  | 0x30 => [cTrsReduce]
  | 0x31 => [cTrsCollective]
  | 0x32 => [cTrsPermute]
  | _ => []

/-- A completion of an opcode counted; a discarded command completes too (spec/02 R48). -/
def State.countDone (s : State) (st op : Nat) : State := (doneCounters op).foldl (fun t k => t.countStand st k) s

/-- A saturating 16-bit count (Table 4-9). -/
def sat16 (n : Nat) : Nat := min n 0xffff

/-! ### Regions as the landing engines see them: either copy, by offset (spec/08 R195) -/

/-- The keys of the 16-byte words of a range of one region. -/
def State.regionWords (s : State) (r off n : Nat) : List Nat :=
  (wordAddrs off n).map (fun o => s.regionKey r o / 16)

/-- The delivered bytes of a range of one region. -/
def State.readRegion (s : State) (r off n : Nat) : List Byte :=
  (List.range n).map (fun i => s.hbm.read (s.regionKey r (off + i)))

/-- A range of one region written: its whole words take fresh check symbols (spec/00 R20). -/
def State.writeRegionN (s : State) (r : Nat) : Nat → Nat → List Byte → State
  | 0, _, _ => s
  | _, _, [] => s
  | f + 1, off, bs =>
    let n := min bs.length (512 - off % 512)
    (s.writeKey (s.regionKey r off) (bs.take n)).writeRegionN r f (off + n) (bs.drop n)

def State.writeRegion (s : State) (r off : Nat) (bs : List Byte) : State := s.writeRegionN r (bs.length / 512 + 2) off bs

/-- A word moved as it stands, its check symbols with it (spec/00 R20). -/
def Mem.copyWord (m : Mem) (src dst : Nat) : Mem :=
  ((m.writeRawN (16 * dst) ((List.range 16).map (fun i => m.raw (16 * src + i)))).setDiff dst (m.diffAt src))

/-- A range of a region, whole words, moved unchanged to the same offsets of another. -/
def State.copyRegion (s : State) (src dst off n : Nat) : State :=
  s.setHbm ((wordAddrs off n).foldl (fun m o => m.copyWord (s.regionKey src o / 16) (s.regionKey dst o / 16)) s.hbm)

/-- Words written with the poison code; what their data symbols hold the specification does not say (free values). -/
def State.poisonWords (s : State) (ws : List Nat) : State :=
  (s.setHbm (ws.zipIdx.foldl (fun m p =>
    (m.writeRawN (16 * p.1) ((List.range 16).map (fun i => Config.freeByte (s.freeCtr + 16 * p.2 + i)))).setDiff p.1
      poisonDiff) s.hbm)).setFreeCtr (s.freeCtr + 16 * ws.length)

end Sys2Proof.Machine
end

