-- ==== Sys2Proof/Machine/Copy.lean ====
section
/-! DEFINITION. Update groups, their versions, pins and the copy-ahead buffers (spec/08 R191-R199, R208-R210). -/

namespace Sys2Proof.Machine

/-! ### Roles (spec/08 Table 8-1) -/

/-- The region of a versioned role by its code; 255 is empty. -/
def TGroup.role (t : TGroup) (c : Nat) : Nat :=
  match c with
  | 0 => t.p
  | 1 => t.ps
  | 2 => t.m1
  | 3 => t.m1s
  | 4 => t.m2
  | 5 => t.m2s
  | _ => 255

def State.tgroup (s : State) (t : Nat) : TGroup := s.img.tgroups.get TGroup.unused t

/-- The roles present in an update group's trainable group: (code, primary region). -/
def State.rolesOf (s : State) (k : Nat) : List (Nat × Nat) :=
  let t := s.tgroup (s.udef k).tgrp
  ((List.range 6).map (fun c => (c, t.role c))).filter (fun p => decide (p.2 ≠ 255))

/-- Bytes that one unit of 4,096 elements takes in a region. -/
def Twin.unitBytes (t : Twin) : Nat := if t.isScale then 4096 / t.blockSize else 4096 * t.widthBytes

/-- The byte range of an update group in a region of its trainable group: offset and length (R193). -/
def State.groupRange (s : State) (k r : Nat) : Nat × Nat :=
  let b := (s.twinOf r).unitBytes
  ((s.udef k).first4k * b, (s.udef k).count4k * b)

/-- The copy of a versioned region: the primary or its twin (R194). -/
def State.copyOf (s : State) (r : Nat) (twin : Bool) : Nat := if twin then (s.twinOf r).twin else r

/-- The stand's command may name the group (R192). -/
def State.ownsGroup (s : State) (st k : Nat) : Bool := (s.udef k).isDefined && decide ((s.udef k).owner = st)

/-! ### Version transitions (spec/08 R198, R199, Table 8-2) -/

/-- A commit of one group (R198, R199). -/
def UGroup.commit (g : UGroup) : UGroup :=
  if g.damaged || !g.tent then g
  else { g with sel := !g.sel, tent := false, isSealed := false, uCommit := g.uTent }

/-- A rollback of one group (R199). -/
def UGroup.rollback (g : UGroup) : UGroup := { g with tent := false, isSealed := false, damaged := false }

/-- A group sealed by a DIGEST (R197). -/
def UGroup.sealUp (g : UGroup) : UGroup := if g.tent then { g with isSealed := true } else g

/-- The update exponent of the current copy (spec/03 R85). -/
def UGroup.u (g : UGroup) : Int := if g.tent then g.uTent else g.uCommit

/-- The update groups that the image gives a stand. -/
def State.groupsOf (s : State) (st : Nat) : List Nat :=
  (s.img.udefs.filter (fun p => p.2.isDefined && decide (p.2.owner = st))).map Prod.fst

/-- One change to every update group of a stand. -/
def State.onGroups (s : State) (ks : List Nat) (f : UGroup → UGroup) : State :=
  ks.foldl (fun t k => t.setUgroup k (f (t.ugroup k))) s

/-- A group becomes DAMAGED; each transition counts (R199). -/
def State.damage (s : State) (st k : Nat) : State :=
  (s.setUgroup k { s.ugroup k with damaged := true }).count (kStand st cLndDamaged) (if (s.ugroup k).damaged then 0 else 1)

/-! ### Pins and the copy-ahead buffers (spec/08 R208-R210) -/

/-- A background copy of the stand has still to read something of a copy-ahead block. -/
def StepSt.unread (x : StepSt) (die block : Nat) : Bool :=
  match x.copy with
  | some c => c.todo.any (fun p => decide (p.die = die) && decide (p.block = block))
  | none => false

/-- A block of a stand's copy is staged already. -/
def LandDie.isStaged (l : LandDie) (st block : Nat) : Bool :=
  l.staged.any (fun b => decide (b.stand = st) && decide (b.block = block))

/-- The stands whose copies need a block staged before a write may reach it (R209). -/
def State.wantStage (s : State) (die block : Nat) : List Nat :=
  (s.stands.filter (fun p => p.2.steps.unread die block && !(s.land die).isStaged p.1 block)).map Prod.fst

/-- The bytes and check differences that a store holds from `lo` up to `hi`. -/
def cellsIn (m : Mem) (lo hi : Nat) : Cells := m.bytes.filter (fun p => decide (lo ≤ p.1) && decide (p.1 < hi))
def diffsIn (m : Mem) (lo hi : Nat) : Tab (Byte × Byte) :=
  m.diff.filter (fun p => decide (lo ≤ 16 * p.1) && decide (16 * p.1 < hi))

/-- A block copied into its die's copy-ahead buffer for a stand (R209). -/
def State.stage (s : State) (st die block : Nat) : State :=
  let lo := hbmKey die (65536 * block)
  let b : StagedBlock := ⟨st, block, cellsIn s.hbm lo (lo + 65536), diffsIn s.hbm lo (lo + 65536)⟩
  (s.setLand die { s.land die with staged := (s.land die).staged ++ [b] }).countStand st cLndCopyahead

/-- The staged form of a block, read in place of the original (R209). -/
def LandDie.stagedMem (l : LandDie) (st block : Nat) : Option Mem :=
  (l.staged.find? (fun b => decide (b.stand = st) && decide (b.block = block))).map (fun b => ⟨b.bytes, b.diff⟩)

/-- Everything that a write of some blocks needs staged first, staged; `none` while a buffer has no room, and the write
waits (R209, R210: 4,096 blocks of 64 KiB). -/
def State.stageFor (s : State) : List (Nat × Nat) → Option State
  | [] => some s
  | (die, block) :: bs =>
    let ws := s.wantStage die block
    if (s.land die).staged.length + ws.length > 4096 ∧ ws ≠ [] then none
    else (ws.foldl (fun t st => t.stage st die block) s).stageFor bs

/-- The copy-ahead blocks that a range of one region touches, each once. -/
def State.regionBlocks (s : State) (r off n : Nat) : List (Nat × Nat) :=
  (((wordAddrs off n).map (fun o => let k := s.regionKey r o; (keyDie k, keyLoc k / 65536))).dedup)

/-- A block that a stand's background copy has not read is written to: it is staged first (R209). -/
def execCopyAhead (die stand block : Nat) (s : State) : Host.Outcome State Fault Refusal :=
  .next (if (s.wantStage die block).contains stand ∧ (s.land die).staged.length < 4096 then s.stage stand die block
    else s)

/-! ### The Blaze (spec/08 R206) -/

/-- 16 bytes as a 128-bit data word, least significant byte first. -/
def wordNat (bs : List Byte) : Nat := leNat (bs.take 16)

/-- One term of the Blaze. -/
def blazeTerm (key : W64) (role : Nat) (tag : W16) (i : Nat) (x : Nat) : Nat :=
  let k := philoxBits (BitVec.ofNat 32 i, BitVec.ofNat 32 ((i / 2 ^ 32) % 2 ^ 16 + role * 2 ^ 16),
      BitVec.ofNat 32 tag.toNat, 0x426c617a#32)
    (BitVec.ofNat 32 key.toNat, BitVec.ofNat 32 (key.toNat / 2 ^ 32))
  (Nat.xor x k * 0x0000000001000000000000000000013b) % 2 ^ 128

/-- The Blaze of one role of one group, `r` being the copy read. -/
def State.blazeRole (s : State) (key : W64) (k c r prim : Nat) : Nat :=
  let (o, n) := s.groupRange k prim
  (List.range (n / 16)).foldl (fun acc i =>
    (acc + blazeTerm key c (s.udef k).tag i (wordNat (s.readRegion r (o + 16 * i) 16))) % 2 ^ 128) 0

/-- The Blaze over consecutive groups, `cur` choosing each group's copy (true: the twin). -/
def State.blaze (s : State) (key : W64) (ks : List Nat) (cur : Nat → Bool) : BitVec 128 :=
  BitVec.ofNat 128 ((ks.flatMap (fun k => (s.rolesOf k).map (fun p => s.blazeRole key k p.1 (s.copyOf p.2 (cur k)) p.2))).foldl
    (fun a b => (a + b) % 2 ^ 128) 0)

/-- The word keys that a digest of the groups reads. -/
def State.digestWords (s : State) (ks : List Nat) (cur : Nat → Bool) : List Nat :=
  ks.flatMap (fun k => (s.rolesOf k).flatMap (fun p =>
    let x := s.groupRange k p.2
    s.regionWords (s.copyOf p.2 (cur k)) x.1 x.2))

/-- The copy-ahead blocks that a range of software-visible memory touches. -/
def State.softBlocks (s : State) (a n : Nat) : List (Nat × Nat) :=
  ((wordAddrs a n).filterMap (fun x => (s.visKey x).map (fun k => (keyDie k, keyLoc k / 65536)))).dedup

end Sys2Proof.Machine
end

