-- ==== Sys2Proof/Machine/IntegOps.lean ====
section
/-! DEFINITION. Shared operations of integrity (spec/11 R285-R298): counting faults, captures, retiring and coppicing cores,
marking dies. -/

namespace Sys2Proof.Machine

/-- A day of operating time in seconds (spec/11 R285). -/
def daySeconds : Nat := 86400

/-- The time lies within the last 24 h of operating time (R285). -/
def State.recent (s : State) (t : W64) : Bool := decide (s.opsec.toNat ≤ t.toNat + daySeconds)

/-- An array's confirmed faults within 24 h, the newest first. -/
def State.recentFaults (s : State) (g : Nat) : List (W64 × Option Nat) := (s.array g).faults.filter (fun f => s.recent f.1)

/-- The column that R286 would remap: the two newest faults of the array located it, and the remap is free. -/
def State.remapColumn (s : State) (g : Nat) : Option Nat :=
  match s.recentFaults g with
  | (_, some a) :: (_, some b) :: _ => if a = b ∧ !(s.array g).remapped then some a else none
  | _ => none

/-- The faults that count toward a core's retirement (R285); two that a remap of R286 is about to remove do not. -/
def State.coreFaults (s : State) (c : Nat) : Nat :=
  ((List.range 4).map (fun a => (s.recentFaults (4 * c + a)).length -
      (if (s.remapColumn (4 * c + a)).isSome then 2 else 0))).sum +
    ((s.core c).laneFaults.filter s.recent).length

/-! ### Handover (spec/04 R101) -/

/-- The contents of a core move to another, which answers its logical number from then on (R101; that scratchpad, Batten
store and taps move with the kept sets follows from spec/01 R26). -/
def State.handover (s : State) (src dst : Nat) : State :=
  let a := s.core src
  let b := s.core dst
  (s.setCore dst { b with logical := a.logical, kept0 := a.kept0, kept1 := a.kept1, spad := a.spad, batten := a.batten,
                          taps := a.taps }).setCore src
    { a with logical := none, kept0 := KeptSet.empty, kept1 := KeptSet.empty, taps := [] }

/-! ### Marking a die (spec/11 R296) -/

/-- A compute die is marked for replacement; under the spare policy REQUEST, a chip reset is decided. -/
def State.markDie (s : State) (d : Nat) : State :=
  if (s.die d).marked then s
  else
    let t := (((s.setDie d { s.die d with marked := true }).countModule cIntDiePending).wear 0x06 (Config.wearCause 6) d 0)
    if t.img.spareRequest then t.wardenReset 2 else t

/-! ### Retirement and coppice (spec/11 R287, R291, Table 11-7) -/

/-- A core that stops serving: it answers no logical number, and its die is marked. -/
def State.orphanCore (s : State) (c : Nat) : State :=
  (s.setCore c { s.core c with logical := none }).markDie (dieOfCore c)

/-- The spare of a cluster enters permanent service; the recovery window of the cluster's stand opens (spec/09 R239). -/
def State.coppice (s : State) (px : Nat) : State :=
  let t := ((s.setCluster px { s.cluster px with coppiced := true }).countModule cIntCoreCoppiced).wear 0x05 (Config.wearCause 5)
    (5 * px + 4) 0
  match s.clusterOwner px with
  | some st => t.openWindow st
  | none => t

/-- The core of a cluster that is out for cruise. -/
def State.cruisingCore (s : State) (px : Nat) : Option Nat := (List.range 5).find? (fun k => (s.core (5 * px + k)).cruise)

/-- The core of a cluster that is out for cruise takes its logical number back, if the spare has taken it. -/
def State.cruiseBack (s : State) (px : Nat) : State :=
  match s.cruisingCore px with
  | none => s
  | some k =>
    let t := if k < 4 ∧ (s.core (5 * px + 4)).logical = some k then s.handover (5 * px + 4) (5 * px + k) else s
    t.setCore (5 * px + k) { t.core (5 * px + k) with cruise := false }

/-- A core that is out for cruise, its run over, is to return: where the spare answers its number, at the handover that follows between
commands (spec/04 R101), and otherwise at once. -/
def State.cruiseEnds (s : State) (px k : Nat) : State :=
  if k < 4 ∧ (s.core (5 * px + 4)).logical = some k then s
  else s.setCore (5 * px + k) { s.core (5 * px + k) with cruise := false }

/-- What a retirement does to cruise in its cluster (Table 11-7): the state, and whether the spare stays with the core that
it stands in for. A run that has failed has retired its core already. -/
def State.cruiseGivesWay (s : State) (c : Nat) : State × Bool :=
  let px := c / 5
  match s.cruisingCore px with
  | none => (s, false)
  | some k =>
    let runs := s.integ.cruise.any (fun r => decide (r.cluster = px))
    let t := if runs then s.setInteg { s.integ with cruise := none } else s
    if c % 5 = k then (t.setCore c { t.core c with cruise := false }, decide (k < 4))
    else (if runs ∧ c % 5 ≠ 4 then (t.cruiseEnds px k).countModule cIntCruiseAborted else t.cruiseEnds px k, false)

/-- A retired core that still answers a logical number: a spare that only stands in for a core out for cruise gives the number back at
the handover; for another the cluster's spare is coppiced, or its die marked (R287, R296, Table 11-7). -/
def State.replaceCore (s : State) (c : Nat) : State :=
  if (s.core c).logical.isNone then s
  else if c % 5 = 4 ∧ (s.cruisingCore (c / 5)).isSome then s
  else if c % 5 ≠ 4 ∧ s.spareFree (c / 5) then s.coppice (c / 5)
  else s.orphanCore c

/-- A physical core is retired, and its cluster's spare is coppiced or its die marked (R287, R296). The spare takes over a
retired core's logical number at the handover that follows (R101).  While the active Warden is halted the decision is not applied, and
the standby takes it (Table 11-7). -/
def State.retireCore (s : State) (c cause : Nat) : State :=
  if (s.core c).retired then s
  else if s.warden.halted then s.setInteg { s.integ with decided := s.integ.decided ++ [(c, cause)] }
  else
    let (t, stays) := s.cruiseGivesWay c
    let t := ((t.setCore c { t.core c with retired := true }).countModule cIntCoreRetired).wear 0x04 cause c 0
    if stays then t.coppice (c / 5) else t.replaceCore c

/-- The retirements that a halted Warden left undecided, taken by the standby (Table 11-7). -/
def State.retireDecided (s : State) : State :=
  s.integ.decided.foldl (fun t r => t.retireCore r.1 r.2) (s.setInteg { s.integ with decided := [] })

/-- A retirement that waits for a command to complete (Table 11-7). -/
def State.retireAfter (s : State) (st ticket c cause : Nat) : State :=
  s.setInteg { s.integ with retiring := s.integ.retiring ++ [(st, ticket, c, cause)] }

/-- The retirements that waited for a command take effect. -/
def State.retireNow (s : State) (st ticket : Nat) : State :=
  let (now, later) := s.integ.retiring.partition (fun r => decide (r.1 = st) && decide (r.2.1 = ticket))
  now.foldl (fun t r => t.retireCore r.2.2.1 r.2.2.2) (s.setInteg { s.integ with retiring := later })

/-! ### Counting faults (spec/11 R285) -/

/-- A core whose faults within 24 h have reached three is retired once the command has completed. -/
def State.judgeCore (s : State) (st ticket c cause : Nat) : State :=
  if s.coreFaults c ≥ 3 then s.retireAfter st ticket c cause else s

/-- A capture taken, if the region has room. -/
def State.capture (s : State) (c : Nat) (x : Capture) : State :=
  if s.integ.captures.length < 64 then
    (s.setInteg { s.integ with captures := x :: s.integ.captures }).count (kCore c cIntCaptures) 1
  else s.countModule cIntCaptureDropped

/-- A confirmed fault of an array: `col` is the column that its capture located, `note` what the ledger entry gives in its place where
none did. -/
def State.confirmArray (s : State) (st ticket g : Nat) (col : Option Nat) (note : Nat) : State :=
  let x := s.array g
  let t := s.setArray g { x with faults := (s.opsec, col) :: x.faults }
  (((t.countStand st cIntFaultConfirmed).count (kCore (g / 4) cIntCoreConfirmed) 1).wear 0x02 0 g
    (col.getD note)).judgeCore st ticket (g / 4) 0

/-- A confirmed fault of an array with its capture (R288); a capture that finds no room locates no column (R286). -/
def State.confirmCaptured (s : State) (st ticket g : Nat) (col : Option Nat) (x : Capture) : State :=
  (s.capture (g / 4) x).confirmArray st ticket g (if s.integ.captures.length < 64 then col else none) 0xfffffffe

/-- A threshold alarm of an array; the fourth within 24 h counts as a confirmed fault, with the capture that R288 asks for (Table
11-4). -/
def State.alarmArray (s : State) (st ticket g : Nat) (cap : Capture) : State :=
  let x := s.array g
  let l := s.opsec :: x.alarms.filter s.recent
  let t := ((s.countStand st cIntThresholdAlarm).count (kCore (g / 4) cIntCoreAlarm) 1).wear 0x01 0 g 0
  if l.length ≥ 4 then ((t.setArray g { x with alarms := [] }).capture (g / 4) cap).confirmArray st ticket g none 0xffffffff
  else t.setArray g { x with alarms := l }

/-- A confirmed fault of a core's shared path: the core is retired (Table 11-4). -/
def State.confirmShared (s : State) (st ticket c : Nat) : State :=
  ((s.countStand st cIntFaultConfirmed).count (kCore c cIntCoreConfirmed) 1).retireAfter st ticket c 0

/-- A confirmed lane fault of a core (Table 11-4, R128). -/
def State.confirmLane (s : State) (st ticket c lane : Nat) : State :=
  let x := s.core c
  let t := s.setCore c { x with laneFaults := s.opsec :: x.laneFaults, lastLane := lane }
  ((((t.countStand st cLaneConfirmed).countStand st cIntFaultConfirmed).count (kCore c cIntCoreConfirmed) 1).wear 0x02 1 c
    lane).judgeCore st ticket c 1

/-! ### Words of a core's scratchpad (spec/04 R97, spec/11 R418, Table 11-11) -/

/-- Words of a core's stores that a command has read: corrected ones and uncorrectable ones count for the core. -/
def State.noteSpad (s : State) (c corrected bad : Nat) : State :=
  (s.count (kCore c cIntSramCorrected) corrected).count (kCore c cIntSramUncorrectable) bad

end Sys2Proof.Machine
end

