-- ==== Sys2Proof/Machine/Spad.lean ====
section
/-! DEFINITION. Operands in core scratchpads (spec/04 R97, R100, spec/06 R132, spec/11 R418): reading elements, words that
fail correction, writing whole tensors, and the ranges that products hold. -/

namespace Sys2Proof.Machine

/-- Bytes of a core's scratchpad. -/
def spadBytes : Nat := 2097152

/-- The offsets from ADDR of the bytes on which a logical element rests: its data or planes, its scale byte, its zero
point. -/
def Desc.elemBytes (d : Desc) (e0 e1 e2 e3 : Nat) : List Nat :=
  (if d.fmt.fmt = .intp then (List.range (d.fmt.wbits + 1)).map (fun p => (d.planeOff p e0 e1 e2 e3).1)
   else [d.elemOff e0 e1 e2 e3]) ++
    (if d.fmt.scaled then [d.scaleOff e0 e1 e2 e3] else []) ++ (if d.fmt.zp then [d.zpOff e0 e1 e2 e3] else [])

/-- The element's words include one that fails correction. -/
def Desc.elemBad (d : Desc) (m : Mem) (e0 e1 : Nat) : Bool :=
  !m.diff.isEmpty && (d.elemBytes e0 e1 0 0).any (fun o => m.bad ((d.addr + o) / 16))

/-- The value that an engine takes of an element of a two-axis operand in a store: +0 where one of its words fails
correction (R418). -/
def Desc.spadVal (d : Desc) (m : Mem) (row col : Nat) : Val :=
  if d.elemBad m col row then Val.zero else d.value (fun o => m.read (d.addr + o)) col row 0 0

/-- The words of a store that the logical elements of a two-axis operand rest on, each once. -/
def Desc.spadWords (d : Desc) : List Nat :=
  ((List.range d.e1).flatMap fun r => (List.range d.e0).flatMap fun c =>
    (d.elemBytes c r 0 0).map (fun o => (d.addr + o) / 16)).dedup

/-- Words of an operand that a read corrects, and words that fail correction. -/
def Desc.spadFaults (d : Desc) (m : Mem) : Nat × Nat :=
  if m.diff.isEmpty then (0, 0)
  else let ws := d.spadWords; ((ws.filter m.corrects).length, (ws.filter m.bad).length)

/-- Fresh check symbols for the whole words of a byte range. -/
def Mem.freshRange (m : Mem) (a n : Nat) : Mem :=
  { m with diff := m.diff.filter (fun p => !(decide (a ≤ 16 * p.1) && decide (16 * p.1 + 16 ≤ a + n))) }

/-- A whole tensor written at its address: the words that it covers whole are new data (spec/00 R20). -/
def Desc.putStored (d : Desc) (m : Mem) (bs : List (Nat × Byte)) : Mem :=
  let m1 := m.freshRange d.addr d.dataBytes
  let m2 := if d.fmt.scaled then m1.freshRange (d.addr + d.scaleBase) d.areaBytes else m1
  let m3 := if d.fmt.scaled && d.fmt.zp then m2.freshRange (d.addr + d.zpBase) d.areaBytes else m2
  bs.foldl (fun m p => m.writeByte (d.addr + p.1) p.2) m3

/-- The byte range [lo, hi) that a descriptor's extent covers. -/
def Desc.span (d : Desc) : Nat × Nat := (d.addr, d.addr + d.extent)

/-- Two byte ranges meet. -/
def spansMeet (a b : Nat × Nat) : Bool := decide (a.1 < b.2) && decide (b.1 < a.2)

/-- A core's scratchpad replaced. -/
def State.setSpad (s : State) (c : Nat) (m : Mem) : State := s.setCore c { s.core c with spad := m }

/-- A cluster's Skidder or chain that is fenced (spec/13 R342). -/
def State.clusterFenced (s : State) (e : EngineId) : Bool := s.integ.fenced.contains e

/-- A command could not be served by a unit that is missing (spec/11 R296): its status, the count and the step's mark. -/
def State.unavailable (s : State) (st : Nat) (c : Cmd) : State × Cmd :=
  ((s.countStand st cIntCoreUnavailable).markCmd st c 9, c.withStatus 0x01f3)

/-- Words of operands that failed correction (R418): the status, the counts and the step's mark. -/
def State.operandPoison (s : State) (st : Nat) (c : Cmd) (bad : Nat) : State × Cmd :=
  if bad = 0 then (s, c)
  else ((s.count (kStand st cIntOperandPoison) bad).markCmd st c 6, c.withStatus 0x01f6)

end Sys2Proof.Machine
end

