-- ==== Sys2Proof/Machine/RedArgs.lean ====
section
/-! DEFINITION. The body of REDUCE and COLLECTIVE (spec/09 Table 9-2) and the sources that reductions and PERMUTE hold
(spec/09 R224, R235). -/

namespace Sys2Proof.Machine

/-- The body of Table 9-2. -/
structure RedArgs where
  op : Nat
  clu0 : Nat
  nclu : Nat
  cores : Nat
  keep : Bool
  mtab : Nat
  policy : Nat
  first : Bool
  dgrp : Bool
  collId : Nat
  ugrp : Nat
  root : Nat
  src : Desc
  dst : Desc
  deriving DecidableEq, Repr

def redArgs (p : List Byte) : RedArgs :=
  { op := fld p 16 1, clu0 := bits (fld p 17 1) 6 0, nclu := bits (fld p 18 1) 6 0, cores := bits (fld p 19 1) 3 0,
    keep := bit (fld p 19 1) 4, mtab := bits (fld p 20 1) 3 0, policy := bits (fld p 20 1) 5 4, first := bit (fld p 20 1) 6,
    dgrp := bit (fld p 20 1) 7, collId := fld p 21 1, ugrp := bits (fld p 22 2) 12 0, root := fld p 24 1,
    src := descOf p 32, dst := descOf p 64 }

/-- A COLLECTIVE holds its SRC from its start until it completes (R224): the command has begun and carries a tensor. -/
def Cmd.holdsSrc (d : Cmd) : Bool := decide (d.opcode = 0x31) && decide (d.stage ≠ .queued) && decide ((redArgs d.bytes).op ≠ 5)

/-- The COLLECTIVE's SRC covers bytes of a scratchpad: stand-relative cluster, logical core, range. -/
def RedArgs.coversSpad (a : RedArgs) (cl r : Nat) (span : Nat × Nat) : Bool :=
  decide (a.src.space = 2) && decide (a.clu0 ≤ cl) && decide (cl < a.clu0 + a.nclu) && bit a.cores r &&
    spansMeet a.src.span span

/-- A started COLLECTIVE of the stand holds bytes of a scratchpad (R224, spec/04 R100). -/
def StandSt.collHolds (x : StandSt) (cl r : Nat) (span : Nat × Nat) : Bool :=
  x.inflight.any (fun d => d.holdsSrc && (redArgs d.bytes).coversSpad cl r span)

/-- The COLLECTIVE's SRC covers bytes of a tensor's extent. -/
def RedArgs.covers (a : RedArgs) (d : Desc) : Bool :=
  (decide (a.src.space = 0) && decide (d.space = 0) && spansMeet a.src.span d.span) ||
    (decide (a.src.space = 1) && decide (d.space = 1) && decide (a.clu0 ≤ d.cluster) &&
      decide (d.cluster < a.clu0 + a.nclu) && spansMeet a.src.span d.span) ||
    (decide (d.space = 2) && a.coversSpad d.cluster d.core d.span)

/-- A range of software-visible memory is a source that a COLLECTIVE holds (R224), or a block that the OLD table of a PERMUTE
places on this stand (R235). -/
def State.memHeld (s : State) (st ticket : Nat) (span : Nat × Nat) : Bool :=
  let x := s.stand st
  x.inflight.any (fun d => decide (d.ticket ≠ ticket) && d.holdsSrc && decide ((redArgs d.bytes).src.space = 0) &&
      spansMeet (redArgs d.bytes).src.span span) ||
    x.perms.any (fun p => decide (p.ticket ≠ ticket) && (match x.cmd p.ticket with
       | some d =>
         let t := x.owners.get OwnerTab.reset (bits (fld d.bytes 17 1) 3 0)
         t.entries.any (fun e => decide (e.device = s.img.deviceId) && decide (e.stand = st) && decide (e.state ≠ 0) &&
           spansMeet (e.addr, e.addr + 1024 * t.blockKib) span)
       | none => false))

/-- A write of a tensor must wait for a source that some other command holds (R224, R235). -/
def State.srcHeld (s : State) (st ticket : Nat) (d : Desc) : Bool :=
  (s.stand st).inflight.any (fun c => decide (c.ticket ≠ ticket) && c.holdsSrc && (redArgs c.bytes).covers d) ||
    (decide (d.space = 0) && s.memHeld st ticket d.span)

end Sys2Proof.Machine
end

