-- ==== Sys2Proof/Machine/Matrix.lean ====
section
/-! DEFINITION. MATMUL and MATMUL_PLANE (spec/04 R88-R108, spec/03 R73-R77): their checks, the value of every element, kept
accumulator sets and the operand ranges that they hold. -/

namespace Sys2Proof.Machine

/-- The body of Table 4-7. -/
structure MatArgs where
  cluster : Nat
  cores : Nat
  stat : Nat
  ta : Bool
  tb : Bool
  rlCode : Nat
  accIn : Bool
  accOut : Bool
  kset : Bool
  bPi : Bool
  m : Nat
  n : Nat
  k : Nat
  fa : W32
  fb : W32
  fc : W32
  aA : Nat
  aB : Nat
  aC : Nat
  deriving DecidableEq, Repr

def matArgs (p : List Byte) : MatArgs :=
  let w := fld p 18 2
  { cluster := bits (fld p 16 1) 6 0, cores := bits (fld p 17 1) 3 0, stat := bits w 1 0, ta := bit w 2, tb := bit w 3,
    rlCode := bits w 5 4, accIn := bit w 6, accOut := bit w 7, kset := bit w 8, bPi := bit w 9,
    m := bits (fld p 20 4) 23 0, n := bits (fld p 24 4) 23 0, k := bits (fld p 28 4) 23 0,
    fa := fmtAt p 32, fb := fmtAt p 36, fc := fmtAt p 40,
    aA := bits (fld p 44 2) 11 0, aB := bits (fld p 46 2) 11 0, aC := bits (fld p 48 2) 11 0 }

/-- The run length (Table 4-7, RL). -/
def MatArgs.rl (a : MatArgs) : Nat := if a.rlCode = 1 then 16 else if a.rlCode = 2 then 64 else 32

/-- A, stored M × K, or K × M with TA. -/
def MatArgs.descA (a : MatArgs) : Desc :=
  if a.ta then desc2 a.fa (512 * a.aA) a.k a.m .shingle else desc2 a.fa (512 * a.aA) a.m a.k .shingle

/-- B, stored K × N, or N × K with TB; port-interleaved with B_PI (spec/06 R137). -/
def MatArgs.descB (a : MatArgs) : Desc :=
  if a.tb then desc2 a.fb (512 * a.aB) a.n a.k (if a.bPi then .piRow else .shingle)
  else desc2 a.fb (512 * a.aB) a.k a.n (if a.bPi then .piCol else .shingle)

/-- C, stored M × N. -/
def MatArgs.descC (a : MatArgs) : Desc := desc2 a.fc (512 * a.aC) a.m a.n .shingle

/-- Both operands are FP8, so that cells form two products at a time (R87). -/
def MatArgs.fp8 (a : MatArgs) : Bool := (fmtWordOf a.fa).fmt.isFp8 && (fmtWordOf a.fb).fmt.isFp8

/-- The command selects a logical core. -/
def MatArgs.selects (a : MatArgs) (r : Nat) : Bool := bit a.cores r

/-! ### Checks (R106, R107) -/

/-- The context that holds a core's kept set once every command queued before has run (R107, R108). -/
def State.keptCtx (s : State) (st cl r : Nat) (k : Bool) : Option Nat :=
  let now := match (s.standCluster st cl).bind (fun px => s.physCore px r) with
    | some c => let x := if k then (s.core c).kept1 else (s.core c).kept0; if x.held then some x.ctx else none
    | none => none
  (s.stand st).inflight.foldl (fun acc d =>
    let a := matArgs d.bytes
    if (d.opcode = 1 ∨ d.opcode = 2) ∧ d.stage = .queued ∧ a.cluster = cl ∧ a.selects r ∧ a.kset = k then
      (if a.accOut then some d.context else if a.accIn then none else acc)
    else acc) now

/-- The checks of Table 4-8, after those of spec/03 R67. -/
def State.checkMat (s : State) (st : Nat) (p : List Byte) : Option W16 :=
  let a := matArgs p
  let plane := decide (fld p 0 1 = 2)
  let w := fld p 18 2
  let fbOk := if plane then decide ((fmtWordOf a.fb).fmt = .intp) else (fmtWordOf a.fb).fmt.isNarrow
  let sets := (List.range 4).filter a.selects
  if bit (fld p 16 1) 7 || decide (bits (fld p 17 1) 7 4 ≠ 0) || decide (bits w 15 10 ≠ 0) ||
      [23, 27, 31].any (fun o => decide (fld p o 1 ≠ 0)) || [44, 46, 48].any (fun o => decide (bits (fld p o 2) 15 12 ≠ 0)) ||
      !isZeroRange p 50 14 then some 1
  else match fmtFail [⟨a.fa, false, (fmtWordOf a.fa).fmt.isNarrow⟩, ⟨a.fb, false, fbOk⟩,
      ⟨a.fc, true, (fmtWordOf a.fc).fmt.isFloat⟩] with
    | some v => some v
    | none => firstFail [
      (decide (a.m = 0) || decide (a.n = 0) || decide (a.k = 0) || decide (a.stat = 3) || decide (a.rlCode = 3), 0x0101),
      (decide (a.cluster ≥ (s.cfg st).clusters.length) || decide (a.cores = 0), 0x0102),
      ([a.descA, a.descB, a.descC].any (fun d => decide (d.span.2 > spadBytes)), 0x0103),
      (!a.accOut && (spansMeet a.descC.span a.descA.span || spansMeet a.descC.span a.descB.span), 0x0104),
      ((a.accIn || a.accOut) && (decide (a.m > 64) || decide (a.n > 256)), 0x0105),
      (a.accIn && sets.any (fun r => decide (s.keptCtx st a.cluster r a.kset ≠ some (bits (fld p 4 1) 3 0))), 0x0106),
      (a.accOut && !a.accIn && sets.any (fun r => (s.keptCtx st a.cluster r a.kset).isSome), 0x0107),
      (plane && decide (a.stat ≠ 1), 0x0108)]

/-! ### Held operand ranges (R100) -/

/-- A write of bytes [lo, hi) to a logical core's scratchpad must wait for a product that holds them, or for a COLLECTIVE
whose source they are (spec/09 R224). -/
def StandSt.matHolds (x : StandSt) (cl r : Nat) (span : Nat × Nat) : Bool :=
  x.inflight.any (fun d =>
    let a := matArgs d.bytes
    (decide (d.opcode = 1) || decide (d.opcode = 2)) && decide (a.cluster = cl) && a.selects r &&
      (spansMeet a.descA.span span || spansMeet a.descB.span span)) || x.collHolds cl r span

/-! ### Values (spec/03 R73-R77) -/

/-- A run: the exact sum of its products, rounded once to 24 bits (R74). -/
def runVal (a b : Nat → Val) (k0 n : Nat) : Val :=
  (Val.sum ((List.range n).map (fun i => (a (k0 + i)).mul (b (k0 + i))))).round24

/-- The runs from `k` up to `kEnd`, at most `n` of them, added in ascending order (R75). -/
def accFrom (a b : Nat → Val) (rl kEnd : Nat) : Nat → Nat → Val → Val
  | 0, _, acc => acc
  | n + 1, k, acc =>
    if k ≥ kEnd then acc else accFrom a b rl kEnd n (k + rl) ((acc.add (runVal a b k (min rl (kEnd - k)))).round53)

/-- The long accumulator after `kEnd` products, from a value at `k`. -/
def accTo (a b : Nat → Val) (rl k kEnd : Nat) (start : Val) : Val := accFrom a b rl kEnd (ceilDiv (kEnd - k) rl) k start

/-- Element (i, k) of A and element (k, j) of B as a core reads them. -/
def MatArgs.valA (a : MatArgs) (m : Mem) (i k : Nat) : Val :=
  if a.ta then a.descA.spadVal m k i else a.descA.spadVal m i k
def MatArgs.valB (a : MatArgs) (m : Mem) (k j : Nat) : Val :=
  if a.tb then a.descB.spadVal m j k else a.descB.spadVal m k j

/-- The value that a kept set gives element (i, j): +0 in the pad of its tiles, and a free value where no command has left
one. -/
def keptVal (ctr rows cols : Nat) (vals : List W64) (i j : Nat) : Val :=
  if i < rows ∧ j < cols then valAcc (vals.getD (cols * i + j) 0)
  else if i < roundUp rows 64 ∧ j < roundUp cols 64 then Val.zero
  else valAcc (Config.freeW64 (ctr + 256 * i + j))

/-- The codes from which the elements of an M × N product start, row by row. -/
def KeptSet.starts (x : KeptSet) (ctr m n : Nat) : List W64 :=
  (List.range m).flatMap fun i => (List.range n).map fun j => (keptVal ctr x.rows x.cols x.vals i j).codeAcc

/-- The value that element (i, j) of logical core `r` starts from. -/
def Cmd.matStart (c : Cmd) (r i j : Nat) : Val :=
  match c.keptIn.find? (fun x => decide (x.1 = r)) with
  | some (_, _, cols, vals) => valAcc (vals.getD (cols * i + j) 0)
  | none => Val.zero

/-- The accumulator of element (i, j) of logical core `r` after `k` products, faults that stand included (Table 4-6). -/
def Cmd.matAcc (c : Cmd) (a : MatArgs) (m : Mem) (r i j k : Nat) : Val :=
  let (k0, v) := match (c.accFaults.filter (fun f => decide (f.core = r) && decide (f.row = i) && decide (f.col = j) &&
      decide (f.k ≤ k))).getLast? with
    | some f => (f.k, valAcc f.code)
    | none => (0, c.matStart r i j)
  accTo (a.valA m i) (fun k => a.valB m k j) a.rl k0 k v

/-- The whole product of one core, row by row. -/
def Cmd.matResult (c : Cmd) (a : MatArgs) (m : Mem) (r : Nat) : Array Val :=
  ((List.range a.m).flatMap fun i => (List.range a.n).map fun j => c.matAcc a m r i j a.k).toArray

/-! ### Stream slots (Table 4-4) -/

/-- The sizes of blocks of at most `b` in a length of `n`. -/
def blocksOf (n b : Nat) : List Nat := (List.range (ceilDiv n b)).map (fun i => min b (n - b * i))

/-- Stream ACLK of one C tile with outputs stationary, for a reduction of length `k`. -/
def MatArgs.tileSlots (a : MatArgs) (k : Nat) : Nat :=
  let f := fmtWordOf a.fb
  if f.fmt = .intp then
    (if f.wbits = 0 ∧ !(fmtWordOf a.fa).fmt.isFp8 then ceilDiv (k * 1) 8 else ceilDiv (k * (f.wbits + 1)) 16)
  else if a.fp8 then ceilDiv k 2 else k

/-- k-indices of one pass. -/
def MatArgs.passK (a : MatArgs) : Nat := if a.fp8 then 128 else 64

/-- Rows or columns of a block of a pass: 64 while the core runs single-buffered (R108). -/
def blockLen (single : Bool) : Nat := if single then 64 else 128

/-- Stream slots of the busiest array (S), and of the four together. -/
def MatArgs.slots (a : MatArgs) (single : Bool) : Nat × Nat :=
  let mt := ceilDiv a.m 64
  let nt := ceilDiv a.n 64
  let kt := ceilDiv a.k a.passK
  match a.stat with
  | 0 => let x := ((blocksOf a.m (blockLen single)).map (fun r => kt * max r 64)).sum; (ceilDiv nt 4 * x, nt * x)
  | 1 => let x := mt * max (a.tileSlots a.k) 64; (ceilDiv nt 4 * x, nt * x)
  | _ => let x := ((blocksOf a.n (blockLen single)).map (fun r => kt * max r 64)).sum; (ceilDiv mt 4 * x, mt * x)

/-! ### The work of a product -/

def CoreSt.kept (x : CoreSt) (k : Bool) : KeptSet := if k then x.kept1 else x.kept0
def CoreSt.setKept (x : CoreSt) (k : Bool) (v : KeptSet) : CoreSt :=
  if k then { x with kept1 := v } else { x with kept0 := v }

/-- What writing a product's result stores, and what the write counts. -/
def State.productOut (s : State) (c : Cmd) (a : MatArgs) (res : Array Val) : Stored :=
  let d := a.descC
  d.store (s.recipe d.fmt) (c.sr d.fmt) (fun e0 e1 _ _ => res.getD (a.n * e1 + e0) Val.zero) d.lin

/-- The result of one core stored: kept in its set, or written to C (R76, R108); `k` says what the write counts. -/
def State.putProduct (s : State) (st : Nat) (c : Cmd) (a : MatArgs) (r pc : Nat) (res : Array Val) (cnt : Bool) : State :=
  let x := s.core pc
  if a.accOut then
    s.setCore pc (x.setKept a.kset ⟨true, c.context, a.m, a.n, res.toList.map Val.codeAcc⟩)
  else
    let o := s.productOut c a res
    let t := s.setSpad pc (a.descC.putStored x.spad o.bytes)
    if cnt then t.countFmt st o.cnt else t

/-! ### What a product leaves in the cells (R86, Table 4-2) -/

/-- The 16 bits of a stationary operand that a cell holds: an element's code, or two FP8 codes, the lower k first; `e k` gives the byte
offsets of element k. -/
def stationary (d : Desc) (m : Mem) (fp8 : Bool) (e : Nat → List Nat) (k : Nat) : W16 :=
  let code (k : Nat) : Nat := leNat ((e k).map (fun o => m.read (d.addr + o)))
  if d.fmt.fmt.isFp8 then BitVec.ofNat 16 (if fp8 then code (2 * k) + 256 * code (2 * k + 1) else code k) else BitVec.ofNat 16 (code k)

/-- Byte offsets of element (k, line) of the stationary operand; none beyond its extent, which reads as +0. -/
def MatArgs.stationaryAt (a : MatArgs) (line k : Nat) : List Nat :=
  if a.stat = 0 then
    (if k < a.k ∧ line < a.n then (if a.tb then a.descB.elemBytes k line 0 0 else a.descB.elemBytes line k 0 0) else [])
  else (if k < a.k ∧ line < a.m then (if a.ta then a.descA.elemBytes line k 0 0 else a.descA.elemBytes k line 0 0) else [])

/-- The cells of array `g` of the core after a product: with outputs stationary the long accumulators and last runs of its last C tile,
and otherwise its last stationary block in use, the block before it in the other register.  Passes over one tile follow each other in
ascending k (UNVERIFIED, log entry 84). -/
def MatArgs.leftCells (a : MatArgs) (c : Cmd) (m : Mem) (r g : Nat) (old : List Cell) : List Cell :=
  let tiles := ceilDiv (if a.stat = 2 then a.m else a.n) 64
  if tiles ≤ g then old
  else
    let t := g + 4 * ((tiles - 1 - g) / 4)
    let i0 := 64 * (ceilDiv a.m 64 - 1)
    let kt := ceilDiv a.k a.passK
    let cell (i j : Nat) : Cell := (old[64 * i + j]?).getD Cell.reset
    (List.range 64).flatMap fun i => (List.range 64).map fun j =>
      if a.stat = 1 then
        let inC := decide (i0 + i < a.m) && decide (64 * t + j < a.n)
        { cell i j with acc := if inC then (c.matAcc a m r (i0 + i) (64 * t + j) a.k).codeAcc else 0
                        run := if inC then Val.sum ((List.range (a.k - (a.k - 1) / a.rl * a.rl)).map (fun x =>
                          let k := (a.k - 1) / a.rl * a.rl + x
                          (a.valA m (i0 + i) k).mul (a.valB m k (64 * t + j)))) else Val.zero }
      else
        let d := if a.stat = 0 then a.descB else a.descA
        let block (b : Nat) : W16 := stationary d m a.fp8 (a.stationaryAt (64 * t + j)) (64 * b + i)
        { cell i j with inUse := block (kt - 1), loading := if 2 ≤ kt then block (kt - 2) else (cell i j).inUse }

/-- A product's last operands and sums stand in its arrays' cells. -/
def State.leaveCells (s : State) (c : Cmd) (a : MatArgs) (r pc : Nat) (m : Mem) : State :=
  (List.range 4).foldl (fun t g =>
    let x := t.array (4 * pc + g)
    t.setArray (4 * pc + g) { x with cells := a.leftCells c m r g x.cells }) s

/-- One selected core's product: the state, the command with what it notes, and the stream slots of all its arrays. -/
def State.matCore (s : State) (st : Nat) (c : Cmd) (a : MatArgs) (r pc : Nat) : State × Cmd :=
  let x := s.core pc
  let kin := x.kept a.kset
  let single := x.kept0.held || x.kept1.held
  let c := if a.accIn then { c with keptIn := c.keptIn ++ [(r, a.m, a.n, kin.starts (s.freeCtr + 16384 * r) a.m a.n)] } else c
  let fa := a.descA.spadFaults x.spad
  let fb := a.descB.spadFaults x.spad
  let res := c.matResult a x.spad r
  let s := if a.accIn then s.setCore pc (x.setKept a.kset KeptSet.empty) else s
  let s := ((s.putProduct st c a r pc res true).leaveCells c a r pc x.spad).noteSpad pc (fa.1 + fb.1) (fa.2 + fb.2)
  let (s, c) := if c.statuses.contains 0x01f6 then
      ((s.count (kStand st cIntOperandPoison) (fa.2 + fb.2)), c) else s.operandPoison st c (fa.2 + fb.2)
  let sl := a.slots single
  (s.setCounters (s.counters.addUnits (kStand st cMatStream4k) 4096 sl.2),
   { c with stream := max c.stream sl.1, todo := if single then c.todo ++ [r] else c.todo })

/-- The selected cores in turn; one without a physical core does nothing (spec/11 R296). -/
def State.matCores (s : State) (st : Nat) (c : Cmd) (a : MatArgs) (px : Nat) : List Nat → State × Cmd
  | [] => (s, c)
  | r :: rs =>
    match s.physCore px r with
    | some pc => let (s, c) := s.matCore st c a r pc; s.matCores st c a px rs
    | none =>
      let (s, c) := if c.statuses.contains 0x01f3 then (s, c) else s.unavailable st c
      s.matCores st c a px rs

/-- The work of a product: every selected core's result. The command then runs on until it completes, its tiles being
checked meanwhile (R102-R104). -/
def State.runMat (s : State) (st : Nat) (c : Cmd) : State :=
  let a := matArgs c.bytes
  match s.standCluster st a.cluster with
  | none => s
  | some px =>
    let c := { c with tStart := s.clock.now, stage := .running }
    let (t, c) := s.matCores st c a px ((List.range 4).filter a.selects)
    (t.setCmd st c).setFreeCtr (if a.accIn then s.freeCtr + 65536 else s.freeCtr)

/-- A product's C is the source of a COLLECTIVE that has started, on some selected core: its write waits (spec/09 R224). -/
def StandSt.outHeld (x : StandSt) (c : Cmd) : Bool :=
  let a := matArgs c.bytes
  !a.accOut && ((List.range 4).filter a.selects).any (fun r => x.collHolds a.cluster r a.descC.span)

/-- MATMUL on its arrays (R106). -/
def execMatmul (stand ticket : Nat) (s : State) : Host.Outcome State Fault Refusal :=
  .next (match s.canRun stand ticket 0x01 with
    | none => s
    | some c => if (s.stand stand).outHeld c then s else s.runMat stand c)

/-- MATMUL_PLANE on its arrays (R95). -/
def execMatmulPlane (stand ticket : Nat) (s : State) : Host.Outcome State Fault Refusal :=
  .next (match s.canRun stand ticket 0x02 with
    | none => s
    | some c => if (s.stand stand).outHeld c then s else s.runMat stand c)

end Sys2Proof.Machine
end

