-- ==== Sys2Proof/Machine/Vector.lean ====
section
/-! DEFINITION. The vector unit (spec/05 R111-R116, R126): VECOP, its checks and the value of every element. -/

namespace Sys2Proof.Machine

/-- The body of Table 5-2. -/
structure VecArgs where
  cluster : Nat
  cores : Nat
  op : Nat
  func : Nat
  dmode : Bool
  bcastB : Bool
  bcastC : Bool
  rows : Nat
  cols : Nat
  fa : W32
  fb : W32
  fc : W32
  fy : W32
  aA : Nat
  aB : Nat
  aC : Nat
  aY : Nat
  imm0 : W32
  imm1 : W32
  deriving DecidableEq, Repr

def vecArgs (p : List Byte) : VecArgs :=
  let w := fld p 20 1
  { cluster := bits (fld p 16 1) 6 0, cores := bits (fld p 17 1) 3 0, op := fld p 18 1, func := fld p 19 1,
    dmode := bit w 0, bcastB := bit w 1, bcastC := bit w 2, rows := bits (fld p 24 4) 23 0, cols := bits (fld p 28 4) 23 0,
    fa := fmtAt p 32, fb := fmtAt p 36, fc := fmtAt p 40, fy := fmtAt p 44, aA := bits (fld p 48 2) 11 0,
    aB := bits (fld p 50 2) 11 0, aC := bits (fld p 52 2) 11 0, aY := bits (fld p 54 2) 11 0, imm0 := fmtAt p 56,
    imm1 := fmtAt p 60 }

/-- Operations that read B, and that read C. -/
def VecArgs.usesB (a : VecArgs) : Bool := [1, 2, 3, 5, 6, 9].contains a.op
def VecArgs.usesC (a : VecArgs) : Bool := decide (a.op = 3)

def VecArgs.descA (a : VecArgs) : Desc := desc2 a.fa (512 * a.aA) a.rows a.cols .shingle
def VecArgs.descB (a : VecArgs) : Desc := desc2 a.fb (512 * a.aB) (if a.bcastB then 1 else a.rows) a.cols .shingle
def VecArgs.descC (a : VecArgs) : Desc := desc2 a.fc (512 * a.aC) (if a.bcastC then 1 else a.rows) a.cols .shingle
def VecArgs.descY (a : VecArgs) : Desc := desc2 a.fy (512 * a.aY) a.rows a.cols .shingle

/-- The inputs that the operation reads. -/
def VecArgs.inputs (a : VecArgs) : List Desc :=
  [a.descA] ++ (if a.usesB then [a.descB] else []) ++ (if a.usesC then [a.descC] else [])

/-- The checks of Table 5-5 for VECOP. -/
def State.checkVec (s : State) (st : Nat) (p : List Byte) : Option W16 :=
  let a := vecArgs p
  let y := a.descY
  let same := decide (a.aY = a.aA) && decide (a.descA.fmt.elemBits = y.fmt.elemBits) && decide (a.descA.span = y.span)
  if bit (fld p 16 1) 7 || decide (bits (fld p 17 1) 7 4 ≠ 0) || decide (bits (fld p 20 1) 7 3 ≠ 0) ||
      !isZeroRange p 21 3 || decide (fld p 27 1 ≠ 0) || decide (fld p 31 1 ≠ 0) ||
      [48, 50, 52, 54].any (fun o => decide (bits (fld p o 2) 15 12 ≠ 0)) then some 1
  else match fmtFail [⟨a.fa, false, (fmtWordOf a.fa).fmt.isFloat⟩, ⟨a.fb, false, (fmtWordOf a.fb).fmt.isFloat⟩,
      ⟨a.fc, false, (fmtWordOf a.fc).fmt.isFloat⟩, ⟨a.fy, true, (fmtWordOf a.fy).fmt.isFloat⟩] with
    | some w => some w
    | none => firstFail [
      (decide (a.rows = 0) || decide (a.cols = 0) || decide (a.op = 0) || decide (a.op > 10) ||
        ((decide (a.op = 8) || decide (a.op = 9)) && (decide (a.func = 0) || decide (a.func > 14))) ||
        (decide (a.op < 8) && decide (a.func ≠ 0)) || (a.dmode && decide (a.op ≠ 9)), 0x0101),
      (decide (a.cluster ≥ (s.cfg st).clusters.length) || decide (a.cores = 0), 0x0102),
      ((y :: a.inputs).any (fun d => decide (d.span.2 > spadBytes)), 0x0103),
      ((spansMeet y.span a.descA.span && !same) || (a.inputs.drop 1).any (fun d => spansMeet y.span d.span), 0x0104),
      (decide (a.op = 9) && a.dmode && !hasOutputForm a.func, 0x0107)]

/-! ### Values -/

/-- The draw of a dropout element (R115): the dropout seed, the function byte as stream, the tag as SEQ. -/
def dropDraw (seeds : W64 × W64 × W64) (a : VecArgs) (i : Nat) : Nat :=
  srDraw ⟨seeds.2.1, seeds.2.2, BitVec.ofNat 32 (a.imm0.toNat / 65536), BitVec.ofNat 16 a.func⟩ i

/-- One element: the operation on the decoded operands, in binary32 (R82, R113-R115). -/
def vecElem (seeds : W64 × W64 × W64) (a : VecArgs) (i : Nat) (x y z : Val) : Val :=
  match a.op with
  | 1 => add32 x y
  | 2 => mul32 x y
  | 3 => fma32 x y z
  | 4 => fma32 x (val32 a.imm0) (val32 a.imm1)
  | 5 => x.max y
  | 6 => x.min y
  | 7 => x
  | 8 => funcVal a.func x
  | 9 => mul32 y (if a.dmode then derivOut a.func x else derivIn a.func x)
  | _ => if dropDraw seeds a i ≥ a.imm0.toNat % 65536 then mul32 x (val32 a.imm1) else Val.zero

/-- An operand's element as the engine takes it, and whether FMT_DECODE_OVERFLOW counts. -/
def Desc.engineVal (d : Desc) (m : Mem) (row col : Nat) : Val × Nat := toConsumer32 (d.spadVal m row col)

/-- How often decoding an operand leaves binary32's range. -/
def Desc.decodeOverflows (d : Desc) (m : Mem) : Nat :=
  ((List.range d.e1).flatMap fun r => (List.range d.e0).map fun c => (d.engineVal m r c).2).sum

/-- The whole output of one core, row by row. -/
def VecArgs.result (a : VecArgs) (seeds : W64 × W64 × W64) (m : Mem) : Array Val :=
  ((List.range a.rows).flatMap fun r => (List.range a.cols).map fun k =>
    vecElem seeds a (r * a.cols + k) (a.descA.engineVal m r k).1
      (if a.usesB then (a.descB.engineVal m (if a.bcastB then 0 else r) k).1 else Val.zero)
      (if a.usesC then (a.descC.engineVal m (if a.bcastC then 0 else r) k).1 else Val.zero)).toArray

/-- What reading a list of operands of one core notes: corrections and words that fail correction. -/
def State.noteOperands (s : State) (st : Nat) (c : Cmd) (pc : Nat) (ds : List Desc) : State × Cmd :=
  let m := (s.core pc).spad
  let f := ds.map (fun d => d.spadFaults m)
  let bad := (f.map Prod.snd).sum
  let t := (s.noteSpad pc (f.map Prod.fst).sum bad).count (kStand st cFmtDecodeOverflow) (ds.map (fun d => d.decodeOverflows m)).sum
  if c.statuses.contains 0x01f6 then (t.count (kStand st cIntOperandPoison) bad, c) else t.operandPoison st c bad

/-- A result as it is written: the primary lane's where its re-execution disagreed again (R128). -/
def Cmd.laneVal (c : Cmd) (core : Nat) (p : LanePlace) (v : Val) : Val :=
  match c.laneFaults.find? (fun f => decide (f.core = core) && decide (f.place = p)) with
  | some f => val32 (f.code.setWidth 32)
  | none => v

/-- One core's VECOP. -/
def State.vecCore (s : State) (st : Nat) (c : Cmd) (a : VecArgs) (pc : Nat) : State × Cmd :=
  let m := (s.core pc).spad
  let res := a.result c.seeds m
  let d := a.descY
  let o := d.store (s.recipe d.fmt) (c.sr d.fmt) (fun e0 e1 _ _ =>
    c.laneVal pc (.elem (a.cols * e1 + e0)) (res.getD (a.cols * e1 + e0) Val.zero)) d.lin
  let (t, c) := s.noteOperands st c pc a.inputs
  ((t.setSpad pc (d.putStored m o.bytes)).countFmt st o.cnt, c)

/-- A work of one core carried out on every selected logical core; one without a physical core does nothing (spec/11
R296). -/
def State.onCores (s : State) (st : Nat) (c : Cmd) (px : Nat) (f : State → Cmd → Nat → State × Cmd) : List Nat → State × Cmd
  | [] => (s, c)
  | r :: rs =>
    match s.physCore px r with
    | some pc => let (t, d) := f s c pc; t.onCores st d px f rs
    | none =>
      let (t, d) := if c.statuses.contains 0x01f3 then (s, c) else s.unavailable st c
      t.onCores st d px f rs

/-- The logical cores of a CORES field. -/
def coresOf (m : Nat) : List Nat := (List.range 4).filter (bit m)

/-- VECOP on the vector units (R111-R116); a write into a held operand range waits (spec/04 R100). -/
def execVecop (stand ticket : Nat) (s : State) : Host.Outcome State Fault Refusal :=
  .next (match s.canRun stand ticket 0x08 with
    | none => s
    | some c =>
      let a := vecArgs c.bytes
      if (coresOf a.cores).any (fun r => (s.stand stand).matHolds a.cluster r a.descY.span) then s
      else match s.standCluster stand a.cluster with
        | none => s
        | some px =>
          let d := { c with tStart := s.clock.now, stream := 64 * ceilDiv a.rows 64 * ceilDiv a.cols 64 + 32 }
          let (t, d) := s.onCores stand d px (fun t d pc => t.vecCore stand d a pc) (coresOf a.cores)
          t.engineDone stand d)

end Sys2Proof.Machine
end

