-- ==== Sys2Proof/Machine/Batten.lean ====
section
/-! DEFINITION. The Batten engine, its store and the taps (spec/05 R117-R126): ROWOP, its checks, the rows' values, and the
tiles that taps take. -/

namespace Sys2Proof.Machine

/-- The body of Table 5-3. -/
structure RowArgs where
  cluster : Nat
  cores : Nat
  op : Nat
  mask : Nat
  rows : Nat
  cols : Nat
  row0 : Nat
  entry : Nat
  aQ : Nat
  diag : Int
  fx : W32
  fg : W32
  fy : W32
  aX : Nat
  aG : Nat
  aY : Nat
  aP : Nat
  imm : W32
  deriving DecidableEq, Repr

def rowArgs (p : List Byte) : RowArgs :=
  { cluster := bits (fld p 16 1) 6 0, cores := bits (fld p 17 1) 3 0, op := fld p 18 1, mask := bits (fld p 19 1) 1 0,
    rows := bits (fld p 20 4) 23 0, cols := bits (fld p 24 4) 17 0, row0 := bits (fld p 28 4) 16 0,
    entry := bits (fld p 32 2) 14 0, aQ := bits (fld p 34 2) 11 0, diag := (fmtAt p 36).toInt, fx := fmtAt p 40,
    fg := fmtAt p 44, fy := fmtAt p 48, aX := bits (fld p 52 2) 11 0, aG := bits (fld p 54 2) 11 0,
    aY := bits (fld p 56 2) 11 0, aP := bits (fld p 58 2) 11 0, imm := fmtAt p 60 }

def RowArgs.descX (a : RowArgs) : Desc := desc2 a.fx (512 * a.aX) a.rows a.cols .shingle
def RowArgs.descG (a : RowArgs) : Desc := desc2 a.fg (512 * a.aG) a.rows a.cols .shingle
def RowArgs.descY (a : RowArgs) : Desc := desc2 a.fy (512 * a.aY) a.rows a.cols .shingle

/-- A row of COLS unscaled binary32 values from a byte address (R125). -/
def rowDesc (addr cols : Nat) : Desc := desc2 0 addr 1 cols .linear

def RowArgs.gamma (a : RowArgs) : Desc := rowDesc (512 * a.aP) a.cols
def RowArgs.beta (a : RowArgs) : Desc := rowDesc (512 * a.aQ) a.cols
def RowArgs.dgamma (a : RowArgs) : Desc := rowDesc (512 * a.aQ) a.cols
def RowArgs.dbeta (a : RowArgs) : Desc := rowDesc (512 * (a.aQ + ceilDiv (4 * a.cols) 512)) a.cols
/-- The forward scale of SOFTMAX_BWD. -/
def RowArgs.scaleS (a : RowArgs) : Desc := rowDesc (512 * a.aP) 1

/-- What each operation reads and writes (Table 5-4). -/
def RowArgs.readsX (a : RowArgs) : Bool := [2, 3, 4, 5, 8, 9, 10, 11].contains a.op
def RowArgs.readsG (a : RowArgs) : Bool := [5, 10, 11].contains a.op
def RowArgs.writesY (a : RowArgs) : Bool := [3, 4, 5, 8, 9, 10, 11].contains a.op
def RowArgs.softmax (a : RowArgs) : Bool := decide (1 ≤ a.op) && decide (a.op ≤ 5)
def RowArgs.tiles (a : RowArgs) : Nat := ceilDiv a.cols 64

/-- The descriptors of the operands that the operation reads. -/
def RowArgs.inputs (a : RowArgs) : List Desc :=
  (if a.readsX then [a.descX] else []) ++ (if a.readsG then [a.descG] else []) ++
    (if a.op = 5 then [a.scaleS] else []) ++ (if [8, 9, 10, 11].contains a.op then [a.gamma] else []) ++
    (if a.op = 8 then [a.beta] else []) ++ (if [10, 11].contains a.op then [a.dgamma] else []) ++
    (if a.op = 10 then [a.dbeta] else [])

/-- The byte ranges read, without those that the operation adds into. -/
def RowArgs.inSpans (a : RowArgs) : List (Nat × Nat) :=
  (if a.readsX then [a.descX.span] else []) ++ (if a.readsG then [a.descG.span] else []) ++
    (if a.op = 5 then [(512 * a.aP, 512 * a.aP + 4)] else []) ++
    (if [8, 9, 10, 11].contains a.op then [(512 * a.aP, 512 * a.aP + 4 * a.cols)] else []) ++
    (if a.op = 8 then [(512 * a.aQ, 512 * a.aQ + 4 * a.cols)] else []) ++
    (if a.op = 15 then [(512 * a.aX, 512 * a.aX + 8 * a.rows)] else [])

/-- The rows of sums that the operation adds into. -/
def RowArgs.sumSpans (a : RowArgs) : List (Nat × Nat) :=
  (if [10, 11].contains a.op then [(512 * a.aQ, 512 * a.aQ + 4 * a.cols)] else []) ++
    (if a.op = 10 then [(a.dbeta.addr, a.dbeta.addr + 4 * a.cols)] else [])

/-- The byte range of Y. -/
def RowArgs.ySpans (a : RowArgs) : List (Nat × Nat) :=
  (if a.writesY then [a.descY.span] else []) ++ (if a.op = 14 then [(512 * a.aY, 512 * a.aY + 8 * a.rows)] else [])

/-- The range that a tap watches (R122). -/
def RowArgs.tapSpans (a : RowArgs) : List (Nat × Nat) :=
  if a.op = 1 then [(512 * a.aX, 512 * a.aX + a.tiles * a.descX.shBytes)] else []

/-- The checks of Table 5-5 for ROWOP. -/
def State.checkRow (s : State) (st : Nat) (p : List Byte) : Option W16 :=
  let a := rowArgs p
  let spans := a.inSpans ++ a.sumSpans ++ a.ySpans ++ a.tapSpans
  if bit (fld p 16 1) 7 || decide (bits (fld p 17 1) 7 4 ≠ 0) || decide (bits (fld p 19 1) 7 2 ≠ 0) ||
      decide (fld p 23 1 ≠ 0) || decide (bits (fld p 24 4) 31 18 ≠ 0) || decide (bits (fld p 28 4) 31 17 ≠ 0) ||
      decide (bits (fld p 32 2) 15 15 ≠ 0) || decide (bits (fld p 34 2) 15 12 ≠ 0) ||
      [52, 54, 56, 58].any (fun o => decide (bits (fld p o 2) 15 12 ≠ 0)) then some 1
  else match fmtFail [⟨a.fx, false, (fmtWordOf a.fx).fmt.isFloat⟩, ⟨a.fg, false, (fmtWordOf a.fg).fmt.isFloat⟩,
      ⟨a.fy, true, (fmtWordOf a.fy).fmt.isFloat⟩] with
    | some w => some w
    | none => firstFail [
      (decide (a.rows = 0) || decide (a.cols = 0) || !([1, 2, 3, 4, 5, 8, 9, 10, 11, 14, 15].contains a.op) ||
        decide (a.mask = 3) || (!a.softmax && decide (a.mask ≠ 0)) || (decide (a.op = 1) && decide (a.rows > 64)), 0x0101),
      (decide (a.cluster ≥ (s.cfg st).clusters.length) || decide (a.cores = 0), 0x0102),
      (spans.any (fun x => decide (x.2 > spadBytes)), 0x0103),
      (a.ySpans.any (fun y => (a.inSpans ++ a.sumSpans).any (spansMeet y)) ||
        a.sumSpans.any (fun y => a.inSpans.any (spansMeet y)), 0x0104),
      (decide (a.cols > 131072) || (decide (a.mask ≠ 0) && (decide (a.row0 + a.rows - 1 > 131071) ||
        decide (a.diag < -131072) || decide (a.diag > 131072))), 0x0105),
      (decide (a.entry + a.rows > 32768), 0x0106)]

/-! ### The Batten store (R117) -/

/-- Entry `e` of a store: its two words; those of a word that fails correction are +0 (spec/11 R418). -/
def entryAt (m : Mem) (e : Nat) : Val × Val :=
  if m.bad (8 * e / 16) then (Val.zero, Val.zero)
  else (val32 (BitVec.ofNat 32 (leNat (m.readN (8 * e) 4))), val32 (BitVec.ofNat 32 (leNat (m.readN (8 * e + 4) 4))))

/-- The bytes of entries. -/
def entryBytes (l : List (Val × Val)) : List Byte :=
  l.flatMap (fun p => natLe 4 p.1.code32.toNat ++ natLe 4 p.2.code32.toNat)

/-- Consecutive entries written from entry `e`. -/
def State.putEntries (s : State) (pc e : Nat) (l : List (Val × Val)) : State :=
  let x := s.core pc
  s.setCore pc { x with batten := x.batten.writeRange (8 * e) (entryBytes l) }

/-- Words of a store's entries that a read corrects, and that fail correction. -/
def entryFaults (m : Mem) (e n : Nat) : Nat × Nat := ((m.correctedIn (8 * e) (8 * n)).length, (m.badIn (8 * e) (8 * n)).length)

/-! ### Rows (R119, R120, R125) -/

/-- Column `j` of the row at offset `r` is masked (R120). -/
def RowArgs.masked (a : RowArgs) (r j : Nat) : Bool :=
  match a.mask with
  | 1 => decide ((j : Int) > ((a.row0 + r : Nat) : Int) + a.diag)
  | 2 => decide ((j : Int) ≥ a.diag)
  | _ => false

/-- Every column of the row is masked. -/
def RowArgs.rowMasked (a : RowArgs) (r : Nat) : Bool := (List.range a.cols).all (a.masked r)

/-- z of a tile: the scaled scores, −∞ where masked or beyond the columns. -/
def RowArgs.zTile (a : RowArgs) (s : Val) (x : Nat → Val) (r t : Nat) : List Val :=
  (List.range 64).map (fun k =>
    let j := 64 * t + k
    if j ≥ a.cols ∨ a.masked r j then Val.inf true else mul32 (x j) s)

/-- stats(row) (R119). -/
def RowArgs.stats (a : RowArgs) (s : Val) (x : Nat → Val) (r : Nat) : Val × Val :=
  (List.range a.tiles).foldl (fun p t => combine p (tileStats (a.zTile s x r t))) (.inf true, Val.zero)

/-- exp2(z[j] − m) × recip(l) (R119, R125); +0 where masked, in a row that holds a not-a-number too: the sentence on such rows gives
every output a not-a-number, R120 and the pseudocode give masked columns +0 (DESIGN CHOICE, log entry 83). -/
def RowArgs.expTerm (a : RowArgs) (s : Val) (x : Nat → Val) (r : Nat) (ml : Val × Val) (j : Nat) : Val :=
  if a.masked r j then Val.zero else mul32 (exp2Fn (sub32 (mul32 (x j) s) ml.1)) (recipFn ml.2)

/-- The probability of column `j` before its rounding (R119): +0 in a row that is masked whole. -/
def RowArgs.prob (a : RowArgs) (s : Val) (x : Nat → Val) (r : Nat) (ml : Val × Val) (j : Nat) : Val :=
  if ml.1 = .inf true then Val.zero else a.expTerm s x r ml j

/-- A term of a row sum: +0 beyond the columns. -/
def RowArgs.term (a : RowArgs) (f : Nat → Val) (j : Nat) : Val := if j < a.cols then f j else Val.zero

/-- 1/COLS, correctly rounded. -/
def RowArgs.inv (a : RowArgs) : Val := div32 Val.one (Val.ofNat a.cols)

/-- norm_stats(row) (R119): mean and rstd; RMS takes mean = +0. -/
def RowArgs.normStats (a : RowArgs) (rms : Bool) (x : Nat → Val) : Val × Val :=
  let mean := if rms then Val.zero else mul32 (sumt a.tiles (a.term x)) a.inv
  let sq (j : Nat) : Val := if rms then mul32 (x j) (x j) else mul32 (sub32 (x j) mean) (sub32 (x j) mean)
  (mean, rsqrtFn (add32 (mul32 (sumt a.tiles (a.term sq)) a.inv) (val32 a.imm)))

/-- A normalised value with gamma and beta applied.  The specification has no formula for the forward output: ((x − mean) × rstd) ×
gamma, then + beta, in that order, is DEDUCED from the backward pass's xh, and whether the last product and sum of layer normalisation
are one fused operation is left open (log entry 26). -/
def normOut (rms : Bool) (st : Val × Val) (x g b : Val) : Val :=
  let xh := mul32 (sub32 x st.1) st.2
  if rms then mul32 xh g else if Config.normFused then fma32 xh g b else add32 (mul32 xh g) b

/-- What one row gives: its new entry if it writes one, and Y before its rounding. -/
structure RowOut where
  entry : Option (Val × Val)
  y : List Val
  deriving DecidableEq, Repr

/-- The operands of a row as the engine reads them. -/
structure RowIn where
  x : Nat → Val
  g : Nat → Val
  gamma : Nat → Val
  beta : Nat → Val
  s : Val
  entry : Val × Val

/-- softmax_bwd of a row (R125), whose pseudocode has no branch for an entry with m = −∞: a column that is not masked takes what its
formula gives there. -/
def RowArgs.softBwd (a : RowArgs) (i : RowIn) (r : Nat) : List Val :=
  let p := a.expTerm i.s i.x r i.entry
  let d := sumt a.tiles (a.term (fun j => if a.masked r j then Val.zero else mul32 (p j) (i.g j)))
  (List.range a.cols).map (fun j =>
    if a.masked r j then Val.zero else mul32 (mul32 (p j) (sub32 (i.g j) d)) (val32 a.imm))

/-- ln_bwd and RMS_BWD of a row (R125). -/
def RowArgs.normBwd (a : RowArgs) (i : RowIn) : List Val :=
  let rms := decide (a.op = 11)
  let mean := if rms then Val.zero else i.entry.1
  let xh (j : Nat) : Val := mul32 (sub32 (i.x j) mean) i.entry.2
  let gg (j : Nat) : Val := mul32 (i.g j) (i.gamma j)
  let ga := if rms then Val.zero else mul32 (sumt a.tiles (a.term gg)) a.inv
  let gb := mul32 (sumt a.tiles (a.term (fun j => mul32 (gg j) (xh j)))) a.inv
  (List.range a.cols).map (fun j => mul32 (fma32 (xh j).neg gb (sub32 (gg j) ga)) i.entry.2)

/-- One row of an operation (Table 5-4). -/
def RowArgs.row (a : RowArgs) (i : RowIn) (r : Nat) : RowOut :=
  let cols := List.range a.cols
  match a.op with
  | 2 => ⟨some (a.stats (val32 a.imm) i.x r), []⟩
  | 3 => ⟨none, cols.map (a.prob (val32 a.imm) i.x r i.entry)⟩
  | 4 => let ml := a.stats (val32 a.imm) i.x r; ⟨some ml, cols.map (a.prob (val32 a.imm) i.x r ml)⟩
  | 5 => ⟨none, a.softBwd i r⟩
  | 8 => let st := a.normStats false i.x; ⟨some st, cols.map (fun j => normOut false st (i.x j) (i.gamma j) (i.beta j))⟩
  | 9 => let st := a.normStats true i.x; ⟨some st, cols.map (fun j => normOut true st (i.x j) (i.gamma j) Val.zero)⟩
  | _ => ⟨none, a.normBwd i⟩

/-- The row inputs of offset `r` on one core. -/
def RowArgs.rowIn (a : RowArgs) (x : CoreSt) (r : Nat) : RowIn :=
  let m := x.spad
  { x := fun j => (a.descX.engineVal m r j).1
    g := fun j => (a.descG.engineVal m r j).1
    gamma := fun j => (a.gamma.engineVal m 0 j).1
    beta := fun j => (a.beta.engineVal m 0 j).1
    s := (a.scaleS.engineVal m 0 0).1
    entry := entryAt x.batten (a.entry + r) }

/-- dgamma and dbeta after the command's rows, ascending (R125). -/
def RowArgs.sums (a : RowArgs) (x : CoreSt) (d : Desc) (gamma : Bool) : List Val :=
  (List.range a.cols).map (fun j => (List.range a.rows).foldl (fun acc r =>
    let i := a.rowIn x r
    let mean := if a.op = 11 then Val.zero else i.entry.1
    add32 acc (if gamma then mul32 (i.g j) (mul32 (sub32 (i.x j) mean) i.entry.2) else i.g j)) (d.engineVal x.spad 0 j).1)

/-- A row of binary32 values written. -/
def Desc.putRow (d : Desc) (m : Mem) (vs : List Val) : Mem :=
  m.writeRange d.addr (vs.flatMap (fun v => natLe 4 v.code32.toNat))

/-- A row's entry, and a row of sums, as they are written (R128). -/
def RowOut.lanes (o : RowOut) (c : Cmd) (pc r : Nat) : RowOut :=
  { o with entry := o.entry.map (fun e => (c.laneVal pc (.entry r false) e.1, c.laneVal pc (.entry r true) e.2)) }
def Cmd.laneRow (c : Cmd) (pc : Nat) (beta : Bool) (vs : List Val) : List Val :=
  vs.zipIdx.map (fun p => c.laneVal pc (.sum beta p.2) p.1)

/-- Operations that read the rows' entries. -/
def RowArgs.readsEntries (a : RowArgs) : Bool := [3, 5, 10, 11, 14].contains a.op

/-- One core's ROWOP other than a tap. -/
def State.rowCore (s : State) (st : Nat) (c : Cmd) (a : RowArgs) (pc : Nat) : State × Cmd :=
  let x := s.core pc
  let ef := if a.readsEntries then entryFaults x.batten a.entry a.rows else (0, 0)
  let lf := if a.op = 15 then ((x.spad.correctedIn (512 * a.aX) (8 * a.rows)).length, (x.spad.badIn (512 * a.aX) (8 * a.rows)).length)
    else (0, 0)
  let (t, c) := s.noteOperands st c pc a.inputs
  let t := t.noteSpad pc (ef.1 + lf.1) (ef.2 + lf.2)
  let (t, c) := if c.statuses.contains 0x01f6 then (t.count (kStand st cIntOperandPoison) (ef.2 + lf.2), c)
    else t.operandPoison st c (ef.2 + lf.2)
  if a.op = 14 then
    (t.setSpad pc (x.spad.writeRange (512 * a.aY)
      (entryBytes ((List.range a.rows).map (fun r => entryAt x.batten (a.entry + r))))), c)
  else if a.op = 15 then
    (t.putEntries pc a.entry ((List.range a.rows).map (fun r => entryAt x.spad (64 * a.aX + r))), c)
  else
    let outs := ((List.range a.rows).map (fun r => (a.row (a.rowIn x r) r).lanes c pc r)).toArray
    let entries := outs.toList.filterMap (·.entry)
    let t := if entries.isEmpty then t else t.putEntries pc a.entry entries
    let d := a.descY
    let o := d.store (t.recipe d.fmt) (c.sr d.fmt)
      (fun e0 e1 _ _ =>
      c.laneVal pc (.elem (a.cols * e1 + e0)) (((outs.getD e1 ⟨none, []⟩).y).getD e0 Val.zero)) d.lin
    let t := if a.writesY then (t.setSpad pc (d.putStored x.spad o.bytes)).countFmt st o.cnt else t
    let t := if [10, 11].contains a.op then t.setSpad pc (a.dgamma.putRow (t.core pc).spad (c.laneRow pc false (a.sums x a.dgamma true))) else t
    let t := if a.op = 10 then t.setSpad pc (a.dbeta.putRow (t.core pc).spad (c.laneRow pc true (a.sums x a.dbeta false))) else t
    let n := if a.softmax then ((List.range a.rows).filter a.rowMasked).length else 0
    (t.count (kStand st cBatRowMasked) n, c)

/-! ### The order of entry accesses (R124) -/

/-- The entry ranges of two commands on one cluster meet. -/
def entriesMeet (c d : Cmd) : Bool :=
  let a := rowArgs c.bytes
  let b := rowArgs d.bytes
  decide (d.opcode = 0x09) && decide (a.cluster = b.cluster) && (List.range 4).any (fun r => bit a.cores r && bit b.cores r) &&
    spansMeet (a.entry, a.entry + a.rows) (b.entry, b.entry + b.rows)

/-- An earlier access to the command's entries has still to take effect. -/
def StandSt.entryHeld (x : StandSt) (c : Cmd) : Bool :=
  x.inflight.any (fun d => decide (d.ticket < c.ticket) && !d.ended && entriesMeet c d)

/-! ### Taps (R122, R123) -/

/-- A tap has taken every tile of its row. -/
def Tap.full (t : Tap) (tiles : Nat) : Bool := decide (t.next = tiles)

/-- The taps of one core that are complete and no longer held back write their entries and are freed (R123, R124). -/
def State.settleTaps (s : State) (st : Nat) : List Nat → State
  | [] => s
  | pc :: pcs =>
    let x := s.core pc
    let ready (t : Tap) : Bool := decide (t.stand = st) && (match (s.stand st).cmd t.ticket with
      | some c => t.full (rowArgs c.bytes).tiles && !(s.stand st).entryHeld c
      | none => false)
    let u := (x.taps.filter ready).foldl (fun u t => match (s.stand st).cmd t.ticket with
      | some c => u.putEntries pc (rowArgs c.bytes).entry (t.rows.map (fun p => (val32 p.1, val32 p.2)))
      | none => u) (s.setCore pc { x with taps := x.taps.filter (fun t => !ready t) })
    u.settleTaps st pcs

/-- The physical cores that a ROWOP selects. -/
def State.rowCores (s : State) (st : Nat) (a : RowArgs) : List Nat :=
  match s.standCluster st a.cluster with
  | some px => (coresOf a.cores).filterMap (s.physCore px)
  | none => []

/-- A logical core that a ROWOP selects has no physical core (spec/11 R296). -/
def State.rowMissing (s : State) (st : Nat) (a : RowArgs) : Bool :=
  match s.standCluster st a.cluster with
  | some px => (coresOf a.cores).any (fun r => (s.physCore px r).isNone)
  | none => false

/-- A STATS_TAP of which no core holds a tap any more has ended its work. -/
def State.endTaps (s : State) (st : Nat) : State :=
  let x := s.stand st
  s.setStand st { x with inflight := x.inflight.map (fun c =>
    if c.isTap && decide (c.stage = .running) && (s.rowCores st (rowArgs c.bytes)).all (fun pc =>
      (s.core pc).taps.all (fun t => !(decide (t.stand = st) && decide (t.ticket = c.ticket)))) then { c with stage := .done } else c) }

/-- Complete taps of a stand settled. -/
def State.settleStand (s : State) (st : Nat) : State :=
  let s := s.settleTaps st ((s.standClusters st).flatMap (fun px => (List.range 5).map (5 * px + ·)))
  s.endTaps st

/-- ROWOP on the Batten engines (R118-R125), in chute order of its entries; STATS_TAP is armed at its issue and runs on. -/
def execRowop (stand ticket : Nat) (s : State) : Host.Outcome State Fault Refusal :=
  .next (match s.canRun stand ticket 0x09 with
    | none => s
    | some c =>
      let a := rowArgs c.bytes
      if c.isTap || (s.stand stand).entryHeld c || (coresOf a.cores).any (fun r =>
          (a.ySpans ++ a.sumSpans).any ((s.stand stand).matHolds a.cluster r)) then s
      else match s.standCluster stand a.cluster with
        | none => s
        | some px =>
          let p := if a.op = 8 then 3 else if [4, 5, 9, 10, 11].contains a.op then 2 else 1
          let d := { c with tStart := s.clock.now, stream := p * 16 * ceilDiv a.rows 64 * a.tiles + 40 }
          let (t, d) := s.onCores stand d px (fun t d pc => t.rowCore stand d a pc) (coresOf a.cores)
          (t.engineDone stand d).settleStand stand)

/-- A tap armed on a core, in its lowest free slot. -/
def State.armOn (s : State) (st : Nat) (c : Cmd) (pc : Nat) : State :=
  let x := s.core pc
  let n := ((List.range 4).find? (fun k => x.taps.all (fun y => decide (y.slotNo ≠ k)))).getD 4
  s.setCore pc { x with taps := x.taps ++ [{ stand := st, ticket := c.ticket, slotNo := n, next := 0, window := [], seen := []
                                             rows := List.replicate (rowArgs c.bytes).rows ((Val.inf true).code32, 0) }] }

/-- A tap armed on every selected core, at the issue of its STATS_TAP (R122). A logical core without a physical one takes no part
(spec/11 R296).  Engine ACLK of a tap, the STREAM of its payload, is a free value (log entry 26). -/
def State.armTap (s : State) (st : Nat) (c : Cmd) : State :=
  let a := rowArgs c.bytes
  let (t, d) := if s.rowMissing st a then s.unavailable st c else (s, c)
  let t := (t.setCmd st { d with stream := (Config.freeW32 s.freeCtr).toNat }).tookFree
  ((s.rowCores st a).foldl (fun t pc => t.armOn st c pc) t).endTaps st

/-- Room for one more tap on every selected core (R122). -/
def State.tapRoom (s : State) (st : Nat) (p : List Byte) : Bool :=
  (s.rowCores st (rowArgs p)).all (fun pc => decide ((s.core pc).taps.length < 4))

/-- A product's output shingle that lies at a byte address: its number in the tensor. -/
def MatArgs.shingleAt (a : MatArgs) (addr : Nat) : Option Nat :=
  let d := a.descC
  if !a.accOut && decide (d.addr ≤ addr) && decide ((addr - d.addr) % d.shBytes = 0) &&
    decide ((addr - d.addr) / d.shBytes < d.shingles) then some ((addr - d.addr) / d.shBytes) else none

/-- The address of a tap's tile. -/
def RowArgs.tileAddr (a : RowArgs) (tile : Nat) : Nat := 512 * a.aX + tile * a.descX.shBytes

/-- The running product that writes a tap's tile on a logical core, and its shingle: the oldest whose tile the tap has not
taken. -/
def StandSt.writerOf (x : StandSt) (t : Tap) (a : RowArgs) (r tile : Nat) : Option (Cmd × Nat) :=
  (x.inflight.filterMap (fun d =>
    let m := matArgs d.bytes
    if (d.opcode = 1 ∨ d.opcode = 2) ∧ d.stage = .running ∧ m.cluster = a.cluster ∧ m.selects r ∧
      !t.seen.contains (d.ticket, tile) then (m.shingleAt (a.tileAddr tile)).map (fun n => (d, n)) else none)).head?

/-- Element (row, column) of a tile as the tap decodes it: the bytes as written, with the product's scale bytes (R122), and whether
FMT_DECODE_OVERFLOW counts (spec/03 R57). -/
def tapVal (m : Mem) (f : FmtWord) (dc : Desc) (addr n row col : Nat) : Val × Nat :=
  let w := f.elemBits / 8
  let so := dc.addr + dc.scaleBase + n * (4096 / f.block) + (if f.block = 128 then 0 else row * (64 / f.block) + col / f.block)
  let so := if f.block = 128 then dc.addr + dc.scaleBase + 32 * (n / 2 * 2) + row else so
  toConsumer32 (decodeElem f.fmt.flt (if f.scaled then some (m.read so).toNat else none)
    (leNat (m.readN (addr + (64 * row + col) * w) w)))

/-- The statistics of a tile's rows, as the lanes of the core's tap unit leave them. -/
def RowArgs.tapTile (a : RowArgs) (c : Cmd) (pc : Nat) (m : Mem) (dc : Desc) (n tile : Nat) : List TileStat :=
  (List.range a.rows).map (fun r =>
    let x (j : Nat) : Val := (tapVal m (fmtWordOf a.fx) dc (a.tileAddr tile) n r (j - 64 * tile)).1
    let p := tileStats (a.zTile (val32 a.imm) x r tile)
    ⟨(c.laneVal pc (.tile tile r false) p.1).code32, (c.laneVal pc (.tile tile r true) p.2).code32⟩)

/-- How often decoding a tile's elements leaves binary32's range (spec/03 R57). -/
def RowArgs.tapOverflows (a : RowArgs) (m : Mem) (dc : Desc) (n tile : Nat) : Nat :=
  ((List.range a.rows).flatMap fun r => (List.range (min 64 (a.cols - 64 * tile))).map fun k =>
    (tapVal m (fmtWordOf a.fx) dc (a.tileAddr tile) n r k).2).sum

/-- A product's output on one core as its arrays write it, whatever other engines have written over it since (R122). -/
def State.writtenC (s : State) (d : Cmd) (r pc : Nat) : Mem :=
  let a := matArgs d.bytes
  let x := a.descC
  x.putStored Mem.empty (s.productOut d a (d.matResult a (s.core pc).spad r)).bytes

/-- The tiles of the window that are due, combined in ascending order (R123). -/
def Tap.drain : Nat → Tap → Tap
  | 0, t => t
  | f + 1, t =>
    match t.window.find? (fun p => decide (p.1 = t.next)) with
    | none => t
    | some (_, st) =>
      Tap.drain f { t with
        next := t.next + 1
        window := t.window.filter (fun p => decide (p.1 ≠ t.next))
        rows := (t.rows.zip st).map (fun p =>
          let q := combine (val32 p.1.1, val32 p.1.2) (val32 p.2.mt, val32 p.2.lt)
          (q.1.code32, q.2.code32)) }

/-- A tap that stops observing (R123). -/
def State.tapOrder (s : State) (st pc : Nat) (t : Tap) : State :=
  let x := s.core pc
  let y := s.stand st
  let u := (s.setCore pc { x with taps := x.taps.filter (fun z => decide (z ≠ t)) }).setStand st
    { y with inflight := y.inflight.map (fun c => if c.ticket = t.ticket then
        (if c.statuses.contains 0x0108 then c else c.withStatus 0x0108) else c) }
  (u.countStand st cBatTapOrder).settleStand st

/-- An armed tap takes a tile that a product of its core has written, after the product's checks (R122, R123). -/
def execTapTile (stand ticket core tile : Nat) (s : State) : Host.Outcome State Fault Refusal :=
  .next (match (s.stand stand).cmd ticket, (s.core core).taps.find? (fun t => decide (t.stand = stand) && decide (t.ticket = ticket)),
      (s.core core).logical with
    | some c, some t, some r =>
      let a := rowArgs c.bytes
      match (if tile < a.tiles ∧ s.alive ∧ !s.issueStopped stand c then (s.stand stand).writerOf t a r tile else none) with
      | none => s
      | some (d, n) =>
        if s.integ.tiles.any (fun f => decide (f.stand = stand) && decide (f.ticket = d.ticket)) then s
        else if tile < t.next ∨ t.window.any (fun p => decide (p.1 = tile)) ∨ tile ≥ t.next + 16 then s.tapOrder stand core t
        else
          let x := s.core core
          let m := s.writtenC d r core
          let dc := (matArgs d.bytes).descC
          let st := a.tapTile c core m dc n tile
          let u := Tap.drain 17 { t with window := (tile, st) :: t.window, seen := (d.ticket, tile) :: t.seen }
          let masked := if u.full a.tiles then ((List.range a.rows).filter a.rowMasked).length else 0
          (((s.setCore core { x with taps := x.taps.map (fun z => if z = t then u else z) }).count
            (kStand stand cBatRowMasked) masked).count (kStand stand cFmtDecodeOverflow) (a.tapOverflows m dc n tile)).settleStand
              stand
    | _, _, _ => s)

/-- A product still owes armed taps a tile: it completes once they have taken it (R122). -/
def State.tapsOwed (s : State) (st : Nat) (d : Cmd) : Bool :=
  let m := matArgs d.bytes
  match s.standCluster st m.cluster with
  | none => false
  | some px => (coresOf m.cores).any (fun r => match s.physCore px r with
    | none => false
    | some pc => (s.core pc).taps.any (fun t => decide (t.stand = st) && (match (s.stand st).cmd t.ticket with
        | some c =>
          let a := rowArgs c.bytes
          (List.range a.tiles).any (fun i => (m.shingleAt (a.tileAddr i)).isSome && !t.seen.contains (d.ticket, i))
        | none => false)))

/-! ### Lanes (R127, R128, spec/08 R189) -/

/-- The lane of VEC_LANE.LAST_LANE (Table 5-8). -/
def LaneUnit.laneNo (u : LaneUnit) (lane : Nat) : Nat :=
  match u with
  | .vector _ => lane % 64
  | .batten _ => 64 + lane % 256
  | .tap _ => 320 + lane % 256
  | .landing _ _ => lane

/-- The physical core of a lane's unit. -/
def LaneUnit.core? : LaneUnit → Option Nat
  | .vector c => some c
  | .batten c => some c
  | .tap c => some c
  | .landing _ _ => none

/-- The command may run on the unit: a landing engine's lanes also do the memory additions of SCATTER_ADD (spec/08 R189, R190). -/
def LaneUnit.runs (u : LaneUnit) (c : Cmd) : Bool :=
  match u with
  | .vector _ => decide (c.opcode = 0x08)
  | .batten _ => decide (c.opcode = 0x09) && !c.isTap
  | .tap _ => c.isTap
  | .landing _ _ => c.onLanding

/-- The unit belongs to a core that the command selects; a landing engine to its die. -/
def State.laneSelected (s : State) (u : LaneUnit) (st : Nat) (c : Cmd) : Bool :=
  match u.core? with
  | none => true
  | some pc => match s.standCluster st c.clusterField with
    | none => false
    | some px => (coresOf (bits (fld c.bytes 17 1) 3 0)).any (fun r => decide (s.physCore px r = some pc))

/-- The unit is at work on the command: an armed tap, or a command that its engine may begin or has begun. -/
def State.laneAt (s : State) (u : LaneUnit) (st : Nat) (c : Cmd) : Bool :=
  s.alive && (s.cfg st).enabled && u.runs c && s.laneSelected u st c && !(s.stand st).hung c.ticket && !c.ended &&
    (c.isTap || (s.stand st).turnOf c)

/-- The counter of a mismatch whose re-execution agrees. -/
def LaneUnit.counter : LaneUnit → Nat
  | .vector _ => cVecLaneMismatch
  | .batten _ => cBatLaneMismatch
  | .tap _ => cBatLaneMismatch
  | .landing _ _ => cLndLaneMismatch

end Sys2Proof.Machine
end

