-- ==== Sys2Proof/Machine/HostLink.lean ====
section
/-! DEFINITION. The host links' endpoints (spec/02 R30-R33, spec/14 R358). -/

namespace Sys2Proof.Machine

/-- A link's reset input deasserts, and its training begins, whether or not the Warden runs (spec/14 R358). -/
def execPerstDeassert (link : LinkId) (s : State) : Host.Outcome State Fault Refusal :=
  .next (if s.alive ∧ s.hasLink link then s.setLink link { s.link link with training := true } else s)

/-- A link finishes training and its data link comes up (spec/14 R358, spec/02 Table 2-4). -/
def execHostLinkUp (link : LinkId) (s : State) : Host.Outcome State Fault Refusal :=
  .next (if s.alive ∧ s.hasLink link ∧ (s.link link).training then
    s.setLink link { s.link link with up := true, d3hot := false } else s)

/-- The endpoint after its link ended: configuration space, MSI-X table and BAR4 base reset (spec/02 R32). -/
def HostLink.ended (h : HostLink) : LinkEnd → HostLink
  | .hotReset | .linkDown => { HostLink.reset with training := h.training }
  | .perst => HostLink.reset
  | .d3hot => { HostLink.reset with training := h.training, up := h.up, d3hot := true }

/-- A mailbox request that a link was assembling is dropped with it (spec/15 R387). -/
def Mbox.linkLost (m : Mbox) (l : LinkId) : Mbox :=
  if m.mode = .assembling ∧ m.owner = some l then { m with mode := .free, owner := none, req := [] } else m

/-- A link lost: chutes and mailboxes lose what it was writing, and nothing else changes (spec/02 R32, R40). -/
def State.linkLost (s : State) (l : LinkId) (why : LinkEnd) : State :=
  ((s.setStands (s.stands.map (fun p => (p.1, { p.2 with chute := p.2.chute.linkLost l })))).setWarden
    { s.warden with mbox := s.warden.mbox.map (fun p => (p.1, p.2.linkLost l)) }).setLink l ((s.link l).ended why)

/-- A hot reset, link-down, PERST assertion or D3hot entry on one link (spec/02 R32). -/
def execHostLinkReset (link : LinkId) (why : LinkEnd) (s : State) : Host.Outcome State Fault Refusal :=
  .next (if s.alive ∧ s.hasLink link then s.linkLost link why else s)

/-- A BAR4 size from the Resizable BAR capability, 1 GiB to 1 TiB; the base loses the bits below it (spec/02 Tables 2-1,
2-5). -/
def HostLink.resizeBar4 (h : HostLink) (n : Nat) : HostLink :=
  if n ≤ 10 then { h with bar4Log2 := n, bar4Base := h.bar4Base / 2 ^ n * 2 ^ n } else h

/-- A configuration request's effect on the endpoint (spec/02 R31, R32, R54). -/
def State.configure (s : State) (l : LinkId) : CfgReq → State
  | .read => s
  | .readSerial => s
  | .setBme on => (s.setLink l { s.link l with bme := on }).msixFlush l
  | .setD0 => s.setLink l { s.link l with d3hot := false }
  | .setD3hot => s.linkLost l .d3hot
  | .setMsix e m => (s.setLink l { s.link l with msixEnable := e, msixMask := m }).msixFlush l
  | .setBar4Size n => s.setLink l ((s.link l).resizeBar4 n)

/-- What answers a configuration request that is not told to retry: a Device Serial Number read carries SERIAL of the variant
record (spec/02 R30, spec/15 R376). -/
def State.cfgReply (s : State) (l : LinkId) : CfgReq → Output
  | .readSerial => .serial l s.flash.serial
  | _ => .cfg l false

/-- A configuration request: Request Retry Status before the image-verified milestone, and its effect afterwards (spec/02
R33). -/
def execConfigRequest (link : LinkId) (req : CfgReq) (s : State) : Host.Outcome State Fault Refusal :=
  .next (if !(s.alive && s.hasLink link && (s.link link).up) then s
    else if !s.boot.imageVerified then s.send (.cfg link true)
    else (s.configure link req).send (s.cfgReply link req))

end Sys2Proof.Machine
end

