-- ==== Sys2Proof/Machine/ImageRead.lean ====
section
/-! DEFINITION. The Ibdex image as it lies in flash (spec/14 R362-R365, Tables 14-2 to 14-6): its header, its directory, its
sections, and the settings that an applied image gives. -/

namespace Sys2Proof.Machine

/-! ### Reading the flash (R362, Table 14-2) -/

/-- `n` bytes from address `a` of cells that all lie at `a` or above. -/
def readRun : Nat → Nat → Cells → List Byte
  | 0, _, _ => []
  | n + 1, a, c => match c with
    | [] => 0 :: readRun n (a + 1) []
    | (i, v) :: t => if i = a then v :: readRun n (a + 1) t else 0 :: readRun n (a + 1) c

/-- `n` bytes of the flash from offset `a`. -/
def Flash.read (f : Flash) (a n : Nat) : List Byte := readRun n a (f.cells.dropWhile (fun p => decide (p.1 < a)))

/-- Bytes put into the flash from offset `a`. -/
def Flash.write (f : Flash) (a : Nat) (bs : List Byte) : Flash :=
  { f with cells := (bs.zipIdx).foldl (fun c p => cellSet c (a + p.2) p.1) f.cells }

/-- Offset of a firmware slot and of an image slot: 0 A, 1 B (Table 14-2). -/
def fwBase (slot : Nat) : Nat := if slot = 0 then 0x00100000 else 0x01100000
def imgBase (slot : Nat) : Nat := if slot = 0 then 0x02100000 else 0x03900000

/-- The cruise library's offset and size (Table 14-2). -/
def libBase : Nat := 0x05100000
def libSize : Nat := 96 * 2 ^ 20

/-- Fields of a slot's header (Table 14-3; spec/15 R379): MAGIC, FORMAT, LENGTH and GENERATION lie alike in an image and a firmware
slot. -/
def Flash.magic (f : Flash) (base : Nat) : Nat := leNat (f.read base 4)
def Flash.format (f : Flash) (base : Nat) : Nat := leNat (f.read (base + 4) 2)
def Flash.length (f : Flash) (base : Nat) : Nat := leNat (f.read (base + 8) 4)
def Flash.generation (f : Flash) (base : Nat) : Nat := leNat (f.read (base + 12) 4)

/-- The slot tried first: the higher GENERATION, A on a tie (R361). -/
def Flash.firstOf (f : Flash) (base : Nat → Nat) : Nat := if f.generation (base 0) < f.generation (base 1) then 1 else 0

/-! ### The directory (R363, R364) -/

/-- A directory entry (Table 14-3). -/
structure DirEntry where
  type : Nat
  resv : Nat
  off : Nat
  bytes : Nat
  count : Nat
  deriving DecidableEq, Repr

/-- Bytes cut into entries of a size. -/
def entriesOf (size : Nat) : Nat → List Byte → List (List Byte)
  | 0, _ => []
  | n + 1, bs => bs.take size :: entriesOf size n (bs.drop size)

/-- The directory of the image at `base`. -/
def Flash.directory (f : Flash) (base : Nat) : List DirEntry :=
  let n := leNat (f.read (base + 6) 2)
  (entriesOf 16 n (f.read (base + 128) (16 * n))).map (fun b => ⟨fld b 0 2, fld b 2 2, fld b 4 4, fld b 8 4, fld b 12 4⟩)

/-- What Table 14-4 asks of a section type: entry size, least and greatest COUNT, and whether it is required; `none` for a type
that the table does not have. -/
def sectionShape (v : Variant) : Nat → Option (Nat × Nat × Nat × Bool)
  | 1 => some (64, 64, 64, true)
  | 2 => some (16, 1, 256, true)
  | 3 => some (8, 2048, 2048, true)
  | 4 => some (8, 66 * v.landDies, 66 * v.landDies, true)
  | 5 => some (8, 512, 512, false)
  | 6 => some (16, 0, 8192, false)
  | 7 => some (8, 4, 4, false)
  | 8 => some (8, 14 + v.ports, 14 + v.ports, true)
  | 9 => some (4, 65537, 65537, false)
  | 10 => some (64, 1, 1, true)
  | 11 => some (576, 1, 1, false)
  | _ => none

/-- The size of an entry of a type. -/
def sectionSize (v : Variant) (t : Nat) : Nat := ((sectionShape v t).getD (0, 0, 0, false)).1

/-- A directory entry breaks R364, or its section lies wrong (Table 14-7, code 0x07). -/
def DirEntry.bad (v : Variant) (length : Nat) (e : DirEntry) : Bool :=
  match sectionShape v e.type with
  | none => true
  | some (size, lo, hi, _) => decide (e.count < lo) || decide (hi < e.count) || decide (e.bytes ≠ e.count * size) ||
      decide (e.off % 64 ≠ 0) || decide (length < e.off + e.bytes)

/-- Two sections of one type, or two that overlap. -/
def DirEntry.clash (a b : DirEntry) : Bool :=
  decide (a.type = b.type) || (decide (a.off < b.off + b.bytes) && decide (b.off < a.off + a.bytes))

def clashes : List DirEntry → Bool
  | [] => false
  | e :: es => es.any e.clash || clashes es

/-- The directory check of Table 14-7. -/
def directoryBad (v : Variant) (length : Nat) (d : List DirEntry) : Bool :=
  d.any (DirEntry.bad v length) || clashes d ||
    [1, 2, 3, 4, 8, 10].any (fun t => !d.any (fun e => decide (e.type = t)))

/-! ### The sections -/

/-- An image's sections by TYPE, each cut into its entries; a section that is absent lists none. -/
abbrev Sections := Tab (List (List Byte))

def Sections.of (x : Sections) (t : Nat) : List (List Byte) := x.get [] t

/-- Entry `k` of a section, empty where there is none; a field of an empty entry reads zero. -/
def Sections.entry (x : Sections) (t k : Nat) : List Byte := ((x.of t)[k]?).getD []

def Flash.sections (f : Flash) (v : Variant) (base : Nat) : Sections :=
  (f.directory base).foldl (fun t e => t.set e.type (entriesOf (sectionSize v e.type) e.count (f.read (base + e.off) e.bytes))) []

/-! ### Settings from entries -/

/-- A table of the settings that differ from the unused one. -/
def tabOf {α : Type} [DecidableEq α] (d : α) (xs : List α) : Tab α :=
  (xs.zipIdx.filter (fun p => decide (p.1 ≠ d))).map (fun p => (p.2, p.1))

/-- Cluster indices named by CLUSTER_MAP (R365). -/
def clusterList (m : Nat) : List Nat := (List.range 64).filter (bit m)

/-- A STANDS entry (Table 14-5); `seed` is its LATE_SEED_US where SEEDS is present. -/
def standCfgOf (b : List Byte) (seed : Option Nat) : StandCfg :=
  let b0 := fld b 0 1
  { enabled := bit b0 0, h0 := bit b0 1, h1 := bit b0 2, contexts := BitVec.ofNat 16 (fld b 2 2)
    clusters := clusterList (fld b 8 8), deckMib := fld b 16 2, blazeK := bits (fld b 18 1) 6 0
    replayMax := bits (fld b 19 1) 3 0, commitWaitMs := fld b 20 2, budgetGib := fld b 22 2
    act := bits (fld b 24 1) 3 0, spill := bits (fld b 24 1) 7 4, spillValid := bit (fld b 25 1) 0
    govTest := bit (fld b 25 1) 1, lateMaxUs := fld b 26 2, lateMinUs := fld b 28 2, lateMarginUs := fld b 30 2
    reduceStageMib := fld b 32 2, carryMib := fld b 34 2, lateSeedUs := seed.getD (fld b 26 2) }

/-- A REGIONS entry (spec/07 Table 7-9). -/
def regionOf (b : List Byte) : Region :=
  let w := fld b 0 8
  { valid := bit w 0, sharedRo := bit w 1, hostWr := bit w 2, trainable := bit w 3, granLog2 := bits w 8 4, rot := bits w 11 9
    group := bits w 19 12, owner := bits w 25 20, base := 512 * bits w 62 32, size := 512 * bits (fld b 8 8) 30 0 }

/-- A REGION_TABLES entry (spec/07 Table 7-10). -/
def sregOf (b : List Byte) : SReg :=
  let w := fld b 0 8
  { region := bits w 7 0, valid := bit w 8, write := bit w 9, remote := bit w 10, contexts := BitVec.ofNat 16 (bits w 31 16) }

/-- A FLUME entry (spec/07 Table 7-12). -/
def gateCfgOf (b : List Byte) : GateCfg :=
  let w := fld b 0 8
  { rate := bits w 11 0, floor := bits w 23 12, burstMax := bits w 36 24, seed := bits w 49 37, enabled := bit w 50 }

/-- LND_TGRP (spec/08 Table 8-10). -/
def tgroupOf (b : List Byte) : TGroup :=
  { p := fld b 0 1, ps := fld b 1 1, m1 := fld b 2 1, m1s := fld b 3 1, m2 := fld b 4 1, m2s := fld b 5 1, g := fld b 6 1 }

/-- LND_TWIN (spec/08 Table 8-11). -/
def twinOfEntry (b : List Byte) : Twin :=
  let w := fld b 0 8
  { twin := bits w 7 0, valid := bit w 8, width := bits w 10 9, block := bits w 12 11, isScale := bit w 13 }

/-- A signed byte. -/
def sbyte (n : Nat) : Int := if n < 128 then (n : Int) else (n : Int) - 256

/-- LND_UDEF (spec/08 Table 8-13). -/
def udefOf (b : List Byte) : UDef :=
  let w := fld b 0 8
  let x := fld b 8 8
  { tgrp := bits w 7 0, isDefined := bit w 8, owner := bits w 14 9, tag := BitVec.ofNat 16 (bits w 31 16)
    first4k := bits x 27 0, count4k := bits x 55 28, seedU := sbyte (bits x 63 56) }

/-- A recipe (spec/03 R69). -/
def recipeOf (b : List Byte) : Recipe := ⟨fld b 1 1, fld b 2 1, fld b 3 1⟩

/-- CSK_PORT_CFG (spec/10 Table 10-12). -/
def portCfgOf (b : List Byte) : PortCfg :=
  let w := fld b 0 8
  { enabled := bit w 0, iface := bits w 2 1, checkPeer := bit w 3, bond := bits w 7 4
    peerDevice := BitVec.ofNat 16 (bits w 31 16), peerPort := bits w 37 32 }

/-- CSK_BOND's image fields (spec/10 Table 10-15). -/
def bondCfgOf (b : List Byte) : BondCfg :=
  let w := fld b 0 8
  { ports := bits w 2 0, firstPort := bits w 20 16 }

/-- A routing table entry (spec/10 R268). -/
def routeOf (b : List Byte) : Route :=
  let w := fld b 0 4
  { valid := bit w 0, egress := bits w 6 1, altValid := bit w 7, alt := bits w 13 8 }

/-- THERM_SEED of a zone (Table 14-6, spec/16 R405). -/
def Sections.thermSeed (x : Sections) (z : Nat) : W64 := BitVec.ofNat 64 (fld (x.entry 11 0) (512 + 8 * z) 8)

/-- LATE_SEED_US of a stand, where the image has a SEEDS section (Table 14-6). -/
def Sections.lateSeed (x : Sections) (st : Nat) : Option Nat := ((x.of 11)[0]?).map (fun b => fld b (8 * st) 2)

def Sections.standCfg (x : Sections) (st : Nat) : StandCfg := standCfgOf (x.entry 1 st) (x.lateSeed st)
def Sections.region (x : Sections) (r : Nat) : Region := regionOf (x.entry 2 r)
def Sections.sreg (x : Sections) (k : Nat) : SReg := sregOf (x.entry 3 k)
def Sections.gate (x : Sections) (k : Nat) : GateCfg := gateCfgOf (x.entry 4 k)
/-- LND_TGRP; a section that is absent gives no trainable groups. -/
def Sections.tgroup (x : Sections) (t : Nat) : TGroup := if (x.of 5).isEmpty then TGroup.unused else tgroupOf (x.entry 5 t)
def Sections.twin (x : Sections) (r : Nat) : Twin := twinOfEntry (x.entry 5 (256 + r))
def Sections.udef (x : Sections) (k : Nat) : UDef := udefOf (x.entry 6 k)
def Sections.recipe (x : Sections) (kind : Nat) : Recipe := recipeOf (x.entry 7 (kind - 1))
def Sections.portCfg (x : Sections) (p : Nat) : PortCfg := portCfgOf (x.entry 8 (2 + p))
def Sections.bondCfg (x : Sections) (v : Variant) (b : Nat) : BondCfg := bondCfgOf (x.entry 8 (2 + v.ports + b))
/-- CSK_DEVICE and CSK_TIME of the FABRIC section. -/
def Sections.device (x : Sections) : Nat := fld (x.entry 8 0) 0 8
def Sections.timeReg (x : Sections) : Nat := fld (x.entry 8 1) 0 8
/-- GLB_RST_CFG, LKO_CFG, MAT_SCALER_CFG and POWER_LIMIT_W of the SAFETY section (Table 14-6). -/
def Sections.rstCfg (x : Sections) : Nat := fld (x.entry 10 0) 0 8
def Sections.lkoCfg (x : Sections) : Nat := fld (x.entry 10 0) 8 8
def Sections.scalerCfg (x : Sections) : Nat := fld (x.entry 10 0) 16 8
def Sections.powerLimit (x : Sections) : Nat := fld (x.entry 10 0) 24 4

/-- What the image sets (Tables 14-4 to 14-6). -/
def Sections.config (x : Sections) (v : Variant) : ImageCfg :=
  let d := x.device
  let lko := x.lkoCfg
  { stands := tabOf StandCfg.unused ((List.range 64).map (fun st =>
      if bit (fld (x.entry 1 st) 0 1) 0 then x.standCfg st else StandCfg.unused))
    regions := (tabOf Region.undefined ((x.of 2).map regionOf)).filter (fun p => p.2.valid)
    sregs := tabOf SReg.unused ((x.of 3).map sregOf)
    gates := tabOf GateCfg.unused ((x.of 4).map gateCfgOf)
    tgroups := tabOf TGroup.unused (((x.of 5).take 256).map tgroupOf)
    twins := tabOf Twin.unused (((x.of 5).drop 256).map twinOfEntry)
    udefs := (tabOf UDef.undefined ((x.of 6).map udefOf)).filter (fun p => p.2.isDefined)
    recipes := (x.of 7).zipIdx.map (fun p => (p.2 + 1, recipeOf p.1))
    deviceId := BitVec.ofNat 16 (bits d 15 0), timeRoot := bit d 16, txnTimeoutMs := bits d 47 32
    wColl := bits d 51 48, wBulk := bits d 55 52, parentPort := bits x.timeReg 5 1
    ports := tabOf PortCfg.unused ((List.range v.ports).map x.portCfg)
    bonds := tabOf BondCfg.unused ((List.range 12).map (x.bondCfg v))
    routeVersion := BitVec.ofNat 32 (fld (x.entry 9 0) 0 4)
    routes := (tabOf Route.none (((x.of 9).drop 1).map routeOf)).filter (fun p => p.2.valid)
    waitLimitMs := bits x.rstCfg 15 0, sample := bit x.rstCfg 16, spareRequest := bit x.rstCfg 17
    hbPeriodUs := bits lko 15 0, deadMs := bits lko 31 16, saplingSteps := bits lko 39 32, jitterSeedUs := bits lko 55 40
    checkInterval := bits x.scalerCfg 4 0, thrProfile := bits x.scalerCfg 15 8, powerLimitW := x.powerLimit
    thermSeed := tabOf 0 ((List.range v.zones).map x.thermSeed) }

end Sys2Proof.Machine
end

