-- ==== Sys2Proof/Machine/ImageCheck.lean ====
section
/-! DEFINITION. The checks an image slot must pass (spec/14 R366, R367, Table 14-7): first those of every field's range, then
those of the rules, each in section-type order. -/

namespace Sys2Proof.Machine

/-- The first entry of a section that fails. -/
def firstEntry (t n : Nat) (bad : Nat → Bool) : Option (Nat × Nat) := ((List.range n).find? bad).map (fun k => (t, k))

/-- A number outside a closed range. -/
def outside (n lo hi : Nat) : Bool := decide (n < lo) || decide (hi < n)

/-! ### FIELD: ranges and reserved fields -/

/-- STANDS (Table 14-5; ranges of spec/12 Table 12-16 and spec/09 R228). -/
def standField (x : Sections) (k : Nat) : Bool :=
  let b := x.entry 1 k
  let c := x.standCfg k
  decide (bits (fld b 0 1) 7 3 ≠ 0) || !isZeroRange b 1 1 || !isZeroRange b 4 4 || bit (fld b 18 1) 7 ||
    decide (bits (fld b 19 1) 7 4 ≠ 0) || decide (bits (fld b 25 1) 7 2 ≠ 0) || !isZeroRange b 36 28 ||
    (c.enabled && (outside c.blazeK 1 64 || outside c.commitWaitMs 1 60000 || outside c.lateMaxUs 1 65535 ||
      outside c.lateMinUs 1 65535 || outside c.lateMarginUs 1 65535))

/-- REGIONS (spec/07 R168, Table 7-9). -/
def regionField (v : Variant) (x : Sections) (k : Nat) : Bool :=
  let b := x.entry 2 k
  let w := fld b 0 8
  let r := regionOf b
  decide (bits w 31 26 ≠ 0) || bit w 63 || decide (bits (fld b 8 8) 63 31 ≠ 0) ||
    (r.valid && (outside r.granLog2 9 24 || decide (v.landDies ≤ r.rot)))

/-- REGION_TABLES (spec/07 Table 7-10). -/
def sregField (x : Sections) (k : Nat) : Bool :=
  let w := fld (x.entry 3 k) 0 8
  decide (bits w 15 11 ≠ 0) || decide (bits w 63 32 ≠ 0)

/-- FLUME (spec/07 Table 7-12). -/
def gateField (x : Sections) (k : Nat) : Bool :=
  let g := x.gate k
  decide (bits (fld (x.entry 4 k) 0 8) 63 51 ≠ 0) || (g.enabled && outside g.burstMax 1 4096)

/-- TRAINABLE (spec/08 Tables 8-10, 8-11). -/
def trainField (x : Sections) (k : Nat) : Bool :=
  let w := fld (x.entry 5 k) 0 8
  if k < 256 then decide (bits w 63 56 ≠ 0) else decide (bits w 63 14 ≠ 0) || decide (bits w 10 9 = 3)

/-- UPDATE_GROUPS (spec/08 Table 8-13; the range of u is that of spec/03 R83). -/
def udefField (x : Sections) (k : Nat) : Bool :=
  let w := fld (x.entry 6 k) 0 8
  let u := (x.udef k).seedU
  bit w 15 || decide (bits w 63 32 ≠ 0) || decide (u < -126) || decide (126 < u)

/-- RECIPES (spec/03 R69): KIND and the zero bytes. -/
def recipeField (x : Sections) (k : Nat) : Bool :=
  let b := x.entry 7 k
  decide (fld b 0 1 ≠ k + 1) || !isZeroRange b 4 4

/-- FABRIC (spec/10 Tables 10-9, 10-10, 10-12, 10-15). -/
def fabricField (v : Variant) (x : Sections) (k : Nat) : Bool :=
  let w := fld (x.entry 8 k) 0 8
  if k = 0 then decide (bits w 31 17 ≠ 0) || decide (bits w 63 56 ≠ 0) || outside (bits w 47 32) 1 60000
  else if k = 1 then bit w 0 || decide (bits w 63 6 ≠ 0)
  else if k < 2 + v.ports then
    let c := portCfgOf (x.entry 8 k)
    decide (bits w 15 8 ≠ 0) || decide (bits w 63 38 ≠ 0) ||
      (c.enabled && (outside c.iface 1 2 || (decide (11 < c.bond) && decide (c.bond ≠ 15))))
  else decide (bits w 15 3 ≠ 0) || decide (bits w 63 21 ≠ 0) || !([0, 2, 4].contains (bits w 2 0))

/-- An egress code names a port or a bond (spec/10 R268). -/
def egressCode (e : Nat) : Bool := decide (e < 28) || (decide (32 ≤ e) && decide (e < 44))

/-- ROUTES (spec/10 R268). -/
def routeField (x : Sections) (k : Nat) : Bool :=
  let r := routeOf (x.entry 9 k)
  decide (0 < k) && (decide (bits (fld (x.entry 9 k) 0 4) 31 14 ≠ 0) || (r.valid && !egressCode r.egress) ||
    (r.valid && r.altValid && !egressCode r.alt))

/-- SAFETY (Table 14-6; ranges of spec/13 Table 13-6, spec/12 Table 12-20, spec/04 Table 4-11). -/
def safetyField (v : Variant) (x : Sections) : Bool :=
  let b := x.entry 10 0
  decide (bits x.rstCfg 63 18 ≠ 0) || outside (bits x.rstCfg 15 0) 1 60000 ||
    decide (bits x.lkoCfg 63 56 ≠ 0) || outside (bits x.lkoCfg 15 0) 100 10000 || outside (bits x.lkoCfg 31 16) 10 60000 ||
    outside (bits x.lkoCfg 39 32) 1 255 ||
    decide (bits x.scalerCfg 7 5 ≠ 0) || decide (bits x.scalerCfg 63 17 ≠ 0) || !bit x.scalerCfg 16 ||
    outside (bits x.scalerCfg 4 0) 1 16 || outside x.powerLimit 1000 v.maxWatts || !isZeroRange b 28 36

/-- SEEDS (Table 14-6, spec/09 R228). -/
def seedsField (x : Sections) : Bool :=
  let b := x.entry 11 0
  (List.range 64).any (fun st => !isZeroRange b (8 * st + 2) 6 ||
      ((x.standCfg st).enabled && outside (fld b (8 * st) 2) 1 65535)) ||
    (List.range 8).any (fun z => !isZeroRange b (514 + 8 * z) 6)

/-- The first field outside its range: its section's TYPE and its entry; reserved bytes of the header and the directory lie in
no section. -/
def fieldFail (v : Variant) (header : List Byte) (d : List DirEntry) (x : Sections) : Option (Nat × Nat) :=
  if !isZeroRange header 28 4 || !isZeroRange header 96 32 || d.any (fun e => decide (e.resv ≠ 0)) then some (0, 0)
  else
    let n (t : Nat) : Nat := (x.of t).length
    [firstEntry 1 (n 1) (standField x), firstEntry 2 (n 2) (regionField v x), firstEntry 3 (n 3) (sregField x),
     firstEntry 4 (n 4) (gateField x), firstEntry 5 (n 5) (trainField x), firstEntry 6 (n 6) (udefField x),
     firstEntry 7 (n 7) (recipeField x), firstEntry 8 (n 8) (fabricField v x), firstEntry 9 (n 9) (routeField x),
     firstEntry 10 (n 10) (fun _ => safetyField v x), firstEntry 11 (n 11) (fun _ => seedsField x)].findSome? id

/-! ### RULE: R367 and the rules that it names -/

/-- STANDS: the clauses of R367 on stands, and spec/12 R308. -/
def standRule (v : Variant) (x : Sections) (k : Nat) : Bool :=
  let c := x.standCfg k
  let before := ((List.range k).map x.standCfg).filter (·.enabled)
  if !c.enabled then !(x.entry 1 k).all (· == 0)
  else c.clusters.isEmpty || decide (c.contexts = 0) || (decide (v = .e) && c.h1) ||
    c.clusters.any (fun i => decide (v.computeDies ≤ i / 4)) || decide (c.lateMaxUs < c.lateMinUs) ||
    before.any (fun o => o.clusters.any c.clusters.contains) ||
    decide (16384 < c.deckMib + (before.map (·.deckMib)).sum)

/-- Visible bytes of a landing die (spec/07 Table 7-2). -/
def dieVisible (v : Variant) (l : Nat) : Nat :=
  match v with
  | .f => 122880 * 2 ^ 20
  | .e => if l < 4 then 120149 * 2 ^ 20 else 120150 * 2 ^ 20

/-- REGIONS: spec/07 R168, R170. -/
def regionRule (v : Variant) (x : Sections) (k : Nat) : Bool :=
  let r := x.region k
  let before := ((List.range k).map x.region).filter (·.valid)
  r.valid && (
    before.any (fun o => decide (o.base < r.base + r.size) && decide (r.base < o.base + o.size)) ||
    decide (v.visibleBytes < r.base + r.size) ||
    (List.range v.landDies).any (fun l => decide (dieVisible v l <
      ((before ++ [r]).map (fun o => o.granulesOn l v.landDies * 2 ^ o.granLog2)).sum)) ||
    before.any (fun o => o.trainable && r.trainable && decide (o.group = r.group) &&
      (decide (o.rot ≠ r.rot) || decide (o.granules ≠ r.granules))))

/-- A region is some region's twin (spec/08 R191). -/
def Sections.isTwin (x : Sections) (r : Nat) : Bool :=
  (List.range 256).any (fun q => (x.twin q).valid && decide ((x.twin q).twin = r))

/-- REGION_TABLES: spec/07 R171, spec/08 R191. -/
def sregRule (x : Sections) (k : Nat) : Bool :=
  let e := x.sreg k
  let r := x.region e.region
  e.valid && ((r.valid && r.sharedRo && e.write) || (r.valid && !r.sharedRo && decide (r.owner ≠ k / 32)) ||
    x.isTwin e.region || (e.write && (x.twin e.region).valid))

/-- FLUME: the FLOORs of a die (spec/07 R181), at the gate where their sum passes 3,072 GB/s. -/
def gateRule (x : Sections) (k : Nat) : Bool :=
  decide (3072 < ((List.range (k % 66 + 1)).map (fun g => (x.gate (k - k % 66 + g)).floor)).sum)

/-- The roles of a trainable group that name a region: data roles, scale roles, both versioned, and G (spec/08 Table 8-1). -/
def TGroup.dataRoles (g : TGroup) : List Nat := [g.p, g.m1, g.m2].filter (· ≠ 255)
def TGroup.scaleRoles (g : TGroup) : List Nat := [g.ps, g.m1s, g.m2s].filter (· ≠ 255)
def TGroup.gRole (g : TGroup) : List Nat := [g.g].filter (· ≠ 255)

/-- A versioned role region lacks its twin (spec/08 R191). -/
def Sections.lacksTwin (x : Sections) (r : Nat) : Bool :=
  let a := x.region r
  let b := x.region (x.twin r).twin
  !(x.twin r).valid || !b.valid || decide (a.size ≠ b.size) || decide (a.granLog2 ≠ b.granLog2) ||
    !b.trainable || decide (a.group ≠ b.group)

/-- Elements per granule of a data region (spec/08 R193). -/
def Sections.perGranule (x : Sections) (r : Nat) : Nat := 2 ^ (x.region r).granLog2 / (x.twin r).widthBytes

/-- TRAINABLE: spec/08 R191, R193. -/
def trainRule (x : Sections) (k : Nat) : Bool :=
  let g := x.tgroup k
  let roles := g.dataRoles ++ g.gRole
  let all := (List.range 256).filter (fun r => (x.region r).valid && (x.region r).trainable && decide ((x.region r).group = k))
  let data := roles ++ all.filter (fun r => !(x.twin r).isScale)
  let scales := g.scaleRoles ++ all.filter (fun r => (x.twin r).isScale)
  let n := (data.head?).map x.perGranule
  decide (k < 256) && ((g.dataRoles ++ g.scaleRoles).any x.lacksTwin || roles.any (fun r => (x.twin r).isScale) ||
    data.any (fun r => decide (some (x.perGranule r) ≠ n)) || g.scaleRoles.any (fun r => !(x.twin r).isScale) ||
    scales.any (fun r => n.any (fun m => decide (2 ^ (x.region r).granLog2 ≠ m / (x.twin r).blockSize))) ||
    g.gRole.any (fun r => decide ((x.twin r).widthBytes ≠ 4)))

/-- UPDATE_GROUPS: spec/08 R192. -/
def udefRule (x : Sections) (k : Nat) : Bool :=
  let u := x.udef k
  let g := x.tgroup u.tgrp
  let past := 4096 * (u.first4k + u.count4k)
  u.isDefined && (
    ((List.range k).map x.udef).any (fun o => o.isDefined && decide (o.tgrp = u.tgrp) &&
      decide (o.first4k < u.first4k + u.count4k) && decide (u.first4k < o.first4k + o.count4k)) ||
    (g.dataRoles ++ g.gRole).any (fun r => decide ((x.region r).size < past * (x.twin r).widthBytes)) ||
    g.scaleRoles.any (fun r => decide ((x.region r).size < past / (x.twin r).blockSize)))

/-- RECIPES: spec/03 R69. -/
def recipeRule (x : Sections) (k : Nat) : Bool :=
  let r := x.recipe (k + 1)
  decide (3 < r.rule) || decide (7 < r.h)

/-- FABRIC: the clauses of R367 on ports, bonds and time. -/
def fabricRule (v : Variant) (x : Sections) (k : Nat) : Bool :=
  if k = 1 then
    let p := bits x.timeReg 5 1
    decide (p ≠ 31) && (bit x.device 16 || !(x.portCfg p).enabled || decide (v.ports ≤ p))
  else if k < 2 + v.ports then false
  else
    let b := k - 2 - v.ports
    let c := x.bondCfg v b
    let ps := (List.range c.ports).map (c.firstPort + ·)
    (decide (c.ports ≠ 0) && decide (c.firstPort / 7 ≠ b / 3)) ||
    ps.any (fun p => decide (v.ports ≤ p) || decide (p / 7 ≠ c.firstPort / 7) || decide ((x.portCfg p).bond ≠ b) ||
      decide ((x.portCfg p).peerDevice ≠ (x.portCfg c.firstPort).peerDevice))

/-- An egress code names an enabled port or a bond in use. -/
def Sections.egressUsed (x : Sections) (v : Variant) (e : Nat) : Bool :=
  if e < 32 then decide (e < v.ports) && (x.portCfg e).enabled else decide ((x.bondCfg v (e - 32)).ports ≠ 0)

/-- ROUTES: the clause of R367 on routes. -/
def routeRule (v : Variant) (x : Sections) (k : Nat) : Bool :=
  let r := routeOf (x.entry 9 k)
  decide (0 < k) && r.valid && (!x.egressUsed v r.egress || (r.altValid && !x.egressUsed v r.alt))

/-- The first rule broken: its section's TYPE and its entry. -/
def ruleFail (v : Variant) (x : Sections) : Option (Nat × Nat) :=
  let n (t : Nat) : Nat := (x.of t).length
  [firstEntry 1 (n 1) (standRule v x), firstEntry 2 (n 2) (regionRule v x), firstEntry 3 (n 3) (sregRule x),
   firstEntry 4 (n 4) (gateRule x), firstEntry 5 (n 5) (trainRule x), firstEntry 6 (n 6) (udefRule x),
   firstEntry 7 (n 7) (recipeRule x), firstEntry 8 (n 8) (fabricRule v x), firstEntry 9 (n 9) (routeRule v x),
   firstEntry 10 (n 10) (fun _ => decide (1 < bits x.scalerCfg 15 8))].findSome? id

/-! ### Signatures and certificate chains (spec/15 R377, R378) -/

/-- A chain, leaf first, is accepted for a use on the module of a serial number. -/
def chainOk (root : List Byte) (serial : W64) (use : KeyPurpose) (cs : List CertRead) : Bool :=
  cs.all (·.der) && cs.dropLast.all (·.byNext) && (cs.getLast?.map (·.keyDigest)) = some root &&
    (match cs.head? with
     | some c => decide (c.purpose = some use) &&
         (decide (use ≠ .image) || (match c.serials with | some l => l.contains serial | none => true))
     | none => false)

/-- The trailer at the 4 KiB boundary after signed bytes has the form of Table 15-1 and holds `n` certificates. -/
def Flash.trailerOk (f : Flash) (base len n : Nat) : Bool :=
  let t := f.read (base + roundUp len 4096) 64
  decide (fld t 0 4 = 0x52545a57) && decide (fld t 4 2 = 1) && decide (fld t 6 2 = n) && decide (2 ≤ n) && decide (n ≤ 4) &&
    decide (fld t 8 4 ≤ 64960) && isZeroRange t 12 52

/-- What lies at a flash offset is signed for a use. -/
def State.signedFor (s : State) (base : Nat) (use : KeyPurpose) (x : SigRead) : Bool :=
  x.signed && s.flash.trailerOk base (s.flash.length base) x.certs.length &&
    chainOk s.warden.rootDigest s.flash.serial use x.certs

/-! ### A slot verified -/

/-- The code of Table 14-7 that a slot's verification gives, with the section and the entry of a FIELD or RULE failure.  `read`
says that the flash reads without error, and `sig` that the signature and its chain verify. -/
def Flash.verifyImage (f : Flash) (v : Variant) (slot : Nat) (read sig : Bool) : Nat × Nat × Nat :=
  let base := imgBase slot
  let header := f.read base 128
  let len := f.length base
  let d := f.directory base
  if !read then (1, 0, 0)
  else if f.magic base ≠ 0x49584249 then (2, 0, 0)
  else if f.format base ≠ 1 ∨ 24 * 2 ^ 20 - 65536 < len then (3, 0, 0)
  else if !sig then (4, 0, 0)
  else if fld header 24 2 ≠ (match v with | .f => 0x0320 | .e => 0x0321) ∨ (header.drop 32).take 64 ≠ sha512 f.variantRec then
    (5, 0, 0)
  else if fld header 16 8 ≠ 0 ∧ fld header 16 8 ≠ f.serial.toNat then (6, 0, 0)
  else if directoryBad v len d then (7, 0, 0)
  else
    let x := f.sections v base
    match fieldFail v header d x, ruleFail v x with
    | some (t, k), _ => (8, t, k)
    | none, some (t, k) => (9, t, k)
    | none, none => (0, 0, 0)

end Sys2Proof.Machine
end

