-- ==== Sys2Proof/Machine/Landing.lean ====
section
/-! DEFINITION. The landing engines' commands (spec/08): OPTIM, ACCUM, SWEEP and DIGEST, their checks and their work. -/

namespace Sys2Proof.Machine

/-! ### Layout of a role (spec/08 R193, spec/06 R135) -/

/-- The offset in a scale region of the scale byte of element `e` of a trainable group. -/
def roleScaleOff (b e : Nat) : Nat :=
  let n := e / 4096
  if b = 128 then 32 * (n / 2 * 2) + e % 4096 / 64
  else n * (4096 / b) + e % 4096 / 64 * (64 / b) + e % 64 / b

/-- The elements of each scaled block among `n` elements from `first`, in order. -/
def roleBlocks (b first n : Nat) : List (List Nat) :=
  if b = 128 then
    (List.range (n / 8192)).flatMap fun p => (List.range 64).map fun r =>
      ((List.range 64).map fun c => first + 8192 * p + 64 * r + c) ++
        ((List.range 64).map fun c => first + 8192 * p + 4096 + 64 * r + c)
  else (List.range (n / b)).map fun i => (List.range b).map fun c => first + b * i + c

/-- A role as a command reads it: its data region, its scale region where it has one, and its format word. -/
structure RoleRd where
  data : Nat
  scale : Option Nat
  fmt : FmtWord
  deriving DecidableEq, Repr

def FmtWord.bytes (f : FmtWord) : Nat := f.elemBits / 8

/-- The words that hold element `e` and its scale byte. -/
def State.roleWords (s : State) (x : RoleRd) (e : Nat) : List Nat :=
  (s.regionKey x.data (e * x.fmt.bytes) / 16) ::
    (match x.scale with
     | some r => [s.regionKey r (roleScaleOff x.fmt.block e) / 16]
     | none => [])

/-- Element `e` of a role as a binary32 consumer takes it, and whether FMT_DECODE_OVERFLOW counts (spec/03 R57). -/
def State.roleVal (s : State) (x : RoleRd) (e : Nat) : Val × Nat :=
  toConsumer32 (decodeElem x.fmt.fmt.flt
    (x.scale.map (fun r => (s.hbm.read (s.regionKey r (roleScaleOff x.fmt.block e))).toNat))
    (leNat (s.readRegion x.data (e * x.fmt.bytes) x.fmt.bytes)))

/-- What a role's write stores: bytes of the data region and of the scale region by offset, the counts of spec/03, and the
elements written as NaN or infinity. -/
structure RoleWr where
  data : List (Nat × Byte)
  scale : List (Nat × Byte)
  cnt : WrCount
  bad : List Nat
  deriving DecidableEq, Repr

/-- A result of a landing engine as it is written: the primary lane's where its re-execution disagreed again (R189, spec/05 R128). -/
def Cmd.landVal (c : Cmd) (p : LanePlace) (v : Val) : Val :=
  match c.laneFaults.find? (fun f => decide (f.place = p)) with
  | some f => val32 (f.code.setWidth 32)
  | none => v

/-- A role's values written under its format word, `first` being the group's first element (spec/08 R201). -/
def roleWrite (f : FmtWord) (rc : Recipe) (sr : SrCtx) (first n : Nat) (v : Nat → Val) : RoleWr :=
  if f.scaled then
    (roleBlocks f.block first n).foldl (fun acc es =>
      let (e, cs, k) := writeBlock f.fmt.flt f.sat rc (es.map (fun i => (v i, drawOf f sr (i - first))))
      { data := acc.data ++ (es.zip cs).flatMap (fun p => putCode (p.1 * f.bytes) f.bytes p.2)
        scale := acc.scale ++ [(roleScaleOff f.block (es.headD 0), BitVec.ofNat 8 e)]
        cnt := acc.cnt.add k
        bad := if e = 255 then acc.bad ++ es else acc.bad }) ⟨[], [], WrCount.zero, []⟩
  else
    (List.range n).foldl (fun acc i =>
      let (c, k) := writeElem f.fmt.flt f.sat (drawOf f sr i) (v (first + i))
      { data := acc.data ++ putCode ((first + i) * f.bytes) f.bytes c
        scale := acc.scale
        cnt := acc.cnt.add k
        bad := if (f.fmt.flt.decode c).nonFinite then acc.bad ++ [first + i] else acc.bad }) ⟨[], [], WrCount.zero, []⟩

/-- Every whole word of a region's range takes fresh check symbols, and the bytes are written. -/
def State.putRegion (s : State) (r : Nat) (off n : Nat) (bs : List (Nat × Byte)) : State :=
  let m := (s.regionWords r off n).foldl (fun m w => m.setDiff w (0, 0)) s.hbm
  s.setHbm (bs.foldl (fun m p => m.writeRaw (s.regionKey r p.1) p.2) m)

/-! ### OPTIM (spec/08 R200, R201) -/

/-- The hyperparameters of Table 8-3, as binary32 values. -/
structure OptArgs where
  mode : Nat
  sg : Val
  lr : Val
  lam : Val
  b1 : Val
  ob1 : Val
  b2 : Val
  ob2 : Val
  eps : Val
  c1 : Val
  c2 : Val
  deriving DecidableEq, Repr

def f32At (p : List Byte) (o : Nat) : Val := val32 (BitVec.ofNat 32 (fld p o 4))

def optArgs (p : List Byte) : OptArgs :=
  { mode := bits (fld p 16 1) 1 0, sg := f32At p 32, lr := f32At p 36, lam := f32At p 40, b1 := f32At p 44,
    ob1 := f32At p 48, b2 := f32At p 52, ob2 := f32At p 56, eps := f32At p 60, c1 := f32At p 64, c2 := f32At p 68 }

/-- What OPTIM computes for one element: the exact new weight, the moments, and `2^u * d`. -/
structure OptOut where
  w : Val
  m : Val
  v : Val
  step : Val
  deriving DecidableEq, Repr

def OptOut.zero : OptOut := ⟨Val.zero, Val.zero, Val.zero, Val.zero⟩

/-- One element of OPTIM (R201): binary32 with one rounding for each operation, but for the exact weight difference. -/
def optElem (a : OptArgs) (u : Int) (acc w m1 m2 : Val) : OptOut :=
  let lr2 := a.lr.scale (-u)
  let ld2 := ((mul32 a.lr a.lam).scale (-u)).r32
  let g0 := mul32 acc a.sg
  let g := if a.mode = 1 then fma32 a.lam w g0 else g0
  let m := if a.mode = 2 then fma32 a.b1 m1 g else fma32 a.b1 m1 (mul32 a.ob1 g)
  let v := if a.mode = 2 then m2 else fma32 a.b2 m2 (mul32 a.ob2 (mul32 g g))
  let r := if a.mode = 2 then m
    else mul32 (mul32 m a.c1) (div32 Val.one (add32 (sqrt32 (mul32 v a.c2)) a.eps))
  let d := if a.mode = 1 then mul32 lr2 r else fma32 ld2 w (mul32 lr2 r)
  ⟨w.sub (d.scale u), m, v, d.scale u⟩

/-- The update exponent used: moved toward zero as far as brings `lr * 2^-u` back into binary32's normal range (spec/03
R83).  For a subnormal `lr` no move toward zero does that; DESIGN CHOICE: a positive `u` then goes all the way to 0, which
counts as a clamp, and a negative one stays as it is (log entry 36). -/
def clampU (lr : Val) (u : Int) : Int :=
  match lr with
  | .fin _ m e =>
    if m = 0 then u
    else
      let t : Int := (Nat.log2 m : Int) + e
      if u > 0 ∧ t - u < -126 then max 0 (min u (t + 126))
      else if u < 0 ∧ t - u > 127 then min 0 (max u (t - 127))
      else u
  | _ => u

/-- The magnitude of a finite value as (mantissa, exponent), zero for any other. -/
def finMag : Val → Nat × Int
  | .fin _ m e => (m, e)
  | _ => (0, 0)

/-- Dmax over a list of applied updates (spec/03 R84). -/
def dMax (l : List Val) : Nat × Int := l.foldl (fun m v => magMax (finMag v) m) (0, 0)

/-- The update exponent for the next OPTIM, `u` being the one that this OPTIM used (spec/03 R84).  Where Dmax is zero, `u` is kept
as clamped, not as it was before (DESIGN CHOICE, log entry 36). -/
def nextU (d : Nat × Int) (u : Int) : Int :=
  if d.1 = 0 then u else max (-126) (min 126 ((Nat.log2 d.1 : Int) + d.2))

/-- The roles that a mode computes: (code of data role, format word) (R200). -/
def optRoles (p : List Byte) : List (Nat × FmtWord) :=
  [(0, fmtWordOf (fmtAt p 20)), (2, fmtWordOf (fmtAt p 24))] ++
    (if bits (fld p 16 1) 1 0 = 2 then [] else [(4, fmtWordOf (fmtAt p 28))])

/-- The update group that a landing-engine command names first. -/
def ugrpOf (p : List Byte) : Nat := bits (fld p 18 2) 12 0

/-- A data role as read through one copy. -/
def State.roleRd (s : State) (k : Nat) (twin : Bool) (x : Nat × FmtWord) : RoleRd :=
  let t := s.tgroup (s.udef k).tgrp
  { data := s.copyOf (t.role x.1) twin
    scale := if x.2.scaled then some (s.copyOf (t.role (x.1 + 1)) twin) else none
    fmt := x.2 }

/-- The gradient accumulator. -/
def fmtFp32 : FmtWord := fmtWordOf 0
def State.gRd (s : State) (k : Nat) : RoleRd := ⟨(s.tgroup (s.udef k).tgrp).g, none, fmtFp32⟩

/-- Elements of a group: its first and their count. -/
def State.groupElems (s : State) (k : Nat) : Nat × Nat := (4096 * (s.udef k).first4k, 4096 * (s.udef k).count4k)

/-- The elements whose results rest on an uncorrectable word, whole scaled blocks of the output at a time. -/
def poisonedElems (s : State) (rds : List RoleRd) (first n : Nat) (f : FmtWord) : List Nat :=
  let bad (e : Nat) : Bool := rds.any (fun x => (s.roleWords x e).any s.hbm.bad)
  if s.hbm.diff = [] then []
  else if f.scaled then ((roleBlocks f.block first n).filter (·.any bad)).flatten
  else ((List.range n).map (first + ·)).filter bad

/-- One role of an OPTIM written, its poisoned words last. -/
def State.optWrite (s t : State) (k : Nat) (twin : Bool) (x : Nat × FmtWord) (w : RoleWr) (bad : List Nat) : State :=
  let y := s.roleRd k twin x
  let (first, n) := s.groupElems k
  let t1 := t.putRegion y.data (first * x.2.bytes) (n * x.2.bytes) w.data
  let t2 := match y.scale with
    | some r => t1.putRegion r (first / x.2.block) (n / x.2.block) w.scale
    | none => t1
  t2.poisonWords ((bad.flatMap (s.roleWords y)).dedup)

/-- An earlier reduction of the stand has still to deliver into the group's G role (R24, spec/09 R221). -/
def StandSt.deliveryAhead (x : StandSt) (c : Cmd) (k : Nat) : Bool :=
  x.inflight.any (fun d => decide (d.ticket < c.ticket) && (decide (d.opcode = 0x30) || decide (d.opcode = 0x31)) &&
    !d.ended && bit (fld d.bytes 20 1) 7 && decide (bits (fld d.bytes 22 2) 12 0 = k))

/-- A landing-engine lane fault of the step's Scaler record has its own rows; the statuses that OPTIM finds itself. -/
def optStatuses (nonfinite poison : Nat) : List W16 :=
  (if nonfinite > 0 then [0x0109] else []) ++ (if poison > 0 then [0x010a] else [])

/-- The update exponent that an OPTIM of the group uses (spec/03 R83). -/
def State.optU (s : State) (c : Cmd) (k : Nat) : Int := clampU (optArgs c.bytes).lr (s.ugroup k).u

/-- What OPTIM computes for element `e` of the trainable group from the roles' current copies and the gradient. -/
def State.optOut (s : State) (c : Cmd) (k e : Nat) : OptOut :=
  let a := optArgs c.bytes
  let rds := (optRoles c.bytes).map (s.roleRd k (s.ugroup k).current)
  let val (x : RoleRd) : Val := (s.roleVal x e).1
  let rd (j : Nat) : RoleRd := (rds[j]?).getD (s.gRd k)
  optElem a (s.optU c k) (val (s.gRd k)) (val (rd 0)) (val (rd 1)) (if a.mode = 2 then Val.zero else val (rd 2))

/-- What OPTIM writes for the `j`-th role of its format words. -/
def State.optRole (s : State) (c : Cmd) (k j : Nat) (x : Nat × FmtWord) (out : Nat → OptOut) : RoleWr :=
  let (first, n) := s.groupElems k
  roleWrite x.2 (s.recipe x.2) (c.sr x.2) first n (fun e =>
    c.landVal (.role j e) (if j = 0 then (out e).w else if j = 1 then (out e).m else (out e).v))

/-- The roles that OPTIM reads, and the words of the group in them. -/
def State.optRds (s : State) (c : Cmd) (k : Nat) : List RoleRd :=
  (optRoles c.bytes).map (s.roleRd k (s.ugroup k).current) ++ [s.gRd k]
def State.optReads (s : State) (c : Cmd) (k : Nat) : List Nat :=
  let (first, n) := s.groupElems k
  ((s.optRds c k).flatMap (fun x => (List.range n).flatMap (fun i => s.roleWords x (first + i)))).dedup

/-- The work of OPTIM on group `k`, its room in the copy-ahead buffers found (`s`): every role computed from the current
copy and written into the tentative one (R196, R201). -/
def State.optim (s : State) (st : Nat) (c : Cmd) (k : Nat) : State :=
  let g := s.ugroup k
  let u := s.optU c k
  let (first, n) := s.groupElems k
  let roles := optRoles c.bytes
  let all := s.optRds c k
  let outs : Array OptOut := ((List.range n).map (fun i => s.optOut c k (first + i))).toArray
  let out (e : Nat) : OptOut := outs.getD (e - first) OptOut.zero
  let wrs := roles.zipIdx.map (fun p => (p.1, s.optRole c k p.2 p.1 out, poisonedElems s all first n p.1.2))
  let cnt := wrs.foldl (fun acc p => acc.add p.2.1.cnt) WrCount.zero
  let dec := (all.map (fun x => ((List.range n).map (fun i => (s.roleVal x (first + i)).2)).sum)).sum
  let nonf := ((wrs.flatMap (fun p => p.2.1.bad)).dedup).length
  let read := s.optReads c k
  let bad := if s.hbm.diff = [] then [] else read.filter s.hbm.bad
  let d := dMax (outs.toList.map (·.step))
  -- roles that the command does not compute move over with a new tentative version
  let rest := (s.rolesOf k).filter (fun p => !(roles.any (fun x => decide (x.1 = p.1) || decide (x.1 + 1 = p.1))))
  let t := if g.tent then s else rest.foldl (fun t p =>
    t.copyRegion (s.copyOf p.2 g.sel) (s.copyOf p.2 (!g.sel)) (s.groupRange k p.2).1 (s.groupRange k p.2).2) s
  let t := t.noteWords read
  let t := wrs.foldl (fun t p => s.optWrite t k (!g.sel) p.1 p.2.1 p.2.2) t
  let t := t.setUgroup k { t.ugroup k with
    tent := true, uTent := nextU d u, optims := min 32 (g.optims + 1), tstep := BitVec.ofNat 32 c.seeds.2.2.toNat }
  let t := (((t.countFmt st { cnt with decode := cnt.decode + dec }).count (kStand st cLndNonfinite) nonf).count
    (kStand st cLndPoisonRead) bad.length).count (kStand st cUpdexpClamped) (if u = g.u then 0 else 1)
  let t := if bad = [] then t else (t.damage st k).markCmd st c 6
  let pay := natLe 4 (fFP32.encode (.fin false d.1 d.2)) ++ natLe 1 (u % 256).toNat ++ natLe 1 ((nextU d u) % 256).toNat ++
    [0, 0] ++ natLe 8 nonf
  t.engineDone st { c with tStart := s.clock.now, statuses := c.statuses ++ optStatuses nonf bad.length, pay := pay }

/-- The copy-ahead blocks that OPTIM or RESTORE of a group writes: those of every versioned role's tentative copy. -/
def State.tentBlocks (s : State) (k : Nat) : List (Nat × Nat) :=
  (s.rolesOf k).flatMap (fun p =>
    s.regionBlocks (s.copyOf p.2 (!(s.ugroup k).sel)) (s.groupRange k p.2).1 (s.groupRange k p.2).2)

/-- A group's range in one of its regions is a source that a COLLECTIVE or a PERMUTE of the stand holds (spec/09 R224, R235). -/
def State.groupHeld (s : State) (st ticket k r : Nat) : Bool :=
  let (o, n) := s.groupRange k r
  let b := (s.region r).base + o
  s.memHeld st ticket (b, b + n)

/-- An OPTIM waits, its turn come, for earlier deliveries or for a held source. -/
def State.optimHeld (s : State) (st : Nat) (c : Cmd) : Bool :=
  let k := ugrpOf c.bytes
  (s.stand st).deliveryAhead c k || (s.rolesOf k).any (fun x => s.groupHeld st c.ticket k x.2)

/-- OPTIM on its landing engines (R201): it waits for its turn, for earlier deliveries, on a sealed group and on a full
copy-ahead buffer. -/
def execOptim (stand ticket : Nat) (s : State) : Host.Outcome State Fault Refusal :=
  .next (match s.canRun stand ticket 0x20 with
    | none => s
    | some c =>
      let k := ugrpOf c.bytes
      if (s.ugroup k).isSealed || s.optimHeld stand c then s
      else match s.stageFor (s.tentBlocks k) with
        | some t => t.optim stand c k
        | none => s)

/-! ### ACCUM (spec/08 R203) -/

/-- The copy of a source region that a read of element `e` reaches (R195). -/
def State.srcCopy (s : State) (k r : Nat) : Nat := if (s.twinOf r).valid then s.copyOf r (s.ugroup k).current else r

/-- The source of ACCUM (Table 8-4). -/
def State.accumSrc (s : State) (k : Nat) (p : List Byte) : RoleRd :=
  let f := fmtWordOf (fmtAt p 24)
  { data := s.srcCopy k (fld p 20 1)
    scale := if f.scaled then some (s.srcCopy k (fld p 21 1)) else none
    fmt := f }

/-- The work of ACCUM. -/
def State.accum (s : State) (st : Nat) (c : Cmd) (k : Nat) : State :=
  let first := bit (fld c.bytes 16 1) 0
  let sc := f32At c.bytes 28
  let src := s.accumSrc k c.bytes
  let g := s.gRd k
  let (e0, n) := s.groupElems k
  let one (e : Nat) : Val :=
    let x := (s.roleVal src e).1
    if first then mul32 sc x else fma32 sc x (s.roleVal g e).1
  let rds := if first then [src] else [src, g]
  let w := roleWrite fmtFp32 Recipe.standard (c.sr fmtFp32) e0 n (fun e => c.landVal (.role 0 e) (one e))
  let dec := ((List.range n).map (fun i => (s.roleVal src (e0 + i)).2)).sum
  let read := (rds.flatMap (fun x => (List.range n).flatMap (fun i => s.roleWords x (e0 + i)))).dedup
  let bad := if s.hbm.diff = [] then [] else read.filter s.hbm.bad
  let hit := poisonedElems s rds e0 n fmtFp32
  let t := (s.noteWords read).putRegion g.data (4 * e0) (4 * n) w.data
  let t := t.poisonWords ((hit.flatMap (s.roleWords g)).dedup)
  let t := (t.countFmt st { w.cnt with decode := w.cnt.decode + dec }).count (kStand st cLndPoisonRead) bad.length
  let t := if bad = [] then t else t.markCmd st c 6
  t.engineDone st { c with tStart := s.clock.now, pay := natLe 4 (ceilDiv (4 * n) 4096)
                           statuses := c.statuses ++ (if bad = [] then [] else [0x010a]) }

/-- ACCUM on its landing engines (R203). -/
def execAccum (stand ticket : Nat) (s : State) : Host.Outcome State Fault Refusal :=
  .next (match s.canRun stand ticket 0x21 with
    | none => s
    | some c =>
      let k := ugrpOf c.bytes
      if (s.stand stand).deliveryAhead c k || s.groupHeld stand c.ticket k (s.tgroup (s.udef k).tgrp).g then s
      else s.accum stand c k)

/-! ### DIGEST (spec/08 R205) -/

/-- The update groups that a command's UGRP and COUNT name. -/
def groupSpan (first n : Nat) : List Nat := (List.range n).map (first + ·)

/-- Which copy a digest reads of a group (R205). -/
def State.digestCopy (s : State) (committed : Bool) (k : Nat) : Bool :=
  if committed then (s.ugroup k).sel else (s.ugroup k).current

/-- A digest's groups sealed (R197). -/
def State.sealGroups (s : State) (ks : List Nat) : State := s.onGroups ks UGroup.sealUp

/-- The work of DIGEST. -/
def State.digest (s : State) (st : Nat) (c : Cmd) : State :=
  let ks := groupSpan (ugrpOf c.bytes) (bits (fld c.bytes 20 2) 13 0)
  let cur := s.digestCopy (bit (fld c.bytes 16 1) 0)
  let isSeal := bit (fld c.bytes 16 1) 1
  let words := s.digestWords ks cur
  let bad := if s.hbm.diff = [] then [] else words.filter s.hbm.bad
  let b := match c.laneFaults.find? (fun f => decide (f.place = .digest)) with
    | some f => f.code
    | none => s.blaze (BitVec.ofNat 64 (fld c.bytes 24 8)) ks cur
  let nSeal := if isSeal then (ks.filter (fun k => (s.ugroup k).tent)).length else 0
  let t := s.noteWords words
  let t := (if isSeal then t.sealGroups ks else t).count (kStand st cLndPoisonRead) bad.length
  let t := if bad = [] then t else t.markCmd st c 6
  t.engineDone st { c with tStart := s.clock.now
                           statuses := c.statuses ++ (if bad = [] then [] else [0x010a])
                           pay := natLe 16 b.toNat ++ natLe 4 nSeal ++ [0, 0, 0, 0] ++ natLe 8 words.length }

/-- DIGEST on its landing engines (R205, R206). -/
def execDigest (stand ticket : Nat) (s : State) : Host.Outcome State Fault Refusal :=
  .next (match s.canRun stand ticket 0x23 with
    | none => s
    | some c => s.digest stand c)

/-! ### SWEEP (spec/08 R207) -/

/-- The key lies in a region's granules (spec/07 R168). -/
def State.inRegion (s : State) (r key : Nat) : Bool :=
  let x := s.region r
  let g := 2 ^ x.granLog2
  let l := keyDie key
  let p := s.placeBase r l
  let j := (keyLoc key - p) / g * s.variant.landDies + l
  x.valid && decide (l < s.variant.landDies) && decide (p ≤ keyLoc key) && decide (x.rot ≤ j) &&
    decide ((j - x.rot) * g + (keyLoc key - p) % g < x.size)

/-- A region's every word written as +0 with valid check symbols. -/
def State.zeroRegion (s : State) (r : Nat) : State :=
  s.setHbm ⟨s.hbm.bytes.filter (fun p => !s.inRegion r p.1), s.hbm.diff.filter (fun p => !s.inRegion r (16 * p.1))⟩

/-- A region and its twin zeroed. -/
def State.sweepRegion (s : State) (r : Nat) : State :=
  if (s.twinOf r).valid then (s.zeroRegion r).zeroRegion (s.twinOf r).twin else s.zeroRegion r

/-- The regions that a SWEEP names. -/
def State.sweptRegions (s : State) (st : Nat) (p : List Byte) : List Nat :=
  ((List.range 32).filter (fun k => bit (fld p 16 4) k)).map (fun k => (s.sreg st k).region)

/-- A SWEEP of the stand that has not completed covers a region, as its own or as a twin. -/
def State.sweeps (s : State) (st : Nat) (d : Cmd) (r : Nat) : Bool :=
  decide (d.opcode = 0x22) && !d.ended && (s.sweptRegions st d.bytes).any (fun q =>
    decide (q = r) || ((s.twinOf q).valid && decide ((s.twinOf q).twin = r)))

/-- A software-visible byte lies in a region that an earlier SWEEP of the stand has still to sweep (R207); `ticket` is that of
the command that asks. -/
def State.sweepAhead (s : State) (st ticket a : Nat) : Bool :=
  match s.regionAt a with
  | none => false
  | some (r, _) => (s.stand st).inflight.any (fun d => decide (d.ticket < ticket) && s.sweeps st d r)

/-- The same for a range. -/
def State.sweepSpan (s : State) (st ticket a n : Nat) : Bool :=
  (s.stand st).inflight.any (fun d => decide (d.opcode = 0x22)) && (cuts 512 (n / 512 + 2) a n).any (fun p => s.sweepAhead st ticket p.1)

/-- The same for a Caskline peer's access to a stand's memory: every SWEEP that has issued is earlier (R207). -/
def State.sweepBefore (s : State) (st a n : Nat) : Bool := s.sweepSpan st (s.stand st).nextTicket a n

/-- The same for the regions of an update group's roles. -/
def State.sweepGroup (s : State) (st ticket k : Nat) : Bool :=
  (s.rolesOf k).any (fun x => (s.stand st).inflight.any (fun d => decide (d.ticket < ticket) && s.sweeps st d x.2))

/-- The stand's update groups whose P region is swept. -/
def State.sweptGroups (s : State) (st : Nat) (rs : List Nat) : List Nat :=
  (s.groupsOf st).filter (fun k => rs.contains (s.tgroup (s.udef k).tgrp).p)

/-- The work of SWEEP. -/
def State.sweep (s : State) (st : Nat) (c : Cmd) : State :=
  let rs := s.sweptRegions st c.bytes
  let t := rs.foldl State.sweepRegion s
  let t := (s.sweptGroups st rs).foldl (fun t k => t.setUgroup k (UGroup.reset (s.udef k).seedU)) t
  let bytes := (rs.map (fun r => (s.region r).size * (if (s.twinOf r).valid then 2 else 1))).sum
  t.engineDone st { c with tStart := s.clock.now, pay := natLe 4 (ceilDiv bytes 4096) }

/-- A background copy of the stand holds a pin, on which a SWEEP waits (R207). -/
def State.sweepPinned (s : State) (st : Nat) : Bool := (s.stand st).steps.copy.isSome

/-- A SWEEP's regions hold a source that a reduction reads (spec/09 R224, R235). -/
def State.sweepSrcHeld (s : State) (st : Nat) (c : Cmd) : Bool :=
  (s.sweptRegions st c.bytes).any (fun r => s.memHeld st c.ticket ((s.region r).base, (s.region r).base + (s.region r).size))

/-- A SWEEP's regions hold a G role into which an earlier reduction has still to deliver (R190, spec/09 R221). -/
def State.sweepDelivery (s : State) (st : Nat) (c : Cmd) : Bool :=
  (s.sweptRegions st c.bytes).any (fun r =>
    (s.groupsOf st).any (fun k => decide ((s.tgroup (s.udef k).tgrp).g = r) && (s.stand st).deliveryAhead c k))

def State.sweepHeld (s : State) (st : Nat) (c : Cmd) : Bool := s.sweepSrcHeld st c || s.sweepDelivery st c

/-- SWEEP on its landing engines, once no background copy of the stand holds a pin (R207). -/
def execSweep (stand ticket : Nat) (s : State) : Host.Outcome State Fault Refusal :=
  .next (match s.canRun stand ticket 0x22 with
    | none => s
    | some c =>
      if s.sweepPinned stand || s.sweepHeld stand c then s else s.sweep stand c)

/-! ### Issue checks (spec/08 Table 8-6, R211) -/

/-- A format word disagrees with its regions' layout (R193). -/
def State.layoutBad (s : State) (f : FmtWord) (data : Nat) (scale : Option Nat) : Bool :=
  (s.twinOf data).isScale || decide ((s.twinOf data).widthBytes ≠ f.bytes) ||
    (match scale with
     | some r => !(s.twinOf r).isScale || decide ((s.twinOf r).blockSize ≠ f.block)
     | none => false)

/-- The group's range in a region of its trainable group is accessible to a command (spec/07 R172). -/
def State.roleAccess (s : State) (st ctx k r : Nat) (write : Bool) : Bool :=
  let (o, n) := s.groupRange k r
  s.mayAccess st ctx ((s.region r).base + o) n write

/-- OPTIM's checks at issue. -/
def State.checkOptim (s : State) (st : Nat) (p : List Byte) : Option W16 :=
  let mode := bits (fld p 16 1) 1 0
  let k := ugrpOf p
  let t := s.tgroup (s.udef k).tgrp
  let roles := optRoles p
  let ctx := bits (fld p 4 1) 3 0
  let layoutBad := roles.any (fun x =>
    s.layoutBad x.2 (t.role x.1) (if x.2.scaled then some (t.role (x.1 + 1)) else none)) ||
    decide ((s.twinOf t.g).widthBytes ≠ 4)
  if decide (bits (fld p 16 1) 7 2 ≠ 0) || decide (fld p 17 1 ≠ 0) || decide (bits (fld p 18 2) 15 13 ≠ 0) ||
    !isZeroRange p 72 56 then some 1
  else match fmtFail [⟨fmtAt p 20, true, (fmtWordOf (fmtAt p 20)).fmt.isNarrow⟩,
      ⟨fmtAt p 24, true, (fmtWordOf (fmtAt p 24)).fmt.isFloat⟩, ⟨fmtAt p 28, true, (fmtWordOf (fmtAt p 28)).fmt.isFloat⟩] with
    | some w => some w
    | none => firstFail [
      (decide (mode = 3) || (decide (mode = 2) && !(isZeroRange p 28 4 && isZeroRange p 48 16)), 0x0101),
      (!s.ownsGroup st k, 0x0102),
      (decide (t.g = 255) || roles.any (fun x => decide (t.role x.1 = 255) ||
        decide (x.2.scaled = decide (t.role (x.1 + 1) = 255))), 0x0103),
      (layoutBad, 0x0104),
      (roles.any (fun x => x.2.scaled && decide (x.2.block = 128)) &&
        decide (((s.udef k).first4k % 2 = 1) ∨ (s.udef k).count4k % 2 = 1), 0x01f2),
      ((s.ugroup k).damaged, 0x0105),
      (!((s.rolesOf k).all (fun x => s.roleAccess st ctx k x.2 false) && s.roleAccess st ctx k t.g false), 0x0005)]

/-- The region is one of a trainable group's. -/
def State.inTgroup (s : State) (r t : Nat) : Bool :=
  (s.region r).valid && (s.region r).trainable && decide ((s.region r).group = t)

/-- ACCUM's checks at issue. -/
def State.checkAccum (s : State) (st : Nat) (p : List Byte) : Option W16 :=
  let k := ugrpOf p
  let t := (s.udef k).tgrp
  let g := (s.tgroup t).g
  let f := fmtWordOf (fmtAt p 24)
  let src := fld p 20 1
  let ssr := fld p 21 1
  let ctx := bits (fld p 4 1) 3 0
  if decide (bits (fld p 16 1) 7 1 ≠ 0) || decide (fld p 17 1 ≠ 0) || decide (bits (fld p 18 2) 15 13 ≠ 0) ||
    decide (fld p 22 2 ≠ 0) || !isZeroRange p 32 32 then some 1
  else match fmtFail [⟨fmtAt p 24, false, f.fmt.isFloat⟩] with
    | some w => some w
    | none => firstFail [
      (!s.ownsGroup st k, 0x0102),
      (decide (g = 255) || decide (f.scaled = decide (ssr = 255)), 0x0103),
      (!s.inTgroup src t || (f.scaled && !s.inTgroup ssr t) ||
        s.layoutBad f src (if f.scaled then some ssr else none) || decide ((s.twinOf g).widthBytes ≠ 4), 0x0104),
      (!(s.roleAccess st ctx k src false && (!f.scaled || s.roleAccess st ctx k ssr false) &&
        s.roleAccess st ctx k g true), 0x0005)]

/-- DIGEST's checks at issue. -/
def State.checkDigest (s : State) (st : Nat) (p : List Byte) : Option W16 :=
  let n := bits (fld p 20 2) 13 0
  let ks := groupSpan (ugrpOf p) n
  let ctx := bits (fld p 4 1) 3 0
  if decide (bits (fld p 16 1) 7 2 ≠ 0) || decide (fld p 17 1 ≠ 0) || decide (bits (fld p 18 2) 15 13 ≠ 0) ||
    decide (bits (fld p 20 2) 15 14 ≠ 0) || decide (fld p 22 2 ≠ 0) || !isZeroRange p 32 32 then some 1
  else firstFail [
    (decide (n = 0) || (bit (fld p 16 1) 0 && bit (fld p 16 1) 1), 0x0101),
    (!ks.all (s.ownsGroup st), 0x0102),
    (ks.any (fun k => (s.ugroup k).damaged), 0x0105),
    (!ks.all (fun k => (s.rolesOf k).all (fun x => s.roleAccess st ctx k x.2 false)), 0x0005)]

/-- An entry that SWEEP may name: in use, a private region of the stand, its contexts naming the command's (R207). -/
def State.sweepable (s : State) (st ctx k : Nat) : Bool :=
  let e := s.sreg st k
  let r := s.region e.region
  e.valid && r.valid && !r.sharedRo && decide (r.owner = st) && bit e.contexts.toNat ctx

/-- SWEEP's checks at issue. -/
def State.checkSweep (s : State) (st : Nat) (p : List Byte) : Option W16 :=
  if !isZeroRange p 20 44 then some 1
  else firstFail [
    ((List.range 32).any (fun k => bit (fld p 16 4) k && !s.sweepable st (bits (fld p 4 1) 3 0) k), 0x0106)]

end Sys2Proof.Machine
end

