-- ==== Sys2Proof/Machine/FabricOps.lean ====
section
/-! DEFINITION. Shared operations of the Caskline fabric (spec/10): headers, the flit check, routes, requests, responses and
what a port has received. -/

namespace Sys2Proof.Machine

/-! ### CRC-32C (spec/10 Table 10-4) -/

/-- One bit of CRC-32C, reflected. -/
def crcBit (c : W32) : W32 := if c.getLsbD 0 then (c >>> 1) ^^^ 0x82f63b78#32 else c >>> 1

/-- One byte of CRC-32C. -/
def crcByte (c : W32) (b : Byte) : W32 :=
  crcBit (crcBit (crcBit (crcBit (crcBit (crcBit (crcBit (crcBit (c ^^^ b.setWidth 32))))))))

/-- CRC-32C of bytes: initial value and final exclusive or of all ones, as the published polynomial is used (PRESUMED). -/
def crc32c (bs : List Byte) : W32 := (bs.foldl crcByte 0xffffffff#32) ^^^ 0xffffffff#32

/-! ### Transaction headers (spec/10 Table 10-6) -/

/-- The 16 header bytes. -/
def Txn.header (t : Txn) : List Byte :=
  natLe 16 (t.ttype % 16 + (if t.rsp then 16 else 0) + t.status % 8 * 2 ^ 5 + t.dst.toNat * 2 ^ 8 + t.src.toNat * 2 ^ 24 +
    t.dstand % 64 * 2 ^ 40 + t.sstand % 64 * 2 ^ 46 + t.tag % 4096 * 2 ^ 52 + t.addr % 2 ^ 40 * 2 ^ 64 +
    t.len % 512 * 2 ^ 104 + t.ttl % 128 * 2 ^ 113)

/-- A transaction from its header, meta word and payload. -/
def Txn.parse (h : List Byte) (m p : List Byte) : Txn :=
  let n := leNat h
  { ttype := bits n 3 0, rsp := bit n 4, status := bits n 7 5, dst := BitVec.ofNat 16 (bits n 23 8)
    src := BitVec.ofNat 16 (bits n 39 24), dstand := bits n 45 40, sstand := bits n 51 46, tag := bits n 63 52
    addr := bits n 103 64, len := bits n 112 104, ttl := bits n 119 113, meta_ := m, payload := p }

/-- Body words after the header: the meta word of a REDUCE_PUT request, then LEN payload words. -/
def bodyWords (h : List Byte) : Nat :=
  let n := leNat h
  bits n 112 104 + (if bits n 3 0 = 3 ∧ ¬ bit n 4 then 1 else 0)

/-- The limits of R263: a defined TTYPE, at most 256 payload words, an aligned ADDR whose payload stays in its 4 KiB page. -/
def Txn.wellFormed (t : Txn) : Bool :=
  decide (1 ≤ t.ttype) && decide (t.ttype ≤ 7) && decide (t.len ≤ 256) && decide (t.addr % 16 = 0) &&
    decide (t.addr % 4096 + 16 * t.len ≤ 4096)

/-- The channel of a transaction; `coll` marks a PUT that a collective issued (spec/10 Tables 10-5, 10-7). -/
def Txn.channel (t : Txn) (coll : Bool) : Nat :=
  match t.ttype with
  | 1 => if t.rsp then 0 else if coll then 1 else 2
  | 2 => if t.rsp then 2 else 0
  | 3 => if t.rsp then 0 else 1
  | 5 => 3
  | 6 => 3
  | _ => 0

/-- A byte list cut into 16-byte words. -/
def wordsOf : Nat → List Byte → List (List Byte)
  | 0, _ => []
  | n + 1, bs => (bs.take 16) :: wordsOf n (bs.drop 16)

/-- A byte list filled up with zeros to whole 16-byte words. -/
def padWords (bs : List Byte) : List Byte := bs ++ List.replicate (roundUp bs.length 16 - bs.length) 0

/-- The stream words of a transaction; `owner` is the request they carry, (64, 0) for responses and transit, and `stamp` what the
words after the header take from the time base. A payload word goes out with the check symbols that it was read with (spec/01 R20). -/
def Txn.stream (t : Txn) (owner : Nat × Nat) (stamp : Stamp) : List TxWord :=
  let head := t.header :: wordsOf (ceilDiv t.meta_.length 16) t.meta_
  let body := (wordsOf t.len t.payload).zipIdx.map (fun p => (p.1, t.diffs.get (0, 0) p.2))
  (head.map (fun w => (w, ((0, 0) : Byte × Byte))) ++ body).zipIdx.map (fun p =>
    ⟨p.1.1, decide (p.2 = 0), owner, p.1.2, if p.2 = 0 then .none else stamp⟩)

/-! ### Ports, bonds and routes (spec/10 R261, R268) -/

/-- A port carries flits. -/
def PortSt.up (x : PortSt) : Bool := decide (x.mode = .quiet) || decide (x.mode = .ramp) || decide (x.mode = .active)

/-- The ports of a bond, in ascending order. -/
def BondCfg.members (b : BondCfg) : List Nat := (List.range b.ports).map (b.firstPort + ·)

/-- The bond's ports that are up. -/
def State.bondUp (s : State) (b : Nat) : List Nat := (s.bondCfg b).members.filter (fun p => (s.port p).up)

/-- The bond that a port belongs to, if it does. -/
def State.bondOf (s : State) (p : Nat) : Option Nat :=
  let c := s.portCfg p
  if c.enabled ∧ c.bond < 12 ∧ (s.bondCfg c.bond).ports ≠ 0 then some c.bond else none

/-- An egress code's port or bond is up. -/
def State.egressUp (s : State) (e : Nat) : Bool :=
  if e < 28 then (s.port e).up else if 32 ≤ e ∧ e < 44 then !(s.bondUp (e - 32)).isEmpty else false

/-- The port whose queue holds an egress's stream: a bond's is kept at its first port. -/
def State.egressPort (s : State) (e : Nat) : Nat := if e < 28 then e else (s.bondCfg (e - 32)).firstPort

/-- The egress code of the device itself: what it sends to one of its own stands goes to the stand and crosses no port (R268). -/
def ownEgress : Nat := 28

/-- The route to a device: EGRESS while that is up, and otherwise ALT (R268). -/
def State.routeTo (s : State) (d : W16) : Option Nat :=
  let r := s.img.routes.get Route.none d.toNat
  if d = s.img.deviceId then some ownEgress
  else if !r.valid then none
  else if s.egressUp r.egress then some r.egress
  else if r.altValid && s.egressUp r.alt then some r.alt
  else none

/-- The direct bond to a device: the primary egress is a locked bond whose ports have that device as their peer (spec/09
R233). -/
def State.bondTo (s : State) (d : W16) : Option Nat :=
  let r := s.img.routes.get Route.none d.toNat
  if r.valid && decide (32 ≤ r.egress) && decide (r.egress < 44) && (s.bond (r.egress - 32)).locked && s.egressUp r.egress &&
      (s.bondCfg (r.egress - 32)).members.all (fun p => decide ((s.port p).peerDevice = d)) then some r.egress
  else none

/-- The route of a request: any, or the direct bond alone (spec/09 R233). -/
def State.routeOf (s : State) (h : HeldReq) : Option Nat := if h.bond then s.bondTo h.dst else s.routeTo h.dst

/-- Words added to the end of a participant's queue on a channel (R259). -/
def PortSt.enqueue (x : PortSt) (vc part : Nat) (ws : List TxWord) : PortSt :=
  { x with txq := x.txq.upd [] (65 * vc + part) (· ++ ws) }

/-- A transaction put on an egress; one for this device itself is received at once (R268). -/
def State.emit (s : State) (e vc part : Nat) (t : Txn) (owner : Nat × Nat) : State :=
  if e = ownEgress then
    s.setPort ownEgress { s.port ownEgress with rxq := (s.port ownEgress).rxq ++ [⟨vc, [], t, s.clock.now⟩] }
  else
    let p := s.egressPort e
    s.setPort p ((s.port p).enqueue vc part (t.stream owner .none))

/-- A TIME transaction of the module put on a port's egress, to be stamped as its flit leaves (R270). -/
def State.emitTime (s : State) (e : Nat) (t : Txn) (stamp : Stamp) : State :=
  let p := s.egressPort e
  s.setPort p ((s.port p).enqueue 3 0 (t.stream (64, 0) stamp))

/-! ### Fences (spec/10 R272, R273) -/

def State.fenced (s : State) (st : Nat) (d : W16) : Bool := s.fabric.fences.contains (st, d)

/-! ### Requests (spec/10 R265, R266, R273) -/

/-- What came of asking for a request to be sent. -/
inductive Asked where
  | sent
  | fenced
  | unreachable
  deriving DecidableEq, Repr

/-- The next TAG that no outstanding request of the stand uses (R265). -/
def StandSt.freeTag (x : StandSt) : Nat :=
  (((List.range 4096).map (fun i => (x.nextTag + i) % 4096)).find? (fun t => !(x.reqs.any (·.tag = t)))).getD 0

/-- A TAG is free (R265). -/
def StandSt.hasTag (x : StandSt) : Bool := decide (x.reqs.length < 4096)

/-- Requests outstanding to a device on another egress, or waiting already, hold a new one back (R265). -/
def StandSt.holdsBack (x : StandSt) (d : W16) (e : Nat) : Bool :=
  !x.hasTag || x.reqs.any (fun r => decide (r.dst = d) && decide (r.egress ≠ e)) || x.held.any (fun h => decide (h.dst = d))

/-- A request sent on an egress with a fresh TAG. -/
def State.sendReq (s : State) (st e : Nat) (h : HeldReq) : State :=
  let x := s.stand st
  let tag := x.freeTag
  let pay := padWords h.payload
  let t : Txn := { ttype := h.ttype, rsp := false, status := 0, dst := h.dst, src := s.img.deviceId, dstand := h.dstand
                   sstand := st, tag := tag, addr := h.addr, len := pay.length / 16, ttl := 16, meta_ := h.meta_
                   payload := pay, diffs := h.diffs }
  (s.setStand st { x with nextTag := (tag + 1) % 4096
                          reqs := x.reqs ++ [⟨st, tag, h.ttype, h.dst, h.addr, pay.length, h.what, e, s.clock.now⟩] }).emit e
    (t.channel h.coll) st t (st, tag)

/-- A stand asks for a request: not sent to a fenced device or without a route, held back while R265 says so, and otherwise
sent (R266, R268, R273). -/
def State.ask (s : State) (st : Nat) (h : HeldReq) : State × Asked :=
  if s.fenced st h.dst then (s.countStand st cCskFenceOut, .fenced)
  else match s.routeOf h with
    | none => ((s.countModule cCskNoRoute).countStand st cCskUnreachable, .unreachable)
    | some e =>
      let x := s.stand st
      if x.holdsBack h.dst e then (s.setStand st { x with held := x.held ++ [h] }, .sent)
      else (s.sendReq st e h, .sent)

/-- A stand's request, whose payload words may carry check differences. -/
def State.requestWith (s : State) (st ttype : Nat) (dst : W16) (dstand addr : Nat) (meta_ payload : List Byte)
    (diffs : Tab (Byte × Byte)) (coll : Bool) (what : ReqFor) : State × Asked :=
  s.ask st { ttype := ttype, dst := dst, dstand := dstand, addr := addr, meta_ := meta_, payload := payload, diffs := diffs
             coll := coll, what := what }

/-- A stand's request of proper words. -/
def State.request (s : State) (st ttype : Nat) (dst : W16) (dstand addr : Nat) (meta_ payload : List Byte) (coll : Bool)
    (what : ReqFor) : State × Asked :=
  s.requestWith st ttype dst dstand addr meta_ payload [] coll what

/-- A transaction that asks for no response: a HEARTBEAT (Table 10-7). -/
def State.sendOnly (s : State) (ttype : Nat) (dst : W16) (payload : List Byte) : State :=
  match s.routeTo dst with
  | none => s.countModule cCskNoRoute
  | some e =>
    let pay := padWords payload
    let t : Txn := { ttype := ttype, rsp := false, status := 0, dst := dst, src := s.img.deviceId, dstand := 0, sstand := 0,
                     tag := 0, addr := 0, len := pay.length / 16, ttl := 16, meta_ := [], payload := pay }
    s.emit e (t.channel false) 0 t (64, 0)

/-- The response to a request, sent back to its source (R268: the source sets TTL to 16); `diffs` as of `Txn`. -/
def State.respondWith (s : State) (q : Txn) (status : Nat) (payload : List Byte) (diffs : Tab (Byte × Byte)) : State :=
  match s.routeTo q.src with
  | none => s.countModule cCskNoRoute
  | some e =>
    let pay := padWords payload
    let t : Txn := { ttype := q.ttype, rsp := true, status := status, dst := q.src, src := s.img.deviceId
                     dstand := q.sstand, sstand := q.dstand, tag := q.tag, addr := 0, len := pay.length / 16, ttl := 16
                     meta_ := [], payload := pay, diffs := diffs }
    s.emit e (t.channel false) q.dstand t (64, 0)

/-- A response of proper words. -/
def State.respond (s : State) (q : Txn) (status : Nat) (payload : List Byte) : State := s.respondWith q status payload []

/-- An outstanding request ended and removed. -/
def State.endReq (s : State) (st tag : Nat) : State :=
  let x := s.stand st
  s.setStand st { x with reqs := x.reqs.filter (fun r => decide (r.tag ≠ tag)) }

/-! ### What a port has received (spec/10 R258, R260) -/

/-- A port's buffer holds a transaction that a flit, named by its port and number, brought a part of. -/
def PortSt.holdsFlit (x : PortSt) (r : Nat × Nat) : Bool :=
  x.rxq.any (fun y => y.refs.contains r) || x.rxPart.any (fun y => y.2.refs.contains r)

/-- Some port's buffer does. -/
def State.flitHeld (s : State) (r : Nat × Nat) : Bool := (List.range 28).any (fun q => (s.port q).holdsFlit r)

/-- One credit of a channel goes back to the peer of a port. -/
def State.oweCredit (s : State) (p vc : Nat) : State :=
  s.setPort p { s.port p with owed := (s.port p).owed.upd 0 vc (· + 1) }

/-- The credit of each flit that no buffer holds a transaction of any longer goes back (R258). -/
def State.freeFlits (s : State) (vc : Nat) (rs : List (Nat × Nat)) : State :=
  rs.foldl (fun t r => if t.flitHeld r then t else t.oweCredit r.1 vc) s

/-- The buffer entry of a transaction that a port has received. -/
def PortSt.rxOf (x : PortSt) (t : Txn) : Option RxTxn := x.rxq.find? (fun y => decide (y.txn = t))

/-- A port's received request or response taken by its unit: it leaves the buffer, and the credit of each flit that held nothing else
goes back (R258). -/
def State.takeRx (s : State) (p : Nat) (t : Txn) : Option State :=
  let x := s.port p
  (x.rxOf t).map (fun y => (s.setPort p { x with rxq := x.rxq.erase y }).freeFlits y.vc y.refs)

/-- The transaction is for this device: a request for one of its stands, or a response. -/
def State.isMine (s : State) (t : Txn) : Bool := decide (t.dst = s.img.deviceId)

/-- A received request of a TTYPE, addressed to this device and taken from its port. -/
def State.takeRequest (s : State) (p : Nat) (t : Txn) (ttype : Nat) : Option State :=
  if s.alive && s.boot.standsReady && s.isMine t && decide (t.ttype = ttype) && !t.rsp then s.takeRx p t else none

end Sys2Proof.Machine
end

