-- ==== Sys2Proof/Machine/SkidOps.lean ====
section
/-! DEFINITION. What the Skidder's commands share (spec/06 R130-R146): stores, owner tables, where each byte of a tensor
lies, remote blocks, and writes with their poison. -/

namespace Sys2Proof.Machine

/-! ### Stores -/

/-- A store that a Skidder reads and writes: the stacked memory, a physical cluster's scratch, a physical core's
scratchpad. -/
inductive StoreId where
  | hbm
  | scratch (px : Nat)
  | spad (c : Nat)
  deriving DecidableEq, Repr

def State.store (s : State) : StoreId → Mem
  | .hbm => s.hbm
  | .scratch px => (s.cluster px).scratch
  | .spad c => (s.core c).spad

def State.setStore (s : State) (id : StoreId) (m : Mem) : State :=
  match id with
  | .hbm => s.setHbm m
  | .scratch px => s.setCluster px { s.cluster px with scratch := m }
  | .spad c => s.setSpad c m

/-- Where a byte of a tensor lies: in a store, in a block that another device holds, in a block that nobody serves, or
nowhere. -/
inductive Spot where
  | held (id : StoreId) (a : Nat)
  | remote (block off : Nat)
  | gone (block : Nat)
  | nowhere
  deriving DecidableEq, Repr

/-! ### Owner tables (R140-R142) -/

def State.owner (s : State) (st t : Nat) : OwnerTab := (s.stand st).owners.get OwnerTab.reset t

/-- The governor mode of a command's step (spec/09 R240); NORMAL outside any step. -/
def StepSt.govOf (x : StepSt) (step : Option W64) : Nat :=
  match step with
  | none => 0
  | some n => ((x.records.find? (fun r => decide (r.step = n))).map (·.gov)).getD 0

/-- In OFFLOAD every access that names table ACT resolves through table SPILL (spec/09 Table 9-9). -/
def State.viaSpill (s : State) (st : Nat) (step : Option W64) (d : Desc) : Desc :=
  let c := s.cfg st
  if d.space = 3 ∧ d.table = c.act ∧ c.spillValid ∧ (s.stand st).steps.govOf step = 1 then { d with table := c.spill } else d

/-- Bytes of `n` shingles of one area: data, scale bytes or zero points. -/
def Desc.dataOf (d : Desc) (n : Nat) : Nat := n * d.shBytes
def Desc.areaOf (d : Desc) (n : Nat) : Nat := if d.fmt.scaled then n * (4096 / d.fmt.block) else 0

/-- Where the zero points of a stored block of `bl` shingles start (R140, R135). -/
def Desc.blockZp (d : Desc) (bl : Nat) : Nat := roundUp (d.dataOf bl + d.areaOf bl) 512

/-- The block and the offset in it of the byte at offset `o` of an owner-space tensor (R140). -/
def Desc.ownerOff (d : Desc) (bl o : Nat) : Nat × Nat :=
  if o < d.scaleBase then (o / d.dataOf bl, o % d.dataOf bl)
  else if o < d.scaleBase + d.areaBytes then
    let x := o - d.scaleBase
    (x / d.areaOf bl, d.dataOf bl + x % d.areaOf bl)
  else
    let x := o - d.zpBase
    (x / d.areaOf bl, d.blockZp bl + x % d.areaOf bl)

/-- The byte runs of block `k` that hold something of the tensor: (offset in the block, length). -/
def Desc.blockRuns (d : Desc) (bl k : Nat) : List (Nat × Nat) :=
  let n := min bl (d.shingles - k * bl)
  [(0, d.dataOf n)] ++ (if d.fmt.scaled then [(d.dataOf bl, d.areaOf n)] else []) ++
    (if d.fmt.scaled && d.fmt.zp then [(d.blockZp bl, d.areaOf n)] else [])

/-- A run of addresses cut where a 4 KiB boundary crosses it (spec/10 R263). -/
def pieces (f a n : Nat) : List (Nat × Nat) := cuts 4096 f a n

/-- The name under which a fetched piece is kept. -/
def pieceKey (device : W16) (a : Nat) : Nat := device.toNat * 2 ^ 40 + a

/-- The pieces of block `k` at the device that holds it. -/
def Desc.blockPieces (d : Desc) (t : OwnerTab) (k : Nat) : List (Nat × Nat) :=
  let e := t.entries.getD k ⟨0, 0, 0, 0⟩
  (d.blockRuns (2 ^ t.blockLog2) k).flatMap (fun r => pieces (r.2 / 4096 + 2) (e.addr + r.1) r.2)

/-- What a command finds of block `k` of an owner table: 0 in local memory, 1 at another device, 2 nobody serves it, 3
moving (R141, R142). -/
def State.blockState (s : State) (st : Nat) (c : Cmd) (d : Desc) (k : Nat) : Nat :=
  let t := s.owner st d.table
  match t.entries[k]? with
  | none => 2
  | some e =>
    if e.state = 2 then 3
    else if e.state ≠ 1 then 2
    else if e.device = s.img.deviceId then (if e.stand = st then 0 else 2)
    else if (d.blockPieces t k).any (fun p => c.lost.contains (pieceKey e.device p.1)) then 2
    else 1

/-! ### Places -/

/-- The store of a descriptor's SPACE 0, 1 or 2; `none` for a scratchpad without a physical core. -/
def State.storeOf (s : State) (st : Nat) (d : Desc) : Option StoreId :=
  match d.space with
  | 0 => some .hbm
  | 1 => (s.standCluster st d.cluster).map StoreId.scratch
  | 2 => ((s.standCluster st d.cluster).bind (fun px => s.physCore px d.core)).map StoreId.spad
  | _ => none

/-- A software-visible address as a spot (R131, spec/08 R195). -/
def State.memSpot (s : State) (a : Nat) : Spot :=
  match s.visKey a with
  | some k => .held .hbm k
  | none => .nowhere

/-- Where byte `o` of a tensor lies. -/
def State.spot (s : State) (st : Nat) (c : Cmd) (d : Desc) (o : Nat) : Spot :=
  if d.space = 3 then
    let t := s.owner st d.table
    let (k, x) := d.ownerOff (2 ^ t.blockLog2) o
    match s.blockState st c d k with
    | 0 => s.memSpot ((t.entries.getD k ⟨0, 0, 0, 0⟩).addr + x)
    | 1 => .remote k x
    | _ => .gone k
  else match s.storeOf st d with
    | some .hbm => s.memSpot (d.addr + o)
    | some id => .held id (d.addr + o)
    | none => .nowhere

/-- The byte of a fetched block. -/
def Cmd.fetchedByte (c : Cmd) (e : OwnerEntry) (x : Nat) : Byte :=
  let a := e.addr + x
  let p := max e.addr (a / 4096 * 4096)
  match (c.fetched.filter (fun f => decide (f.1 / 2 ^ 40 = e.device.toNat) && decide (f.1 % 2 ^ 40 ≤ a) &&
      decide (a < f.1 % 2 ^ 40 + f.2.length))).head? with
  | some f => f.2.getD (a - f.1 % 2 ^ 40) 0
  | none => Config.freeByte (p + x)

/-- The delivered byte at offset `o` of a tensor. -/
def State.spotByte (s : State) (st : Nat) (c : Cmd) (d : Desc) (o : Nat) : Byte :=
  match s.spot st c d o with
  | .held id a => (s.store id).read a
  | .remote k x => c.fetchedByte ((s.owner st d.table).entries.getD k ⟨0, 0, 0, 0⟩) x
  | _ => 0

/-- The stored word on which a byte of a tensor rests. -/
def State.spotWord (s : State) (st : Nat) (c : Cmd) (d : Desc) (o : Nat) : Option (StoreId × Nat) :=
  match s.spot st c d o with
  | .held id a => some (id, a / 16)
  | _ => none

/-- The byte's word fails correction. -/
def State.spotBad (s : State) (st : Nat) (c : Cmd) (d : Desc) (o : Nat) : Bool :=
  match s.spotWord st c d o with
  | some (id, w) => (s.store id).bad w
  | none => false

/-- The byte lies in a block that nobody serves. -/
def State.spotGone (s : State) (st : Nat) (c : Cmd) (d : Desc) (o : Nat) : Bool :=
  match s.spot st c d o with
  | .gone _ => true
  | _ => false

/-- The stores are without a word that fails or needs correction. -/
def State.storeClean (s : State) (st : Nat) (d : Desc) : Bool :=
  if d.space = 3 then s.hbm.diff.isEmpty
  else match s.storeOf st d with
    | some id => (s.store id).diff.isEmpty
    | none => true

/-! ### Elements -/

/-- A logical position. -/
abbrev Coord := Nat × Nat × Nat × Nat

/-- The offsets on which an element at any position rests: data or planes, then its scale byte, then its zero point. -/
def Desc.bytesAt (d : Desc) (e : Coord) : List Nat :=
  (if d.fmt.fmt = .intp then (List.range (d.fmt.wbits + 1)).map (fun p => (d.planeOff p e.1 e.2.1 e.2.2.1 e.2.2.2).1)
   else (List.range d.w).map (fun i => d.elemOff e.1 e.2.1 e.2.2.1 e.2.2.2 + i)) ++
    (if d.fmt.scaled then [d.scaleOff e.1 e.2.1 e.2.2.1 e.2.2.2] else []) ++
    (if d.fmt.zp then [d.zpOff e.1 e.2.1 e.2.2.1 e.2.2.2] else [])

/-- Every logical position. -/
def Desc.coords (d : Desc) : List Coord := (List.range d.count).map d.unlin

/-- Position `e0` of row `n` (R132). -/
def Desc.rowAt (d : Desc) (n e0 : Nat) : Coord := (e0, n % d.e1, n / d.e1 % d.e2, n / d.e1 / d.e2)

/-- The row that a position lies in (R132). -/
def Desc.rowOf (d : Desc) (e : Coord) : Nat := (e.2.2.2 * d.e2 + e.2.2.1) * d.e1 + e.2.1

/-- The shingle that offset `o` of a tensor's data lies in, in the order of R133 (R137 for the interleaved layouts). -/
def Desc.dataShingle (d : Desc) (o : Nat) : Nat :=
  match d.layout with
  | .shingle | .linear => o / d.shBytes
  | .piCol | .piRow =>
    let pl := if d.fmt.fmt = .intp then 512 else d.shBytes
    let g := o / (4 * d.shBytes)
    let q := o % (4 * pl) / 16 % 4
    if d.layout = .piCol then 4 * g + q
    else
      let l1 := if d.rowax = 1 then d.tr / 4 else d.e1
      let l2 := if d.rowax = 2 then d.tr / 4 else d.e2
      let j1 := g / d.t0 % l1
      let j2 := g / d.t0 / l1 % l2
      let j3 := g / d.t0 / l1 / l2
      let up (k j : Nat) : Nat := if k = d.rowax then 4 * j + q else j
      ((up 3 j3 * d.tupLen 2 + up 2 j2) * d.tupLen 1 + up 1 j1) * d.t0 + g % d.t0

/-- The unit that a write leaves alone as a whole (R142): a shingle, a pair of shingles that share their scale bytes, or
an element of a linear tensor. -/
def Desc.unitAt (d : Desc) (o : Nat) : Nat :=
  let p := if d.fmt.scaled && d.fmt.block == 128 then 2 else 1
  if d.layout = .linear then o / d.w
  else if o < d.scaleBase then d.dataShingle o / p
  else if o < d.scaleBase + d.areaBytes then (o - d.scaleBase) / (4096 / d.fmt.block) / p
  else (o - d.zpBase) / (4096 / d.fmt.block) / p

/-! ### Lines (R143) -/

/-- Lines of a whole tensor: its data, its scale bytes and its zero points are pieces of their own, and a piece shorter than
a line takes a whole one. -/
def Desc.lines (d : Desc) : Nat :=
  ceilDiv d.dataBytes 128 + ceilDiv d.areaBytes 128 + (if d.fmt.zp then ceilDiv d.areaBytes 128 else 0)

/-- Lines of a whole operand; of an owner-space tensor every run of every block is a piece of its own (R140, R143). -/
def State.linesOf (s : State) (st : Nat) (d : Desc) : Nat :=
  if d.space = 3 then
    let bl := 2 ^ (s.owner st d.table).blockLog2
    ((List.range (ceilDiv d.shingles bl)).map (fun k => ((d.blockRuns bl k).map (fun r => ceilDiv r.2 128)).sum)).sum
  else d.lines

/-- Lines that hold a logical element of a tensor: those that the Bucker reads, each once (R158). -/
def Desc.heldLines (d : Desc) : Nat := (((d.coords.flatMap d.bytesAt).map (· / 128)).dedup).length

/-- Lines of one row: a row or piece shorter than a line takes a whole one. -/
def Desc.rowLines (d : Desc) : Nat :=
  if d.layout = .linear then ceilDiv (d.e0 * d.w) 128
  else d.t0 * ((if d.fmt.fmt = .intp then d.fmt.wbits + 1 else ceilDiv (64 * d.w) 128) +
    (if d.fmt.scaled then 1 else 0) + (if d.fmt.zp then 1 else 0))

/-! ### Reads noted -/

/-- Words that a command has read, each once, noted in their store: corrections and failures are counted, and a failing
memory word becomes its poison code (spec/07 R175, spec/11 Table 11-11). -/
def State.noteStored (s : State) (ws : List (StoreId × Nat)) : State :=
  ws.foldl (fun t x => match x.1 with
    | .hbm => t.noteWord x.2
    | .scratch px => t.count (kDie (dieOfCluster px) cDieScratchCorrected) (if (t.store x.1).corrects x.2 then 1 else 0)
    | .spad c => t.noteSpad c (if (t.store x.1).corrects x.2 then 1 else 0) (if (t.store x.1).bad x.2 then 1 else 0)) s

/-! ### Writes -/

/-- The words that a list of written addresses covers whole. -/
def wholeWords (as : List Nat) : List Nat :=
  ((as.filter (fun a => decide (a % 16 = 0))).filter (fun a =>
    (List.range 16).all (fun i => as.contains (a + i)))).map (· / 16)

/-- Bytes written into one store: words that they cover whole take fresh check symbols (spec/00 R20, R145). -/
def Mem.put (m : Mem) (bs : List (Nat × Byte)) : Mem :=
  let m1 := (wholeWords (bs.map Prod.fst)).foldl (fun m w => m.setDiff w (0, 0)) m
  bs.foldl (fun m p => m.writeByte p.1 p.2) m1

/-- A word that carries a failure to its destination: its store and number there, and, where it is a source word moved
whole, that word's data symbols and check difference as they were read. -/
structure BadWord where
  store : StoreId
  word : Nat
  moved : Option (List Byte × (Byte × Byte))
  deriving DecidableEq, Repr

/-- Words whose every later read fails correction (R146): a source word moved whole goes on unchanged with its check symbols
(spec/01 R20); any other takes a poison code, and its data symbols are free values (log entry 29). -/
def Mem.spoil (m : Mem) (ctr : Nat) (ws : List BadWord) : Mem :=
  ws.zipIdx.foldl (fun m p => match p.1.moved with
    | some (bs, d) => (m.writeRawN (16 * p.1.word) bs).setDiff p.1.word d
    | none => (m.writeRawN (16 * p.1.word) ((List.range 16).map (fun i => Config.freeByte (ctr + 16 * p.2 + i)))).setDiff
        p.1.word poisonDiff) m

/-- The stores that a list of spots names, each once. -/
def storesOf (l : List Spot) : List StoreId :=
  (l.filterMap (fun x => match x with | .held id _ => some id | _ => none)).dedup

/-- The bytes of a write that fall into one store. -/
def heldIn (id : StoreId) (ws : List (Spot × Byte)) : List (Nat × Byte) :=
  ws.filterMap (fun p => match p.1 with
    | .held j a => if j = id then some (a, p.2) else none
    | _ => none)

/-- A write into stores, and the words of it that carry a source word's failure. -/
def State.putSpots (s : State) (ws : List (Spot × Byte)) (bad : List BadWord) : State :=
  ((storesOf (ws.map Prod.fst)).foldl (fun t id =>
    let t := if id = .hbm then t.noteMerge ((heldIn id ws).map Prod.fst) else t
    t.setStore id (((t.store id).put (heldIn id ws)).spoil t.freeCtr
      (bad.filter (fun b => decide (b.store = id))))) s).setFreeCtr (s.freeCtr + 16 * bad.length)

/-- The word that a spot lies in. -/
def Spot.word : Spot → Option (StoreId × Nat)
  | .held id a => some (id, a / 16)
  | _ => none

/-- A write cut short by a discard: each word holds what it held or what the write gives it, and which is open (R162). -/
def State.mixSpots (s : State) (ws : List (Spot × Byte)) (bad : List BadWord) : State :=
  let words := (ws.filterMap (fun p => p.1.word)).dedup
  let new := (words.zipIdx.filter (fun p => Config.freeBool (s.freeCtr + p.2))).map Prod.fst
  (s.setFreeCtr (s.freeCtr + words.length)).putSpots
    (ws.filter (fun p => match p.1.word with | some w => new.contains w | none => false))
    (bad.filter (fun b => new.contains (b.store, b.word)))

/-- The copy-ahead blocks of the memory bytes that a write touches (spec/08 R209). -/
def spotBlocks (l : List Spot) : List (Nat × Nat) :=
  (l.filterMap (fun x => match x with
    | .held .hbm k => some (keyDie k, keyLoc k / 65536)
    | _ => none)).dedup

/-! ### Waits -/

/-- An earlier OPTIM of the stand has still to write a part of a versioned region that a software-visible byte lies in
(spec/01 R24). -/
def State.optimAhead (s : State) (st : Nat) (c : Cmd) (a : Nat) : Bool :=
  match s.regionAt a with
  | none => false
  | some (r, x) =>
    let t := s.twinOf r
    t.valid && (match s.groupAt x.group (t.unit4k (a - x.base)) with
      | some k => (s.stand st).inflight.any (fun d => decide (d.ticket < c.ticket) && decide (d.opcode = 0x20) &&
          !d.ended && decide (ugrpOf d.bytes = k))
      | none => false)

/-- The addresses of a run, one for each 32 bytes: no unit of an update group in a role region is smaller (spec/08 R193). -/
def each32 (a n : Nat) : List Nat := (List.range (ceilDiv n 32)).map (fun i => a + 32 * i)

/-- The software-visible addresses of a tensor's bytes in this device's memory: its own, or those of the blocks of its owner
table that lie here. -/
def State.memParts (s : State) (st : Nat) (d : Desc) : List Nat :=
  if d.space = 0 then each32 d.addr d.extent
  else if d.space = 3 then
    let t := s.owner st d.table
    let bl := 2 ^ t.blockLog2
    (List.range (ceilDiv d.shingles bl)).flatMap (fun k => match t.entries[k]? with
      | some e => if e.state = 1 ∧ e.device = s.img.deviceId ∧ e.stand = st then
          (d.blockRuns bl k).flatMap (fun r => each32 (e.addr + r.1) r.2) else []
      | none => [])
  else []

/-- A command's access to an operand in memory waits: for an earlier step's optimiser (spec/01 R24), or for an earlier SWEEP of
the region (spec/08 R207). -/
def State.memWaits (s : State) (st : Nat) (c : Cmd) (d : Desc) : Bool :=
  (s.memParts st d).any (fun a => s.optimAhead st c a || s.sweepAhead st c.ticket a)

/-- A memory operand lies in the G role of a group into which an earlier reduction has still to deliver (spec/08 R190, spec/09
R221). -/
def State.deliveryInto (s : State) (st : Nat) (c : Cmd) (d : Desc) : Bool :=
  (s.memParts st d).any (fun a => match s.regionAt a with
    | some (r, x) => (s.groupsOf st).any (fun k => decide ((s.tgroup (s.udef k).tgrp).g = r) &&
        (let (o, n) := s.groupRange k r; decide (x.base + o ≤ a) && decide (a < x.base + o + n)) &&
        (s.stand st).deliveryAhead c k)
    | none => false)

/-! ### Order among landing-engine commands (spec/08 R190) -/

/-- What a landing-engine command touches: runs of primary regions, as region, offset and length. -/
def State.landTouches (s : State) (st : Nat) (c : Cmd) : List (Nat × Nat × Nat) :=
  let g (k : Nat) : Nat := (s.tgroup (s.udef k).tgrp).g
  let run (k r : Nat) : Nat × Nat × Nat := (r, s.groupRange k r)
  let k := ugrpOf c.bytes
  match c.opcode with
  | 0x20 => (s.rolesOf k).map (fun x => run k x.2) ++ [run k (g k)]
  | 0x21 => [run k (fld c.bytes 20 1), run k (fld c.bytes 21 1), run k (g k)]
  | 0x22 => (s.sweptRegions st c.bytes).map (fun r => (r, 0, (s.region r).size))
  | 0x23 => (groupSpan k (bits (fld c.bytes 20 2) 13 0)).flatMap (fun j => (s.rolesOf j).map (fun x => run j x.2))
  | 0x12 => (s.memParts st (descOf c.bytes 96)).filterMap (fun a => (s.regionAt a).map (fun p => (p.1, a - p.2.base, 32)))
  | _ => []

/-- Two landing-engine commands touch one memory element. -/
def State.landMeets (s : State) (st : Nat) (c d : Cmd) : Bool :=
  (s.landTouches st c).any (fun x => (s.landTouches st d).any (fun y =>
    decide (x.1 = y.1) && spansMeet (x.2.1, x.2.1 + x.2.2) (y.2.1, y.2.1 + y.2.2)))

/-- A command's requests that no response has ended. -/
def StandSt.asking (x : StandSt) (ticket : Nat) : Bool :=
  x.reqs.any (fun r => decide (r.what = .skidder ticket)) || x.held.any (fun h => decide (h.what = .skidder ticket))

end Sys2Proof.Machine
end

