-- ==== Sys2Proof/Machine/StepOps.lean ====
section
/-! DEFINITION. Shared operations of steps (spec/12 R303-R309): records and their room in the log deck, the late ledger's
settling, steps that become APPLIED, and the discard of records. -/

namespace Sys2Proof.Machine

/-! ### Records and the deck (R306, R308) -/

/-- The record of a step. -/
def StepSt.rec_ (x : StepSt) (step : W64) : Option StepRec := x.records.find? (fun r => decide (r.step = step))

/-- The record of a step changed. -/
def StepSt.onRec (x : StepSt) (step : W64) (f : StepRec → StepRec) : StepSt :=
  { x with records := x.records.map (fun r => if r.step = step then f r else r) }

def State.onRec (s : State) (st : Nat) (step : W64) (f : StepRec → StepRec) : State :=
  let x := s.stand st
  s.setStand st { x with steps := x.steps.onRec step f }

/-- Bytes of a record's header and snapshot. -/
def recHead : Nat := 128 + 2048

/-- Bytes of a kept result. -/
def KeptResult.size (k : KeptResult) : Nat := 16 + 4 * k.vals.length

/-- BYTES of Table 12-3. -/
def StepRec.size (r : StepRec) : Nat :=
  (if r.unheld then 0 else recHead) + (r.cmds.map (fun c => c.bytes.length)).sum + 16 * r.entries +
    (r.kept.map KeptResult.size).sum

/-- Bytes of the deck that a stand uses. -/
def StepSt.deckUsed (x : StepSt) : Nat := (x.records.map StepRec.size).sum

/-- The stand's share of the deck has room for `n` bytes more (R308). -/
def State.deckRoom (s : State) (st n : Nat) : Bool :=
  decide ((s.stand st).steps.deckUsed + n ≤ (s.cfg st).deckMib * 2 ^ 20)

/-- A record that can no longer be read back whole: OVERFLOW, once for the step (R308). -/
def State.overflowRec (s : State) (st : Nat) (step : W64) : State :=
  match (s.stand st).steps.rec_ step with
  | some r => if r.overflow then s else (s.onRec st step (fun r => { r with overflow := true })).countStand st cDckOverflow
  | none => s

/-- An item of `n` bytes recorded; what does not fit sets OVERFLOW, once for the step (R308). -/
def State.recordItem (s : State) (st : Nat) (step : W64) (n : Nat) (f : StepRec → StepRec) : State :=
  match (s.stand st).steps.rec_ step with
  | none => s
  | some r =>
    if r.overflow then s
    else if s.deckRoom st n then s.onRec st step f
    else s.overflowRec st step

/-- A logged command recorded (R306). -/
def State.recordCmd (s : State) (st : Nat) (step : W64) (c : LoggedCmd) : State :=
  s.recordItem st step c.bytes.length (fun r => { r with cmds := r.cmds ++ [c] })

/-- A late-ledger entry recorded (R306). -/
def State.recordEntry (s : State) (st : Nat) (step : Option W64) : State :=
  match step with
  | some n => s.recordItem st n 16 (fun r => { r with entries := r.entries + 1 })
  | none => s

/-- A collective's results kept in place of those of an earlier run (R306, R308: what does not fit is not kept). -/
def State.recordKept (s : State) (st : Nat) (step : W64) (k : KeptResult) : State :=
  let t := s.onRec st step (fun r => { r with kept := r.kept.filter (fun q =>
    !(decide (q.seq = k.seq) && decide (q.mtab = k.mtab) && decide (q.inst = k.inst) && decide (q.segment = k.segment))) })
  match (t.stand st).steps.rec_ step with
  | none => t
  | some r =>
    if r.overflow then t
    else if t.deckRoom st k.size then t.onRec st step (fun r => { r with kept := r.kept ++ [k] })
    else t.countStand st cDckKeepSkipped

/-! ### Settling ledger entries (spec/09 R230) -/

/-- Open entries that the stand made (R230, R231). -/
def StandSt.openOwn (x : StandSt) : List LateEntry := x.ledger.filter (fun e => e.own && decide (e.disp = .isOpen))

/-- The open entries that satisfy `p` take a disposition. -/
def State.settle (s : State) (st : Nat) (p : LateEntry → Bool) (d : LateDisp) : State :=
  let x := s.stand st
  let n := (x.openOwn.filter p).length
  (s.setStand st { x with ledger := x.ledger.map (fun e =>
      if e.disp = .isOpen ∧ p e then { e with disp := d } else e) }).count
    (kStand st (if d = .carried then cTrsCarried else cTrsDropped)) n

/-! ### Steps that become APPLIED (R303) -/

/-- A replay is in progress: commands are left to re-issue (R316). -/
def StepSt.inReplay (x : StepSt) : Bool :=
  match x.replay with
  | some r => !r.steps.isEmpty
  | none => false

/-- The replay still has commands of the step to re-issue. -/
def StepSt.replaying (x : StepSt) (step : W64) : Bool :=
  match x.replay with
  | some r => r.steps.contains step
  | none => false

/-- A CLOSED step whose every command has completed. -/
def StandSt.stepOver (x : StandSt) (r : StepRec) : Bool :=
  decide (r.mode = .closed) && !x.steps.replaying r.step && x.inflight.all (fun c => decide (c.step ≠ some r.step))

/-- The timed payload of a command: T_START, T_END, and what follows from byte 32. -/
def timed (t0 t1 : W64) (rest : List Byte) : List Byte := natLe 8 t0.toNat ++ natLe 8 t1.toNat ++ rest

/-- The waiting STEP_END of a record completes with a status (R303). -/
def State.endStep (s : State) (st : Nat) (r : StepRec) (status : List W16) : State :=
  match r.endTicket with
  | none => s
  | some t => match (s.stand st).cmd t with
    | none => s
    | some c => s.finish st { c with statuses := status } (timed c.tStart s.clock.now [])

/-- Every step that is over becomes APPLIED, and its STEP_END completes. -/
def State.applySteps (s : State) (st : Nat) : State :=
  let x := s.stand st
  (x.steps.records.filter x.stepOver).foldl (fun t r =>
    (t.onRec st r.step (fun r => { r with mode := .applied, applied := s.clock.now, endTicket := none })).endStep st r []) s

/-! ### Discarding records (R303, R314) -/

/-- Carried values whose adding step's record goes, not committed, are held again (R231). -/
def Carry.unadd (k : Carry) (steps : List W64) : Carry :=
  match k.added with
  | some (_, some n) => if steps.contains n then { k with added := none } else k
  | _ => k

/-- Every unverified record discarded: the waiting STEP_ENDs complete with STEP_DISCARDED. -/
def State.discardRecords (s : State) (st : Nat) : State :=
  let x := s.stand st
  let steps := x.steps.records.map (·.step)
  let t := s.setStand st { x with
    steps := { x.steps with records := [] }
    ledger := x.ledger.filter (fun e => match e.step with | some n => !steps.contains n | none => true)
    carries := x.carries.map (·.unadd steps) }
  x.steps.records.foldl (fun t r => t.endStep st r [0x0116]) t

/-! ### Owned bytes and the recovery window (spec/09 R238, R239) -/

/-- KiB that an owner table places on the stand. -/
def OwnerTab.ownedKib (t : OwnerTab) (dev : W16) (st : Nat) : Nat :=
  if t.loaded then t.blockKib * (t.entries.filter (fun e => decide (e.device = dev) && decide (e.stand = st) &&
    decide (e.state ≠ 0))).length else 0

/-- The stand's owned bytes in KiB, table `i` being replaced by `t` where given. -/
def State.ownedKib (s : State) (st : Nat) (sub : Nat → Option OwnerTab) : Nat :=
  ((List.range 16).map (fun i =>
    ((sub i).getD ((s.stand st).owners.get OwnerTab.reset i)).ownedKib s.img.deviceId st)).sum

/-- STAGE_BUDGET in KiB. -/
def StandCfg.budgetKib (c : StandCfg) : Nat := c.budgetGib * 2 ^ 20

/-- The recovery window is open (R239). -/
def State.windowOpen (s : State) (st : Nat) : Bool := (s.stand st).recovery || (s.cfg st).govTest

/-- A change of one owner table that would break R239. -/
def State.overBudget (s : State) (st i : Nat) (t : OwnerTab) : Bool :=
  let now := s.ownedKib st (fun _ => none)
  let then_ := s.ownedKib st (fun j => if j = i then some t else none)
  !s.windowOpen st && decide (now < then_) && decide ((s.cfg st).budgetKib < then_)

end Sys2Proof.Machine
end

