-- ==== Sys2Proof/Machine/ReduceOps.lean ====
section
/-! DEFINITION. What reductions share (spec/09 R215-R232): the fixed shape, module results, member tables, segments, the
contributions and results that travel, carries and the late estimator. -/

namespace Sys2Proof.Machine

/-! ### The fixed shape (R216, R217) -/

/-- The running sum of a chain, in the order given (R216). -/
def chain32 : List Val → Val
  | [] => Val.zero
  | v :: vs => vs.foldl add32 v

/-- The largest power of two below `n`, for `n` of at least 2. -/
def powBelow (n : Nat) : Nat := 2 ^ Nat.log2 (n - 1)

/-- `tree` of R217; `f` bounds its depth. -/
def treeIn : Nat → List Val → Val
  | 0, l => l.headD Val.zero
  | f + 1, l =>
    if l.length ≤ 1 then l.headD Val.zero
    else add32 (treeIn f (l.take (powBelow l.length))) (treeIn f (l.drop (powBelow l.length)))

def tree32 (l : List Val) : Val := treeIn l.length l

/-- A binary32 value's code. -/
def code32 (v : Val) : W32 := BitVec.ofNat 32 (fFP32.encode v)

/-! ### Contributors at module level (R220) -/

/-- SRC as contributor `i` of the named clusters holds it: each selected core in ascending order, or the cluster. -/
def RedArgs.leafDescs (a : RedArgs) (i : Nat) : List Desc :=
  if a.src.space = 2 then ((List.range 4).filter (bit a.cores)).map (fun k =>
    { a.src with cluster := a.clu0 + i, core := k })
  else [{ a.src with cluster := a.clu0 + i }]

/-- A contributor can be read: a logical core with a physical one, and its cluster's chain in service (spec/11 R296, spec/13
R342). -/
def State.leafThere (s : State) (st : Nat) (d : Desc) : Bool :=
  (s.storeOf st d).isSome && (decide (d.space ≠ 2) || (match s.standCluster st d.cluster with
    | some px => !s.clusterFenced (.purlin px)
    | none => false))

/-- Every contributor, of every named cluster. -/
def RedArgs.allLeaves (a : RedArgs) : List Desc := if a.src.space = 0 then [a.src] else (List.range a.nclu).flatMap a.leafDescs

/-- A contributor's element as an addition takes it (R215): +0 where a word fails correction (spec/11 R418). -/
def State.leafVal (s : State) (st : Nat) (c : Cmd) (d : Desc) (i : Nat) : Val × Nat :=
  let e := d.unlin i
  if (d.bytesAt e).any (s.spotBad st c d) then (Val.zero, 0)
  else toConsumer32 (d.value (s.spotByte st c d) e.1 e.2.1 e.2.2.1 e.2.2.2)

/-- The chain result of one cluster. -/
def State.clusterVal (s : State) (st : Nat) (c : Cmd) (a : RedArgs) (r i : Nat) : Val × Nat :=
  let vs := ((a.leafDescs r).filter (s.leafThere st)).map (fun d => s.leafVal st c d i)
  (chain32 (vs.map Prod.fst), (vs.map Prod.snd).sum)

/-- The module result of one element (R217, levels 1 and 2), and how often decoding left binary32's range. -/
def State.moduleVal (s : State) (st : Nat) (c : Cmd) (a : RedArgs) (i : Nat) : Val × Nat :=
  if a.src.space = 0 then s.leafVal st c a.src i
  else
    let vs := (List.range a.nclu).map (fun r => ((s.cfg st).clusters.getD (a.clu0 + r) 0 / 4, s.clusterVal st c a r i))
    let dies := (vs.map Prod.fst).dedup
    (tree32 (dies.map (fun d => tree32 ((vs.filter (fun p => decide (p.1 = d))).map (·.2.1)))), (vs.map (·.2.2)).sum)

/-- The words that the module stages read, each once. -/
def State.redReads (s : State) (st : Nat) (c : Cmd) (a : RedArgs) : List (StoreId × Nat) :=
  (a.allLeaves.filter (s.leafThere st)).flatMap (fun d =>
    if s.storeClean st d then [] else ((d.coords.flatMap d.bytesAt).filterMap (s.spotWord st c d)).dedup)

/-! ### Member tables and segments (R223, R224, R327) -/

def State.mtab (s : State) (st m : Nat) : MemberTab := (s.stand st).mtabs.get MemberTab.reset m

/-- The ranks at which a device and stand appear. -/
def MemberTab.ranksOf (t : MemberTab) (dev : W16) (st : Nat) : List Nat :=
  (List.range t.members.length).filter (fun r => decide (t.members[r]? = some (dev, st)))

/-- The rank of a device and stand that appear exactly once (R223). -/
def MemberTab.rank (t : MemberTab) (dev : W16) (st : Nat) : Option Nat :=
  match t.ranksOf dev st with
  | [r] => some r
  | _ => none

def State.rankIn (s : State) (st m : Nat) : Option Nat := (s.mtab st m).rank s.img.deviceId st

/-- A peer in sapling mode (spec/12 R327). -/
def StandSt.sapling (x : StandSt) (d : W16) : Bool :=
  x.peers.any (fun p => decide (p.device = d) && decide (p.state = .sapling))

/-- A rank counts as fenced for leaves and ownership (R218, spec/12 R327). -/
def State.leafFenced (s : State) (st m r : Nat) : Bool :=
  match (s.mtab st m).members[r]? with
  | some (d, _) => s.fenced st d || (s.stand st).sapling d
  | none => true

/-- A rank is fenced, saplings left out. -/
def State.rankFenced (s : State) (st m r : Nat) : Bool :=
  match (s.mtab st m).members[r]? with
  | some (d, _) => s.fenced st d
  | none => true

/-- S of R224. -/
def segSize (e d : Nat) : Nat := 4096 * ceilDiv e (4096 * d)

/-- Elements of segment `k` (R224). -/
def segLen (e d k : Nat) : Nat := min ((k + 1) * segSize e d) e - min (k * segSize e d) e

/-- The owner of segment `k` of an operation (R224). -/
def segOwner (op : Nat) (out : Nat → Bool) (d k : Nat) : Option Nat :=
  if op = 2 then (if out k then none else some k)
  else ((List.range d).map (fun i => (k + i) % d)).find? (fun r => !out r)

def State.ownerOf (s : State) (st : Nat) (x : Coll) (k : Nat) : Option Nat :=
  segOwner x.op (s.leafFenced st x.mtab) (s.mtab st x.mtab).members.length k

def StandSt.coll (x : StandSt) (ticket : Nat) : Option Coll := x.colls.find? (fun y => decide (y.ticket = ticket))

/-- A reduction at work changed. -/
def State.setColl (s : State) (st : Nat) (y : Coll) : State :=
  let x := s.stand st
  s.setStand st { x with colls := x.colls.map (fun z => if z.ticket = y.ticket then y else z) }

/-- Segment lengths of a reduction over its member table. -/
def State.lenOf (s : State) (st : Nat) (y : Coll) (k : Nat) : Nat := segLen y.count (s.mtab st y.mtab).members.length k

/-- The part of a member's module result that is segment `k`. -/
def State.partOf (s : State) (st : Nat) (y : Coll) (k : Nat) : List W32 :=
  (y.vals.drop (k * segSize y.count (s.mtab st y.mtab).members.length)).take (s.lenOf st y k)

/-! ### What travels (R225, R226, spec/10 R264) -/

/-- The meta word of R264, with the reserved bit 121 as the results of a collective use it. -/
def metaWord (y : Coll) (rank : Nat) (taint entries : Bool) : List Byte :=
  natLe 16 (y.version.toNat + y.inst.toNat * 2 ^ 32 + y.count % 2 ^ 32 * 2 ^ 64 + y.op % 16 * 2 ^ 96 + y.collId % 256 * 2 ^ 100 +
    rank % 256 * 2 ^ 108 + (if taint then 2 ^ 116 else 0) + y.mtab % 16 * 2 ^ 117 + (if entries then 2 ^ 121 else 0))

/-- A meta word taken apart. -/
structure Meta where
  version : W32
  inst : W32
  count : Nat
  op : Nat
  collId : Nat
  rank : Nat
  taint : Bool
  mtab : Nat
  entries : Bool
  deriving DecidableEq, Repr

def metaOf (bs : List Byte) : Meta :=
  let n := leNat (bs.take 16)
  { version := BitVec.ofNat 32 n, inst := BitVec.ofNat 32 (n / 2 ^ 32), count := bits n 95 64, op := bits n 99 96,
    collId := bits n 107 100, rank := bits n 115 108, taint := bit n 116, mtab := bits n 120 117, entries := bit n 121 }

/-- Codes as bytes, and bytes as codes. -/
def codeBytes (vs : List W32) : List Byte := vs.flatMap (fun v => natLe 4 v.toNat)
def codesOf (bs : List Byte) : List W32 := (List.range (bs.length / 4)).map (fun i => BitVec.ofNat 32 (fld bs (4 * i) 4))

/-- A list cut into chunks of `n`. -/
def chunks {α : Type} (n : Nat) : Nat → List α → List (List α)
  | 0, _ => []
  | f + 1, l => if l.isEmpty then [] else l.take n :: chunks n f (l.drop n)

/-- How far a segment's owner lies past the segment's own rank: zero unless the segment is reassigned (R224). -/
def segShift (d k owner : Nat) : Nat := (owner + d - k % d) % d

/-- The meta word of a contribution. Its reserved bits [127:121] say which of its segments the owner is to take it for, as
`segShift`, which the specification leaves without a place (DESIGN CHOICE 80). -/
def contribMeta (y : Coll) (rank : Nat) (taint : Bool) (shift : Nat) : List Byte :=
  natLe 16 (leNat (metaWord y rank taint false) + shift % 128 * 2 ^ 121)

/-- The step of a command has a marked Scaler record (R226). -/
def State.stepTainted (s : State) (st : Nat) (c : Cmd) : Bool :=
  match c.step with
  | some n => ((s.stand st).steps.rec_ n).any (fun r => r.mark.isSome)
  | none => false

/-- TAINT of what a reduction sends now (R226). -/
def State.taintNow (s : State) (st : Nat) (y : Coll) : Bool :=
  y.taint || ((s.stand st).cmd y.ticket).any (s.stepTainted st)

/-- A request of a collective: over a tensor group only its direct bond carries it (R233). -/
def State.askColl (s : State) (st ttype : Nat) (y : Coll) (dev : W16) (ds addr k r : Nat) (meta_ payload : List Byte) :
    State × Asked :=
  s.ask st { ttype := ttype, dst := dev, dstand := ds, addr := addr, meta_ := meta_, payload := payload, diffs := [], coll := true
             what := .collective y.ticket k r, bond := (s.mtab st y.mtab).tg }

/-- A contribution that could not be sent is kept to be sent again (R225). -/
def State.keepUnsent (s : State) (st ticket k owner : Nat) : State :=
  match (s.stand st).coll ticket with
  | some y => s.setColl st { y with unsent := (y.unsent.filter (· ≠ (k, owner))) ++ [(k, owner)] }
  | none => s

/-- A member's contribution to a segment sent to its owner (R224, R225): chunks of 4,096 bytes at their byte offsets within the
segment (spec/10 Table 10-6). -/
def State.sendContrib (s : State) (st : Nat) (y : Coll) (my k owner : Nat) : State :=
  let t := s.mtab st y.mtab
  match t.members[owner]? with
  | none => s
  | some (dev, ds) =>
    let part := s.partOf st y k
    let cs := if part.isEmpty then [[]] else chunks 1024 (part.length / 1024 + 1) part
    let m := contribMeta y my (s.taintNow st y) (segShift t.members.length k owner)
    cs.zipIdx.foldl (fun u p => match u.askColl st 3 y dev ds (4096 * p.2) k owner m (codeBytes p.1) with
      | (v, .unreachable) => v.keepUnsent st y.ticket k owner
      | (v, _) => v) s

/-- Where the results of collectives go at a peer: above every software-visible address (spec/07 R168). -/
def resultBase : Nat := 960 * 2 ^ 30

/-- A ledger entry's 16 bytes (Table 9-5). -/
def LateEntry.bytes (e : LateEntry) : List Byte :=
  natLe 1 e.collId ++ natLe 1 (e.mtab + (match e.reason with | .late => 0 | .fenced => 16 | .mismatch => 32) +
    (match e.disp with | .isOpen => 0 | .carried => 64 | .dropped => 128)) ++ natLe 1 e.rank ++ natLe 1 e.segment ++
    natLe 4 e.inst.toNat ++ natLe 4 e.carryInst.toNat ++ natLe 4 0

/-- A ledger entry from its bytes, as a member that did not make it records it. -/
def entryOf (b : List Byte) (version : W32) (step : Option W64) : LateEntry :=
  let f := fld b 1 1
  { step := step, collId := fld b 0 1, mtab := bits f 3 0, version := version
    reason := if bits f 5 4 = 0 then .late else if bits f 5 4 = 1 then .fenced else .mismatch
    disp := if bits f 7 6 = 0 then .isOpen else if bits f 7 6 = 1 then .carried else .dropped
    rank := fld b 2 1, segment := fld b 3 1, inst := BitVec.ofNat 32 (fld b 4 4), carryInst := BitVec.ofNat 32 (fld b 8 4)
    own := false, mayCarry := false }

/-- The messages of a segment's result: its ledger entries first, then its values, each with its place. -/
def resultMsgs (y : Coll) (k : Nat) (vs : List W32) (taint : Bool) (es : List LateEntry) : List (Nat × List Byte) :=
  (chunks 255 (es.length / 255 + 1) es).map (fun l => (resultBase, metaWord y k taint true ++ l.flatMap LateEntry.bytes)) ++
    (chunks 1020 (vs.length / 1020 + 1) vs).zipIdx.map (fun p =>
      (resultBase + 4096 * p.2, metaWord y k taint false ++ codeBytes p.1))

/-- A segment's result sent to a rank, with its ledger entries (R224, R229); a rank that does not receive the values still takes
the entries. -/
def State.sendResult (s : State) (st : Nat) (y : Coll) (k : Nat) (vs : List W32) (taint : Bool) (es : List LateEntry)
    (r : Nat) : State :=
  match (s.mtab st y.mtab).members[r]? with
  | none => s
  | some (dev, ds) => (resultMsgs y k vs taint es).foldl (fun u p => (u.askColl st 1 y dev ds p.1 k r [] p.2).1) s

/-- The ranks other than this one that are not fenced, saplings among them (R224, spec/12 R327). -/
def State.hearers (s : State) (st : Nat) (y : Coll) (my : Nat) : List Nat :=
  (List.range (s.mtab st y.mtab).members.length).filter (fun r => decide (r ≠ my) && !s.rankFenced st y.mtab r)

/-! ### Results received (R226, R241) -/

/-- The results that this device needs of a reduction (R224). -/
def State.needed (s : State) (st : Nat) (y : Coll) : List Nat :=
  let n := (s.mtab st y.mtab).members.length
  let full := (List.range n).filter (fun k => decide (0 < s.lenOf st y k))
  match y.op with
  | 1 | 4 => full
  | 2 => full.filter (fun k => decide (s.rankIn st y.mtab = some k))
  | 3 => full.filter (fun k => !s.rankFenced st y.mtab k)
  | _ => []

/-- The result of a segment, as far as it has come. -/
def Coll.result (y : Coll) (k : Nat) : Option (List W32 × Bool) := (y.results.find? (fun r => decide (r.1 = k))).map Prod.snd

/-- Segment `k` has come whole. -/
def State.hasResult (s : State) (st : Nat) (y : Coll) (k : Nat) : Bool :=
  match y.result k with
  | some r => decide (s.lenOf st y k ≤ r.1.length)
  | none => false

/-- Values placed at an offset of a list, which is filled up with +0 before it. -/
def placeAt (l : List W32) (o : Nat) (vs : List W32) : List W32 :=
  (l ++ List.replicate (o - l.length) 0).take o ++ vs ++ l.drop (o + vs.length)

/-- A result whole: one with TAINT marks the step (R226). -/
def State.resultWhole (s : State) (st : Nat) (y : Coll) (taint : Bool) : State :=
  match taint, (s.stand st).cmd y.ticket with
  | true, some c => (s.countStand st cTrsTainted).markCmd st c 7
  | _, _ => s

/-- Part of a segment's result recorded at an offset; one with TAINT marks the step once it is whole. -/
def State.putPart (s : State) (st : Nat) (y : Coll) (k o : Nat) (vs : List W32) (taint : Bool) : State :=
  let old := (y.result k).getD ([], false)
  let y' := { y with results := (y.results.filter (fun r => decide (r.1 ≠ k))) ++ [(k, placeAt old.1 o vs, old.2 || taint)] }
  let t := s.setColl st y'
  if !s.hasResult st y k && t.hasResult st y' k then t.resultWhole st y' (old.2 || taint) else t

/-! ### The late estimator (R228) -/

def State.late (s : State) (st coll : Nat) : LateEst := (s.stand st).lates.get ⟨(s.cfg st).lateSeedUs, 0⟩ coll

/-- W in µs. -/
def State.windowUs (s : State) (st coll : Nat) : Rat :=
  let c := s.cfg st
  let e := s.late st coll
  if e.samples < 32 then c.lateMaxUs else max c.lateMinUs (min c.lateMaxUs (2 * e.est + c.lateMarginUs))

/-- A sample in ns. -/
def State.lateSample (s : State) (st coll ns : Nat) : State :=
  let e := s.late st coll
  let e' : LateEst := ⟨e.est + ((ns : Rat) / 1000 - e.est) / 8, min 32 (e.samples + 1)⟩
  s.setStand st { s.stand st with lates := (s.stand st).lates.set coll e' }

/-! ### Contributions in staging (R225-R230) -/

/-- Bytes of staging in use. -/
def StandSt.staged (x : StandSt) : Nat := (x.contribs.map (fun c => 4 * c.vals.length)).sum

/-- The staged contribution of a rank to a segment of an instance. -/
def StandSt.contrib (x : StandSt) (m : Nat) (i : W32) (k r : Nat) : Option Contrib :=
  x.contribs.find? (fun c => decide (c.mtab = m) && decide (c.inst = i) && decide (c.segment = k) && decide (c.rank = r))

/-- A contribution agrees with the owner's own (R226). -/
def Contrib.matches_ (c : Contrib) (y : Coll) : Bool :=
  decide (c.version = y.version) && decide (c.op = y.op) && decide (c.collId = y.collId) && decide (c.count = y.count % 2 ^ 32)

def Contrib.of (c : Contrib) (y : Coll) : Bool := decide (c.mtab = y.mtab) && decide (c.inst = y.inst)

/-- Staged contributions of an instance that disagree are discarded (R226). -/
def State.matchStaged (s : State) (st : Nat) (y : Coll) : State :=
  let x := s.stand st
  let bad := x.contribs.filter (fun c => c.of y && !c.matches_ y)
  (((s.setStand st { x with contribs := x.contribs.filter (fun c => !(c.of y) || c.matches_ y) }).count
    (kStand st cTrsMismatch) bad.length).setColl st
      { y with mism := y.mism ++ bad.map (fun c => (c.segment, c.rank)) })

/-- The ranks whose contributions to a segment are complete in staging, with the times. -/
def StandSt.arrived (x : StandSt) (y : Coll) (k : Nat) : List (Nat × W64) :=
  x.contribs.filterMap (fun c => if c.of y && decide (c.segment = k) then c.doneAt.map (fun t => (c.rank, t)) else none)

/-- T0 of a segment (R227), in ns. -/
def StandSt.t0 (x : StandSt) (y : Coll) (k : Nat) : Option Nat :=
  let ts := (x.arrived y k).map (fun p => p.2.toNat) ++ (y.ownAt.map BitVec.toNat).toList
  match ts with
  | [] => none
  | t :: ts => some (ts.foldl min t)

/-- The ledger entry of a rank's contribution to a segment of an instance. -/
def StandSt.entry (x : StandSt) (y : Coll) (k r : Nat) : Option LateEntry :=
  x.ledger.find? (fun e => e.own && decide (e.collId = y.collId) && decide (e.mtab = y.mtab) &&
    decide (e.version = y.version) && decide (e.inst = y.inst) && decide (e.segment = k) && decide (e.rank = r))

/-- A ledger entry made (R229). -/
def State.addEntry (s : State) (st : Nat) (e : LateEntry) : State :=
  (s.setStand st { s.stand st with ledger := (s.stand st).ledger ++ [e] }).recordEntry st e.step

/-- Bytes that carried values take (R230). -/
def StandSt.carryBytes (x : StandSt) : Nat := (x.carries.map (fun c => 4 * c.vals.length)).sum

/-- A late contribution that is complete settles its entry: carried if that is allowed and there is room, and otherwise
dropped (R230, R231). -/
def State.settleLate (s : State) (st : Nat) (c : Contrib) (e : LateEntry) : State :=
  let x := s.stand st
  let same (f : LateEntry) : Bool := decide (f = e)
  let fits := e.mayCarry && decide (x.carryBytes + 4 * c.vals.length ≤ (s.cfg st).carryMib * 2 ^ 20)
  let t := s.setStand st { x with
    contribs := x.contribs.filter (fun d => decide (d ≠ c))
    carries := if fits then x.carries ++ [⟨c.collId, c.mtab, c.version, c.segment, c.rank, c.inst, c.vals, c.taint, none⟩]
      else x.carries }
  t.settle st same (if fits then .carried else .dropped)

/-- The open late entry that a staged contribution settles. -/
def StandSt.openFor (x : StandSt) (c : Contrib) : Option LateEntry :=
  x.openOwn.find? (fun e => decide (e.reason = .late) && decide (e.collId = c.collId) && decide (e.mtab = c.mtab) &&
    decide (e.version = c.version) && decide (e.inst = c.inst) && decide (e.segment = c.segment) && decide (e.rank = c.rank))

/-- The carries that an instance adds to a segment: of the earlier instances the oldest of each rank (R231), or those that the
ledger names (R232). -/
def StandSt.carriesFor (x : StandSt) (y : Coll) (k : Nat) (replay : Bool) : List Carry :=
  let ok := x.carries.filter (fun c => decide (c.collId = y.collId) && decide (c.mtab = y.mtab) &&
    decide (c.version = y.version) && decide (c.segment = k) && decide (c.inst ≠ y.inst) && (if replay then decide (c.added.map Prod.fst = some y.inst)
      else c.added.isNone))
  ok.filter (fun c => decide ((ok.find? (fun d => decide (d.rank = c.rank))) = some c))

/-! ### Writing DST (R220, R224) -/

/-- The elements of DST whose value is not to be written keep their bytes, whole blocks at a time. -/
def Desc.keepOffs (d : Desc) (some_ : Nat → Bool) : List Nat :=
  let unit (e : Coord) : Nat := if d.fmt.scaled then d.scaleOff e.1 e.2.1 e.2.2.1 e.2.2.2 else d.elemOff e.1 e.2.1 e.2.2.1 e.2.2.2
  let has (e : Coord) : Bool := some_ (d.lin e.1 e.2.1 e.2.2.1 e.2.2.2)
  let used := ((d.coords.filter has).map unit).dedup
  (d.coords.filter (fun e => !has e && !used.contains (unit e))).flatMap d.bytesAt

/-- A stand without one of its commands. -/
def StandSt.others (x : StandSt) (ticket : Nat) : StandSt :=
  { x with inflight := x.inflight.filter (fun e => decide (e.ticket ≠ ticket)) }

/-- DST written from result codes, element by element under its format word; `none` while the write waits. -/
def State.putResult (s : State) (st : Nat) (c : Cmd) (d : Desc) (val : Nat → Option W32) : Option (State × Cmd) :=
  if d.space = 2 ∧ (s.storeOf st d).isNone then some (if c.statuses.contains 0x01f3 then (s, c) else s.unavailable st c)
  else
    if (decide (d.space = 2) && ((s.stand st).others c.ticket).matHolds d.cluster d.core d.span) || s.srcHeld st c.ticket d ||
        (s.memParts st d).any (s.sweepAhead st c.ticket) then none
    else
      let v (e0 e1 e2 e3 : Nat) : Val := match val (d.lin e0 e1 e2 e3) with
        | some w => val32 w
        | none => d.value (s.spotByte st c d) e0 e1 e2 e3
      let o := d.store (s.recipe d.fmt) (c.sr d.fmt) v d.lin
      let left := if (List.range d.count).all (fun i => (val i).isSome) then [] else d.keepOffs (fun i => (val i).isSome)
      let ws := (o.bytes.filter (fun p => left.isEmpty || !left.contains p.1)).map (fun p => (s.spot st c d p.1, p.2))
      (s.stageFor (spotBlocks (ws.map Prod.fst))).map (fun t => ((t.putSpots ws []).countFmt st o.cnt, c))

end Sys2Proof.Machine
end

