-- ==== Sys2Proof/Machine/Skidder.lean ====
section
/-! DEFINITION. The Skidder's commands (spec/06 R147-R162): MOVE, GATHER, SCATTER_ADD and WINDOW, their checks and their
work. -/

namespace Sys2Proof.Machine

/-- The control block of Table 6-3 with the descriptors behind it. -/
structure SkidArgs where
  op : Nat
  cluster : Nat
  fill : Bool
  perm : Nat
  padmode : Nat
  value : W32
  kh : Nat
  kw : Nat
  sh : Nat
  sw : Nat
  dh : Nat
  dw : Nat
  src : Desc
  idx : Desc
  dst : Desc
  deriving DecidableEq, Repr

def skidArgs (p : List Byte) : SkidArgs :=
  let op := fld p 0 1
  let two := decide (op = 0x10) || decide (op = 0x13)
  { op := op, cluster := bits (fld p 16 1) 6 0, fill := bit (fld p 17 1) 0, perm := fld p 18 1,
    padmode := bits (fld p 19 1) 1 0, value := fmtAt p 20, kh := fld p 24 1, kw := fld p 25 1, sh := fld p 26 1,
    sw := fld p 27 1, dh := fld p 28 1, dw := fld p 29 1, src := descOf p 32, idx := descOf p 64,
    dst := descOf p (if two then 64 else 96) }

/-- The arguments of a command of a step, its owner tables as the governor resolves them (spec/09 R240). -/
def State.skidArgs (s : State) (st : Nat) (step : Option W64) (p : List Byte) : SkidArgs :=
  let a := Sys2Proof.Machine.skidArgs p
  { a with src := s.viaSpill st step a.src, dst := s.viaSpill st step a.dst }

/-- The command has an index list. -/
def SkidArgs.indexed (a : SkidArgs) : Bool := decide (a.op = 0x11) || decide (a.op = 0x12)

/-- Source axis of destination axis `i` (R147). -/
def SkidArgs.axis (a : SkidArgs) (i : Nat) : Nat := if a.op = 0x10 then bits a.perm (2 * i + 1) (2 * i) else i

/-- PERM is a permutation of 0 to 3. -/
def SkidArgs.permOk (a : SkidArgs) : Bool := (List.range 4).all (fun k => (List.range 4).any (fun i => decide (a.axis i = k)))

/-- The copy is code for code (R148). -/
def SkidArgs.raw (a : SkidArgs) : Bool :=
  let x := a.src.fmt
  let y := a.dst.fmt
  !a.fill && decide (a.op ≠ 0x12) && decide (a.op ≠ 0x13) && decide (x.fmt = y.fmt) && decide (x.blockCode = y.blockCode) &&
    (x.scaled == y.scaled) && (x.zp == y.zp) && decide (x.wbits = y.wbits) && !y.round && !y.sat && decide (y.kind = 0) &&
    decide (y.stream = 0) && decide (a.axis 0 = 0)

/-- The operands that the command reads or writes. -/
def SkidArgs.operands (a : SkidArgs) : List Desc :=
  (if a.fill then [] else [a.src]) ++ (if a.indexed then [a.idx] else []) ++ [a.dst]

/-- The source position of a destination position under MOVE (R147). -/
def SkidArgs.permuted (a : SkidArgs) (e : Coord) : Coord :=
  let d (i : Nat) : Nat := match i with | 0 => e.1 | 1 => e.2.1 | 2 => e.2.2.1 | _ => e.2.2.2
  let s (k : Nat) : Nat := (((List.range 4).find? (fun i => decide (a.axis i = k))).map d).getD 0
  (s 0, s 1, s 2, s 3)

/-! ### The window (R156-R158, Table 6-4) -/

/-- WINDOW's parameters, the window fields as PADMODE gives them. -/
structure WinArgs where
  pt : Nat
  pb : Nat
  pl : Nat
  pr : Nat
  h0 : Nat
  h1 : Nat
  w0 : Nat
  w1 : Nat
  deriving DecidableEq, Repr

def winArgs (p : List Byte) (a : SkidArgs) : WinArgs :=
  let f (o : Nat) : Nat := bits (fld p o 4) 23 0
  { pt := fld p 96 1, pb := fld p 97 1, pl := fld p 98 1, pr := fld p 99 1
    h0 := if a.padmode = 0 then 0 else f 100
    h1 := if a.padmode = 0 then a.src.e2 else f 104
    w0 := if a.padmode = 0 then 0 else f 108
    w1 := if a.padmode = 0 then a.src.e1 else f 112 }

/-- The output size along one axis (R156). -/
def outSize (lo hi p0 p1 dil k str : Nat) : Int :=
  Int.fdiv ((hi : Int) - lo + p0 + p1 - dil * ((k : Int) - 1) - 1) str + 1

def SkidArgs.ho (a : SkidArgs) (w : WinArgs) : Int := outSize w.h0 w.h1 w.pt w.pb a.dh a.kh a.sh
def SkidArgs.wo (a : SkidArgs) (w : WinArgs) : Int := outSize w.w0 w.w1 w.pl w.pr a.dw a.kw a.sw

/-- The source position of an OUT position, `none` where R157 makes it padding. -/
def SkidArgs.windowed (a : SkidArgs) (w : WinArgs) (e : Coord) : Option Coord :=
  let c := a.src.e0
  let ho := (a.ho w).toNat
  let wo := (a.wo w).toNat
  let n := e.2.1 / (ho * wo)
  let hi : Int := (w.h0 : Int) + (e.2.1 / wo % ho) * a.sh + (e.1 / c / a.kw) * a.dh - w.pt
  let wi : Int := (w.w0 : Int) + (e.2.1 % wo) * a.sw + (e.1 / c % a.kw) * a.dw - w.pl
  if hi < 0 ∨ (a.src.e2 : Int) ≤ hi ∨ wi < 0 ∨ (a.src.e1 : Int) ≤ wi then none
  else if a.padmode = 1 ∧ (hi < w.h0 ∨ (w.h1 : Int) ≤ hi ∨ wi < w.w0 ∨ (w.w1 : Int) ≤ wi) then none
  else some (e.1 % c, wi.toNat, hi.toNat, n)

/-- A limit of R156 or R158 is broken. -/
def SkidArgs.overLimit (a : SkidArgs) (w : WinArgs) (p : List Byte) : Bool :=
  [a.kh, a.kw].any (fun k => decide (k < 1) || decide (k > 11)) ||
    [a.sh, a.sw, a.dh, a.dw].any (fun k => decide (k < 1) || decide (k > 4)) ||
    [w.pt, w.pb, w.pl, w.pr].any (fun k => decide (k > 63)) || decide (a.padmode = 3) ||
    (decide (a.padmode = 0) && !isZeroRange p 100 16) || decide (w.h0 ≥ w.h1) || decide (w.w0 ≥ w.w1) ||
    decide (w.h1 > a.src.e2) || decide (w.w1 > a.src.e1)

/-! ### Checks (R160, Table 6-5) -/

/-- Two operands share part of their extents in one place. -/
def Desc.overlaps (x y : Desc) : Bool :=
  decide (x.space = y.space) && decide (x.space ≠ 3) && (decide (x.space = 0) || decide (x.cluster = y.cluster)) &&
    (decide (x.space ≠ 2) || decide (x.core = y.core)) && spansMeet x.span y.span

/-- Identical descriptors apart from their format words. -/
def Desc.samePlace (x y : Desc) : Bool := decide ({ x with fmtRaw := y.fmtRaw, fmt := y.fmt } = y)

/-- Bytes past which a local operand may not run (R131). -/
def localLimit (space : Nat) : Nat := if space = 1 then 12582912 else spadBytes

/-- Every reserved field of the packet's body is zero.  Of WINDOW's four window fields Table 6-4 gives bits [23:0] for WH0
alone; DESIGN CHOICE: the top bytes of WH1, WW0 and WW1 (bytes 107, 111 and 115) are reserved like WH0's, so that a value
there is MALFORMED and no part of the field (log entry 28). -/
def skidReservedOk (p : List Byte) (a : SkidArgs) : Bool :=
  !bit (fld p 16 1) 7 && decide (bits (fld p 17 1) 7 1 = 0) && decide (bits (fld p 19 1) 7 2 = 0) && isZeroRange p 30 2 &&
    descReservedOk p 32 && descReservedOk p 64 &&
    (if a.op = 0x10 then isZeroRange p 96 32
     else if a.op = 0x13 then isZeroRange p 116 12 && [103, 107, 111, 115].all (fun o => decide (fld p o 1 = 0))
     else descReservedOk p 96)

/-- The format words of a command, and what it accepts of them (spec/03 Table 3-4, R148). -/
def SkidArgs.formats (a : SkidArgs) : List FmtUse :=
  let anyFmt (x : FmtWord) : Bool := x.fmt.isFloat || (decide (x.fmt = .intp) && a.raw)
  [⟨a.src.fmtRaw, false, a.fill || anyFmt a.src.fmt⟩,
   ⟨a.dst.fmtRaw, true, if a.op = 0x12 then decide (a.dst.fmt.fmt = .fp32) && !a.dst.fmt.scaled else anyFmt a.dst.fmt⟩]

/-- A field that the command leaves unused is not zero (Table 6-3). -/
def SkidArgs.unusedSet (a : SkidArgs) : Bool :=
  (decide (a.op ≠ 0x10) && (a.fill || decide (a.perm ≠ 0))) || (decide (a.op ≠ 0x13) && (decide (a.padmode ≠ 0) ||
    [a.kh, a.kw, a.sh, a.sw, a.dh, a.dw].any (fun k => decide (k ≠ 0)))) ||
    (!(decide (a.op = 0x13) || a.fill) && decide (a.value ≠ 0))

/-- An operand's SPACE, ROWAX or extents are not valid. -/
def Desc.malshaped (d : Desc) : Bool :=
  decide (d.space > 3) || (decide (d.layout = .linear) && decide (d.rowax ≠ 0)) ||
    (decide (d.layout ≠ .linear) && decide (d.rowax = 0)) || [d.e0, d.e1, d.e2, d.e3].any (fun e => decide (e = 0))

/-- Extents or row counts disagree (R147, R151-R153, R156). -/
def SkidArgs.shapesDisagree (a : SkidArgs) (w : WinArgs) : Bool :=
  if a.op = 0x10 then !a.fill && (List.range 4).any (fun i => decide (a.dst.ext i ≠ a.src.ext (a.axis i)))
  else if a.indexed then
    decide (a.idx.e1 ≠ 1) || decide (a.idx.e2 ≠ 1) || decide (a.idx.e3 ≠ 1) || decide (a.src.e0 ≠ a.dst.e0) ||
      decide ((if a.op = 0x11 then a.dst.rows else a.src.rows) ≠ a.idx.e0)
  else
    decide (a.dst.e0 ≠ a.kh * a.kw * a.src.e0) || decide (a.dst.e2 ≠ 1) || decide (a.dst.e3 ≠ 1) ||
      decide (a.dst.rowax ≠ 1) || (decide (a.sh ≠ 0) && decide (a.sw ≠ 0) &&
        (decide (a.ho w < 1) || decide (a.wo w < 1) ||
          decide (a.dst.e1 ≠ a.src.e3 * (a.ho w).toNat * (a.wo w).toNat)))

/-- An operand's space is not allowed where it stands, or its cluster is not the stand's. -/
def State.badTarget (s : State) (st : Nat) (p : List Byte) (a : SkidArgs) : Bool :=
  let n := (s.cfg st).clusters.length
  decide (a.cluster ≥ n) ||
    a.operands.any (fun d => (decide (d.space = 1) || decide (d.space = 2)) && decide (d.cluster ≥ n)) ||
    decide ((a.operands.filter (fun d => decide (d.space = 3))).length > 1) ||
    (a.indexed && decide (a.dst.space = 3)) ||
    (decide (a.op = 0x13) && (decide (a.src.space = 3) || !(decide (a.dst.space = 1) || decide (a.dst.space = 2)))) ||
    (a.fill && !isZeroRange p 32 32)

/-- An owner-space operand without a table that serves it (R141). -/
def State.badOwner (s : State) (st : Nat) (d : Desc) : Bool :=
  let t := s.owner st d.table
  decide (d.space = 3) && (decide (d.layout ≠ .shingle) || decide (d.addr ≠ 0) || !t.loaded ||
    decide (t.entries.length < ceilDiv d.shingles (2 ^ t.blockLog2)))

/-- The memory that an operand names is accessible to the command (spec/07 R172). -/
def State.skidAccess (s : State) (st ctx : Nat) (d : Desc) (write : Bool) : Bool :=
  if d.space = 0 then s.mayAccess st ctx d.addr d.extent write
  else if d.space = 3 then
    let t := s.owner st d.table
    (List.range (ceilDiv d.shingles (2 ^ t.blockLog2))).all (fun k => match t.entries[k]? with
      | some e => decide (e.device ≠ s.img.deviceId) || decide (e.stand ≠ st) || decide (e.state ≠ 1) ||
          (d.blockRuns (2 ^ t.blockLog2) k).all (fun r => s.mayAccess st ctx (e.addr + r.1) r.2 write)
      | none => true)
  else true

/-- The checks of Table 6-5, after those of spec/03 R67. -/
def State.checkSkid (s : State) (st : Nat) (p : List Byte) : Option W16 :=
  let a := s.skidArgs st (s.stand st).steps.openStep p
  let w := winArgs p a
  let ctx := bits (fld p 4 1) 3 0
  if !skidReservedOk p a then some 1
  else match fmtFail a.formats with
    | some v => some v
    | none => firstFail [
      (a.unusedSet || !a.permOk || a.operands.any Desc.malshaped || a.shapesDisagree w, 0x0101),
      (s.badTarget st p a, 0x0102),
      (a.operands.any (fun d => decide (d.addr % 512 ≠ 0) ||
        ((decide (d.space = 1) || decide (d.space = 2)) && decide (d.span.2 > localLimit d.space))), 0x0103),
      (if a.op = 0x10 then !a.fill && a.src.overlaps a.dst &&
          !(a.src.samePlace a.dst && (a.raw || decide (a.src.fmt.elemBits = a.dst.fmt.elemBits)))
       else a.dst.overlaps a.src || (a.indexed && a.dst.overlaps a.idx), 0x0104),
      (a.operands.any (fun d => (decide (d.space = 3) && (decide (d.layout = .piCol) || decide (d.layout = .piRow)))) ||
        (a.operands.filter (fun d => !(a.indexed && decide (d = a.idx)))).any (fun d => decide (d.layout = .linear) &&
          (d.fmt.scaled || !(decide (d.fmt.fmt = .fp32) || decide (d.fmt.fmt = .fp16) || decide (d.fmt.fmt = .bf16)))) ||
        (a.indexed && (decide (a.idx.layout ≠ .linear) || decide (a.idx.fmtRaw ≠ 0))) ||
        (decide (a.op = 0x13) && decide (a.src.layout = .linear)), 0x0105),
      (a.operands.any (s.badOwner st), 0x0106),
      (decide (a.op = 0x13) && a.overLimit w p, 0x0107),
      (decide (a.op = 0x13) && decide ((a.dh * (a.kh - 1) + 1) * (w.w1 - w.w0 + w.pl + w.pr) * a.src.e0 * a.src.w > 262144),
        0x0108),
      (!((if a.fill then true else s.skidAccess st ctx a.src false) && (!a.indexed || s.skidAccess st ctx a.idx false) &&
        s.skidAccess st ctx a.dst true), 0x0005)]

/-! ### Index lists (R152, R146) -/

/-- An index list as a command takes it: the row of each list position, `none` to skip; the positions out of range; the
list's words that fail correction. -/
structure IndexList where
  rows : List (Option Nat)
  bad : List Nat
  failed : List (StoreId × Nat)
  deriving DecidableEq, Repr

def State.readIndex (s : State) (st : Nat) (c : Cmd) (d : Desc) (limit : Nat) : IndexList :=
  let fails (j : Nat) : Bool := s.spotBad st c d (4 * j)
  let val (j : Nat) : Nat := leNat ((List.range 4).map (fun i => s.spotByte st c d (4 * j + i)))
  let js := List.range d.e0
  { rows := js.map (fun j => if fails j ∨ val j = 0xffffffff ∨ val j ≥ limit then none else some (val j))
    bad := js.filter (fun j => !fails j && decide (val j ≥ limit) && decide (val j ≠ 0xffffffff))
    failed := ((js.filter fails).filterMap (fun j => s.spotWord st c d (4 * j))).dedup }

/-- Rows that repeat an earlier row of the list (R154). -/
def collisions : List (Option Nat) → List Nat → Nat
  | [], _ => 0
  | none :: rs, seen => collisions rs seen
  | some r :: rs, seen => (if seen.contains r then 1 else 0) + collisions rs (r :: seen)

/-! ### A transfer -/

/-- A transfer: the source position of every destination position (`none`: the pad value), and the values' form. -/
structure Xfer where
  src : Desc
  dst : Desc
  pad : Val
  raw : Bool
  deriving DecidableEq, Repr

/-- What a transfer stores at its destination's offsets. -/
def State.xferStored (s : State) (st : Nat) (c : Cmd) (x : Xfer) (pick : Coord → Option Coord) : Stored :=
  let rd := s.spotByte st c x.src
  if x.raw then
    x.dst.storeCodes
      (fun e0 e1 e2 e3 => match pick (e0, e1, e2, e3) with
        | some e => x.src.code rd e.1 e.2.1 e.2.2.1 e.2.2.2
        | none => 0)
      (fun e0 e1 e2 e3 => match pick (e0, e1, e2, e3) with
        | some e => (rd (x.src.scaleOff e.1 e.2.1 e.2.2.1 e.2.2.2)).toNat
        | none => 0)
      (fun e0 e1 e2 e3 => match pick (e0, e1, e2, e3) with
        | some e => (rd (x.src.zpOff e.1 e.2.1 e.2.2.1 e.2.2.2)).toNat
        | none => 0)
  else
    x.dst.store (s.recipe x.dst.fmt) (c.sr x.dst.fmt)
      (fun e0 e1 e2 e3 => match pick (e0, e1, e2, e3) with
        | some e => x.src.value rd e.1 e.2.1 e.2.2.1 e.2.2.2
        | none => x.pad)
      x.dst.lin

/-- The destination and source offsets of a code-for-code copy, byte for byte. -/
def Xfer.pairs (x : Xfer) (pick : Coord → Option Coord) : List (Nat × Nat) :=
  (x.dst.coords.filterMap (fun e => (pick e).map (fun f => (e, f)))).flatMap (fun p =>
    (x.dst.bytesAt p.1).zip (x.src.bytesAt p.2))

/-- A destination word of a copy that takes one source word whole: that word's symbols as stored, and its check difference
(spec/01 R20). -/
def State.movedWord (s : State) (st : Nat) (c : Cmd) (x : Xfer) (prs : List (Nat × Nat)) (b : StoreId × Nat) :
    Option (List Byte × (Byte × Byte)) :=
  let from_ (i : Nat) : Spot := ((prs.find? (fun q => decide (s.spot st c x.dst q.1 = .held b.1 (16 * b.2 + i)))).map
    (fun q => s.spot st c x.src q.2)).getD .nowhere
  match from_ 0 with
  | .held id a =>
    if a % 16 = 0 ∧ (List.range 16).all (fun i => decide (from_ i = .held id (a + i))) then
      some ((List.range 16).map (fun i => (s.store id).raw (a + i)), (s.store id).diffAt (a / 16))
    else none
  | _ => none

/-- The words of a transfer's destination that carry a failure. -/
def State.badWords (s : State) (st : Nat) (c : Cmd) (x : Xfer) (pick : Coord → Option Coord) (offs : List Nat) : List BadWord :=
  let prs := if x.raw then x.pairs pick else []
  ((offs.filterMap (s.spotWord st c x.dst)).dedup).map (fun b => ⟨b.1, b.2, s.movedWord st c x prs b⟩)

/-- The offsets of the destination bytes that carry a source word's failure (R146): byte for byte in a copy, the element
in a conversion, and the whole block where the destination is scaled. -/
def State.xferBad (s : State) (st : Nat) (c : Cmd) (x : Xfer) (pick : Coord → Option Coord) : List Nat :=
  if s.storeClean st x.src then []
  else
    let es := x.dst.coords.filterMap (fun e => (pick e).map (fun f => (e, f)))
    if x.raw then (x.pairs pick).filterMap (fun q => if s.spotBad st c x.src q.2 then some q.1 else none)
    else
      let hit := (es.filter (fun p => (x.src.bytesAt p.2).any (s.spotBad st c x.src))).map Prod.fst
      if x.dst.fmt.scaled then
        let blocks := (hit.map (fun e => x.dst.scaleOff e.1 e.2.1 e.2.2.1 e.2.2.2)).dedup
        (x.dst.coords.filter (fun e => blocks.contains (x.dst.scaleOff e.1 e.2.1 e.2.2.1 e.2.2.2))).flatMap x.dst.bytesAt
      else hit.flatMap x.dst.bytesAt

/-- The units of the destination that depend on a block nobody serves (R142). -/
def State.xferKept (s : State) (st : Nat) (c : Cmd) (x : Xfer) (pick : Coord → Option Coord) : List Nat :=
  if x.src.space ≠ 3 then []
  else ((x.dst.coords.filter (fun e => match pick e with
    | some f => (x.src.bytesAt f).any (s.spotGone st c x.src)
    | none => false)).map (fun e => x.dst.unitAt ((x.dst.bytesAt e).headD 0))).dedup

/-- The words that a transfer reads, each once. -/
def State.xferReads (s : State) (st : Nat) (c : Cmd) (x : Xfer) (pick : Coord → Option Coord) : List (StoreId × Nat) :=
  if s.storeClean st x.src then []
  else (((x.dst.coords.filterMap pick).flatMap x.src.bytesAt).filterMap (s.spotWord st c x.src)).dedup

/-- The blocks of an owner-space operand that a list of offsets touches. -/
def State.blocksOf (s : State) (st : Nat) (d : Desc) (os : List Nat) : List Nat :=
  if d.space = 3 then (os.map (fun o => (d.ownerOff (2 ^ (s.owner st d.table).blockLog2) o).1)).dedup else []

/-- The bytes of a transfer with their places, those left alone (R142) taken out. -/
def State.placed (s : State) (st : Nat) (c : Cmd) (x : Xfer) (kept : List Nat) (bs : List (Nat × Byte)) :
    List (Spot × Byte) :=
  (bs.filter (fun p => kept.isEmpty || !kept.contains (x.dst.unitAt p.1))).map (fun p => (s.spot st c x.dst p.1, p.2))

/-- The PUTs of a remote destination's blocks, in pieces of at most 4 KiB (R141, spec/10 R263); a payload word that carries a
failure goes out under the poison code's check symbols (R146). -/
def State.putRemote (s : State) (st : Nat) (c : Cmd) (d : Desc) (ws : List (Spot × Byte)) (bad : List Spot) (k : Nat) :
    State × Cmd :=
  let t := s.owner st d.table
  let e := t.entries.getD k ⟨0, 0, 0, 0⟩
  let byte (x : Nat) : Byte := ((ws.find? (fun p => decide (p.1 = .remote k x))).map Prod.snd).getD 0
  (d.blockPieces t k).foldl (fun acc p =>
    let o := p.1 - e.addr
    let diffs := (List.range (ceilDiv p.2 16)).filterMap (fun w =>
      if bad.any (fun b => match b with | .remote j x => decide (j = k) && decide (x / 16 = o / 16 + w) | _ => false)
      then some (w, poisonDiff) else none)
    let (u, a) := acc.1.requestWith st 1 e.device e.stand p.1 [] ((List.range p.2).map (fun i => byte (o + i))) diffs false
      (.skidder c.ticket)
    (u, if a = .sent then acc.2 else { acc.2 with lost := pieceKey e.device p.1 :: acc.2.lost })) (s, c)

/-- The GETs of a remote source block (R141). -/
def State.getRemote (s : State) (st : Nat) (c : Cmd) (d : Desc) (k : Nat) : State × Cmd :=
  let t := s.owner st d.table
  let e := t.entries.getD k ⟨0, 0, 0, 0⟩
  (d.blockPieces t k).foldl (fun acc p =>
    let (u, a) := acc.1.request st 2 e.device e.stand p.1 [] (natLe 16 p.2) false (.skidder c.ticket)
    (u, if a = .sent then acc.2 else { acc.2 with lost := pieceKey e.device p.1 :: acc.2.lost })) (s, c)

/-! ### Ends -/

/-- What a command reports: LINES, BAD_INDEX, COLLISIONS, FIRST_BAD (Table 6-6). -/
def skidPayload (lines bad coll first : Nat) : List Byte := natLe 8 lines ++ natLe 4 bad ++ natLe 4 coll ++ natLe 4 first

/-- Blocks that nobody serves: the count, the status and the step's mark (R142). -/
def State.ownerGone (s : State) (st : Nat) (c : Cmd) (n : Nat) : State × Cmd :=
  if n = 0 then (s, c)
  else ((s.count (kStand st cSkdOwnerUnavailable) n).markCmd st c 4, c.withStatus 0x010a)

/-- Source words that failed correction: the count, the status and the step's mark (R146). -/
def State.poisonMoved (s : State) (st : Nat) (c : Cmd) (n : Nat) : State × Cmd :=
  if n = 0 then (s, c)
  else ((s.count (kStand st cSkdPoisonMoved) n).markCmd st c 5, c.withStatus 0x010b)

/-- Index entries out of range (R152). -/
def State.indexRange (s : State) (st : Nat) (c : Cmd) (n : Nat) : State × Cmd :=
  if n = 0 then (s, c) else (s.count (kStand st cSkdIndexRange) n, c.withStatus 0x0109)

/-- The Skidder has finished a command, its lines counted. -/
def State.skidDone (s : State) (st : Nat) (c : Cmd) (lines bad coll first : Nat) : State :=
  (s.setCounters (s.counters.addUnits (kStand st cSkdLines4k) 4096 lines)).engineDone st
    { c with pay := skidPayload lines bad coll first }

/-- No work at all: a fenced Skidder or a scratchpad that no core answers (spec/11 R296, spec/13 R342). -/
def State.skidAbsent (s : State) (st : Nat) (c : Cmd) : State :=
  let (t, d) := s.unavailable st c
  t.skidDone st { d with tStart := s.clock.now } 0 0 0 0xffffffff

/-! ### The work of a transfer -/

/-- Everything that a transfer writes and counts, the state after it, and whether blocks at other devices take part of the
writes. -/
def State.transfer (s : State) (st : Nat) (c : Cmd) (x : Xfer) (pick : Coord → Option Coord) (fill : Bool)
    (ix : IndexList) (lines : Nat) : Option State :=
  let o := s.xferStored st c x pick
  let kept := s.xferKept st c x pick
  let ws := s.placed st c x kept o.bytes
  match s.stageFor (spotBlocks (ws.map Prod.fst)) with
  | none => none
  | some t =>
    let reads := if fill then [] else s.xferReads st c x pick
    let hit := if fill then [] else (s.xferBad st c x pick).filter (fun b => !kept.contains (x.dst.unitAt b))
    let bad := s.badWords st c x pick hit
    let moved := (reads.filter (fun w => (s.store w.1).bad w.2)).length + ix.failed.length
    let t := (t.noteStored (reads ++ ix.failed)).putSpots ws bad
    let t := t.countFmt st o.cnt
    let gone := (s.blocksOf st x.src ((x.dst.coords.filterMap pick).flatMap x.src.bytesAt)).filter
      (fun k => decide (s.blockState st c x.src k = 2))
    let far := (s.blocksOf st x.dst (x.dst.coords.flatMap x.dst.bytesAt))
    let lostDst := far.filter (fun k => decide (s.blockState st c x.dst k = 2))
    let (t, c) := t.ownerGone st { c with tStart := if c.stage = .queued then s.clock.now else c.tStart }
      (if fill then lostDst.length else gone.length + lostDst.length)
    let (t, c) := t.poisonMoved st c moved
    let (t, c) := t.indexRange st c ix.bad.length
    let todo := far.filter (fun k => decide (s.blockState st c x.dst k = 1))
    let far := hit.map (s.spot st c x.dst)
    let (t, c) := todo.foldl (fun a k => a.1.putRemote st a.2 x.dst ws far k) (t, c)
    let pay := skidPayload lines ix.bad.length 0 (ix.bad.headD 0xffffffff)
    if todo.isEmpty then some (t.skidDone st c lines ix.bad.length 0 (ix.bad.headD 0xffffffff))
    else some ((t.setCounters (t.counters.addUnits (kStand st cSkdLines4k) 4096 lines)).setCmd st
      { c with stage := .phase 2, todo := todo, pay := pay })

/-- A command's PUTs have all been answered: blocks that were not taken count as R142 states. -/
def State.putsOver (s : State) (st : Nat) (c : Cmd) (d : Desc) : State :=
  let lost := c.todo.filter (fun k => decide (s.blockState st c d k = 2))
  let (t, c) := s.ownerGone st c lost.length
  t.engineDone st c

/-- The command that a Skidder row runs: next in its queue, or back from waiting for other devices. -/
def State.skidCmd (s : State) (st t op : Nat) : Option Cmd :=
  if !s.alive || !(s.cfg st).enabled then none
  else match (s.stand st).cmd t with
    | some c =>
      if c.opcode = op ∧ !(s.stand st).asking t ∧
          ((c.stage = .queued ∧ (s.stand st).turnOf c) ∨ c.stage = .phase 1 ∨ c.stage = .phase 2) then some c else none
    | none => none

/-- What a transfer is asked to do: its arguments, the transfer, the source position of each destination position, its index list,
and the lines that it reads and writes. -/
structure Plan where
  args : SkidArgs
  x : Xfer
  pick : Coord → Option Coord
  ix : IndexList
  lines : Nat

/-- The blocks of an owner-space source or destination that a transfer touches. -/
def State.planNeed (s : State) (st : Nat) (p : Plan) : List Nat :=
  if p.args.fill then [] else s.blocksOf st p.x.src ((p.x.dst.coords.filterMap p.pick).flatMap p.x.src.bytesAt)
def State.planFar (s : State) (st : Nat) (p : Plan) : List Nat :=
  s.blocksOf st p.x.dst (p.x.dst.coords.flatMap p.x.dst.bytesAt)

/-- A transfer waits on a block in the moving state (R141). -/
def State.planMoving (s : State) (st : Nat) (c : Cmd) (p : Plan) : Bool :=
  (s.planNeed st p).any (fun k => decide (s.blockState st c p.x.src k = 3)) ||
    (s.planFar st p).any (fun k => decide (s.blockState st c p.x.dst k = 3))

/-- A writer waits on a scratchpad range that a product holds (spec/04 R100, R145), and on a source that a reduction holds (spec/09
R224, R235). -/
def State.matHolding (s : State) (st : Nat) (d : Desc) : Bool :=
  decide (d.space = 2) && (s.stand st).matHolds d.cluster d.core d.span

/-- A transfer waits for what its operands need. -/
def State.planWaits (s : State) (st : Nat) (c : Cmd) (p : Plan) : Bool :=
  s.planMoving st c p || p.args.operands.any (s.memWaits st c) || s.matHolding st p.x.dst || s.srcHeld st c.ticket p.x.dst

/-- A transfer has still to ask other devices for source blocks. -/
def State.planAsks (s : State) (st : Nat) (c : Cmd) (p : Plan) : Bool :=
  decide (c.stage = .queued) && (s.planNeed st p).any (fun k => decide (s.blockState st c p.x.src k = 1))

/-- No unit that could do a Skidder command's work: a fenced Skidder, or a scratchpad that no core answers. -/
def State.skidMissing (s : State) (st px : Nat) (a : SkidArgs) : Bool :=
  s.clusterFenced (.skidder px) || a.operands.any (fun d => decide (d.space = 2) && (s.storeOf st d).isNone)

/-- A transfer's way from its first read to its end: it waits for moving blocks (R141), for a parameter block's optimiser
(spec/01 R24), for held scratchpad ranges (R145) and for copy-ahead room; it fetches remote blocks, works, and waits for
its PUTs. -/
def State.runXfer (s : State) (st : Nat) (c : Cmd) (p : Plan) : State :=
  match s.standCluster st p.args.cluster with
  | none => s
  | some px =>
    if c.stage = .phase 2 then s.putsOver st c p.x.dst
    else if s.skidMissing st px p.args then s.skidAbsent st c
    else if s.planWaits st c p then s
    else
      let get := (s.planNeed st p).filter (fun k => decide (s.blockState st c p.x.src k = 1))
      if c.stage = .queued ∧ !get.isEmpty then
        let (t, d) := get.foldl (fun acc k => acc.1.getRemote st acc.2 p.x.src k)
          (s, { c with stage := .phase 1, tStart := s.clock.now })
        t.setCmd st d
      else (s.transfer st c p.x p.pick p.args.fill p.ix p.lines).getD s

/-! ### MOVE, GATHER and WINDOW -/

def IndexList.none_ : IndexList := ⟨[], [], []⟩

/-- What MOVE does (R147-R150). -/
def State.movePlan (s : State) (st : Nat) (c : Cmd) : Plan :=
  let a := s.skidArgs st c.step c.bytes
  ⟨a, ⟨a.src, a.dst, val32 a.value, a.raw⟩, fun e => if a.fill then none else some (a.permuted e), IndexList.none_,
    (if a.fill then 0 else s.linesOf st a.src) + s.linesOf st a.dst⟩

/-- What GATHER does (R151, R152): every entry of the list counts a row's lines, the skipped ones too (R159). -/
def State.gatherPlan (s : State) (st : Nat) (c : Cmd) : Plan :=
  let a := s.skidArgs st c.step c.bytes
  let ix := s.readIndex st c a.idx a.src.rows
  ⟨a, ⟨a.src, a.dst, Val.zero, a.raw⟩, fun e => (ix.rows.getD (a.dst.rowOf e) none).map (fun r => a.src.rowAt r e.1), ix,
    a.idx.lines + ix.rows.length * a.src.rowLines + a.dst.lines⟩

/-- What WINDOW does (R156-R158). -/
def State.windowPlan (s : State) (st : Nat) (c : Cmd) : Plan :=
  let a := s.skidArgs st c.step c.bytes
  ⟨a, ⟨a.src, a.dst, val32 a.value, false⟩, a.windowed (winArgs c.bytes a), IndexList.none_, a.src.heldLines + a.dst.lines⟩

/-- The plan of a Skidder command that is a transfer. -/
def State.planOf (s : State) (st : Nat) (c : Cmd) : Option Plan :=
  match c.opcode with
  | 0x10 => some (s.movePlan st c)
  | 0x11 => some (s.gatherPlan st c)
  | 0x13 => some (s.windowPlan st c)
  | _ => none

/-- MOVE on its cluster's Skidder (R147-R150). -/
def execMove (stand ticket : Nat) (s : State) : Host.Outcome State Fault Refusal :=
  .next (match s.skidCmd stand ticket 0x10 with
    | none => s
    | some c => s.runXfer stand c (s.movePlan stand c))

/-- GATHER on its cluster's Skidder (R151, R152). -/
def execGather (stand ticket : Nat) (s : State) : Host.Outcome State Fault Refusal :=
  .next (match s.skidCmd stand ticket 0x11 with
    | none => s
    | some c => s.runXfer stand c (s.gatherPlan stand c))

/-- WINDOW on its cluster's Bucker (R156-R158). -/
def execWindow (stand ticket : Nat) (s : State) : Host.Outcome State Fault Refusal :=
  .next (match s.skidCmd stand ticket 0x13 with
    | none => s
    | some c => s.runXfer stand c (s.windowPlan stand c))

/-! ### SCATTER_ADD -/

/-- The sum of R153 for element `e0` of a destination row, over the list in order, and how often decoding left binary32's
range. -/
def State.scatterSum (s : State) (st : Nat) (c : Cmd) (a : SkidArgs) (js : List Nat) (e0 row : Nat) : Val × Nat :=
  let d := a.dst.rowAt row e0
  js.foldl (fun acc j =>
    let e := a.src.rowAt j e0
    let x := toConsumer32 (a.src.value (s.spotByte st c a.src) e.1 e.2.1 e.2.2.1 e.2.2.2)
    (add32 acc.1 x.1, acc.2 + x.2)) (a.dst.value (s.spotByte st c a.dst) d.1 d.2.1 d.2.2.1 d.2.2.2, 0)

/-- The sum as it is written (spec/05 R128). -/
def State.scatterItem (s : State) (st : Nat) (c : Cmd) (a : SkidArgs) (js : List Nat) (e0 row : Nat) : Val × Nat :=
  let v := s.scatterSum st c a js e0 row
  (c.landVal (.item row e0) v.1, v.2)

/-- The list positions that name a row, in order. -/
def positionsOf (rows : List (Option Nat)) (r : Nat) : List Nat :=
  (List.range rows.length).filter (fun j => decide (rows.getD j none = some r))

/-- The lines of a SCATTER_ADD, for which no rule gives a formula.  DESIGN CHOICE (log entry 28): the index list's, every source
line, and twice the lines of each row that an entry adds to, once read and once written. -/
def State.scatterLines (s : State) (st : Nat) (a : SkidArgs) (ix : IndexList) : Nat :=
  a.idx.lines + s.linesOf st a.src + 2 * (ix.rows.filter Option.isSome).length * a.dst.rowLines

/-- The work of SCATTER_ADD: every element of every row that the list names (R153); `none` while it waits. -/
def State.scatter (s : State) (st : Nat) (c : Cmd) (a : SkidArgs) : Option State :=
  let ix := s.readIndex st c a.idx a.dst.rows
  let rows := (ix.rows.filterMap id).dedup
  let cols := List.range a.dst.e0
  let js := rows.map (fun r => (r, positionsOf ix.rows r))
  let sums := js.flatMap (fun p => cols.map (fun e => (p.1, e, s.scatterItem st c a p.2 e p.1)))
  let bytesOf (e : Nat × Nat) : List Nat := a.dst.bytesAt (a.dst.rowAt e.1 e.2)
  let srcBytes (p : Nat × List Nat) (e : Nat) : List Nat := p.2.flatMap (fun j => a.src.bytesAt (a.src.rowAt j e))
  let ws := sums.flatMap (fun x => (bytesOf (x.1, x.2.1)).zipIdx.map (fun q =>
    (s.spot st c a.dst q.1, BitVec.ofNat 8 (fFP32.encode x.2.2.1 / 256 ^ q.2))))
  match s.stageFor (spotBlocks (ws.map Prod.fst)) with
  | none => none
  | some t =>
    let clean := s.storeClean st a.src && s.storeClean st a.dst
    let hit := if clean then [] else js.flatMap (fun p => (cols.filter (fun e =>
      (srcBytes p e).any (s.spotBad st c a.src) || (bytesOf (p.1, e)).any (s.spotBad st c a.dst))).map (fun e => (p.1, e)))
    let reads := if clean then [] else
      (js.flatMap (fun p => cols.flatMap (fun e => (srcBytes p e).filterMap (s.spotWord st c a.src) ++
        (bytesOf (p.1, e)).filterMap (s.spotWord st c a.dst)))).dedup
    let moved := (reads.filter (fun w => (s.store w.1).bad w.2)).length + ix.failed.length
    let gone := (s.blocksOf st a.src (js.flatMap (fun p => cols.flatMap (srcBytes p)))).filter
      (fun k => decide (s.blockState st c a.src k = 2))
    let keep := js.flatMap (fun p => (cols.filter (fun e => (srcBytes p e).any (s.spotGone st c a.src))).map
      (fun e => a.dst.unitAt ((bytesOf (p.1, e)).headD 0)))
    let out := (sums.zip (List.range sums.length)).flatMap (fun q =>
      if keep.contains (a.dst.unitAt ((bytesOf (q.1.1, q.1.2.1)).headD 0)) then []
      else (bytesOf (q.1.1, q.1.2.1)).zipIdx.map (fun b =>
        (s.spot st c a.dst b.1, BitVec.ofNat 8 (fFP32.encode q.1.2.2.1 / 256 ^ b.2))))
    let bad := (((hit.flatMap bytesOf).filter (fun o => !keep.contains (a.dst.unitAt o))).filterMap (s.spotWord st c a.dst)).dedup
    let bad := bad.map (fun b => (⟨b.1, b.2, none⟩ : BadWord))
    let t := ((t.noteStored (reads ++ ix.failed)).putSpots out bad).count (kStand st cFmtDecodeOverflow)
      (sums.map (fun x => x.2.2.2)).sum
    let (t, c) := t.ownerGone st { c with tStart := if c.stage = .queued then s.clock.now else c.tStart } gone.length
    let (t, c) := t.poisonMoved st c moved
    let (t, c) := t.indexRange st c ix.bad.length
    let col := collisions ix.rows []
    some ((t.count (kStand st cSkdScatterCollisions) col).skidDone st c
      (s.scatterLines st a ix) ix.bad.length col (ix.bad.headD 0xffffffff))

/-- The blocks of an owner-space source that a SCATTER_ADD reads. -/
def State.scatterNeed (s : State) (st : Nat) (a : SkidArgs) : List Nat :=
  s.blocksOf st a.src (a.src.coords.flatMap a.src.bytesAt)

/-- A SCATTER_ADD waits on a moving block (R141). -/
def State.scatterMoving (s : State) (st : Nat) (c : Cmd) (a : SkidArgs) : Bool :=
  (s.scatterNeed st a).any (fun k => decide (s.blockState st c a.src k = 3))

/-- A SCATTER_ADD waits for what its operands need; into a G role, for earlier deliveries too (spec/08 R190). -/
def State.scatterWaits (s : State) (st : Nat) (c : Cmd) (a : SkidArgs) : Bool :=
  s.scatterMoving st c a || a.operands.any (s.memWaits st c) || s.deliveryInto st c a.dst || s.matHolding st a.dst ||
    s.srcHeld st c.ticket a.dst

/-- The way of a SCATTER_ADD, as `runXfer` for the others. -/
def State.runScatter (s : State) (st : Nat) (c : Cmd) (a : SkidArgs) : State :=
  match s.standCluster st a.cluster with
  | none => s
  | some px =>
    if s.skidMissing st px a then s.skidAbsent st c
    else if s.scatterWaits st c a then s
    else
      let get := (s.scatterNeed st a).filter (fun k => decide (s.blockState st c a.src k = 1))
      if c.stage = .queued ∧ !get.isEmpty then
        let (t, d) := get.foldl (fun acc k => acc.1.getRemote st acc.2 a.src k)
          (s, { c with stage := .phase 1, tStart := s.clock.now })
        t.setCmd st d
      else (s.scatter st c a).getD s

/-- SCATTER_ADD: the landing engines add in memory, the Skidder elsewhere (R153, R154). -/
def execScatterAdd (stand ticket : Nat) (s : State) : Host.Outcome State Fault Refusal :=
  .next (match s.skidCmd stand ticket 0x12 with
    | none => s
    | some c => s.runScatter stand c (s.skidArgs stand c.step c.bytes))

end Sys2Proof.Machine
end

