-- ==== Sys2Proof/Machine/Reduce.lean ====
section
/-! DEFINITION. REDUCE and COLLECTIVE (spec/09 R219-R232): their checks, pieces, late windows, segments, what arrives from
other members, delivery into G, and their ends. -/

namespace Sys2Proof.Machine

/-! ### Checks (R220-R224, R241, Table 9-10) -/

/-- Every reserved field of the body is zero. -/
def redReservedOk (p : List Byte) : Bool :=
  !bit (fld p 17 1) 7 && !bit (fld p 18 1) 7 && decide (bits (fld p 19 1) 7 5 = 0) && decide (bits (fld p 22 2) 15 13 = 0) &&
    isZeroRange p 25 7 && descReservedOk p 32 && descReservedOk p 64 && isZeroRange p 96 32

/-- An operand's space, layout or extents are not valid for a reduction. -/
def Desc.redShape (d : Desc) : Bool :=
  d.malshaped || decide (d.space = 3) || (decide (d.layout = .linear) && (d.fmt.scaled ||
    !(decide (d.fmt.fmt = .fp32) || decide (d.fmt.fmt = .fp16) || decide (d.fmt.fmt = .bf16))))

/-- E of an operation (R224): for ALLGATHER the elements gathered. -/
def RedArgs.elements (a : RedArgs) (d : Nat) : Nat :=
  match a.op with
  | 3 => if a.dgrp then d * a.src.count else a.dst.count
  | 5 => 0
  | _ => a.src.count

/-- Elements that this device receives (R224). -/
def RedArgs.received (a : RedArgs) (coll : Bool) (d my : Nat) : Nat :=
  let e := a.elements d
  if coll ∧ a.op = 2 then segLen e d my else e

/-- SRC and DST disagree with OP. -/
def RedArgs.extentsDisagree (a : RedArgs) (coll : Bool) (d my : Nat) : Bool :=
  let e := a.elements d
  (decide (a.op = 3) && decide (segLen e d my ≠ a.src.count) && decide (segLen e d my ≠ 0)) ||
    (!a.dgrp && decide (a.op ≠ 3) && decide (a.dst.count ≠ if coll ∧ a.op = 2 then segSize e d else e))

/-- SHAPE_INVALID of Table 9-10. -/
def State.redShapeBad (s : State) (st : Nat) (p : List Byte) (a : RedArgs) (coll : Bool) : Bool :=
  let t := s.mtab st a.mtab
  let d := t.members.length
  !(if coll then decide (1 ≤ a.op) && decide (a.op ≤ 5) else decide (a.op = 1) && decide (a.mtab = 0)) ||
    (decide (a.op ≠ 4) && decide (a.root ≠ 0)) || (decide (a.op = 4) && t.loaded && decide (d ≤ a.root)) ||
    (if a.op = 5 then a.dgrp || !isZeroRange p 32 64 || decide (a.nclu ≠ 0) || decide (a.cores ≠ 0)
     else a.src.redShape || (if a.dgrp then !isZeroRange p 64 32 else a.dst.redShape) ||
       decide ((a.src.space = 0) ≠ (a.nclu = 0)) || decide (72 < a.nclu) ||
       (decide (a.src.space ≠ 2) && decide (a.cores ≠ 0)) ||
       ((!coll || (t.loaded && (s.rankIn st a.mtab).isSome)) &&
         a.extentsDisagree coll (if coll then d else 1) ((s.rankIn st a.mtab).getD 0)))

/-- TARGET_INVALID of Table 9-10. -/
def State.redTargetBad (s : State) (st : Nat) (a : RedArgs) (coll : Bool) : Bool :=
  let n := (s.cfg st).clusters.length
  let d := if coll then (s.mtab st a.mtab).members.length else 1
  let need := a.received coll d ((s.rankIn st a.mtab).getD 0)
  (decide (a.op ≠ 5) && ((decide (a.src.space ≠ 0) && decide (n < a.clu0 + a.nclu)) ||
      (decide (a.src.space = 2) && decide (a.cores = 0)))) ||
    (decide (a.op ≠ 5) && !a.dgrp && (decide (a.dst.space = 1) || decide (a.dst.space = 2)) && decide (n ≤ a.dst.cluster)) ||
    (a.dgrp && (!s.ownsGroup st a.ugrp || decide (4096 * (s.udef a.ugrp).count4k < need) ||
      decide ((s.tgroup (s.udef a.ugrp).tgrp).g = 255)))

/-- The software-visible span that a delivery of `n` elements writes in G (R221). -/
def State.deliverySpan (s : State) (k n : Nat) : Nat × Nat :=
  let b := (s.region (s.tgroup (s.udef k).tgrp).g).base + 4 * (4096 * (s.udef k).first4k)
  (b, b + 4 * n)

/-- The checks of REDUCE and COLLECTIVE at issue, after those of R46. -/
def State.checkRed (s : State) (st : Nat) (p : List Byte) : Option W16 :=
  let a := redArgs p
  let coll := decide (fld p 0 1 = 0x31)
  let ctx := bits (fld p 4 1) 3 0
  let t := s.mtab st a.mtab
  let ops := if a.op = 5 then [] else [a.src] ++ (if a.dgrp then [] else [a.dst])
  if !redReservedOk p then some 1
  else match fmtFail ((if a.op = 5 then [] else [⟨a.src.fmtRaw, false, a.src.fmt.fmt.isFloat⟩]) ++
      (if a.op = 5 ∨ a.dgrp then [] else [⟨a.dst.fmtRaw, true, a.dst.fmt.fmt.isFloat⟩])) with
    | some v => some v
    | none => firstFail [
      (s.redShapeBad st p a coll, 0x0101),
      (s.redTargetBad st a coll, 0x0102),
      (ops.any (fun d => decide (d.addr % 512 ≠ 0) || ((decide (d.space = 1) || decide (d.space = 2)) &&
        decide (localLimit d.space < d.span.2))), 0x0103),
      (coll && !t.loaded, 0x0104),
      (coll && (s.rankIn st a.mtab).isNone, 0x0105),
      (decide (a.policy = 3) || (decide (a.policy ≠ 0) && (!coll || decide (3 ≤ a.op) || t.tg)), 0x0106),
      (!(ops.zipIdx.all (fun q => decide (q.1.space ≠ 0) || s.mayAccess st ctx q.1.addr q.1.extent (decide (q.2 = 1)))) ||
        (a.dgrp && (let sp := s.deliverySpan a.ugrp (a.received coll (if coll then t.members.length else 1)
            ((s.rankIn st a.mtab).getD 0)); !s.mayAccess st ctx sp.1 (sp.2 - sp.1) true)), 0x0005)]

/-! ### Starting, and the module stages (R219) -/

/-- The results of an earlier run that a replayed command takes from its step's record (R232, spec/12 R316). -/
def State.keptResults (s : State) (st : Nat) (c : Cmd) (a : RedArgs) : Option (List (Nat × List W32 × Bool)) :=
  match c.step, (s.stand st).steps.replay with
  | some n, some r =>
    if c.replay ∧ a.keep ∧ c.opcode = 0x31 ∧ n.toNat < r.firstLive.toNat then
      match (s.stand st).steps.rec_ n with
      | some x =>
        let ks := x.kept.filter (fun k => decide (k.seq = c.seq) && decide (k.mtab = a.mtab) && decide (k.inst = c.inst))
        if ks.isEmpty then none else some (ks.map (fun k => (k.segment, k.vals, false)))
      | none => none
    else none
  | _, _ => none

/-- What the module stages read is noted: corrections, failures and missing contributors (spec/11 R296, R418). -/
def State.redSources (s : State) (st : Nat) (c : Cmd) (a : RedArgs) : State × Cmd :=
  let ws := s.redReads st c a
  let bad := (ws.filter (fun w => (s.store w.1).bad w.2)).length
  let (t, c) := (s.noteStored ws).operandPoison st c bad
  if a.allLeaves.all (s.leafThere st) then (t, c) else t.unavailable st c

/-- The reduction that a command begins. -/
def State.newColl (s : State) (st : Nat) (c : Cmd) (a : RedArgs) : Coll :=
  let m := if c.opcode = 0x31 then a.mtab else 16
  let kept := s.keptResults st c a
  { ticket := c.ticket, mtab := m, inst := c.inst, version := (s.mtab st m).version, op := a.op, collId := a.collId
    count := a.elements (s.mtab st m).members.length, policy := a.policy, vals := [], taint := s.stepTainted st c
    ownAt := none, closed := [], mism := [], results := kept.getD [], formed := [], lateCount := 0, carriedCount := 0
    windowUs := 0xffff, memberFenced := false, fromRecord := kept.isSome, unsent := [] }

/-- The staged contributions of a reduction are matched. -/
def State.matchNow (s : State) (st ticket : Nat) : State :=
  match (s.stand st).coll ticket with
  | some y => s.matchStaged st y
  | none => s

/-- The module result is complete: what the operation sends, it sends now (R224, R225). -/
def State.moduleDone (s : State) (st : Nat) (c : Cmd) (a : RedArgs) (y : Coll) : State :=
  let y := { y with ownAt := some s.clock.now, taint := s.stepTainted st c }
  let t := (s.setColl st y).setCmd st { c with stage := .phase 2, todo := [] }
  let my := (s.rankIn st y.mtab).getD 0
  let ks := (List.range (s.mtab st y.mtab).members.length).filter (fun k => decide (0 < s.lenOf st y k))
  if y.fromRecord then t
  else if c.opcode = 0x30 then t.setColl st { y with results := [(0, y.vals, false)] }
  else if y.op = 5 then ((s.hearers st y my).foldl (fun u r => u.sendContrib st y my r r) t).matchNow st y.ticket
  else if y.op = 3 then
    (s.hearers st y my).foldl (fun u r => u.sendResult st y my y.vals y.taint [] r) (t.putPart st y my 0 y.vals y.taint)
  else if y.op = 4 then
    if my ≠ a.root then t
    else ks.foldl (fun u k => match (u.stand st).coll y.ticket with
      | some z => (s.hearers st y my).foldl (fun v r => v.sendResult st y k (s.partOf st y k) y.taint [] r)
          (u.putPart st z k 0 (s.partOf st y k) y.taint)
      | none => u) t
  else
    (ks.foldl (fun u k => match s.ownerOf st y k with
      | some o => if o = my then u else u.sendContrib st y my k o
      | none => u) t).matchNow st y.ticket

/-- A queued REDUCE or COLLECTIVE begins. -/
def State.startRed (s : State) (st : Nat) (c : Cmd) : State :=
  let a := redArgs c.bytes
  if a.op ≠ 5 ∧ s.memWaits st c a.src then s
  else
    let (t, c) := if a.op = 5 then (s, c) else s.redSources st c a
    let y := t.newColl st c a
    let pieces := if a.op = 5 ∨ y.fromRecord then [] else List.range (ceilDiv a.src.count 16384)
    let c := { c with stage := .running, todo := pieces, tStart := s.clock.now }
    let x := t.stand st
    let u := (t.setStand st { x with colls := x.colls ++ [y] }).setCmd st c
    if pieces.isEmpty then u.moduleDone st c a y else u

/-- A piece of 16,384 elements leaves the last module stage (R219). -/
def State.piece (s : State) (st : Nat) (c : Cmd) (y : Coll) : State :=
  let a := redArgs c.bytes
  match c.todo with
  | [] => s
  | n :: rest =>
    let vs := (List.range (min 16384 (a.src.count - 16384 * n))).map (fun i => s.moduleVal st c a (16384 * n + i))
    let y := { y with vals := y.vals ++ vs.map (fun v => code32 v.1) }
    let c := { c with todo := rest }
    let t := (((s.setColl st y).setCmd st c).countStand st cTrsPieces).count (kStand st cFmtDecodeOverflow) (vs.map Prod.snd).sum
    if rest.isEmpty then t.moduleDone st c a y else t

/-- A running reduction whose clusters lie on several compute dies goes through the link-die level of the Truss tree (R217, spec/01
R22). -/
def State.onLinkTruss (s : State) (st : Nat) (c : Cmd) : Bool :=
  (decide (c.opcode = 0x30) || decide (c.opcode = 0x31)) && decide (c.stage = .running) &&
    decide (1 < (((List.range (redArgs c.bytes).nclu).filterMap (fun i =>
      (s.standCluster st ((redArgs c.bytes).clu0 + i)).map dieOfCluster)).dedup).length)

/-- The stand's reductions that go through that level. -/
def State.linkOps (s : State) (st : Nat) : List Cmd := (s.stand st).inflight.filter (s.onLinkTruss st)

/-- The reduction that has the link-die level, by stand and ticket: the one that holds it, which keeps it to its last piece, or the
oldest of the stand whose turn it is, round-robin per operation (spec/01 R22). -/
def State.trussTurn (s : State) : Option (Nat × Nat) :=
  match s.fabric.trussNow.filter (fun h => (s.linkOps h.1).any (fun c => decide (c.ticket = h.2))) with
  | some h => some h
  | none => ((List.range 64).map (fun i => (s.fabric.trussLast + 1 + i) % 64)).findSome? (fun st =>
      (s.linkOps st).head?.map (fun c => (st, c.ticket)))

/-- The link-die level taken by a reduction, and given up with its last piece. -/
def State.holdTruss (s : State) (st : Nat) (c : Cmd) : State :=
  if s.onLinkTruss st c then
    s.setFabric { s.fabric with trussNow := if c.todo.length ≤ 1 then none else some (st, c.ticket), trussLast := st }
  else s

/-- REDUCTION_PIECE: the next piece of a running reduction (R219), which has the link-die level where it needs it. -/
def execReductionPiece (stand ticket : Nat) (s : State) : Host.Outcome State Fault Refusal :=
  .next (match (s.stand stand).cmd ticket, (s.stand stand).coll ticket with
    | some c, some y =>
      if s.alive ∧ c.stage = .running ∧ (s.onLinkTruss stand c → s.trussTurn = some (stand, ticket)) then
        (s.holdTruss stand c).piece stand c y
      else s
    | _, _ => s)

/-! ### Late windows (R227, R228, R230) -/

/-- A rank's contribution to a segment is replaced whatever arrives (R218): its member is fenced, or it failed the match. -/
def State.outOf (s : State) (st : Nat) (y : Coll) (k r : Nat) : Bool := s.leafFenced st y.mtab r || y.mism.contains (k, r)

/-- The ranks that a window's close at `limit` ns finds late. -/
def State.lateRanks (s : State) (st : Nat) (y : Coll) (my k limit : Nat) : List Nat :=
  let x := s.stand st
  (List.range (s.mtab st y.mtab).members.length).filter (fun r => decide (r ≠ my) && !s.outOf st y k r &&
    !((x.arrived y k).any (fun p => decide (p.1 = r) && decide (p.2.toNat ≤ limit))))

/-- The time in ns at which the window of a segment closes (R227). -/
def State.windowEnd (s : State) (st : Nat) (y : Coll) (k : Nat) : Option Nat :=
  ((s.stand st).t0 y k).map (fun t => t + (1000 * s.windowUs st y.collId).floor.toNat)

/-- The window of a segment owned here can close (R227): a policy with windows, no replay (R232), not formed. -/
def State.windowDue (s : State) (st : Nat) (c : Cmd) (y : Coll) (k : Nat) : Bool :=
  (decide (y.op = 1) || decide (y.op = 2)) && decide (y.policy ≠ 0) && !c.replay && y.ownAt.isSome && !y.fromRecord &&
    decide (0 < s.lenOf st y k) && decide (s.ownerOf st y k = s.rankIn st y.mtab) && !y.closed.contains k &&
    !y.formed.contains k && (match s.windowEnd st y k with
      | some e => decide (e ≤ s.clock.now.toNat)
      | none => false)

/-- A window closes: every late contribution makes an open entry, which one that has arrived since settles at once. -/
def State.closeWindow (s : State) (st : Nat) (c : Cmd) (y : Coll) (k : Nat) (late : List Nat) : State :=
  let may := decide (y.policy = 1) || decide ((s.late st y.collId).samples < 32)
  let t := s.setColl st { y with closed := y.closed ++ [k], lateCount := y.lateCount + late.length
                                 windowUs := (s.windowUs st y.collId).floor.toNat }
  let t := late.foldl (fun u r => u.addEntry st
    { step := c.step, collId := y.collId, mtab := y.mtab, version := y.version, reason := .late, disp := .isOpen, rank := r, segment := k
      inst := y.inst, carryInst := 0, own := true, mayCarry := may }) (t.count (kStand st cTrsLate) late.length)
  late.foldl (fun u r => match (u.stand st).contrib y.mtab y.inst k r with
    | some q => (match q.doneAt, (u.stand st).openFor q with
      | some _, some e => u.settleLate st q e
      | _, _ => u)
    | none => u) t

/-- LATE_WINDOW_EXPIRE: a segment's window closes at T0 + W, unless its entries would pass 4,096 (R227, R230). -/
def execLateWindowExpire (stand ticket segment : Nat) (s : State) : Host.Outcome State Fault Refusal :=
  .next (match (s.stand stand).cmd ticket, (s.stand stand).coll ticket, s.alive with
    | some c, some y, true =>
      if !s.windowDue stand c y segment then s
      else match s.rankIn stand y.mtab, s.windowEnd stand y segment with
        | some my, some e =>
          let late := s.lateRanks stand y my segment e
          if late.isEmpty ∨ 4096 < (s.stand stand).openOwn.length + late.length then s
          else s.closeWindow stand c y segment late
        | _, _ => s
    | _, _, _ => s)

/-! ### Forming a segment (R217, R218, R226, R229, R231, R232) -/

/-- What a rank gives to a segment at its owner. -/
inductive Leaf where
  | value (vals : List W32) (taint : Bool)
  | missing (why : LateReason)
  | awaited
  deriving DecidableEq, Repr

def State.leafOf (s : State) (st : Nat) (c : Cmd) (y : Coll) (my k r : Nat) : Leaf :=
  let x := s.stand st
  if r = my then .value (s.partOf st y k) y.taint
  else match (if c.replay then x.entry y k r else none) with
    | some e => .missing e.reason
    | none =>
      if s.leafFenced st y.mtab r then .missing .fenced
      else if y.mism.contains (k, r) then .missing .mismatch
      else match x.entry y k r with
        | some e => .missing e.reason
        | none => match x.contrib y.mtab y.inst k r with
          | some q => if q.doneAt.isSome then .value q.vals q.taint else .awaited
          | none => .awaited

/-- Leaf values of an element of a segment: +0 where the contribution is missing (R218). -/
def Leaf.at_ (l : Leaf) (j : Nat) : Val :=
  match l with
  | .value vs _ => val32 (vs.getD j 0)
  | _ => Val.zero

def Leaf.tainted : Leaf → Bool
  | .value _ t => t
  | _ => false

/-- The carried values of an element, rank by rank (R218). -/
def carryVal (ks : List Carry) (d j : Nat) : Val :=
  tree32 ((List.range d).map (fun r => match ks.find? (fun k => decide (k.rank = r)) with
    | some k => val32 (k.vals.getD j 0)
    | none => Val.zero))

/-- A segment's result (R217, R218). -/
def formVals (ls : List Leaf) (ks : List Carry) (n : Nat) : List W32 :=
  (List.range n).map (fun j =>
    let v := tree32 (ls.map (·.at_ j))
    code32 (if ks.isEmpty then v else add32 v (carryVal ks ls.length j)))

/-- The entries of missing contributions that forming makes: a fenced member's and a mismatch's (R229, R230). -/
def formEntries (c : Cmd) (y : Coll) (k : Nat) (ls : List Leaf) : List LateEntry :=
  (ls.zipIdx).filterMap (fun p => match p.1 with
    | .missing .late => none
    | .missing why => some { step := c.step, collId := y.collId, mtab := y.mtab, version := y.version
                             reason := why, disp := .dropped, rank := p.2, segment := k, inst := y.inst, carryInst := 0, own := true, mayCarry := false }
    | _ => none)

/-- Carries used by an instance are named in the ledger and kept until its step commits (R231). -/
def StandSt.useCarries (x : StandSt) (c : Cmd) (y : Coll) (ks : List Carry) : StandSt :=
  let used (k : Carry) : Bool := ks.contains k
  { x with
    carries := (x.carries.filter (fun k => !(used k && c.step.isNone))).map (fun k =>
      if used k then { k with added := some (y.inst, c.step) } else k)
    ledger := x.ledger.map (fun e => if ks.any (fun k => decide (k.collId = e.collId) && decide (k.mtab = e.mtab) &&
        decide (k.version = e.version) && decide (k.inst = e.inst) && decide (k.segment = e.segment) && decide (k.rank = e.rank)) then
      { e with carryInst := y.inst } else e) }

/-- The contributions that a formed segment no longer needs (R225); one that is still late stays. -/
def StandSt.dropUsed (x : StandSt) (y : Coll) (k : Nat) : StandSt :=
  { x with contribs := x.contribs.filter (fun q => !(q.of y && decide (q.segment = k)) || (x.openFor q).isSome) }

/-- The owner forms a segment and sends it with its ledger entries. -/
def State.formSegment (s : State) (st : Nat) (c : Cmd) (y : Coll) (my k : Nat) (ls : List Leaf) : State :=
  let x := s.stand st
  let ks := x.carriesFor y k c.replay
  let vs := formVals ls ks (s.lenOf st y k)
  let taint := ls.any Leaf.tainted || ks.any (·.taint)
  let made := if c.replay then [] else formEntries c y k ls
  let t := (made.foldl (fun u e => u.addEntry st e) s).count (kStand st cTrsFencedLeaf)
    (ls.filter (fun l => decide (l = .missing .fenced))).length
  let late := ls.any (fun l => decide (l = .missing .late))
  let times := (x.arrived y k).map (fun p => p.2.toNat) ++ (y.ownAt.map BitVec.toNat).toList
  let t := if c.replay || late then t
    else match x.t0 y k with
      | some t0 => t.lateSample st y.collId (times.foldl max 0 - t0)
      | none => t
  let t := t.setStand st (((t.stand st).useCarries c y ks).dropUsed y k)
  let y' := { y with formed := y.formed ++ [k], lateCount := y.lateCount + made.length
                     carriedCount := y.carriedCount + ks.length
                     windowUs := if y.policy ≠ 0 ∧ !c.replay ∧ y.windowUs = 0xffff then (s.windowUs st y.collId).floor.toNat
                       else y.windowUs }
  let es := (t.stand st).ledger.filter (fun e => e.own && decide (e.collId = y.collId) && decide (e.mtab = y.mtab) &&
    decide (e.version = y.version) && decide (e.inst = y.inst) && decide (e.segment = k))
  let t := t.setColl st y'
  let t := if (s.needed st y).contains k then t.putPart st y' k 0 vs taint else t
  (s.hearers st y my).foldl (fun u r => u.sendResult st y k (if y.op = 1 ∨ r = k then vs else []) taint es r) t

/-- A reassigned owner that has the segment's result from the owner before it sends it on, with the entries it was given (R224,
R229). -/
def State.passOn (s : State) (st : Nat) (y : Coll) (my k : Nat) : State :=
  let r := (y.result k).getD ([], false)
  let es := (s.stand st).ledger.filter (fun e => decide (e.collId = y.collId) && decide (e.mtab = y.mtab) &&
    decide (e.version = y.version) && decide (e.inst = y.inst) && decide (e.segment = k))
  (s.hearers st y my).foldl (fun u q => u.sendResult st y k r.1 r.2 es q) (s.setColl st { y with formed := y.formed ++ [k] })

/-- A window that is due must close before its segment is formed: some contribution came after T₀ + W or has not come, and the
ledger has room for its entries (R227, R230). -/
def State.windowFirst (s : State) (st : Nat) (c : Cmd) (y : Coll) (my k : Nat) : Bool :=
  s.windowDue st c y k && (match s.windowEnd st y k with
    | some e => let late := s.lateRanks st y my k e
                !late.isEmpty && decide ((s.stand st).openOwn.length + late.length ≤ 4096)
    | none => false)

/-- SEGMENT_FORM: the owner of a segment has every contribution, or what replaces it (R224). -/
def execSegmentForm (stand ticket segment : Nat) (s : State) : Host.Outcome State Fault Refusal :=
  .next (match (s.stand stand).cmd ticket, (s.stand stand).coll ticket with
    | some c, some y =>
      match s.rankIn stand y.mtab with
      | some my =>
        let ls := (List.range (s.mtab stand y.mtab).members.length).map (s.leafOf stand c y my segment)
        if !(s.alive && (decide (y.op = 1) || decide (y.op = 2)) && y.ownAt.isSome && !y.fromRecord &&
            decide (0 < s.lenOf stand y segment) && decide (s.ownerOf stand y segment = some my) &&
            !y.formed.contains segment) then s
        else if s.hasResult stand y segment then s.passOn stand y my segment
        else if s.windowFirst stand c y my segment ∨ ls.any (fun l => decide (l = .awaited)) then s
        else s.formSegment stand c y my segment ls
      | none => s
    | _, _ => s)

/-! ### What arrives from other members (R225-R230) -/

/-- Every instance of a member table up to the given one has left the stand: nothing of it is in flight. -/
def State.instPast (s : State) (st m : Nat) (i : W32) : Bool :=
  let x := s.stand st
  decide (0 < ((s.mtab st m).inst - i).toNat) && decide (((s.mtab st m).inst - i).toNat < 2 ^ 31) &&
    !x.inflight.any (fun c => (decide (c.opcode = 0x31) || decide (c.opcode = 0x32)) && decide (c.inst = i) && !c.ended &&
      decide ((if c.opcode = 0x31 then (redArgs c.bytes).mtab else bits (fld c.bytes 19 1) 3 0) = m))

/-- A chunk of a contribution placed in staging; a contribution that is now complete settles its late entry. -/
def State.stageContrib (s : State) (st : Nat) (m : Meta) (k o : Nat) (vs : List W32) : State :=
  let x := s.stand st
  let old := (x.contrib m.mtab m.inst k m.rank).getD
    ⟨m.mtab, m.inst, m.version, m.op, m.collId, m.count, m.rank, k, m.taint, [], none⟩
  let vals := placeAt old.vals o vs
  let full := decide (segLen m.count (s.mtab st m.mtab).members.length k ≤ vals.length) || decide (m.op = 5)
  let q := { old with vals := vals, taint := old.taint || m.taint
                      doneAt := if old.doneAt.isSome then old.doneAt else if full then some s.clock.now else none }
  let t := s.setStand st { x with contribs := x.contribs.filter (fun d => decide (d ≠ old)) ++ [q] }
  match full, (t.stand st).openFor q with
  | true, some e => t.settleLate st q e
  | _, _ => t

/-- What a REDUCE_PUT does at its owner: `none` while it waits for staging room or for the member table (R225). -/
def State.takeContrib (s : State) (st : Nat) (t : Txn) : Option State :=
  let m := metaOf t.meta_
  let x := s.stand st
  let d := (s.mtab st m.mtab).members.length
  match s.rankIn st m.mtab with
  | none => none
  | some my =>
    let k := if m.op = 5 then my else (my + d - bits (leNat (t.meta_.take 16)) 127 121 % d) % d
    let o := t.addr / 4
    let vs := (codesOf t.payload).take (segLen m.count d k - o)
    let probe : Contrib := ⟨m.mtab, m.inst, m.version, m.op, m.collId, m.count, m.rank, k, m.taint, [], none⟩
    match x.colls.find? (fun y => probe.of y) with
    | some y =>
      if !probe.matches_ y then
        some ((s.setStand st { x with contribs := x.contribs.filter (fun q => !(q.of y && decide (q.segment = k) &&
            decide (q.rank = m.rank))) }).countStand st cTrsMismatch |>.setColl st { y with mism := y.mism ++ [(k, m.rank)] })
      else if (y.formed.contains k && (x.openFor probe).isNone) || y.fromRecord then some s
      else if (s.cfg st).reduceStageMib * 2 ^ 20 < x.staged + 4 * vs.length then none
      else some (s.stageContrib st m k o vs)
    | none =>
      if (x.openFor probe).isNone && s.instPast st m.mtab m.inst then some s
      else if (s.cfg st).reduceStageMib * 2 ^ 20 < x.staged + 4 * vs.length then none
      else some (s.stageContrib st m k o vs)

/-- REDUCE_PUT: a contribution received, matched and staged (R225, R226). Its ADDR is no software-visible address but an offset
within the segment (spec/10 Table 10-6), and its bytes go to the stand's staging, so what is left of spec/07 R173's check is that
the stand is in use. -/
def execReducePut (port : Nat) (txn : Txn) (s : State) : Host.Outcome State Fault Refusal :=
  .next (match s.takeRequest port txn 3 with
    | none => s
    | some t =>
      if !(s.cfg txn.dstand).enabled then (t.countStand txn.dstand cMemRemoteRefused).respond txn 1 []
      else match t.takeContrib txn.dstand txn with
        | some u => u.respond txn 0 []
        | none => s)

/-- The step whose commands took an instance of a member table: the newest record that opened before it (spec/12 R306). -/
def StepSt.stepOfInst (x : StepSt) (m : Nat) (i : W32) : Option W64 :=
  ((x.records.filter (fun r => decide ((i - r.inst.getD m 0).toNat < 2 ^ 31))).getLast?).map (·.step)

/-- The entries of a message recorded by a member that did not make them (R229). -/
def State.takeEntries (s : State) (st : Nat) (m : Meta) (payload : List Byte) (step : Option W64) : State :=
  let es := (List.range (payload.length / 16 - 1)).map (fun i => entryOf ((payload.drop (16 * i + 16)).take 16) m.version step)
  (es.filter (fun e => !(s.stand st).ledger.contains e)).foldl (fun u e => u.addEntry st e) s

/-- A collective's result or ledger entries received as a PUT: `none` while this device has not begun the instance. -/
def State.takeResult (s : State) (st : Nat) (t : Txn) : Option State :=
  let m := metaOf t.payload
  let x := s.stand st
  match x.colls.find? (fun y => decide (y.mtab = m.mtab) && decide (y.inst = m.inst)) with
  | none =>
    if !s.instPast st m.mtab m.inst then none
    else if m.entries && decide (m.version = (s.mtab st m.mtab).version) && !x.steps.inReplay then
      some (s.takeEntries st m t.payload (x.steps.stepOfInst m.mtab m.inst))
    else some s
  | some y =>
    match x.cmd y.ticket with
    | none => some s
    | some c =>
      if m.version ≠ y.version ∨ m.op ≠ y.op ∨ y.fromRecord then some s
      else if m.entries then some (if c.replay then s else s.takeEntries st m t.payload c.step)
      else
        let o := 1020 * ((t.addr - resultBase) / 4096)
        some (s.putPart st y m.rank o ((codesOf (t.payload.drop 16)).take (s.lenOf st y m.rank - o)) m.taint)

/-! ### The end of a reduction (R220, R224, R241, R242) -/

/-- ROOT of a BROADCAST is fenced. -/
def State.rootLost (s : State) (st : Nat) (a : RedArgs) : Bool := decide (a.op = 4) && s.rankFenced st a.mtab a.root

/-- Everything that this device waits for has come. -/
def State.redReady (s : State) (st : Nat) (c : Cmd) (a : RedArgs) (y : Coll) : Bool :=
  y.ownAt.isSome && (decide (c.opcode = 0x30) || s.rootLost st a || (
    match a.op, s.rankIn st y.mtab with
    | 5, some my => (s.hearers st y my).all (fun r => ((s.stand st).contrib y.mtab y.inst my r).isSome)
    | _, _ => (s.needed st y).all (s.hasResult st y)))

/-- The received result of one element: of the tensor, or for REDUCE_SCATTER of the own segment, which is filled up with +0
(R224); `none` leaves DST as it is. -/
def State.resultAt (s : State) (st : Nat) (c : Cmd) (a : RedArgs) (y : Coll) (i : Nat) : Option W32 :=
  let d := (s.mtab st y.mtab).members.length
  if c.opcode = 0x30 then some (y.vals.getD i 0)
  else if a.op = 2 then some (match s.rankIn st y.mtab with
    | some my => (((y.result my).getD ([], false)).1).getD i 0
    | none => 0)
  else if s.rootLost st a then none
  else
    let k := i / segSize y.count d
    if a.op = 3 ∧ s.rankFenced st y.mtab k ∧ !s.hasResult st y k then none
    else some ((((y.result k).getD ([], false)).1).getD (i - k * segSize y.count d) 0)

/-- Payload bytes 32 on of Table 9-11. -/
def State.redPayload (s : State) (st : Nat) (c : Cmd) (y : Coll) : List Byte :=
  natLe 4 c.inst.toNat ++ natLe 2 (sat16 y.lateCount) ++ natLe 2 (sat16 y.carriedCount) ++
    natLe 2 ((List.range (s.mtab st y.mtab).members.length).filter (s.leafFenced st y.mtab)).length ++ natLe 2 y.windowUs

/-- The results of a COLLECTIVE kept in its step's record (R220, R232, spec/12 R306). -/
def State.keepResults (s : State) (st : Nat) (c : Cmd) (a : RedArgs) (y : Coll) : State :=
  match c.step with
  | some n =>
    if a.keep && decide (c.opcode = 0x31) && !y.fromRecord then
      y.results.foldl (fun t r => t.recordKept st n ⟨c.seq, a.mtab, c.inst, r.1, r.2.1⟩) s
    else s
  | none => s

/-- The command's engines have ended. -/
def State.redDone (s : State) (st : Nat) (c : Cmd) (a : RedArgs) (y : Coll) : State :=
  let t := s.keepResults st c a y
  let x := t.stand st
  (t.setStand st { x with colls := x.colls.filter (fun z => decide (z.ticket ≠ y.ticket))
                          contribs := x.contribs.filter (fun q => !q.of y || (x.openFor q).isSome) }).engineDone st
    { c with pay := s.redPayload st c y
             statuses := c.statuses ++ (if y.results.any (·.2.2) then [0x0110] else []) ++
               (if y.memberFenced then [0x0111] else []) }

/-- The result written to DST, and the end; a delivery into G has its own command. -/
def State.endRed (s : State) (st : Nat) (c : Cmd) (y : Coll) : State :=
  let a := redArgs c.bytes
  if !s.redReady st c a y || a.dgrp then s
  else if a.op = 5 ∨ s.rootLost st a then s.redDone st c a y
  else match s.putResult st c a.dst (s.resultAt st c a y) with
    | some (t, c) => t.redDone st c a y
    | none => s

/-- The contributions kept because they could not be sent go out where there is a way to their owner now (R225). -/
def State.retryUnsent (s : State) (st : Nat) (y : Coll) : State :=
  let my := (s.rankIn st y.mtab).getD 0
  let t := s.mtab st y.mtab
  let way (p : Nat × Nat) : Bool := match t.members[p.2]? with
    | some (d, _) => if t.tg then (s.bondTo d).isSome else (s.routeTo d).isSome
    | none => false
  let owed (p : Nat × Nat) : Bool := if y.op = 5 then !s.rankFenced st y.mtab p.2 else decide (s.ownerOf st y p.1 = some p.2)
  let keep := y.unsent.filter (fun p => owed p && !way p)
  (y.unsent.filter (fun p => owed p && way p)).foldl (fun u p => u.sendContrib st { y with unsent := keep } my p.1 p.2)
    (s.setColl st { y with unsent := keep })

/-- A REDUCE or COLLECTIVE row: a queued command begins, and one whose results have all come ends. -/
def State.runRed (s : State) (st t op : Nat) : State :=
  match s.canRun st t op with
  | some c => s.startRed st c
  | none =>
    match (s.stand st).cmd t, (s.stand st).coll t with
    | some c, some y =>
      if !(s.alive && decide (c.opcode = op) && decide (c.stage = .phase 2)) then s
      else if y.unsent.isEmpty then s.endRed st c y
      else s.retryUnsent st y
    | _, _ => s

/-- REDUCE (R219, R220). -/
def execReduce (stand ticket : Nat) (s : State) : Host.Outcome State Fault Refusal := .next (s.runRed stand ticket 0x30)

/-- COLLECTIVE (R220, R224). -/
def execCollective (stand ticket : Nat) (s : State) : Host.Outcome State Fault Refusal := .next (s.runRed stand ticket 0x31)

/-! ### Delivery into G (R221) -/

/-- An earlier landing-engine access of the stand to G of the group has still to end (R190, R221). -/
def State.landingAhead (s : State) (st : Nat) (c : Cmd) (k : Nat) (span : Nat × Nat) : Bool :=
  let x := s.stand st
  x.deliveryAhead c k || x.inflight.any (fun d => decide (d.ticket < c.ticket) && !d.ended && (
    ((decide (d.opcode = 0x20) || decide (d.opcode = 0x21)) && decide (ugrpOf d.bytes = k)) ||
    (decide (d.opcode = 0x22) && (s.sweptRegions st d.bytes).contains (s.tgroup (s.udef k).tgrp).g) ||
    (decide (d.opcode = 0x12) && (let b := Sys2Proof.Machine.skidArgs d.bytes; decide (b.dst.space = 0) && spansMeet b.dst.span span))))

/-- The elements delivered: place in the group, and code. -/
def State.delivered (s : State) (st : Nat) (c : Cmd) (a : RedArgs) (y : Coll) : List (Nat × W32) :=
  let d := (s.mtab st y.mtab).members.length
  let n := a.received (decide (c.opcode = 0x31)) (if c.opcode = 0x31 then d else 1) ((s.rankIn st y.mtab).getD 0)
  (List.range n).filterMap (fun j => (s.resultAt st c a y j).map (fun w => (j, w)))

/-- The delivery: overwriting, or adding in binary32 (R221); words of G that fail correction are handled as ACCUM handles
them (spec/08 R203). -/
def State.deliver (s : State) (st : Nat) (c : Cmd) (a : RedArgs) (y : Coll) : State :=
  let js := s.delivered st c a y
  let g := s.gRd a.ugrp
  let e0 := 4096 * (s.udef a.ugrp).first4k
  let new (p : Nat × W32) : Val := if a.first then val32 p.2 else add32 (s.roleVal g (e0 + p.1)).1 (val32 p.2)
  let out := js.flatMap (fun p => putCode (4 * (e0 + p.1)) 4 (fFP32.encode (new p)))
  let read := if a.first then [] else (js.flatMap (fun p => s.roleWords g (e0 + p.1))).dedup
  let bad := if s.hbm.diff = [] then [] else read.filter s.hbm.bad
  let ks := out.map (fun p => (s.regionKey g.data p.1, p.2))
  let t := if a.first then s.noteMerge (ks.map Prod.fst) else s.noteWords read
  let t := t.setHbm (t.hbm.put ks)
  let t := (t.poisonWords bad).count (kStand st cLndPoisonRead) bad.length
  let t := if bad.isEmpty then t else t.markCmd st c 6
  t.redDone st c a y

/-- DELIVERY_INTO_G: the results have come, and every earlier landing-engine access to the elements has ended. -/
def execDeliveryIntoG (stand ticket : Nat) (s : State) : Host.Outcome State Fault Refusal :=
  .next (match (s.stand stand).cmd ticket, (s.stand stand).coll ticket with
    | some c, some y =>
      let a := redArgs c.bytes
      let n := a.received (decide (c.opcode = 0x31))
        (if c.opcode = 0x31 then (s.mtab stand y.mtab).members.length else 1) ((s.rankIn stand y.mtab).getD 0)
      let span := s.deliverySpan a.ugrp n
      if s.alive ∧ c.stage = .phase 2 ∧ a.dgrp ∧ s.redReady stand c a y ∧ !s.landingAhead stand c a.ugrp span ∧
          !s.memHeld stand c.ticket span then s.deliver stand c a y
      else s
    | _, _ => s)

end Sys2Proof.Machine
end

