-- ==== Sys2Proof/Machine/Watch.lean ====
section
/-! DEFINITION. The devices that a stand's Lookout watches (spec/12 R323). -/

namespace Sys2Proof.Machine

/-- A device newly watched: live, its jitter estimate at the seed (R323). -/
def State.newPeer (s : State) (d : W16) : Peer :=
  { device := d, state := .live, source := 0, est := s.img.jitterSeedUs, samples := 0, lastNamed := s.clock.now
    named := false, saplingLeft := 0 }

/-- The peer devices of the stand's loaded member tables, each once, and those that it has fenced. -/
def State.watchable (s : State) (st : Nat) : List W16 :=
  (((List.range 16).flatMap (fun m => if (s.mtab st m).loaded then (s.mtab st m).members.map Prod.fst else [])) ++
    (s.fabric.fences.filter (fun f => decide (f.1 = st))).map Prod.snd).dedup.filter (fun d => decide (d ≠ s.img.deviceId))

/-- The watched devices follow the tables and the fences; a device beyond the 256 is counted and not watched. -/
def State.rewatch (s : State) (st : Nat) : State :=
  let x := s.stand st
  let want := s.watchable st
  let keep := x.peers.filter (fun p => want.contains p.device)
  let new := want.filter (fun d => !keep.any (fun p => decide (p.device = d)))
  let room := 256 - keep.length
  (s.setStand st { x with peers := keep ++ (new.take room).map s.newPeer }).count (kStand st cLkoUnwatched)
    (new.length - room)

end Sys2Proof.Machine
end

