-- ==== Sys2Proof/Machine/Permute.lean ====
section
/-! DEFINITION. OWNER_LOAD (spec/09 R222) and PERMUTE (spec/09 R233-R239): their checks, phases and messages. -/

namespace Sys2Proof.Machine

/-! ### OWNER_LOAD (R222, Tables 9-3, 9-4) -/

/-- The body of Table 9-3. -/
structure LoadArgs where
  table : Nat
  kind : Bool
  tg : Bool
  blockLog2 : Nat
  entries : Nat
  version : W32
  addr : Nat
  blockKib : Nat
  deriving DecidableEq, Repr

def loadArgs (p : List Byte) : LoadArgs :=
  { table := bits (fld p 16 1) 3 0, kind := bit (fld p 16 1) 4, tg := bit (fld p 16 1) 5, blockLog2 := bits (fld p 17 1) 4 0
    entries := bits (fld p 18 2) 12 0, version := fmtAt p 20, addr := bits (fld p 24 8) 39 0, blockKib := fld p 32 4 }

/-- OWNER_LOAD's checks at issue. -/
def State.checkLoad (s : State) (st : Nat) (p : List Byte) : Option W16 :=
  let a := loadArgs p
  let ctx := bits (fld p 4 1) 3 0
  if decide (bits (fld p 16 1) 7 6 ≠ 0) || decide (bits (fld p 17 1) 7 5 ≠ 0) || decide (bits (fld p 18 2) 15 13 ≠ 0) ||
    decide (bits (fld p 24 8) 63 40 ≠ 0) || !isZeroRange p 36 28 then some 1
  else firstFail [
    (decide (16 < a.blockLog2) || decide (a.entries = 0) || decide ((if a.kind then 256 else 4096) < a.entries) ||
      (if a.kind then decide (a.blockLog2 ≠ 0) || decide (a.blockKib ≠ 0) else a.tg), 0x0101),
    (decide (a.addr % 16 ≠ 0), 0x0103),
    (!s.mayAccess st ctx a.addr (16 * a.entries) false, 0x0005)]

/-- A command names an owner table: a Skidder command's owner-space operands, a PERMUTE's tables, or what an OWNER_LOAD
loads. -/
def Cmd.namesOwner (c : Cmd) (t : Nat) : Bool :=
  let o := c.opcode
  if o = 0x33 then !(loadArgs c.bytes).kind && decide ((loadArgs c.bytes).table = t)
  else if 0x10 ≤ o ∧ o ≤ 0x13 then
    (Sys2Proof.Machine.skidArgs c.bytes).operands.any (fun d => decide (d.space = 3) && decide (d.table = t))
  else decide (o = 0x32) && (decide (bits (fld c.bytes 17 1) 3 0 = t) || decide (bits (fld c.bytes 17 1) 7 4 = t) ||
    (bit (fld c.bytes 18 1) 4 && decide (bits (fld c.bytes 18 1) 3 0 = t)))

/-- A command names a member table. -/
def Cmd.namesMember (c : Cmd) (t : Nat) : Bool :=
  let o := c.opcode
  (decide (o = 0x33) && (loadArgs c.bytes).kind && decide ((loadArgs c.bytes).table = t)) ||
  (decide (o = 0x49) && decide (bits (fld c.bytes 18 1) 3 0 = t)) ||
  (decide (o = 0x31) && decide ((redArgs c.bytes).mtab = t)) || (decide (o = 0x32) && decide (bits (fld c.bytes 19 1) 3 0 = t)) ||
    (decide (o = 0x42) && !bit (fld c.bytes 16 1) 5 && (decide (bits (fld c.bytes 16 1) 3 0 = t) ||
      (bit (fld c.bytes 16 1) 6 && decide (bits (fld c.bytes 17 1) 3 0 = t)))) ||
    (decide (o = 0x48) && bit (fld c.bytes 18 1) 4 && decide (bits (fld c.bytes 18 1) 3 0 = t))

/-- An OWNER_LOAD must wait for an earlier command that names its table; where OFFLOAD puts table SPILL in the place of ACT,
SPILL is named too (R240). -/
def State.loadWaits (s : State) (st : Nat) (c : Cmd) : Bool :=
  let a := loadArgs c.bytes
  let g := s.cfg st
  (s.stand st).inflight.any (fun d => decide (d.ticket < c.ticket) && (if a.kind then d.namesMember a.table
    else d.namesOwner a.table || (g.spillValid && decide (a.table = g.spill) && d.namesOwner g.act)))

/-- Table 6-2 of spec/06, from its 16 bytes. -/
def ownerEntryOf (b : List Byte) : OwnerEntry :=
  ⟨BitVec.ofNat 16 (fld b 0 2), bits (fld b 2 1) 5 0, bits (fld b 2 1) 7 6, bits (fld b 8 8) 39 0⟩

/-- A tensor group that R233 does not allow. -/
def State.tgBad (s : State) (st : Nat) (ms : List (W16 × Nat)) : Bool :=
  decide (ms.length < 2) || decide (8 < ms.length) ||
    ms.any (fun m => decide (m ≠ (s.img.deviceId, st)) && (s.bondTo m.1).isNone)

/-- A member table takes the place of another: its instance counter is zero, and carries of the old version that no
instance has added are dropped (R222, R231). -/
def State.loadMembers (s : State) (st : Nat) (a : LoadArgs) (ms : List (W16 × Nat)) : State :=
  let x := s.stand st
  let gone (k : Carry) : Bool := decide (k.mtab = a.table) && decide (k.version ≠ a.version) && k.added.isNone
  ((s.setStand st { x with mtabs := x.mtabs.set a.table ⟨true, a.tg, ms, a.version, 0⟩
                           carries := x.carries.filter (fun k => !gone k) }).count (kStand st cTrsDropped)
    (x.carries.filter gone).length).rewatch st

/-- OWNER_LOAD: the entries are read and checked, and the table is replaced (R222). A load that R233 or R239 does not allow is
refused, which only the entries can show; its completion handles it as a refusal (`Cmd.refusedLate`). -/
def State.ownerLoad (s : State) (st : Nat) (c : Cmd) : State :=
  let a := loadArgs c.bytes
  let raw := s.readSoft a.addr (16 * a.entries)
  let rows := (List.range a.entries).map (fun k => (raw.drop (16 * k)).take 16)
  let es := rows.map ownerEntryOf
  let ms := es.map (fun e => (e.device, e.stand))
  let tab : OwnerTab := ⟨true, a.blockLog2, es, a.version, a.blockKib⟩
  let t := s.noteSoft a.addr (16 * a.entries)
  let bad := firstFail [
    (!(s.badSoft a.addr (16 * a.entries)).isEmpty || (if a.kind then decide (ms.dedup.length < ms.length)
      else es.any (fun e => decide (2 ≤ e.state))), 0x0104),
    (!a.kind && s.overBudget st a.table tab, 0x0107),
    (a.kind && a.tg && s.tgBad st ms, 0x010a)]
  let c := { c with tStart := s.clock.now }
  match bad with
  | some v => t.engineDone st { c with statuses := c.statuses ++ [v], pay := [] }
  | none =>
    let u := if a.kind then t.loadMembers st a ms
      else t.setStand st { t.stand st with owners := (t.stand st).owners.set a.table tab }
    u.engineDone st { c with pay := natLe 4 a.version.toNat }

/-- OWNER_LOAD once the commands that name its table have completed (R222). -/
def execOwnerLoad (stand ticket : Nat) (s : State) : Host.Outcome State Fault Refusal :=
  .next (match s.canRun stand ticket 0x33 with
    | none => s
    | some c => if s.loadWaits stand c then s else s.ownerLoad stand c)

/-! ### PERMUTE: its body and checks (R234, R236, Table 9-7) -/

/-- The body of Table 9-7. -/
structure PermArgs where
  cluster : Nat
  old : Nat
  new : Nat
  alt : Nat
  altValid : Bool
  stepChk : Bool
  mtab : Nat
  step : W32
  deriving DecidableEq, Repr

def permArgs (p : List Byte) : PermArgs :=
  { cluster := bits (fld p 16 1) 6 0, old := bits (fld p 17 1) 3 0, new := bits (fld p 17 1) 7 4
    alt := bits (fld p 18 1) 3 0, altValid := bit (fld p 18 1) 4, stepChk := bit (fld p 18 1) 5
    mtab := bits (fld p 19 1) 3 0, step := fmtAt p 20 }

/-- An entry names this device and stand. -/
def State.mine (s : State) (st : Nat) (e : OwnerEntry) : Bool := decide (e.device = s.img.deviceId) && decide (e.stand = st)

/-- A block's bytes at its owner. -/
def OwnerTab.blockSpan (t : OwnerTab) (e : OwnerEntry) : Nat × Nat := (e.addr, e.addr + 1024 * t.blockKib)

/-- An address lies in a versioned region. -/
def State.versioned (s : State) (a : Nat) : Bool :=
  match s.regionAt a with
  | some (r, _) => (s.twinOf r).valid
  | none => false

/-- A block of NEW to be formed here overlaps a block of OLD here (R236). -/
def State.permOverlap (s : State) (st : Nat) (o n : OwnerTab) : Bool :=
  n.entries.zipIdx.any (fun x => s.mine st x.1 && o.entries.zipIdx.any (fun y => s.mine st y.1 && decide (y.1.state = 1) &&
    !(decide (x.2 = y.2) && decide (x.1.addr = y.1.addr)) && spansMeet (n.blockSpan x.1) (o.blockSpan y.1)))

/-- The table with every entry moving. -/
def OwnerTab.moving (t : OwnerTab) : OwnerTab := { t with entries := t.entries.map (fun e => { e with state := 2 }) }

/-- PERMUTE's checks at issue. -/
def State.checkPermute (s : State) (st : Nat) (p : List Byte) : Option W16 :=
  let a := permArgs p
  let ctx := bits (fld p 4 1) 3 0
  let o := s.owner st a.old
  let n := s.owner st a.new
  let same (t : OwnerTab) : Bool := t.loaded && decide (t.blockLog2 = n.blockLog2) &&
    decide (t.entries.length = n.entries.length) && decide (t.blockKib = n.blockKib)
  let access (t : OwnerTab) (write : Bool) : Bool := t.entries.all (fun e => !s.mine st e || decide (e.state = 0) ||
    s.mayAccess st ctx e.addr (1024 * t.blockKib) write)
  if bit (fld p 16 1) 7 || decide (bits (fld p 18 1) 7 6 ≠ 0) || decide (bits (fld p 19 1) 7 4 ≠ 0) || !isZeroRange p 24 40 then
    some 1
  else firstFail [
    (decide ((s.cfg st).clusters.length ≤ a.cluster), 0x0102),
    (!same o || !same n || (a.altValid && !same (s.owner st a.alt)) || !(s.mtab st a.mtab).loaded, 0x0104),
    ((s.rankIn st a.mtab).isNone, 0x0105),
    (s.overBudget st a.new n.moving, 0x0107),
    (s.permOverlap st o n, 0x0108),
    (n.entries.any (fun e => s.mine st e && s.versioned e.addr), 0x0109),
    (!(access o false && access n true), 0x0005)]

/-! ### Messages (R235, spec/10 Table 10-7) -/

/-- A PERMUTE message: its member table and instance in ADDR, and one word: the digest of NEW, the versions, and which
message it is (1 opening, 2 pull-done, 3 closing; 4 and 5, which name a block, go with the pull-done). -/
def permAddr (m : Nat) (i : W32) : Nat := m * 2 ^ 36 + i.toNat * 16

def State.permWord (s : State) (st : Nat) (a : PermArgs) (kind : Nat) : List Byte :=
  let n := s.owner st a.new
  let raw := n.entries.flatMap (fun e => natLe 2 e.device.toNat ++ natLe 1 e.stand ++ natLe 5 0 ++ natLe 8 e.addr)
  natLe 8 (Config.permuteDigest raw).toNat ++ natLe 7 (Config.permuteVersions (s.owner st a.old).version n.version
    (if a.altValid then (s.owner st a.alt).version else 0)).toNat ++ natLe 1 kind

/-- The message by which a member names a block that no source supplied to it: 5 where that is only because of STEPCHK, else 4
(R235, R237; the specification gives the message no form: DESIGN CHOICE 81). -/
def absentWord (k : Nat) (stepOnly : Bool) : List Byte := natLe 8 k ++ natLe 7 0 ++ natLe 1 (if stepOnly then 5 else 4)

/-- A word to every other member that is not fenced. -/
def State.permTell (s : State) (st : Nat) (c : Cmd) (a : PermArgs) (w : List Byte) : State :=
  let t := s.mtab st a.mtab
  (List.range t.members.length).foldl (fun u r => match t.members[r]? with
    | some (d, ds) =>
      if some r = s.rankIn st a.mtab ∨ s.fenced st d then u
      else (u.request st 4 d ds (permAddr a.mtab c.inst) [] w false (.permuteMsg c.ticket)).1
    | none => u) s

/-- One of the three messages of R235 to every other member that is not fenced. -/
def State.permSend (s : State) (st : Nat) (c : Cmd) (a : PermArgs) (kind : Nat) : State :=
  s.permTell st c a (s.permWord st a kind)

def StandSt.perm (x : StandSt) (ticket : Nat) : Option Perm := x.perms.find? (fun p => decide (p.ticket = ticket))

def State.setPerm (s : State) (st : Nat) (p : Perm) : State :=
  let x := s.stand st
  s.setStand st { x with perms := x.perms.map (fun q => if q.ticket = p.ticket then p else q) }

/-- What a PERMUTE message does: `none` while this device has not begun the instance. -/
def State.takePerm (s : State) (st : Nat) (t : Txn) : Option State :=
  let m := t.addr / 2 ^ 36
  let i : W32 := BitVec.ofNat 32 (t.addr / 16)
  let kind := fld t.payload 15 1
  match (s.stand st).perms.find? (fun p => decide (p.mtab = m) && decide (p.inst = i)), (s.mtab st m).rank t.src t.sstand with
  | some p, some r =>
    match (s.stand st).cmd p.ticket with
    | some c =>
      let a := permArgs c.bytes
      if kind = 1 then some (s.setPerm st { p with opened := r :: p.opened
                                                   mismatch := p.mismatch || decide (t.payload.take 16 ≠ s.permWord st a 1) })
      else if kind = 2 then some (s.setPerm st { p with pulledBy := r :: p.pulledBy })
      else if kind = 4 ∨ kind = 5 then
        let k := fld t.payload 0 8
        some (s.setPerm st { p with absent := k :: p.absent, stepAbsent := if kind = 5 then k :: p.stepAbsent else p.stepAbsent })
      else some s
    | none => some s
  | none, _ => if s.instPast st m i then some s else none
  | some _, none => some s

/-- PERMUTE_MESSAGE (R235). -/
def execPermuteMessage (port : Nat) (txn : Txn) (s : State) : Host.Outcome State Fault Refusal :=
  .next (match s.takeRequest port txn 4 with
    | none => s
    | some t =>
      if !(s.cfg txn.dstand).enabled then t.respond txn 1 []
      else match t.takePerm txn.dstand txn with
        | some u => u.respond txn 0 []
        | none => s)

/-! ### Pulling (R235, R236) -/

/-- The key that a source serves of a software-visible address: the committed copy of a versioned region (R236). -/
def State.committedKey (s : State) (a : Nat) : Option Nat :=
  (s.regionAt a).map (fun p =>
    let o := a - p.2.base
    let t := s.twinOf p.1
    let r := if !t.valid then p.1 else match s.groupAt p.2.group (t.unit4k o) with
      | some k => s.copyOf p.1 (s.ugroup k).sel
      | none => p.1
    s.regionKey r o)

/-- A block copied within this device's memory, word by word with its check symbols (spec/00 R20, spec/06 R145). -/
def State.copyBlock (s : State) (src dst n : Nat) : State :=
  let t := s.noteWords ((List.range (n / 16)).filterMap (fun i => (s.committedKey (src + 16 * i)).map (· / 16)))
  t.setHbm ((List.range (n / 16)).foldl (fun m i =>
    match s.committedKey (src + 16 * i), s.visKey (dst + 16 * i) with
    | some x, some y => m.copyWord (x / 16) (y / 16)
    | _, _ => m) t.hbm)

/-- The request word of a PERMUTE's GET: the byte count, that it is a PERMUTE's, and the step that its source must have
committed (R236). -/
def permGet (a : PermArgs) (n : Nat) : List Byte :=
  natLe 4 n ++ natLe 1 (if a.stepChk then 3 else 1) ++ natLe 3 0 ++ natLe 4 a.step.toNat

/-- A source of this stand serves under STEPCHK (R236). -/
def StepSt.serves (x : StepSt) (stepChk : Bool) (step : W32) : Bool :=
  !stepChk || decide (x.committed.setWidth 32 = step)

/-- One block asked of an owner: copied at once where that is this stand, and otherwise requested whole. -/
def State.pullFrom (s : State) (st : Nat) (c : Cmd) (a : PermArgs) (p : Perm) (k : Nat) (src : OwnerEntry) (size : Nat) :
    State × Perm :=
  let dst := (s.owner st a.new).entries.getD k ⟨0, 0, 0, 0⟩
  if src.state ≠ 1 then (s, { p with failed := (k, false) :: p.failed })
  else if s.mine st src then
    if !(s.stand st).steps.serves a.stepChk a.step then (s, { p with failed := (k, true) :: p.failed })
    else match s.standCluster st a.cluster with
      | none => (s, { p with failed := (k, false) :: p.failed })
      | some px =>
        if s.clusterFenced (.skidder px) then (s, { p with failed := (k, false) :: p.failed })
        else (s.copyBlock src.addr dst.addr size, { p with copied := p.copied + 1 })
  else
    (pieces (size / 4096 + 2) src.addr size).foldl (fun acc x =>
      let (u, asked) := acc.1.request st 2 src.device src.stand x.1 [] (permGet a x.2) false (.permute c.ticket k)
      (u, if asked = .sent then acc.2 else { acc.2 with failed := (k, false) :: acc.2.failed }))
      (s, { p with todo := k :: p.todo })

/-- Pulling begins: every block that NEW places here, from its OLD owner (R235). -/
def State.permPull (s : State) (st : Nat) (c : Cmd) (a : PermArgs) (p : Perm) : State :=
  let o := s.owner st a.old
  let n := s.owner st a.new
  let ks := (List.range n.entries.length).filter (fun k => s.mine st (n.entries.getD k ⟨0, 0, 0, 0⟩))
  let (t, q) := ks.foldl (fun acc k =>
    let e := o.entries.getD k ⟨0, 0, 0, 0⟩
    let x := n.entries.getD k ⟨0, 0, 0, 0⟩
    if s.mine st e && decide (e.addr = x.addr) && decide (e.state = 1) then acc
    else acc.1.pullFrom st c a acc.2 k e (1024 * n.blockKib)) (s, { p with phase := 2 })
  t.setPerm st q

/-- Blocks that a source did not supply go to ALT, whole; those that ALT does not supply either become absent (R235). -/
def State.permRetry (s : State) (st : Nat) (c : Cmd) (a : PermArgs) (p : Perm) : State :=
  let ks := (p.failed.map Prod.fst).dedup
  let size := 1024 * (s.owner st a.new).blockKib
  let (t, q) := ks.foldl (fun acc k =>
    let e := (s.owner st a.alt).entries.getD k ⟨0, 0, 0, 0⟩
    if a.altValid && !p.alted.contains k then
      acc.1.pullFrom st c a { acc.2 with alted := k :: acc.2.alted } k e size
    else (acc.1, { acc.2 with absent := k :: acc.2.absent
                              stepAbsent := if acc.2.hard.contains k then acc.2.stepAbsent else k :: acc.2.stepAbsent }))
    (s, { p with failed := [], hard := (p.failed.filter (fun f => !f.2)).map Prod.fst ++ p.hard, todo := p.todo.filter (fun k => !ks.contains k), pulled := p.pulled })
  t.setPerm st q

/-- The requests of a PERMUTE for blocks that no response has ended. -/
def StandSt.pulling (x : StandSt) (ticket : Nat) : Bool :=
  let of (w : ReqFor) : Bool := match w with | .permute t _ => decide (t = ticket) | _ => false
  x.reqs.any (fun r => of r.what) || x.held.any (fun h => of h.what)

/-- Data that has arrived for a PERMUTE written, as far as the memory takes it: it waits while a copy-ahead buffer is full, or while
the place has still to be swept (spec/08 R207, R210). -/
def State.permLand (s : State) (st : Nat) (p : Perm) : State :=
  let (t, left) := p.arrived.foldl (fun acc x =>
    if acc.1.sweepSpan st p.ticket x.1 x.2.length then (acc.1, acc.2 ++ [x])
    else match acc.1.stageFor (acc.1.softBlocks x.1 x.2.length) with
      | some u => (u.writeSoft x.1 x.2, acc.2)
      | none => (acc.1, acc.2 ++ [x])) (s, [])
  t.setPerm st { p with arrived := left }

/-- Pulling is over: the members are told which of this member's blocks are absent, and that it has finished (R235). -/
def State.permPulled (s : State) (st : Nat) (c : Cmd) (a : PermArgs) (p : Perm) : State :=
  let es := (s.owner st a.new).entries
  let own := p.absent.dedup.filter (fun k => (es[k]?).any (s.mine st))
  let t := s.setPerm st { p with phase := 3, pulled := p.pulled + (p.todo.dedup.filter (fun k => !own.contains k)).length
                                 todo := [] }
  (own.foldl (fun u k => u.permTell st c a (absentWord k (p.stepAbsent.contains k))) t).permSend st c a 2

/-- The states of NEW's entries replaced. -/
def State.setStates (s : State) (st n : Nat) (f : Nat → OwnerEntry → Nat) : State :=
  let x := s.stand st
  let t := x.owners.get OwnerTab.reset n
  let u : OwnerTab := { t with entries := t.entries.zipIdx.map (fun p => { p.1 with state := f p.2 p.1 }) }
  s.setStand st { x with owners := x.owners.set n u }

/-- Payload bytes 32 on (Table 9-11). -/
def Perm.payload (p : Perm) : List Byte :=
  natLe 4 p.inst.toNat ++ natLe 2 (sat16 p.pulled) ++ natLe 2 (sat16 p.copied) ++ natLe 2 (sat16 p.absent.dedup.length)

/-- A PERMUTE's engine work is over. -/
def State.permDone (s : State) (st : Nat) (c : Cmd) (p : Perm) (status : List W16) : State :=
  let x := s.stand st
  (s.setStand st { x with perms := x.perms.filter (fun q => decide (q.ticket ≠ p.ticket)) }).engineDone st
    { c with pay := p.payload, statuses := c.statuses ++ status }

/-- Every other member that is not fenced is in a list of ranks. -/
def State.allRanks (s : State) (st m : Nat) (l : List Nat) : Bool :=
  (List.range (s.mtab st m).members.length).all (fun r => decide (some r = s.rankIn st m) || s.rankFenced st m r || l.contains r)

/-- A queued PERMUTE opens: NEW's entries move, and the members are told (R235). -/
def State.permOpen (s : State) (st : Nat) (c : Cmd) (a : PermArgs) : State :=
  let x := s.stand st
  let p : Perm := { ticket := c.ticket, mtab := a.mtab, inst := c.inst, phase := 1, opened := [], pulledBy := [], todo := []
                    alted := [], failed := [], hard := [], arrived := [], pulled := 0, copied := 0, absent := [], stepAbsent := []
                    loaded := (s.owner st a.new).entries.map (·.state), mismatch := false, memberFenced := false }
  let px := s.standCluster st a.cluster
  let lost := match px with | some x => s.clusterFenced (.skidder x) | none => true
  let (t, c) := if lost then (s.setStand st { x with perms := x.perms ++ [p] }).unavailable st c
    else (s.setStand st { x with perms := x.perms ++ [p] }, c)
  ((t.setStates st a.new (fun _ _ => 2)).setCmd st { c with stage := .running, tStart := s.clock.now }).permSend st c a 1

/-- PERMUTE: its opening and its pulling, each as far as the members' messages and the sources' answers have come. -/
def execPermute (stand ticket : Nat) (s : State) : Host.Outcome State Fault Refusal :=
  .next (match s.canRun stand ticket 0x32 with
    | some c => s.permOpen stand c (permArgs c.bytes)
    | none =>
      match (s.stand stand).cmd ticket, (s.stand stand).perm ticket with
      | some c, some p =>
        let a := permArgs c.bytes
        if !s.alive ∨ c.stage ≠ .running then s
        else if p.phase = 1 then
          if !s.allRanks stand a.mtab p.opened then s
          else if p.mismatch then
            (s.setStates stand a.new (fun k _ => p.loaded.getD k 0)).permDone stand c p [0x0113]
          else s.permPull stand c a p
        else if p.arrived ≠ [] then s.permLand stand p
        else if p.phase = 2 ∧ !(s.stand stand).pulling ticket then
          if p.failed.isEmpty then s.permPulled stand c a p else s.permRetry stand c a p
        else s
      | _, _ => s)

/-- PERMUTE_CLOSE: every member that is not fenced has finished pulling (R235, R237). -/
def execPermuteClose (stand ticket : Nat) (s : State) : Host.Outcome State Fault Refusal :=
  .next (match (s.stand stand).cmd ticket, (s.stand stand).perm ticket with
    | some c, some p =>
      let a := permArgs c.bytes
      if s.alive ∧ p.phase = 3 ∧ s.allRanks stand a.mtab p.pulledBy then
        let t := s.mtab stand a.mtab
        let gone (k : Nat) (e : OwnerEntry) : Bool := p.absent.contains k ||
          (!s.mine stand e && (!(t.members.contains (e.device, e.stand)) || s.fenced stand e.device))
        let n := ((s.owner stand a.new).entries.zipIdx.filter (fun x => gone x.2 x.1)).length
        let q := { p with absent := ((s.owner stand a.new).entries.zipIdx.filter (fun x => gone x.2 x.1)).map Prod.snd }
        (((s.setStates stand a.new (fun k e => if gone k e then 0 else 1)).count (kStand stand cTrsPermuteAbsent) n).permSend
          stand c a 3).permDone stand c q
            (if n = 0 then (if p.memberFenced then [0x0111] else [])
             else if q.absent.all p.stepAbsent.contains then [0x0114] else [0x0112])
      else s
    | _, _ => s)

end Sys2Proof.Machine
end

