-- ==== Sys2Proof/Machine/Sources.lean ====
section
/-! DEFINITION. Bytes of memory as a hash is given them: the delivered byte, and a free value for a byte of a word that fails
correction. -/

namespace Sys2Proof.Machine

/-- The bytes at some keys of the stacked memory, free values where the word fails correction, and the state after the
read: free values taken are not given again. -/
def State.takeKeys (s : State) (m : Mem) (ks : List Nat) : List Byte × State :=
  let bad := ks.any (fun k => m.bad (k / 16))
  (ks.zipIdx.map (fun p => if m.bad (p.1 / 16) then Config.freeByte (s.freeCtr + p.2) else m.read p.1),
   if bad then s.setFreeCtr (s.freeCtr + ks.length) else s)

end Sys2Proof.Machine
end

