-- ==== Sys2Proof/Machine/CopyOps.lean ====
section
/-! DEFINITION. Background copies (spec/08 R208-R210, spec/12 R319, R320): pins, the layout of a checkpoint, its reads and its
headers. -/

namespace Sys2Proof.Machine

/-! ### Layout (R320, Tables 12-8, 12-9) -/

/-- Bytes of an update group's shard: header and role data. -/
def State.shardBytes (s : State) (k : Nat) : Nat := 256 + ((s.rolesOf k).map (fun r => (s.groupRange k r.2).2)).sum

/-- Bytes of a manifest. -/
def manifestBytes (n : Nat) : Nat := 256 + 96 * n + 576

/-- Offsets of shards from DADDR, each at the next 4 KiB boundary. -/
def shardOffs (start : Nat) : List Nat → List Nat
  | [] => []
  | b :: bs => let o := roundUp start 4096; o :: shardOffs (o + b) bs

def State.layout (s : State) (ks : List Nat) : List Nat := shardOffs (manifestBytes ks.length) (ks.map s.shardBytes)

/-- BYTES: the length of a checkpoint. -/
def State.ckptBytes (s : State) (ks : List Nat) : Nat :=
  match (s.layout ks).getLast?, ks.getLast? with
  | some o, some k => o + s.shardBytes k
  | _, _ => manifestBytes 0

/-! ### Pieces and pins (R208, R209) -/

/-- A role of a pinned copy cut at every 512 bytes of its region, so that no granule or copy-ahead block splits a piece. -/
def State.rolePieces (s : State) (shard k : Nat) (twin : Bool) (off prim : Nat) : List CopyPiece :=
  let (o, n) := s.groupRange k prim
  (cuts 512 (n / 512 + 2) o n).map (fun p =>
    let key := s.regionKey (s.copyOf prim twin) p.1
    ⟨keyDie key, keyLoc key / 65536, key, p.2, shard, off + (p.1 - o)⟩)

/-- Every piece of a shard. -/
def State.shardPieces (s : State) (shard k : Nat) (twin : Bool) : List CopyPiece :=
  ((s.rolesOf k).foldl (fun acc r => (acc.1 ++ s.rolePieces shard k twin acc.2 r.2, acc.2 + (s.groupRange k r.2).2))
    (([] : List CopyPiece), 0)).1

/-- A background copy starts: it pins the copies that hold the committed version (R208), and zeroes MAGIC at its
destination (R320). -/
def State.pinned (s : State) (st : Nat) (b : BgCopy) : BgCopy :=
  let x := (s.stand st).steps
  let gs := b.groups.map (fun g => (g.1, (s.ugroup g.1).sel))
  { b with groups := gs, step := x.committed, meta_ := x.meta_, got := []
           todo := gs.zipIdx.flatMap (fun g => s.shardPieces g.2 g.1.1 g.1.2) }

/-- Words of this device's memory that hold moved words which failed correction: their check symbols moved with them (spec/01
R20); a word is named by its place after `a`. -/
def State.keepDiffs (s : State) (a : Nat) (fs : Tab (Byte × Byte)) : State :=
  s.setHbm (fs.foldl (fun m f => match s.visKey (a + 16 * f.1) with
    | some k => m.setDiff (k / 16) f.2
    | none => m) s.hbm)

/-- The differences of the words from number `i` on, `n` of them, numbered anew. -/
def diffPart (fs : Tab (Byte × Byte)) (i n : Nat) : Tab (Byte × Byte) :=
  (fs.filter (fun f => decide (i ≤ f.1) && decide (f.1 < i + n))).map (fun f => (f.1 - i, f.2))

/-- Bytes written at a background copy's destination: memory of the stand, or a peer's by PUT; `fs` are the check differences of
words moved that failed correction. -/
def State.copyOut (s : State) (st : Nat) (b : BgCopy) (off : Nat) (bs : List Byte) (fs : Tab (Byte × Byte)) : State :=
  match b.remote with
  | none => (s.writeSoft (b.dest + off) bs).keepDiffs (b.dest + off) fs
  | some (d, ds) =>
    let what : ReqFor := match b.ticket with | some t => .checkpoint t | none => .other
    (pieces (bs.length / 4096 + 2) (b.dest + off) bs.length).foldl (fun u p =>
      let o := p.1 - b.dest - off
      let (v, a) := u.requestWith st 1 d ds p.1 [] ((bs.drop o).take p.2) (diffPart fs (o / 16) (p.2 / 16)) false what
      match b.ticket, a with
      | _, .sent => v
      | none, _ => v
      | some t, _ => match (v.stand st).cmd t with
        | some c => v.setCmd st { c with lost := p.1 :: c.lost }
        | none => v) s

def State.setCopy (s : State) (st : Nat) (b : Option BgCopy) : State :=
  let x := s.stand st
  s.setStand st { x with steps := { x.steps with copy := b } }

/-- A background copy takes the stand's pin. -/
def State.beginCopy (s : State) (st : Nat) (b : BgCopy) : State :=
  let p := s.pinned st b
  (s.setCopy st (some p)).copyOut st p 0 (natLe 8 0) []

/-! ### Reading (R210) -/

/-- The block read next: a staged one before all others. -/
def State.nextBlock (s : State) (st : Nat) (b : BgCopy) : Option (Nat × Nat) :=
  match b.todo.find? (fun p => (s.land p.die).isStaged st p.block) with
  | some p => some (p.die, p.block)
  | none => b.todo.head?.map (fun p => (p.die, p.block))

/-- The staged block freed. -/
def LandDie.freeStaged (l : LandDie) (st block : Nat) : LandDie :=
  { l with staged := l.staged.filter (fun x => !(decide (x.stand = st) && decide (x.block = block))) }

/-- One piece read and written on: its words go on unchanged (spec/01 R20), and the hash takes free bytes for a word that failed
correction (log entry 29). -/
def State.copyPiece (s : State) (st : Nat) (m : Mem) (offs : List Nat) (b : BgCopy) (p : CopyPiece) : State × BgCopy :=
  let ks := (List.range p.len).map (p.key + ·)
  let (bs, t) := s.takeKeys m ks
  let fs := (List.range (p.len / 16)).filterMap (fun i =>
    if m.bad (p.key / 16 + i) then some (i, m.diffAt (p.key / 16 + i)) else none)
  (t.copyOut st b (offs.getD p.shard 0 + 256 + p.off) (ks.map m.read) fs, { b with got := b.got ++ [(p.shard, p.off, bs)] })

/-- One block of a background copy read. -/
def State.readBlock (s : State) (st : Nat) (b : BgCopy) (die block : Nat) : State :=
  let here (p : CopyPiece) : Bool := decide (p.die = die) && decide (p.block = block)
  let now := b.todo.filter here
  let m := ((s.land die).stagedMem st block).getD s.hbm
  let offs := s.layout (b.groups.map Prod.fst)
  let s1 := if ((s.land die).stagedMem st block).isSome then s
    else s.noteWords ((now.flatMap (fun p => (List.range (p.len / 16)).map (fun i => p.key / 16 + i))).dedup)
  let (t, c) := now.foldl (fun a p => a.1.copyPiece st m offs a.2 p) (s1, b)
  (t.setLand die ((t.land die).freeStaged st block)).setCopy st (some { c with todo := b.todo.filter (fun p => !here p) })

/-! ### Headers (Tables 12-8, 12-9) -/

/-- A piece put among others by its offset. -/
def insertPiece (p : Nat × List Byte) : List (Nat × List Byte) → List (Nat × List Byte)
  | [] => [p]
  | q :: qs => if p.1 ≤ q.1 then p :: q :: qs else q :: insertPiece p qs

/-- A shard's role data as read, whatever order its blocks were read in. -/
def BgCopy.data (b : BgCopy) (shard : Nat) : List Byte :=
  (((b.got.filter (fun g => decide (g.1 = shard))).map Prod.snd).foldr insertPiece []).flatMap Prod.snd

/-- The lengths of the six roles of a group, zero where a role is absent, and the mask of those present. -/
def State.roleLens (s : State) (k : Nat) : List Nat × Nat :=
  let rs := s.rolesOf k
  ((List.range 6).map (fun c => match rs.find? (fun r => decide (r.1 = c)) with
    | some r => (s.groupRange k r.2).2
    | none => 0), (rs.map (fun r => 2 ^ r.1)).sum)

/-- Bytes 0 to 127 of a shard header. -/
def State.shardHead (s : State) (b : BgCopy) (i k : Nat) : List Byte :=
  let (lens, mask) := s.roleLens k
  natLe 4 0x48535a57 ++ natLe 2 1 ++ natLe 2 mask ++ natLe 4 b.meta_.job.toNat ++ natLe 4 i ++ natLe 8 b.step.toNat ++
    natLe 4 b.otver.toNat ++ natLe 2 (s.udef k).tag.toNat ++ natLe 2 0 ++ natLe 4 (s.udef k).count4k ++ natLe 28 0 ++
    lens.flatMap (natLe 8) ++ natLe 16 0

/-- DIGEST of a shard: SHA-512 over header bytes 0 to 127 and the role data. -/
def State.shardDigest (s : State) (b : BgCopy) (i k : Nat) : List Byte := sha512 (s.shardHead b i k ++ b.data i)

/-- A manifest's header and entries. -/
def State.manifestHead (s : State) (st : Nat) (b : BgCopy) : List Byte :=
  let ks := b.groups.map Prod.fst
  let offs := s.layout ks
  natLe 4 0x464d5a57 ++ natLe 2 1 ++ natLe 2 (if b.sign then 1 else 0) ++ natLe 4 b.meta_.job.toNat ++ natLe 4 ks.length ++
    natLe 8 b.step.toNat ++ natLe 8 b.meta_.dpos.toNat ++ natLe 8 b.meta_.rseed.toNat ++ natLe 8 b.meta_.dseed.toNat ++
    natLe 2 s.img.deviceId.toNat ++ natLe 1 st ++ natLe 1 0 ++ natLe 4 b.otver.toNat ++ natLe 8 (s.ckptBytes ks) ++
    natLe 192 0 ++
    ks.zipIdx.flatMap (fun p => natLe 4 p.2 ++ natLe 2 (s.udef p.1).tag.toNat ++ natLe 2 0 ++ natLe 8 (offs.getD p.2 0) ++
      natLe 8 (s.shardBytes p.1) ++ s.shardDigest b p.2 p.1 ++ natLe 8 0)

/-- The trailer: MDIGEST, and SIG where the manifest is signed and the module has its identity (R320, spec/15 R375). -/
def trailer (sign : Bool) (head : List Byte) : List Byte :=
  let d := sha512 head
  d ++ (if sign then (Config.signature d ++ natLe 512 0).take 512 else natLe 512 0)

/-- Everything read: the shard headers are written, and the manifest last (R320). -/
def State.copyHeads (s : State) (st : Nat) (b : BgCopy) : State :=
  let offs := s.layout (b.groups.map Prod.fst)
  let head := s.manifestHead st b
  let t := b.groups.zipIdx.foldl (fun u p => u.copyOut st b (offs.getD p.2 0)
    (s.shardHead b p.2 p.1.1 ++ s.shardDigest b p.2 p.1.1 ++ natLe 64 0) []) s
  t.copyOut st b 0 (head ++ trailer (b.sign && s.warden.identity) head) []

end Sys2Proof.Machine
end

