-- ==== Sys2Proof/Machine/Checkpoint.lean ====
section
/-! DEFINITION. CHECKPOINT, RESTORE and the reads of background copies (spec/12 R319-R322, R331, spec/08 R196, R208-R210). -/

namespace Sys2Proof.Machine

/-- Requests of a CHECKPOINT or RESTORE that no response has ended. -/
def StandSt.copying (x : StandSt) (ticket : Nat) : Bool :=
  x.reqs.any (fun r => decide (r.what = .checkpoint ticket)) || x.held.any (fun h => decide (h.what = .checkpoint ticket))

/-! ### CHECKPOINT (R319, R320) -/

structure CkptArgs where
  ugrp : Nat
  count : Nat
  device : W16
  dstand : Nat
  remote : Bool
  sign : Bool
  addr : Nat
  otver : W32
  deriving DecidableEq, Repr

def ckptArgs (p : List Byte) : CkptArgs :=
  { ugrp := bits (fld p 16 2) 12 0, count := bits (fld p 18 2) 13 0, device := BitVec.ofNat 16 (fld p 20 2)
    dstand := bits (fld p 22 1) 5 0, remote := bit (fld p 22 1) 6, sign := bit (fld p 22 1) 7
    addr := bits (fld p 24 8) 39 0, otver := fmtAt p 32 }

/-- The stand's table gives a command read access to every versioned role region of some update groups, whatever it writes (spec/07 R172,
spec/08 R211). -/
def State.rolesRead (s : State) (st ctx : Nat) (ks : List Nat) : Bool :=
  ks.all (fun k => (s.rolesOf k).all (fun x => s.roleAccess st ctx k x.2 false))

/-- The checks of CHECKPOINT. -/
def State.checkCheckpoint (s : State) (st ctx : Nat) (p : List Byte) : Option W16 :=
  let a := ckptArgs p
  let ks := groupSpan a.ugrp a.count
  if decide (bits (fld p 16 2) 15 13 ≠ 0) || decide (bits (fld p 18 2) 15 14 ≠ 0) || !isZeroRange p 23 1 ||
    decide (bits (fld p 24 8) 63 40 ≠ 0) || !isZeroRange p 36 28 then some 1
  else firstFail [
    (bit (fld p 1 1) 2 || decide (a.count = 0) || decide (8192 < a.count) || decide (a.addr % 4096 ≠ 0), 0x0101),
    (!(s.stand st).steps.committedValid, 0x0102),
    (!ks.all (s.ownsGroup st), 0x0109),
    (!s.rolesRead st ctx ks || (!a.remote && !s.mayAccess st ctx a.addr (s.ckptBytes ks) true), 0x0005)]

/-- A background copy is over: its pin and its staged blocks go, and a mirror that waits begins (R208, R319). -/
def State.endCopy (s : State) (st : Nat) : State :=
  let t := (List.range s.variant.landDies).foldl (fun u l =>
    u.setLand l { u.land l with staged := (u.land l).staged.filter (fun b => decide (b.stand ≠ st)) }) (s.setCopy st none)
  let x := (t.stand st).steps
  match x.mirrorWait with
  | none => t
  | some b => (t.setStand st { t.stand st with steps := { x with mirrorWait := none } }).beginCopy st b

/-- A CHECKPOINT's copy ends with it. -/
def State.ckptDone (s : State) (st : Nat) (c : Cmd) (status : List W16) : State :=
  let t := (s.endCopy st).engineDone st { c with statuses := c.statuses ++ status }
  if status = [] then t.countStand st cDckCheckpoints else t

/-- A CHECKPOINT whose copy is done, or whose peer fails it, ends. -/
def State.ckptPoll (s : State) (st ticket : Nat) : State :=
  match (s.stand st).cmd ticket with
  | some c =>
    if (s.stand st).steps.copy.any (fun b => decide (b.ticket = some ticket)) then
      if !c.lost.isEmpty then s.ckptDone st c [0x011c]
      else if decide (c.stage = .phase 2) && !(s.stand st).copying ticket then s.ckptDone st c []
      else s
    else s
  | none => s

/-- A CHECKPOINT into the stand's own memory waits on a source that some command holds there (spec/09 R224, R235). -/
def State.ckptHeld (s : State) (st : Nat) (c : Cmd) : Bool :=
  let a := ckptArgs c.bytes
  !a.remote && s.memHeld st c.ticket (a.addr, a.addr + s.ckptBytes (groupSpan a.ugrp a.count))

/-- A CHECKPOINT's groups, or its destination in the stand's own memory, have still to be swept (spec/08 R207). -/
def State.ckptSwept (s : State) (st : Nat) (c : Cmd) : Bool :=
  let a := ckptArgs c.bytes
  (groupSpan a.ugrp a.count).any (s.sweepGroup st c.ticket) ||
    (!a.remote && s.sweepSpan st c.ticket a.addr (s.ckptBytes (groupSpan a.ugrp a.count)))

/-- CHECKPOINT begins once the stand holds no pin (R319). -/
def execCheckpoint (stand ticket : Nat) (s : State) : Host.Outcome State Fault Refusal :=
  .next (match s.canRun stand ticket 0x43 with
    | none => s
    | some c =>
      let a := ckptArgs c.bytes
      let ks := groupSpan a.ugrp a.count
      if (s.stand stand).steps.copy.isSome || s.ckptHeld stand c || s.ckptSwept stand c then s
      else
        let b : BgCopy := { ticket := some ticket, ctx := c.context, groups := ks.map (fun k => (k, false)), todo := [], got := []
                            remote := if a.remote then some (a.device, a.dstand) else none, dest := a.addr
                            otver := a.otver, sign := a.sign, step := 0, meta_ := (s.stand stand).steps.meta_ }
        ((s.setCmd stand { c with stage := .running, tStart := s.clock.now }).beginCopy stand b).ckptPoll stand ticket)

/-- The payload of a CHECKPOINT (Table 12-14). -/
def State.ckptPay (s : State) (st : Nat) (b : BgCopy) : List Byte :=
  natLe 8 b.step.toNat ++ natLe 8 (s.ckptBytes (b.groups.map Prod.fst)) ++ (sha512 (s.manifestHead st b)).take 32

/-- Everything read: the headers go out. A mirror is over; a CHECKPOINT waits for its PUTs. -/
def State.copyRead (s : State) (st : Nat) (b : BgCopy) : State :=
  let t := s.copyHeads st b
  match b.ticket with
  | none => (t.endCopy st).countStand st cDckMirrors
  | some k => match (t.stand st).cmd k with
    | none => t.endCopy st
    | some c => (t.setCmd st { c with stage := .phase 2, pay := s.ckptPay st b }).ckptPoll st k

/-- The next block of a stand's background copy is read (R210); where its own writes need room in a copy-ahead buffer that has
none, it waits. -/
def State.copyStep (s : State) (st : Nat) (b : BgCopy) : State :=
  match s.nextBlock st b with
  | none => s.copyRead st b
  | some (die, block) =>
    let offs := s.layout (b.groups.map Prod.fst)
    let now := b.todo.filter (fun p => decide (p.die = die) && decide (p.block = block))
    let dst := if b.remote.isSome then [] else
      (now.flatMap (fun p => s.softBlocks (b.dest + offs.getD p.shard 0 + 256 + p.off) p.len)).dedup
    match s.stageFor dst with
    | none => s
    | some t => t.readBlock st b die block

/-- BACKGROUND_COPY_READ (R210). -/
def execBackgroundCopyRead (stand : Nat) (s : State) : Host.Outcome State Fault Refusal :=
  .next (match (s.stand stand).steps.copy with
    | none => s
    | some b =>
      let ended : Bool := match b.ticket with
        | some t => match (s.stand stand).cmd t with
          | some c => decide (c.stage = .phase 2) || !c.lost.isEmpty
          | none => false
        | none => false
      if !s.alive then s
      else if ended then s.ckptPoll stand (b.ticket.getD 0)
      else s.copyStep stand b)

/-! ### RESTORE (R321) -/

structure RestArgs where
  ugrp : Nat
  count : Nat
  device : W16
  sstand : Nat
  remote : Bool
  stepChk : Bool
  jobChk : Bool
  addr : Nat
  step : W64
  job : W32
  deriving DecidableEq, Repr

def restArgs (p : List Byte) : RestArgs :=
  { ugrp := bits (fld p 16 2) 12 0, count := bits (fld p 18 2) 13 0, device := BitVec.ofNat 16 (fld p 20 2)
    sstand := bits (fld p 22 1) 5 0, remote := bit (fld p 22 1) 6, stepChk := bit (fld p 22 1) 7, jobChk := bit (fld p 23 1) 0
    addr := bits (fld p 24 8) 39 0, step := BitVec.ofNat 64 (fld p 32 8), job := fmtAt p 40 }

/-- The checks of RESTORE; a damaged group is refused as R199 says. -/
def State.checkRestore (s : State) (st ctx : Nat) (p : List Byte) : Option W16 :=
  let a := restArgs p
  let ks := groupSpan a.ugrp a.count
  let x := (s.stand st).steps
  if decide (bits (fld p 16 2) 15 13 ≠ 0) || decide (bits (fld p 18 2) 15 14 ≠ 0) ||
    decide (bits (fld p 23 1) 7 1 ≠ 0) || decide (bits (fld p 24 8) 63 40 ≠ 0) || !isZeroRange p 44 20 then some 1
  else firstFail [
    (bit (fld p 1 1) 2 || decide (a.count = 0) || decide (8192 < a.count) || (a.remote && decide (a.addr % 16 ≠ 0)), 0x0101),
    (ks.any (fun k => (s.ugroup k).damaged), 0x0105),
    (!x.records.isEmpty || x.restored.isSome, 0x0106),
    (!ks.all (s.ownsGroup st), 0x0109),
    (!s.rolesRead st ctx ks || (!a.remote && !s.mayAccess st ctx a.addr (s.ckptBytes ks) false), 0x0005)]

/-- GETs of a range of the source. -/
def State.restGet (s : State) (st : Nat) (c : Cmd) (a : RestArgs) (addr n : Nat) : State × Cmd :=
  (pieces (n / 4096 + 2) addr n).foldl (fun acc p =>
    let (u, k) := acc.1.request st 2 a.device a.sstand p.1 [] (natLe 16 p.2) false (.checkpoint c.ticket)
    (u, if k = .sent then acc.2 else { acc.2 with lost := p.1 :: acc.2.lost })) (s, c)

/-- Bytes of a source: what the GETs brought, or the stand's own memory, free values where a word fails correction. -/
def State.restBytes (s : State) (c : Cmd) (a : RestArgs) (addr n : Nat) : List Byte × State :=
  if a.remote then
    ((pieces (n / 4096 + 2) addr n).flatMap (fun (p : Nat × Nat) =>
      (((c.fetched.find? (fun (f : Nat × List Byte) => decide (f.1 = p.1))).map Prod.snd).getD [] ++ List.replicate p.2 0).take p.2), s)
  else (s.noteSoft addr n).takeKeys s.hbm ((List.range n).filterMap (fun i => s.visKey (addr + i)))

/-- A manifest that RESTORE accepts (R321). -/
def manifestOk (m : List Byte) (count : Nat) : Bool :=
  decide (fld m 0 4 = 0x464d5a57) && decide (fld m 4 2 = 1) && decide (fld m 12 4 = count) &&
    decide (sha512 (m.take (256 + 96 * count)) = (m.drop (256 + 96 * count)).take 64)

/-- The failures of shard `i` of update group `k`: its bytes `b` beside the manifest `m` and the command (Table 12-13). -/
def State.shardFails (s : State) (a : RestArgs) (m b : List Byte) (i k off : Nat) : List W16 :=
  let e := (m.drop (256 + 96 * i)).take 96
  let (lens, mask) := s.roleLens k
  let d := sha512 (b.take 128 ++ b.drop 256)
  let placed := decide (fld e 8 8 = off) && decide (fld e 16 8 = s.shardBytes k)
  if !placed then [0x011b]
  else
    (if decide (fld b 0 4 = 0x48535a57) && decide (fld b 4 2 = 1) then [] else [0x0118]) ++
    (if decide (d = (b.drop 128).take 64) && decide (d = (e.drop 24).take 64) then [] else [0x0119]) ++
    (if decide (fld b 16 8 = fld m 16 8) && (!a.stepChk || decide (fld b 16 8 = a.step.toNat)) &&
        (!a.jobChk || decide (fld b 8 4 = a.job.toNat)) then [] else [0x011a]) ++
    (if decide (fld b 28 2 = (s.udef k).tag.toNat) && decide (fld b 32 4 = (s.udef k).count4k) &&
        decide (fld b 6 2 = mask) && decide ((b.drop 64).take 48 = lens.flatMap (natLe 8)) then [] else [0x011b])

/-- The manifest against the command. -/
def restFails (a : RestArgs) (m : List Byte) : List W16 :=
  if (!a.stepChk || decide (fld m 16 8 = a.step.toNat)) && (!a.jobChk || decide (fld m 8 4 = a.job.toNat)) then []
  else [0x011a]

/-- RESTORE's payload: STEP, DPOS, FIRST_BAD, the failing status, BYTES read (Table 12-14). -/
def restPay (m : List Byte) (firstBad : Nat) (status : W16) (bytes : Nat) : List Byte :=
  natLe 8 (fld m 16 8) ++ natLe 8 (fld m 24 8) ++ natLe 4 firstBad ++ natLe 1 (status.toNat % 256) ++ natLe 3 0 ++ natLe 8 bytes

/-- A RESTORE that fails ends. -/
def State.restFail (s : State) (st : Nat) (c : Cmd) (status : List W16) (m : List Byte) (firstBad bytes : Nat) : State :=
  let d := { c with statuses := c.statuses ++ status, fetched := [] }
  s.engineDone st { d with pay := restPay m firstBad d.status bytes }

/-- One group installed: every role's data into the other copy, or in place over a tentative one (R196). -/
def State.install (s : State) (k : Nat) (b : List Byte) : State :=
  let g := s.ugroup k
  let t := ((s.rolesOf k).foldl (fun (acc : State × List Byte) p =>
    let (o, n) := s.groupRange k p.2
    (acc.1.writeRegion (s.copyOf p.2 (!g.sel)) o (acc.2.take n), acc.2.drop n)) (s, b.drop 256)).1
  t.setUgroup k { g with tent := true, uTent := (s.udef k).seedU }

/-- A RESTORE's groups, or its source in the stand's own memory, have still to be swept (spec/08 R207). -/
def State.restSwept (s : State) (st : Nat) (c : Cmd) : Bool :=
  let a := restArgs c.bytes
  (groupSpan a.ugrp a.count).any (s.sweepGroup st c.ticket) ||
    (!a.remote && s.sweepSpan st c.ticket a.addr (s.ckptBytes (groupSpan a.ugrp a.count)))

/-- The source read, verified and installed, or a failure; `none` while an earlier SWEEP, a sealed group or a full copy-ahead buffer
holds it. -/
def State.restRun (s : State) (st : Nat) (c : Cmd) (a : RestArgs) : Option State :=
  let ks := groupSpan a.ugrp a.count
  if s.restSwept st c then none else
  let offs := s.layout ks
  let mb := manifestBytes a.count
  let (m, s1) := s.restBytes c a a.addr mb
  if !manifestOk m a.count then
    some ((s1.restFail st c [0x0118] m 0xffffffff mb).countStand st cDckRestoreRejected)
  else
    let (bs, s2) := ks.zipIdx.foldl (fun (acc : List (Nat × Nat × List Byte) × State) p =>
      let (b, u) := acc.2.restBytes c a (a.addr + offs.getD p.2 0) (s.shardBytes p.1)
      (acc.1 ++ [(p.2, p.1, b)], u)) (([] : List (Nat × Nat × List Byte)), s1)
    let bytes := mb + (ks.map s.shardBytes).sum
    let fails := bs.map (fun x => (x.1, s.shardFails a m x.2.2 x.1 x.2.1 (offs.getD x.1 0)))
    let all := restFails a m ++ fails.flatMap Prod.snd
    if !all.isEmpty then
      let first := match fails.find? (fun f => !f.2.isEmpty) with
        | some f => f.1
        | none => 0xffffffff
      some ((s2.restFail st c all m first bytes).countStand st cDckRestoreRejected)
    else if ks.any (fun k => (s.ugroup k).isSealed || (s.rolesOf k).any (fun x => s.groupHeld st c.ticket k x.2)) then none
    else (s2.stageFor ((ks.flatMap s.tentBlocks).dedup)).map (fun s3 =>
      let t := bs.foldl (fun u x => u.install x.2.1 x.2.2) s3
      let y := t.stand st
      let r : RestoredStep :=
        { step := BitVec.ofNat 64 (fld m 16 8), dpos := BitVec.ofNat 64 (fld m 24 8), rseed := BitVec.ofNat 64 (fld m 32 8)
          dseed := BitVec.ofNat 64 (fld m 40 8), job := BitVec.ofNat 32 (fld m 8 4), issued := false }
      let z := { y.steps with restored := some r, next := r.step + 1, nextValid := true }
      ((t.setStand st { y with steps := z }).engineDone st
        { c with fetched := [], pay := restPay m 0xffffffff 0 bytes }).countStand st cDckRestores)

/-- The GETs of every shard (phase 2 of a remote RESTORE). -/
def State.restShards (s : State) (st : Nat) (c : Cmd) (a : RestArgs) : State :=
  let ks := groupSpan a.ugrp a.count
  let offs := s.layout ks
  let (t, d) := ks.zipIdx.foldl (fun acc p =>
    acc.1.restGet st acc.2 a (a.addr + offs.getD p.2 0) (s.shardBytes p.1)) (s, { c with stage := .phase 2 })
  t.setCmd st d

/-- A remote RESTORE goes on when every GET of its phase has ended. -/
def State.restNext (s : State) (st : Nat) (c : Cmd) (a : RestArgs) : State :=
  if (s.stand st).copying c.ticket then s
  else if !c.lost.isEmpty then s.restFail st c [0x011c] [] 0xffffffff 0
  else if c.stage = .phase 1 then
    let (m, _) := s.restBytes c a a.addr (manifestBytes a.count)
    if manifestOk m a.count then s.restShards st c a else (s.restRun st c a).getD s
  else (s.restRun st c a).getD s

/-- RESTORE (R321): of its own memory at once; of a peer's, by GETs of the manifest and then of the shards. -/
def execRestore (stand ticket : Nat) (s : State) : Host.Outcome State Fault Refusal :=
  .next (match s.canRun stand ticket 0x44 with
    | some c =>
      let a := restArgs c.bytes
      let d := { c with tStart := s.clock.now }
      if a.remote then
        let (t, d) := s.restGet stand { d with stage := .phase 1 } a a.addr (manifestBytes a.count)
        t.setCmd stand d
      else (s.restRun stand d a).getD s
    | none => match (s.stand stand).cmd ticket with
      | some c =>
        if s.alive ∧ c.opcode = 0x44 ∧ (c.stage = .phase 1 ∨ c.stage = .phase 2) then s.restNext stand c (restArgs c.bytes)
        else s
      | none => s)

end Sys2Proof.Machine
end

