-- ==== Sys2Proof/Machine/LookoutOps.lean ====
section
/-! DEFINITION. Fencing a device for a stand and everything that follows from it (spec/12 R323-R328, spec/09 R224, R230, R239,
spec/10 R272), and the FENCE transactions sent. -/

namespace Sys2Proof.Machine

/-! ### FENCE transactions (spec/10 Table 10-7) -/

/-- The one word of a FENCE: the device and the stand that it names. -/
def fenceWord (d : W16) (stand : Nat) : List Byte := natLe 2 d.toNat ++ natLe 1 stand ++ natLe 13 0

/-- A FENCE naming a device and stand sent to a member. -/
def State.sendFence (s : State) (st : Nat) (m named : W16 × Nat) : State :=
  (s.request st 7 m.1 m.2 0 [] (fenceWord named.1 named.2) false (.fence named.1)).1

/-- The stand of a device in a member table, zero where the table does not name it. -/
def MemberTab.standOf (t : MemberTab) (d : W16) : Nat := ((t.members.find? (fun m => decide (m.1 = d))).map Prod.snd).getD 0

/-- A FENCE naming a device relayed to the members of a table other than this stand and the device (R324). -/
def State.relayFence (s : State) (st m : Nat) (d : W16) : State :=
  let t := s.mtab st m
  t.members.foldl (fun u x => if x.1 = d ∨ x = (s.img.deviceId, st) then u else u.sendFence st x (d, t.standOf d)) s

/-! ### The fence itself (R325) -/

/-- A peer's entry in the Lookout takes a state; a device that is not watched yet takes an entry while there is room. -/
def State.setPeer (s : State) (st : Nat) (d : W16) (f : Peer → Peer) : State :=
  let x := s.stand st
  if x.peers.any (fun p => decide (p.device = d)) then
    s.setStand st { x with peers := x.peers.map (fun p => if p.device = d then f p else p) }
  else if x.peers.length < 256 then s.setStand st { x with peers := x.peers ++ [f (s.newPeer d)] }
  else s

/-- The member tables of the stand that hold a device. -/
def State.tablesOf (s : State) (st : Nat) (d : W16) : List Nat :=
  (List.range 16).filter (fun m => (s.mtab st m).loaded && (s.mtab st m).members.any (fun x => decide (x.1 = d)))

/-- The segments of a reduction that change hands are sent to their new owners (spec/09 R224). -/
def State.resend (before after : State) (st : Nat) (y : Coll) : State :=
  let my := (after.rankIn st y.mtab).getD 0
  if y.ownAt.isNone || y.fromRecord || !(decide (y.op = 1) || decide (y.op = 2)) then after
  else ((List.range (after.mtab st y.mtab).members.length).filter (fun k => decide (0 < after.lenOf st y k))).foldl (fun u k =>
    match after.ownerOf st y k with
    | some o => if some o = before.ownerOf st y k ∨ o = my then u else u.sendContrib st y my k o
    | none => u) after

/-- A device fenced for a stand: its bit, its Lookout entry, its open late entries, the commands over its tables, and the
recovery window. -/
def State.fenceDev (s : State) (st : Nat) (d : W16) (source : Nat) : State :=
  if s.fenced st d then s
  else
    let hit := s.tablesOf st d
    let t := (s.setFabric { s.fabric with fences := (st, d) :: s.fabric.fences }).setPeer st d
      (fun p => { p with state := .fenced, source := source, saplingLeft := 0 })
    let t := t.settle st (fun e => match (s.mtab st e.mtab).members[e.rank]? with
      | some m => decide (m.1 = d)
      | none => false) .dropped
    let x := t.stand st
    let t := t.setStand st { x with
      colls := x.colls.map (fun y => if hit.contains y.mtab then { y with memberFenced := true } else y)
      perms := x.perms.map (fun p => if hit.contains p.mtab then { p with memberFenced := true } else p)
      recovery := x.recovery || !hit.isEmpty }
    (t.stand st).colls.foldl (fun u y => if hit.contains y.mtab then State.resend s u st y else u) t

/-- A sapling's state ended by a fence (R328). -/
def State.failSapling (s : State) (st : Nat) (d : W16) : State :=
  (s.fenceDev st d 5).countStand st cLkoSaplingFailed

end Sys2Proof.Machine
end

