-- ==== Sys2Proof/Machine/Steps.lean ====
section
/-! DEFINITION. STEP_BEGIN and STEP_END as they issue (spec/12 R303-R309, spec/09 R239, R240). -/

namespace Sys2Proof.Machine

/-- STEP of a STEP_BEGIN. -/
def stepOf (p : List Byte) : W64 := BitVec.ofNat 64 (fld p 16 8)

/-- RESYNC of a STEP_BEGIN. -/
def resyncOf (p : List Byte) : Bool := bit (fld p 52 1) 0

/-- STEP_BEGIN breaks the step order (R305, check 4). -/
def StepSt.orderBad (x : StepSt) (step : W64) (resync : Bool) : Bool :=
  (!resync && x.nextValid && decide (step ≠ x.next)) ||
    (resync && x.committedValid && decide (step.toNat ≤ x.committed.toNat)) ||
    (match x.restored with
     | some r => !r.issued
     | none => false)

/-- The checks of STEP_BEGIN, in the order of R305. -/
def State.checkStepBegin (s : State) (st : Nat) (p : List Byte) : Option W16 :=
  let x := (s.stand st).steps
  if decide (bits (fld p 52 1) 7 1 ≠ 0) || !isZeroRange p 53 11 then some 1
  else firstFail [
    (bit (fld p 1 1) 2, 0x0101),
    (x.openStep.isSome, 0x0103),
    (x.halted && !resyncOf p, 0x01f5),
    (x.orderBad (stepOf p) (resyncOf p), 0x0102),
    (decide ((s.cfg st).blazeK ≤ x.opened), 0x0105)]

/-- A COMMIT of the stand is in flight (R305, R322). -/
def StandSt.commitInFlight (x : StandSt) : Bool := x.inflight.any (fun c => decide (c.opcode = 0x42))

/-- A STEP_BEGIN waits at the head: for room, or for the COMMIT of a restored step (R305, R322). -/
def State.stepBeginWaits (s : State) (st : Nat) : Bool :=
  let x := s.stand st
  x.commitInFlight && (decide (64 ≤ x.steps.records.length) || !s.deckRoom st recHead || x.steps.restored.isSome)

/-- The governor's mode (spec/09 R240). -/
def State.chooseGov (s : State) (st : Nat) : Nat :=
  let c := s.cfg st
  if s.ownedKib st (fun _ => none) ≤ c.budgetKib then 0
  else if c.spillValid && (s.owner st c.spill).loaded then 1 else 2

/-- TRS_INST of the member tables (Table 12-3). -/
def StandSt.insts (x : StandSt) : List W32 := (List.range 16).map (fun m => (x.mtabs.get MemberTab.reset m).inst)

/-- The record that a STEP_BEGIN opens; one without room for its header and snapshot is an overflow record (R305). -/
def State.newRecord (s : State) (st : Nat) (p : List Byte) : StepRec :=
  let x := s.stand st
  { step := stepOf p, dpos := BitVec.ofNat 64 (fld p 24 8), rseed := BitVec.ofNat 64 (fld p 32 8)
    dseed := BitVec.ofNat 64 (fld p 40 8), job := fmtAt p 48, gov := s.chooseGov st, mode := .isOpen, mark := none
    overflow := !s.deckRoom st recHead, unheld := !s.deckRoom st recHead, cmds := [], entries := 0, kept := [], snapEvt := x.evt, snapWait := x.wait
    inst := x.insts, endTicket := none, applied := 0 }

/-- A STEP_BEGIN takes effect (R305). -/
def State.stepBegin (s : State) (st : Nat) (p : List Byte) : State :=
  let r := s.newRecord st p
  let x := s.stand st
  let y := { x.steps with
    records := x.steps.records ++ [r], next := r.step + 1, nextValid := true, opened := x.steps.opened + 1
    last := some (r.rseed, r.dseed, r.step), gov := r.gov
    halted := x.steps.halted && !resyncOf p
    expelled := x.steps.expelled && !resyncOf p
    expellers := if resyncOf p then [] else x.steps.expellers }
  let t := s.setStand st { x with steps := y, rst := { x.rst with masked := x.rst.masked && y.halted } }
  let t := (t.countStand st cDckStepsOpened).count (kStand st cDckOverflow) (if r.overflow then 1 else 0)
  let t := if r.gov = 1 then t.countStand st cTrsGovOffloadSteps
    else if r.gov = 2 then t.countStand st cTrsGovRecomputeSteps else t
  if (t.standDies st).any t.dieMarks then (t.mark st (some r.step) 8).countStand st cIntMonitorMark else t

/-- The checks of STEP_END. -/
def State.checkStepEnd (s : State) (st : Nat) (p : List Byte) : Option W16 :=
  if !isZeroRange p 16 48 then some 1
  else firstFail [(bit (fld p 1 1) 2, 0x0101), ((s.stand st).steps.openStep.isNone, 0x0104)]

/-- A STEP_END takes effect: the OPEN step is CLOSED, and the command stays until the step is APPLIED (R303). -/
def State.stepEnd (s : State) (st ticket : Nat) : State :=
  match (s.stand st).steps.openStep with
  | none => s
  | some n => (s.onRec st n (fun r => { r with mode := .closed, endTicket := some ticket })).applySteps st

end Sys2Proof.Machine
end

