-- ==== Sys2Proof/Machine/Commit.lean ====
section
/-! DEFINITION. COMMIT, its decision, and rollback (spec/12 R310-R318, R322, R328). -/

namespace Sys2Proof.Machine

/-! ### The body and its checks (R310, Table 12-5) -/

structure CommitArgs where
  mtab : Nat
  quorum : Bool
  rollbackOnly : Bool
  mirror : Bool
  mirtab : Nat
  mslotLog2 : Nat
  ugrp : Nat
  count : Nat
  step : W64
  key : W64
  maddr : Nat
  deriving DecidableEq, Repr

def commitArgs (p : List Byte) : CommitArgs :=
  { mtab := bits (fld p 16 1) 3 0, quorum := bit (fld p 16 1) 4, rollbackOnly := bit (fld p 16 1) 5
    mirror := bit (fld p 16 1) 6, mirtab := bits (fld p 17 1) 3 0, mslotLog2 := bits (fld p 17 1) 7 4
    ugrp := bits (fld p 18 2) 12 0, count := bits (fld p 20 2) 13 0, step := BitVec.ofNat 64 (fld p 24 8)
    key := BitVec.ofNat 64 (fld p 32 8), maddr := bits (fld p 40 8) 39 0 }

/-- STEP may be committed (R310): a CLOSED or APPLIED step above the committed one, or the restored step. -/
def StepSt.commitable (x : StepSt) (step : W64) : Bool :=
  (match x.rec_ step with
   | some r => decide (r.mode ≠ .isOpen) && (!x.committedValid || decide (x.committed.toNat < step.toNat))
   | none => false) ||
    (match x.restored with
     | some r => decide (r.step = step)
     | none => false)

/-- The checks of COMMIT. -/
def State.checkCommit (s : State) (st : Nat) (p : List Byte) : Option W16 :=
  let a := commitArgs p
  let tabBad (m : Nat) : Bool := !(s.mtab st m).loaded || (s.rankIn st m).isNone
  if bit (fld p 16 1) 7 || decide (bits (fld p 18 2) 15 13 ≠ 0) || decide (bits (fld p 20 2) 15 14 ≠ 0) ||
    !isZeroRange p 22 2 || decide (bits (fld p 40 8) 63 40 ≠ 0) || !isZeroRange p 48 16 then some 1
  else if a.rollbackOnly then
    firstFail [(bit (fld p 1 1) 2 || decide (a.step ≠ 0) || a.mirror || decide (a.count ≠ 0), 0x0101)]
  else firstFail [
    (bit (fld p 1 1) 2 || decide (a.count = 0) || decide (8192 < a.count), 0x0101),
    (!(s.stand st).steps.commitable a.step, 0x0102),
    (tabBad a.mtab || (a.mirror && tabBad a.mirtab), 0x0108),
    (!(groupSpan a.ugrp a.count).all (s.ownsGroup st), 0x0109)]

/-! ### COMMITs in flight -/

def State.setSteps (s : State) (st : Nat) (f : StepSt → StepSt) : State :=
  let x := s.stand st
  s.setStand st { x with steps := f x.steps }

/-- The COMMIT in hand, the first in chute order (R310). -/
def State.commitNow (s : State) (st : Nat) : Option (CommitSt × Cmd) :=
  match (s.stand st).steps.commits with
  | [] => none
  | j :: _ => ((s.stand st).cmd j.ticket).map (fun c => (j, c))

def StepSt.onCommit (x : StepSt) (j : CommitSt) : StepSt :=
  { x with commits := x.commits.map (fun k => if k.ticket = j.ticket then j else k) }

/-- A COMMIT's work ends: STEP, BLAZE, ROUNDS, n and the members expelled (Table 12-14). -/
def State.commitDone (s : State) (st : Nat) (j : CommitSt) (c : Cmd) (status : List W16) (blaze : List Byte) (rounds : Nat)
    (n : List Byte) : State :=
  ((s.setFreeCtr (s.freeCtr + 17)).setSteps st
    (fun x => { x with commits := x.commits.filter (fun k => decide (k.ticket ≠ j.ticket)) })).engineDone st
    { c with statuses := c.statuses ++ status
             pay := natLe 8 j.step.toNat ++ blaze ++ natLe 1 rounds ++ n ++ natLe 2 j.expelled }

/-- A rollback of the stand is due (R315): issue from the chute stops until it is over. -/
def State.wantRollback (s : State) (st : Nat) (why : RollbackFor) : State :=
  s.setSteps st (fun x => { x with rollback := some why })

/-- The stand is expelled from a table: a device whose FENCE or majority expelled it is a member (R326). -/
def State.expelledFrom (s : State) (st m : Nat) : Bool :=
  let x := (s.stand st).steps
  x.expelled && (s.mtab st m).members.any (fun k => x.expellers.contains k.1)

/-- The messages of a COMMIT's other members that are not fenced, by rank; `none` where one has not come. -/
def State.commitMsgs (s : State) (st : Nat) (j : CommitSt) : List (Nat × Option CommitMsg) :=
  let x := (s.stand st).steps
  let t := s.mtab st j.mtab
  ((List.range t.members.length).filter (fun r => decide (some r ≠ s.rankIn st j.mtab) && !s.rankFenced st j.mtab r)).map
    (fun r => (r, x.msgs.find? (fun m => decide (m.mtabVersion = t.version) && decide (m.step = j.step) &&
      decide (m.round = x.round) && decide (m.rank = r))))

/-- n of Table 12-6 as the payload's byte; the 256 that a byte does not hold is a free value. -/
def State.nByte (s : State) (n : Nat) : List Byte := if n < 256 then natLe 1 n else [Config.freeByte (s.freeCtr + 16)]

/-- A Blaze that has not been formed: free bytes. -/
def State.freeBlaze (s : State) : List Byte := (List.range 16).map (fun i => Config.freeByte (s.freeCtr + i))

/-- n of Table 12-6: this stand and the members that are neither fenced nor saplings. -/
def State.countedMembers (s : State) (st : Nat) (j : CommitSt) : Nat :=
  1 + ((s.commitMsgs st j).filter (fun q => match (s.mtab st j.mtab).members[q.1]? with
    | some (d, _) => !(s.stand st).sapling d
    | none => false)).length

/-- COMMIT begins, once every COMMIT before it is over (R310). -/
def execCommit (stand ticket : Nat) (s : State) : Host.Outcome State Fault Refusal :=
  .next (match s.canRun stand ticket 0x42 with
    | none => s
    | some c =>
      let x := s.stand stand
      let a := commitArgs c.bytes
      if !x.steps.commits.isEmpty ∨ x.steps.rollback.isSome ∨
          x.inflight.any (fun d => decide (d.ticket < ticket) && decide (d.opcode = 0x42) && !d.ended) then s
      else
        let j : CommitSt := { ticket := ticket, mtab := a.mtab, step := a.step, phase := 1, rollback := false
                              firstLive := 0xffffffffffffffff, blaze := 0, waitFrom := 0, expelled := 0
                              restored := decide ((x.steps.restored.map (·.step)) = some a.step), bad := false
                              decided := none }
        let t := (s.setSteps stand (fun y => { y with commits := [j] })).setCmd stand
          { c with stage := .running, tStart := s.clock.now }
        if a.rollbackOnly then t.wantRollback stand .only
        else if s.expelledFrom stand a.mtab then t.wantRollback stand (.halt 0x0111)
        else if !x.steps.commitable a.step then 
          t.commitDone stand j c [0x0102] t.freeBlaze x.steps.round (t.nByte (t.countedMembers stand j))
        else t)

/-! ### Phases 1 to 3 (R311, R322) -/

/-- The records that a COMMIT covers. -/
def StepSt.covered (x : StepSt) (step : W64) : List StepRec := x.records.filter (fun r => decide (r.step.toNat ≤ step.toNat))

/-- COMMIT_PHASE1_END: the covered steps are APPLIED, and the COMMIT digests and seals its groups; an uncorrectable word marks
the newest covered step, and where that is a restored step, which has no record (R322), the COMMIT itself keeps the failure. -/
def State.commitDigest (s : State) (st : Nat) (j : CommitSt) (a : CommitArgs) : State :=
  let ks := groupSpan a.ugrp a.count
  let cur := s.digestCopy false
  let words := s.digestWords ks cur
  let bad := if s.hbm.diff = [] then [] else words.filter s.hbm.bad
  let t := ((s.noteWords words).sealGroups ks).count (kStand st cLndPoisonRead) bad.length
  let t := if bad.isEmpty then t else t.mark st (some j.step) 6
  t.setSteps st (fun x => x.onCommit { j with phase := 3, bad := !bad.isEmpty, blaze := s.blaze a.key ks cur, waitFrom := s.clock.now })

/-- The 10,000 NCLK that phase 1 waits once its steps are APPLIED, in ns. -/
def phase1Ns : Nat := 10000

/-- Phase 1 of a COMMIT is over: every covered step is APPLIED, and 10,000 NCLK have passed since, and since the COMMIT began (R311,
R322). -/
def State.phase1Over (s : State) (st : Nat) (j : CommitSt) (c : Cmd) : Bool :=
  decide (c.tStart.toNat + phase1Ns ≤ s.clock.now.toNat) && ((s.stand st).steps.covered j.step).all (fun r =>
    decide (r.mode = .applied) && decide (r.applied.toNat + phase1Ns ≤ s.clock.now.toNat))

def execCommitPhase1End (stand ticket : Nat) (s : State) : Host.Outcome State Fault Refusal :=
  .next (match s.commitNow stand with
    | some (j, c) =>
      let x := (s.stand stand).steps
      if s.alive ∧ j.ticket = ticket ∧ j.phase = 1 ∧ x.rollback.isNone ∧ !x.inReplay ∧
          s.phase1Over stand j c then s.commitDigest stand j (commitArgs c.bytes)
      else s
    | none => s)

/-- This stand's commit message (R311). -/
def State.ownMsg (s : State) (st : Nat) (j : CommitSt) : CommitMsg :=
  let x := (s.stand st).steps
  { mtabVersion := (s.mtab st j.mtab).version, step := j.step, round := x.round, rollback := j.rollback
    firstLive := j.firstLive, blaze := j.blaze, rank := (s.rankIn st j.mtab).getD 0 }

/-- A commit message as a collective PUT carries it: three words, the first with bit 122 set. -/
def CommitMsg.bytes (m : CommitMsg) : List Byte :=
  natLe 16 (m.mtabVersion.toNat + m.rank % 256 * 2 ^ 32 + m.round % 256 * 2 ^ 40 + (if m.rollback then 2 ^ 48 else 0) +
    2 ^ 122) ++ natLe 8 m.step.toNat ++ natLe 8 m.firstLive.toNat ++ natLe 16 m.blaze.toNat

def commitMsgOf (b : List Byte) : CommitMsg :=
  let n := leNat (b.take 16)
  { mtabVersion := BitVec.ofNat 32 n, step := BitVec.ofNat 64 (fld b 16 8), round := bits n 47 40, rollback := bit n 48
    firstLive := BitVec.ofNat 64 (fld b 24 8), blaze := BitVec.ofNat 128 (fld b 32 16), rank := bits n 39 32 }

/-- The message sent to every other member that is not fenced, saplings among them. -/
def State.sendCommit (s : State) (st : Nat) (j : CommitSt) : State :=
  let t := s.mtab st j.mtab
  (List.range t.members.length).foldl (fun u r => match t.members[r]? with
    | some (d, ds) =>
      if some r = s.rankIn st j.mtab ∨ s.fenced st d then u
      else (u.request st 1 d ds resultBase [] (s.ownMsg st j).bytes true (.commit j.ticket r)).1
    | none => u) s

/-! ### What a commit changes (R314) -/

/-- The estimators and records that a commit releases. -/
def StandSt.release (x : StandSt) (step : W64) : StandSt :=
  { x with
    carries := x.carries.filter (fun k => match k.added with
      | some (_, some n) => decide (step.toNat < n.toNat)
      | _ => true)
    ledger := x.ledger.filter (fun e => match e.step with
      | some n => decide (step.toNat < n.toNat)
      | none => decide (e.disp = .isOpen)) }

/-- DPOS, RSEED, DSEED and JOB of the committed step. -/
def StepSt.metaFor (x : StepSt) (step : W64) : CommittedMeta :=
  match x.rec_ step, x.restored with
  | some r, _ => ⟨r.dpos, r.rseed, r.dseed, r.job⟩
  | none, some r => ⟨r.dpos, r.rseed, r.dseed, r.job⟩
  | none, none => x.meta_

/-- The stand commits (R314): every update group at one point, the registers, the records up to STEP. -/
def State.commitStand (s : State) (st : Nat) (j : CommitSt) : State :=
  let x := s.stand st
  let n := if j.restored then 1 else (x.steps.covered j.step).length
  let t := s.onGroups (s.groupsOf st) UGroup.commit
  let y := { x.steps with
    committed := j.step, committedValid := true, meta_ := x.steps.metaFor j.step, restored := none, round := 0
    records := x.steps.records.filter (fun r => decide (j.step.toNat < r.step.toNat))
    msgs := x.steps.msgs.filter (fun m => decide (j.step.toNat < m.step.toNat)) }
  let t := (t.setStand st ({ x with steps := y }.release j.step)).count (kStand st cDckStepsCommitted) n
  if t.ownedKib st (fun _ => none) ≤ (t.cfg st).budgetKib then t.setStand st { t.stand st with recovery := false } else t

/-- The mirror of a COMMIT (R319): at MADDR and MADDR plus the slot size in turn; while another copy of the stand runs it
waits, in the place of one that waits already.  A partner that is the stand itself has to be writable for it as for a CHECKPOINT (DEDUCED
from R319 and spec/07 R172); where it is not, nothing is written. -/
def State.startMirror (s : State) (st ctx : Nat) (a : CommitArgs) : State :=
  match (s.mtab st a.mirtab).members[0]? with
  | none => s
  | some m =>
    let x := (s.stand st).steps
    let b : BgCopy :=
      { ticket := none, ctx := ctx, groups := (groupSpan a.ugrp a.count).map (fun k => (k, false)), todo := [], got := []
        remote := if m = (s.img.deviceId, st) then none else some m
        dest := a.maddr + (if x.mirrorOdd then 2 ^ (30 + a.mslotLog2) else 0), otver := 0, sign := false
        step := j0 x, meta_ := x.meta_ }
    let t := s.setSteps st (fun y => { y with mirrorOdd := !y.mirrorOdd })
    if b.remote.isNone && !s.mayAccess st ctx b.dest (s.ckptBytes (groupSpan a.ugrp a.count)) true then t
    else if x.copy.isSome then
      (t.setSteps st (fun y => { y with mirrorWait := some b })).count (kStand st cDckMirrorSuperseded)
        (if x.mirrorWait.isSome then 1 else 0)
    else t.beginCopy st b
where
  /-- the committed step -/
  j0 (x : StepSt) : W64 := x.committed

/-! ### The decision (R312, R313, R328) -/

/-- What the counted members' messages decide (Table 12-6). -/
inductive Verdict where
  | rollback (firstLive : W64)
  | commit
  | noneAgrees
  | majority (blaze : BitVec 128)
  deriving DecidableEq, Repr

def verdict (ms : List CommitMsg) : Verdict :=
  if ms.any (·.rollback) then
    .rollback ((ms.filter (·.rollback)).foldl (fun a m => if m.firstLive.toNat < a.toNat then m.firstLive else a)
      0xffffffffffffffff)
  else match ms with
    | [] => .commit
    | m :: rest =>
      if rest.all (fun k => decide (k.blaze = m.blaze)) then .commit
      else match ms.find? (fun k => decide (ms.length < 2 * (ms.filter (fun q => decide (q.blaze = k.blaze))).length)) with
        | some k => .majority k.blaze
        | none => .noneAgrees

/-- A sapling's message beside the Blaze on which the stand commits (R328). -/
def State.judgeSapling (s : State) (st : Nat) (blaze : BitVec 128) (steps : Nat) (d : W16) (m : Option CommitMsg) : State :=
  match m with
  | some k =>
    if k.rollback ∨ k.blaze ≠ blaze then s.failSapling st d
    else
      let left := ((s.stand st).peers.find? (fun p => decide (p.device = d))).elim 0 (·.saplingLeft)
      if left ≤ steps then (s.setPeer st d (fun p => { p with state := .live, saplingLeft := 0 })).countStand st
        cLkoSaplingPromoted
      else s.setPeer st d (fun p => { p with saplingLeft := left - steps })
  | none => s.failSapling st d

/-- The saplings among a COMMIT's members judged. -/
def State.judgeSaplings (s : State) (st : Nat) (j : CommitSt) (steps : Nat) (ms : List (Nat × Option CommitMsg)) : State :=
  ms.foldl (fun u q => match (s.mtab st j.mtab).members[q.1]? with
    | some (d, _) => if (s.stand st).sapling d then u.judgeSapling st j.blaze steps d q.2 else u
    | none => u) s

/-- The minority's members expelled (R312): a FENCE naming each goes to it and to every other member that is not fenced, and
it is fenced here. -/
def State.expel (s : State) (st : Nat) (j : CommitSt) (ranks : List Nat) : State :=
  let t := s.mtab st j.mtab
  let named := ranks.filterMap (fun r => t.members[r]?)
  let told := (List.range t.members.length).filter (fun r => decide (some r ≠ s.rankIn st j.mtab) && !s.rankFenced st j.mtab r)
  let u := named.foldl (fun u m => told.foldl (fun v r => match t.members[r]? with
    | some k => v.sendFence st k m
    | none => v) u) s
  named.foldl (fun u m => (u.fenceDev st m.1 4).countStand st cLkoExpelledPeers) u

/-- The groups that a landing-engine command or a RESTORE reads or writes as versions. -/
def Cmd.versions (c : Cmd) : List Nat :=
  if c.opcode = 0x20 then [ugrpOf c.bytes]
  else if c.opcode = 0x23 then groupSpan (ugrpOf c.bytes) (bits (fld c.bytes 20 2) 13 0)
  else if c.opcode = 0x44 then groupSpan (bits (fld c.bytes 16 2) 12 0) (bits (fld c.bytes 18 2) 13 0)
  else []

/-- A command that waits until the commit clears SEALED (spec/08 R197). -/
def State.awaitsSeal (s : State) (c : Cmd) : Bool := decide (c.opcode ≠ 0x23) && c.versions.any (fun k => (s.ugroup k).isSealed)

/-- A command that issued before the decision has still to reach the versions that it finds (spec/08 R198, R314): one whose result the
commit changes, unless it, or one that its engine takes before it, waits for this very commit. -/
def State.commitHeld (s : State) (st before : Nat) : Bool :=
  let x := s.stand st
  x.inflight.any (fun d => decide (d.ticket < before) && !d.ended && !d.versions.isEmpty && !s.awaitsSeal d &&
    !x.inflight.any (fun e => decide (e.ticket < d.ticket) && !e.ended && e.sameEngine d && s.awaitsSeal e))

/-- The groups commit, and the COMMIT completes (R314, R319). -/
def State.commitFlip (s : State) (st : Nat) (j : CommitSt) (c : Cmd) (d : CommitDecision) : State :=
  let a := commitArgs c.bytes
  let x := (s.stand st).steps
  let steps := if j.restored then 1 else (x.covered j.step).length
  let t := ((s.commitStand st j).judgeSaplings st j steps d.msgs).commitDone st { j with expelled := d.expelled } c []
    (natLe 16 j.blaze.toNat) x.round (s.nByte d.n)
  if a.mirror then t.startMirror st c.context a else t

/-- A decided commit takes effect, `now` whatever is still to run before it. -/
def State.settleCommit (s : State) (st : Nat) (now : Bool) : State :=
  match s.commitNow st with
  | some (j, c) => match j.decided with
    | some d => if !now && s.commitHeld st d.before then s else s.commitFlip st j c d
    | none => s
  | none => s

/-- The stand commits and its COMMIT completes (R313, R314, R319), at once, or where commands that issued before the decision have still
to reach the old versions, at the first NCLK after they have (DESIGN CHOICE, log entry 89). -/
def State.commitOk (s : State) (st : Nat) (j : CommitSt) (c : Cmd) (n expelled : Nat)
    (ms : List (Nat × Option CommitMsg)) : State :=
  let a := commitArgs c.bytes
  if a.quorum ∧ 2 * n ≤ (s.mtab st j.mtab).members.length then
    (s.wantRollback st (.halt 0x0113)).countStand st cDckNoQuorum
  else
    (s.setSteps st (fun x => x.onCommit { j with phase := 5, decided := some ⟨(s.stand st).nextTicket, n, expelled, ms⟩ })).settleCommit
      st false

/-- The decision, once a message has come from every member that is not fenced (R311, R312). -/
def State.decideCommit (s : State) (st : Nat) (j : CommitSt) (c : Cmd) : State :=
  let ms := s.commitMsgs st j
  let t := s.mtab st j.mtab
  let sap (r : Nat) : Bool := match t.members[r]? with
    | some (d, _) => (s.stand st).sapling d
    | none => false
  let counted := ms.filter (fun q => !sap q.1)
  let all := s.ownMsg st j :: counted.filterMap Prod.snd
  let n := all.length
  match verdict all with
  | .rollback fl => s.wantRollback st (.group fl)
  | .commit => s.commitOk st j c n 0 ms
  | .noneAgrees => (s.countStand st cDckBlazeMismatch).wantRollback st (.group 0)
  | .majority b =>
    let u := s.countStand st cDckBlazeMismatch
    if j.blaze = b then
      let out := (counted.filter (fun q => match q.2 with | some m => decide (m.blaze ≠ b) | none => false)).map Prod.fst
      (u.expel st j out).commitOk st j c n out.length ms
    else
      let who := (counted.filter (fun q => match q.2 with | some m => decide (m.blaze = b) | none => false)).filterMap
        (fun q => (t.members[q.1]?).map Prod.fst)
      ((u.setSteps st (fun x => { x with expelled := true, expellers := x.expellers ++ who })).countStand st
        cLkoSelfExpelled).wantRollback st (.halt 0x0111)

/-- The decision is made if it can be. -/
def State.tryDecide (s : State) (st : Nat) : State :=
  match s.commitNow st with
  | some (j, c) =>
    if j.phase = 4 ∧ (s.stand st).steps.rollback.isNone ∧ (s.commitMsgs st j).all (fun q => q.2.isSome) then
      s.decideCommit st j c
    else s
  | none => s

/-- LEDGER_SETTLED: the covered steps' entries are settled, and the message goes out (R311). -/
def execLedgerSettled (stand ticket : Nat) (s : State) : Host.Outcome State Fault Refusal :=
  .next (match s.commitNow stand with
    | some (j, _) =>
      let x := s.stand stand
      let cov := x.steps.covered j.step
      if s.alive ∧ j.ticket = ticket ∧ j.phase = 3 ∧ x.steps.rollback.isNone ∧
          x.openOwn.all (fun e => !(cov.any (fun r => decide (e.step = some r.step)))) then
        let live := (cov.find? (fun r => r.mark.isSome)).map (·.step)
        let j := { j with phase := 4, rollback := live.isSome || j.bad, firstLive := live.getD 0xffffffffffffffff }
        ((s.setSteps stand (fun y => y.onCommit j)).sendCommit stand j).tryDecide stand
      else s
    | none => s)

/-- A commit message received: it is kept, and decides what can be decided (R311, R312). -/
def State.takeCommitMsg (s : State) (st : Nat) (m : CommitMsg) : State :=
  (s.setSteps st (fun x =>
    if x.committedValid ∧ m.step.toNat ≤ x.committed.toNat then x
    else { x with msgs := x.msgs.filter (fun k => !(decide (k.mtabVersion = m.mtabVersion) && decide (k.step = m.step) &&
      decide (k.round = m.round) && decide (k.rank = m.rank))) ++ [m] })).tryDecide st

/-- COMMIT_MESSAGE (R311, R312). -/
def execCommitMessage (stand : Nat) (msg : CommitMsg) (s : State) : Host.Outcome State Fault Refusal :=
  .next (if s.alive ∧ (s.cfg stand).enabled then s.takeCommitMsg stand msg else s)

/-- COMMIT_WAIT_EXPIRE (R314): phases 3 and 4 have taken COMMIT_WAIT_MS. A sapling whose message alone is missing is fenced
(R328), and the decision is made without it. -/
def execCommitWaitExpire (stand ticket : Nat) (s : State) : Host.Outcome State Fault Refusal :=
  .next (match s.commitNow stand with
    | some (j, _) =>
      let x := s.stand stand
      let lost := (s.commitMsgs stand j).filter (fun q => q.2.isNone)
      let dev (r : Nat) : Option W16 := ((s.mtab stand j.mtab).members[r]?).map Prod.fst
      if s.alive ∧ j.ticket = ticket ∧ (j.phase = 3 ∨ j.phase = 4) ∧ x.steps.rollback.isNone ∧
          j.waitFrom.toNat + (s.cfg stand).commitWaitMs * 1000000 ≤ s.clock.now.toNat then
        if j.phase = 4 ∧ lost.all (fun q => match dev q.1 with | some d => x.sapling d | none => false) then
          ((lost.filterMap (fun q => dev q.1)).foldl (fun u d => u.failSapling stand d) s).tryDecide stand
        else (s.wantRollback stand (.halt 0x0112)).countStand stand cDckPeerTimeout
      else s
    | none => s)

/-! ### Rollback (R315-R318, R322) -/

/-- The changes of every rollback: the groups, TRS_INST from the oldest record, the count, the recovery window. -/
def State.rollBack (s : State) (st : Nat) : State :=
  let x := s.stand st
  let t := s.onGroups (s.groupsOf st) UGroup.rollback
  let t := match x.steps.records with
    | [] => t
    | r :: _ =>
      let tabs := (List.range 16).foldl (fun (m : Tab MemberTab) i =>
        if (m.get MemberTab.reset i).loaded then m.upd MemberTab.reset i (fun y => { y with inst := r.inst.getD i 0 }) else m)
        x.mtabs
      t.setStand st { t.stand st with mtabs := tabs }
  (t.countStand st cDckRollbacks).openWindow st

/-- A rollback after which nothing is replayed: the records go (R303, R315, R317). -/
def State.rollbackOver (s : State) (st : Nat) (halt : Bool) : State :=
  (s.discardRecords st).setSteps st (fun x => { x with
    rollback := none, replay := none, restored := none, round := 0, halted := x.halted || halt, stopped := false
    nextValid := x.nextValid || !halt
    next := if halt then x.next else if x.committedValid then x.committed + 1 else 0 })

/-- The end of the COMMIT that a rollback ends; a Blaze that it has not formed, and n under ROLLBACK_ONLY, which uses no table, are
free values (R331). -/
def State.rollbackEnds (s : State) (st : Nat) (status : W16) (rounds : Nat) : State :=
  match s.commitNow st with
  | some (j, c) =>
    s.commitDone st j c [status] (if j.phase = 1 then s.freeBlaze else natLe 16 j.blaze.toNat) rounds
      (if (commitArgs c.bytes).rollbackOnly then s.nByte 256 else s.nByte (s.countedMembers st j))
  | none => s

/-- Replay begins (R316): the records are taken afresh, and the COMMIT is back at its phase 1, one round on. -/
def State.startReplay (s : State) (st : Nat) (firstLive : W64) : State :=
  s.setSteps st (fun x =>
    match x.records with
    | [] => { x with rollback := none }
    | r :: _ =>
      { x with
        rollback := none, round := x.round + 1
        records := x.records.map (fun q => { q with mark := none, mode := if q.mode = .applied then .closed else q.mode })
        commits := x.commits.map (fun j => { j with phase := 1, rollback := false, bad := false, firstLive := 0xffffffffffffffff })
        replay := some ⟨x.records.map (·.step), 0, r.snapEvt, r.snapWait, firstLive, (x.commits.map (·.ticket)).headD 0⟩ })

/-- The rollback that was due, once every issued command but COMMITs and waiting STEP_ENDs has completed. -/
def State.doRollback (s : State) (st : Nat) (why : RollbackFor) : State :=
  let x := (s.stand st).steps
  let t := s.rollBack st
  match why with
  | .only => (t.rollbackOver st false).rollbackEnds st 0x0110 x.round
  | .halt v => (t.rollbackOver st true).rollbackEnds st v x.round
  | .group fl =>
    if x.commits.any (·.restored) ∨ x.records.any (·.overflow) ∧ x.round < (s.cfg st).replayMax then
      ((t.rollbackOver st true).rollbackEnds st 0x0115 x.round).countStand st cDckReplayExhausted
    else if (s.cfg st).replayMax ≤ x.round then
      ((t.rollbackOver st true).rollbackEnds st 0x0114 x.round).countStand st cDckReplayExhausted
    else t.startReplay st fl

/-- ROLLBACK (R315): `unreadable` names the steps of which the deck gives back a word that fails correction (R308). -/
def execRollback (due : RollbackDue) (s : State) : Host.Outcome State Fault Refusal :=
  .next (match (s.stand due.stand).steps.rollback with
    | some why =>
      if s.alive ∧ (s.stand due.stand).inflight.all (fun c => decide (c.opcode = 0x42) || decide (c.opcode = 0x41)) then
        let t := due.unreadable.foldl (fun u n => u.overflowRec due.stand n) (s.settleCommit due.stand true)
        t.doRollback due.stand why
      else s
    | none => s)

end Sys2Proof.Machine
end

