-- ==== Sys2Proof/Machine/Lookout.lean ====
section
/-! DEFINITION. The Lookout and membership: FENCE_PEER, READMIT, FENCE, heartbeats and silence (spec/12 R323-R328). -/

namespace Sys2Proof.Machine

/-- STATE of LKO_PEER (Table 12-21). -/
def PeerState.code : PeerState → Nat
  | .live => 1
  | .suspect => 2
  | .fenced => 3
  | .sapling => 4

/-- A device's entry, if it is watched. -/
def StandSt.peer (x : StandSt) (d : W16) : Option Peer := x.peers.find? (fun p => decide (p.device = d))

/-- The payload of FENCE_PEER and READMIT (Table 12-14). -/
def State.peerPay (s : State) (st : Nat) (d : W16) : List Byte :=
  natLe 2 d.toNat ++ natLe 1 (((s.stand st).peer d).elim 0 (fun p => p.state.code))

/-! ### FENCE_PEER and READMIT (R324, R327) -/

def peerDevice (p : List Byte) : W16 := BitVec.ofNat 16 (fld p 16 2)
def peerTab (p : List Byte) : Nat := bits (fld p 18 1) 3 0

/-- The checks of FENCE_PEER. -/
def State.checkFencePeer (s : State) (st : Nat) (p : List Byte) : Option W16 :=
  let d := peerDevice p
  let x := s.stand st
  if decide (bits (fld p 18 1) 7 5 ≠ 0) || !isZeroRange p 19 45 then some 1
  else firstFail [
    (bit (fld p 1 1) 2, 0x0101),
    (decide (256 ≤ x.peers.length) && (x.peer d).isNone && !s.fenced st d, 0x010a),
    (decide (d = s.img.deviceId), 0x010b)]

/-- A fence by FENCE_PEER, relayed where asked, and what it decides. -/
def State.fencePeer (s : State) (st : Nat) (c : Cmd) : State :=
  let d := peerDevice c.bytes
  let t := (s.fenceDev st d 2).countStand st cLkoFenceCommand
  let t := if bit (fld c.bytes 18 1) 4 then t.relayFence st (peerTab c.bytes) d else t
  (t.tryDecide st).engineDone st { c with tStart := s.clock.now, pay := t.peerPay st d }

/-- FENCE_PEER (R324). -/
def execFencePeer (stand ticket : Nat) (s : State) : Host.Outcome State Fault Refusal :=
  .next (match s.canRun stand ticket 0x48 with
    | none => s
    | some c => s.fencePeer stand c)

/-- The checks of READMIT. -/
def State.checkReadmit (s : State) (st : Nat) (p : List Byte) : Option W16 :=
  let d := peerDevice p
  let t := s.mtab st (peerTab p)
  if decide (bits (fld p 18 1) 7 4 ≠ 0) || !isZeroRange p 20 44 then some 1
  else firstFail [
    (bit (fld p 1 1) 2, 0x0101),
    (!s.fenced st d || !t.loaded || !t.members.any (fun m => decide (m.1 = d)), 0x010b)]

/-- A peer readmitted as a sapling. -/
def State.readmit (s : State) (st : Nat) (c : Cmd) : State :=
  let d := peerDevice c.bytes
  let n := fld c.bytes 19 1
  let t := (s.setFabric { s.fabric with fences := s.fabric.fences.filter (fun f => decide (f ≠ (st, d))) }).setPeer st d
    (fun p => { p with state := .sapling, source := 0, saplingLeft := if n = 0 then s.img.saplingSteps else n })
  (t.countStand st cLkoReadmit).engineDone st { c with tStart := s.clock.now, pay := t.peerPay st d }

/-- READMIT (R327). -/
def execReadmit (stand ticket : Nat) (s : State) : Host.Outcome State Fault Refusal :=
  .next (match s.canRun stand ticket 0x49 with
    | none => s
    | some c => s.readmit stand c)

/-! ### FENCE received (R325, R326) -/

/-- A stand that receives a FENCE naming itself (R326). -/
def State.selfExpelled (s : State) (st : Nat) (sender : W16) : State :=
  let t := (s.setSteps st (fun x => { x with expelled := true, expellers := sender :: x.expellers })).countStand st
    cLkoSelfExpelled
  match t.commitNow st with
  | some (j, _) =>
    if (t.stand st).steps.rollback.isNone ∧ t.expelledFrom st j.mtab then t.wantRollback st (.halt 0x0111) else t
  | none => t

/-- A FENCE given to a stand's Lookout. -/
def State.takeFence (s : State) (st : Nat) (src : W16 × Nat) (named : W16 × Nat) : State :=
  if named = (s.img.deviceId, st) then s.selfExpelled st src.1
  else if (s.tablesOf st named.1).any (fun m => (s.mtab st m).members.contains src) then
    ((s.fenceDev st named.1 3).countStand st cLkoFenceRelayed).tryDecide st
  else s

/-- FENCE (R325, R326). -/
def execFence (port : Nat) (txn : Txn) (s : State) : Host.Outcome State Fault Refusal :=
  .next (match s.takeRequest port txn 7 with
    | none => s
    | some t =>
      let u := t.countModule cLkoFenceRx
      if !(s.cfg txn.dstand).enabled then u.respond txn 1 []
      else (u.takeFence txn.dstand (txn.src, txn.sstand)
        (BitVec.ofNat 16 (fld txn.payload 0 2), bits (fld txn.payload 2 1) 5 0)).respond txn 0 [])

/-! ### Heartbeats (R323) -/

/-- The stand of a device as the stand's loaded member tables name it. -/
def State.peerStand (s : State) (st : Nat) (d : W16) : Nat :=
  match s.tablesOf st d with
  | [] => 0
  | m :: _ => (s.mtab st m).standOf d

/-- The mask of the device's stands in use (R323, spec/13 R344). -/
def State.liveMask (s : State) : Nat :=
  ((List.range 64).filter (fun st => s.boot.standsReady && (s.cfg st).enabled && !(s.stand st).rst.masked)).foldl
    (fun a st => a + 2 ^ st) 0

/-- The one word of a HEARTBEAT: a sequence of 16 bits, the send time in ns modulo 2^48, and the mask. -/
def State.heartbeat (s : State) (seq : Nat) : List Byte := natLe 2 seq ++ natLe 6 s.clock.now.toNat ++ natLe 8 s.liveMask

/-- A heartbeat heard by one stand: liveness, and a jitter sample from two successive heartbeats that name the peer stand. -/
def State.hear (s : State) (st : Nat) (d : W16) (mask : Nat) : State :=
  let on := bit mask (s.peerStand st d)
  let period := s.img.hbPeriodUs
  let now := s.clock.now
  let x := s.stand st
  s.setStand st { x with peers := x.peers.map (fun p =>
    if p.device ≠ d then p
    else if !on then { p with named := false }
    else
      let gap : Rat := ((now.toNat - p.lastNamed.toNat : Nat) : Rat) / 1000 - period
      let sample := if gap < 0 then -gap else gap
      { p with
        named := true, lastNamed := now, state := if p.state = .suspect then .live else p.state
        est := if p.named then p.est + (sample - p.est) / 8 else p.est
        samples := if p.named then min 32 (p.samples + 1) else p.samples }) }

/-- A received transaction of the heartbeat and time channel, which a port carries before STANDS_READY too (R252). -/
def State.takeLink (s : State) (p : Nat) (t : Txn) (ttype : Nat) (rsp : Bool) : Option State :=
  if s.alive && s.isMine t && decide (t.ttype = ttype) && decide (t.rsp = rsp) then s.takeRx p t else none

/-- HEARTBEAT (R323). -/
def execHeartbeat (port : Nat) (txn : Txn) (s : State) : Host.Outcome State Fault Refusal :=
  .next (match s.takeLink port txn 6 false with
    | none => s
    | some t =>
      let u := t.setCounters (t.counters.addUnits (kModule cLkoHbRx4k) 4096 1)
      ((List.range 64).filter (fun st => (s.cfg st).enabled)).foldl
        (fun v st => v.hear st txn.src (fld txn.payload 8 8)) u)

/-- HEARTBEAT_SEND (R323): one heartbeat to every device that some stand watches. -/
def execHeartbeatSend (s : State) : Host.Outcome State Fault Refusal :=
  .next (if s.alive ∧ s.boot.imageVerified then
    let ds := ((List.range 64).flatMap (fun st => if (s.cfg st).enabled then (s.stand st).peers.map Peer.device else [])).dedup
    let t := ds.foldl (fun u d => (u.sendOnly 6 d (u.heartbeat u.fabric.nextTag)).setFabric
      { (u.sendOnly 6 d (u.heartbeat u.fabric.nextTag)).fabric with nextTag := (u.fabric.nextTag + 1) % 4096 }) s
    t.setCounters (t.counters.addUnits (kModule cLkoHbTx4k) 4096 ds.length)
  else s)

/-- T of a peer, in µs (R323). -/
def State.silenceUs (s : State) (p : Peer) : Rat := max (1000 * s.img.deadMs) (s.img.hbPeriodUs + 8 * p.est)

/-- A silent peer: a seasoned Lookout fences it and relays the fence, and otherwise it becomes SUSPECT (R323, R324). -/
def State.silent (s : State) (st : Nat) (p : Peer) : State :=
  if p.samples < 32 then
    if p.state = .live then (s.setPeer st p.device (fun q => { q with state := .suspect })).countStand st cLkoSuspect else s
  else
    let t := (s.fenceDev st p.device 1).countStand st cLkoFenceLookout
    (((s.tablesOf st p.device).foldl (fun u m => u.relayFence st m p.device) t).tryDecide st)

/-- PEER_SILENT (R323). -/
def execPeerSilent (stand : Nat) (device : W16) (s : State) : Host.Outcome State Fault Refusal :=
  .next (match (s.stand stand).peer device with
    | none => s
    | some p =>
      if s.alive ∧ (s.cfg stand).enabled ∧ p.state ≠ .fenced ∧
          s.silenceUs p ≤ ((s.clock.now.toNat - p.lastNamed.toNat : Nat) : Rat) / 1000 then s.silent stand p
      else s)

end Sys2Proof.Machine
end

