-- ==== Sys2Proof/Machine/FabricRx.lean ====
section
/-! DEFINITION. Transactions received and answered: PUT, GET, TIME, responses, transit and timeouts (spec/10 R263-R273). -/

namespace Sys2Proof.Machine

/-! ### PUT and GET (R263, R266, spec/07 R173) -/

/-- A PUT that carries a collective's result or a commit message: `none` while it waits. -/
def State.takeCollective (s : State) (st : Nat) (t : Txn) : Option State :=
  if bit (leNat (t.payload.take 16)) 122 then some (s.takeCommitMsg st (commitMsgOf t.payload)) else s.takeResult st t

/-- A PUT into memory: refused where the stand's table does not let peers write there (spec/07 R173); `none` while a copy-ahead
buffer is full, the bytes are a held source, or an issued SWEEP has still to sweep their region (spec/08 R207). -/
def State.takePut (s : State) (st : Nat) (t : Txn) : Option (State × Nat) :=
  let n := t.payload.length
  if !s.mayRemote st t.addr n true then some (s.countStand st cMemRemoteRefused, 1)
  else if s.memHeld st (s.stand st).nextTicket (t.addr, t.addr + n) || s.sweepBefore st t.addr n then none
  else (s.stageFor (s.softBlocks t.addr n)).map (fun u => (u.writeSoft t.addr t.payload, 0))

/-- PUT. -/
def execPut (port : Nat) (txn : Txn) (s : State) : Host.Outcome State Fault Refusal :=
  .next (match s.takeRequest port txn 1 with
    | none => s
    | some t =>
      if !(s.cfg txn.dstand).enabled then (t.countStand txn.dstand cMemRemoteRefused).respond txn 1 []
      else if resultBase ≤ txn.addr then
        match t.takeCollective txn.dstand txn with
        | some u => u.respond txn 0 []
        | none => s
      else match t.takePut txn.dstand txn with
        | some (u, status) => u.respond txn status []
        | none => s)

/-- The answer of a GET: its status, its data, and the words of it that failed correction, which go out with the check symbols
that they were read with (spec/01 R20). -/
structure GetAnswer where
  status : Nat
  data : List Byte
  diffs : Tab (Byte × Byte)
  deriving DecidableEq, Repr

/-- The answer of a GET; a PERMUTE's comes from the committed copies of a source that serves (spec/09 R236). -/
def State.serveGet (s : State) (st : Nat) (t : Txn) : State × GetAnswer :=
  let n := fld t.payload 0 4
  let perm := bit (fld t.payload 4 1) 0
  if t.len ≠ 1 ∨ 4096 < t.addr % 4096 + n then (s, ⟨4, [], []⟩)
  else if !s.mayRemote st t.addr n false then (s.countStand st cMemRemoteRefused, ⟨1, [], []⟩)
  else if perm && !(s.stand st).steps.serves (bit (fld t.payload 4 1) 1) (BitVec.ofNat 32 (fld t.payload 8 4)) then
    (s, ⟨1, [], []⟩)
  else
    let ks := (List.range n).filterMap (fun i => if perm then s.committedKey (t.addr + i) else s.visKey (t.addr + i))
    let ws := ((ks.map (· / 16)).dedup).zipIdx
    (s.noteWords (ws.map Prod.fst), ⟨0, ks.map s.hbm.read, ws.filterMap (fun p =>
      if s.hbm.bad p.1 then some (p.2, s.hbm.diffAt p.1) else none)⟩)

/-- GET: an issued SWEEP of a region that it reads goes first (spec/08 R207). -/
def execGet (port : Nat) (txn : Txn) (s : State) : Host.Outcome State Fault Refusal :=
  .next (match s.takeRequest port txn 2 with
    | none => s
    | some t =>
      if !(s.cfg txn.dstand).enabled then (t.countStand txn.dstand cMemRemoteRefused).respond txn 1 []
      else if t.sweepBefore txn.dstand txn.addr (fld txn.payload 0 4) then s
      else
        let (u, a) := t.serveGet txn.dstand txn
        u.respondWith txn a.status a.data a.diffs)

/-! ### Requests that end (R265, R266) -/

/-- How a Skidder command's request ends: data fetched, or a block that nobody serves (spec/06 R142). -/
def State.skidEnded (s : State) (st ticket : Nat) (q : HeldReq) (status : Nat) (data : List Byte) : State :=
  match (s.stand st).cmd ticket with
  | none => s
  | some c =>
    let k := pieceKey q.dst q.addr
    if status ≠ 0 then s.setCmd st { c with lost := k :: c.lost }
    else if q.ttype = 2 then s.setCmd st { c with fetched := c.fetched ++ [(k, data)] }
    else s

/-- How a CHECKPOINT's or RESTORE's request ends. -/
def State.ckptEnded (s : State) (st ticket : Nat) (q : HeldReq) (status : Nat) (data : List Byte) : State :=
  match (s.stand st).cmd ticket with
  | none => s
  | some c =>
    let t := if status ≠ 0 then s.setCmd st { c with lost := q.addr :: c.lost }
      else if q.ttype = 2 then s.setCmd st { c with fetched := c.fetched ++ [(q.addr, data)] }
      else s
    t.ckptPoll st ticket

/-- How a PERMUTE's GET ends: its bytes go, in the space that was reserved for them (R260), to where NEW places the block, or its
source has failed (spec/09 R235). -/
def State.permEnded (s : State) (st ticket block : Nat) (q : HeldReq) (status : Nat) (data : List Byte) : State :=
  match (s.stand st).cmd ticket, (s.stand st).perm ticket with
  | some c, some p =>
    let a := permArgs c.bytes
    if status ≠ 0 then s.setPerm st { p with failed := (block, decide (status = 1) && a.stepChk) :: p.failed }
    else
      let src := (s.owner st (if p.alted.contains block then a.alt else a.old)).entries.getD block ⟨0, 0, 0, 0⟩
      let dst := ((s.owner st a.new).entries.getD block ⟨0, 0, 0, 0⟩).addr + (q.addr - src.addr)
      s.permLand st { p with arrived := p.arrived ++ [(dst, data)] }
  | _, _ => s

/-- What the end of a request does at its requester, which never lets the response wait (R260). -/
def State.reqEnded (s : State) (st : Nat) (q : HeldReq) (status : Nat) (data : List Byte) : State :=
  let t := match status with
    | 1 => s.countStand st cCskRefusedRx
    | 2 => s.countStand st cCskFenceOut
    | 3 => s.countStand st cCskUnreachable
    | _ => s
  match q.what with
  | .skidder k => t.skidEnded st k q status data
  | .checkpoint k => t.ckptEnded st k q status data
  | .permute k b => t.permEnded st k b q status data
  | .collective k seg r => if q.ttype = 3 ∧ (status = 1 ∨ status = 3) then t.keepUnsent st k seg r else t
  | _ => t

/-- An outstanding request, seen as what was asked. -/
def Req.asked (r : Req) : HeldReq := 
  { ttype := r.ttype, dst := r.dst, dstand := 0, addr := r.addr, meta_ := [], payload := [], diffs := [], coll := false
    what := r.what }

/-- One held request sent, ended or held on. -/
def State.pumpOne (s : State) (st : Nat) (h : HeldReq) : State :=
  if s.fenced st h.dst then s.reqEnded st h 2 []
  else match s.routeOf h with
    | none => (s.countModule cCskNoRoute).reqEnded st h 3 []
    | some e =>
      let x := s.stand st
      if x.holdsBack h.dst e then s.setStand st { x with held := x.held ++ [h] } else s.sendReq st e h

/-- Requests that waited for a TAG or for an earlier route to empty go out as far as R265 lets them. -/
def State.pump (s : State) (st : Nat) : State :=
  let x := s.stand st
  x.held.foldl (fun t h => t.pumpOne st h) (s.setStand st { x with held := [] })

/-- A request ends with a status. -/
def State.finishReq (s : State) (st : Nat) (r : Req) (status : Nat) (data : List Byte) : State :=
  ((s.endReq st r.tag).reqEnded st r.asked status data).pump st

/-- TXN_RESPONSE: a response that matches no outstanding request is discarded (R265, R266). -/
def execTxnResponse (port : Nat) (txn : Txn) (s : State) : Host.Outcome State Fault Refusal :=
  .next (if s.alive ∧ s.isMine txn ∧ txn.rsp ∧ txn.ttype ≠ 5 then
    match s.takeRx port txn with
    | none => s
    | some t =>
      match (s.stand txn.dstand).reqs.find? (fun r => decide (r.tag = txn.tag)) with
      | none => t
      | some r => t.finishReq txn.dstand r txn.status txn.payload
  else s)

/-- A request without a response completes UNREACHABLE (R266). -/
def State.lostReq (s : State) (st : Nat) (r : Req) : State := s.finishReq st r 3 []

/-- TXN_TIMEOUT: a request has had no response for the image's TXN_TIMEOUT_MS (R266). -/
def execTxnTimeout (stand tag : Nat) (s : State) : Host.Outcome State Fault Refusal :=
  .next (match (s.stand stand).reqs.find? (fun r => decide (r.tag = tag)) with
    | some r => if s.alive ∧ r.sentAt.toNat + s.img.txnTimeoutMs * 1000000 ≤ s.clock.now.toNat then
        (s.countStand stand cCskTxnTimeout).lostReq stand r else s
    | none => s)

/-! ### Transit (R268, R269) -/

/-- The link die of an egress. -/
def egressDie (e : Nat) : Nat := if e < 32 then e / 7 else (e - 32) / 3

/-- The links of a way over the link dies, each from one to the next. -/
def wayLinks (w : List Nat) : List (Nat × Nat) := w.zip (w.drop 1)

/-- Every link of a way carries traffic. -/
def State.wayOpen (s : State) (w : List Nat) : Bool := (wayLinks w).all (fun l => s.joined (26 + l.1) (26 + l.2))

/-- A transaction takes a way. -/
def State.crossWay (s : State) (w : List Nat) : State :=
  s.setFabric { s.fabric with ring := (wayLinks w).foldl (fun r l => r.upd 0 (4 * l.1 + l.2) (· + 1)) s.fabric.ring }

/-- A transaction dropped in transit: its source learns of a request by an UNREACHABLE response. -/
def State.dropTransit (s : State) (t : Txn) : State :=
  if t.rsp ∨ t.ttype = 6 then s
  else match s.routeTo t.src with
    | none => s
    | some e =>
      let r : Txn := { ttype := t.ttype, rsp := true, status := 3, dst := t.src, src := s.img.deviceId, dstand := t.sstand
                       sstand := t.dstand, tag := t.tag, addr := 0, len := 0, ttl := 16, meta_ := [], payload := [] }
      s.emit e (r.channel false) 64 r (64, 0)

/-- TRANSIT_FORWARD: TTL falls by one, and the transaction keeps its channel.  Inside the device it goes from the link die of its port
to that of its egress, the shorter way of the ring or along the chain (R269); while a link of that way carries no traffic it waits in
its buffer (DESIGN CHOICE 91). -/
def execTransitForward (port : Nat) (txn : Txn) (s : State) : Host.Outcome State Fault Refusal :=
  .next (if s.alive ∧ !s.isMine txn then
    match (s.port port).rxOf txn, s.takeRx port txn with
    | some y, some t =>
      if txn.ttl ≤ 1 then (t.countModule cCskTtlExpired).dropTransit txn
      else match s.routeTo txn.dst with
        | none => (t.countModule cCskNoRoute).dropTransit txn
        | some e =>
          let w := linkWay s.variant (port / 7) (egressDie e)
          if s.wayOpen w then (t.crossWay w).emit e y.vc 64 { txn with ttl := txn.ttl - 1 } (64, 0) else s
    | _, _ => s
  else s)

/-! ### Time (R270, R271) -/

/-- The egress of a port: its bond's where it belongs to one. -/
def State.egressOf (s : State) (p : Nat) : Nat :=
  match s.bondOf p with
  | some b => 32 + b
  | none => p

/-- The time at which a transaction in a port's buffer crossed the PMA. -/
def State.rxTime (s : State) (p : Nat) (t : Txn) : Nat := (((s.port p).rxOf t).map (fun y => y.time.toNat)).getD 0

/-- TIME: the request, stamped t2 as it came, is answered on the port that brought it; t3 is stamped as the answer leaves. -/
def execTime (port : Nat) (txn : Txn) (s : State) : Host.Outcome State Fault Refusal :=
  .next (match s.takeLink port txn 5 false with
    | none => s
    | some t =>
      let r : Txn := { ttype := 5, rsp := true, status := 0, dst := txn.src, src := s.img.deviceId, dstand := txn.sstand
                       sstand := txn.dstand, tag := txn.tag, addr := 0, len := 1, ttl := 16, meta_ := []
                       payload := natLe 8 (s.rxTime port txn) ++ natLe 8 0 }
      t.emitTime (s.egressOf port) r .t3)

/-- TIME_EXCHANGE: a request on the parent port, stamped t1 as it leaves. -/
def execTimeExchange (s : State) : Host.Outcome State Fault Refusal :=
  .next (
    let p := s.img.parentPort
    if s.alive ∧ s.boot.imageVerified ∧ !s.img.timeRoot ∧ p < 28 ∧ (s.port p).up then
      let f := s.fabric
      let q : Txn := { ttype := 5, rsp := false, status := 0, dst := (s.port p).peerDevice, src := s.img.deviceId, dstand := 0
                       sstand := 0, tag := f.nextTag, addr := 0, len := 1, ttl := 16, meta_ := []
                       payload := natLe 16 0 }
      (s.setFabric { f with nextTag := (f.nextTag + 1) % 4096
                            timeReqs := f.timeReqs.filter (fun r => decide (r.1 ≠ f.nextTag)) }).emitTime (s.egressOf p) q
        (.t1 f.nextTag)
    else s)

/-- The exchange of the smallest delay, the newest among equals. -/
def bestSample : List (Int × Int) → Int × Int
  | [] => (0, 0)
  | x :: xs => xs.foldl (fun a b => if b.2 < a.2 then b else a) x

/-- A first offset before STANDS_READY (R270). -/
def ClockSt.firstStep (c : ClockSt) (offset : Int) : ClockSt :=
  { now := if 0 < offset then c.now + BitVec.ofNat 64 offset.toNat else c.now
    sync := { c.sync with stepped := true, hold := if offset < 0 then (-offset).toNat else c.sync.hold } }

/-- One exchange: offset and delay, the sample kept, and what the time base does with it. -/
def State.timeSample (s : State) (t1 t2 t3 t4 : Nat) : State :=
  let offset : Int := (((t2 : Int) - t1) - ((t4 : Int) - t3)) / 2
  let delay : Int := (((t4 : Int) - t1) - ((t3 : Int) - t2)) / 2
  let c := s.clock
  let samples := (offset, delay) :: c.sync.samples.take 7
  let best := bestSample samples
  let c := { c with sync := { c.sync with samples := samples, offset := best.1, delay := best.2 } }
  if s.boot.standsReady then s.setClock { c with sync := { c.sync with slew := best.1 } }
  else if c.sync.stepped then s.setClock c
  else if 0 < offset then (s.setClock (c.firstStep offset)).countModule cCskTimeStep
  else s.setClock (c.firstStep offset)

/-- TIME_RESPONSE, stamped t4 as it came. -/
def execTimeResponse (port : Nat) (txn : Txn) (s : State) : Host.Outcome State Fault Refusal :=
  .next (match s.takeLink port txn 5 true with
    | none => s
    | some t =>
      match s.fabric.timeReqs.find? (fun r => decide (r.1 = txn.tag)) with
      | none => t
      | some r =>
        (t.setFabric { t.fabric with timeReqs := t.fabric.timeReqs.filter (fun q => decide (q.1 ≠ txn.tag)) }).timeSample
          r.2.toNat (fld txn.payload 0 8) (fld txn.payload 8 8) (s.rxTime port txn))

/-- TIME_SLEW: one tick added or skipped toward the parent; a skipped tick holds the time base once (R270). -/
def execTimeSlew (s : State) : Host.Outcome State Fault Refusal :=
  .next (
    let c := s.clock
    if s.alive ∧ s.boot.standsReady ∧ c.sync.slew ≠ 0 then
      if 0 < c.sync.slew then s.setClock { now := c.now + 1, sync := { c.sync with slew := c.sync.slew - 1 } }
      else s.setClock { c with sync := { c.sync with slew := c.sync.slew + 1, hold := c.sync.hold + 1 } }
    else s)

/-- R271. -/
def TimeSync.synced (t : TimeSync) : Bool :=
  decide (t.samples.length = 8) && t.samples.all (fun x => decide (-5 ≤ x.1) && decide (x.1 ≤ 5))

end Sys2Proof.Machine
end

