-- ==== Sys2Proof/Machine/LinkLayer.lean ====
section
/-! DEFINITION. Ports: lanes, training, the quiet state and the ramp, and link loss (spec/10 R247-R253, R257, R261, R262, spec/14
R359). -/

namespace Sys2Proof.Machine

/-! ### Retry (R256) -/

/-- The port exchanges flits: it is up, or trained and exchanging HELLO. -/
def PortSt.talks (x : PortSt) : Bool := x.up || (decide (x.mode = .training) && x.trained)

/-- An acknowledgement of a SEQ: the flits up to it leave the retry buffer. -/
def PortSt.acked (x : PortSt) (seq : Nat) : PortSt :=
  if x.retry.any (fun f => decide (f.seq = seq)) then
    let gone := (x.retry.takeWhile (fun f => decide (f.seq ≠ seq))).map RetryFlit.seq ++ [seq]
    { x with retry := (x.retry.dropWhile (fun f => decide (f.seq ≠ seq))).drop 1
             replayq := x.replayq.filter (fun q => !gone.contains q), substPending := false }
  else x

/-- Every unacknowledged flit is to be sent again, the oldest first. -/
def PortSt.replayAll (x : PortSt) : PortSt := { x with replayq := x.retry.map RetryFlit.seq }

/-- DATA flits of a retry buffer, by BSEQ as they stand. -/
def PortSt.dataHeld (x : PortSt) : List RetryFlit := x.retry.filter (fun f => f.vc.isSome)

/-- A flit put in its place among those to be sent again, which stand in BSEQ order counted from `base`, the next BSEQ to send (R262);
one that stands there already is not put there twice. -/
def insertBseq (base : Nat) (fs : List RetryFlit) (f : RetryFlit) : List RetryFlit :=
  let age (x : RetryFlit) : Nat := (x.bseq + 65536 - base) % 65536
  match fs with
  | [] => [f]
  | x :: rest => if age f < age x then f :: x :: rest else if age f = age x then x :: rest else x :: insertBseq base rest f

/-- A bond's other ports send again what a port held unacknowledged (R262). -/
def State.bondResend (s : State) (p : Nat) : State :=
  match s.bondOf p with
  | none => s
  | some b =>
    let x := s.bond b
    s.setBond b { x with resend := (s.port p).dataHeld.foldl (insertBseq x.txBseq) x.resend }

/-- The port enters RETRAIN; its retry buffer is kept. -/
def State.retrain (s : State) (p : Nat) : State :=
  ((s.bondResend p).setPort p { s.port p with mode := .retrain, since := s.clock.now, trained := false, replayq := [] }).count (kPort p cCskRetrain) 1

/-- A replay from the oldest flit held, or RETRAIN where that has been sent eight times without a substitution pending. -/
def State.replay (s : State) (p : Nat) : State :=
  let x := s.port p
  match x.retry with
  | [] => s
  | f :: _ => if 8 ≤ f.sends && !x.substPending then s.retrain p else s.setPort p x.replayAll

/-- NAK (R256): the flits before the one wanted are acknowledged, and the rest are sent again. -/
def execNak (port ack : Nat) (s : State) : Host.Outcome State Fault Refusal :=
  .next (if s.alive ∧ (s.port port).talks then (s.setPort port ((s.port port).acked ack)).replay port else s)

/-- The time limits of a port, in ns: the oldest flit unacknowledged (R256), training, the rest after going down (Table 10-3), and a step
of the ramp (R253). -/
def retryLimitNs : Nat := 2048
def trainLimitNs : Nat := 500000000
def downRestNs : Nat := 100000000
def rampStepNs : Nat := 1000000

/-- RETRY_TIMEOUT: the oldest flit held has not been acknowledged for 2,048 ns since it was last sent (R256). -/
def execRetryTimeout (port : Nat) (s : State) : Host.Outcome State Fault Refusal :=
  .next (if s.alive ∧ (s.port port).talks ∧
      (s.port port).retry.head?.any (fun f => decide (f.sentAt.toNat + retryLimitNs ≤ s.clock.now.toNat)) then
    (s.count (kPort port cCskRetryTimeout) 1).replay port else s)

/-! ### Lanes (R247-R249) -/

/-- Physical lanes of an interface: C2M powers lane 8 down. -/
def PortCfg.lanes (c : PortCfg) : List Nat := List.range (if c.iface = 1 then 8 else 9)

/-- The physical lanes of an interface without those that a mask names. -/
def PortCfg.without (c : PortCfg) (mask : Nat) : List Nat := c.lanes.filter (fun n => !bit mask n)

/-- Physical lanes that have not failed. -/
def PortSt.healthy (x : PortSt) (c : PortCfg) : List Nat := c.without x.failed

/-- The physical lane of a logical lane (R247-R249): in degraded width one of the four lowest-numbered healthy lanes, otherwise lane 8
where the lane has been moved there, and else the lane of the same number. -/
def laneAt (degraded : Bool) (healthy : List Nat) (spareFor : Option Nat) (lane : Nat) : Nat :=
  if degraded then healthy.getD lane lane else if spareFor = some lane then 8 else lane

/-- The physical lane that brings a logical lane. -/
def PortSt.rxLane (x : PortSt) (c : PortCfg) (lane : Nat) : Nat := laneAt x.degraded (x.healthy c) x.rxSpareFor lane

/-- The physical lane on which word `w` of a flit leaves: logical lane w mod 8, or w mod 4 in degraded width. -/
def PortSt.txLane (x : PortSt) (c : PortCfg) (w : Nat) : Nat :=
  laneAt x.degraded (c.without x.txFailed) x.spareFor (w % (if x.degraded then 4 else 8))

/-- A physical lane failed. -/
def PortSt.failLane (x : PortSt) (n : Nat) : PortSt :=
  { x with failed := Nat.lor x.failed (2 ^ n), locked := x.locked - (if bit x.locked n then 2 ^ n else 0) }

/-- The spare lane can take a receive lane. -/
def PortSt.spareIdle (x : PortSt) (c : PortCfg) : Bool :=
  decide (c.iface = 2) && x.rxSpareFor.isNone && !x.degraded && !bit x.failed 8

/-- Degraded width, counted when the port enters it (R249). -/
def State.degrade (s : State) (p : Nat) : State :=
  (s.setPort p { s.port p with degraded := true, width := 4, substPending := true }).count (kPort p cCskDegraded)
    (if (s.port p).degraded then 0 else 1)

/-- SUBST (R248): the sender moves the logical lane to lane 8, marks the switch, and replays. -/
def execSubst (port lane : Nat) (s : State) : Host.Outcome State Fault Refusal :=
  .next (
    let x := s.port port
    if s.alive ∧ x.up ∧ (s.portCfg port).iface = 2 ∧ x.spareFor.isNone ∧ !x.degraded ∧ lane < 8 then
      (((s.setPort port (PortSt.replayAll { x with spareFor := some lane, substPending := true
                                                   txFailed := Nat.lor x.txFailed (2 ^ lane) })).count (kPort port cCskLaneSubst) 1)).send
        (.marker port lane)
    else s)

/-- LANE_MARKER_RECEIVE (R248): the receiver follows the marker. -/
def execLaneMarkerReceive (port lane : Nat) (s : State) : Host.Outcome State Fault Refusal :=
  .next (
    let x := s.port port
    if s.alive ∧ x.up ∧ (s.portCfg port).iface = 2 ∧ x.rxSpareFor.isNone ∧ lane < 8 then
      (s.setPort port { x with rxSpareFor := some lane }).count (kPort port cCskLaneSubst) 1
    else s)

/-- DEGRADE (R249): the sender goes to four lanes that have not failed, and replays. -/
def execDegrade (request : DegradeReq) (s : State) : Host.Outcome State Fault Refusal :=
  .next (if s.alive ∧ (s.port request.port).up then
    let t := s.degrade request.port
    let x := t.port request.port
    t.setPort request.port (PortSt.replayAll { x with txFailed := Nat.lor x.txFailed request.failed }) else s)

/-! ### Going down (R257, R262) -/

/-- The port as it is DOWN: its failed lanes and the peer it saw stay reported; what it received whole is still taken, and the rest of
a transaction sent in part is dropped. -/
def PortSt.fallen (x : PortSt) (now : W64) : PortSt :=
  { PortSt.reset with
    since := now
    peerDevice := x.peerDevice
    peerPort := x.peerPort
    failed := x.failed
    started := x.started
    rxq := x.rxq
    rxCount := x.rxCount
    txq := x.txq.map (fun q => if (x.carryOn.get none (q.1 / 65)) = some (q.1 % 65) then (q.1, q.2.dropWhile (fun w => !w.start))
      else q) }

/-- The requests that have gone out in part, their rest still queued. -/
def PortSt.running (x : PortSt) : List (Nat × Nat) :=
  (List.range 4).filterMap (fun vc => (x.carryOn.get none vc).bind (fun k => ((x.txq.get [] (65 * vc + k)).head?).map TxWord.owner))

/-- The requests with flits in a retry buffer, or gone out in part, each once (R257). -/
def PortSt.owners (x : PortSt) : List (Nat × Nat) :=
  ((x.retry.flatMap RetryFlit.owners ++ x.running).filter (fun o => decide (o.1 < 64))).dedup

/-- The flits of a port named no longer: their credit is not owed to a peer that begins anew. -/
def PortSt.forget (p : Nat) (x : PortSt) : PortSt :=
  let keep (rs : List (Nat × Nat)) : List (Nat × Nat) := rs.filter (fun r => decide (r.1 ≠ p))
  { x with rxq := x.rxq.map (fun y => { y with refs := keep y.refs })
           rxPart := x.rxPart.map (fun y => (y.1, { y.2 with refs := keep y.2.refs })) }

/-- What every port holds of a port's flits. -/
def State.forgetFlits (s : State) (p : Nat) : State :=
  (List.range 28).foldl (fun t q => t.setPort q ((t.port q).forget p)) s

/-- Requests that a lost port carried complete UNREACHABLE. -/
def State.loseOwners (s : State) (os : List (Nat × Nat)) : State :=
  os.foldl (fun t o => match (t.stand o.1).reqs.find? (fun r => decide (r.tag = o.2)) with
    | some r => t.lostReq o.1 r
    | none => t) s

/-- A port goes DOWN. -/
def State.portDown (s : State) (p : Nat) : State :=
  let x := s.port p
  match s.bondOf p with
  | none => (((s.setPort p (x.fallen s.clock.now)).forgetFlits p).count (kPort p cCskPortDown) 1).loseOwners x.owners
  | some b =>
    let first := decide ((s.bondCfg b).firstPort = p)
    let y := if first then { x.fallen s.clock.now with txq := x.txq, carryOn := x.carryOn, rxPart := x.rxPart }
      else x.fallen s.clock.now
    ((((if x.mode = .retrain then s else s.bondResend p).setPort p y).forgetFlits p).count (kPort p cCskPortDown) 1)

/-- PORT_DOWN (R257). -/
def execPortDown (port : Nat) (s : State) : Host.Outcome State Fault Refusal :=
  .next (if s.alive ∧ (s.port port).mode ≠ .down ∧ (s.port port).mode ≠ .miscabled then s.portDown port else s)

/-- LANE_FAILING (R248, R249): the receiver asks for the spare lane, or for four lanes; with fewer than four the port goes
down. -/
def execLaneFailing (port lane : Nat) (codewords : Bool) (s : State) : Host.Outcome State Fault Refusal :=
  .next (
    let x := s.port port
    let c := s.portCfg port
    if s.alive ∧ x.up ∧ lane < (if x.degraded then 4 else 8) then
      let spare := x.spareIdle c
      let y := x.failLane (x.rxLane c lane)
      let t := ((s.setPort port y).count (kPort port cCskFecUncorrectableCw) (if codewords then 4 else 0)).wear 0x0a 4 port
        (x.rxLane c lane)
      if (y.healthy c).length < 4 then t.portDown port
      else if spare then t.setPort port { y with ctrlq := y.ctrlq ++ [.subst lane] }
      else (t.setPort port { y with ctrlq := y.ctrlq ++ [.degrade y.failed] }).degrade port
    else s)

/-! ### Training (R250, R251, spec/14 R359) -/

/-- Milliseconds since the origin of the start-up times, saturating at 4,095 (spec/14 Table 14-8). -/
def State.bootMs (s : State) : Nat := min 4095 ((s.clock.now.toNat - s.boot.origin.toNat) / 1000000)

/-- FABRIC_READY once every enabled port has started its training (spec/14 R359). -/
def State.fabricCheck (s : State) : State :=
  if s.boot.imageVerified && !s.boot.fabricReady &&
      (List.range s.variant.ports).all (fun p => !(s.portCfg p).enabled || (s.port p).started) then
    s.setBoot { s.boot with fabricReady := true, tFabric := s.bootMs }
  else s

/-- PORT_TRAINING_START: the power-up start, or a start 100 ms after the port went down. -/
def execPortTrainingStart (port : Nat) (s : State) : Host.Outcome State Fault Refusal :=
  .next (if s.alive ∧ s.boot.imageVerified ∧ port < s.variant.ports ∧ (s.portCfg port).enabled ∧ (s.port port).mode = .down ∧
      (!(s.port port).started || decide ((s.port port).since.toNat + downRestNs ≤ s.clock.now.toNat)) then
    (s.setPort port { s.port port with mode := .training, since := s.clock.now, started := true, trained := false }).fabricCheck else s)

/-- Lanes as training leaves them: `healthy` has a bit for each physical lane that trained. -/
def PortSt.laned (x : PortSt) (c : PortCfg) (healthy : Nat) : PortSt :=
  let ok := c.lanes.filter (fun n => bit healthy n)
  let bad := (List.range 8).filter (fun n => !ok.contains n)
  let mask := ok.foldl (fun a n => a + 2 ^ n) 0
  let gone := (c.lanes.filter (fun n => !ok.contains n)).foldl (fun a n => a + 2 ^ n) 0
  let y := { x with locked := mask, failed := gone, txFailed := gone }
  match bad with
  | [] => { y with spareFor := none, rxSpareFor := none, degraded := false, width := 8 }
  | [n] =>
    if ok.contains 8 then { y with spareFor := some n, rxSpareFor := some n, degraded := false, width := 8 }
    else { y with spareFor := none, rxSpareFor := none, degraded := true, width := 4 }
  | _ => { y with spareFor := none, rxSpareFor := none, degraded := true, width := 4 }

/-- Flits of a channel's receive buffer (Table 10-5). -/
def vcBuffer (vc : Nat) : Nat := match vc with
  | 0 => 64
  | 3 => 16
  | _ => 768

/-- `num`/8 of the buffers of channels advertised. -/
def PortSt.advertise (x : PortSt) (vcs : List Nat) (num : Nat) : PortSt :=
  { x with owed := vcs.foldl (fun o vc => o.upd 0 vc (· + vcBuffer vc * num / 8)) x.owed }

/-- A port goes on after RETRAIN: ACTIVE, with the share of its buffers that its ramp had still to advertise; or QUIET again where READY
has not been exchanged (Table 10-3 has RETRAIN lead to ACTIVE alone: DESIGN CHOICE 91). -/
def PortSt.resume (x : PortSt) : PortSt :=
  if x.readySent && x.readyRecv then
    PortSt.advertise { x with mode := .active, rampStep := 3 } [0, 1, 2, 3] (8 - 2 ^ x.rampStep)
  else { x with mode := .quiet }

/-- PORT_TRAINED: from TRAINING the HELLO exchange follows; from RETRAIN the port goes on and replays its buffer. -/
def execPortTrained (port healthy : Nat) (s : State) : Host.Outcome State Fault Refusal :=
  .next (
    let x := s.port port
    let c := s.portCfg port
    if !s.alive then s
    else if x.mode = .training ∧ !x.trained then
      let y := x.laned c healthy
      if (c.lanes.filter (fun n => bit healthy n)).length < 4 then s.portDown port
      else s.setPort port { y with trained := true, ctrlq := [.hello s.img.deviceId port] }
    else if x.mode = .retrain then
      let y := x.laned c healthy
      if (c.lanes.filter (fun n => bit healthy n)).length < 4 then s.portDown port
      else s.setPort port (PortSt.replayAll { y.resume with retry := y.retry.map (fun f => { f with sends := 0 }) })
    else s)

/-- TRAINING_TIMEOUT: untrained after 500 ms (R250). -/
def execTrainingTimeout (port : Nat) (s : State) : Host.Outcome State Fault Refusal :=
  .next (if s.alive ∧ ((s.port port).mode = .training ∨ (s.port port).mode = .retrain) ∧
      (s.port port).since.toNat + trainLimitNs ≤ s.clock.now.toNat then s.portDown port else s)

/-! ### The quiet state and the ramp (R252, R253) -/

/-- Both ends have sent READY: RAMP, and one eighth of each buffer; that of the heartbeat and time channel was advertised in QUIET. -/
def PortSt.enterRamp (x : PortSt) (now : W64) : PortSt :=
  if x.mode = .quiet && x.readySent && x.readyRecv then
    PortSt.advertise { x with mode := .ramp, since := now, rampStep := 0 } [0, 1, 2] 1 else x

/-- READY sent by a QUIET port. -/
def PortSt.sendReady (x : PortSt) (now : W64) : PortSt :=
  if x.mode = .quiet && !x.readySent then
    PortSt.enterRamp { x with readySent := true, ctrlq := x.ctrlq ++ [.ready] } now else x

/-- HELLO: the peer checked; the port QUIET or MISCABLED (R251). A QUIET port carries TIME and HEARTBEAT, for which it advertises an
eighth of that channel's buffer (the share while QUIET is DESIGN CHOICE 91), and after STANDS_READY it sends READY at once. -/
def execHello (port : Nat) (device : W16) (peerPort : Nat) (s : State) : Host.Outcome State Fault Refusal :=
  .next (
    let x := s.port port
    let c := s.portCfg port
    if s.alive ∧ x.mode = .training ∧ x.trained then
      let y := { x with peerDevice := device, peerPort := peerPort }
      if c.checkPeer ∧ (device ≠ c.peerDevice ∨ peerPort ≠ c.peerPort) then
        (s.setPort port { y with mode := .miscabled, width := 0 }).countModule cCskMiscabled
      else
        let z := PortSt.advertise { y with mode := .quiet, since := s.clock.now } [3] 1
        if s.boot.standsReady then (s.setPort port (z.sendReady s.clock.now)).countModule cBootLatePorts else s.setPort port z
    else s)

/-- READY received (R252). -/
def execReady (port : Nat) (s : State) : Host.Outcome State Fault Refusal :=
  .next (if s.alive ∧ (s.port port).mode = .quiet then
    s.setPort port (PortSt.enterRamp { s.port port with readyRecv := true } s.clock.now) else s)

/-- RAMP_DOUBLING: a quarter, a half, all, each 1 ms after the share before it (R253). -/
def execRampDoubling (port : Nat) (s : State) : Host.Outcome State Fault Refusal :=
  .next (
    let x := s.port port
    if s.alive ∧ x.mode = .ramp ∧ x.since.toNat + rampStepNs ≤ s.clock.now.toNat then
      let y := PortSt.advertise { x with since := s.clock.now, rampStep := x.rampStep + 1 } [0, 1, 2, 3] (2 ^ x.rampStep)
      s.setPort port (if y.rampStep = 3 then { y with mode := .active } else y)
    else s)

/-! ### Bonds (R261) -/

/-- The largest and the smallest of the delays with which a bond's LOCK flits came. -/
def lagSpan (lags : List (Nat × Nat)) : Nat × Nat :=
  match lags.map Prod.snd with
  | [] => (0, 0)
  | x :: xs => (xs.foldl max x, xs.foldl min x)

/-- LOCK: a LOCK flit has come on every port of the bond that is up, `lags` giving each port and its delay in ns. Each port takes the
deskew delay that lines it up with the slowest; where that needs more than 64 ns the bond unlocks and holds its traffic. -/
def execLock (bond : Nat) (lags : List (Nat × Nat)) (s : State) : Host.Outcome State Fault Refusal :=
  .next (
    let b := s.bond bond
    let ls := lags.filter (fun l => (s.bondUp bond).contains l.1)
    if s.alive ∧ bond < 12 ∧ (s.bondCfg bond).ports ≠ 0 ∧ s.bondUp bond ≠ [] ∧
        (s.bondUp bond).all (fun p => ls.any (fun l => decide (l.1 = p))) then
      let (hi, lo) := lagSpan ls
      let skew := hi - lo
      if skew ≤ 64 then
        s.setBond bond { b with locked := true, skew := skew, deskew := ls.foldl (fun t l => t.set l.1 (hi - l.2)) [] }
      else (s.setBond bond { b with locked := false, skew := min skew 255 }).count (kBond bond cCskLockLost)
        (if b.locked then 1 else 0)
    else s)

/-- LOCK_REMEASURE: LOCK flits go out on every port of the bond that is up. -/
def execLockRemeasure (bond : Nat) (s : State) : Host.Outcome State Fault Refusal :=
  .next (if s.alive ∧ bond < 12 then
    (s.bondUp bond).foldl (fun t p => t.setPort p { t.port p with ctrlq := (t.port p).ctrlq ++ [.lock s.clock.now] }) s
  else s)

end Sys2Proof.Machine
end

