-- ==== Sys2Proof/Machine/HostMem.lean ====
section
/-! DEFINITION. BAR4: the host's reads and writes of software-visible memory (spec/02 R34, spec/07 R174, spec/08 R195). -/

namespace Sys2Proof.Machine

/-- The software-visible address of a BAR4 offset (R34). -/
def State.bar4Addr (s : State) (l : LinkId) (off : Nat) : Nat := (s.link l).bar4Base * 2 ^ 30 + off

/-- An access that one BAR4 request can make: inside the window, of at most `max` bytes. -/
def State.bar4Ok (s : State) (l : LinkId) (off n max : Nat) : Bool :=
  s.reaches l && decide (0 < n) && decide (n ≤ max) && decide (off + n ≤ 2 ^ (30 + (s.link l).bar4Log2))

/-- The region that holds a byte, as the host sees it: none beyond the capacity, and none for a twin (R34, R174, R195). -/
def State.hostRegion (s : State) (a : Nat) : Option Region :=
  if s.variant.visibleBytes ≤ a then none
  else match s.regionAt a with
    | some (r, x) => if s.isTwin r then none else some x
    | none => none

/-- The key of a byte that a BAR4 read reaches. -/
def State.hostKey (s : State) (a : Nat) : Option Nat := if (s.hostRegion a).isSome then s.visKey a else none

/-- The bytes of a BAR4 read: zero where nothing is allocated, and free values where a word fails correction. -/
def State.bar4Bytes (s : State) (a n : Nat) : List Byte :=
  (List.range n).map (fun i => match s.hostKey (a + i) with
    | some k => if s.hbm.bad (k / 16) then Config.freeByte (s.freeCtr + i) else s.hbm.read k
    | none => 0)

/-- The words that a BAR4 read reads. -/
def State.bar4Words (s : State) (a n : Nat) : List Nat :=
  ((wordAddrs a n).filterMap (fun x => (s.hostKey x).map (· / 16))).dedup

/-- BAR4_READ (R34, R174). -/
def execBar4Read (link : LinkId) (offset count : Nat) (s : State) : Host.Outcome State Fault Refusal :=
  .next (if s.bar4Ok link offset count 4096 then
    let a := s.bar4Addr link offset
    let ws := s.bar4Words a count
    let bad := ws.any s.hbm.bad
    let t := (s.noteWords ws).send (.bar4 link (s.bar4Bytes a count) bad)
    if bad then (t.setFreeCtr (s.freeCtr + count)).countModule cHostReadPoisoned else t
  else s)

/-- Room found in the copy-ahead buffers: while they have none, staged blocks are read first, which frees them (spec/08 R210). -/
def State.makeRoom (s : State) (bs : List (Nat × Nat)) : Nat → State
  | 0 => s
  | f + 1 =>
    match s.stageFor bs with
    | some t => t
    | none =>
      (s.stands.foldl (fun t p => match p.2.steps.copy with
        | some _ => match (t.stand p.1).steps.copy with
          | some b => if b.todo.any (fun q => (t.land q.die).isStaged p.1 q.block) then t.copyStep p.1 b else t
          | none => t
        | none => t) s).makeRoom bs f

/-- The bytes of a BAR4 write that lie in a region with HOST_WR. -/
def State.hostWrites (s : State) (a : Nat) (data : List Byte) : List (Nat × Byte) :=
  data.zipIdx.filterMap (fun p => match s.hostRegion (a + p.2) with
    | some x => if x.hostWr then some (a + p.2, p.1) else none
    | none => none)

/-- The copy-ahead blocks of single bytes. -/
def State.byteBlocks (s : State) (l : List (Nat × Byte)) : List (Nat × Nat) :=
  (l.filterMap (fun p => (s.visKey p.1).map (fun k => (keyDie k, keyLoc k / 65536)))).dedup

/-- Bytes of a BAR4 write stored; a word that the write covers whole is new data and takes fresh check symbols (spec/00 R20,
spec/07 R175). -/
def State.hostStore (s : State) (ws : List (Nat × Byte)) : State :=
  let ks := ws.filterMap (fun p => (s.visKey p.1).map (fun k => (k, p.2)))
  let t := s.noteMerge (ks.map Prod.fst)
  t.setHbm (t.hbm.put ks)

/-- BAR4_WRITE (R174). -/
def execBar4Write (link : LinkId) (offset : Nat) (data : List Byte) (s : State) : Host.Outcome State Fault Refusal :=
  .next (if s.bar4Ok link offset data.length 512 then
    let a := s.bar4Addr link offset
    let ws := s.hostWrites a data
    let t := (s.makeRoom (s.byteBlocks ws) 40000).hostStore ws
    if ws.length < data.length then t.countModule cHostWriteIgnored else t
  else s)

end Sys2Proof.Machine
end

