-- ==== Sys2Proof/Machine/Discard.lean ====
section
/-! DEFINITION. Commands discarded by a reset (spec/02 R48, spec/04 R109, spec/06 R162, spec/08 R199, spec/12 R307, R317, spec/13
R339-R343). -/

namespace Sys2Proof.Machine

/-! ### What an engine holds -/

/-- The physical cluster that a command's cluster field names. -/
def State.cmdCluster (s : State) (st : Nat) (c : Cmd) : Option Nat := s.standCluster st c.clusterField

/-- The command's core mask selects a physical core. -/
def State.cmdCore (s : State) (st : Nat) (c : Cmd) (core : Nat) : Bool :=
  decide (s.cmdCluster st c = some (core / 5)) &&
    (coresOf (bits (fld c.bytes 17 1) 3 0)).any (fun r => decide (s.physCore (core / 5) r = some core))

/-- A reduction's clusters include a physical cluster that satisfies `p`. -/
def State.redCluster (s : State) (st : Nat) (c : Cmd) (p : Nat → Bool) : Bool :=
  let a := redArgs c.bytes
  (decide (c.opcode = 0x30) || decide (c.opcode = 0x31)) &&
    (List.range a.nclu).any (fun i => match s.standCluster st (a.clu0 + i) with
      | some x => p x
      | none => false)

/-- A command that is not over uses an engine (R334). -/
def State.usesEngine (s : State) (st : Nat) (c : Cmd) (e : EngineId) : Bool :=
  !c.ended && (match e with
    | .arrays core => (decide (c.opcode = 0x01) || decide (c.opcode = 0x02)) && s.cmdCore st c core
    | .vector core => decide (c.opcode = 0x08) && s.cmdCore st c core
    | .batten core => decide (c.opcode = 0x09) && !c.isTap && s.cmdCore st c core
    | .taps core => c.isTap && s.cmdCore st c core
    | .skidder x => (decide (classOf c.opcode = some 3) && decide (s.cmdCluster st c = some x)) ||
        (decide (c.opcode = 0x32) && decide (s.standCluster st (permArgs c.bytes).cluster = some x))
    | .purlin x => s.redCluster st c (fun y => decide (y = x))
    | .trussDie d => s.redCluster st c (fun y => decide (y / 4 = d))
    | .trussLink _ => s.redCluster st c (fun _ => true)
    | .landing _ _ => c.onLanding
    | .frontend => false)

/-- The stand's commands on an engine. -/
def State.onEngine (s : State) (st : Nat) (e : EngineId) : List Cmd :=
  (s.stand st).inflight.filter (fun c => s.usesEngine st c e)

/-- A command's context has it in a context reset's scope: a COMMIT past its phase 1 is left (R340). -/
def State.inReset (s : State) (st ctx : Nat) (c : Cmd) : Bool :=
  decide (c.context = ctx) && !c.ended &&
    !((s.stand st).steps.commits.any (fun j => decide (j.ticket = c.ticket) && decide (j.phase ≠ 1)))

/-! ### The destination of a discarded command -/

/-- Which additions of a discarded SCATTER_ADD's element took place: the list positions of some prefix, which is open (spec/06
R162). -/
def State.prefixOf (s : State) (i : Nat) (js : List Nat) : List Nat := js.take (Config.freeNat (s.freeCtr + i) % (js.length + 1))

/-- A discarded SCATTER_ADD: each element that the list names stands at some prefix of its additions. -/
def State.mixScatter (s : State) (st : Nat) (c : Cmd) (a : SkidArgs) : State :=
  let ix := s.readIndex st c a.idx a.dst.rows
  let es := ((ix.rows.filterMap id).dedup).flatMap (fun r => (List.range a.dst.e0).map (fun e => (r, e, positionsOf ix.rows r)))
  let ws := es.zipIdx.flatMap (fun q =>
    let v := (s.scatterSum st c a (s.prefixOf q.2 q.1.2.2) q.1.2.1 q.1.1).1
    (a.dst.bytesAt (a.dst.rowAt q.1.1 q.1.2.1)).zipIdx.map (fun b =>
      (s.spot st c a.dst b.1, BitVec.ofNat 8 (fFP32.encode v / 256 ^ b.2))))
  let ws := ws.filter (fun w => match w.1 with
    | .held id x => !(s.store id).bad (x / 16)
    | _ => false)
  (s.setFreeCtr (s.freeCtr + es.length)).putSpots ws []

/-- The destination of a discarded Skidder command that may have begun to write: old and new words mixed, each whole (spec/06 R162).
One whose turn has not come, that waits, or that has no room in a copy-ahead buffer has written nothing; one that waits for its PUTs
alone has written everything. -/
def State.mixSkid (s : State) (st : Nat) (c : Cmd) : State :=
  match s.skidCmd st c.ticket c.opcode with
  | none => s
  | some _ =>
    if c.stage = .phase 2 then s
    else match s.planOf st c with
      | some p =>
        if s.planWaits st c p || s.planAsks st c p then s
        else
          let kept := s.xferKept st c p.x p.pick
          let ws := s.placed st c p.x kept (s.xferStored st c p.x p.pick).bytes
          let hit := if p.args.fill then [] else
            (s.xferBad st c p.x p.pick).filter (fun b => !kept.contains (p.x.dst.unitAt b))
          match s.stageFor (spotBlocks (ws.map Prod.fst)) with
          | none => s
          | some t => t.mixSpots ws (s.badWords st c p.x p.pick hit)
      | none =>
        let a := s.skidArgs st c.step c.bytes
        if c.opcode ≠ 0x12 ∨ s.scatterWaits st c a ∨ (c.stage = .queued ∧
            (s.scatterNeed st a).any (fun k => decide (s.blockState st c a.src k = 1))) then s
        else match s.stageFor (spotBlocks (a.dst.coords.flatMap (fun e => (a.dst.bytesAt e).map (s.spot st c a.dst)))) with
          | none => s
          | some t => t.mixScatter st c a

/-- C of a discarded product on one core. -/
def State.scrambleCore (s : State) (core : Nat) (d : Desc) : State :=
  let offs := (d.coords.flatMap d.bytesAt).dedup
  (s.setSpad core (offs.zipIdx.foldl (fun m p => m.writeByte (d.addr + p.1) (Config.freeByte (s.freeCtr + p.2)))
    (s.core core).spad)).setFreeCtr (s.freeCtr + offs.length)

/-- The output of a discarded command; a product that keeps its result has no output range (spec/04 Table 4-7). -/
def State.scramble (s : State) (st : Nat) (c : Cmd) : State :=
  if c.opcode = 0x01 ∨ c.opcode = 0x02 then
    if (matArgs c.bytes).accOut then s else match s.cmdCluster st c with
    | none => s
    | some px => (coresOf (bits (fld c.bytes 17 1) 3 0)).foldl (fun t r => match s.physCore px r with
      | some core => t.scrambleCore core (matArgs c.bytes).descC
      | none => t) s
  else if classOf c.opcode = some 3 then s.mixSkid st c
  else s

/-! ### The discard -/

/-- Groups that a discarded OPTIM or RESTORE leaves DAMAGED (spec/08 R199). -/
def State.damageBy (s : State) (st : Nat) (c : Cmd) : State :=
  if c.opcode = 0x20 then s.damage st (ugrpOf c.bytes)
  else if c.opcode = 0x44 then
    let a := restArgs c.bytes
    (groupSpan a.ugrp a.count).foldl (fun t k => t.damage st k) s
  else s

/-- What a stand and its units hold of a command, let go. -/
def State.forget (s : State) (st : Nat) (c : Cmd) : State :=
  let x := s.stand st
  let not (t : Nat) : Bool := decide (t ≠ c.ticket)
  let copying := match x.steps.copy with
    | some b => decide (b.ticket = some c.ticket)
    | none => false
  let y := { x.steps with
    commits := x.steps.commits.filter (fun j => not j.ticket)
    records := x.steps.records.map (fun r => if r.endTicket = some c.ticket then { r with endTicket := none } else r) }
  let t := s.setStand st { x with
    colls := x.colls.filter (fun k => not k.ticket), perms := x.perms.filter (fun p => not p.ticket), steps := y
    held := x.held.filter (fun h => decide (h.what ≠ .skidder c.ticket) && decide (h.what ≠ .checkpoint c.ticket)) }
  let t := t.setInteg { t.integ with tiles := t.integ.tiles.filter (fun f => !(decide (f.stand = st) && decide (f.ticket = c.ticket))) }
  let t := if c.isTap then
      match s.cmdCluster st c with
      | some px => (List.range 5).foldl (fun u k => let core := 5 * px + k
          u.setCore core { u.core core with taps := (u.core core).taps.filter (fun q => !(decide (q.stand = st) &&
            decide (q.ticket = c.ticket))) }) t
      | none => t
    else t
  if copying then t.endCopy st else t

/-- A command discarded with a status: its step is marked by a context or engine reset (spec/12 R307), and its slot is written
(spec/02 R48). -/
def State.discardCmd (s : State) (st : Nat) (c : Cmd) (status : W16) : State :=
  let t := ((s.scramble st c).damageBy st c).forget st c
  let t := if status = 7 then t else t.mark st c.step 0xa
  ((t.countDone st c.opcode).finish st { c with statuses := [status] } []).retireNow st c.ticket

def State.discardAll (s : State) (st : Nat) (cs : List Cmd) (status : W16) : State :=
  cs.foldl (fun t c => t.discardCmd st c status) s

/-- A replay cut short (spec/12 R317): it ends, issue stays stopped, and every step not yet replayed is APPLIED and marked. -/
def State.cutReplay (s : State) (st : Nat) : State :=
  match (s.stand st).steps.replay with
  | none => s
  | some r => if r.steps.isEmpty then s else
    let t := r.steps.foldl (fun u n => u.mark st (some n) 0xa) s
    let x := t.stand st
    let t := t.setStand st { x with steps := { x.steps with
      replay := none, stopped := true
      records := x.steps.records.map (fun q => if r.steps.contains q.step ∧ q.mode ≠ .isOpen then
          { q with mode := .applied, applied := s.clock.now } else q) } }
    (x.steps.records.filter (fun q => r.steps.contains q.step && decide (q.mode ≠ .isOpen))).foldl
      (fun u q => (u.endStep st q []).onRec st q.step (fun k => { k with endTicket := none })) t

/-- After a discard: taps that only the discarded accesses held back write their entries (spec/05 R124), and the steps left without
commands become APPLIED. -/
def State.afterDiscard (s : State) (st : Nat) (cut : Bool) : State :=
  ((if cut then s.cutReplay st else s).settleStand st).applySteps st

end Sys2Proof.Machine
end

