-- ==== Sys2Proof/Machine/Power.lean ====
section
/-! DEFINITION. The power commands (spec/16): input power, domains, the limiter, trips, sleep and the monitors. -/

namespace Sys2Proof.Machine

/-- The wake circuit at input power good: LAST_OFF shows what it had latched, and the latch is free again (spec/16
R410). -/
def PowerSt.goodAgain (p : PowerSt) : PowerSt :=
  { p with good := true, lastOff := p.latched.getD .unknown, latched := none, stbyLost := false }

/-- Input power good is asserted: the power-on sequence and the time base start, and LAST_OFF shows the first cause of the
power-off before (spec/16 R393, R401, R410). -/
def execPowerGood (s : State) : Host.Outcome State Fault Refusal :=
  .next (if s.power.good then s
    else s.powerOn s.power.wakeCircuit.goodAgain)

/-- What the wake circuit holds once the input has left its range: below 5 V it lets go of its pins (spec/16 R393, R406,
R407). -/
def PowerSt.inputLost (p : PowerSt) (millivolts : Int) : PowerSt :=
  let q := (p.wakeCircuit.latch (if millivolts < 44000 then .inputLow else .inputHigh))
  let q := { q with good := false, asleep := false }
  if millivolts < 5000 then { q with thermtrip := false, cycleReq := false, locked := false } else q

/-- The input below 44 V or above 62 V for 100 us (spec/16 R393); beyond the absolute maximum ratings nothing is said
(R392). -/
def execInputOutOfRange (millivolts : Int) (s : State) : Host.Outcome State Fault Refusal :=
  if millivolts < -500 ∨ millivolts > 65000 then .fault .absoluteMaximumExceeded
  else .next (if millivolts < 44000 ∨ millivolts > 62000 then s.dark (s.power.inputLost millivolts) else s)

/-- A domain may start: power is good, the module awake, nothing holds it off, it serves a unit, it has not failed, and a
spare's domain serves a spare in service (spec/16 R394, R396). -/
def State.mayStart (s : State) (pd : Nat) : Bool :=
  s.power.good && !s.power.asleep && !s.power.locked && domainUsed s.variant pd && !(s.domain pd).fault
    && (if pd = 8 then (s.die 16).standsFor.isSome else if pd = 9 then (s.die 17).standsFor.isSome else true)

/-- A domain switches on (spec/16 R396, Table 16-4). -/
def execDomainSwitchOn (pd : Nat) (s : State) : Host.Outcome State Fault Refusal :=
  .next (if s.mayStart pd then s.setDomain pd { s.domain pd with on := true } else s)

/-- A domain did not reach regulation within 10 ms: off, and flagged (spec/16 R396). -/
def execDomainRegulationTimeout (pd : Nat) (s : State) : Host.Outcome State Fault Refusal :=
  .next (if (s.domain pd).on then s.domainFails pd else s)

/-- A regulator phase faults (spec/16 R395): disabled, counted, recorded, and beyond two the domain is derated. -/
def execPhaseFault (pd phase : Nat) (s : State) : Host.Outcome State Fault Refusal :=
  let d := s.domain pd
  let ok := domainUsed s.variant pd && decide (phase < domainN pd + 2) && !d.failed.contains phase
  let n := d.failed.length + 1
  .next (if ok then
    (((s.setDomain pd { d with failed := d.failed ++ [phase], derated := decide (n > 2) }).countModule
        cPwrPhaseFault).count (kModule cPwrDomainDerated) (if n = 3 then 1 else 0)).wear 0x0d 5 pd phase
    else s)

/-- A derated domain other than a compute die's draws more than its remaining phases are rated for (spec/16 R395). -/
def State.domainOver (s : State) (pd amps : Nat) : Bool :=
  let f := (s.domain pd).failed.length
  decide (10 ≤ pd) && decide (f > 2) && decide (amps * domainN pd > domainAmps pd * (domainN pd + 2 - f))

/-- The window counts as over the limit (spec/16 R395, R397). -/
def State.windowOver (s : State) (watts : Nat) (amps : List (Nat × Nat)) : Bool :=
  decide (watts > s.img.powerLimitW) || amps.any (fun x => s.domainOver x.1 x.2)

/-- The limiter's comparison at a window's end (spec/16 R397). -/
def PowerSt.window (p : PowerSt) (exceeded : Bool) (watts limit : Nat) : PowerSt :=
  let n := if !exceeded && decide (watts * 100 < limit * 95) then p.below + 1 else 0
  if exceeded then { p with p := max 4 (p.p - 1), below := 0, fast := false, inputW := watts % 65536 }
  else if n ≥ 8 then { p with p := min 16 (p.p + 1), below := 0, fast := false, inputW := watts % 65536 }
  else { p with below := n, fast := false, inputW := watts % 65536 }

/-- The end of a 1 ms window (spec/16 R397, R415). -/
def execLimiterWindow (watts : Nat) (amps : List (Nat × Nat)) (s : State) : Host.Outcome State Fault Refusal :=
  .next (if s.boot.imageVerified then
    (s.setPower (s.power.window (s.windowOver watts amps) watts s.img.powerLimitW)).count (kModule cPwrLimitWindows)
      (if s.power.p < 16 then 1 else 0)
    else s)

/-- The fast limit in A (spec/16 R398). -/
def Variant.fastAmps : Variant → Nat
  | .f => 285
  | .e => 220

/-- The input current has exceeded its fast limit for 20 us (spec/16 R398). -/
def execFastLimit (amps : Nat) (s : State) : Host.Outcome State Fault Refusal :=
  .next (if s.alive ∧ amps > Variant.fastAmps s.variant then
    (s.setPower { s.power with p := max 4 (s.power.p - 4), fast := true }).countModule cPwrFastLimit
    else s)

/-- A stack or a die junction reaches its trip (spec/16 R404, R406, Table 16-7). -/
def execThermtrip (isStack : Bool) (_unit : Nat) (celsius : Int) (s : State) : Host.Outcome State Fault Refusal :=
  let trips := s.power.good && decide (celsius ≥ if isStack then 100 else 115)
  let t := s.powerOff (if isStack then .tripStack else .tripDie)
  .next (if trips then t.setPower { t.power with thermtrip := true, locked := true } else s)

/-- Input power still there 10 s after PWR_CYCLE_REQ_N was asserted (spec/16 R407). -/
def execPwrCycleReqTimeout (s : State) : Host.Outcome State Fault Refusal :=
  let t := s.powerOff .cycleReq
  .next (if s.power.cycleReq && s.power.good && !s.power.locked then t.setPower { t.power with locked := true } else s)

/-- SLEEP_N held low for 10 ms: issue stops, pending entries reach the flash, and the domains go off (spec/16 R408,
R411). -/
def execSleep (s : State) : Host.Outcome State Fault Refusal :=
  let t := s.flushFlash.powerOff .sleep
  .next (if s.power.good && !s.power.asleep && !s.power.locked then t.setPower { t.power with asleep := true } else s)

/-- WAKE_N held low for 1 ms: heeded while SLEEP_N is high, the module sleeps and no trip or request holds it off (spec/16
R406, R407, R409). -/
def execWake (sleepN : Bool) (s : State) : Host.Outcome State Fault Refusal :=
  .next (if sleepN && s.power.asleep && s.power.good && !s.power.thermtrip && !s.power.locked && !s.power.stbyLost
    then s.powerOn { s.power.wakeCircuit with asleep := false, lastOff := s.power.latched.getD .unknown }
    else s)

/-- P3V3_STBY is lost: the wake circuit stops, and LAST_OFF reads unknown (spec/16 R410). -/
def execStandbyPowerLoss (s : State) : Host.Outcome State Fault Refusal :=
  .next (s.setPower { s.power with stbyLost := true, lastOff := .unknown, latched := some .unknown })

/-- A PLL loses lock or REFCLK leaves its range (spec/16 R402, Table 16-5): `some d` is a die's own deskew PLL, `none` the
root PLL or REFCLK, which every die follows. -/
def execClockMonitorExcursion (die : Option Nat) (s : State) : Host.Outcome State Fault Refusal :=
  let ds := match die with
    | some d => [d]
    | none => 30 :: s.allDies.filter (· ≠ 30)
  let fresh := ds.any (fun d => s.variant.hasDie d && !(s.die d).out.contains 1)
  let t := (s.excursion ds 1 cIntMonClock).onDies s.allDies (fun x => { x with noIssue := true })
  .next (if s.alive && fresh then t.setPower { t.power with osc := true } else s)

/-- REFCLK in range and every PLL locked for 10 ms: Warden firmware decides a chip reset with CAUSE 3 (spec/16 Table
16-5). -/
def execClockRecovered (s : State) : Host.Outcome State Fault Refusal :=
  let t := s.onDies s.allDies (·.back 1 s.clock.now)
  .next (if s.power.osc then (t.setPower { t.power with osc := false }).wardenReset 3 else s)

/-- A rail leaves nominal +-5 % (`lasted` false), or has been out for 1 ms (`lasted` true): Table 16-5 of spec/16. -/
def execVoltageMonitorExcursion (pd : Nat) (lasted : Bool) (s : State) : Host.Outcome State Fault Refusal :=
  let d := s.domain pd
  let ds := domainDies s.variant pd
  .next (
    if !s.alive || !d.on then s
    else if lasted then
      (if d.volt then (s.onDies ds (fun x => { x with noIssue := true })).wardenReset 3 else s)
    else if d.volt then s
    else
      let t := s.excursion ds 2 cIntMonVoltage
      if d.left && !s.boot.standsReady then (t.setDomain pd { d with volt := true }).domainFails pd
      else t.setDomain pd { d with volt := true, left := true })

/-- A junction above 105 °C (spec/16 R402, Table 16-5): a compute die is held to the step 3 pattern, a landing die's zone
takes step 3. -/
def execTempMonitorExcursion (die : Nat) (celsius : Int) (s : State) : Host.Outcome State Fault Refusal :=
  let ok := s.alive && decide (celsius > 105) && s.variant.hasDie die && !(s.die die).out.contains 3
  let t := s.excursion [die] 3 cIntMonTemp
  let t := t.setDie die { t.die die with tj := (celsius + 64).toNat % 256, hot := true, held := true }
  let z := die - 18
  .next (if !ok then s
    else if 18 ≤ die ∧ die < 26 ∧ (t.zone z).step < 3 then
      (t.setZone z { t.zone z with step := 3, early := false }).event 0x0030 z 3
    else t)

end Sys2Proof.Machine
end

