-- ==== Sys2Proof/Machine/Resets.lean ====
section
/-! DEFINITION. Watchdogs and the ladder up to the stand reset (spec/13 R334-R344, R349, R350, R353, R354). -/

namespace Sys2Proof.Machine

/-- CAUSE of GLB_RST_STAND (Table 13-9). -/
def RungCause.code : RungCause → Nat
  | .engineWdt => 0
  | .waitWdt => 1
  | .frontWdt => 2
  | .host => 3
  | .escalation => 4

def State.setRstStand (s : State) (st : Nat) (f : RstStand → RstStand) : State :=
  let x := s.stand st
  s.setStand st { x with rst := f x.rst }

/-- A rung has completed: LAST, CAUSE, the time, and for a context reset the context (Table 13-9). -/
def RstStand.completed (x : RstStand) (rung : Nat) (cause : RungCause) (ctx : Nat) (now : W64) : RstStand :=
  { x with last := rung, cause := cause.code, ctx := if rung = 1 then ctx else x.ctx
           tLast := BitVec.ofNat 32 (now.toNat / 1000) }

/-- A rung has started: CAUSE, and for a context reset CONTEXT, name it (Table 13-9). -/
def RstStand.began (x : RstStand) (a : Rung) : RstStand :=
  { x with active := x.active ++ [a], cause := a.cause.code, ctx := if a.rung = 1 then a.ctx else x.ctx }

/-- The deadline timer rearmed, if it is armed; a rung that completes does it too (R347). -/
def State.rearm (s : State) : State := s.setWarden { s.warden with deadline := s.warden.deadline.map (fun _ => s.clock.now) }

/-! ### Increment core samples (R349, R350) -/

/-- The stores that a rung's sample covers, with their sizes, and UNIT; nothing for engines without a store. -/
def State.sampleOf (s : State) (st : Nat) (rung : Nat) (e : Option EngineId) : Nat × List (Nat × Mem) :=
  let core (c : Nat) : Nat × Mem := (spadBytes, (s.core c).spad)
  let scratch (x : Nat) : Nat × Mem := (12 * 2 ^ 20, (s.cluster x).scratch)
  let coreOf : Option Nat := match e with
    | some (.arrays c) | some (.vector c) | some (.batten c) | some (.taps c) => some c
    | _ => none
  let clOf : Option Nat := match e with
    | some (.skidder x) | some (.purlin x) => some x
    | _ => coreOf.map (· / 5)
  if rung = 2 then
    match coreOf, clOf with
    | some c, _ => (c, [core c])
    | none, some x => (1024 + x, [scratch x])
    | none, none => (0, [])
  else
    let xs := s.standClusters st
    let order := (xs.filter (fun x => decide (clOf = some x))) ++ xs.filter (fun x => decide (clOf ≠ some x))
    let cores := order.flatMap (fun x => (List.range 4).filterMap (s.physCore x))
    (cores.headD 0, cores.map core ++ order.map scratch)

/-- A sample taken, newest first; the region keeps 64. -/
def State.takeSample (s : State) (st rung : Nat) (cause : RungCause) (e : Option EngineId) : State × Bool :=
  let (unit, parts) := s.sampleOf st rung e
  if !s.img.sample || parts.isEmpty then (s, false)
  else
    let seq := match e with
      | some e => ((s.onEngine st e).head?.map Cmd.seq).getD 0
      | none => 0
    let x : Sample := { time := s.clock.now, rung := rung, stand := st, cause := cause.code, incomplete := false, unit := unit
                        seq := seq, bytes := min (if rung = 2 then 12 * 2 ^ 20 else 16 * 2 ^ 20) ((parts.map Prod.fst).sum)
                        parts := parts }
    ((s.setRst { s.rst with samples := (x :: s.rst.samples).take 64 }).countStand st cRstSamples, true)

/-- The time limit of a rung (R338, Table 13-1) and the time box of its sample (R349), in ns. -/
def rungLimitNs (rung : Nat) : Nat := if rung = 1 then 100000 else if rung = 2 then 2000000 else 20000000
def sampleBoxNs (rung : Nat) : Nat := if rung = 2 then 1000000 else 8000000

/-- `n` ns have passed since a rung started. -/
def Rung.past (a : Rung) (n : Nat) (now : W64) : Bool := decide (a.started.toNat + n ≤ now.toNat)

/-- SAMPLE_BOX_EXPIRE: the sample that a rung of the stand runs has not ended in its time box and is abandoned, its header kept. -/
def execSampleBoxExpire (stand sampled : Nat) (s : State) : Host.Outcome State Fault Refusal :=
  .next (
    let x := (s.stand stand).rst
    if s.alive ∧ x.active.any (fun a => a.sampling && a.past (sampleBoxNs a.rung) s.clock.now) then
      let upd : List Sample → List Sample := fun l => match l.findIdx? (fun y => decide (y.stand = stand)) with
        | some i => l.modify i (fun y => { y with incomplete := true, bytes := min y.bytes sampled })
        | none => l
      (((s.setRst { s.rst with samples := upd s.rst.samples }).setRstStand stand (fun r =>
        { r with active := r.active.map (fun a => { a with sampling := false }) })).countStand stand cRstSampleAbandoned)
    else s)

/-! ### Context reset (R339, R340) -/

/-- Kept sets of a context in a cluster freed. -/
def State.freeKept (s : State) (px ctx : Nat) : State :=
  (List.range 5).foldl (fun t k =>
    let c := 5 * px + k
    let x := t.core c
    let free (y : KeptSet) : KeptSet := if y.held && decide (y.ctx = ctx) then KeptSet.empty else y
    t.setCore c { x with kept0 := free x.kept0, kept1 := free x.kept1 }) s

/-- A replay is cut short by a reset of a context: one of its commands is discarded or is still to be re-issued. -/
def StandSt.cutBy (x : StandSt) (ctx : Nat) (cs : List Cmd) : Bool :=
  match x.steps.replay with
  | none => false
  | some r => !r.steps.isEmpty && (cs.any (·.replay) || r.steps.zipIdx.any (fun n => match x.steps.rec_ n.1 with
      | some q => (q.cmds.drop (if n.2 = 0 then r.next else 0)).any (fun k => decide (bits (fld k.bytes 4 1) 3 0 = ctx))
      | none => false))

/-- A context reset: every command of the context discarded but those of a hung engine, which `stuck` names; the packets already
in the chute are discarded at the head. -/
def State.contextReset (s : State) (st ctx : Nat) (cause : RungCause) (e : Option EngineId) (stuck : List Nat) : State :=
  let x := s.stand st
  let cs := x.inflight.filter (fun c => s.inReset st ctx c && !stuck.contains c.ticket)
  let t := s.discardAll st cs 6
  let t := (s.standClusters st).foldl (fun u px => u.freeKept px ctx) t
  let t := t.setRstStand st (fun r => { r with
    discard := r.discard.filter (fun d => decide (d.1 ≠ ctx)) ++
      (if x.chute.packets.isEmpty then [] else [(ctx, x.chute.packets.length)]) })
  let t := t.afterDiscard st (x.cutBy ctx cs)
  if stuck.isEmpty then ((t.setRstStand st (fun r => r.completed 1 cause ctx s.clock.now)).countStand st cRstContext).rearm
  else t.setRstStand st (fun r => r.began ⟨1, ctx, cause, e, stuck, s.clock.now, false⟩)

/-- A hung engine abandons a command of a context being reset; with the last one the context reset completes. -/
def State.abandon (s : State) (st ticket : Nat) : State :=
  match (s.stand st).cmd ticket with
  | none => s
  | some c =>
    let t := (s.discardCmd st c 6).afterDiscard st (decide c.replay)
    let r := (t.stand st).rst
    let now := r.active.map (fun a => { a with stuck := a.stuck.filter (fun k => decide (k ≠ ticket)) })
    let over_ := now.filter (fun a => decide (a.rung = 1) && a.stuck.isEmpty)
    over_.foldl (fun u a => ((u.setRstStand st (fun q => q.completed 1 a.cause a.ctx s.clock.now)).countStand st cRstContext).rearm)
      (t.setRstStand st (fun q => { q with active := now.filter (fun a => !(decide (a.rung = 1) && a.stuck.isEmpty)) }))

/-- A rung of the stand that already covers a context, or an engine. -/
def RstStand.covers (x : RstStand) (ctx : Nat) (e : Option EngineId) : Bool :=
  x.active.any (fun a => decide (a.rung = 3) || (decide (a.rung = 1) && decide (a.ctx = ctx)) ||
    (decide (a.rung = 2) && decide (a.engine = e)))

/-! ### The start of a stand reset (R337, R338) -/

/-- A FENCE naming the stand itself, to every member of its tables (R344). -/
def State.fenceSelf (s : State) (st : Nat) : State :=
  let ms := ((List.range 16).flatMap (fun m => if (s.mtab st m).loaded then (s.mtab st m).members else [])).dedup
  ms.foldl (fun t m => if m = (s.img.deviceId, st) then t else t.sendFence st m (s.img.deviceId, st)) s

/-- Rung 3 starts on a stand: its peers are told and its heartbeat bit is cleared (R344), its sample is taken, and STAND_RESET carries
it out. -/
def State.startStandReset (s : State) (st : Nat) (cause : RungCause) (e : Option EngineId) : State :=
  if (s.stand st).rst.active.any (fun a => decide (a.rung = 3)) then s
  else
    let (t, sampling) := ((s.fenceSelf st).setRstStand st (fun r => { r with masked := true })).takeSample st 3 cause e
    t.setRstStand st (fun r => r.began ⟨3, 0, cause, e, [], s.clock.now, sampling⟩)

/-- Host software's requests (R354): on a permitted link, for a stand in use and, for a context, an enabled one. -/
def State.requestOk (s : State) (l : LinkId) (st : Nat) : Bool := decide (st < 64) && (s.cfg st).enabled && (s.cfg st).permits l

def State.requestContext (s : State) (l : LinkId) (st ctx : Nat) : State :=
  if s.requestOk l st && bit (s.cfg st).contexts.toNat ctx && decide (ctx < 16) then
    if (s.stand st).rst.covers ctx none then s else s.contextReset st ctx .host none []
  else s.countModule cRstReqIgnored

def State.requestStand (s : State) (l : LinkId) (st : Nat) : State :=
  if s.requestOk l st then s.startStandReset st .host none else s.countModule cRstReqIgnored

/-- CONTEXT_RESET_REQUEST (R354). -/
def execContextResetRequest (link : LinkId) (stand context : Nat) (s : State) : Host.Outcome State Fault Refusal :=
  .next (if s.reaches link then s.requestContext link stand context else s)

/-- STAND_RESET_REQUEST (R354). -/
def execStandResetRequest (link : LinkId) (stand : Nat) (s : State) : Host.Outcome State Fault Refusal :=
  .next (if s.reaches link then s.requestStand link stand else s)

/-! ### The chute's head (R339) -/

/-- The head packet leaves the chute: its flits are freed, and CHU_DISPATCHED_SEQ moves (spec/02 R47, Table 2-8). -/
def State.popHead (s : State) (st : Nat) : State :=
  let x := s.stand st
  match x.chute.packets with
  | [] => s
  | p :: ps =>
    let c := { x.chute with packets := ps, headAt := s.clock.now, seq := BitVec.ofNat 32 (fld p.bytes 8 4), seqValid := true }
    s.setStand st { x with
      chute := c.advanceHead p.flits
      rst := { x.rst with discard := (x.rst.discard.map (fun d => (d.1, d.2 - 1))).filter (fun d => decide (0 < d.2)) } }

/-- The head packet is covered by a context reset. -/
def StandSt.headDiscarded (x : StandSt) : Bool :=
  match x.chute.packets with
  | p :: _ => decide (p.verdict = 0) && x.rst.discard.any (fun d => decide (d.1 = bits (fld p.bytes 4 1) 3 0))
  | [] => false

/-- HEAD_DISCARD: the command takes a free result slot, which reports CONTEXT_RESET. -/
def execHeadDiscard (stand : Nat) (s : State) : Host.Outcome State Fault Refusal :=
  .next (
    let x := s.stand stand
    match x.chute.packets, x.freeSlot with
    | p :: _, some n =>
      if s.alive ∧ x.headDiscarded then
        ((s.setStand stand (x.reserve n)).writeSlot stand n p.link p.bytes 6 []).popHead stand
      else s
    | _, _ => s)

/-! ### Engine reset and fence (R341, R342) -/

/-- What an engine's reset leaves of its own state. -/
def State.engineCleared (s : State) (e : EngineId) : State :=
  match e with
  | .arrays c => s.setCore c { s.core c with kept0 := KeptSet.empty, kept1 := KeptSet.empty }
  | .batten c => s.setCore c { s.core c with batten := Mem.empty }
  | _ => s

/-- The stands that have commands on an engine. -/
def State.engineStands (s : State) (e : EngineId) : List Nat :=
  (List.range 64).filter (fun st => (s.cfg st).enabled && !(s.onEngine st e).isEmpty)

/-- Another stand resets the engine already: one reset serves both (Table 13-5). -/
def State.sharedReset (s : State) (st : Nat) (e : EngineId) : Bool :=
  (List.range 64).any (fun k => decide (k ≠ st) && (s.stand k).rst.active.any (fun a => decide (a.rung = 2) && decide (a.engine = some e)))

/-- An engine reset: every command on the engine is discarded; a landing engine's parts of other stands move, and each is counted. -/
def State.engineReset (s : State) (st : Nat) (e : EngineId) : State :=
  let one (t : State) (k : Nat) : State :=
    let cs := t.onEngine k e
    (t.discardAll k cs 8).afterDiscard k (cs.any (·.replay))
  let t := match e with
    | .landing _ _ => (s.engineStands e).foldl (fun u k => if k = st then one u k
        else u.count (kStand k cRstPartMoved) (s.onEngine k e).length) s
    | _ => (s.engineStands e).foldl one s
  t.engineCleared e

/-- Rung 2 starts on an engine, with its sample; where another stand resets it already, that reset serves, and only this stand's commands
on it are discarded. -/
def State.startEngineReset (s : State) (st : Nat) (a : Rung) (e : EngineId) : State :=
  let shared := s.sharedReset st e
  let (t, sampling) := if shared then (s, false) else s.takeSample st 2 .escalation (some e)
  let t := t.setRstStand st (fun r => RstStand.began { r with active := r.active.filter (fun b => decide (b ≠ a)) }
    ⟨2, a.ctx, .escalation, some e, [], s.clock.now, sampling⟩)
  if shared then
    let cs := t.onEngine st e
    (t.discardAll st cs 8).afterDiscard st (cs.any (·.replay))
  else t.engineReset st e

/-- A fenced engine's consequences (R342). -/
def State.fenceEngine (s : State) (st : Nat) (e : EngineId) : State :=
  let t := (s.setInteg { s.integ with fenced := s.integ.fenced ++ [e] }).setRstStand st (fun r => { r with fenced := r.fenced ++ [e] })
  let t := t.countStand st cRstEngineFenced
  match e with
  | .arrays c | .vector c | .batten c | .taps c => t.retireCore c (Config.wearCause 0x04)
  | .skidder x | .purlin x => t.markDie (dieOfCluster x)
  | .landing d k => (t.setLand d { t.land d with fenced := (t.land d).fenced ++ [k] }).wear 0x0c (Config.wearCause 0x0c) (16 * d + k) 0
  | _ => t

/-- An engine reset that has completed (R341). -/
def State.engineResetDone (s : State) (st : Nat) (a : Rung) : State :=
  ((s.setRstStand st (fun r => { r with active := r.active.filter (fun b => decide (b ≠ a)) }.completed 2 a.cause a.ctx
    s.clock.now)).countStand st cRstEngine).rearm

/-- The highest rung in progress. -/
def RstStand.top (x : RstStand) : Option Rung :=
  match x.active.find? (fun a => decide (a.rung = 3)) with
  | some a => some a
  | none => match x.active.find? (fun a => decide (a.rung = 2)) with
    | some a => some a
    | none => x.active.head?

/-- RUNG_TIMEOUT (R338): the highest rung has not completed within its limit, and the next one starts. -/
def execRungTimeout (stand : Nat) (s : State) : Host.Outcome State Fault Refusal :=
  .next (match (s.stand stand).rst.top with
    | none => s
    | some a =>
      if !s.alive || !a.past (rungLimitNs a.rung) s.clock.now then s
      else if a.rung = 3 then s.decideChipReset 1
      else match a.rung, a.engine with
        | 1, some e => s.startEngineReset stand a e
        | _, some e => ((s.fenceEngine stand e).setRstStand stand (fun r =>
            { r with active := r.active.filter (fun b => decide (b ≠ a)) })).startStandReset stand .escalation (some e)
        | _, none => s.startStandReset stand .escalation none)

/-! ### Stand reset (R343, R318) -/

/-- One cluster's stores zeroed, its kept sets and taps freed. -/
def State.zeroCluster (s : State) (px : Nat) : State :=
  (List.range 5).foldl (fun t k =>
    let c := 5 * px + k
    t.setCore c { t.core c with spad := Mem.empty, batten := Mem.empty, kept0 := KeptSet.empty, kept1 := KeptSet.empty, taps := [] })
    (s.setCluster px { s.cluster px with scratch := Mem.empty })

/-- A gate's estimator at the image's seed, unseasoned (spec/07 R183), and the requests that waited at it gone with their commands. -/
def State.seedGate (s : State) (l g : Nat) : State :=
  let x := s.land l
  s.setLand l { x with
    gates := x.gates.upd Gate.reset g (fun y => { y with est := (s.img.gates.get GateCfg.unused (66 * l + g)).seed, samples := 0 })
    waiting := x.waiting.filter (fun r => decide (r.gate ≠ g)) }

/-- The stand's commands, copies and chute gone. -/
def State.emptyStand (s : State) (st : Nat) : State :=
  let x := s.stand st
  let t := s.setStand st { x with steps := { x.steps with mirrorWait := none } }
  let t := t.discardAll st x.inflight 7
  let t := t.endCopy st
  let y := t.stand st
  t.setStand st { y with
    chute := { y.chute.emptied with discard := false, overrun := false, ptrReset := false, xlink := false, badLength := false }
    rst := { y.rst with discard := [], masked := true }, held := [] }

/-- Tables, estimators and collective state of the stand cleared. -/
def State.clearTables (s : State) (st : Nat) : State :=
  let x := s.stand st
  let t := s.setStand st { x with owners := [], mtabs := [], lates := [], ledger := [], carries := [], contribs := [], colls := [],
                                  perms := [] }
  let t := t.rewatch st
  let y := t.stand st
  t.setStand st { y with peers := y.peers.map (fun p => { p with est := s.img.jitterSeedUs, samples := 0, named := false }) }

/-- The rollback of a stand reset (R318): without a wait and without replay. -/
def State.haltStand (s : State) (st : Nat) : State :=
  ((s.rollBack st).rollbackOver st true).setSteps st (fun x => { x with commits := [], msgs := [] })

/-- A stand reset carried out. -/
def State.resetStand (s : State) (st : Nat) (cause : RungCause) : State :=
  let t := (s.settleCommit st true).emptyStand st
  let t := (s.standClusters st).foldl State.zeroCluster t
  let t := (List.range s.variant.landDies).foldl (fun u l => u.seedGate l st) (t.clearTables st)
  let t := (t.haltStand st).setRstStand st (fun r => { r with active := [] }.completed 3 cause 0 s.clock.now)
  ((t.countStand st cRstStand).event 0x0022 st cause.code).rearm

/-- STAND_RESET: rung 3, once it has started. -/
def execStandReset (stand : Nat) (s : State) : Host.Outcome State Fault Refusal :=
  .next (match (s.stand stand).rst.active.find? (fun a => decide (a.rung = 3)) with
    | some a => if s.alive then s.resetStand stand a.cause else s
    | none => s)

end Sys2Proof.Machine
end

