-- ==== Sys2Proof/Machine/Boot.lean ====
section
/-! DEFINITION. The chip reset, the two timers that ask for a power cycle, and start-up from mask ROM to the stands-ready
milestone (spec/13 R345-R348, R352; spec/14 R357-R361, R366; spec/15 R374, R375, R379, R380). -/

namespace Sys2Proof.Machine

/-! ### Asking for a power cycle (spec/13 R346-R348) -/

/-- PWR_CYCLE_REQ_N asserted, with the event's data (spec/15 Table 15-5); it stays so until input power is removed. -/
def State.requestCycle (s : State) (why : Nat) : State :=
  if s.power.cycleReq then s else (s.setPower { s.power with cycleReq := true }).event 0x0021 0 why

/-- The chip reset timer's 2.5 s and the deadline timer's 5 s, in ns (R346, R347). -/
def chipResetNs : Nat := 2500000000
def deadlineNs : Nat := 5000000000

/-- CHIP_RESET_TIMER: 2.5 s have passed since a chip reset was decided, and STANDS_READY is not set. -/
def execChipResetTimer (s : State) : Host.Outcome State Fault Refusal :=
  .next (if s.alive ∧ s.rst.pendingCause.isSome ∧ s.rst.decidedAt.toNat + chipResetNs ≤ s.clock.now.toNat then s.requestCycle 1
    else s)

/-- DEADLINE_TIMER: 5 s without a rearm; the timer is hardware and runs whatever the Warden does. -/
def execDeadlineTimer (s : State) : Host.Outcome State Fault Refusal :=
  .next (if s.alive ∧ s.warden.deadline.any (fun t => decide (t.toNat + deadlineNs ≤ s.clock.now.toNat)) then s.requestCycle 2 else s)

/-- DEADLINE_REARM: the active Warden's write arms the timer afresh. -/
def execDeadlineRearm (s : State) : Host.Outcome State Fault Refusal :=
  .next (if s.alive ∧ s.warden.running ∧ !s.warden.halted then s.setWarden { s.warden with deadline := some s.clock.now } else s)

/-! ### Spare compute dies (spec/13 R352) -/

/-- The link dies that a compute die reaches. -/
def linkDiesOf (v : Variant) (d : Nat) : List Nat :=
  (if d < 16 then [d % 4, (d + 1) % 4] else [2 * (d - 16), 2 * (d - 16) + 1]).filter (fun k => decide (k < v.linkDies))

/-- A spare not yet used. -/
def State.unusedSpare (s : State) (sp : Nat) : Bool :=
  !(s.die sp).out_ && (s.die sp).standsFor.isNone && !(s.die sp).marked

/-- The spares for a die, the preferred first. -/
def State.sparesFor (s : State) (d : Nat) : List Nat :=
  let reach (sp : Nat) : Nat := ((linkDiesOf s.variant d).filter (linkDiesOf s.variant sp).contains).length
  (if reach 16 < reach 17 then [17, 16] else [16, 17]).filter s.unusedSpare

/-- Spares tried in turn for a die: one that fails its scan test is retired and recorded; the first that passes takes the die's
place. -/
def State.tryspares (s : State) (scan : List (Nat × Bool)) (d : Nat) : List Nat → State × Bool
  | [] => (s, false)
  | sp :: sps =>
    if scan.contains (sp, false) then
      ((s.setDie sp { s.die sp with out_ := true }).wear 0x06 (Config.wearCause 6) sp 0).tryspares scan d sps
    else
      let t := ((s.substitute d sp).countModule cRstSpareDie).wear 0x07 (Config.wearCause 7) d sp
      (t.setRst { t.rst with subst := some (d, sp) }, true)

/-- One compute die in the die phase: a marked one, or one that fails its scan test, is replaced; a failed one without a spare is
powered down and stays marked, which is a start-up fault. -/
def State.diePhase (s : State) (scan : List (Nat × Bool)) (d : Nat) : State :=
  let failed := scan.contains (d, false)
  if !s.dieInService d || !((s.die d).marked || failed) then s
  else
    let (t, done) := s.tryspares scan d (s.sparesFor d)
    if done || !failed then t
    else
      let u := if (t.die d).marked then t else (t.setDie d { t.die d with marked := true }).wear 0x06 (Config.wearCause 6) d 0
      (u.setDie d { u.die d with out_ := true }).startFault 3

/-- The scan test of the logic dies and the replacement of marked ones. -/
def State.replaceDies (s : State) (scan : List (Nat × Bool)) : State :=
  (List.range 18).foldl (fun t d => t.diePhase scan d) s

/-! ### The chip reset (spec/13 R345, R351) -/

/-- A stack keeps its repairs over a chip reset, and its temperature is what it is (spec/07 R179). -/
def StackSt.overReset (x : StackSt) : StackSt :=
  { StackSt.reset with temp := x.temp, step := x.step, refresh2x := x.refresh2x, rowDir := x.rowDir, bankDir := x.bankDir
                       pcDir := x.pcDir, sppr := x.sppr }

/-- A die-link port at reduced width is out of service from the chip reset on (spec/01 R18). -/
def DieLink.overReset (x : DieLink) : DieLink :=
  { DieLink.reset with failedLanes := x.failedLanes, out := x.out || x.reduced }

/-- Power over a chip reset: the limiter and the domains go on, and the predictors start again (spec/16 R405). -/
def PowerSt.overReset (p : PowerSt) : PowerSt :=
  { p with
      domains := p.domains.map (fun x => (x.1, { x.2 with failed := [], derated := false }))
      zones := p.zones.map (fun x => (x.1, { x.2 with est := 0, samples := 0, lastTz := none })) }

/-- A die's monitors go on over a chip reset; what it granted and whom it replaced are settled again. -/
def DieSt.overReset (x : DieSt) : DieSt := { x with noIssue := false, marked := false, out_ := false, standsFor := none }

/-- A host link that went down over a chip reset: its reset input stays as it is. -/
def HostLink.overReset (h : HostLink) : HostLink := h.ended .linkDown

/-- A core's cruise record goes on over a chip reset (spec/11 R292). -/
def CoreSt.overReset (x : CoreSt) (k : Nat) : CoreSt :=
  { CoreSt.reset k with lastCruise := x.lastCruise, overdue := x.overdue, serving := x.serving }

/-- The logic dies reset: memory, the flash, the time base, power and the reset machinery stay (Table 13-4), and the wear ledger
gives the retirements and repairs again. -/
def State.logicReset (s : State) (cause : Nat) : State :=
  let t : State := { State.reset with
    pending := s.pending, sent := s.sent, freeCtr := s.freeCtr, variant := s.variant
    power := s.power.overReset
    dies := s.dies.map (fun x => (x.1, x.2.overReset))
    clock := { s.clock with sync := TimeSync.reset }
    flash := s.flash
    warden := { Warden.reset with deadline := s.warden.deadline, sensors := s.warden.sensors, rootDigest := s.warden.rootDigest }
    boot := { BootRegs.reset with origin := s.rst.decidedAt }
    link0 := s.link0.overReset
    link1 := s.link1.overReset
    hbm := s.hbm
    comp := { State.reset.comp with cores := s.comp.cores.map (fun x => (x.1, x.2.overReset (x.1 % 5))) }
    mem := MemSys.reset
    fabric := { Fabric.reset with dieLinks := s.fabric.dieLinks.map (fun x => (x.1, x.2.overReset)) }
    integ := { Integ.reset with captures := s.integ.captures }
    rst := { s.rst with cause := cause, subst := none, duration := 0, running := true } }
  let u := t.restoreWear
  u.setMem { u.mem with stk := s.mem.stk.map (fun x => (x.1, x.2.overReset)) }

/-- Every command of every stand discarded. -/
def State.discardStands (s : State) : State :=
  (List.range 64).foldl (fun t st => if (t.cfg st).enabled then t.discardAll st (t.stand st).inflight 7 else t) s

/-- CHIP_RESET: the phases of a decided chip reset up to the die phase; the milestones follow by their own commands. -/
def execChipReset (scan : List (Nat × Bool)) (s : State) : Host.Outcome State Fault Refusal :=
  .next (match s.rst.pendingCause with
    | some c => if s.alive ∧ !s.rst.running then ((s.discardStands.flushFlash).logicReset c).replaceDies scan else s
    | none => s)

/-! ### The boot-state record (spec/15 R379, R380) -/

/-- A firmware slot's SVN (R379). -/
def Flash.svn (f : Flash) (slot : Nat) : Nat := leNat (f.read (fwBase slot + 6) 2)

/-- The larger SVN of the two slots. -/
def Flash.largerSvn (f : Flash) : Nat := max (f.svn 0) (f.svn 1)

/-- The boot-state record as it is trusted: without identity it counts as absent. -/
def State.bootState (s : State) : Option BootState := if s.warden.identity then s.flash.boot else none

def State.floor (s : State) : Nat := match s.bootState with
  | some b => b.floor
  | none => s.flash.largerSvn

def BootState.fw (b : BootState) (slot : Nat) : SlotTrial := if slot = 0 then b.fwA else b.fwB
def BootState.imgSlot (b : BootState) (slot : Nat) : SlotTrial := if slot = 0 then b.imgA else b.imgB
def BootState.setFw (b : BootState) (slot : Nat) (x : SlotTrial) : BootState :=
  if slot = 0 then { b with fwA := x } else { b with fwB := x }
def BootState.setImg (b : BootState) (slot : Nat) (x : SlotTrial) : BootState :=
  if slot = 0 then { b with imgA := x } else { b with imgB := x }

/-- The record changed; an absent one begins with FLOOR as R379 takes it, and without identity none can be written. -/
def State.updateBoot (s : State) (f : BootState → BootState) : State :=
  if s.warden.identity then
    let b := s.bootState.getD ⟨s.floor, ⟨false, 0⟩, ⟨false, 0⟩, ⟨false, 0⟩, ⟨false, 0⟩⟩
    s.setFlash { s.flash with boot := some (f b) }
  else s

/-- A TRIAL slot with ATTEMPTS at 2 that still has its MAGIC (R380). -/
def State.spent (s : State) (base : Nat) (x : BootState → SlotTrial) : Bool :=
  match s.bootState with
  | some b => (x b).trial && decide (2 ≤ (x b).attempts) && decide (s.flash.magic base ≠ 0)
  | none => false

/-- A slot's MAGIC cleared. -/
def State.clearMagic (s : State) (base : Nat) : State := s.setFlash (s.flash.write base [0, 0, 0, 0])

/-- ATTEMPTS counts one more start of a TRIAL slot. -/
def SlotTrial.tried (x : SlotTrial) : SlotTrial := if x.trial then { x with attempts := x.attempts + 1 } else x

/-! ### Mask ROM (spec/14 R361, spec/15 R374, R375, R379, R380) -/

/-- Why a firmware slot does not start: 0 it does, 1 its signature, 2 its SVN, 3 no firmware lies in it. -/
def State.fwVerdict (s : State) (slot : Nat) (sig : Bool) : Nat :=
  let b := fwBase slot
  if s.flash.magic b ≠ 0x57465a57 ∨ s.flash.format b ≠ 1 then 3
  else if !sig then 1
  else if s.flash.svn slot < s.floor then 2 else 0

/-- A firmware slot tried: a spent TRIAL slot is rejected first; a slot that is refused is logged. -/
def State.tryFw (s : State) (slot : Nat) (sig : Bool) : State × Bool :=
  let t := if s.spent (fwBase slot) (·.fw slot) then
    ((s.clearMagic (fwBase slot)).countModule cWdnRollback).event 0x0003 slot 3 else s
  match t.fwVerdict slot sig with
  | 0 => (t.updateBoot (fun b => b.setFw slot (b.fw slot).tried), true)
  | 3 => (t, false)
  | k => (t.event 0x0003 slot k, false)

/-- Warden firmware starts from a slot: its deadline timer is armed (spec/13 R347), and T_WARDEN_MS is taken. -/
def State.startWarden (s : State) (slot : Nat) (fallback : Bool) : State :=
  (s.setWarden { s.warden with running := true, recovery := false, halted := false, deadline := some s.clock.now,
                                        fwSvn := s.flash.svn slot }).setBoot
    { s.boot with fwSlot := slot, fwFallback := fallback, tWarden := s.bootMs }

/-- The Warden that mask ROM starts, and whether the other can stand by (R374). -/
def State.chooseWarden (s : State) : State :=
  let out (k : Nat) : Bool := s.flash.retired.contains k
  let a := if out 0 && !out 1 then 1 else 0
  s.setWarden { s.warden with active := a, standby := if out (1 - a) then .retired else .ready }

/-- Identity reconstructed on attempt `puf`, 1 to 4, or not at all (R375). -/
def State.reconstruct (s : State) (puf : Nat) : State :=
  if 1 ≤ puf ∧ puf ≤ 4 then s.setWarden { s.warden with identity := true }
  else (s.setWarden { s.warden with identity := false }).event 0x0012 s.warden.active 4

/-- MASK_ROM_BOOT: `puf` is the attempt on which identity was reconstructed (any other number: none), `sigA` and `sigB` what the slots'
trailers hold. -/
def execMaskRomBoot (puf : Nat) (sigA sigB : SigRead) (s : State) : Host.Outcome State Fault Refusal :=
  .next (
    if !s.alive ∨ s.warden.running ∨ s.warden.halted then s
    else
      let t := s.chooseWarden.reconstruct puf
      let sig (k : Nat) : Bool := s.signedFor (fwBase k) .firmware (if k = 0 then sigA else sigB)
      let a := t.flash.firstOf fwBase
      let (u, ok) := t.tryFw a (sig a)
      if ok then u.startWarden a false
      else
        let (w, ok2) := (u.countModule cBootFwFallback).tryFw (1 - a) (sig (1 - a))
        if ok2 then w.startWarden (1 - a) true
        else w.setWarden { w.warden with recovery := true })

/-! ### The image (spec/14 R360, R361, R366) -/

/-- An image slot tried: its failure code, section and entry; a refused slot is logged. -/
def State.tryImage (s : State) (slot : Nat) (read sig : Bool) : State × Nat × Nat × Nat :=
  let t := if s.spent (imgBase slot) (·.imgSlot slot) then
    (s.clearMagic (imgBase slot)).countModule cWdnRollback else s
  let (code, sec, ent) := t.flash.verifyImage t.variant slot read sig
  if code = 0 then (t.updateBoot (fun b => b.setImg slot (b.imgSlot slot).tried), 0, 0, 0)
  else (t.event 0x0002 slot code, code, sec, ent)

/-- The predictors start from THERM_SEED (spec/16 R405). -/
def State.seedZones (s : State) : State :=
  (List.range s.variant.zones).foldl (fun t z =>
    let w : W64 := s.img.thermSeed.get 0 z
    t.setZone z { t.zone z with est := (((w.setWidth 16).toInt : Int) : Rat), samples := 0 }) s

/-- A verified image applied: every field marked "image" takes its value, the firmware slot is confirmed, and the milestone is
reached. -/
def State.applyImage (s : State) (slot : Nat) : State :=
  let base := imgBase slot
  let t := s.setImg ((s.flash.sections s.variant base).config s.variant)
  let t := t.setBoot { t.boot with
    imageVerified := true, tImage := t.bootMs, slot := slot, generation := BitVec.ofNat 32 (t.flash.generation base)
    ibdexVersion := leNat (t.flash.read (base + 26) 2) }
  (t.updateBoot (fun b => { b.setFw t.boot.fwSlot { b.fw t.boot.fwSlot with trial := false } with
    floor := max b.floor (t.flash.svn t.boot.fwSlot) })).seedZones

/-- IMAGE_VERIFY: `readA` and `readB` say that a slot reads without a flash error, `sigA` and `sigB` what its trailer holds, `missing`
names units not found, `scan` the dies' scan tests, and `library` what the cruise library's trailer holds (spec/11 R289). -/
def execImageVerify (readA readB : Bool) (sigA sigB : SigRead) (missing : List Nat) (scan : List (Nat × Bool)) (library : SigRead)
    (s : State) :
    Host.Outcome State Fault Refusal :=
  .next (
    if !s.alive ∨ !s.warden.running ∨ s.warden.halted ∨ s.boot.imageVerified ∨ s.power.cycleReq then s
    else
      let rd (k : Nat) : Bool := if k = 0 then readA else readB
      let sig (k : Nat) : Bool := s.signedFor (imgBase k) .image (if k = 0 then sigA else sigB)
      let a := s.flash.firstOf imgBase
      let done (u : State) (slot : Nat) : State :=
        let w := ((u.applyImage slot).missingUnits (missing ++ s.unpowered)).replaceDies scan
        (w.setWarden { w.warden with libraryOk := w.signedFor libBase .library library }).fabricCheck
      let (t, code, sec, ent) := s.tryImage a (rd a) (sig a)
      if code = 0 then done t a
      else
        let (u, code2, _, _) := t.tryImage (1 - a) (rd (1 - a)) (sig (1 - a))
        let u := u.countModule cBootImageFallback
        if code2 = 0 then done (u.setBoot { u.boot with imgFallback := true, failOther := code, section_ := sec, entry := ent })
          (1 - a)
        else u.requestCycle 3)

/-! ### Memory trained (spec/14 Table 14-1, spec/07 R179) -/

/-- Hard repair of a stack's rows for which its banks have resources left frees their directory entries. -/
def StackSt.hardRepair (x : StackSt) : StackSt :=
  let keep (p : (Nat × Nat) × Nat) : Bool :=
    decide (Config.hardRepairs ≤ ((x.rowDir.take p.2).filter (fun q => decide (q.1 = p.1.1))).length)
  { x with rowDir := (x.rowDir.zipIdx.filter keep).map Prod.fst }

/-- HBM_TRAINED: `failed` names stacks that failed training three times. At power-up memory holds +0 and hard repair is applied;
over a chip reset memory and its repairs stay. -/
def execHbmTrained (failed : List Nat) (s : State) : Host.Outcome State Fault Refusal :=
  .next (
    if !s.alive ∨ !s.boot.imageVerified ∨ s.boot.hbmTrained then s
    else
      let up := !s.rst.running
      let t := (List.range s.variant.stacks).foldl (fun u n =>
        let x := if up then (u.stack n).hardRepair else u.stack n
        u.setStack n { x with trained := !failed.contains n }) s
      let t := if up then t.setHbm Mem.empty else t
      if (List.range s.variant.stacks).any failed.contains then t.startFault 2
      else t.setBoot { t.boot with hbmTrained := true, tHbm := t.bootMs })

/-! ### Stands ready (spec/14 Table 14-1, R360) -/

/-- Gates, cores and recovery windows as the stands start. -/
def State.startStands (s : State) : State :=
  let gates (l : Nat) : Tab Gate := (List.range 66).map (fun g =>
    (g, { (s.land l).gates.get Gate.reset g with est := (s.img.gates.get GateCfg.unused (66 * l + g)).seed, samples := 0 }))
  let t := (List.range s.variant.landDies).foldl (fun u l => u.setLand l { u.land l with gates := gates l }) s
  let serving := (List.range 360).filter (fun c => s.dieInService (dieOfCore c))
  let t := (serving.filter (fun c => !(s.core c).serving)).foldl (fun u c =>
    u.setCore c { u.core c with lastCruise := s.opsec, overdue := 0, serving := true }) t
  (List.range 64).foldl (fun u st => if (s.cfg st).enabled then u.setStand st { u.stand st with recovery := true } else u) t

/-- Every port that is QUIET sends READY (spec/10 R252). -/
def State.portsReady (s : State) : State :=
  s.setFabric { s.fabric with ports := s.fabric.ports.map (fun p => (p.1, p.2.sendReady s.clock.now)) }

/-- The chip reset is over: GLB_RST_LAST gives its duration (spec/13 Table 13-8). -/
def RstMod.settled (r : RstMod) (now : W64) : RstMod :=
  if r.running then
    { r with duration := BitVec.ofNat 32 ((now.toNat - r.decidedAt.toNat) / 1000000), pendingCause := none, running := false }
  else r

/-- STANDS_READY: never while a start-up fault holds. -/
def execStandsReady (s : State) : Host.Outcome State Fault Refusal :=
  .next (
    if s.alive ∧ s.boot.imageVerified ∧ s.boot.hbmTrained ∧ s.boot.fabricReady ∧ s.boot.fault = 0 ∧ !s.boot.standsReady then
      let t := s.setBoot { s.boot with standsReady := true, tStands := s.bootMs }
      let t := t.startStands.portsReady
      let t := t.setPower { t.power with domains := t.power.domains.map (fun p => (p.1, { p.2 with left := false })) }
      let t := t.updateBoot (fun b => b.setImg t.boot.slot { b.imgSlot t.boot.slot with trial := false })
      (t.setRst (t.rst.settled t.clock.now)).rearm
    else s)

end Sys2Proof.Machine
end

