-- ==== Sys2Proof/Machine/Scaler.lean ====
section
/-! DEFINITION. The Scaler (spec/04 R102-R105, spec/11 R281-R288): checksums, thresholds, recompute and its outcomes, and
column remap. -/

namespace Sys2Proof.Machine

/-- One binary64 rounding (spec/11 R281, spec/04 R102). -/
def Val.r64 (v : Val) : Val := fAcc.decode (fAcc.encode v)

/-- A non-negative value rounded toward +∞ into binary32 (spec/11 R281). -/
def Val.up32 : Val → Val
  | .fin _ m e =>
    if m = 0 then Val.zero
    else
      let q := quantum m e 24 fFP32.qmin
      let (lo, r, _) := floorAt m e q
      let k := if r = 0 then lo else lo + 1
      if fFP32.aboveMax k q then .inf false else .fin false k q
  | v => v

/-- A binary32 sum in ascending order, each addition rounded to nearest (R102). -/
def sum32 : List Val → Val
  | [] => Val.zero
  | v :: vs => vs.foldl add32 v.r32

/-- A binary32 sum of magnitudes, each addition rounded toward +∞ (R281). -/
def sumUp (l : List Val) : Val := l.foldl (fun acc v => (acc.add v.abs).up32) Val.zero

/-- A binary64 sum in ascending order (R102). -/
def sum64 (l : List Val) : Val := l.foldl (fun acc v => (acc.add v).r64) Val.zero

/-- Checksum side: partial sums in binary32 over blocks of `blk` indices, each promoted into binary64 (R281); `fix` is the
other operand's element and `line` the 64 elements summed, for each k. -/
def checkSide (blk : Nat) (start : Val) (ks : List Nat) (fix : Nat → Val) (line : Nat → List Val) : Val :=
  (List.range (ceilDiv ks.length blk)).foldl (fun acc b =>
    let part := ((ks.drop (blk * b)).take blk).map (fun k => mul32 (fix k).r32 (sum32 (line k)))
    (acc.add (sum32 part)).r64) start

/-- The magnitude sum M (R281). -/
def checkMag (ks : List Nat) (fix : Nat → Val) (line : Nat → List Val) : Val :=
  ks.foldl (fun acc k => (acc.add (((fix k).abs.mul (sumUp (line k))).up32)).up32) Val.zero

/-- f of Table 11-3. -/
def profileF (profile : Nat) (fp8 : Bool) : Nat :=
  if profile = 1 then (if fp8 then 200 else 136) else (if fp8 then 224 else 160)

/-- R282: the residual of the data side against the checksum side lies above the threshold. -/
def overThreshold (f k : Nat) (data chk m : Val) : Bool :=
  let res := (data.sub chk).abs
  let t := ((Val.ofNat f).mul m).scale (-24) |>.add ((Val.ofNat (k + 64)).scale (-149))
  !res.nonFinite && !m.nonFinite && !data.nonFinite && !chk.nonFinite && t.lt res

/-- The command ran single-buffered on a logical core (R108), as its run noted. -/
def Cmd.single (c : Cmd) (r : Nat) : Bool := c.todo.contains r

/-- Rows and columns of C that a checked tile covers: first row, rows, first column, columns (R103). -/
def MatArgs.tileBox (a : MatArgs) (single : Bool) (t : TileCheck) : Nat × Nat × Nat × Nat :=
  match a.stat with
  | 0 => (blockLen single * t.mt, blockLen single, 64 * t.nt, 64)
  | 1 => (64 * t.mt, 64, 64 * t.nt, 64)
  | _ => (64 * t.mt, 64, blockLen single * t.nt, blockLen single)

/-- Stream slots that a piece of a tile takes. -/
def MatArgs.pieceSlots (a : MatArgs) (k0 k1 : Nat) : Nat := a.tileSlots k1 - a.tileSlots k0

/-- The tile is one that the command checks on its array (R98, R103): a piece of a C tile with outputs stationary, of at most
CHECK_INTERVAL × 1,024 stream slots, and one pass otherwise, which is never longer. -/
def MatArgs.tileOk (a : MatArgs) (interval : Nat) (single : Bool) (t : TileCheck) : Bool :=
  let (i0, _, j0, _) := a.tileBox single t
  a.selects t.core && decide (t.core < 4) && decide (t.array < 4) && decide (i0 < a.m) && decide (j0 < a.n) &&
    decide ((if a.stat = 2 then t.mt else t.nt) % 4 = t.array) && decide (t.k0 < t.k1) && decide (t.k1 ≤ a.k) &&
    (if a.stat = 1 then decide (t.k0 % a.rl = 0) && (decide (t.k1 % a.rl = 0) || decide (t.k1 = a.k)) &&
        decide (a.pieceSlots t.k0 t.k1 ≤ 1024 * interval)
     else decide (t.k0 % a.passK = 0) && decide (t.k1 = min (t.k0 + a.passK) a.k))

/-- The code that a deviation puts at a place of the tile, if one does. -/
def devAt (devs : List Deviation) (r c : Nat) : Option W64 :=
  (devs.find? (fun d => decide (d.row = r) && decide (d.col = c))).map (·.code)

/-- What the tile's checks compare (R102): the sum of the 64 accumulators across the tile against the checksum, for row `i`
of the tile (`isRow`) or for its column `i`. -/
def Cmd.tileLine (c : Cmd) (a : MatArgs) (m : Mem) (profile : Nat) (t : TileCheck) (devs : List Deviation) (isRow : Bool)
    (i : Nat) : Bool :=
  let (i0, _, j0, _) := a.tileBox (c.single t.core) t
  let place (x : Nat) : Nat × Nat := if isRow then (i0 + i, j0 + x) else (i0 + x, j0 + i)
  let inC (p : Nat × Nat) : Bool := decide (p.1 < a.m) && decide (p.2 < a.n)
  let acc (k x : Nat) : Val := if inC (place x) then c.matAcc a m t.core (place x).1 (place x).2 k else Val.zero
  let found (x : Nat) : Val := match (if isRow then devAt devs i x else devAt devs x i) with
    | some w => valAcc w
    | none => acc t.k1 x
  let ks := (List.range (t.k1 - t.k0)).map (t.k0 + ·)
  let vA (r k : Nat) : Val := if r < a.m then a.valA m r k else Val.zero
  let vB (k r : Nat) : Val := if r < a.n then a.valB m k r else Val.zero
  let fix (k : Nat) : Val := if isRow then vA (i0 + i) k else vB k (j0 + i)
  let line (k : Nat) : List Val := (List.range 64).map (fun x => if isRow then vB k (j0 + x) else vA (i0 + x) k)
  let start := sum64 ((List.range 64).map (acc t.k0))
  let chk := match (if isRow then devAt devs i 64 else devAt devs 128 i) with
    | some w => valAcc w
    | none => checkSide a.passK start ks fix line
  overThreshold (profileF profile a.fp8) (t.k1 - t.k0) (sum64 ((List.range 64).map found)) chk (checkMag ks fix line)

/-- The Scaler's verdict on a checked tile (R102, R282, R283): a line of it lies above the threshold, or the column sums read
back differ. -/
def Cmd.tileMismatch (c : Cmd) (a : MatArgs) (m : Mem) (profile : Nat) (t : TileCheck) (devs : List Deviation) : Bool :=
  let (_, rows, _, cols) := a.tileBox (c.single t.core) t
  (decide (a.stat ≠ 1) && devs.any (fun d => decide (d.row = 129))) ||
    (decide (a.stat ≠ 2) && (List.range rows).any (c.tileLine a m profile t devs true)) ||
    (decide (a.stat ≠ 0) && (List.range cols).any (c.tileLine a m profile t devs false))

/-- The deviations that a tile's accumulators keep, as faults of the command. -/
def Cmd.faultsOf (c : Cmd) (a : MatArgs) (t : TileCheck) (devs : List Deviation) : List AccFault :=
  let (i0, rows, j0, cols) := a.tileBox (c.single t.core) t
  (devs.filter (fun d => decide (d.row < rows) && decide (d.col < cols) && decide (i0 + d.row < a.m) &&
    decide (j0 + d.col < a.n))).map (fun d => ⟨t.core, i0 + d.row, j0 + d.col, t.k1, d.code⟩)

/-- The result of one core stored again with the faults that stand (Table 4-6). -/
def State.storeFaults (s : State) (st : Nat) (c : Cmd) (r : Nat) : State :=
  let a := matArgs c.bytes
  match (s.standCluster st a.cluster).bind (fun px => s.physCore px r) with
  | some pc => s.putProduct st c a r pc (c.matResult a (s.core pc).spad r) false
  | none => s

/-- A product of a stand that runs, with its physical core for a logical one. -/
def State.matRunning (s : State) (st t r : Nat) : Option (Cmd × Nat) :=
  if !s.alive || !(s.cfg st).enabled then none
  else match (s.stand st).cmd t with
    | some c =>
      if (c.opcode = 1 ∨ c.opcode = 2) ∧ c.stage = .running then
        ((s.standCluster st (matArgs c.bytes).cluster).bind (fun px => s.physCore px r)).map (fun pc => (c, pc))
      else none
    | none => none

/-- The end of a checked tile (R103): a mismatch is counted and awaits its recompute; what escapes the checks stays in the
result. Without a fault no check reports one (R284). -/
def execScalerCheck (stand ticket : Nat) (tile : TileCheck) (s : State) : Host.Outcome State Fault Refusal :=
  .next (match s.matRunning stand ticket tile.core with
    | none => s
    | some (c, pc) =>
      let a := matArgs c.bytes
      if tile.devs = [] ∨ !a.tileOk s.img.checkInterval (c.single tile.core) tile then s
      else if c.tileMismatch a (s.core pc).spad s.img.thrProfile tile tile.devs then
        let f : TileFault := { stand := stand, ticket := ticket, core := pc, tile := tile }
        ((s.setInteg { s.integ with tiles := s.integ.tiles ++ [f] }).setCmd stand { c with mism := sat16 (c.mism + 1) }).countStand
          stand cMatScalerMismatch
      else
        let d := { c with accFaults := c.accFaults ++ c.faultsOf a tile tile.devs }
        (s.setCmd stand d).storeFaults stand d tile.core)

/-! ### The recompute (R104, Table 4-6, spec/11 R285, R288) -/

/-- The deviations that differ from what fault-free cells give: what two computations of a tile are compared by. -/
def Cmd.realDevs (c : Cmd) (a : MatArgs) (m : Mem) (t : TileCheck) (devs : List Deviation) : List Deviation :=
  let (i0, rows, j0, cols) := a.tileBox (c.single t.core) t
  devs.filter (fun d =>
    !(decide (d.row < rows) && decide (d.col < cols)) ||
      decide ((c.matAcc a m t.core (i0 + d.row) (j0 + d.col) t.k1).codeAcc ≠ d.code))

/-- The differences between two sets of deviations. -/
def devsDiffer (xs ys : List Deviation) : List Deviation :=
  xs.filter (fun d => !ys.contains d) ++ ys.filter (fun d => !xs.contains d)

/-- The physical column of an array in which a deviation lies, the checksum column being 64; a fault of the checksum row or
of the read-back lies in none (R286). -/
def devColumn (stat : Nat) (d : Deviation) : Option Nat :=
  if stat = 2 then (if d.row = 128 then some 64 else if d.row < 64 then some d.row else none)
  else if d.row < 128 ∧ d.col ≤ 64 then some d.col else none

/-- The column of the first differing element, row by row (R286). -/
def firstColumn (stat : Nat) (ds : List Deviation) : Option Nat :=
  match ds with
  | [] => none
  | d :: rest => devColumn stat (rest.foldl (fun a b => if b.row < a.row ∨ (b.row = a.row ∧ b.col < a.col) then b else a) d)

/-- The bytes of an operand's words that a box of its elements rests on, in rising order of address. -/
def Desc.boxBytes (d : Desc) (m : Mem) (r0 nr c0 nc : Nat) : List Byte :=
  let ws := (((List.range nr).flatMap fun r => (List.range nc).flatMap fun c =>
    if r0 + r < d.e1 ∧ c0 + c < d.e0 then (d.elemBytes (c0 + c) (r0 + r) 0 0).map (fun o => (d.addr + o) / 16) else []).dedup
    ).mergeSort
  ws.flatMap (fun w => m.readN (16 * w) 16)

/-- A capture of a tile (spec/11 R288). -/
def State.captureOf (s : State) (c : Cmd) (f : TileFault) (orig rec : List Deviation) : Capture :=
  let a := matArgs c.bytes
  let m := (s.core f.core).spad
  let t := f.tile
  let (i0, rows, j0, cols) := a.tileBox (c.single t.core) t
  let box (g : Nat → Nat → W64) : List W64 := (List.range rows).flatMap fun i => (List.range cols).map fun j => g i j
  let val (devs : List Deviation) (i j : Nat) : W64 :=
    (devAt devs i j).getD (if i0 + i < a.m ∧ j0 + j < a.n then (c.matAcc a m t.core (i0 + i) (j0 + j) t.k1).codeAcc else 0)
  { stand := f.stand, body := c.bytes.drop 16, array := 4 * f.core + t.array
    aBytes := if a.ta then a.descA.boxBytes m t.k0 (t.k1 - t.k0) i0 rows else a.descA.boxBytes m i0 rows t.k0 (t.k1 - t.k0)
    bBytes := if a.tb then a.descB.boxBytes m j0 cols t.k0 (t.k1 - t.k0) else a.descB.boxBytes m t.k0 (t.k1 - t.k0) j0 cols
    kept := if a.accIn then box (fun i j => (c.matStart t.core (i0 + i) (j0 + j)).codeAcc) else []
    original := box (val orig), recomputed := box (val rec) }

/-- Stream slots that a recompute of a tile adds (R104).  'From the tile's first k' is read as the checked piece's: its slots alone are
counted, at least the 64 of a load (DESIGN CHOICE, log entry 85); the C tile's k = 0 would add those of the pieces before it. -/
def MatArgs.recomputeSlots (a : MatArgs) (single : Bool) (t : TileCheck) : Nat :=
  if a.stat = 1 then max (a.tileSlots (t.k1 - t.k0)) 64
  else if a.stat = 0 then max (min (blockLen single) (a.m - blockLen single * t.mt)) 64
  else max (min (blockLen single) (a.n - blockLen single * t.nt)) 64

/-- A recompute's outcome classified (Table 4-6, spec/11 Table 11-4). -/
def State.judgeTile (s : State) (c : Cmd) (f : TileFault) (orig rec : List Deviation) (own : Bool) : State :=
  let a := matArgs c.bytes
  let t := f.tile
  let ds := devsDiffer orig rec
  let g := 4 * f.core + t.array
  if ds = [] then
    let d := { c with accFaults := c.accFaults ++ c.faultsOf a t orig }
    ((s.setCmd f.stand d).storeFaults f.stand d t.core).alarmArray f.stand c.ticket g (s.captureOf c f orig rec)
  else
    let d := { (c.withStatus (if own then 0x0111 else 0x0110)) with accFaults := c.accFaults ++ c.faultsOf a t rec }
    let u := ((s.setCmd f.stand d).storeFaults f.stand d t.core).markCmd f.stand c (if own then 2 else 1)
    if own then u.confirmShared f.stand c.ticket f.core
    else u.confirmCaptured f.stand c.ticket g (firstColumn a.stat ds) (s.captureOf c f orig rec)

/-- The recompute of the oldest mismatched tile of a product on the neighbouring array (R104): `devs` is what that array's
cells left. -/
def execRecompute (stand ticket : Nat) (devs : List Deviation) (s : State) : Host.Outcome State Fault Refusal :=
  .next (match s.integ.tiles.find? (fun f => decide (f.stand = stand) && decide (f.ticket = ticket)) with
    | none => s
    | some f =>
      match s.matRunning stand ticket f.tile.core with
      | none => s
      | some (c, pc) =>
        let a := matArgs c.bytes
        let m := (s.core pc).spad
        let own := c.tileMismatch a m s.img.thrProfile f.tile devs
        let d := { c with mism := sat16 (c.mism + (if own then 1 else 0)), recomp := sat16 (c.recomp + 1) }
        let t := (s.setInteg { s.integ with tiles := s.integ.tiles.erase f }).setCmd stand d
        let t := (t.countStand stand cMatRecomputes).count (kStand stand cMatScalerMismatch) (if own then 1 else 0)
        let t := t.setCounters (t.counters.addUnits (kStand stand cMatStream4k) 4096
          (a.recomputeSlots (c.single f.tile.core) f.tile))
        t.judgeTile d f (c.realDevs a m f.tile f.tile.devs) (c.realDevs a m f.tile devs) own)

/-! ### Column remap (R105, spec/11 R286) -/

/-- A command of a core's engines: the arrays, the vector unit, the Batten engine or a tap. -/
def Cmd.onCore (c : Cmd) : Bool := (classOf c.opcode).any (fun k => decide (k ≤ 2))

/-- The commands of a core that are in flight: those of its engines that select the logical number it answers. -/
def State.coreCmds (s : State) (c : Nat) : List (Nat × Cmd) :=
  match s.clusterOwner (c / 5), (s.core c).logical with
  | some st, some r => ((s.stand st).inflight.filter (fun d => d.onCore && decide (s.standCluster st d.clusterField = some (c / 5)) &&
      bit (fld d.bytes 17 1) r)).map (fun d => (st, d))
  | _, _ => []

/-- The core holds no command in flight (R105). -/
def State.coreIdle (s : State) (c : Nat) : Bool := (s.coreCmds c).isEmpty

/-- A core is between commands (R101): none of its commands has begun and not ended, and no product of its cluster has a tile to
recompute (spec/11 Table 11-7).  A command that still waits in a queue does not hold a handover back. -/
def State.coreBetween (s : State) (c : Nat) : Bool :=
  (s.coreCmds c).all (fun d => decide (d.2.stage ≠ .running)) && !s.integ.tiles.any (fun f => decide (f.core / 5 = c / 5))

/-- An array's failing column remapped to its spare column: its two faults no longer count (R286). -/
def execColumnRemap (array column : Nat) (s : State) : Host.Outcome State Fault Refusal :=
  let x := s.array array
  .next (if s.alive ∧ s.warden.running ∧ !s.warden.halted ∧ s.remapColumn array = some column ∧ s.coreIdle (array / 4) then
    ((s.setArray array { x with column := column, remapped := true, faults := x.faults.drop 2 }).countModule
      cIntColumnRemapped).wear 0x03 0 array column
    else s)

end Sys2Proof.Machine
end

