-- ==== Sys2Proof/Machine/Cruise.lean ====
section
/-! DEFINITION. Lane faults, core handovers, cruise, SRAM scrub and the wear ledger (spec/05 R128, spec/08 R189, spec/11
R285-R297). -/

namespace Sys2Proof.Machine

/-! ### Lanes (spec/05 R128, spec/08 R189) -/

/-- The re-execution agrees: the unit's mismatch counts (R128). -/
def State.laneCleared (s : State) (u : LaneUnit) (lane st : Nat) : State :=
  let t := s.countStand st u.counter
  match u.core? with
  | some c => t.setCore c { t.core c with lastLane := u.laneNo lane }
  | none => t

/-- The re-execution mismatches again: the fault is confirmed against the core or the landing engine (R128, spec/11 Table
11-4). -/
def State.laneConfirmed (s : State) (u : LaneUnit) (lane st : Nat) (c : Cmd) : State :=
  let t := s.markCmd st c 3
  match u with
  | .landing d e =>
    ((t.countStand st cLaneConfirmed).countStand st cIntFaultConfirmed).wear 0x02 1 (1024 + 16 * d + e) lane
  | .vector k => t.confirmLane st c.ticket k (u.laneNo lane)
  | .batten k => t.confirmLane st c.ticket k (u.laneNo lane)
  | .tap k => t.confirmLane st c.ticket k (u.laneNo lane)

/-- The primary lane's value, where it has one, noted for the write (R128). -/
def Cmd.withLane (c : Cmd) (u : LaneUnit) (p : LanePlace × BitVec 128) : Cmd :=
  { c with laneFaults := ⟨u.core?.getD 0, p.1, p.2⟩ :: c.laneFaults }

/-- A lane and its shadow disagree, and the group is executed again (R128, R189): `again` says that it disagrees again, and gives the
primary lane's value, which is then written, and its place.  MISMATCH of the payload gives lane mismatches (spec/05 R126), so a second
one counts too (DEDUCED, log entry 27). -/
def execLaneReexecution (unit : LaneUnit) (lane : Nat) (again : Option (LanePlace × BitVec 128)) (stand ticket : Nat) (s : State) :
    Host.Outcome State Fault Refusal :=
  .next (match (s.stand stand).cmd ticket with
    | none => s
    | some c =>
      if !s.laneAt unit stand c then s
      else
        let d := { c with mism := sat16 (c.mism + (if again.isSome then 2 else 1)), recomp := sat16 (c.recomp + 1) }
        match again with
        | some p => ((s.setCmd stand ((d.withLane unit p).withStatus 0x0120)).laneConfirmed unit lane stand c)
        | none => (s.setCmd stand d).laneCleared unit lane stand)

/-! ### Handovers (spec/04 R101, spec/11 R287, R291) -/

/-- The core that the spare of a cluster is to stand in for under a logical number: retired, or out for cruise. -/
def State.awaitsSpare (s : State) (px r : Nat) : Option Nat :=
  ((List.range 4).map (5 * px + ·)).find? (fun c => decide ((s.core c).logical = some r) &&
    (((s.core c).retired && (s.cluster px).coppiced) || ((s.core c).cruise && s.integ.cruise.isSome)))

/-- A handover to the spare (`toSpare`), or back from it once a cruise run has ended, between commands of the logical core
(R101). -/
def State.tryHandover (s : State) (px r : Nat) (toSpare : Bool) : State :=
  let spare := 5 * px + 4
  if toSpare then
    match s.awaitsSpare px r with
    | some c => if (s.core spare).logical.isNone ∧ !(s.core spare).retired ∧ s.coreBetween c then s.handover c spare else s
    | none => s
  else
    let c := 5 * px + r
    if r < 4 ∧ (s.core c).cruise ∧ s.integ.cruise = none ∧ s.coreBetween spare then s.cruiseBack px else s

/-- A core's contents change over between commands of its logical core (R101). -/
def execCoreHandover (cluster logical : Nat) (toSpare : Bool) (s : State) : Host.Outcome State Fault Refusal :=
  .next (if s.alive then s.tryHandover cluster logical toSpare else s)

/-! ### Cruise (spec/11 R289-R293) -/

/-- The thermal zone of a physical cluster (spec/01 R27): a spare die has joined the zone of the die that it replaces. -/
def State.clusterZone (s : State) (px : Nat) : Nat := s.dieIdentity (px / 4) / 2

/-- Something that a cruise step of a cluster waits for (R292). -/
def State.cruiseWaits (s : State) (px : Nat) : Bool :=
  decide ((s.zone (s.clusterZone px)).step ≥ 2) || s.integ.tiles.any (fun f => decide (f.core / 5 = px)) ||
    s.integ.retiring.any (fun r => decide (r.2.2.1 / 5 = px)) ||
    (match s.clusterOwner px with
     | some st => (s.stand st).rst.active.any (fun r => decide (r.rung ≥ 3))
     | none => false)

/-- The hourly step of a cluster (R290-R292): the next core in rotation goes out, and the spare stands in for it as soon as
the core is between commands. -/
def execCruiseStep (cluster : Nat) (s : State) : Host.Outcome State Fault Refusal :=
  let n := (s.cluster cluster).rotation
  let c := 5 * cluster + n
  .next (if s.alive ∧ s.warden.libraryOk ∧ cluster < 72 ∧ s.dieInService (cluster / 4) ∧ s.integ.cruise = none ∧
      s.spareFree cluster ∧ (s.core (5 * cluster + 4)).logical = none ∧ !s.cruiseWaits cluster then
    let t := s.setCluster cluster { s.cluster cluster with rotation := (n + 1) % 5 }
    let t := (t.setCore c { t.core c with cruise := true }).setInteg { t.integ with cruise := some ⟨cluster, n⟩ }
    if n < 4 then t.tryHandover cluster n true else t
  else s)

/-- The run in progress has the core under test to itself. -/
def State.cruiseRuns (s : State) (r : CruiseRun) : Bool := (s.core (5 * r.cluster + r.core)).logical.isNone

/-- A cruise run ends (R291): the core is counted, and returns or is retired.  A run that has failed while the active Warden is halted
has ended: its core waits to be retired (Table 11-7). -/
def execCruiseRunEnd (passed : Bool) (s : State) : Host.Outcome State Fault Refusal :=
  .next (match s.integ.cruise with
    | none => s
    | some r =>
      let c := 5 * r.cluster + r.core
      if !s.alive || !s.cruiseRuns r || s.integ.decided.any (fun d => decide (d.1 = c)) then s
      else
        let t := s.count (kCore c cIntCruiseRuns) 1
        if passed then
          let t := (t.setCore c { t.core c with lastCruise := s.opsec, overdue := 0 }).setInteg { t.integ with cruise := none }
          if r.core < 4 then t.tryHandover r.cluster r.core false else t.setCore c { t.core c with cruise := false }
        else (t.count (kCore c cIntCruiseFail) 1).retireCore c 2)

/-- Operating seconds at which the core becomes overdue, or is so for one more hour (R292). -/
def CoreSt.overdueAt (x : CoreSt) : Nat := x.lastCruise.toNat + 3600 * (6 + x.overdue)

/-- A core passes 6 h without a run, or one more hour (R292). -/
def execCruiseOverdue (core : Nat) (s : State) : Host.Outcome State Fault Refusal :=
  let x := s.core core
  .next (if s.alive ∧ core < 360 ∧ s.dieInService (core / 20) ∧ x.serving ∧ !x.retired ∧ x.overdueAt ≤ s.opsec.toNat then
    let t := (s.setCore core { x with overdue := x.overdue + 1 }).countModule cIntCruiseOverdue
    if x.overdue = 0 ∧ !s.spareFree (core / 5) then t.markDie (core / 20) else t
  else s)

/-- A landing engine goes out for its scan test, or the test ends (R293): a failing engine is retired. The patterns are those of the
library, which is used only where it has verified (R289). -/
def execLandingCruise (die engine : Nat) (passed : Option Bool) (s : State) : Host.Outcome State Fault Refusal :=
  let x := s.land die
  .next (if !s.alive || decide (s.variant.landDies ≤ die) || decide (16 ≤ engine) then s
    else match passed with
    | none => if s.warden.libraryOk ∧ x.cruise = [] ∧ !x.retired.contains engine then s.setLand die { x with cruise := [engine] } else s
    | some ok =>
      if !x.cruise.contains engine then s
      else
        let t := s.count (kDie (dieOfLanding die) cDieCruiseRuns) 1
        if ok then t.setLand die { x with cruise := [] }
        else (t.setLand die { x with cruise := [], retired := x.retired ++ [engine] }).wear 0x0c 2 (16 * die + engine) 0)

/-! ### SRAM scrub (spec/11 R295) -/

/-- The cluster of a store, and the number of one of its macros among all the cluster's. -/
def SramStore.place (x : SramStore) (m : Nat) : Nat × Nat :=
  match x with
  | .cluster px => (px, m % 256)
  | .scratchpad c => (c / 5, 256 * (1 + c % 5) + m % 256)
  | .batten c => (c / 5, 256 * (6 + c % 5) + m % 256)

def SramStore.core? : SramStore → Option Nat
  | .cluster _ => none
  | .scratchpad c => some c
  | .batten c => some c

/-- Words of a store: 2 MiB, 256 KiB, 12 MiB. -/
def SramStore.words : SramStore → Nat
  | .cluster _ => 786432
  | .scratchpad _ => 131072
  | .batten _ => 16384

def State.sram (s : State) : SramStore → Mem
  | .cluster px => (s.cluster px).scratch
  | .scratchpad c => (s.core c).spad
  | .batten c => (s.core c).batten

def State.setSram (s : State) (x : SramStore) (m : Mem) : State :=
  match x with
  | .cluster px => s.setCluster px { s.cluster px with scratch := m }
  | .scratchpad c => s.setSpad c m
  | .batten c => s.setCore c { s.core c with batten := m }

def State.sramRows (s : State) (p : Nat × Nat) : SramRows := (s.cluster p.1).rows.get SramRows.reset p.2
def State.setSramRows (s : State) (p : Nat × Nat) (r : SramRows) : State :=
  s.setCluster p.1 { s.cluster p.1 with rows := (s.cluster p.1).rows.set p.2 r }

/-- The other words of a row that hold a correctable error, by the store's layout (spec/11 R295). -/
def State.rowWords (s : State) (x : SramStore) (macro_ row w : Nat) : List Nat :=
  ((s.sram x).diff.map Prod.fst).filter (fun v => decide (v ≠ w) && decide (Config.sramPlace x.words v = (macro_, row)))

/-- A row's words copied to its spare row with their corrections (R295). -/
def State.copyRow (s : State) (x : SramStore) (macro_ row w : Nat) : State :=
  s.setSram x ((s.rowWords x macro_ row w).foldl Mem.correctWord (s.sram x))

/-- A row fault: one of the macro's four spare rows takes the row's words with their corrections, or else the core is retired or the die
marked (R295, Table 11-5). -/
def State.rowFault (s : State) (x : SramStore) (p : Nat × Nat) (macro_ row w : Nat) : State :=
  let r := s.sramRows p
  if r.spared.length < 4 then
    let t := ((s.copyRow x macro_ row w).setSramRows p { r with spared := r.spared ++ [row % 65536] }).wear 0x08 3
      (match x.core? with | some c => c | none => 1024 + p.1) (65536 * p.2 + row % 65536)
    match x.core? with
    | some c => t.count (kCore c cIntSramRowSpared) 1
    | none => t
  else match x.core? with
    | some c => s.retireCore c 3
    | none => s.markDie (dieOfCluster p.1)

/-- SRAM scrub reads one word (R295): a correction is written back, an uncorrectable word becomes its poison code, and a
word that needs correction again or cannot be corrected is a row fault. A poisoned word of a row already replaced is not a
fault of the spare row. -/
def State.scrubWord (s : State) (x : SramStore) (w macro_ row : Nat) : State :=
  let p := x.place macro_
  let m := s.sram x
  let r := s.sramRows p
  match m.check w with
  | .clean => s
  | .corrected _ _ =>
    let t := (s.setSram x (m.correctWord w)).count
      (match x.core? with | some c => kCore c cIntSramCorrected | none => kDie (dieOfCluster p.1) cDieScratchCorrected) 1
    if r.scrubbed.contains w then (t.setSramRows p { r with scrubbed := r.scrubbed.erase w }).rowFault x p macro_ row w
    else t.setSramRows p { r with scrubbed := w :: r.scrubbed }
  | .uncorrectable =>
    let t := match x.core? with
      | some c => s.count (kCore c cIntSramUncorrectable) 1
      | none => s
    let t := t.setSram x (m.poison w)
    if m.isPoison w ∧ r.spared.contains (row % 65536) then t else t.rowFault x p macro_ row w

/-- SRAM scrub reads a word of a store; `macro_` and `row` say where the word lies, which the specification leaves to the
layout of the SRAM. -/
def execSramScrub (store : SramStore) (word macro_ row : Nat) (s : State) : Host.Outcome State Fault Refusal :=
  .next (if s.alive ∧ word < store.words ∧ (store.place macro_).1 < 72 then s.scrubWord store word macro_ row else s)

/-! ### Captures and the wear ledger (spec/11 R288, R297) -/

/-- A capture copied into the library supplement, which keeps the eight most recent (R288). -/
def execCaptureCopy (index : Nat) (s : State) : Host.Outcome State Fault Refusal :=
  .next (match (if s.alive && s.warden.running then s.integ.captures[index]? else none) with
    | none => s
    | some x =>
      if s.flash.supplement.contains x then s
      else s.setFlash { s.flash with supplement := (x :: s.flash.supplement).take 8 })

/-- Entries that the flash region holds (R297: room for at least 32,768). -/
def ledgerRoom : Nat := 32768

/-- The oldest pending entry reaches the flash, if the region has room (R297). -/
def execWearLedgerWrite (s : State) : Host.Outcome State Fault Refusal :=
  .next (match s.integ.pending with
    | [] => s
    | e :: es =>
      if !s.alive || !s.warden.running || decide (ledgerRoom ≤ s.flash.wear.length) then s
      else ((s.setInteg { s.integ with pending := es }).setFlash
        { s.flash with wear := s.flash.wear ++ [e] }).countModule cIntLedgerWrites)

/-- Entries that a compaction keeps: all but alarms and confirmed faults older than 24 h of operating time (R297). -/
def State.keepsEntry (s : State) (e : WearEntry) : Bool :=
  !(decide (e.kind = 0x01) || decide (e.kind = 0x02)) || s.recent e.opsec

/-- A full ledger is compacted (R297). -/
def execLedgerCompact (s : State) : Host.Outcome State Fault Refusal :=
  .next (if s.alive ∧ s.warden.running ∧ ledgerRoom ≤ s.flash.wear.length then
    (s.setFlash { s.flash with wear := s.flash.wear.filter s.keepsEntry }).countModule cIntLedgerCompact
  else s)

end Sys2Proof.Machine
end

