-- ==== Sys2Proof/Machine/Flits.lean ====
section
/-! DEFINITION. Flits: what a port receives and what its egress arbiter sends (spec/10 R254-R262). -/

namespace Sys2Proof.Machine

/-! ### Reading a flit (R254, R255) -/

/-- A word of 16 data bytes and two check symbols as R166 delivers it: its data, and whether it was corrected; `none` where it is
uncorrectable. -/
def readWord (w : List Byte) : Option (List Byte × Bool) :=
  if w.length ≠ 18 then none
  else
    let d := w.take 16
    match checkWord (chkXor (w.getD 16 0, w.getD 17 0) (chkOf 0 d)) with
    | .clean => some (d, false)
    | .corrected i x => some ((if 2 ≤ i then d.set (i - 2) (d.getD (i - 2) 0 ^^^ x) else d), true)
    | .uncorrectable => none

/-- The header fields of a flit (Table 10-4). -/
structure FlitHead where
  type : Nat
  seq : Nat
  ack : Nat
  ackValid : Bool
  vc : Nat
  start : Nat
  crVc : Nat
  crCount : Nat
  bseq : Nat
  deriving DecidableEq, Repr

def flitHead (w : List Byte) : FlitHead :=
  let n := leNat w
  { type := bits n 3 0, seq := bits n 15 4, ack := bits n 27 16, ackValid := bit n 28, vc := bits n 30 29, start := bits n 35 32
    crVc := bits n 37 36, crCount := bits n 47 38, bseq := bits n 63 48 }

/-- A word of 16 data bytes as it is sent, with its check symbols; `diff` is their difference from the encoding (spec/01 R20). -/
def flashWord (d : List Byte) (diff : Byte × Byte) : List Byte :=
  let c := chkXor (chkOf 0 d) diff
  d ++ [c.1, c.2]

/-- The first eight bytes of a flit's header. -/
def FlitHead.bytes (h : FlitHead) : List Byte :=
  natLe 8 (h.type % 16 + h.seq % 4096 * 2 ^ 4 + h.ack % 4096 * 2 ^ 16 + (if h.ackValid then 2 ^ 28 else 0) + h.vc % 4 * 2 ^ 29 +
    h.start % 16 * 2 ^ 32 + h.crVc % 4 * 2 ^ 36 + h.crCount % 1024 * 2 ^ 38 + h.bseq % 65536 * 2 ^ 48)

/-- The 16 words of a flit: its header with the CRC over it and over the body's data, and the body, whose words have their check symbols
(R254). -/
def flitWords (h : FlitHead) (body : List (List Byte)) : List (List Byte) :=
  flashWord (h.bytes ++ natLe 4 (crc32c (h.bytes ++ body.flatMap (·.take 16))).toNat ++ natLe 4 0) (0, 0) :: body

/-- A body of zeros: an IDLE flit's and a NAK's. -/
def zeroBody : List (List Byte) := List.replicate 15 (flashWord (List.replicate 16 0) (0, 0))

/-- A CTRL message's subtype, in R254's order, and its arguments. -/
def CtrlMsg.parts : CtrlMsg → Nat × Nat × Nat
  | .hello d q => (0, d.toNat, q)
  | .ready => (1, 0, 0)
  | .subst l => (2, l, 0)
  | .degrade m => (3, m, 0)
  | .lock t => (4, t.toNat, 0)

/-- A CTRL flit's body. -/
def CtrlMsg.body (c : CtrlMsg) : List (List Byte) :=
  (wordsOf 15 ((Config.ctrlBody c.parts.1 c.parts.2.1 c.parts.2.2 ++ List.replicate 240 0).take 240)).map (flashWord · (0, 0))

/-- The CRC of a flit's words agrees. -/
def crcOk (ws : List (List Byte)) : Bool :=
  match ws with
  | h :: body => decide (fld h 8 4 = (crc32c (h.take 8 ++ body.flatten)).toNat)
  | [] => false

/-- What a receiver makes of a flit's words apart from its SEQ: header and body, or bad; and how many words were corrected. -/
def readFlit (words : List (List Byte)) : Option (FlitHead × List (List Byte)) × Nat :=
  let rs := words.map readWord
  let n := (rs.filter (fun r => match r with | some (_, c) => c | none => false)).length
  let ws := rs.filterMap (fun r => r.map Prod.fst)
  if words.length = 16 ∧ rs.all Option.isSome ∧ crcOk ws ∧ (flitHead (ws.headD [])).type ≤ 3 then
    (some (flitHead (ws.headD []), ws.drop 1), n)
  else (none, n)

/-! ### The stream of a channel (R254, R263) -/

/-- The transactions whole in a stream that begins with one, and what is left of it: an all-zero word where a transaction would
begin ends the flit's content. -/
def streamTxns : Nat → List Byte → List Txn × List Byte
  | 0, b => ([], b)
  | f + 1, b =>
    if b.length < 16 ∨ (b.take 16).all (· = 0) then ([], [])
    else
      let n := 16 * (1 + bodyWords (b.take 16))
      if b.length < n then ([], b)
      else
        let h := b.take 16
        let m := if bodyWords h = bits (leNat h) 112 104 then 0 else 16
        let t := Txn.parse h ((b.drop 16).take m) ((b.drop (16 + m)).take (n - 16 - m))
        let (ts, r) := streamTxns f (b.drop n)
        (t :: ts, r)

/-- A transaction meets its destination stand's fence of its source; none is met in transit, by HEARTBEAT or by TIME (R272, R273). -/
def State.meetsFence (s : State) (t : Txn) : Bool :=
  s.isMine t && decide (t.ttype ≠ 5) && decide (t.ttype ≠ 6) && s.fenced t.dstand t.src

/-- A transaction received whole: buffered for its unit, or dropped at once (R263, R272); `fenced` says that its first flit met a
fence. -/
def State.accept (s : State) (p : Nat) (y : RxTxn) (fenced : Bool) : State :=
  if !y.txn.wellFormed then s.countModule cCskBadTxn
  else if fenced then s.countStand y.txn.dstand cCskFenceDropped
  else s.setPort p { s.port p with rxq := (s.port p).rxq ++ [y] }

/-- A DATA flit's body taken in order: the flit is number `num` of port `p` and crossed the PMA at `time`; its stream is kept at port
`q`. Its credit goes back once no transaction that it brought a part of is in a buffer (R258). -/
def State.takeBody (s : State) (p q vc start : Nat) (body : List (List Byte)) (num : Nat) (time : W64) : State :=
  let part := (s.port q).rxPart.get RxPart.none vc
  let raw := body.flatten
  let buf := if part.bytes.isEmpty then (if start = 0 then [] else raw.drop (16 * (start - 1))) else part.bytes ++ raw
  let (ts, rest) := streamTxns (buf.length / 16 + 1) buf
  let goesOn (i : Nat) : Bool := decide (i = 0) && !part.bytes.isEmpty
  let refs (i : Nat) : List (Nat × Nat) := if goesOn i then part.refs ++ [(p, num)] else [(p, num)]
  let fenced (i : Nat) (t : Txn) : Bool := if goesOn i then part.fenced else s.meetsFence t
  let left : RxPart := if rest.isEmpty then RxPart.none
    else ⟨rest, refs ts.length, fenced ts.length (Txn.parse (rest.take 16) [] [])⟩
  let t := s.setPort q { s.port q with rxPart := (s.port q).rxPart.set vc left }
  (ts.zipIdx.foldl (fun u k => u.accept p ⟨vc, refs k.2, k.1, time⟩ (fenced k.2 k.1)) t).freeFlits vc (part.refs ++ [(p, num)])

/-- Flits of a bond passed on in BSEQ order, as far as they have come (R261). -/
def State.drainBond (s : State) (b : Nat) : Nat → State
  | 0 => s
  | f + 1 =>
    let x := s.bond b
    match x.held.find? (fun h => decide (h.bseq = x.rxBseq)) with
    | none => s
    | some h => ((s.setBond b { x with rxBseq := (x.rxBseq + 1) % 65536, held := x.held.filter (fun k => decide (k.bseq ≠ x.rxBseq))
        }).takeBody h.port (s.bondCfg b).firstPort h.vc h.start h.words h.num h.time).drainBond b f

/-- A good DATA flit delivered: on a bond in BSEQ order, once (R262). -/
def State.takeData (s : State) (p : Nat) (h : FlitHead) (body : List (List Byte)) : State :=
  let num := (s.port p).rxCount
  let s := (s.setCounters (s.counters.addUnits (kPort p cCskRxFlits4k) 4096 1)).setPort p { s.port p with rxCount := num + 1 }
  match s.bondOf p with
  | none => s.takeBody p p h.vc h.start body num s.clock.now
  | some b =>
    let x := s.bond b
    let ahead := (h.bseq + 65536 - x.rxBseq) % 65536
    if 32768 ≤ ahead ∨ x.held.any (fun k => decide (k.bseq = h.bseq)) then
      (s.oweCredit p h.vc).count (kBond b cCskDuplicate) 1
    else
      (s.setBond b { x with held := x.held ++ [⟨h.bseq, p, h.vc, h.start, body, num, s.clock.now⟩] }).drainBond b (x.held.length + 1)

/-- The channel whose credits a flit returns, its header naming one: of those owed the most the lowest (DESIGN CHOICE 91). -/
def PortSt.creditVc (x : PortSt) : Nat := [1, 2, 3].foldl (fun a vc => if x.owed.get 0 a < x.owed.get 0 vc then vc else a) 0

/-- A header as it leaves: with the acknowledgement and the credits that are due then (Table 10-4). -/
def PortSt.fillHead (x : PortSt) (h : FlitHead) : FlitHead :=
  { h with ack := (x.rxSeq + 4095) % 4096, ackValid := x.rxSome || decide (h.type = 2), crVc := x.creditVc
           crCount := min 1023 (x.owed.get 0 x.creditVc) }

/-- A flit sent, each word on its lane. -/
def State.putFlit (s : State) (p : Nat) (h : FlitHead) (body : List (List Byte)) : State :=
  let x := s.port p
  let g := x.fillHead h
  (s.setPort p { x with owed := x.owed.upd 0 g.crVc (· - g.crCount) }).send
    (.flit p ((flitWords g body).zipIdx.map (fun w => (x.txLane (s.portCfg p) w.2, w.1))))

/-- The header of a flit that has no SEQ: IDLE (0) or NAK (2). -/
def plainHead (type : Nat) : FlitHead := ⟨type, 0, 0, false, 0, 0, 0, 0, 0⟩

/-- A bad flit: counted, and answered by one NAK after a good one (R255, R256). -/
def State.badFlit (s : State) (p : Nat) : State :=
  let x := s.port p
  let t := s.count (kPort p cCskFlitBad) 1
  if x.nakSent then t else (t.setPort p { x with nakSent := true }).putFlit p (plainHead 2) zeroBody

/-- A good flit's acknowledgement and credits. -/
def PortSt.goodHead (x : PortSt) (h : FlitHead) : PortSt :=
  let y := { x with nakSent := false, credits := if h.crCount = 0 then x.credits else x.credits.upd 0 h.crVc (· + h.crCount) }
  if h.ackValid then y.acked h.ack else y

/-- FLIT_RECEIVE (R255): a flit, and how many codewords the port's lanes have corrected and found uncorrectable since the last one,
without those that a LANE_FAILING tells of. A NAK's and a CTRL flit's own effects have commands of their own. -/
def execFlitReceive (port : Nat) (flit : RxFlit) (s : State) : Host.Outcome State Fault Refusal :=
  .next (
    let x := s.port port
    if s.alive ∧ x.talks then
      let (r, n) := readFlit flit.words
      let t := ((s.count (kPort port cCskFecCorrectedCw) flit.corrected).count (kPort port cCskFecUncorrectableCw) flit.uncorrectable).count
        (kPort port cCskWordCorrected) n
      match r with
      | none => t.badFlit port
      | some (h, body) =>
        if (h.type = 1 ∨ h.type = 3) ∧ h.seq ≠ x.rxSeq then t.badFlit port
        else
          let y := x.goodHead h
          let y := if h.type = 1 ∨ h.type = 3 then { y with rxSeq := (x.rxSeq + 1) % 4096, rxSome := true } else y
          let u := t.setPort port y
          if h.type = 1 then u.takeData port h body else u
    else s)

/-! ### Sending (R256, R258, R259) -/

/-- The port sends a channel's flits now: QUIET ports carry the heartbeat and time channel alone. -/
def PortSt.mayCarry (x : PortSt) (vc : Nat) : Bool := x.up && (decide (x.mode ≠ .quiet) || decide (vc = 3))

/-- A channel's participants with words waiting, from the one after the last served. -/
def PortSt.waiting (x : PortSt) (vc : Nat) : List Nat :=
  let last := x.lastSrc.get 64 vc
  ((List.range 65).map (fun i => (last + 1 + i) % 65)).filter (fun k => x.txq.get [] (65 * vc + k) ≠ [])

/-- The participant whose turn it is: the one whose transaction runs on, or the next round-robin. -/
def PortSt.nextSrc (x : PortSt) (vc : Nat) : Option Nat :=
  match x.carryOn.get none vc with
  | some k => if x.txq.get [] (65 * vc + k) ≠ [] then some k else none
  | none => (x.waiting vc).head?

/-- The words of a participant's next flit: at most 15, and none of a further transaction while another participant waits. -/
def PortSt.flitWords (x : PortSt) (vc k : Nat) : List TxWord :=
  let q := (x.txq.get [] (65 * vc + k)).take 15
  if (x.waiting vc).all (fun j => decide (j = k)) then q
  else match q with
    | [] => []
    | w :: ws => w :: ws.takeWhile (fun v => !v.start)

/-- Which channel sends, of those that have words and credit (R259). -/
def PortSt.pickVc (x : PortSt) (ok : Nat → Bool) (wColl wBulk : Nat) : Option (Nat × PortSt) :=
  if ok 3 then some (3, x)
  else if ok 0 then some (0, x)
  else if ok 1 && ok 2 then
    let full := wColl ≤ x.turn1 && wBulk ≤ x.turn2
    let y := if full then { x with turn1 := 0, turn2 := 0 } else x
    if y.turn1 < wColl then some (1, { y with turn1 := y.turn1 + 1 }) else some (2, { y with turn2 := y.turn2 + 1 })
  else if ok 1 then some (1, x)
  else if ok 2 then some (2, x)
  else none

/-- START of a body: the first word where a transaction begins. -/
def startOf (ws : List TxWord) : Nat :=
  match ws.zipIdx.find? (fun p => p.1.start) with
  | some p => p.2 + 1
  | none => 0

/-- The header of a flit of the retry buffer. -/
def RetryFlit.head (f : RetryFlit) : FlitHead :=
  { plainHead (if f.ctrl.isSome then 3 else 1) with seq := f.seq, vc := f.vc.getD 0, start := f.start, bseq := f.bseq }

/-- A flit given its SEQ and sent, kept for retry. -/
def State.sendFlit (s : State) (p : Nat) (f : RetryFlit) : State :=
  let x := s.port p
  let g := { f with seq := x.txSeq, sends := 1, sentAt := s.clock.now }
  (s.setPort p { x with txSeq := (x.txSeq + 1) % 4096, retry := x.retry ++ [g] }).putFlit p g.head g.words

/-- A flit of the retry buffer sent again, with the acknowledgement and the credits of now; it is no further DATA flit of
CSK_TX_FLITS_4K (DEDUCED: CSK_REPLAYS counts it). -/
def State.sendAgain (s : State) (p seq : Nat) : State :=
  let x := s.port p
  let t := s.setPort p { x with
    replayq := x.replayq.drop 1
    retry := x.retry.map (fun f =>
      if f.seq = seq then { f with sends := if x.substPending then f.sends else f.sends + 1, sentAt := s.clock.now } else f) }
  match x.retry.find? (fun f => decide (f.seq = seq)) with
  | some f => (t.count (kPort p cCskReplays) 1).putFlit p f.head f.words
  | none => t

/-- The stream that a port sends from: its own, or its bond's, at the bond's first port. -/
def State.streamPort (s : State) (p : Nat) : Nat :=
  match s.bondOf p with
  | some b => (s.bondCfg b).firstPort
  | none => p

/-- It is this port's turn in its bond: bond sequence q goes on the q-th port that is up, while the bond is locked (R261). -/
def State.bondTurn (s : State) (p : Nat) : Bool :=
  match s.bondOf p with
  | none => true
  | some b =>
    let ups := s.bondUp b
    (s.bond b).locked && !ups.isEmpty && decide (ups[(s.bond b).txBseq % ups.length]? = some p)

/-- A bond's flit to be sent again, if this port can take it; an unlocked bond holds its traffic (R261). -/
def State.resendOne (s : State) (p : Nat) : Option State :=
  match s.bondOf p with
  | none => none
  | some b =>
    match (s.bond b).resend with
    | [] => none
    | f :: fs =>
      let x := s.port p
      match f.vc with
      | some vc =>
        if x.up && (s.bond b).locked && decide (0 < x.credits.get 0 vc) then
          let t := (s.setBond b { s.bond b with resend := fs }).setPort p { x with credits := x.credits.upd 0 vc (· - 1) }
          some ((t.setCounters (t.counters.addUnits (kPort p cCskTxFlits4k) 4096 1)).sendFlit p f)
        else none
      | none => none

/-- A word as it leaves: what it takes from the time base stands in it (R270). A flit sent again keeps its first stamp (DESIGN CHOICE
91). -/
def TxWord.stamped (w : TxWord) (now : W64) : List Byte :=
  match w.stamp with
  | .none => w.data
  | .t1 _ => natLe 16 now.toNat
  | .t3 => w.data.take 8 ++ natLe 8 now.toNat

/-- The t1 of the TIME requests that leave with words. -/
def stampedReqs (ws : List TxWord) (now : W64) : List (Nat × W64) :=
  ws.filterMap (fun w => match w.stamp with | .t1 tag => some (tag, now) | _ => none)

/-- A new DATA flit of a channel, from the stream kept at port `q`. -/
def State.sendData (s : State) (p q vc k : Nat) : State :=
  let y := s.port q
  let ws := y.flitWords vc k
  let key := 65 * vc + k
  let left := (y.txq.get [] key).drop ws.length
  let on := match left with
    | w :: _ => if w.start then none else some k
    | [] => none
  let s := s.setPort q { y with
    txq := y.txq.upd [] key (fun _ => left), lastSrc := y.lastSrc.upd 64 vc (fun _ => k), carryOn := y.carryOn.upd none vc (fun _ => on) }
  let bseq := match s.bondOf p with
    | some b => (s.bond b).txBseq
    | none => 0
  let s := match s.bondOf p with
    | some b => s.setBond b { s.bond b with txBseq := (bseq + 1) % 65536 }
    | none => s
  let x := s.port p
  let t := s.setPort p { x with credits := x.credits.upd 0 vc (· - 1) }
  let c := (t.counters.addUnits (kPort p cCskTxFlits4k) 4096 1)
  let c := if k = 64 then c.addUnits (kPort p cCskTransitFlits4k) 4096 1 else c
  ((t.setCounters c).setFabric { t.fabric with timeReqs := t.fabric.timeReqs ++ stampedReqs ws t.clock.now }).sendFlit p
    { seq := 0, vc := some vc, ctrl := none, bseq := bseq, start := startOf ws
      words := ws.map (fun w => flashWord ((w.stamped t.clock.now ++ List.replicate 16 0).take 16) w.diff) ++
        zeroBody.drop ws.length
      sends := 0, owners := (ws.map TxWord.owner).dedup, sentAt := t.clock.now }

/-- One flit's worth of sending: replays, CTRL, a bond's repeats, then DATA, and IDLE where no other flit is ready (R254, R259). -/
def State.sendNext (s : State) (p : Nat) : State :=
  let x := s.port p
  match x.replayq with
  | seq :: _ => s.sendAgain p seq
  | [] =>
    let idle := s.putFlit p (plainHead 0) zeroBody
    if 1024 ≤ x.retry.length then idle
    else match x.ctrlq with
      | c :: cs => (s.setPort p { x with ctrlq := cs }).sendFlit p
          { seq := 0, vc := none, ctrl := some c, bseq := 0, start := 0, words := c.body, sends := 0, owners := [],
            sentAt := s.clock.now }
      | [] => match s.resendOne p with
        | some t => t
        | none =>
          let q := s.streamPort p
          let y := s.port q
          let ok (vc : Nat) : Bool := x.mayCarry vc && s.bondTurn p && decide (0 < x.credits.get 0 vc) && (y.nextSrc vc).isSome
          match y.pickVc ok s.img.wColl s.img.wBulk with
          | none => idle
          | some (vc, y') => match y'.nextSrc vc with
            | none => idle
            | some k => (s.setPort q y').sendData p q vc k

/-- EGRESS_ARBITRATE (R259): the port's next flit. -/
def execEgressArbitrate (port : Nat) (s : State) : Host.Outcome State Fault Refusal :=
  .next (if s.alive ∧ (s.port port).talks then s.sendNext port else s)

/-- A DATA flit is ready on the port and has no credit of its channel (R253, Table 10-16). -/
def State.creditWaits (s : State) (p : Nat) : Bool :=
  let x := s.port p
  (List.range 4).any (fun vc => x.mayCarry vc && s.bondTurn p && decide (x.credits.get 0 vc = 0) &&
    ((s.port (s.streamPort p)).nextSrc vc).isSome)

end Sys2Proof.Machine
end

