-- ==== Sys2Proof/Machine/DieLinks.lean ====
section
/-! DEFINITION. Die links (spec/01 R17-R19, R22, Table 1-3). -/

namespace Sys2Proof.Machine

/-- The flit's path leads over the link by which a port's die receives (R19). -/
def State.onPath (s : State) (die port : Nat) (f : DieFlit) : Bool :=
  match dieLinkPeer die port, s.diePath f.src f.dst f.page with
  | some a, some p => hop a die p
  | _, _ => false

/-- The flit whose turn it is on a link: round-robin between stands, one flit per turn, the module's own traffic after stand 63 (R22). -/
def nextFlit (last : Nat) (fs : List DieFlit) : Option DieFlit :=
  ((List.range 65).map (fun i => (last + 1 + i) % 65)).findSome? (fun st => fs.find? (fun f => decide (f.stand = st)))

/-- A flit received whole: at its end it is delivered, and a transit die passes it on unaltered (R19, R20). -/
def State.takeFlit (s : State) (die port : Nat) (f : DieFlit) : State :=
  let x := s.dieLink die port
  if f.dst = die then s.setDieLink die port { x with delivered := x.delivered + 1 }
  else match (s.diePath f.src f.dst f.page).bind (afterDie die) with
    | some n => s.send (.dieForward die n f.words)
    | none => s

/-- DIE_LINK_FLIT: of the flits that wait to cross the link toward a port, the one whose turn it is crosses it, is checked on receipt,
and is delivered, passed on, or asked for again (R18-R20, R22). -/
def execDieLinkFlit (die port : Nat) (waiting : List DieFlit) (checkOk : Bool) (s : State) : Host.Outcome State Fault Refusal :=
  .next (match (if s.alive && s.dieLinkOn die port then
      nextFlit (s.dieLink die port).turn (waiting.filter (s.onPath die port)) else none) with
    | none => s
    | some f =>
      let rs := f.words.map readWord
      let n := (rs.filter (fun r => match r with | some (_, c) => c | none => false)).length
      let t := (s.setDieLink die port { s.dieLink die port with turn := f.stand }).count (kDie die cDlkWordCorrected) n
      if checkOk && rs.all Option.isSome then t.takeFlit die port f
      else ((t.setDieLink die port { t.dieLink die port with retried := (s.dieLink die port).retried + 1 }).count
        (kDie die cDlkFlitRetry) 1).send (.dieRetry die port))

/-- The compute die that a port toward a landing die belongs to. -/
def computeEnd (d port : Nat) : Option Nat :=
  if d < 18 ∧ port < 8 then some d else if 18 ≤ d ∧ d < 26 ∧ port < 18 then some port else none

/-- DIE_LINK_LANE_FAIL: a spare lane stands in for the first two lanes of a port that fail, and a third leaves it at reduced width until
the next chip reset takes it out (R18, spec/11 R296).  A lane that has failed already fails no more. -/
def execDieLinkLaneFail (die port lane : Nat) (s : State) : Host.Outcome State Fault Refusal :=
  .next (if s.alive ∧ s.dieLinkOn die port ∧ lane < 34 ∧ !(s.dieLink die port).failedLanes.contains lane then
    let x := (s.dieLink die port).failLane lane
    let n := x.failedLanes.length
    let t := (s.setDieLink die port { x with reduced := x.reduced || decide (3 ≤ n) }).wear 0x0b 4 (32 * die + port) lane
    if n ≤ 2 then t.count (kDie die cDlkLaneSubst) 1
    else match computeEnd die port with
      | some c => if n = 3 then t.markDie c else t
      | none => t
  else s)

end Sys2Proof.Machine
end

