-- ==== Sys2Proof/Machine/Issue.lean ====
section
/-! DEFINITION. The head of a chute: refusals, issue, the commands that the front end handles itself, completion, and the
re-issue of logged commands (spec/02 R46-R53, R417; spec/12 R303-R309, R316). -/

namespace Sys2Proof.Machine

/-! ### The issue checks (spec/02 R46) -/

/-- The check of an EVENT's body (Table 2-13). -/
def checkEvent (p : List Byte) : Option W16 :=
  if decide (fld p 16 1 = 0) || decide (4 < fld p 16 1) || decide (fld p 17 1 ≠ 0) || !isZeroRange p 24 40 then some 1
  else none

/-- The checks of an opcode's own chapter, the body's reserved fields first. -/
def State.checkOp (s : State) (st : Nat) (p : List Byte) : Option W16 :=
  let ctx := bits (fld p 4 1) 3 0
  match fld p 0 1 with
  | 0x01 | 0x02 => s.checkMat st p
  | 0x08 => s.checkVec st p
  | 0x09 => s.checkRow st p
  | 0x10 | 0x11 | 0x12 | 0x13 => s.checkSkid st p
  | 0x20 => s.checkOptim st p
  | 0x21 => s.checkAccum st p
  | 0x22 => s.checkSweep st p
  | 0x23 => s.checkDigest st p
  | 0x30 | 0x31 => s.checkRed st p
  | 0x32 => s.checkPermute st p
  | 0x33 => s.checkLoad st p
  | 0x40 => s.checkStepBegin st p
  | 0x41 => s.checkStepEnd st p
  | 0x42 => s.checkCommit st p
  | 0x43 => s.checkCheckpoint st ctx p
  | 0x44 => s.checkRestore st ctx p
  | 0x48 => s.checkFencePeer st p
  | 0x49 => s.checkReadmit st p
  | 0x50 => checkEvent p
  | _ => none

/-- A step-control opcode, which belongs to no step (spec/12 R303). -/
def stepControl (op : Nat) : Bool := decide (0x40 ≤ op) && decide (op ≤ 0x49)

/-- A command with LOG set, where no step can record it (spec/12 R309). -/
def StepSt.logFail (x : StepSt) (p : List Byte) : Option W16 :=
  if !bit (fld p 1 1) 2 || stepControl (fld p 0 1) then none
  else if x.halted then some 0x01f5
  else if x.openStep.isNone then some 0x01f4
  else none

/-- The issue checks: MALFORMED, then R309, then the others. -/
def State.issueCheck (s : State) (st : Nat) (p : List Byte) : Option W16 :=
  match s.checkOp st p with
  | some v => if v = 1 then some 1 else some (((s.stand st).steps.logFail p).getD v)
  | none => (s.stand st).steps.logFail p

/-! ### Refusal (spec/02 R46, R50, R417) -/

/-- The counters of a refusal by its status (Tables 2-19, 3-6 and 7-14). -/
def refusalCounters (v : W16) : List Nat :=
  (if v = 0x0003 then [cCmdRefusedAbsent] else [cCmdRefused]) ++
    (if v = 0x01f0 ∨ v = 0x01f1 then [cFmtFormatRefused] else if v = 0x01f2 then [cFmtPartialBlock]
      else if v = 0x0005 then [cMemRegionFault] else [])

/-- The head packet refused into slot `n`: no work, no signal, and its result names the status. -/
def State.refuseHead (s : State) (st n : Nat) (p : Packet) (v : W16) : State :=
  ((refusalCounters v).foldl (fun t k => t.countStand st k)
    ((s.setStand st ((s.stand st).reserve n)).writeSlot st n p.link p.bytes v [])).popHead st

/-- The stand's front end is at work. -/
def State.fronts (s : State) (st : Nat) : Bool := s.alive && (s.cfg st).enabled

/-- HEADER_REFUSAL: the head packet failed a header check; it takes a free slot and does not wait on its WAIT condition. -/
def execHeaderRefusal (stand : Nat) (s : State) : Host.Outcome State Fault Refusal :=
  .next (
    let x := s.stand stand
    match x.chute.packets, x.freeSlot with
    | p :: _, some n => if s.fronts stand ∧ p.verdict ≠ 0 then s.refuseHead stand n p p.verdict else s
    | _, _ => s)

/-! ### Conditions of issue (spec/02 R47) -/

/-- Nothing stops issue from the chute: no rollback or replay is in progress, and none was cut short (spec/12 R315-R317). -/
def StepSt.issueOpen (x : StepSt) : Bool := x.rollback.isNone && !x.inReplay && !x.stopped

/-- The queue of an opcode's engine class has room (R47); an opcode without an engine class takes no room. -/
def StandSt.queueRoom (x : StandSt) (p : List Byte) : Bool :=
  match classOf (fld p 0 1) with
  | none => true
  | some k => (decide (k = 2) && decide (fld p 18 1 = 1)) || decide ((x.inflight.filter (fun d =>
      decide (d.stage = .queued) && !d.isTap && decide (classOf d.opcode = some k))).length < 32)

/-- A new command in flight, from its packet. -/
def StandSt.newCmd (x : StandSt) (bytes : List Byte) (link : LinkId) (slot : Option Nat) (inst : W32) : Cmd :=
  { ticket := x.nextTicket, bytes := bytes, link := link, slot := slot, replay := false, inst := inst
    step := if stepControl (fld bytes 0 1) then none else x.steps.openStep
    seeds := x.steps.last.getD (0, 0, 0), stage := .queued, statuses := [], tStart := 0, stream := 0, mism := 0, recomp := 0
    pay := [], todo := [], accFaults := [], laneFaults := [], keptIn := [], fetched := [], lost := [] }

/-- A command must wait for an earlier OWNER_LOAD of a table that it names (spec/09 R222, R240). -/
def State.tableWaits (s : State) (st : Nat) (c : Cmd) : Bool :=
  let g := s.cfg st
  (s.stand st).inflight.any (fun d => decide (d.opcode = 0x33) && (
    let a := loadArgs d.bytes
    if a.kind then c.namesMember a.table
    else c.namesOwner a.table || (g.spillValid && decide (a.table = g.spill) && c.namesOwner g.act)))

/-- The room that R47 and the owning chapters ask for beside a result slot: the engine's queue, the tables, and a tap (spec/05
R122). -/
def State.roomFor (s : State) (st : Nat) (c : Cmd) : Bool :=
  (s.stand st).queueRoom c.bytes && !s.tableWaits st c && (!c.isTap || s.tapRoom st c.bytes)

/-- An EVENT or NOP with RPT clear, which takes no slot where it passes every check (R50). -/
def slotless (p : List Byte) : Bool := (decide (fld p 0 1 = 0x50) || decide (fld p 0 1 = 0x52)) && !bit (fld p 1 1) 3

/-- The head packet, where everything that R47 asks for holds but a slot. -/
def State.issuable (s : State) (st : Nat) : Option Packet :=
  let x := s.stand st
  match x.chute.packets with
  | p :: _ =>
    if s.fronts st && decide (p.verdict = 0) && !x.headDiscarded && x.steps.issueOpen &&
      (!bit (fld p.bytes 1 1) 0 || x.waitHolds p.bytes) && s.roomFor st (x.newCmd p.bytes p.link none 0) then some p
    else none
  | [] => none

/-! ### Issue -/

/-- The member table whose next instance number a command takes (spec/09 R223). -/
def instTable (p : List Byte) : Option Nat :=
  if fld p 0 1 = 0x31 then some (redArgs p).mtab else if fld p 0 1 = 0x32 then some (permArgs p).mtab else none

/-- The instance number that a command takes, and the tables with it taken. -/
def StandSt.takeInst (x : StandSt) (p : List Byte) : W32 × Tab MemberTab :=
  match instTable p with
  | some m => ((x.mtabs.get MemberTab.reset m).inst, x.mtabs.upd MemberTab.reset m (fun t => { t with inst := t.inst + 1 }))
  | none => (0, x.mtabs)

/-- A COMMIT has issued: steps are counted afresh, and a restored step has its COMMIT (spec/12 R305, R322). -/
def StepSt.commitIssued (x : StepSt) (p : List Byte) : StepSt :=
  { x with
    opened := 0
    restored := x.restored.map (fun r => { r with issued := r.issued || decide (r.step = (commitArgs p).step) }) }

/-- A command passes its checks and leaves the chute: it takes its slot, its ticket and its instance, is counted, and is
recorded where LOG is set (R47, spec/12 R306). -/
def State.issue (s : State) (st : Nat) (p : Packet) (slot : Option Nat) : State × Cmd :=
  let x := s.stand st
  let (inst, tabs) := x.takeInst p.bytes
  let c := x.newCmd p.bytes p.link slot inst
  let y := match slot with
    | some n => x.reserve n
    | none => x
  let t := ((s.setStand st { y with nextTicket := x.nextTicket + 1, mtabs := tabs }).countStand st cCmdIssued).popHead st
  (match c.step with
   | some n => if c.logged then t.recordCmd st n ⟨p.bytes, p.link⟩ else t
   | none => t, c)

/-- What an EVENT does (Table 2-13). -/
def StandSt.eventOp (x : StandSt) (p : List Byte) : StandSt :=
  let e := fld p 18 1
  let w := fld p 19 1
  let v := fmtAt p 20
  match fld p 16 1 with
  | 1 => { x with evt := x.evt.upd 0 e (· + v) }
  | 2 => { x with evt := x.evt.set e v }
  | 3 => { x with wait := x.wait.set w v }
  | 4 => { x with wait := x.wait.set w (x.evt.get 0 e + v) }
  | _ => x

/-- What an issued command does at once: EVENT, RESULT, NOP and STEP_BEGIN complete; a tap is armed; every other command is in
flight. -/
def State.afterIssue (s : State) (st : Nat) (c : Cmd) : State :=
  let p := c.bytes
  let add (t : State) (d : Cmd) : State := let x := t.stand st
    t.setStand st { x with inflight := x.inflight ++ [d] }
  match c.opcode with
  | 0x50 => (s.setStand st ((s.stand st).eventOp p)).finish st c []
  | 0x51 => s.finish st c ((p.drop 16).take 48)
  | 0x52 => s.finish st c []
  | 0x40 => (s.stepBegin st p).finish st c (timed s.clock.now s.clock.now [])
  | 0x41 => (add s { c with stage := .running, tStart := s.clock.now }).stepEnd st c.ticket
  | 0x42 => (add s c).setSteps st (fun x => x.commitIssued p)
  | _ =>
    let d := { c with stage := .running, tStart := s.clock.now }
    if c.isTap then (add s d).armTap st d else add s c

/-- The head command refused, where its checks say so; issued where it has a slot, or needs none. -/
def State.issueHead (s : State) (st : Nat) (p : Packet) : State :=
  let x := s.stand st
  match s.issueCheck st p.bytes, x.freeSlot with
  | some v, some n => s.refuseHead st n p v
  | none, slot =>
    if (slot.isNone && !slotless p.bytes) || (decide (fld p.bytes 0 1 = 0x40) && s.stepBeginWaits st) then s
    else let (t, c) := s.issue st p (if slotless p.bytes then none else slot); t.afterIssue st c
  | some _, none => s

/-- The head issued or refused, where its opcode is among those of the row. -/
def State.tryIssue (s : State) (st : Nat) (row : Nat → Bool) : State :=
  match s.issuable st with
  | some p => if row (fld p.bytes 0 1) then s.issueHead st p else s
  | none => s

/-- The opcodes whose issue has a row of its own. -/
def ownRow (op : Nat) : Bool := [0x40, 0x41, 0x50, 0x51, 0x52].contains op

/-- COMMAND_ISSUE: a head command of the other opcodes. -/
def execCommandIssue (stand : Nat) (s : State) : Host.Outcome State Fault Refusal :=
  .next (s.tryIssue stand (fun o => !ownRow o))

/-- STEP_BEGIN at the head (spec/12 R305). -/
def execStepBegin (stand : Nat) (s : State) : Host.Outcome State Fault Refusal :=
  .next (s.tryIssue stand (fun o => decide (o = 0x40)))

/-- STEP_END at the head (spec/12 R303). -/
def execStepEnd (stand : Nat) (s : State) : Host.Outcome State Fault Refusal :=
  .next (s.tryIssue stand (fun o => decide (o = 0x41)))

/-- EVENT at the head (R48). -/
def execEvent (stand : Nat) (s : State) : Host.Outcome State Fault Refusal :=
  .next (s.tryIssue stand (fun o => decide (o = 0x50)))

/-- RESULT at the head (R53). -/
def execResult (stand : Nat) (s : State) : Host.Outcome State Fault Refusal :=
  .next (s.tryIssue stand (fun o => decide (o = 0x51)))

/-- NOP at the head (R53). -/
def execNop (stand : Nat) (s : State) : Host.Outcome State Fault Refusal :=
  .next (s.tryIssue stand (fun o => decide (o = 0x52)))

/-! ### Completion (spec/02 R48-R50) -/

/-- The payload of a completed command: Table 4-9 for the arrays, the vector unit and the Batten engine, with WAITED a free value;
T_START, T_END and what the engine left for Tables 6-6, 8-7 and 9-11; what the engine left for the others. -/
def State.payload (s : State) (c : Cmd) : List Byte :=
  let op := c.opcode
  if op = 1 ∨ op = 2 ∨ op = 8 ∨ op = 9 then
    timed c.tStart s.clock.now (natLe 4 c.stream ++ natLe 4 (Config.freeW32 s.freeCtr).toNat ++ natLe 2 (sat16 c.mism) ++
      natLe 2 (sat16 c.recomp))
  else if (0x10 ≤ op ∧ op ≤ 0x13) ∨ (0x20 ≤ op ∧ op ≤ 0x22) ∨ (0x30 ≤ op ∧ op ≤ 0x32) then
    timed c.tStart s.clock.now c.pay
  else c.pay

/-- The Skidder commands of one cluster complete in queue order (spec/06 R144). -/
def StandSt.skidBefore (x : StandSt) (c : Cmd) : Bool :=
  decide (classOf c.opcode = some 3) && x.inflight.any (fun d => decide (d.ticket < c.ticket) &&
    decide (classOf d.opcode = some 3) && decide (d.clusterField = c.clusterField))

/-- Every part of a command has completed (R48): a product has no mismatch to settle and owes no tap a tile. -/
def State.partsDone (s : State) (st : Nat) (c : Cmd) : Bool :=
  (c.ended && !(s.stand st).skidBefore c) || ((decide (c.opcode = 1) || decide (c.opcode = 2)) && decide (c.stage = .running) &&
    !s.integ.tiles.any (fun f => decide (f.stand = st) && decide (f.ticket = c.ticket)) && !s.tapsOwed st c)

/-- The counters that the end of a command increments: its opcode's, and those of a late refusal. -/
def State.countEnd (s : State) (st : Nat) (c : Cmd) : State :=
  (if c.refusedLate then refusalCounters c.status else []).foldl (fun t k => t.countStand st k) (s.countDone st c.opcode)

/-- A command whose parts have completed: its counters, its slot, its signal, the retirements that waited for it, and the steps
that it leaves without commands. -/
def State.complete (s : State) (st : Nat) (c : Cmd) : State :=
  ((((s.countEnd st c).finish st c (s.payload c)).tookFree).retireNow st c.ticket).applySteps st

/-- COMMAND_COMPLETE: a command whose last part has completed; one that a context reset is waiting for is abandoned. -/
def execCommandComplete (stand ticket : Nat) (s : State) : Host.Outcome State Fault Refusal :=
  .next (match (s.stand stand).cmd ticket with
    | some c =>
      if !s.fronts stand then s
      else if (s.stand stand).hung ticket then s.abandon stand ticket
      else if s.partsDone stand c then s.complete stand c
      else s
    | none => s)

/-! ### Replay (spec/12 R309, R316) -/

/-- EVENT, RESULT and NOP are not re-issued (R309). -/
def LoggedCmd.live (k : LoggedCmd) : Bool := decide (fld k.bytes 0 1 < 0x50)

/-- The replay moved on to the next command that it re-issues, at or after command `i` of the first step; a step passed is
counted, the OPEN one apart, and past the last issue from the chute resumes. -/
def State.replaySeek (s : State) (st : Nat) (r : Replay) : List W64 → Nat → State
  | [], _ => s.setSteps st (fun x => { x with replay := some { r with steps := [], next := 0 }, stopped := false })
  | n :: rest, i =>
    match (s.stand st).steps.rec_ n with
    | some q =>
      match (q.cmds.drop i).findIdx? LoggedCmd.live with
      | some k => s.setSteps st (fun x => { x with replay := some { r with steps := n :: rest, next := i + k } })
      | none => (s.count (kStand st cDckReplayedSteps) (if q.mode = .isOpen then 0 else 1)).replaySeek st r rest 0
    | none => s.replaySeek st r rest 0

/-- A logged command re-issued: with its recorded packet, its step and that step's seeds, and no result slot. -/
def State.reissue (s : State) (st : Nat) (q : StepRec) (k : LoggedCmd) : State :=
  let x := s.stand st
  let (inst, tabs) := x.takeInst k.bytes
  let c := { x.newCmd k.bytes k.link none inst with replay := true, step := some q.step, seeds := (q.rseed, q.dseed, q.step) }
  let t := s.setStand st { x with nextTicket := x.nextTicket + 1, mtabs := tabs }
  t.afterIssue st c

/-- The wait condition of a logged command holds on the replay's own counters. -/
def Replay.waitHolds (r : Replay) (p : List Byte) : Bool :=
  decide ((r.evt.get 0 (fld p 6 1) - r.wait.get 0 (fld p 7 1)).toNat < 2 ^ 31)

/-- The next logged command, where R47's conditions hold for it; one that fails an issue check now is passed over. -/
def State.replayNext (s : State) (st : Nat) (r : Replay) (q : StepRec) (k : LoggedCmd) : State :=
  let x := s.stand st
  if (bit (fld k.bytes 1 1) 0 && !r.waitHolds k.bytes) || !s.roomFor st (x.newCmd k.bytes k.link none 0) then s
  else
    let t := if (s.checkOp st k.bytes).isSome then s else s.reissue st q k
    t.replaySeek st r r.steps (r.next + 1)

/-- REPLAY_ISSUE. -/
def execReplayIssue (stand : Nat) (s : State) : Host.Outcome State Fault Refusal :=
  .next (match (s.stand stand).steps.replay with
    | some r =>
      if !s.fronts stand ∨ r.steps.isEmpty then s
      else
        let t := s.replaySeek stand r r.steps r.next
        match (t.stand stand).steps.replay with
        | some r' =>
          let y := t.stand stand
          match r'.steps.head?.bind y.steps.rec_ with
          | some q => match q.cmds[r'.next]? with
            | some k => (t.replayNext stand r' q k).applySteps stand
            | none => t.applySteps stand
          | none => t.applySteps stand
        | none => t
    | none => s)

end Sys2Proof.Machine
end

