-- ==== Sys2Proof/Machine/GlbRegs.lean ====
section
/-! DEFINITION. The read values of the CAP block, of GLB_IMAGE and of WDN_STATUS, which host software and the Warden's
measurements both use (spec/00 Tables 0-2, 0-3; spec/14 Table 14-9; spec/15 Table 15-9). -/

namespace Sys2Proof.Machine

/-- A register's value from its fields: low bit, width, value. -/
def fields (l : List (Nat × Nat × Nat)) : W64 := BitVec.ofNat 64 ((l.map (fun f => f.2.2 % 2 ^ f.2.1 * 2 ^ f.1)).sum)

def b2n (b : Bool) : Nat := if b then 1 else 0

/-- A bit map over the first `n` units. -/
def mapOf (n : Nat) (p : Nat → Bool) : Nat := ((List.range n).map (fun i => b2n (p i) * 2 ^ i)).sum

/-- A unit that start-up test found (spec/00 R3): dies by the numbers of spec/11 Table 11-9, stack n as 64 + n, port p as 128 + p,
the Bucker 256, H1 257, the standby Warden 258. -/
def State.found (s : State) (unit : Nat) : Bool := !s.boot.missing.contains unit

/-- Compute dies in service, spares included once they stand for a die (spec/00 R3). -/
def State.computeMap (s : State) : Nat := mapOf 18 (fun d => s.dieInService d && s.found d)

/-- How many of `n` units, the first numbered `base`, start-up test found. -/
def State.foundOf (s : State) (base n : Nat) : Nat := ((List.range n).filter (fun i => s.found (base + i))).length

/-- CAP_COUNTS (Table 0-2), filled at each chip reset from the variant record and the wear ledger (R3) and from what
start-up test found. -/
def State.capCounts (s : State) : W64 :=
  if !s.boot.imageVerified then 0
  else fields [(0, 8, s.foundOf 0 s.variant.computeDies), (8, 8, ([16, 17].filter (fun d => s.unusedSpare d && s.found d)).length),
    (16, 8, s.foundOf 18 s.variant.landDies), (24, 8, s.foundOf 26 s.variant.linkDies), (32, 8, s.foundOf 64 s.variant.stacks),
    (40, 8, s.foundOf 128 s.variant.ports), (48, 8, s.foundOf 30 2)]

/-- CAP_UNITS (Table 0-3). -/
def State.capUnits (s : State) : W64 :=
  if !s.boot.imageVerified then 0
  else fields [(0, 1, b2n (s.variant.hasBucker && s.found 256)), (1, 1, b2n (s.variant.hasH1 && s.found 257)), (2, 1, b2n (s.found 258)),
    (32, 18, s.computeMap), (50, 8, mapOf s.variant.landDies (fun i => s.found (18 + i))),
    (58, 4, mapOf s.variant.linkDies (fun i => s.found (26 + i)))]

/-- GLB_IMAGE (Table 14-9). -/
def State.glbImage (s : State) : W64 :=
  if !s.boot.imageVerified then 0
  else fields [(0, 1, s.boot.slot), (1, 1, s.boot.fwSlot), (2, 1, b2n s.boot.imgFallback), (3, 1, b2n s.boot.fwFallback),
    (8, 8, s.boot.failOther), (16, 16, s.boot.ibdexVersion), (32, 32, s.boot.generation.toNat)]

def StandbySt.code : StandbySt → Nat
  | .ready => 0
  | .starting => 1
  | .retired => 2

def UpdAgent.code : UpdAgent → Nat
  | .idle => 0
  | .i3c => 1
  | .mailbox => 2

/-- WDN_STATUS (Table 15-9), filled from the Warden-running milestone on. -/
def State.wdnStatus (s : State) : W64 :=
  let w := s.warden
  if !w.running && !w.recovery then 0
  else fields [(0, 1, w.active), (1, 2, w.standby.code), (3, 1, b2n w.identity), (4, 2, w.update.code), (6, 1, b2n w.pendingAct),
    (7, 7, w.da), (16, 16, w.fwSvn), (32, 16, s.floor)]

end Sys2Proof.Machine
end

