-- ==== Sys2Proof/Machine/Warden.lean ====
section
/-! DEFINITION. The Warden: lockstep and takeover, the event log, sensors, the I3C address, SPDM, and firmware update (spec/15
R372-R386, R388). -/

namespace Sys2Proof.Machine

/-- A Warden serves: its firmware runs, and its cores have not halted. -/
def State.served (s : State) : Bool := s.alive && s.warden.running && !s.warden.halted

/-! ### Lockstep and takeover (R373, R374, R388) -/

/-- LOCKSTEP_MISMATCH: the active Warden halts and is retired; the standby starts, where there is one. -/
def execLockstepMismatch (s : State) : Host.Outcome State Fault Refusal :=
  .next (
    if s.served then
      let w := s.warden
      (s.setFlash { s.flash with retired := s.flash.retired ++ [w.active] }).setWarden
        { w with halted := true, standby := if w.standby = .ready then .starting else w.standby }
    else s)

/-- A mailbox that a takeover finds at work: its response is READY with TAKEOVER. -/
def Mbox.takenOver (m : Mbox) : Mbox :=
  if m.mode = .busy then
    { m with mode := .ready, gen := m.gen + 1, tag := BitVec.ofNat 32 (fld m.req 8 4), status := 4, data := [] }
  else m

/-- Where an update component lies: the slot not in use, or the library region (R381, Table 15-2). -/
def State.componentBase (s : State) (c : Nat) : Nat :=
  if c = 1 then fwBase (1 - s.boot.fwSlot) else if c = 2 then imgBase (1 - s.boot.slot) else libBase

/-- The number by which the connection state of a transport records that a takeover lost it. -/
def spdmLost : Nat := 9

/-- An update that a takeover ends: the MAGIC of the slot being written is cleared (R388). -/
def State.endUpdate (s : State) : State :=
  let t := match s.warden.component with
    | some c => s.clearMagic (s.componentBase c)
    | none => s
  t.setWarden { t.warden with update := .idle, component := none, verified := [] }

/-- WARDEN_TAKEOVER: the standby serves as the active Warden, its deadline timer armed; no standby is left. -/
def execWardenTakeover (s : State) : Host.Outcome State Fault Refusal :=
  .next (
    let w := s.warden
    if s.alive ∧ w.halted ∧ w.standby = .starting then
      let t := s.endUpdate
      let t := t.setWarden { t.warden with
        active := 1 - w.active, standby := .retired, halted := false, deadline := some s.clock.now,
        spdm := [(0, spdmLost), (1, spdmLost), (2, spdmLost)]
        mbox := w.mbox.map (fun p => (p.1, p.2.takenOver)) }
      (((t.countModule cWdnTakeover).wear 0x0e (Config.wearCause 0x0e) w.active 0).event 0x0010 w.active 0).retireDecided.journalled
    else s)

/-- STANDBY_FAULT: the standby fails its own lockstep test and is retired; if it was taking over, no Warden serves. -/
def execStandbyFault (s : State) : Host.Outcome State Fault Refusal :=
  .next (
    let w := s.warden
    if s.alive ∧ w.running ∧ w.standby ≠ .retired then
      let d := 1 - w.active
      (((s.setFlash { s.flash with retired := s.flash.retired ++ [d] }).setWarden { w with standby := .retired }).countModule
        cWdnStandbyFault).event 0x0011 d 0
    else s)

/-! ### The event log (R386) -/

/-- EVENT_LOG_COPY: the oldest staged event reaches the flash log, over its oldest entry where it is full. -/
def execEventLogCopy (s : State) : Host.Outcome State Fault Refusal :=
  .next (match s.warden.staged with
    | [] => s
    | e :: es =>
      if !s.served then s
      else
        let over_ := decide (1048576 ≤ s.flash.log.length)
        (((s.setFlash { s.flash with log := (if over_ then s.flash.log.drop 1 else s.flash.log) ++ [e] }).setWarden
          { s.warden with staged := es }).countModule cWdnEvlogWritten).count (kModule cWdnEvlogOverwritten) (b2n over_))

/-! ### Sensors (R385, Table 15-4) -/

/-- The PLDM IDs of Table 15-4, in order. -/
def sensorIds : List Nat :=
  (List.range 128).map (0x100 + ·) ++ (List.range 32).map (0x200 + ·) ++ [0x300, 0x301, 0x310, 0x311, 0x312, 0x313] ++
    (List.range 20).map (0x400 + ·) ++ (List.range 20).map (0x420 + ·)

/-- The sensor belongs to a present unit. -/
def sensorPresent (v : Variant) (id : Nat) : Bool :=
  if id < 0x200 then v.hasDie ((id - 0x100) / 4)
  else if id < 0x300 then decide (id - 0x200 < v.stacks)
  else if id < 0x400 then true
  else if id < 0x420 then domainUsed v (id - 0x400)
  else domainUsed v (id - 0x420)

/-- A sensor's sample, where one has been taken. -/
def State.sensor (s : State) (id : Nat) : Option Int := (s.warden.sensors.find? (fun p => decide (p.1 = id))).map Prod.snd

/-- The hottest of a die's junction sensors sampled, in whole °C (THM_DIE.TJ, spec/16 Table 16-16). -/
def State.hottestJunction (s : State) (d : Nat) : Option Int :=
  ((List.range 4).filterMap (fun n => (s.sensor (0x100 + 4 * d + n)).map (fun r => r / 8))).max?

/-- THM_DIE.TJ shows a die's hottest junction sensor, as SENSOR_SAMPLE and the temperature monitor bring it (DESIGN CHOICE 93). -/
def State.showJunction (s : State) (d : Nat) : State :=
  match s.hottestJunction d with
  | some t => s.setDie d { s.die d with tj := (t + 64).toNat % 256 }
  | none => s

/-- SENSOR_SAMPLE: a reading, in units of the sensor's resolution. -/
def execSensorSample (sensor : Nat) (reading : Int) (s : State) : Host.Outcome State Fault Refusal :=
  .next (if s.served ∧ sensorIds.contains sensor ∧ sensorPresent s.variant sensor then
    let t := s.setWarden { s.warden with sensors := s.warden.sensors.set sensor reading }
    if sensor < 0x200 then t.showJunction ((sensor - 0x100) / 4) else t
  else s)

/-- ENTDAA: the dynamic address that the bus owner gives (R383). -/
def execEntdaa (address : Nat) (s : State) : Host.Outcome State Fault Refusal :=
  .next (if (s.served ∨ (s.alive ∧ s.warden.recovery)) ∧ address < 128 then s.setWarden { s.warden with da := address } else s)

/-- MCTP_CONTROL_MESSAGE: answered over I3C; Set Endpoint ID (code 1, operation 0 or 1) assigns the endpoint ID (R383). -/
def execMctpControlMessage (code : Nat) (data : List Byte) (s : State) : Host.Outcome State Fault Refusal :=
  .next (
    if s.served ∨ (s.alive ∧ s.warden.recovery) then
      let e := fld data 1 1
      let t := if code = 1 ∧ fld data 0 1 ≤ 1 ∧ 8 ≤ e ∧ e < 255 then s.setWarden { s.warden with eid := e } else s
      (t.send (.i3c (Config.managementReply s.freeCtr (BitVec.ofNat 8 code :: data)))).tookFree
    else s)

/-! ### SPDM (R375, R384, R388) -/

/-- SPDM answers on a transport: 0 the I3C sideband, 1 and 2 the links' data object exchange. -/
def State.spdmServes (s : State) (via : Nat) : Bool :=
  s.served && (match via with
    | 0 => true
    | 1 => s.reaches .h0
    | 2 => s.reaches .h1
    | _ => false)

/-- An SPDM request answered, and counted. -/
def State.spdmReply (s : State) (via : Nat) (error : Bool) (data : List Byte) : State :=
  ((s.send (.spdm via error data)).countModule cWdnSpdmRequests).count (kModule cWdnSpdmErrors) (b2n error)

/-- How far negotiation on a transport has gone: 0 nothing, 1 version, 2 capabilities, 3 algorithms. -/
def State.spdmStage (s : State) (via : Nat) : Nat := s.warden.spdm.get 0 via
def State.setSpdm (s : State) (via n : Nat) : State := s.setWarden { s.warden with spdm := s.warden.spdm.set via n }

/-- One SPDM request that needs stage `need`: after a takeover it is answered RequestResynch, out of order UnexpectedRequest. -/
def State.spdm (s : State) (via need : Nat) (f : State → State) : State :=
  if !s.spdmServes via then s
  else if s.spdmStage via = spdmLost then (s.setSpdm via 0).spdmReply via true [0x43]
  else if s.spdmStage via < need then s.spdmReply via true [0x04]
  else f s

/-- GET_CERTIFICATE: a part of the one chain, in slot 0. -/
def execGetCertificate (via slot offset length : Nat) (s : State) : Host.Outcome State Fault Refusal :=
  .next (s.spdm via 3 (fun t =>
    if !t.warden.identity then t.spdmReply via true [0x05]
    else if slot ≠ 0 ∨ Config.deviceChain.length ≤ offset then t.spdmReply via true [0x01]
    else t.spdmReply via false ((Config.deviceChain.drop offset).take length)))

/-- CHALLENGE: answered with the attestation key's signature. -/
def execChallenge (via : Nat) (nonce : List Byte) (s : State) : Host.Outcome State Fault Refusal :=
  .next (s.spdm via 3 (fun t =>
    if !t.warden.identity then t.spdmReply via true [0x05]
    else
      let body := Config.managementReply t.freeCtr nonce
      (t.spdmReply via false (body ++ Config.signature (nonce ++ body))).tookFree))

/-- A measurement of Table 15-3. -/
def State.measurement (s : State) (i : Nat) : List Byte :=
  let f := s.flash
  let signed (base : Nat) : List Byte := sha512 (f.read base (f.length base))
  match i with
  | 1 => Config.romVersion ++ s.warden.rootDigest
  | 2 => signed (fwBase s.boot.fwSlot) ++ natLe 2 s.warden.fwSvn ++ natLe 2 s.floor
  | 3 => signed (imgBase s.boot.slot) ++ natLe 4 s.boot.generation.toNat ++ natLe 1 s.boot.slot
  | 4 => if s.warden.libraryOk then signed libBase else []
  | 5 => sha512 f.variantRec
  | _ => natLe 8 s.glbImage.toNat ++ natLe 8 s.wdnStatus.toNat ++ natLe 8 s.capUnits.toNat

/-- GET_MEASUREMENTS: index 0 asks how many there are, 0xFF for all. -/
def execGetMeasurements (via index : Nat) (signed : Bool) (nonce : List Byte) (s : State) :
    Host.Outcome State Fault Refusal :=
  .next (s.spdm via 3 (fun t =>
    if signed && !t.warden.identity then t.spdmReply via true [0x05]
    else if 6 < index ∧ index ≠ 0xff then t.spdmReply via true [0x01]
    else
      let body := if index = 0 then [6] else if index = 0xff then ([1, 2, 3, 4, 5, 6].map t.measurement).flatten
        else t.measurement index
      t.spdmReply via false (if signed then body ++ Config.signature (nonce ++ body) else body)))

/-- SPDM_NEGOTIATION: GET_VERSION (0x84), GET_CAPABILITIES (0xE1) and NEGOTIATE_ALGORITHMS (0xE3), in that order. -/
def execSpdmNegotiation (via code : Nat) (data : List Byte) (s : State) : Host.Outcome State Fault Refusal :=
  .next (
    let go (need done : Nat) : State := s.spdm via need (fun t =>
      ((t.setSpdm via done).spdmReply via false (Config.managementReply t.freeCtr (BitVec.ofNat 8 code :: data))).tookFree)
    if code = 0x84 then go 0 1
    else if code = 0xe1 then go 1 2
    else if code = 0xe3 then go 2 3
    else s.spdm via 0 (fun t => t.spdmReply via true [0x07]))

/-! ### Firmware update (R380-R382) -/

/-- The agent of a transport: I3C, or a host's mailbox. -/
def agentOf (via : Nat) : UpdAgent := if via = 0 then .i3c else .mailbox

/-- Update is served: by the Warden, or by mask ROM in recovery over I3C alone. -/
def State.updateServes (s : State) (via : Nat) : Bool :=
  (s.served && (match via with
    | 0 => true
    | 1 => s.reaches .h0
    | 2 => s.reaches .h1
    | _ => false)) || (s.alive && s.warden.recovery && decide (via = 0))

/-- REQUEST_UPDATE: one agent at a time; another request while one is served is answered ALREADY_IN_UPDATE_MODE. -/
def execRequestUpdate (via : Nat) (s : State) : Host.Outcome State Fault Refusal :=
  .next (
    if !s.updateServes via then s
    else if s.warden.update = .idle then
      (s.setWarden { s.warden with update := agentOf via, component := none, verified := [], xfer := 0 }).send (.pldm via 0 [])
    else (s.send (.pldm via 0x81 [])).count (kModule cWdnUpdateRefused) (b2n (decide (s.warden.update ≠ agentOf via))))

/-- Bytes of a component's place (Table 14-2). -/
def componentSize (c : Nat) : Nat := if c = 1 then 16 * 2 ^ 20 else if c = 2 then 24 * 2 ^ 20 else libSize

/-- A component that may be written now: 1 to 3, and in recovery 1 alone. -/
def State.componentOk (s : State) (c : Nat) : Bool :=
  decide (1 ≤ c) && decide (c ≤ 3) && (!s.warden.recovery || decide (c = 1))

/-- Writing a slot sets its TRIAL and clears its ATTEMPTS (R380). -/
def State.markTrial (s : State) (c : Nat) : State :=
  if c = 1 then s.updateBoot (fun b => b.setFw (1 - s.boot.fwSlot) ⟨true, 0⟩)
  else if c = 2 then s.updateBoot (fun b => b.setImg (1 - s.boot.slot) ⟨true, 0⟩)
  else s.setWarden { s.warden with libraryOk := false }

/-- UPDATE_TRANSFER: data for a component, written into the slot not in use, after the wear entries and the events that wait for the flash
(Table 15-7). -/
def execUpdateTransfer (via component offset : Nat) (data : List Byte) (s : State) : Host.Outcome State Fault Refusal :=
  .next (
    if s.updateServes via ∧ s.warden.update = agentOf via ∧ s.componentOk component ∧
        offset + data.length ≤ componentSize component then
      let t := s.flushFlash.markTrial component
      let t := t.setFlash (t.flash.write (t.componentBase component + offset) data)
      t.setWarden { t.warden with component := some component, verified := t.warden.verified.filter (· ≠ component)
                                  xfer := offset + data.length }
    else s)

/-- The use that a component must be signed for (R377). -/
def componentUse (c : Nat) : KeyPurpose := if c = 1 then .firmware else if c = 2 then .image else .library

/-- The written component passes the checks of R366, R377 and R379; `sig` is what its trailer holds. -/
def State.componentVerifies (s : State) (c : Nat) (sig : SigRead) : Bool :=
  let ok := s.signedFor (s.componentBase c) (componentUse c) sig
  if c = 1 then decide (s.fwVerdict (1 - s.boot.fwSlot) ok = 0)
  else if c = 2 then decide ((s.flash.verifyImage s.variant (1 - s.boot.slot) true ok).1 = 0)
  else ok

/-- VERIFY_COMPLETE: the component verified, or reported as VerifyFailed. -/
def execVerifyComplete (via component : Nat) (sig : SigRead) (s : State) : Host.Outcome State Fault Refusal :=
  .next (
    if s.updateServes via ∧ s.warden.update = agentOf via ∧ s.warden.component = some component then
      if s.componentVerifies component sig then
        ((s.setWarden { s.warden with component := none, verified := s.warden.verified ++ [component]
                                      libraryOk := s.warden.libraryOk || decide (component = 3) }).event 0x0040 component 1).send
          (.pldm via 0 [])
      else ((s.setWarden { s.warden with component := none }).event 0x0040 component 3).send (.pldm via 1 [])
    else s)

/-- Mask ROM in recovery starts the slot that was written; the milestones count from then (R382). -/
def State.leaveRecovery (s : State) : State :=
  let k := 1 - s.boot.fwSlot
  let t := s.updateBoot (fun b => b.setFw k (b.fw k).tried)
  (t.setBoot { t.boot with origin := t.clock.now }).startWarden k false

/-- ACTIVATE_FIRMWARE: over I3C a tray controller's request for a chip reset; over a mailbox the slots wait for the next one. -/
def execActivateFirmware (via : Nat) (s : State) : Host.Outcome State Fault Refusal :=
  .next (
    if !s.updateServes via then s
    else if s.warden.update ≠ agentOf via then s.send (.pldm via 0x80 [])
    else if s.warden.component.isSome then s.send (.pldm via 0x85 [])
    else
      let t := s.warden.verified.foldl (fun u c => u.event 0x0040 c 2) s
      let t := t.setWarden { t.warden with update := .idle, verified := [] }
      if s.warden.recovery then
        if s.warden.verified.contains 1 then (t.send (.pldm via 0 (natLe 2 3))).leaveRecovery else t.send (.pldm via 0 [])
      else if via = 0 then (t.send (.pldm via 0 (natLe 2 3))).decideChipReset 4
      else (t.setWarden { t.warden with pendingAct := true }).send (.pldm via 0 []))

end Sys2Proof.Machine
end

