-- ==== Sys2Proof/Machine/Mailbox.lean ====
section
/-! DEFINITION. The WDN mailboxes (spec/15 R387, Table 15-6). -/

namespace Sys2Proof.Machine

/-! ### Assembly, abort and release -/

/-- A write to a request window that breaks R38: unaligned, no whole multiple of 64 B, above 512 B, or past the window. -/
def mboxBad (offset n : Nat) : Bool :=
  decide (offset % 64 ≠ 0) || decide (n % 64 ≠ 0) || decide (n = 0) || decide (512 < n) || decide (65536 < offset + n)

/-- A response made READY, its generation one higher. -/
def Mbox.answer (m : Mbox) (status : W16) (data : List Byte) : Mbox :=
  { m with mode := .ready, gen := m.gen + 1, tag := BitVec.ofNat 32 (fld m.req 8 4), status := status, data := data }

/-- A write is ignored: the sticky bit, and a count. -/
def State.mboxIgnore (s : State) (m : Nat) : State :=
  (s.setMbox m { s.mbox m with ignored := true }).countModule cWdnMboxIgnored

/-- LENGTH of a request is one that R387 allows. -/
def mboxLengthOk (n : Nat) : Bool := decide (64 ≤ n) && decide (n ≤ 65536) && decide (n % 64 = 0)

/-- The request parsed: BUSY where its OP is one of Table 15-6, and otherwise answered at once. -/
def Mbox.parsed (m : Mbox) : Mbox :=
  let op := fld m.req 0 1
  if !mboxLengthOk (fld m.req 4 4) then m.answer 1 []
  else if 1 ≤ op ∧ op ≤ 9 then { m with mode := .busy } else m.answer 2 []

/-- MAILBOX_WRITE: bytes of a request assembled for the link that began it; the request is parsed once LENGTH bytes have come. -/
def execMailboxWrite (link : LinkId) (mbox offset : Nat) (data : List Byte) (s : State) : Host.Outcome State Fault Refusal :=
  .next (
    let m := s.mbox mbox
    if !s.reaches link ∨ 4 ≤ mbox then s
    else if mboxBad offset data.length then s.countModule cWdnMboxBad
    else if m.mode = .busy ∨ m.mode = .ready ∨ (m.mode = .assembling ∧ m.owner ≠ some link) then s.mboxIgnore mbox
    else
      let req := m.req ++ data
      let n := fld req 4 4
      let whole := !mboxLengthOk n || decide (n ≤ req.length)
      let kept := if mboxLengthOk n then req.take n else req
      let x := { m with mode := .assembling, owner := some link, req := kept }
      if !whole then s.setMbox mbox x
      else
        let t := (s.setMbox mbox x.parsed).countModule cWdnMboxRequests
        if kept.length < req.length then t.mboxIgnore mbox else t)

/-- A mailbox free again; its generation and sticky bit stay. -/
def Mbox.freed (m : Mbox) : Mbox := { m with mode := .free, owner := none, req := [] }

/-- MAILBOX_ABORT. -/
def execMailboxAbort (link : LinkId) (mbox : Nat) (s : State) : Host.Outcome State Fault Refusal :=
  .next (if s.reaches link ∧ mbox < 4 ∧ (s.mbox mbox).mode = .assembling then s.setMbox mbox (s.mbox mbox).freed else s)

/-- MAILBOX_RELEASE: with the current generation. -/
def execMailboxRelease (link : LinkId) (mbox : Nat) (gen : W16) (s : State) : Host.Outcome State Fault Refusal :=
  .next (if s.reaches link ∧ mbox < 4 ∧ (s.mbox mbox).mode = .ready ∧ (s.mbox mbox).gen = gen then
    s.setMbox mbox (s.mbox mbox).freed else s)

/-! ### The requests of Table 15-6 -/

/-- The bytes of a response: the 64 B header of R387, and the data. -/
def responseBytes (tag : Nat) (r : W16 × List Byte) : List Byte :=
  natLe 4 tag ++ natLe 2 r.1.toNat ++ natLe 2 0 ++ natLe 4 1 ++ natLe 4 r.2.length ++ natLe 48 0 ++ r.2

/-- The answer to a request that came over I3C: MALFORMED where its LENGTH is wrong, and at most 4 KiB of data (DESIGN CHOICE 93: the
response has the form of a mailbox's, generation zero). -/
def i3cAnswer (req : List Byte) (f : List Byte → W16 × List Byte) : List Byte :=
  let r := if mboxLengthOk (fld req 4 4) && decide (req.length = fld req 4 4) then f req else (1, [])
  responseBytes (fld req 8 4) (r.1, r.2.take 4096)

/-- A request of an OP that waits in a mailbox, or that came over I3C, is served: `f` gives the status and the data. -/
def State.serve (s : State) (via : ReqVia) (op : Nat) (f : List Byte → W16 × List Byte) : State :=
  match via with
  | .mbox m =>
    let x := s.mbox m
    if s.served ∧ m < 4 ∧ x.mode = .busy ∧ fld x.req 0 1 = op then
      let r := f x.req
      s.setMbox m (x.answer r.1 r.2)
    else s
  | .i3c req => if s.served ∧ fld req 0 1 = op then s.send (.i3c (i3cAnswer req f)) else s

/-- The most 32-byte entries that a response window holds. -/
def maxEntries : Nat := 32766

/-- An event log entry (R386). -/
def EvLog.bytes (e : EvLog) : List Byte :=
  let b := natLe 8 e.time.toNat ++ natLe 8 e.opsec.toNat ++ natLe 4 e.seq.toNat ++ natLe 2 e.code ++ natLe 2 e.unit ++
    natLe 4 e.data.toNat
  b ++ natLe 4 (crc32c b).toNat

/-- A wear ledger entry (spec/11 Table 11-6). -/
def WearEntry.bytes (e : WearEntry) : List Byte :=
  let b := natLe 8 e.opsec.toNat ++ natLe 1 e.kind ++ natLe 1 e.cause ++ natLe 2 e.unit ++ natLe 4 e.detail.toNat ++
    natLe 4 e.entry.toNat ++ natLe 4 0
  b ++ natLe 4 (crc32c b).toNat ++ natLe 4 0

/-- A run of entries from the one that a number names: RANGE where none has it, MALFORMED where too many are asked for. -/
def entryRun {α : Type} (xs : List α) (num : α → W32) (bytes : α → List Byte) (req : List Byte) : W16 × List Byte :=
  let first := BitVec.ofNat 32 (fld req 16 4)
  let n := fld req 20 4
  if maxEntries < n then (1, [])
  else match xs.dropWhile (fun x => decide (num x ≠ first)) with
    | [] => (3, [])
    | y :: ys => (0, ((y :: ys).take n).flatMap bytes)

/-- LOG_READ: entries of the event log, those still staged included. -/
def execLogRead (via : ReqVia) (s : State) : Host.Outcome State Fault Refusal :=
  .next (s.serve via 1 (entryRun (s.flash.log ++ s.warden.staged) (·.seq) EvLog.bytes))

/-- LEDGER_READ. -/
def execLedgerRead (via : ReqVia) (s : State) : Host.Outcome State Fault Refusal :=
  .next (s.serve via 2 (entryRun s.flash.wear (·.entry) WearEntry.bytes))

/-- Bytes from an offset of something, at most what a response takes: RANGE past its end. -/
def bytesFrom (bs : List Byte) (req : List Byte) : W16 × List Byte :=
  let o := fld req 20 4
  if bs.length ≤ o then (3, []) else (0, (bs.drop o).take 1048512)

/-- A sample's header (spec/13 Table 13-3). -/
def Sample.header (x : Sample) : List Byte :=
  let b := natLe 8 x.time.toNat ++ natLe 1 x.rung ++ natLe 1 x.stand ++ natLe 1 x.cause ++ natLe 1 (b2n x.incomplete) ++
    natLe 2 x.unit ++ natLe 2 0 ++ natLe 4 x.seq.toNat ++ natLe 4 x.bytes
  b ++ natLe 4 (crc32c b).toNat ++ natLe 36 0

/-- One sampled word with its Flashing status. -/
def sampledWord (m : Mem) (w : Nat) : List Byte :=
  Config.sampleWord (m.readN (16 * w) 16) (if m.bad w then 2 else if m.corrects w then 1 else 0)

/-- The sampled bytes, word by word (spec/13 R350). -/
def Sample.body (x : Sample) : List Byte :=
  let words := x.parts.flatMap (fun p => (List.range (p.1 / 16)).map (fun w => (p.2, w)))
  (words.take (x.bytes / 16)).flatMap (fun p => sampledWord p.1 p.2)

/-- SAMPLE_READ. -/
def execSampleRead (via : ReqVia) (s : State) : Host.Outcome State Fault Refusal :=
  .next (s.serve via 3 (fun req => match s.rst.samples[fld req 16 1]? with
    | some x => bytesFrom (x.header ++ x.body) req
    | none => (3, [])))

/-- A capture's parts in the order of spec/11 R288. -/
def Capture.parts (c : Capture) : List (List Byte) :=
  let words (l : List W64) : List Byte := l.flatMap (fun w => natLe 8 w.toNat)
  [c.body, c.aBytes, c.bBytes, words c.kept, words c.original, words c.recomputed, natLe 2 c.array]

/-- CAPTURE_READ: 0 to 63 in staging, 0x80 to 0x87 in the supplement. -/
def execCaptureRead (via : ReqVia) (s : State) : Host.Outcome State Fault Refusal :=
  .next (s.serve via 4 (fun req =>
    let n := fld req 16 1
    let c := if n < 64 then s.integ.captures[n]?
      else if 0x80 ≤ n ∧ n ≤ 0x87 then s.flash.supplement[n - 0x80]? else none
    match c with
    | some x => bytesFrom (Config.captureBytes x.parts) req
    | none => (3, [])))

/-- A routing table entry's word (spec/10 R268). -/
def Route.word (r : Route) : Nat := b2n r.valid + 2 * r.egress + 128 * b2n r.altValid + 256 * r.alt

/-- ROUTE_READ. -/
def execRouteRead (via : ReqVia) (s : State) : Host.Outcome State Fault Refusal :=
  .next (s.serve via 5 (fun req =>
    let d := fld req 16 4
    let n := fld req 20 4
    if 65536 < d + n ∨ 65536 ≤ d then (3, [])
    else (0, (List.range n).flatMap (fun i => natLe 4 (s.img.routes.get Route.none (d + i)).word))))

/-- SENSOR_READ: one reading for each sensor of Table 15-4, in the order of their IDs. -/
def execSensorRead (via : ReqVia) (s : State) : Host.Outcome State Fault Refusal :=
  .next (s.serve via 6 (fun _ =>
    (0, sensorIds.flatMap (fun id => Config.sensorWord (sensorPresent s.variant id) (s.sensor id)))))

/-- CERT_READ: NOT_AVAILABLE without identity. -/
def execCertRead (via : ReqVia) (s : State) : Host.Outcome State Fault Refusal :=
  .next (s.serve via 7 (fun _ => if s.warden.identity then (0, Config.deviceChain) else (5, [])))

/-- PLDM: the response's bytes are the standard's; what a type 5 message does is the business of the update commands. -/
def execPldm (via : ReqVia) (s : State) : Host.Outcome State Fault Refusal :=
  .next ((s.serve via 8 (fun req => (0, Config.managementReply s.freeCtr (req.drop 16)))).tookFree)

/-- VARIANT_READ. -/
def execVariantRead (via : ReqVia) (s : State) : Host.Outcome State Fault Refusal :=
  .next (s.serve via 9 (fun _ => (0, s.flash.variantRec)))

end Sys2Proof.Machine
end

