-- ==== Sys2Proof/Machine/Repair.lean ====
section
/-! DEFINITION. HBM scrub, live repair and the flume gates (spec/07 R176-R183). -/

namespace Sys2Proof.Machine

/-! ### The remap pool (Table 7-2, R177) -/

/-- The pool of a landing die in MiB (Table 7-2). -/
def poolTotal (v : Variant) (l : Nat) : Nat :=
  match v with
  | .f => if l < 8 then 4096 else 0
  | .e => if l < 2 then 5462 else if l < 6 then 5461 else 0

/-- Bytes of the pool that a stack's entries take (R177). -/
def StackSt.poolBytes (x : StackSt) : Nat :=
  x.rowDir.length * Config.rowBytes + x.bankDir.length * Config.bankBytes + (if x.pcDir.isSome then 2 ^ 30 else 0)

/-- Bytes of a landing die's pool taken. -/
def State.poolTaken (s : State) (l : Nat) : Nat := ((List.range 4).map (fun i => (s.stack (4 * l + i)).poolBytes)).sum

/-- The pool can take `n` more bytes; room for one pseudo-channel is kept from rows and banks (R177). -/
def State.poolTakes (s : State) (l n : Nat) (keep : Bool) : Bool :=
  decide (s.poolTaken l + n + (if keep then 2 ^ 30 else 0) ≤ poolTotal s.variant l * 2 ^ 20)

/-! ### Repairs (R177, R178) -/

/-- A fault that no repair takes stays in service (R178). -/
def State.poolExhausted (s : State) (n : Nat) : State :=
  (s.setStack n { s.stack n with dirFull := true }).count (kLand (n / 4) cMemPoolExhausted) 1

/-- Words that move over: corrected ones are corrected, uncorrectable ones become their poison code (R178). -/
def State.moveWords (s : State) (ws : List Nat) : State :=
  ws.foldl (fun t w =>
    let u := t.noteWord w
    u.setHbm (u.hbm.correctWord w)) s

/-- The stored words of a stack whose place satisfies a condition and that a move would change. -/
def State.movedWords (s : State) (n : Nat) (p : Nat → Bool) : List Nat :=
  (s.hbm.diff.filter (fun x => decide (keyStack (16 * x.1) = n) && p (16 * x.1) && !s.hbm.isPoison x.1)).map Prod.fst

/-- A pseudo-channel's contents go to the pool. -/
def State.remapChannel (s : State) (n pc : Nat) : State :=
  let x := s.stack n
  if x.pcDir = some pc then s
  else if x.pcDir.isNone ∧ s.poolTakes (n / 4) (2 ^ 30) false then
    ((s.setStack n { x with pcDir := some pc, moves := x.moves ++ [(3, pc, 0)] }).count (kStack n cMemPcRemaps) 1).wear 0x09
      3 n (repairDetail 3 0 pc)
  else s.poolExhausted n

/-- The bank is served from the pool: by its own entry, or by its pseudo-channel's. -/
def StackSt.bankMoved (x : StackSt) (b : Nat) : Bool := decide (x.pcDir = some (b / 128)) || x.bankDir.contains b

/-- A bank's contents go to the pool. -/
def State.remapBank (s : State) (n b : Nat) : State :=
  let x := s.stack n
  if x.bankMoved b then s
  else if x.bankDir.length < 64 ∧ s.poolTakes (n / 4) Config.bankBytes true then
    ((s.setStack n { x with bankDir := x.bankDir ++ [b], moves := x.moves ++ [(2, b, 0)] }).count
      (kStack n cMemBankRemaps) 1).wear 0x09 3 n (repairDetail 2 0 b)
  else s.poolExhausted n

/-- How a row fault is repaired (R177, R178). -/
inductive RowRepair where
  | soft
  | entry
  | bank       -- escalated to a bank remap
  | none       -- the row is served from the pool already: the fault stays in service (log entry 86)
  deriving DecidableEq, Repr

/-- Softly while the bank has a resource free and the row has not used one, then by a row entry, and else with its whole bank. -/
def State.rowRepair (s : State) (n b r : Nat) : RowRepair :=
  let x := s.stack n
  if x.bankMoved b then .none
  else if !x.sppr.contains (b, r) ∧ !x.rowDir.contains (b, r) ∧
      (x.sppr.filter (fun y => decide (y.1 = b))).length < Config.softRepairs then .soft
  else if x.rowDir.length < 4096 ∧ s.poolTakes (n / 4) Config.rowBytes true then .entry
  else .bank

/-- A row repaired: its words go to their new place. -/
def State.repairRow (s : State) (n b r : Nat) (how : RowRepair) : State :=
  let x := s.stack n
  let move (t : State) : State := t.moveWords (t.movedWords n (fun k => decide (keyBank k = b) && decide (keyRow k = r)))
  match how with
  | .soft =>
    move (((s.setStack n { x with sppr := x.sppr ++ [(b, r)] }).count (kStack n cMemSppr) 1).wear 0x09 3 n (repairDetail 1 b r))
  | .entry =>
    move (((s.setStack n { x with rowDir := x.rowDir ++ [(b, r)] }).count (kStack n cMemRowRemaps) 1).wear 0x09 3 n
      (repairDetail 1 b r))
  | .bank => s.remapBank n b
  | .none => s.poolExhausted n

/-- Bank faults that a pseudo-channel has had: its banks with 16 row faults (Table 7-3). -/
def StackSt.bankFaultsIn (x : StackSt) (pc : Nat) : Nat :=
  (x.bankFaults.filter (fun p => decide (p.1 / 128 = pc) && decide (16 ≤ p.2))).length

/-- A row fault (Table 7-3): repaired; the sixteenth of its bank is a bank fault, and the fourth bank fault of a pseudo-channel a fault
of the whole of it.  A bank remap that the row's repair asked for already is not asked for again. -/
def State.hbmRowFault (s : State) (k : Nat) : State :=
  let n := keyStack k
  let b := keyBank k
  let how := s.rowRepair n b (keyRow k)
  let t := s.repairRow n b (keyRow k) how
  let f := (t.stack n).bankFaults.get 0 b + 1
  let t := t.setStack n { t.stack n with bankFaults := (t.stack n).bankFaults.set b f }
  if f = 16 then
    let u := if how = .bank then t else t.remapBank n b
    if (u.stack n).bankFaultsIn (b / 128) = 4 then u.remapChannel n (b / 128) else u
  else t

/-- A correction within the scrub pass: one symbol position in four banks of a pseudo-channel is a fault of the whole
(Table 7-3). -/
def State.noteSymbol (s : State) (k pos : Nat) : State :=
  let n := keyStack k
  let x := s.stack n
  let e := (keyChannel k, pos, keyBank k)
  let l := if x.pcSymbols.contains e then x.pcSymbols else e :: x.pcSymbols
  let t := s.setStack n { x with pcSymbols := l }
  if (l.filter (fun y => decide (y.1 = e.1) && decide (y.2.1 = pos))).length ≥ 4 then t.remapChannel n (keyChannel k) else t

/-! ### The controllers' turn: write-backs and faults (R176, R177) -/

/-- The stored data symbols of a word. -/
def Mem.rawWord (m : Mem) (w : Nat) : List Byte := (List.range 16).map (fun i => m.raw (16 * w + i))

/-- A write-back of scrub: a corrected word is written, and is from now on one that scrub has corrected, and an uncorrectable word
becomes its poison code; it is dropped where a newer write has reached the word, and nothing is left to do where a read has poisoned
the word meanwhile. -/
def State.writeBack (s : State) (b : WriteBack) : State :=
  let n := keyStack (16 * b.word)
  if s.hbm.rawWord b.word = b.data ∧ s.hbm.diffAt b.word = b.diff then
    match s.hbm.check b.word with
    | .corrected _ _ =>
      (s.setHbm (s.hbm.correctWord b.word)).setStack n { s.stack n with scrubbed := b.word :: (s.stack n).scrubbed.erase b.word }
    | .uncorrectable => (s.setHbm (s.hbm.poison b.word)).count (kStack n cMemPoisonWritten) 1
    | .clean => s
  else if checkWord b.diff = .uncorrectable ∧ s.hbm.isPoison b.word ∧ s.hbm.rawWord b.word = b.data then s
  else s.count (kStack n cMemScrubDropped) 1

/-- A row fault: an uncorrectable word, or one that needs correction again after scrub has written it back corrected (Table 7-3). -/
def State.isRowFault (s : State) (f : Nat × Option Nat) : Bool :=
  match f.2 with
  | none => true
  | some _ => (s.stack (keyStack (16 * f.1))).scrubbed.contains f.1

/-- The row fault of a word, which scrub has then not corrected yet in its new place. -/
def State.wordFault (s : State) (w : Nat) : State :=
  let n := keyStack (16 * w)
  (s.setStack n { s.stack n with scrubbed := (s.stack n).scrubbed.erase w }).hbmRowFault (16 * w)

/-- What the controllers have to do beside the accesses: scrub's write-backs, then the faults that reads have shown (DESIGN CHOICE,
log entry 86: at the next NCLK, or before scrub's next block). -/
def State.controllersTurn (s : State) : State :=
  if s.mem.faults = [] ∧ s.mem.writeBacks = [] then s
  else
    let rows := s.mem.faults.filter s.isRowFault
    let t := s.setMem { s.mem with faults := [], writeBacks := [] }
    let t := s.mem.writeBacks.foldl State.writeBack t
    let t := s.mem.faults.foldl (fun u f => match f.2 with
      | some pos => u.noteSymbol (16 * f.1) pos
      | none => u) t
    rows.foldl (fun u f => u.wordFault f.1) t

/-! ### Scrub (R176) -/

/-- Scrub reads one word: a correction and a failure count, are faults to classify, and are to be written back. -/
def State.scrubHbmWord (s : State) (w : Nat) : State :=
  let back (t : State) : State :=
    t.setMem { t.mem with writeBacks := t.mem.writeBacks ++ [⟨w, s.hbm.rawWord w, s.hbm.diffAt w⟩] }
  match s.hbm.check w with
  | .clean => s
  | .corrected pos _ => back ((s.count (kStack (keyStack (16 * w)) cMemCorrected) 1).addFault w (some pos))
  | .uncorrectable =>
    let t := s.count (kStack (keyStack (16 * w)) cMemUncorrectable) 1
    if s.hbm.isPoison w then t else back (t.addFault w none)

/-- Flashing blocks that a pass reads: 128 GiB of every landing die (Table 7-2). -/
def scrubBlocks (v : Variant) : Nat := v.landDies * 2 ^ 28

/-- Does one of the intervals hold a number? -/
def inSpans (l : List (Nat × Nat)) (n : Nat) : Bool := l.any (fun p => decide (p.1 ≤ n) && decide (n < p.2))

/-- A number added to intervals that rise and do not touch. -/
def addSpan : List (Nat × Nat) → Nat → List (Nat × Nat)
  | [], n => [(n, n + 1)]
  | (a, b) :: t, n =>
    if n + 1 < a then (n, n + 1) :: (a, b) :: t
    else if n + 1 = a then (n, b) :: t
    else if n < b then (a, b) :: t
    else if n = b then (match t with
      | (c, d) :: u => if c = n + 1 then (a, d) :: u else (a, n + 1) :: (c, d) :: u
      | [] => [(a, n + 1)])
    else (a, b) :: addSpan t n

/-- How many numbers intervals hold. -/
def spanCount (l : List (Nat × Nat)) : Nat := (l.map (fun p => p.2 - p.1)).sum

/-- One more block of the pass is read; the last ends the pass. -/
def State.scrubProgress (s : State) (n : Nat) : State :=
  let l := addSpan s.mem.scrubbed n
  if spanCount l < scrubBlocks s.variant then s.setMem { s.mem with scrubbed := l }
  else s.setMem { s.mem with scrubbed := [], passes := s.mem.passes + 1,
                             stk := s.mem.stk.map (fun p => (p.1, { p.2 with pcSymbols := [] })) }

/-- Scrub reads a Flashing block of a landing die: 32 words.  Each block is read once in a pass, so that one that this pass has read is
left alone. -/
def execHbmScrub (die block : Nat) (s : State) : Host.Outcome State Fault Refusal :=
  let w0 := hbmKey die (512 * block) / 16
  .next (if s.alive ∧ s.boot.hbmTrained ∧ die < s.variant.landDies ∧ block < 2 ^ 28 ∧
      inSpans s.mem.scrubbed (2 ^ 28 * die + block) = false then
    (((List.range 32).map (w0 + ·)).foldl State.scrubHbmWord s.controllersTurn).scrubProgress (2 ^ 28 * die + block)
  else s)

/-! ### Repair moves (R178) -/

/-- Words that a move copies in all. -/
def moveSize (kind : Nat) : Nat := if kind = 3 then 2 ^ 26 else Config.bankBytes / 16

/-- The oldest move of a stack goes on by some words; at its end every word is in the pool, corrected or poisoned. -/
def State.repairMove (s : State) (n words : Nat) : State :=
  let x := s.stack n
  match x.moves with
  | [] => s
  | (kind, id, done) :: ms =>
    if done + words < moveSize kind then s.setStack n { x with moves := (kind, id, done + words) :: ms }
    else
      let t := s.setStack n { x with moves := ms }
      t.moveWords (t.movedWords n (fun k => if kind = 3 then decide (keyChannel k = id) else decide (keyBank k = id)))

def execRepairMove (stack words : Nat) (s : State) : Host.Outcome State Fault Refusal :=
  .next (if s.alive ∧ stack < s.variant.stacks then s.repairMove stack words else s)

/-! ### Flume gates (R182, R183) -/

/-- A gate's configuration. -/
def State.gateCfg (s : State) (l g : Nat) : GateCfg := s.img.gates.get GateCfg.unused (66 * l + g)

/-- A gate's state; before STANDS_READY has set it, the image's seed. -/
def State.gate (s : State) (l g : Nat) : Gate :=
  (s.land l).gates.get { Gate.reset with est := (s.gateCfg l g).seed } g

def State.setGate (s : State) (l g : Nat) (x : Gate) : State :=
  s.setLand l { s.land l with gates := (s.land l).gates.set g x }

/-- The effective depth D in KiB (R183).  Where the image's BURST_MAX is below 16 KiB, which Table 7-12 allows, the range from 16 KiB to
BURST_MAX is empty, and the model takes BURST_MAX (DESIGN CHOICE, log entry 87). -/
def State.gateDepth (s : State) (l g : Nat) : Rat :=
  let x := s.gate l g
  let m : Rat := (s.gateCfg l g).burstMax
  if x.samples < 32 then m else min m (max 16 (2 * x.est))

/-- Quarters of the throttle fraction at a zone step (R184, Table 7-4). -/
def stepQuarters (k : Nat) : Nat := 4 - min k 3

/-- One MCLK of a gate's buckets, in quarter bytes (R182). -/
def State.refill (s : State) (l g : Nat) : State :=
  let c := s.gateCfg l g
  let x := s.gate l g
  let q := stepQuarters (s.zone l).step
  if !c.enabled then s
  else s.setGate l g { x with rate := min (x.rate + c.rate * q) ((s.gateDepth l g * 4096).floor.toNat)
                              floor := min (x.floor + c.floor * q) 16384 }

/-- The first request in round-robin order after gate `last` that satisfies a condition. -/
def nextReq (last : Nat) (p : FlumeReq → Bool) (rs : List FlumeReq) : Option FlumeReq :=
  ((List.range 66).map (fun i => (last + 1 + i) % 66)).findSome? (fun g => rs.find? (fun r => decide (r.gate = g) && p r))

/-- The request granted a slot and its class, 0 to 2 for a to c (R182); a copy-ahead access is in class a whatever its floor bucket holds
(spec/08 R209). -/
def State.flumePick (s : State) (l : Nat) (rs : List FlumeReq) : Option (FlumeReq × Nat) :=
  let x := s.land l
  match nextReq x.lastA (fun r => r.user.isCopyAhead || decide (4 * r.bytes ≤ (s.gate l r.gate).floor)) rs with
  | some r => some (r, 0)
  | none => match nextReq x.lastB (fun r => decide (4 * r.bytes ≤ (s.gate l r.gate).rate)) rs with
    | some r => some (r, 1)
    | none => (nextReq x.lastC (fun _ => true) rs).map (fun r => (r, 2))

/-- A grant: what its class takes from the buckets, which never go below zero, the class's round-robin place, the request's leaving, and
the stand's count (R182, R187). -/
def State.flumeTake (s : State) (l : Nat) (r : FlumeReq) (cls : Nat) : State :=
  let x := s.gate l r.gate
  let n := 4 * r.bytes
  let t := s.setGate l r.gate { x with rate := if cls ≤ 1 then x.rate - n else x.rate
                                       floor := if cls = 0 then x.floor - n else x.floor }
  let y := t.land l
  let t := t.setLand l { y with lastA := if cls = 0 then r.gate else y.lastA, lastB := if cls = 1 then r.gate else y.lastB
                                lastC := if cls = 2 then r.gate else y.lastC, waiting := y.waiting.erase r }
  if r.gate < 64 then t.setCounters (t.counters.addUnits (kStand r.gate
    (if cls = 0 then cFlmFloor4k else if cls = 1 then cFlmRate4k else cFlmSpare4k)) 4096 r.bytes)
  else t

/-- Is a slot of each four consecutive ones open to gate traffic at a zone step (Table 7-4, R185)? -/
def slotOpen (step slot : Nat) : Bool :=
  match min step 3 with
  | 0 => true
  | 1 => decide (slot % 4 < 3)
  | 2 => decide (slot % 2 = 0)
  | _ => decide (slot % 4 = 0)

/-- Requests arrive at a landing die's gates and wait there; a gate that is not in use takes none. -/
def State.flumeArrive (s : State) (l : Nat) (rs : List FlumeReq) : State :=
  s.setLand l { s.land l with
    waiting := (s.land l).waiting ++ rs.filter (fun r => decide (r.gate < 66) && (s.gateCfg l r.gate).enabled) }

/-- A slot of a landing die's controller is free, numbered as it comes: requests that have arrived join those waiting, and one of them is
granted where the zone's step opens the slot (R182, R185). -/
def execFlumeGrant (die : Nat) (turn : FlumeSlot) (s : State) : Host.Outcome State Fault Refusal :=
  .next (if !s.alive || decide (s.variant.landDies ≤ die) then s
    else
      let t := s.flumeArrive die turn.requests
      if slotOpen (s.zone die).step turn.slot then
        match t.flumePick die (t.land die).waiting with
        | none => t
        | some (r, c) => t.flumeTake die r c
      else t)

/-- Every MCLK the gates' buckets gain (R182). -/
def State.refillGates (s : State) : State :=
  s.img.gates.foldl (fun t p => if p.1 / 66 < s.variant.landDies then t.refill (p.1 / 66) (p.1 % 66) else t) s

/-- A request of a stand waits at a gate (R187). -/
def State.flumeWaits (s : State) (st : Nat) : Bool :=
  (List.range s.variant.landDies).any (fun l => (s.land l).waiting.any (fun r => decide (r.gate = st)))

/-- A 64 µs interval ends: a gate in which anything was requested takes a sample (R183). -/
def execFlumeBurstSample (die gate burstBytes : Nat) (busy : Bool) (s : State) : Host.Outcome State Fault Refusal :=
  let x := s.gate die gate
  .next (if s.alive ∧ die < s.variant.landDies ∧ gate < 66 ∧ (s.gateCfg die gate).enabled ∧ busy then
    s.setGate die gate { x with est := x.est + ((burstBytes : Rat) / 1024 - x.est) / 8, samples := min 32 (x.samples + 1) }
  else s)

end Sys2Proof.Machine
end

