-- ==== Sys2Proof/Machine/Waits.lean ====
section
/-! DEFINITION. What the commands in flight and the transactions received wait for, as the cycle counters name it (spec/00 R13, spec/01
R24, spec/04 R100, R104, R108, spec/05 R124, spec/06 R141, R154, spec/07 R187, spec/08 R190, R197, R207, R210, spec/09 R224, R225). -/

namespace Sys2Proof.Machine

/-- A counter that rises while a condition holds. -/
def holds (p : Bool) (k : Nat) : List Nat := if p then [k] else []

/-- The engine has come to a queued command and may begin it. -/
def StandSt.atTurn (x : StandSt) (c : Cmd) : Bool := decide (c.stage = .queued) && !x.hung c.ticket && x.turnOf c

/-- An operand in memory waits for an earlier step's optimiser (spec/01 R24). -/
def State.optimWaits (s : State) (st : Nat) (c : Cmd) (d : Desc) : Bool := (s.memParts st d).any (s.optimAhead st c)

/-- An operand in memory waits for an earlier SWEEP of its region (spec/08 R207). -/
def State.sweepWaits (s : State) (st : Nat) (c : Cmd) (d : Desc) : Bool := (s.memParts st d).any (s.sweepAhead st c.ticket)

/-- What a Skidder command that may go on waits for. -/
def State.skidHolds (s : State) (st : Nat) (c : Cmd) : List Nat :=
  let a := s.skidArgs st c.step c.bytes
  let moving := match s.planOf st c with
    | some p => s.planMoving st c p
    | none => s.scatterMoving st c a
  holds (a.operands.any (s.optimWaits st c)) cOrderStallCycles ++ holds (a.operands.any (s.sweepWaits st c)) cLndSweepHoldCycles ++
    holds moving cSkdOwnerWaitCycles ++ holds (s.matHolding st a.dst) cMatHoldCycles ++
    holds (decide (a.dst.space ≠ 2) && s.srcHeld st c.ticket a.dst) cTrsSrcHoldCycles ++
    holds (decide (c.opcode = 0x12) && s.deliveryInto st c a.dst) cLndOrderCycles

/-- An update group's OPTIM or RESTORE finds no room in a copy-ahead buffer (spec/08 R210). -/
def State.caWaits (s : State) (ks : List Nat) : Bool := (s.stageFor ((ks.flatMap s.tentBlocks).dedup)).isNone

/-- A RESTORE has all that its source gives, and nothing but a hold or the buffer keeps it from installing it. -/
def State.restoreReady (s : State) (st : Nat) (c : Cmd) : Bool :=
  ((s.stand st).atTurn c && !(restArgs c.bytes).remote) ||
    (decide (c.stage = .phase 2) && !(s.stand st).copying c.ticket && c.lost.isEmpty)

/-- The groups that an OPTIM or a RESTORE writes, where its work is due. -/
def State.writesGroups (s : State) (st : Nat) (c : Cmd) : List Nat :=
  if c.opcode = 0x20 then (if (s.stand st).atTurn c then [ugrpOf c.bytes] else [])
  else if c.opcode = 0x44 then
    (if s.restoreReady st c then groupSpan (restArgs c.bytes).ugrp (restArgs c.bytes).count else [])
  else []

/-- An OPTIM or a RESTORE waits on a full copy-ahead buffer alone (R210). -/
def State.caFullFor (s : State) (st : Nat) (c : Cmd) : Bool :=
  let ks := s.writesGroups st c
  !ks.isEmpty && !ks.any (fun k => (s.ugroup k).isSealed) && (decide (c.opcode ≠ 0x20) || !s.optimHeld st c) &&
    !ks.any (fun k => (s.rolesOf k).any (fun x => s.groupHeld st c.ticket k x.2)) && s.caWaits ks

/-- LND_STAND.CA_FULL: a write of the stand waits under R210 (spec/08 Table 8-9). -/
def State.caFull (s : State) (st : Nat) : Bool := (s.stand st).inflight.any (s.caFullFor st)

/-- A landing-engine command waits, an earlier one that touches an element of its having still to end (R190). -/
def State.landOrder (s : State) (st : Nat) (c : Cmd) : Bool :=
  c.onLanding && decide (c.stage = .queued) && (s.stand st).inflight.any (fun d =>
    decide (d.ticket < c.ticket) && d.onLanding && !d.ended && s.landMeets st d c)

/-- A SCATTER_ADD that its Skidder has come to waits for an earlier one's additions (spec/06 R154). -/
def State.scatterOrder (s : State) (st : Nat) (c : Cmd) : Bool :=
  decide (c.opcode = 0x12) && decide (c.stage = .queued) && (s.stand st).inflight.any (fun d =>
    decide (d.ticket < c.ticket) && decide (d.opcode = 0x12) && !d.ended && s.landMeets st d c) &&
  (s.stand st).inflight.all (fun d => decide (c.ticket ≤ d.ticket) || d.ended || decide (classOf d.opcode ≠ some 3) ||
    decide (d.clusterField ≠ c.clusterField))

/-- What a reduction waits for: its source before it begins, the held range that its result goes to, and a delivery's turn. -/
def State.redHolds (s : State) (st : Nat) (c : Cmd) : List Nat :=
  let a := redArgs c.bytes
  if c.stage = .queued then
    if a.op = 5 then [] else
      holds (s.optimWaits st c a.src) cOrderStallCycles ++ holds (s.sweepWaits st c a.src) cLndSweepHoldCycles
  else match (s.stand st).coll c.ticket with
    | some y =>
      if c.stage ≠ .phase 2 ∨ a.op = 5 ∨ s.rootLost st a ∨ !s.redReady st c a y then []
      else if a.dgrp then
        let n := a.received (decide (c.opcode = 0x31))
          (if c.opcode = 0x31 then (s.mtab st y.mtab).members.length else 1) ((s.rankIn st y.mtab).getD 0)
        let span := s.deliverySpan a.ugrp n
        holds (s.landingAhead st c a.ugrp span) cLndOrderCycles ++ holds (s.memHeld st c.ticket span) cTrsSrcHoldCycles
      else
        holds (decide (a.dst.space = 2) && ((s.stand st).others c.ticket).matHolds a.dst.cluster a.dst.core a.dst.span)
            cMatHoldCycles ++
          holds (decide (a.dst.space ≠ 2) && s.srcHeld st c.ticket a.dst) cTrsSrcHoldCycles ++
          holds (s.sweepWaits st c a.dst) cLndSweepHoldCycles
    | none => []

/-- The cycle counters whose condition a command in flight holds. -/
def State.cmdHolds (s : State) (st : Nat) (c : Cmd) : List Nat :=
  let x := s.stand st
  let turn := x.atTurn c
  let groupSrc (ks : List Nat) : Bool := ks.any (fun k => (s.rolesOf k).any (fun r => s.groupHeld st c.ticket k r.2))
  let row := rowArgs c.bytes
  let vec := vecArgs c.bytes
  holds (s.landOrder st c) cLndOrderCycles ++ holds (s.scatterOrder st c) cSkdScatterOrderCycles ++
    holds (s.caFullFor st c) cLndCaFullCycles ++
  (match c.opcode with
   | 0x01 | 0x02 => holds (turn && x.outHeld c) cMatHoldCycles ++
       holds (decide (c.stage = .running) && !c.todo.isEmpty) cMatKeepCycles
   | 0x08 => holds (turn && (coresOf vec.cores).any (fun r => x.matHolds vec.cluster r vec.descY.span)) cMatHoldCycles
   | 0x09 => if c.isTap then [] else
       holds (turn && x.entryHeld c) cBatEntryHoldCycles ++
       holds (turn && (coresOf row.cores).any (fun r => (row.ySpans ++ row.sumSpans).any (x.matHolds row.cluster r))) cMatHoldCycles
   | 0x20 => holds (turn && (s.ugroup (ugrpOf c.bytes)).isSealed) cLndSealWaitCycles ++
       holds (turn && x.deliveryAhead c (ugrpOf c.bytes)) cOrderStallCycles ++
       holds (turn && groupSrc [ugrpOf c.bytes]) cTrsSrcHoldCycles
   | 0x21 => holds (turn && x.deliveryAhead c (ugrpOf c.bytes)) cLndOrderCycles ++
       holds (turn && s.groupHeld st c.ticket (ugrpOf c.bytes) (s.tgroup (s.udef (ugrpOf c.bytes)).tgrp).g) cTrsSrcHoldCycles
   | 0x22 => holds (turn && s.sweepPinned st) cLndSweepHoldCycles ++ holds (turn && s.sweepSrcHeld st c) cTrsSrcHoldCycles ++
       holds (turn && s.sweepDelivery st c) cLndOrderCycles
   | 0x30 | 0x31 => if decide (c.stage = .queued) && !turn then [] else s.redHolds st c
   | 0x43 => holds (turn && s.ckptSwept st c) cLndSweepHoldCycles ++ holds (turn && s.ckptHeld st c) cTrsSrcHoldCycles
   | 0x44 =>
     let ks := s.writesGroups st c
     holds (ks.any (fun k => (s.ugroup k).isSealed)) cLndSealWaitCycles ++ holds (groupSrc ks) cTrsSrcHoldCycles ++
       holds (!ks.isEmpty && s.restSwept st c) cLndSweepHoldCycles
   | _ => if classOf c.opcode = some 3 ∧ (turn ∨ c.stage = .phase 1) ∧ !x.asking c.ticket then s.skidHolds st c else [])

/-- What a request received for a stand waits for in its port's buffer: staging room (spec/09 R225), a held source (R224, R235), or a
SWEEP (spec/08 R207). -/
def State.rxHolds (s : State) (st : Nat) : List Nat :=
  (List.range (ownEgress + 1)).flatMap (fun p => (s.port p).rxq.flatMap (fun y =>
    let t := y.txn
    if t.rsp ∨ t.dstand ≠ st ∨ !s.isMine t then []
    else match t.ttype with
      | 1 => if t.addr < resultBase ∧ s.mayRemote st t.addr t.payload.length true then
          holds (s.memHeld st (s.stand st).nextTicket (t.addr, t.addr + t.payload.length)) cTrsSrcHoldCycles ++
          holds (s.sweepBefore st t.addr t.payload.length) cLndSweepHoldCycles else []
      | 2 => holds (s.mayRemote st t.addr (fld t.payload 0 4) false && s.sweepBefore st t.addr (fld t.payload 0 4))
          cLndSweepHoldCycles
      | 3 => holds ((s.rankIn st (metaOf t.meta_).mtab).isSome && (s.takeContrib st t).isNone) cTrsStageWaitCycles
      | _ => []))

/-- A checked tile of the stand awaits its recompute, for which its core pauses (spec/04 R104). -/
def State.recomputes (s : State) (st : Nat) : Bool := s.integ.tiles.any (fun f => decide (f.stand = st))

/-- The cycle counters whose condition a stand's commands, requests and tiles hold. -/
def State.waitCycles (s : State) (st : Nat) : List Nat :=
  (((s.stand st).inflight.flatMap (s.cmdHolds st)) ++ s.rxHolds st ++ holds (s.recomputes st) cMatRecomputeCycles ++
    holds (s.flumeWaits st) cFlmWaitCycles).dedup

end Sys2Proof.Machine
end

