-- ==== Sys2Proof/Machine/RegRead.lean ====
section
/-! DEFINITION. What a read of BAR0 returns: every register table of the manual as a function of the state (spec/02 R35, R36, spec/00
R6, R10, R12). A read changes nothing, so no command of the table reads; these functions say what software sees. -/

namespace Sys2Proof.Machine

/-! ### Decoding an offset -/

/-- Registers of 8 bytes: the first offset of a run, how many, and the value of each. -/
abbrev Runs := List (Nat × Nat × (Nat → W64))

/-- The register at an offset; zero where no run has it (spec/02 R35). -/
def runAt : Runs → Nat → W64
  | [], _ => 0
  | (b, n, f) :: rest, o => if b ≤ o ∧ o < b + 8 * n ∧ (o - b) % 8 = 0 then f ((o - b) / 8) else runAt rest o

/-- A value where a unit is present, in use or reached; zero otherwise (spec/00 R6). -/
def when_ (b : Bool) (v : W64) : W64 := if b then v else 0

/-- A field in two's complement. -/
def twos (n : Nat) (x : Int) : Nat := (BitVec.ofInt n x).toNat

/-- An estimate as a register shows it. -/
def whole (x : Rat) : Nat := x.floor.toNat

/-! ### GLB, CHU, RES, EVT, TB (spec/02, spec/13, spec/14, spec/16) -/

def State.glbStatus (s : State) : W64 :=
  fields [(0, 1, b2n s.boot.imageVerified), (1, 1, b2n s.boot.hbmTrained), (2, 1, b2n s.boot.fabricReady),
    (3, 1, b2n s.boot.standsReady), (4, 1, b2n s.link0.up), (5, 1, b2n (s.hasLink .h1 && s.link1.up))]

/-- The highest rung in progress (Table 13-9, ACTIVE). -/
def RstStand.activeRung (x : RstStand) : Nat := (x.active.map Rung.rung).foldl max 0

def State.rstStand (s : State) (st : Nat) : W64 :=
  let r := (s.stand st).rst
  fields [(0, 3, r.activeRung), (3, 3, r.last), (6, 4, r.ctx), (10, 3, r.cause), (13, 1, b2n (!r.fenced.isEmpty)), (32, 32, r.tLast.toNat)]

def State.glbReg (s : State) (l : LinkId) : Runs :=
  [(0, 1, fun _ => s.glbStatus),
   (0x10, 1, fun _ => fields [(30, 10, (s.link l).bar4Base)]),
   (0x100, 1, fun _ => fields [(0, 16, s.img.waitLimitMs), (16, 1, b2n s.img.sample), (17, 1, b2n s.img.spareRequest)]),
   (0x110, 1, fun _ => fields ([(0, 4, s.rst.cause), (32, 32, s.rst.duration.toNat)] ++
      (match s.rst.subst with
       | some (d, sp) => [(4, 1, 1), (5, 5, d), (10, 5, sp)]
       | none => []))),
   (0x200, 1, fun _ => fields [(0, 12, s.boot.tWarden), (12, 12, s.boot.tImage), (24, 12, s.boot.tHbm), (36, 12, s.boot.tFabric),
      (48, 12, s.boot.tStands), (60, 3, s.boot.fault)]),
   (0x208, 1, fun _ => s.glbImage),
   (0x210, 1, fun _ => fields [(0, 16, s.boot.section_), (16, 24, s.boot.entry)]),
   (0x1000, 64, s.rstStand)]

/-- The head command waits under R47: its packet is at the head, and neither a refusal nor an issue can take it now.  DESIGN CHOICE: a
packet that is not complete is no waiting head command, for HEAD_WAIT and for HEAD_STALL_CYCLES; R47 lists completeness among the issue
conditions, and R43 speaks of the head packet. -/
def State.headHeld (s : State) (st : Nat) : Bool :=
  let x := s.stand st
  match x.chute.packets with
  | [] => false
  | p :: _ =>
    if p.verdict ≠ 0 ∨ x.headDiscarded then x.freeSlot.isNone
    else match s.issuable st with
      | none => true
      | some _ => match s.issueCheck st p.bytes with
        | some _ => x.freeSlot.isNone
        | none => (x.freeSlot.isNone && !slotless p.bytes) ||
            (decide (fld p.bytes 0 1 = 0x40) && s.stepBeginWaits st)

/-- CHU_STATUS (Table 2-6). -/
def State.chuStatus (s : State) (st : Nat) : W64 :=
  let c := (s.stand st).chute
  fields [(0, 13, c.free), (13, 1, b2n (decide (c.free = 0))), (14, 1, b2n c.part.isSome), (15, 1, b2n c.discard),
    (16, 1, b2n c.overrun), (17, 1, b2n c.ptrReset), (18, 1, b2n c.xlink), (19, 1, b2n c.badLength),
    (20, 2, match c.part with | some p => (match p.link with | .h0 => 1 | .h1 => 2) | none => 0),
    (22, 1, b2n (s.headHeld st)), (23, 1, 1), (24, 6, match c.part with | some p => p.bytes.length / 64 | none => 0)]

def State.chuReg (s : State) (st : Nat) : Runs :=
  if !(s.cfg st).enabled then []
  else
    let x := s.stand st
    let g := s.cfg st
    [(0, 1, fun _ => s.chuStatus st),
     (0x10, 1, fun _ => fields [(0, 32, x.chute.seq.toNat), (32, 1, b2n x.chute.seqValid)]),
     (0x18, 1, fun _ => fields [(0, 16, g.contexts.toNat), (16, 1, b2n g.h0), (17, 1, b2n g.h1), (24, 7, g.clusters.length)])]

def State.resReg (s : State) (st : Nat) : Runs :=
  if !(s.cfg st).enabled then []
  else
    let x := s.stand st
    [(0x08, 1, fun _ => fields [(0, 8, x.cursor), (8, 9, x.heldSlots)]),
     (0x20, 4, fun k => BitVec.ofNat 64 (mapOf 64 (fun n => decide ((x.slot (64 * k + n)).st = SlotSt.ready))))]

/-- A result slot's 64 bytes (Table 2-15). -/
def Slot.bytes (x : Slot) : List Byte :=
  (natLe 4 x.seq.toNat ++ natLe 2 x.status.toNat ++ natLe 2 x.gen.toNat ++ natLe 1 (b2n (decide (x.st = SlotSt.ready))) ++
    natLe 1 x.ctx ++ natLe 1 x.op ++ List.replicate 5 0 ++ x.payload ++ List.replicate 48 0).take 64

/-- A byte of BAR2: a result slot's, and zero elsewhere (spec/02 R37, R51). -/
def State.readBar2 (s : State) (off : Nat) : Byte :=
  let st := off / 2 ^ 21
  let o := off % 2 ^ 21
  if st < 64 ∧ (s.cfg st).enabled ∧ 2 ^ 20 ≤ o ∧ o < 2 ^ 20 + 16384 then
    (((s.stand st).slot ((o - 2 ^ 20) / 64)).bytes).getD (o % 64) 0
  else 0

def State.evtReg (s : State) (st : Nat) : Runs :=
  let x := s.stand st
  [(0, 256, fun i => fields [(0, 32, (x.evt.get 0 i).toNat)]), (0x1000, 256, fun i => fields [(0, 32, (x.wait.get 0 i).toNat)])]

/-- The MSI-X table and pending bits of a link (spec/02 R54, layout of the base specification). -/
def State.msixReg (s : State) (l : LinkId) : Runs :=
  let h := s.link l
  [(0x4000, 128, fun i => let e := h.msix.get MsixEntry.reset (i / 2)
      if i % 2 = 0 then e.addr else fields [(0, 32, e.data.toNat), (32, 1, b2n e.masked)]),
   (0x5000, 1, fun _ => BitVec.ofNat 64 (mapOf 64 h.pba.contains))]

def State.tbReg (s : State) : Runs :=
  let y := s.clock.sync
  [(0, 1, fun _ => s.clock.now),
   (8, 1, fun _ => fields [(0, 1, b2n (decide (y.slew ≠ 0))), (1, 1, b2n (decide (y.slew < 0))), (2, 1, b2n (decide (0 < y.hold))),
      (3, 1, b2n y.stepped), (4, 1, b2n s.power.osc)])]

/-! ### MAT, VEC, BAT, SKD (spec/04 to spec/06) -/

/-- MAT_STATE.ROLE (Table 4-13). -/
def State.role (s : State) (c : Nat) : Nat :=
  if !s.dieInService (dieOfCore c) then 3
  else if (s.core c).retired then 2
  else if c % 5 = 4 ∧ (s.core c).logical = none then 1 else 0

def State.matState (s : State) (g : Nat) : W64 :=
  let a := s.array g
  fields [(0, 2, s.role (g / 4)), (2, 1, b2n (s.core (g / 4)).cruise), (3, 1, b2n a.remapped),
    (4, 2, min 3 (a.faults.filter (fun f => s.recent f.1)).length)]

/-- A product in flight holds operand ranges of the core (R100). -/
def State.coreHolds (s : State) (c : Nat) : Bool :=
  match s.clusterOwner (c / 5), (s.core c).logical with
  | some st, some r => (s.stand st).inflight.any (fun d =>
      (decide (d.opcode = 1) || decide (d.opcode = 2)) && decide (s.standCluster st (matArgs d.bytes).cluster = some (c / 5)) &&
        (matArgs d.bytes).selects r)
  | _, _ => false

def State.matCore_ (s : State) (c : Nat) : W64 :=
  let x := s.core c
  let o := s.clusterOwner (c / 5)
  fields [(0, 3, x.logical.getD 7), (3, 1, b2n x.kept0.held), (4, 1, b2n x.kept1.held), (5, 4, if x.kept0.held then x.kept0.ctx else 0),
    (9, 4, if x.kept1.held then x.kept1.ctx else 0), (13, 6, o.getD 0), (19, 1, b2n o.isSome), (20, 1, b2n (s.coreHolds c))]

def State.matReg (s : State) : Runs :=
  let there (c : Nat) : Bool := s.variant.hasDie (dieOfCore c)
  [(0, 1, fun _ => 0x0060080010474040),
   (8, 1, fun _ => fields [(0, 5, s.img.checkInterval), (8, 8, s.img.thrProfile), (16, 1, 1)]),
   (0x1000, 1440, fun g => when_ (there (g / 4)) (fields [(0, 7, (s.array g).column), (7, 1, b2n (s.array g).remapped)])),
   (0x4000, 1440, fun g => when_ (there (g / 4)) (s.matState g)),
   (0x8000, 360, fun c => when_ (there c) (s.matCore_ c))]

def State.vecReg (s : State) : Runs :=
  [(0, 1, fun _ => 0x00000000037ffe40),
   (8, 1, fun _ => Config.tableId.setWidth 64),
   (0x1000, 360, fun c => when_ (s.variant.hasDie (dieOfCore c))
      (fields [(0, 2, min 3 ((s.core c).laneFaults.filter s.recent).length), (2, 10, (s.core c).lastLane)]))]

/-- A ROWOP other than a tap on the core that waits in its queue behind an entry access (R124). -/
def State.entryHold (s : State) (c : Nat) : Bool :=
  match s.clusterOwner (c / 5) with
  | some st => (s.onEngine st (.batten c)).any (fun d => decide (d.stage = .queued) && (s.stand st).entryHeld d)
  | none => false

def State.batReg (s : State) : Runs :=
  [(0, 1, fun _ => 0x0000110401000100),
   (0x1000, 360, fun c => let x := s.core c
      when_ (s.variant.hasDie (dieOfCore c)) (fields [(0, 4, mapOf 4 (fun n => x.taps.any (fun t => decide (t.slotNo = n)))),
        (4, 1, b2n (s.entryHold c)), (16, 12, match x.taps with | t :: _ => t.next | [] => 0)]))]

/-- SKD_CLUSTER (Table 6-9). -/
def State.skdCluster (s : State) (x : Nat) : W64 :=
  let o := s.clusterOwner x
  let cs : List Cmd := match o with
    | some st => (s.stand st).inflight.filter (fun d => decide (classOf d.opcode = some 3) &&
        decide (s.standCluster st d.clusterField = some x) && !d.ended)
    | none => []
  let run := cs.filter (fun d => decide (d.stage ≠ .queued))
  fields [(0, 6, (cs.filter (fun d => decide (d.stage = .queued))).length), (6, 1, b2n (!run.isEmpty)),
    (7, 1, b2n (run.any (fun d => decide (d.opcode = 0x13)))), (8, 6, o.getD 0), (14, 1, b2n o.isSome),
    (15, 1, b2n (match o with
      | some st => run.any (fun d => (s.stand st).reqs.any (fun q => decide (q.what = ReqFor.skidder d.ticket)))
      | none => false))]

def State.skdReg (s : State) : Runs :=
  [(0, 1, fun _ => fields [(0, 4, 5), (4, 4, 5), (8, 4, 8), (12, 8, 16), (24, 16, 4096), (40, 1, b2n s.variant.hasBucker), (41, 1, 1)]),
   (8, 1, fun _ => if s.variant.hasBucker then 0x000000000403f44b else 0),
   (0x1000, 72, fun x => when_ (s.variant.hasDie (dieOfCluster x)) (s.skdCluster x)),
   (0x2000, 1024, fun k => let t := s.owner (k / 16) (k % 16)
      when_ t.loaded (fields [(0, 1, 1), (1, 5, t.blockLog2), (6, 13, t.entries.length), (32, 32, t.version.toNat)]))]

/-! ### MEM, FLM, LND (spec/07, spec/08) -/

def State.memStack (s : State) (n : Nat) : W64 :=
  let x := s.stack n
  fields [(0, 1, 1), (1, 1, b2n x.trained), (2, 8, x.temp), (10, 2, x.step), (12, 1, b2n x.refresh2x), (13, 1, b2n x.pcDir.isSome),
    (14, 13, x.rowDir.length), (27, 7, x.bankDir.length), (34, 1, b2n x.dirFull)]

def Region.words (r : Region) (w : Nat) : W64 :=
  if !r.valid then 0
  else if w = 0 then fields [(0, 1, 1), (1, 1, b2n r.sharedRo), (2, 1, b2n r.hostWr), (3, 1, b2n r.trainable), (4, 5, r.granLog2),
    (9, 3, r.rot), (12, 8, r.group), (20, 6, r.owner), (32, 31, r.base / 512)]
  else fields [(0, 31, r.size / 512)]

def State.memReg (s : State) : Runs :=
  [(0, 1, fun _ => fields [(0, 8, s.variant.stacks), (8, 8, 0x24), (16, 8, 0x50), (24, 8, 8), (32, 8, 0x20),
      (40, 10, s.variant.visibleBytes / 2 ^ 30)]),
   (8, 1, fun _ => fields [(0, 32, s.mem.passes.toNat), (32, 16, spanCount s.mem.scrubbed * 65536 / scrubBlocks s.variant)]),
   (0x1000, 32, fun n => when_ (decide (n < s.variant.stacks)) (s.memStack n)),
   (0x1400, 8, fun l => when_ (decide (l < s.variant.landDies)) (fields [(0, 16, poolTotal s.variant l),
      (16, 16, poolTotal s.variant l - ceilDiv (s.poolTaken l) (2 ^ 20))])),
   (0x2000, 512, fun k => (s.region (k / 2)).words (k % 2)),
   (0x4000, 4096, fun k => let e := s.sreg (k / 64) (k % 64)
      when_ ((s.cfg (k / 64)).enabled && decide (k % 64 < 32) && e.valid) (fields [(0, 8, e.region), (8, 1, 1), (9, 1, b2n e.write), (10, 1, b2n e.remote),
        (16, 16, e.contexts.toNat)]))]

/-- A gate of a landing die that is there and in use: a stand's gate is its stand's (R186). -/
def State.gateOn (s : State) (k : Nat) : Bool :=
  decide (k / 128 < s.variant.landDies) && decide (k % 128 < 66) && (decide (64 ≤ k % 128) || (s.cfg (k % 128)).enabled) && (s.gateCfg (k / 128) (k % 128)).enabled

def State.flmReg (s : State) : Runs :=
  [(0, 1, fun _ => 0x00000010c00fff42),
   (0x1000, 1024, fun k => let c := s.gateCfg (k / 128) (k % 128)
      when_ (s.gateOn k) (fields [(0, 12, c.rate), (12, 12, c.floor), (24, 13, c.burstMax), (37, 13, c.seed), (50, 1, 1)])),
   (0x4000, 1024, fun k => let g := s.gate (k / 128) (k % 128)
      when_ (s.gateOn k) (fields [(0, 13, whole (s.gateDepth (k / 128) (k % 128))), (13, 13, whole g.est), (26, 6, g.samples),
        (32, 1, b2n (decide (32 ≤ g.samples))), (33, 2, (s.zone (k / 128)).step)]))]

/-- A pin protects the group's committed copy (spec/08 R208). -/
def State.groupPinned (s : State) (k : Nat) : Bool :=
  (s.stand (s.udef k).owner).steps.copy.any (fun b => b.groups.any (fun g => decide (g.1 = k)))

def State.lndUstate (s : State) (k : Nat) : W64 :=
  let g := s.ugroup k
  fields [(0, 1, 1), (1, 1, b2n g.sel), (2, 1, b2n g.tent), (3, 1, b2n g.isSealed), (4, 1, b2n g.damaged), (5, 1, b2n (s.groupPinned k)),
    (6, 1, b2n (decide (32 ≤ g.optims))), (7, 6, g.optims), (13, 8, twos 8 g.u), (32, 32, g.tstep.toNat)]

def UDef.words (u : UDef) (w : Nat) : W64 :=
  if !u.isDefined then 0
  else if w = 0 then fields [(0, 8, u.tgrp), (8, 1, 1), (9, 6, u.owner), (16, 16, u.tag.toNat)]
  else fields [(0, 28, u.first4k), (28, 28, u.count4k), (56, 8, twos 8 u.seedU)]

def State.lndReg (s : State) : Runs :=
  [(0, 1, fun _ => 0x0004010020004010),
   (0x800, 64, fun st => let x := (s.stand st).steps
      when_ (s.cfg st).enabled (fields [(0, 32, x.committed.toNat), (32, 1, b2n x.copy.isSome), (33, 1, b2n (s.caFull st))])),
   (0x1000, 256, fun t => let g := s.tgroup t
      fields [(0, 8, g.p), (8, 8, g.ps), (16, 8, g.m1), (24, 8, g.m1s), (32, 8, g.m2), (40, 8, g.m2s), (48, 8, g.g)]),
   (0x1800, 256, fun r => let t := s.twinOf r
      fields [(0, 8, if t.valid then t.twin else 0), (8, 1, b2n t.valid), (9, 2, t.width), (11, 2, t.block), (13, 1, b2n t.isScale)]),
   (0x10000, 8192, fun k => when_ (s.udef k).isDefined (s.lndUstate k)),
   (0x20000, 16384, fun k => (s.udef (k / 2)).words (k % 2))]

/-! ### TRS, CSK (spec/09, spec/10) -/

/-- The ledger is full for a window that is due: its close is held (spec/09 R230). -/
def State.ledgerHolds (s : State) (st : Nat) : Bool :=
  let x := s.stand st
  x.colls.any (fun y => match x.cmd y.ticket, s.rankIn st y.mtab with
    | some c, some my => (List.range (s.mtab st y.mtab).members.length).any (fun k =>
        s.windowDue st c y k && (match s.windowEnd st y k with
          | some e => let late := s.lateRanks st y my k e
            !late.isEmpty && decide (4096 < x.openOwn.length + late.length)
          | none => false))
    | _, _ => false)

/-- The governor mode in force: while a step is replayed the one in its record, else the last that a STEP_BEGIN chose (spec/09
R240). -/
def StepSt.modeNow (x : StepSt) : Nat :=
  match x.replay.bind (fun r => r.steps.head?) with
  | some n => x.govOf (some n)
  | none => x.gov

def State.trsStand (s : State) (st : Nat) : W64 :=
  let x := s.stand st
  let kib := s.ownedKib st (fun _ => none)
  fields [(0, 2, x.steps.modeNow), (2, 1, b2n (s.windowOpen st)), (3, 1, b2n (decide ((s.cfg st).budgetKib < kib))), (4, 13, x.openOwn.length),
    (17, 1, b2n (s.ledgerHolds st)), (32, 32, kib / 1024)]

def State.trsMtab (s : State) (st m : Nat) : W64 :=
  let t := s.mtab st m
  when_ t.loaded (fields [(0, 1, 1), (1, 1, b2n t.tg), (2, 9, t.members.length), (11, 8, (s.rankIn st m).getD 0),
    (19, 1, b2n (s.rankIn st m).isSome), (32, 32, t.version.toNat)])

def State.trsReg (s : State) : Runs :=
  [(0, 1, fun _ => 0x0401000088010010),
   (0x800, 64, fun st => when_ (s.cfg st).enabled (s.trsStand st)),
   (0xc00, 64, fun st => let c := s.cfg st
      when_ c.enabled (fields [(0, 16, c.lateMaxUs), (16, 16, c.lateMinUs), (32, 16, c.budgetGib), (48, 4, c.act), (52, 4, c.spill),
        (56, 1, b2n c.spillValid), (57, 1, b2n c.govTest)])),
   (0x1000, 1024, fun k => when_ (s.cfg (k / 16)).enabled (s.trsMtab (k / 16) (k % 16))),
   (0x3000, 1024, fun k => when_ (s.cfg (k / 16)).enabled (fields [(0, 32, (s.mtab (k / 16) (k % 16)).inst.toNat)])),
   (0x20000, 16384, fun k => let e := s.late (k / 256) (k % 256)
      when_ (s.cfg (k / 256)).enabled (fields [(0, 16, whole e.est), (16, 16, whole (s.windowUs (k / 256) (k % 256))), (32, 6, e.samples),
        (38, 1, b2n (decide (32 ≤ e.samples)))]))]

def PortMode.code : PortMode → Nat
  | .down => 0
  | .training => 1
  | .quiet => 2
  | .ramp => 3
  | .active => 4
  | .retrain => 5
  | .miscabled => 6

def State.cskPortState (s : State) (p : Nat) : W64 :=
  let x := s.port p
  fields [(0, 3, x.mode.code), (3, 1, b2n x.degraded), (4, 4, x.spareFor.getD 15), (8, 2, x.rampStep), (12, 16, x.peerDevice.toNat),
    (28, 6, x.peerPort)]

/-- A signed value of 16 bits, saturating. -/
def sat16s (x : Int) : Nat := twos 16 (max (-32768) (min 32767 x))

def State.cskReg (s : State) : Runs :=
  let y := s.clock.sync
  [(0, 1, fun _ => match s.variant with | .f => 0x000404000cc8491c | .e => 0x0004040009c84915),
   (8, 1, fun _ => fields [(0, 16, s.img.deviceId.toNat), (16, 1, b2n s.img.timeRoot), (32, 16, s.img.txnTimeoutMs), (48, 4, s.img.wColl),
      (52, 4, s.img.wBulk)]),
   (0x10, 1, fun _ => fields [(0, 1, b2n y.synced), (1, 5, s.img.parentPort), (16, 16, sat16s y.offset), (32, 16, twos 16 y.delay)]),
   (0x18, 1, fun _ => fields [(0, 32, s.img.routeVersion.toNat), (32, 17, (s.img.routes.filter (fun r => r.2.valid)).length)]),
   (0x1000, 28, fun p => let c := s.portCfg p
      when_ (decide (p < s.variant.ports) && c.enabled) (fields [(0, 1, 1), (1, 2, c.iface), (3, 1, b2n c.checkPeer), (4, 4, c.bond),
        (16, 16, c.peerDevice.toNat), (32, 6, c.peerPort)])),
   (0x1400, 28, fun p => when_ (decide (p < s.variant.ports)) (s.cskPortState p)),
   (0x1800, 28, fun p => let x := s.port p
      when_ (decide (p < s.variant.ports)) (fields [(0, 9, x.locked), (9, 9, x.failed), (18, 4, x.width)])),
   (0x1c00, 12, fun b => let c := s.bondCfg b
      when_ (decide (b < 3 * s.variant.linkDies)) (fields [(0, 3, c.ports), (3, 3, (s.bondUp b).length), (6, 1, b2n (s.bond b).locked), (8, 8, (s.bond b).skew), (16, 5, c.firstPort)]))]

/-! ### DCK, LKO (spec/12) -/

def State.dckStand (s : State) (st : Nat) : W64 :=
  let x := (s.stand st).steps
  fields [(0, 7, x.records.length), (7, 1, b2n x.openStep.isSome), (8, 1, b2n (x.rollback.isSome || x.inReplay)),
    (9, 1, b2n x.halted),
    (10, 1, b2n x.restored.isSome), (11, 1, b2n (x.records.any (fun r => r.mark.isSome))), (12, 1, b2n (x.records.any (fun r => r.overflow))),
    (13, 1, b2n x.nextValid), (14, 1, b2n x.committedValid), (15, 1, b2n x.expelled), (16, 4, x.round),
    (20, 1, b2n (x.copy.any (fun b => b.ticket.isNone))), (21, 1, b2n x.mirrorWait.isSome), (32, 32, x.deckUsed / 2 ^ 20)]

def State.dckMark (s : State) (st : Nat) : W64 :=
  match (s.stand st).steps.records.find? (fun r => r.mark.isSome) with
  | some r => fields [(0, 32, r.step.toNat), (32, 4, r.mark.getD 0), (36, 1, 1)]
  | none => 0

def State.dckReg (s : State) : Runs :=
  [(0, 1, fun _ => 0x0006010040404000),
   (0x800, 64, fun st => let c := s.cfg st
      when_ c.enabled (fields [(0, 7, c.blazeK), (8, 4, c.replayMax), (16, 16, c.deckMib), (32, 16, c.commitWaitMs)])),
   (0x1000, 64, fun st => when_ (s.cfg st).enabled (s.dckStand st)),
   (0x1400, 64, fun st => when_ (s.cfg st).enabled (s.stand st).steps.next),
   (0x1800, 64, fun st => when_ (s.cfg st).enabled (s.stand st).steps.committed),
   (0x1c00, 64, fun st => when_ (s.cfg st).enabled (s.dckMark st))]

/-- LKO_PEER (Table 12-21). -/
def Peer.word (p : Peer) : W64 :=
  fields [(0, 16, p.device.toNat), (16, 3, p.state.code), (19, 3, p.source), (22, 1, b2n (decide (32 ≤ p.samples))), (23, 6, p.samples),
    (29, 16, whole p.est), (45, 8, p.saplingLeft)]

def State.lkoReg (s : State) : Runs :=
  [(0, 1, fun _ => 0x0000000020ff0100),
   (8, 1, fun _ => fields [(0, 16, s.img.hbPeriodUs), (16, 16, s.img.deadMs), (32, 8, s.img.saplingSteps), (40, 16, s.img.jitterSeedUs)]),
   (0x1000, 16384, fun k => match (s.stand (k / 256)).peers[k % 256]? with
      | some p => when_ (s.cfg (k / 256)).enabled p.word
      | none => 0)]

/-! ### PWR, THM, WDN (spec/15, spec/16) -/

def State.pwrReg (s : State) : Runs :=
  let p := s.power
  [(0, 1, fun _ => fields [(0, 5, p.p), (5, 1, b2n p.fast), (8, 3, p.lastOff.code), (16, 16, s.img.powerLimitW), (32, 16, p.inputW)]),
   (0x1000, 20, fun n => let d := s.domain n
      when_ (domainUsed s.variant n) (fields [(0, 1, 1), (1, 1, b2n d.on), (2, 4, domainN n + 2), (6, 3, min 7 d.failed.length),
        (9, 1, b2n d.derated), (10, 1, b2n d.fault)]))]

def State.thmReg (s : State) : Runs :=
  [(0x1000, 8, fun z => let x := s.zone z
      when_ (decide (z < s.variant.zones)) (fields [(0, 2, x.step), (2, 1, b2n x.early), (3, 1, b2n (decide (32 ≤ x.samples))), (4, 6, x.samples),
        (10, 16, twos 16 x.est.floor), (26, 8, x.tz)])),
   (0x2000, 32, fun d => let x := s.die d
      when_ (s.variant.hasDie d) (fields [(0, 8, x.tj), (8, 1, b2n x.hot), (9, 1, b2n x.held)]))]

def MboxMode.code : MboxMode → Nat
  | .free => 0
  | .assembling => 1
  | .busy => 2
  | .ready => 3

def Mbox.word (m : Mbox) : W64 :=
  fields [(0, 2, m.mode.code), (2, 2, match m.owner with | some .h0 => 1 | some .h1 => 2 | none => 0), (4, 1, b2n m.ignored),
    (16, 16, m.gen.toNat), (32, 32, m.req.length)]

def State.wdnReg (s : State) : Runs :=
  [(0, 1, fun _ => 0x0000142512400404), (8, 1, fun _ => s.wdnStatus)] ++
    (List.range 4).map (fun m => (0x1000 + 0x40 * m, 1, fun _ => (s.mbox m).word))

/-- A byte of a mailbox's response window (R387, R389): the header, and the data from byte 64. -/
def Mbox.rspByte (m : Mbox) (o : Nat) : Byte :=
  if o < 64 then (natLe 4 m.tag.toNat ++ natLe 2 m.status.toNat ++ natLe 2 m.gen.toNat ++ natLe 4 (b2n (decide (m.mode = .ready))) ++
    natLe 4 m.data.length).getD o 0
  else m.data.getD (o - 64) 0

/-- Eight bytes of a response window. -/
def Mbox.rspWord (m : Mbox) (o : Nat) : W64 := BitVec.ofNat 64 (leNat ((List.range 8).map (fun i => m.rspByte (o + i))))

/-! ### The map (spec/02 Tables 2-2, 2-3) -/

/-- The register at an offset of a block-private window. -/
def State.windowReg (s : State) (w o : Nat) : W64 :=
  match w with
  | 0 => runAt s.matReg o
  | 1 => runAt s.vecReg o
  | 2 => runAt s.batReg o
  | 3 => runAt s.skdReg o
  | 4 => runAt s.memReg o
  | 5 => runAt s.flmReg o
  | 6 => runAt s.lndReg o
  | 7 => runAt s.trsReg o
  | 8 => runAt s.cskReg o
  | 9 => runAt s.dckReg o
  | 10 => runAt s.lkoReg o
  | 11 => runAt s.pwrReg o
  | 12 => runAt s.thmReg o
  | _ => 0

/-- The 64-bit register at an aligned offset of BAR0, as one link reads it. -/
def State.readBar0 (s : State) (l : LinkId) (o : Nat) : W64 :=
  if o < 0x10000 then runAt [(8, 1, fun _ => s.capCounts), (0x10, 1, fun _ => s.capUnits)] o
  else if o < 0x100000 then runAt (s.glbReg l) (o - 0x10000)
  else if o < 0x104000 then runAt (s.chuReg ((o - 0x100000) / 0x100)) (o % 0x100)
  else if 0x200000 ≤ o ∧ o < 0x204000 then runAt (s.resReg ((o - 0x200000) / 0x100)) (o % 0x100)
  else if 0x204000 ≤ o ∧ o < 0x300000 then runAt (s.msixReg l) (o - 0x200000)
  else if 0x300000 ≤ o ∧ o < 0x380000 then
    when_ (s.cfg ((o - 0x300000) / 0x2000)).enabled (runAt (s.evtReg ((o - 0x300000) / 0x2000)) (o % 0x2000))
  else if 0x400000 ≤ o ∧ o < 0x800000 then (s.counters.get ((o - 0x400000) / 8)).setWidth 64
  else if 0x800000 ≤ o ∧ o < 0xc00000 then runAt s.tbReg (o - 0x800000)
  else if 0xc00000 ≤ o ∧ o < 0x1000000 then s.windowReg ((o - 0xc00000) / 0x40000) (o % 0x40000)
  else if 0x1200000 ≤ o ∧ o < 0x1600000 then (s.mbox ((o - 0x1200000) / 0x100000)).rspWord (o % 0x100000)
  else if 0x1000000 ≤ o ∧ o < 0x4000000 then runAt s.wdnReg (o - 0x1000000)
  else 0

end Sys2Proof.Machine
end

