-- ==== Sys2Proof/Machine/Registers.lean ====
section
/-! DEFINITION. REGISTER_WRITE: writes to BAR0 registers (spec/00 R9-R11, spec/02 R35, R43, R52, R54; spec/13 R354; spec/15 R387). -/

namespace Sys2Proof.Machine

/-- The bits of a 64-bit register that a write of `width` bytes at an offset covers, and the value in place (R11). -/
def coverOf (off width : Nat) (value : W64) : W64 × W64 :=
  let sh := 8 * (off % 8)
  let m : W64 := BitVec.ofNat 64 ((2 ^ (8 * width) - 1) * 2 ^ sh)
  (m, (value <<< sh) &&& m)

/-- Bits of a written value that a W1C field clears: the bit is set in `v`. -/
def w1c (old : Bool) (v : W64) (n : Nat) : Bool := old && !v.getLsbD n

/-- CHU_STATUS written: its four sticky bits are cleared by ones (Table 2-6). -/
def Chute.writeStatus (c : Chute) (v : W64) : Chute :=
  { c with
    overrun := w1c c.overrun v 16, ptrReset := w1c c.ptrReset v 17, xlink := w1c c.xlink v 18
    badLength := w1c c.badLength v 19 }

/-- GLB_BAR4_BASE written: bits below the BAR4 size are cleared (Table 2-5). -/
def HostLink.writeBase (h : HostLink) (m v : W64) : HostLink :=
  let old := BitVec.ofNat 64 (h.bar4Base * 2 ^ 30)
  let new := ((old &&& ~~~m) ||| v).toNat
  { h with bar4Base := bits new 39 30 / 2 ^ h.bar4Log2 * 2 ^ h.bar4Log2 }

/-- GLB_RST_REQ written (Table 13-7, spec/13 R354). -/
def State.writeRstReq (s : State) (l : LinkId) (v : W64) : State :=
  let n := v.toNat
  if bits n 1 0 = 1 then s.requestContext l (bits n 13 8) (bits n 19 16)
  else if bits n 1 0 = 3 then s.requestStand l (bits n 13 8)
  else s.countModule cRstReqIgnored

/-- An MSI-X table word written (spec/02 R54; the base specification's entry: address, data, vector control). -/
def State.writeMsix (s : State) (l : LinkId) (i : Nat) (m v : W64) : State :=
  let h := s.link l
  let e := h.msix.get MsixEntry.reset (i / 2)
  let e' : MsixEntry :=
    if i % 2 = 0 then { e with addr := ((e.addr &&& ~~~m) ||| v) &&& ~~~3#64 }
    else
      let w := ((((e.data.setWidth 64) ||| (if e.masked then 2 ^ 32 else 0)) &&& ~~~m) ||| v)
      { e with data := w.setWidth 32, masked := w.getLsbD 32 }
  (s.setLink l { h with msix := h.msix.set (i / 2) e' }).msixFlush l

/-- WDN_MBOX_CTRL written (Table 15-10). -/
def State.writeMboxCtrl (s : State) (k : Nat) (v : W64) : State :=
  let m := s.mbox k
  let m := if v.getLsbD 0 ∧ m.mode = .assembling then m.freed else m
  let m := if v.getLsbD 1 ∧ m.mode = .ready ∧ m.gen = (v >>> 16).setWidth 16 then m.freed else m
  s.setMbox k m

/-- A CHU register written: CHU_STATUS and CHU_CTRL take writes (Tables 2-6, 2-7). -/
def State.writeChu (s : State) (st o : Nat) (v : W64) : State :=
  if !(s.cfg st).enabled then s
  else if o = 0 then s.setChute st ((s.stand st).chute.writeStatus v)
  else if o = 8 ∧ v.getLsbD 0 then s.drop st
  else s

/-- A register of BAR0 written: `m` the bits that the write covers, `v` their values; registers without a writable field, reserved
offsets and registers of absent units ignore it (R9, R10, spec/00 R6, spec/02 R35). -/
def State.writeBar0 (s : State) (l : LinkId) (o : Nat) (m v : W64) : State :=
  if o = 0x10010 then s.setLink l ((s.link l).writeBase m v)
  else if o = 0x10108 then s.writeRstReq l v
  else if 0x100000 ≤ o ∧ o < 0x104000 then s.writeChu ((o - 0x100000) / 0x100) (o % 0x100) v
  else if 0x200000 ≤ o ∧ o < 0x204000 ∧ o % 0x100 = 0 then s.release ((o - 0x200000) / 0x100) (bits v.toNat 7 0) ((v >>> 16).setWidth 16)
  else if 0x204000 ≤ o ∧ o < 0x204400 then s.writeMsix l ((o - 0x204000) / 8) m v
  else if 0x1001000 ≤ o ∧ o < 0x1001100 then
    let k := (o - 0x1001000) / 0x40
    if o % 0x40 = 0 then s.setMbox k { s.mbox k with ignored := w1c (s.mbox k).ignored v 4 }
    else if o % 0x40 = 8 then s.writeMboxCtrl k v
    else s
  else s

/-- REGISTER_WRITE: of 8 bytes, or of 4 bytes that lie in one register. -/
def execRegisterWrite (link : LinkId) (offset width : Nat) (value : W64) (s : State) : Host.Outcome State Fault Refusal :=
  .next (if s.reaches link ∧ (width = 4 ∨ width = 8) ∧ offset % width = 0 then
    let (m, v) := coverOf offset width value
    s.writeBar0 link (offset / 8 * 8) m v
  else s)

end Sys2Proof.Machine
end

