-- ==== Sys2Proof/Machine/Thermal.lean ====
section
/-! DEFINITION. Temperatures and throttle steps (spec/07 R180, R184; spec/16 R402, R405), refresh and recalibration. -/

namespace Sys2Proof.Machine

/-- The step that a stack temperature gives (spec/07 Table 7-4). -/
def tempStep (t : Nat) : Nat := if t ≥ 95 then 3 else if t ≥ 92 then 2 else if t ≥ 88 then 1 else 0

/-- The threshold of a step in °C (spec/07 Table 7-4). -/
def stepThreshold (k : Nat) : Nat := if k = 1 then 88 else if k = 2 then 92 else 95

/-- The stacks of a zone (spec/01 R27). -/
def zoneStacks (z : Nat) : List Nat := [4 * z, 4 * z + 1, 4 * z + 2, 4 * z + 3]

/-- The zone's hottest stack reading. -/
def State.hottest (s : State) (z : Nat) : Nat := (zoneStacks z).foldl (fun m n => max m (s.stack n).temp) 0

/-- The step that a zone's stacks and its landing die's hot-junction hold ask for (spec/07 R184, spec/16 Table 16-5). -/
def State.zoneBase (s : State) (z : Nat) : Nat :=
  (zoneStacks z).foldl (fun m n => max m (s.stack n).step) (if (s.die (18 + z)).held then 3 else 0)

/-- The zone's step after something changed: what its stacks and hold ask for, or an early step that is still higher
(spec/07 R184, spec/16 R405); a change is an event. -/
def State.settleZone (s : State) (z : Nat) : State :=
  let x := s.zone z
  let b := s.zoneBase z
  let keep := x.early && decide (x.step > b)
  let y := { x with step := if keep then x.step else b, early := keep, tz := s.hottest z }
  let t := s.setZone z y
  if y.step = x.step then t else t.event 0x0030 z y.step

/-- A stack's temperature readout, every 1 us (spec/07 R184, R180, Table 7-4). -/
def execStackTempSample (stack celsius : Nat) (s : State) : Host.Outcome State Fault Refusal :=
  let x := s.stack stack
  let y := { x with temp := celsius % 256, step := max x.step (tempStep celsius),
                    refresh2x := x.refresh2x || decide (celsius ≥ 95) }
  .next (if stack < s.variant.stacks ∧ s.alive then (s.setStack stack y).settleZone (stack / 4) else s)

/-- A stack has stayed 3 °C below its step's threshold for 1 ms: its step falls by one; a zone's early step is left in the
same way (spec/07 R184, spec/16 R405). -/
def execThrottleStepLeave (stack : Nat) (s : State) : Host.Outcome State Fault Refusal :=
  let x := s.stack stack
  let z := stack / 4
  let own := decide (0 < x.step) && decide (x.temp + 3 ≤ stepThreshold x.step)
  let t := if own then s.setStack stack { x with step := x.step - 1 } else s
  let y := t.zone z
  let early := y.early && decide (t.hottest z + 3 ≤ stepThreshold y.step)
  .next ((if early then t.setZone z { y with step := y.step - 1, early := decide (y.step - 1 > t.zoneBase z) }
    else t).settleZone z)

/-- A stack below 92 °C for 1 ms: its refresh returns to the base interval (spec/07 R180). -/
def execRefreshRateRestore (stack : Nat) (s : State) : Host.Outcome State Fault Refusal :=
  let x := s.stack stack
  .next (if x.temp < 92 then s.setStack stack { x with refresh2x := false } else s)

/-- The step whose threshold lies at most 2 °C above the hottest stack, and no more than one above its own (spec/16
R405). -/
def earlyStep (tz : Nat) : Option Nat :=
  let k := tempStep tz + 1
  if k ≤ 3 ∧ stepThreshold k ≤ tz + 2 then some k else none

/-- The predictor's sample moves its estimate by an eighth of the difference (spec/16 R405). -/
def Zone.sample (x : Zone) (tz : Nat) : Zone :=
  match x.lastTz with
  | none => { x with lastTz := some tz, tz := tz }
  | some o =>
    let v : Rat := (((tz : Int) - (o : Int)) * 1000 : Int)
    { x with est := x.est + (v - x.est) / 8, samples := min 32 (x.samples + 1), lastTz := some tz, tz := tz }

/-- A seasoned predictor enters a step early when it expects the threshold within 2 ms (spec/16 R405). -/
def Zone.predicts (x : Zone) : Option Nat :=
  if x.samples < 32 then none
  else match earlyStep x.tz with
    | some k => if (x.tz : Rat) + 2 * x.est / 1000 ≥ (stepThreshold k : Rat) ∧ x.step < k then some k else none
    | none => none

/-- Once per ms the zone's predictor takes a sample (spec/16 R405). -/
def execThermalPredictorSample (zone : Nat) (s : State) : Host.Outcome State Fault Refusal :=
  let x := (s.zone zone).sample (s.hottest zone)
  .next (if zone < s.variant.zones ∧ s.alive then
    (match x.predicts with
     | some k => ((s.setZone zone { x with step := k, early := true }).countModule cThmEarlyStep).event 0x0030 zone k
     | none => s.setZone zone x)
    else s)

/-- Every junction sensor of a held die has read below 100 °C for 1 ms (spec/16 Table 16-5). -/
def execJunctionHoldRelease (die : Nat) (s : State) : Host.Outcome State Fault Refusal :=
  let t := s.setDie die { (s.die die).back 3 s.clock.now with held := false, hot := false }
  .next (if !(s.die die).held then s
    else if 18 ≤ die ∧ die < 26 then t.settleZone (die - 18) else t)

/-- A monitor of kind 1 clock, 2 voltage or 3 temperature is back in its range (spec/11 R280); for voltage the unit is the
domain, whose excursion thereby ends without a chip reset unless 1 ms had passed (spec/16 Table 16-5). -/
def execMonitorBackInRange (kind unit : Nat) (s : State) : Host.Outcome State Fault Refusal :=
  .next (
    if kind = 2 then
      (s.onDies (domainDies s.variant unit) (·.back 2 s.clock.now)).setDomain unit { s.domain unit with volt := false }
    else if kind = 3 then s.setDie unit { (s.die unit).back 3 s.clock.now with hot := false }
    else s.setDie unit ((s.die unit).back 1 s.clock.now))

/-- A refresh falls due and is issued, ahead of every other controller command (spec/07 R180). -/
def execHbmRefresh (stack : Nat) (s : State) : Host.Outcome State Fault Refusal :=
  let x := s.stack stack
  .next (if x.trained then s.setStack stack { x with refreshes := x.refreshes + 1 } else s)

/-- A link recalibration preempts traffic for at most 200 NCLK and changes no state (spec/11 R299, spec/01 R26). -/
def execLinkRecalibration (_kind _unit : Nat) (s : State) : Host.Outcome State Fault Refusal := .next s

end Sys2Proof.Machine
end

