-- ==== Sys2Proof/Machine/Watchdogs.lean ====
section
/-! DEFINITION. The progress watchdogs, the waits that pause them, and the wait watchdog (spec/13 R334-R337). -/

namespace Sys2Proof.Machine

/-! ### What the head of a chute waits for -/

/-- A head command that waits only for a result slot (spec/02 Table 2-19, RES_WAIT_CYCLES). -/
def State.slotWait (s : State) (st : Nat) : Bool :=
  let x := s.stand st
  x.freeSlot.isNone && (match x.chute.packets with
    | [] => false
    | p :: _ => if p.verdict ≠ 0 ∨ x.headDiscarded then true
      else match s.issuable st with
        | none => false
        | some _ => (s.issueCheck st p.bytes).isSome || (!slotless p.bytes && !(decide (fld p.bytes 0 1 = 0x40) && s.stepBeginWaits st)))

/-- A STEP_BEGIN at the head waits for the deck, for a record, or for a restored step's COMMIT (spec/12 R305, R322). -/
def State.deckWait (s : State) (st : Nat) : Bool :=
  match s.issuable st with
  | some p => decide (fld p.bytes 0 1 = 0x40) && (s.issueCheck st p.bytes).isNone && s.stepBeginWaits st
  | none => false

/-- The head command waits under WAIT (R336). -/
def StandSt.headWaits (x : StandSt) : Option Nat :=
  match x.chute.packets with
  | p :: _ => if decide (p.verdict = 0) && bit (fld p.bytes 1 1) 0 && !x.waitHolds p.bytes then some (bits (fld p.bytes 4 1) 3 0)
    else none
  | [] => none

/-- The head command's engine queue is full (spec/02 R47). -/
def State.queueFull (s : State) (st : Nat) : Bool :=
  let x := s.stand st
  match x.chute.packets with
  | p :: _ => decide (p.verdict = 0) && !x.headDiscarded && !s.roomFor st (x.newCmd p.bytes p.link none 0)
  | [] => false

/-! ### Waits that pause a watchdog (R335) -/

/-- The conditions that State.cmdHolds names by their counters and R335 exempts: an owner wait, a source hold, a seal wait, a SWEEP hold
or pin wait, and the ordering waits of spec/01 R24 and spec/08 R190. -/
def exemptHolds : List Nat :=
  [cSkdOwnerWaitCycles, cTrsSrcHoldCycles, cLndSealWaitCycles, cLndSweepHoldCycles, cOrderStallCycles, cLndOrderCycles,
   cSkdScatterOrderCycles]

/-- The command waits for other devices: credit, a response, staging credit, a late window, or the members' messages. -/
def State.peersWait (s : State) (st : Nat) (c : Cmd) : Bool :=
  let x := s.stand st
  match c.opcode with
  | 0x30 | 0x31 => decide (c.stage = .phase 2) && (match x.coll c.ticket with
      | some y => !s.redReady st c (redArgs c.bytes) y
      | none => false)
  | 0x32 => (match x.perm c.ticket with
      | some p =>
        let m := (permArgs c.bytes).mtab
        x.pulling c.ticket || (decide (p.phase = 1) && !s.allRanks st m p.opened) ||
          (decide (p.phase = 3) && !s.allRanks st m p.pulledBy) ||
          p.arrived.any (fun y => s.sweepSpan st c.ticket y.1 y.2.length)
      | none => false)
  | _ => x.asking c.ticket

/-- The command's only obstacle is a wait of R335, an earlier command of its engine included, whose own watchdog it is then. -/
def State.cmdPaused (s : State) (st : Nat) (c : Cmd) : Bool :=
  let x := s.stand st
  let hs := s.cmdHolds st c
  !x.turnOf c || x.awaitsCommit c || s.peersWait st c || (decide (c.opcode = 0x33) && s.loadWaits st c) ||
    (!hs.isEmpty && hs.all exemptHolds.contains)

/-- The front end's only obstacle is a WAIT condition, a free result slot, a full engine queue, or a COMMIT's phases. -/
def State.frontPaused (s : State) (st : Nat) : Bool :=
  (s.stand st).headWaits.isSome || s.slotWait st || s.queueFull st ||
    (s.deckWait st && !(s.stand st).steps.commits.isEmpty)

/-! ### The watchdogs -/

/-- ENGINE_WATCHDOG: an engine that holds a command and has made no progress for 16 ms outside the waits of R335 starts a context reset
of its command's context, and a hung front end a stand reset. -/
def execEngineWatchdog (stand : Nat) (engine : EngineId) (s : State) : Host.Outcome State Fault Refusal :=
  .next (
    let x := s.stand stand
    if !s.alive ∨ !(s.cfg stand).enabled then s
    else if engine = .frontend then
      if (x.chute.packets.isEmpty && x.chute.part.isNone) || s.frontPaused stand then s
      else (s.countStand stand cRstWdtFrontend).startStandReset stand .frontWdt none
    else match (s.onEngine stand engine).filter (fun c => !s.cmdPaused stand c) with
      | [] => s
      | c :: _ =>
        if x.rst.covers c.context (some engine) then s
        else (s.countStand stand cRstWdtEngine).contextReset stand c.context .engineWdt (some engine)
          ((s.onEngine stand engine).filterMap (fun d => if s.inReset stand c.context d then some d.ticket else none)))

/-- WAIT_WATCHDOG (R336): the head command waits under WAIT, and the limit has passed since it came to the head. -/
def execWaitWatchdog (stand : Nat) (s : State) : Host.Outcome State Fault Refusal :=
  .next (match (s.stand stand).headWaits with
    | some ctx =>
      if s.alive ∧ (s.cfg stand).enabled ∧ !(s.stand stand).rst.covers ctx none ∧
          (s.stand stand).chute.headAt.toNat + s.img.waitLimitMs * 1000000 ≤ s.clock.now.toNat then
        (s.countStand stand cRstWdtWait).contextReset stand ctx .waitWdt none []
      else s
    | none => s)

end Sys2Proof.Machine
end

