-- ==== Sys2Proof/Machine/Dispatch.lean ====
section
/-! DEFINITION. One arm for each command: the call of its meaning. -/

namespace Sys2Proof.Machine

def exec (i : Instr) (s : State) : Host.Outcome State Fault Refusal :=
  match i with
  | .powerGood => Sys2Proof.Machine.execPowerGood s
  | .inputOutOfRange millivolts => Sys2Proof.Machine.execInputOutOfRange millivolts s
  | .domainSwitchOn pd => Sys2Proof.Machine.execDomainSwitchOn pd s
  | .domainRegulationTimeout pd => Sys2Proof.Machine.execDomainRegulationTimeout pd s
  | .phaseFault pd phase => Sys2Proof.Machine.execPhaseFault pd phase s
  | .limiterWindow watts amps => Sys2Proof.Machine.execLimiterWindow watts amps s
  | .fastLimit amps => Sys2Proof.Machine.execFastLimit amps s
  | .thermtrip isStack unit celsius => Sys2Proof.Machine.execThermtrip isStack unit celsius s
  | .pwrCycleReqTimeout => Sys2Proof.Machine.execPwrCycleReqTimeout s
  | .sleep => Sys2Proof.Machine.execSleep s
  | .wake sleepN => Sys2Proof.Machine.execWake sleepN s
  | .clockMonitorExcursion die => Sys2Proof.Machine.execClockMonitorExcursion die s
  | .clockRecovered => Sys2Proof.Machine.execClockRecovered s
  | .voltageMonitorExcursion pd lasted => Sys2Proof.Machine.execVoltageMonitorExcursion pd lasted s
  | .tempMonitorExcursion die celsius => Sys2Proof.Machine.execTempMonitorExcursion die celsius s
  | .junctionHoldRelease die => Sys2Proof.Machine.execJunctionHoldRelease die s
  | .stackTempSample stack celsius => Sys2Proof.Machine.execStackTempSample stack celsius s
  | .throttleStepLeave stack => Sys2Proof.Machine.execThrottleStepLeave stack s
  | .refreshRateRestore stack => Sys2Proof.Machine.execRefreshRateRestore stack s
  | .thermalPredictorSample zone => Sys2Proof.Machine.execThermalPredictorSample zone s
  | .hbmRefresh stack => Sys2Proof.Machine.execHbmRefresh stack s
  | .linkRecalibration kind unit => Sys2Proof.Machine.execLinkRecalibration kind unit s
  | .perstDeassert link => Sys2Proof.Machine.execPerstDeassert link s
  | .hostLinkReset link why => Sys2Proof.Machine.execHostLinkReset link why s
  | .configRequest link req => Sys2Proof.Machine.execConfigRequest link req s
  | .chuteWrite link stand offset data => Sys2Proof.Machine.execChuteWrite link stand offset data s
  | .chutePtrMismatch stand => Sys2Proof.Machine.execChutePtrMismatch stand s
  | .drop link stand => Sys2Proof.Machine.execDrop link stand s
  | .resRelease link stand slot gen => Sys2Proof.Machine.execResRelease link stand slot gen s
  | .registerWrite link offset width value => Sys2Proof.Machine.execRegisterWrite link offset width value s
  | .bar4Read link offset count => Sys2Proof.Machine.execBar4Read link offset count s
  | .bar4Write link offset data => Sys2Proof.Machine.execBar4Write link offset data s
  | .headerRefusal stand => Sys2Proof.Machine.execHeaderRefusal stand s
  | .commandIssue stand => Sys2Proof.Machine.execCommandIssue stand s
  | .commandComplete stand ticket => Sys2Proof.Machine.execCommandComplete stand ticket s
  | .matmul stand ticket => Sys2Proof.Machine.execMatmul stand ticket s
  | .matmulPlane stand ticket => Sys2Proof.Machine.execMatmulPlane stand ticket s
  | .vecop stand ticket => Sys2Proof.Machine.execVecop stand ticket s
  | .rowop stand ticket => Sys2Proof.Machine.execRowop stand ticket s
  | .move stand ticket => Sys2Proof.Machine.execMove stand ticket s
  | .gather stand ticket => Sys2Proof.Machine.execGather stand ticket s
  | .scatterAdd stand ticket => Sys2Proof.Machine.execScatterAdd stand ticket s
  | .window stand ticket => Sys2Proof.Machine.execWindow stand ticket s
  | .optim stand ticket => Sys2Proof.Machine.execOptim stand ticket s
  | .accum stand ticket => Sys2Proof.Machine.execAccum stand ticket s
  | .sweep stand ticket => Sys2Proof.Machine.execSweep stand ticket s
  | .digest stand ticket => Sys2Proof.Machine.execDigest stand ticket s
  | .reduce stand ticket => Sys2Proof.Machine.execReduce stand ticket s
  | .collective stand ticket => Sys2Proof.Machine.execCollective stand ticket s
  | .permute stand ticket => Sys2Proof.Machine.execPermute stand ticket s
  | .ownerLoad stand ticket => Sys2Proof.Machine.execOwnerLoad stand ticket s
  | .stepBegin stand => Sys2Proof.Machine.execStepBegin stand s
  | .stepEnd stand => Sys2Proof.Machine.execStepEnd stand s
  | .commit stand ticket => Sys2Proof.Machine.execCommit stand ticket s
  | .checkpoint stand ticket => Sys2Proof.Machine.execCheckpoint stand ticket s
  | .restore stand ticket => Sys2Proof.Machine.execRestore stand ticket s
  | .fencePeer stand ticket => Sys2Proof.Machine.execFencePeer stand ticket s
  | .readmit stand ticket => Sys2Proof.Machine.execReadmit stand ticket s
  | .event stand => Sys2Proof.Machine.execEvent stand s
  | .result stand => Sys2Proof.Machine.execResult stand s
  | .nop stand => Sys2Proof.Machine.execNop stand s
  | .scalerCheck stand ticket tile => Sys2Proof.Machine.execScalerCheck stand ticket tile s
  | .recompute stand ticket devs => Sys2Proof.Machine.execRecompute stand ticket devs s
  | .laneReexecution unit lane again stand ticket => Sys2Proof.Machine.execLaneReexecution unit lane again stand ticket s
  | .tapTile stand ticket core tile => Sys2Proof.Machine.execTapTile stand ticket core tile s
  | .coreHandover cluster logical toSpare => Sys2Proof.Machine.execCoreHandover cluster logical toSpare s
  | .columnRemap array column => Sys2Proof.Machine.execColumnRemap array column s
  | .cruiseStep cluster => Sys2Proof.Machine.execCruiseStep cluster s
  | .cruiseRunEnd passed => Sys2Proof.Machine.execCruiseRunEnd passed s
  | .cruiseOverdue core => Sys2Proof.Machine.execCruiseOverdue core s
  | .landingCruise die engine passed => Sys2Proof.Machine.execLandingCruise die engine passed s
  | .sramScrub store word macro_ row => Sys2Proof.Machine.execSramScrub store word macro_ row s
  | .hbmScrub die block => Sys2Proof.Machine.execHbmScrub die block s
  | .repairMove stack words => Sys2Proof.Machine.execRepairMove stack words s
  | .flumeGrant die turn => Sys2Proof.Machine.execFlumeGrant die turn s
  | .flumeBurstSample die gate burstBytes busy => Sys2Proof.Machine.execFlumeBurstSample die gate burstBytes busy s
  | .copyAhead die stand block => Sys2Proof.Machine.execCopyAhead die stand block s
  | .backgroundCopyRead stand => Sys2Proof.Machine.execBackgroundCopyRead stand s
  | .deliveryIntoG stand ticket => Sys2Proof.Machine.execDeliveryIntoG stand ticket s
  | .reductionPiece stand ticket => Sys2Proof.Machine.execReductionPiece stand ticket s
  | .lateWindowExpire stand ticket segment => Sys2Proof.Machine.execLateWindowExpire stand ticket segment s
  | .segmentForm stand ticket segment => Sys2Proof.Machine.execSegmentForm stand ticket segment s
  | .permuteClose stand ticket => Sys2Proof.Machine.execPermuteClose stand ticket s
  | .put port txn => Sys2Proof.Machine.execPut port txn s
  | .get port txn => Sys2Proof.Machine.execGet port txn s
  | .reducePut port txn => Sys2Proof.Machine.execReducePut port txn s
  | .permuteMessage port txn => Sys2Proof.Machine.execPermuteMessage port txn s
  | .time port txn => Sys2Proof.Machine.execTime port txn s
  | .timeResponse port txn => Sys2Proof.Machine.execTimeResponse port txn s
  | .heartbeat port txn => Sys2Proof.Machine.execHeartbeat port txn s
  | .fence port txn => Sys2Proof.Machine.execFence port txn s
  | .txnResponse port txn => Sys2Proof.Machine.execTxnResponse port txn s
  | .transitForward port txn => Sys2Proof.Machine.execTransitForward port txn s
  | .txnTimeout stand tag => Sys2Proof.Machine.execTxnTimeout stand tag s
  | .timeExchange => Sys2Proof.Machine.execTimeExchange s
  | .timeSlew => Sys2Proof.Machine.execTimeSlew s
  | .heartbeatSend => Sys2Proof.Machine.execHeartbeatSend s
  | .peerSilent stand device => Sys2Proof.Machine.execPeerSilent stand device s
  | .flitReceive port flit => Sys2Proof.Machine.execFlitReceive port flit s
  | .nak port ack => Sys2Proof.Machine.execNak port ack s
  | .retryTimeout port => Sys2Proof.Machine.execRetryTimeout port s
  | .egressArbitrate port => Sys2Proof.Machine.execEgressArbitrate port s
  | .laneFailing port lane codewords => Sys2Proof.Machine.execLaneFailing port lane codewords s
  | .subst port lane => Sys2Proof.Machine.execSubst port lane s
  | .degrade request => Sys2Proof.Machine.execDegrade request s
  | .portDown port => Sys2Proof.Machine.execPortDown port s
  | .portTrainingStart port => Sys2Proof.Machine.execPortTrainingStart port s
  | .portTrained port healthy => Sys2Proof.Machine.execPortTrained port healthy s
  | .hello port device peerPort => Sys2Proof.Machine.execHello port device peerPort s
  | .trainingTimeout port => Sys2Proof.Machine.execTrainingTimeout port s
  | .ready port => Sys2Proof.Machine.execReady port s
  | .rampDoubling port => Sys2Proof.Machine.execRampDoubling port s
  | .lock bond lags => Sys2Proof.Machine.execLock bond lags s
  | .lockRemeasure bond => Sys2Proof.Machine.execLockRemeasure bond s
  | .dieLinkFlit die port waiting checkOk => Sys2Proof.Machine.execDieLinkFlit die port waiting checkOk s
  | .dieLinkLaneFail die port lane => Sys2Proof.Machine.execDieLinkLaneFail die port lane s
  | .commitPhase1End stand ticket => Sys2Proof.Machine.execCommitPhase1End stand ticket s
  | .ledgerSettled stand ticket => Sys2Proof.Machine.execLedgerSettled stand ticket s
  | .commitMessage stand msg => Sys2Proof.Machine.execCommitMessage stand msg s
  | .commitWaitExpire stand ticket => Sys2Proof.Machine.execCommitWaitExpire stand ticket s
  | .rollback due => Sys2Proof.Machine.execRollback due s
  | .replayIssue stand => Sys2Proof.Machine.execReplayIssue stand s
  | .engineWatchdog stand engine => Sys2Proof.Machine.execEngineWatchdog stand engine s
  | .waitWatchdog stand => Sys2Proof.Machine.execWaitWatchdog stand s
  | .contextResetRequest link stand context => Sys2Proof.Machine.execContextResetRequest link stand context s
  | .standResetRequest link stand => Sys2Proof.Machine.execStandResetRequest link stand s
  | .headDiscard stand => Sys2Proof.Machine.execHeadDiscard stand s
  | .rungTimeout stand => Sys2Proof.Machine.execRungTimeout stand s
  | .standReset stand => Sys2Proof.Machine.execStandReset stand s
  | .sampleBoxExpire stand sampled => Sys2Proof.Machine.execSampleBoxExpire stand sampled s
  | .chipReset scan => Sys2Proof.Machine.execChipReset scan s
  | .chipResetTimer => Sys2Proof.Machine.execChipResetTimer s
  | .deadlineTimer => Sys2Proof.Machine.execDeadlineTimer s
  | .deadlineRearm => Sys2Proof.Machine.execDeadlineRearm s
  | .maskRomBoot puf sigA sigB => Sys2Proof.Machine.execMaskRomBoot puf sigA sigB s
  | .imageVerify readA readB sigA sigB missing scan library => Sys2Proof.Machine.execImageVerify readA readB sigA sigB missing scan library s
  | .hbmTrained failed => Sys2Proof.Machine.execHbmTrained failed s
  | .standsReady => Sys2Proof.Machine.execStandsReady s
  | .lockstepMismatch => Sys2Proof.Machine.execLockstepMismatch s
  | .wardenTakeover => Sys2Proof.Machine.execWardenTakeover s
  | .standbyFault => Sys2Proof.Machine.execStandbyFault s
  | .wearLedgerWrite => Sys2Proof.Machine.execWearLedgerWrite s
  | .ledgerCompact => Sys2Proof.Machine.execLedgerCompact s
  | .captureCopy index => Sys2Proof.Machine.execCaptureCopy index s
  | .eventLogCopy => Sys2Proof.Machine.execEventLogCopy s
  | .sensorSample sensor reading => Sys2Proof.Machine.execSensorSample sensor reading s
  | .entdaa address => Sys2Proof.Machine.execEntdaa address s
  | .getCertificate via slot offset length => Sys2Proof.Machine.execGetCertificate via slot offset length s
  | .challenge via nonce => Sys2Proof.Machine.execChallenge via nonce s
  | .getMeasurements via index signed nonce => Sys2Proof.Machine.execGetMeasurements via index signed nonce s
  | .spdmNegotiation via code data => Sys2Proof.Machine.execSpdmNegotiation via code data s
  | .requestUpdate via => Sys2Proof.Machine.execRequestUpdate via s
  | .updateTransfer via component offset data => Sys2Proof.Machine.execUpdateTransfer via component offset data s
  | .verifyComplete via component sig => Sys2Proof.Machine.execVerifyComplete via component sig s
  | .activateFirmware via => Sys2Proof.Machine.execActivateFirmware via s
  | .mailboxWrite link mbox offset data => Sys2Proof.Machine.execMailboxWrite link mbox offset data s
  | .logRead via => Sys2Proof.Machine.execLogRead via s
  | .ledgerRead via => Sys2Proof.Machine.execLedgerRead via s
  | .sampleRead via => Sys2Proof.Machine.execSampleRead via s
  | .captureRead via => Sys2Proof.Machine.execCaptureRead via s
  | .routeRead via => Sys2Proof.Machine.execRouteRead via s
  | .sensorRead via => Sys2Proof.Machine.execSensorRead via s
  | .certRead via => Sys2Proof.Machine.execCertRead via s
  | .pldm via => Sys2Proof.Machine.execPldm via s
  | .variantRead via => Sys2Proof.Machine.execVariantRead via s
  | .mailboxAbort link mbox => Sys2Proof.Machine.execMailboxAbort link mbox s
  | .mailboxRelease link mbox gen => Sys2Proof.Machine.execMailboxRelease link mbox gen s
  | .hostLinkUp link => Sys2Proof.Machine.execHostLinkUp link s
  | .mctpControlMessage code data => Sys2Proof.Machine.execMctpControlMessage code data s
  | .standbyPowerLoss => Sys2Proof.Machine.execStandbyPowerLoss s
  | .monitorBackInRange kind unit => Sys2Proof.Machine.execMonitorBackInRange kind unit s
  | .laneMarkerReceive port lane => Sys2Proof.Machine.execLaneMarkerReceive port lane s

end Sys2Proof.Machine
end

