-- ==== Sys2Proof/Machine/Tick.lean ====
section
/-! DEFINITION. One NCLK on an empty queue (DESIGN CHOICE 3): the time base moves on, the cycle counters whose condition the state
shows rise by one, the memory controllers take their turn and the flume gates gain, and the engine resets in progress and the commits
that have been decided complete. -/

namespace Sys2Proof.Machine

/-- The time base after a tick: held while a first offset is being waited out (spec/10 R270), else 1 ns on, or 40 ns on where it counts
the internal oscillator (spec/16 R401). -/
def ClockSt.tick (c : ClockSt) (osc : Bool) : ClockSt :=
  if 0 < c.sync.hold then { c with sync := { c.sync with hold := c.sync.hold - 1 } }
  else { c with now := c.now + (if osc then 40 else 1) }

/-- A COMMIT of the stand is in phase 3 or 4 (spec/12 R311). -/
def StandSt.commitWaits (x : StandSt) : Bool := x.steps.commits.any (fun j => decide (j.phase = 3) || decide (j.phase = 4))

/-- A CHECKPOINT or a mirror waits for the stand's pin (spec/12 R319). -/
def StandSt.pinWaits (x : StandSt) : Bool :=
  x.steps.copy.isSome && (x.steps.mirrorWait.isSome ||
    x.inflight.any (fun c => decide (c.opcode = 0x43) && decide (c.stage = .queued)))

/-- The cycle counters of a stand whose condition holds now. -/
def State.standCycles (s : State) (st : Nat) : List Nat :=
  let x := s.stand st
  (if s.headHeld st then [cHeadStallCycles] else []) ++ (if s.slotWait st then [cResWaitCycles] else []) ++
    (if x.steps.rollback.isSome || x.steps.inReplay then [cDckReplayCycles] else []) ++
    (if s.deckWait st then [cDckDeckWaitCycles] else []) ++ (if x.commitWaits then [cDckCommitWaitCycles] else []) ++
    (if x.pinWaits then [cDckPinWaitCycles] else []) ++ (if s.ledgerHolds st then [cTrsLedgerFullCycles] else []) ++
    s.waitCycles st

def State.countCycles (s : State) (st : Nat) : State := (s.standCycles st).foldl (fun t k => t.countStand st k) s

/-- The cycle counter of a zone's step (spec/07 Table 7-14). -/
def State.zoneCycle (s : State) (z : Nat) : State :=
  match (s.zone z).step with
  | 1 => s.count (kZone z cMemZoneStep1Cycles) 1
  | 2 => s.count (kZone z cMemZoneStep2Cycles) 1
  | 3 => s.count (kZone z cMemZoneStep3Cycles) 1
  | _ => s

/-- CSK_CREDIT_WAIT_CYCLES of a port (spec/10 R253). -/
def State.portCycle (s : State) (p : Nat) : State :=
  if s.creditWaits p then s.count (kPort p cCskCreditWaitCycles) 1 else s

/-- The engine resets in progress on a stand whose 2 ms have passed complete, where RUNG_TIMEOUT has not said that they did not (spec/13
R338, R341; DESIGN CHOICE 3). -/
def State.finishResets (s : State) (st : Nat) : State :=
  ((s.stand st).rst.active.filter (fun a => decide (a.rung = 2) && a.past (rungLimitNs 2) s.clock.now)).foldl (fun t a => t.engineResetDone st a) s

/-- The stands in use. -/
def State.inUse (s : State) : List Nat := (List.range 64).filter (fun st => (s.cfg st).enabled)

/-- One NCLK. -/
def tick (s : State) : State :=
  if !s.alive then s
  else
    let t := s.inUse.foldl (fun u st => ((u.countCycles st).settleCommit st false).finishResets st) s
    let t := (List.range s.variant.ports).foldl State.portCycle ((List.range s.variant.zones).foldl State.zoneCycle t)
    let t := t.controllersTurn.refillGates
    t.setClock (t.clock.tick t.power.osc)

end Sys2Proof.Machine
end

