-- ==== Sys2Proof/Safety.lean ====
section
/-! DEFINITION. What the statements about whole runs are stated in: the invariants of the module, and the outcome of a step that
takes no command for granted. -/

namespace Sys2Proof.Machine

/-- The power fraction is one of the thirteen that the limiter uses, 4 to 16 sixteenths (spec/16 R397). -/
def PowerSt.inRange (p : PowerSt) : Prop := 4 ≤ p.p ∧ p.p ≤ 16

/-- No switched domain is on while input power is out, the module sleeps or a trip holds it off (spec/16 R393, R406 to R408). -/
def PowerSt.offWhenDark (p : PowerSt) : Prop :=
  p.good = false ∨ p.asleep = true ∨ p.locked = true → ∀ pd, (p.domains.get Domain.reset pd).on = false

/-- The milestones of GLB_STATUS are reached in the order of spec/14 R357: none is set before the one it follows. -/
def BootRegs.ordered (b : BootRegs) : Prop :=
  (b.hbmTrained = true → b.imageVerified = true) ∧ (b.fabricReady = true → b.imageVerified = true) ∧
    (b.standsReady = true → b.hbmTrained = true ∧ b.fabricReady = true)

/-- A host link that the variant lacks never comes up (spec/02 R30). -/
def State.linksOk (s : State) : Prop := s.hasLink .h1 = false → s.link1.up = false

/-- What only power, start-up and the host links' own commands change: the queue, the ordering code, the image in force, the
milestones, power, and which host links are up. -/
def State.frame (s : State) : List Instr × Variant × ImageCfg × BootRegs × PowerSt × Bool × Bool :=
  (s.pending, s.variant, s.img, s.boot, s.power, s.link0.up, s.link1.up)

/-- What holds of the module between any two commands. -/
def State.Inv (s : State) : Prop := s.power.inRange ∧ s.power.offWhenDark ∧ s.boot.ordered ∧ s.linksOk

/-- `t` is what a power-off leaves of `s` (spec/16 R393, R406 to R409): no domain on, nothing running, memory and every unit's state
lost; the queue, what was sent, the ordering code, the root digest that the Warden's mask holds and the flash's wear ledger stay. -/
def State.darkAfter (s t : State) : Prop :=
  t.alive = false ∧ (∀ pd, (t.domain pd).on = false) ∧ t.hbm = Mem.empty ∧ t.stands = [] ∧ t.comp = Compute.reset ∧
    t.mem = MemSys.reset ∧ t.fabric = Fabric.reset ∧ t.boot = BootRegs.reset ∧ t.img = ImageCfg.absent ∧
    t.link0 = HostLink.reset ∧ t.link1 = HostLink.reset ∧ t.warden = { Warden.reset with rootDigest := s.warden.rootDigest } ∧ t.counters = Counters.reset ∧
    t.pending = s.pending ∧ t.sent = s.sent ∧ t.variant = s.variant

/-- From `s` to `t` no stand but `st` changes. -/
def State.standOnly (s t : State) (st : Nat) : Prop := ∀ k, k ≠ st → t.stand k = s.stand k

/-- From `s` to `t` no memory changes: HBM with its check symbols, every core's scratchpad and accumulators, every cluster's scratch,
and the update groups and scrub state of the landing dies. -/
def State.memoryKept (s t : State) : Prop := t.hbm = s.hbm ∧ t.comp = s.comp ∧ t.mem = s.mem

/-- From `s` to `t` nothing outside the stands and the counters changes but the message queue to the hosts and what the host links hold
pending. -/
def State.unitsKept (s t : State) : Prop :=
  s.memoryKept t ∧ t.fabric = s.fabric ∧ t.integ = s.integ ∧ t.clock = s.clock ∧ t.flash = s.flash ∧ t.warden = s.warden ∧
    t.dies = s.dies ∧ t.rst = s.rst ∧ t.frame = s.frame

/-- From `s` to `t` no core changes but those of `p`, and no cluster scratch and no array's registers. -/
def State.coresOnly (s t : State) (p : Nat → Prop) : Prop :=
  (∀ c, ¬ p c → t.core c = s.core c) ∧ t.comp.clusters = s.comp.clusters ∧ t.comp.arrays = s.comp.arrays

/-- From `s` to `t` no core changes but those of `p`, no cluster scratch, and of the arrays nothing but the cells of those cores. -/
def State.cellsOnly (s t : State) (p : Nat → Prop) : Prop :=
  (∀ c, ¬ p c → t.core c = s.core c) ∧ t.comp.clusters = s.comp.clusters ∧
    (∀ g, t.array g = { s.array g with cells := (t.array g).cells }) ∧ ∀ g, ¬ p (g / 4) → t.array g = s.array g

/-- The bytes of a region from offset `lo` to `hi` lie at places of their own (spec/07 R168: a region has room for its bytes). -/
def State.apart (s : State) (r lo hi : Nat) : Prop :=
  ∀ o p, lo ≤ o → o < hi → lo ≤ p → p < hi → s.regionKey r o = s.regionKey r p → o = p

/-- The places of the tentative copies that an OPTIM of group `k` writes: the role's code, the region of the copy, and the offset in it
of each byte of each element and of its scale byte. -/
def State.optPlaces (s : State) (c : Cmd) (k : Nat) : List (Nat × Nat × Nat) :=
  let t := s.tgroup (s.udef k).tgrp
  let copy (r : Nat) : Nat := s.copyOf (t.role r) (!(s.ugroup k).sel)
  (optRoles c.bytes).flatMap fun x => (List.range (s.groupElems k).2).flatMap fun i =>
    let e := (s.groupElems k).1 + i
    (List.range x.2.bytes).map (fun b => (x.1, copy x.1, e * x.2.bytes + b)) ++
      (if x.2.scaled then [(x.1 + 1, copy (x.1 + 1), roleScaleOff x.2.block e)] else [])

/-- The command of a ticket stands at a stage. -/
def State.stageOf (s : State) (st ticket : Nat) : Option Stage := ((s.stand st).cmd ticket).map (·.stage)

/-- The flit that a port sends with a header and a body: its 16 words with the acknowledgement and credits of now, each on its lane. -/
def State.flitOut (s : State) (p : Nat) (h : FlitHead) (body : List (List Byte)) : Output :=
  .flit p ((flitWords ((s.port p).fillHead h) body).zipIdx.map (fun w => ((s.port p).txLane (s.portCfg p) w.2, w.1)))

/-- What a port still owes of credit once a flit has left with what its header returns. -/
def PortSt.owedAfter (x : PortSt) : Tab Nat := x.owed.upd 0 x.creditVc (· - min 1023 (x.owed.get 0 x.creditVc))

/-- A channel is ready to send on a port: it has a flit and a credit, and a QUIET port carries it (spec/10 R258, R259). -/
def State.vcReady (s : State) (p vc : Nat) : Prop :=
  (s.port p).mayCarry vc = true ∧ 0 < (s.port p).credits.get 0 vc ∧ ((s.port (s.streamPort p)).nextSrc vc).isSome = true

/-- The counters of a flit received: codewords corrected and uncorrectable, and `n` words corrected. -/
def State.rxCounted (s : State) (p corrected uncorrectable n : Nat) : State :=
  ((s.count (kPort p cCskFecCorrectedCw) corrected).count (kPort p cCskFecUncorrectableCw) uncorrectable).count
    (kPort p cCskWordCorrected) n

/-- A stand's result slots and event counters, which an engine's work does not touch. -/
def StandSt.outputs (x : StandSt) : Tab Slot × Nat × Tab W32 × Tab W32 := (x.slots, x.cursor, x.evt, x.wait)

end Sys2Proof.Machine
end

