-- ==== Sys2Proof/Certificates/Slice0/Obligations.lean ====
section
/-! DEFINITION. The statements for the provers, family by family of the command table; OBLIGATIONS.json gives each its title, tier and
basis. A statement that a command completes names the state it gives: every field that the statement does not name is the one
before. -/

open Sys2Proof Sys2Proof.Machine

/-- With a command at the front of the queue, a step is that command on the state that holds the rest of the queue. The model's own
readings: log entry 11. -/
def Obligations.StepRunsFront : Prop :=
  ∀ (c : Instr) (cs : List Instr) (s : State), s.pending = c :: cs → step s = exec c (s.setPending cs)

/-- Every step keeps what holds of the module between commands: the power fraction in 4 to 16 sixteenths (spec/16 R397), no domain
on without power, in sleep or after a trip (R393, R406 to R408), the milestones in their order (spec/14 R357), and no link up that
the variant lacks (spec/02 R30). -/
def Obligations.InvariantKept : Prop := ∀ s t : State, s.Inv → step s = .next t → t.Inv

/-- The invariant holds of the module before input power good. -/
def Obligations.InvariantAtReset : Prop := State.reset.Inv

/-- On an empty queue one NCLK passes (the model's choice, log entry 3): a module that runs moves its time base on by 1 ns, or by
40 ns on the internal oscillator, or holds it once (spec/16 R401, spec/10 R270), and its registers of configuration and queue stay. No command touches the queue, and none
changes the ordering code. -/
def Obligations.QueueAndIdle : Prop :=
  (∀ s : State, s.pending = [] → s.alive = true →
    ∃ t, step s = .next t ∧ t.clock.now = (if 0 < s.clock.sync.hold then s.clock.now else s.clock.now + (if s.power.osc then 40 else 1)) ∧
      t.clock.sync.hold = s.clock.sync.hold - 1 ∧ t.frame = s.frame) ∧
  (∀ (c : Instr) (s t : State), exec c s = .next t → t.pending = s.pending ∧ t.variant = s.variant)

/-- A stand's configuration is the image's: it changes when an image is applied, at a chip reset and with power alone, and no other
command changes it (spec/02 R28). -/
def Obligations.ImageChangesOnlyAtStart : Prop :=
  ∀ (c : Instr) (s t : State), exec c s = .next t →
    t.img = s.img ∨ (∃ scan, c = .chipReset scan) ∨ (∃ a b d e m sc l, c = .imageVerify a b d e m sc l) ∨
      c = .powerGood ∨ (∃ mv, c = .inputOutOfRange mv) ∨ (∃ k u d, c = .thermtrip k u d) ∨ c = .pwrCycleReqTimeout ∨
      c = .sleep ∨ (∃ n, c = .wake n)

/-- Every step keeps the canonical form of the stacked memory, bytes and check differences, and of the flash's bytes (addresses
rising, none listed at what an unlisted one reads as); reset's have it. The model's own readings: log entry 78. -/
def Obligations.MemoryFormKept : Prop :=
  (∀ s t : State, s.hbm.wf = true → cellsWf 0 s.flash.cells = true → step s = .next t →
    t.hbm.wf = true ∧ cellsWf 0 t.flash.cells = true) ∧
  State.reset.hbm.wf = true ∧ cellsWf 0 State.reset.flash.cells = true

/-- The values that the spec gives for the time before input power good: power out and every domain off, p at 16 (spec/16 R397,
Table 16-13), no milestone (spec/02 Table 2-4), LAST_OFF unknown (R410), counters zero (spec/11 R301), no link up. -/
def Obligations.ResetValues : Prop :=
  State.reset.power.good = false ∧ State.reset.power.p = 16 ∧ State.reset.power.lastOff = .unknown ∧
    State.reset.alive = false ∧ (∀ pd, (State.reset.domain pd).on = false) ∧
    State.reset.boot.imageVerified = false ∧ State.reset.boot.hbmTrained = false ∧
    State.reset.boot.fabricReady = false ∧ State.reset.boot.standsReady = false ∧
    (∀ l, (State.reset.link l).up = false) ∧ (∀ k, State.reset.counters.get k = 0) ∧ State.reset.pending = []
/-- Input power good (spec/16 R393, R401, R410): the time base starts at zero on a module whose units hold nothing, LAST_OFF shows
the first cause latched since the last power good, and the latch is free; a second one changes nothing. WAKE_N (spec/16 R406, R407,
R409, R410) starts a module that sleeps with SLEEP_N high and nothing holding it off, with LAST_OFF as latched; the loss of
P3V3_STBY leaves LAST_OFF unknown and ends waking. The model's own readings: log entries 71 and 74. -/
def Obligations.ModuleStarts : Prop :=
  (∀ s : State, s.power.good = false →
    ∃ t, exec .powerGood s = .next t ∧ t.power.good = true ∧ t.power.lastOff = s.power.latched.getD .unknown ∧
      t.power.latched = none ∧ t.clock = ClockSt.reset ∧ t.hbm = Mem.empty ∧ t.boot = BootRegs.reset ∧ t.stands = [] ∧
      (∀ pd, (t.domain pd).on = false) ∧ t.flash.wear = s.flash.wear ∧ t.pending = s.pending ∧ t.sent = s.sent ∧
      t.variant = s.variant) ∧
  (∀ s : State, s.power.good = true → exec .powerGood s = .next s) ∧
  (∀ s : State, s.power.asleep = true → s.power.good = true → s.power.thermtrip = false → s.power.locked = false →
      s.power.stbyLost = false →
    ∃ t, exec (.wake true) s = .next t ∧ t.power.asleep = false ∧ t.power.lastOff = s.power.latched.getD .unknown ∧
      t.clock = ClockSt.reset ∧ t.boot = BootRegs.reset ∧ t.hbm = Mem.empty ∧ t.stands = [] ∧ t.flash.wear = s.flash.wear ∧
      t.pending = s.pending ∧ t.sent = s.sent ∧ t.variant = s.variant) ∧
  (∀ s : State, exec (.wake false) s = .next s) ∧
  (∀ s : State, exec .standbyPowerLoss s =
    .next (s.setPower { s.power with stbyLost := true, lastOff := .unknown, latched := some .unknown })) ∧
  (∀ (s : State) (b : Bool), s.power.stbyLost = true → exec (.wake b) s = .next s)

/-- The input out of range (spec/16 R392, R393): within the absolute maximum ratings a voltage below 44 V or above 62 V turns every
domain off and latches its cause, and one between them changes nothing; beyond the ratings no behaviour is guaranteed. Trips, an
unanswered power-cycle request and sleep (spec/16 R404, R406, R407, R408, R410): every domain goes off at once, the first cause is
latched, and the wake circuit holds the module off, or asleep; before sleep the staged events and ledger entries reach the flash.
The model's own readings: log entries 10 and 71. -/
def Obligations.PowerOffs : Prop :=
  (∀ (s : State) (mv : Int), -500 ≤ mv → mv < 44000 →
    ∃ t, exec (.inputOutOfRange mv) s = .next t ∧ s.darkAfter t ∧ t.power.good = false ∧
      t.power.latched = some (s.power.latched.getD .inputLow) ∧ t.flash.wear = s.flash.wear ∧
      (mv < 5000 → t.power.thermtrip = false ∧ t.power.cycleReq = false)) ∧
  (∀ (s : State) (mv : Int), 62000 < mv → mv ≤ 65000 →
    ∃ t, exec (.inputOutOfRange mv) s = .next t ∧ s.darkAfter t ∧ t.power.good = false ∧
      t.power.latched = some (s.power.latched.getD .inputHigh) ∧ t.flash.wear = s.flash.wear) ∧
  (∀ (s : State) (mv : Int), 44000 ≤ mv → mv ≤ 62000 → exec (.inputOutOfRange mv) s = .next s) ∧
  (∀ (s : State) (mv : Int), mv < -500 ∨ 65000 < mv → exec (.inputOutOfRange mv) s = .fault .absoluteMaximumExceeded) ∧
  (∀ (s : State) (isStack : Bool) (u : Nat) (c : Int), s.power.good = true → c ≥ (if isStack then 100 else 115) →
    ∃ t, exec (.thermtrip isStack u c) s = .next t ∧ s.darkAfter t ∧ t.power.thermtrip = true ∧ t.power.locked = true ∧
      t.power.latched = some (s.power.latched.getD (if isStack then .tripStack else .tripDie)) ∧ t.flash.wear = s.flash.wear) ∧
  (∀ s : State, s.power.cycleReq = true → s.power.good = true → s.power.locked = false →
    ∃ t, exec .pwrCycleReqTimeout s = .next t ∧ s.darkAfter t ∧ t.power.locked = true ∧ t.power.cycleReq = true ∧
      t.power.latched = some (s.power.latched.getD .cycleReq) ∧ t.flash.wear = s.flash.wear) ∧
  (∀ s : State, s.power.good = true → s.power.asleep = false → s.power.locked = false →
    ∃ t, exec .sleep s = .next t ∧ s.darkAfter t ∧ t.power.asleep = true ∧
      t.power.latched = some (s.power.latched.getD .sleep) ∧ t.flash.wear = s.flash.wear ++ s.integ.pending ∧
      (s.flash.log.length + s.warden.staged.length ≤ 1048576 → t.flash.log = s.flash.log ++ s.warden.staged))

/-- Domains and their phases (spec/16 R394 to R396): a domain that serves a present unit switches on with power good, awake and not
held off; one that misses regulation goes off and is flagged, and while start-up goes on after IMAGE_VERIFIED its units count as
missing; a phase fault is counted and recorded in the wear ledger, and a third
derates the domain. The model's own readings: log entry 71. -/
def Obligations.DomainsAndPhases : Prop :=
  (∀ (s : State) (pd : Nat), s.power.good = true → s.power.asleep = false → s.power.locked = false →
      domainUsed s.variant pd = true → (s.domain pd).fault = false → pd ≠ 8 → pd ≠ 9 →
    exec (.domainSwitchOn pd) s = .next (s.setDomain pd { s.domain pd with on := true })) ∧
  (∀ (s : State) (pd : Nat), (s.domain pd).on = true → (s.boot.imageVerified = false ∨ s.boot.standsReady = true) →
    exec (.domainRegulationTimeout pd) s = .next (s.setDomain pd { s.domain pd with on := false, fault := true })) ∧
  (∀ (s : State) (pd : Nat), (s.domain pd).on = true → s.boot.imageVerified = true → s.boot.standsReady = false →
    ∃ t, exec (.domainRegulationTimeout pd) s = .next t ∧ (t.domain pd).on = false ∧ (t.domain pd).fault = true ∧
      (∀ u ∈ domainUnits s.variant pd, u ∈ t.boot.missing) ∧
      (domainUnits s.variant pd = [] ∨ (∀ u ∈ domainUnits s.variant pd, u ∈ s.boot.missing) ∨ t.boot.fault ≠ 0) ∧
      (∀ k, k ≠ pd → t.domain k = s.domain k) ∧ t.hbm = s.hbm ∧ t.stands = s.stands ∧ t.comp = s.comp) ∧
  (∀ (s : State) (pd ph : Nat), domainUsed s.variant pd = true → ph < domainN pd + 2 → ph ∉ (s.domain pd).failed →
    ∃ t, exec (.phaseFault pd ph) s = .next t ∧ (t.domain pd).failed = (s.domain pd).failed ++ [ph] ∧
      ((t.domain pd).derated = true ↔ 2 ≤ (s.domain pd).failed.length) ∧
      t.counters.get (kModule cPwrPhaseFault) = s.counters.get (kModule cPwrPhaseFault) + 1 ∧
      t.integ.pending = s.integ.pending ++ [⟨s.opsec, 0x0d, 5, pd, BitVec.ofNat 32 ph, s.flash.wearNext⟩] ∧
      t.hbm = s.hbm ∧ t.stands = s.stands ∧ t.dies = s.dies ∧ t.power.p = s.power.p)

/-- The power limiter (spec/16 R397): a window over LIMIT_W takes one sixteenth from p, never below 4; the eighth consecutive window
below 95 % of it gives one back, never above 16; any other window leaves p. The fast limit (spec/16 R398): current above the fast
limit for 20 us takes four sixteenths from p at once, never below 4, and is counted; at or below it nothing happens. -/
def Obligations.PowerLimits : Prop :=
  (∀ (s : State) (w : Nat), s.boot.imageVerified = true →
    ∃ t, exec (.limiterWindow w []) s = .next t ∧
      t.power.p = (if s.img.powerLimitW < w then max 4 (s.power.p - 1)
        else if w * 100 < s.img.powerLimitW * 95 ∧ 7 ≤ s.power.below then min 16 (s.power.p + 1) else s.power.p) ∧
      t.power.below = (if s.img.powerLimitW < w then 0
        else if w * 100 < s.img.powerLimitW * 95 then (if 7 ≤ s.power.below then 0 else s.power.below + 1) else 0) ∧
      t.power.inputW = w % 65536 ∧ t.power.domains = s.power.domains ∧ t.hbm = s.hbm ∧ t.stands = s.stands ∧
      t.boot = s.boot ∧ t.pending = s.pending) ∧
  (∀ (s : State) (a : Nat), s.alive = true → Variant.fastAmps s.variant < a →
    exec (.fastLimit a) s =
      .next ((s.setPower { s.power with p := max 4 (s.power.p - 4), fast := true }).countModule cPwrFastLimit)) ∧
  (∀ (s : State) (a : Nat), a ≤ Variant.fastAmps s.variant → exec (.fastLimit a) s = .next s)
/-- Clock monitors (spec/16 R402, Table 16-5; spec/11 R280): a die's lost PLL lock takes issue from every die, starts the time base
on the internal oscillator and shows on the die's monitor; 10 ms of lock decide a chip reset with CAUSE 3, which
stands in the journal while the active Warden is halted (spec/15 R373). A junction above 105 °C
(spec/16 R402, Table 16-5): the die is held and its temperature reads; a landing die's zone goes to step 3. 1 ms below 100 °C
releases it. The model's own readings: log entry 73. -/
def Obligations.DieMonitors : Prop :=
  (∀ (s : State) (d : Nat), s.alive = true → s.variant.hasDie d = true → 1 ∉ (s.die d).out →
    ∃ t, exec (.clockMonitorExcursion (some d)) s = .next t ∧ t.power = { s.power with osc := true } ∧
      (∀ k, s.variant.hasDie k = true → (t.die k).noIssue = true) ∧ 1 ∈ (t.die d).out ∧
      t.hbm = s.hbm ∧ t.comp = s.comp ∧ t.boot = s.boot ∧ t.img = s.img ∧ t.pending = s.pending) ∧
  (∀ s : State, s.power.osc = true → s.alive = true → s.rst.pendingCause = none → s.warden.halted = false →
    ∃ t, exec .clockRecovered s = .next t ∧ t.power = { s.power with osc := false } ∧ t.rst.pendingCause = some 3 ∧
      t.rst.decidedAt = s.clock.now ∧ (∀ k, s.variant.hasDie k = true → 1 ∉ (t.die k).out) ∧
      t.hbm = s.hbm ∧ t.stands = s.stands ∧ t.boot = s.boot ∧ t.pending = s.pending) ∧
  (∀ s : State, s.power.osc = true → s.warden.halted = true →
    ∃ t, exec .clockRecovered s = .next t ∧ t.power = { s.power with osc := false } ∧
      t.flash.journal = s.flash.journal ++ [.chipReset 3] ∧ t.rst = s.rst ∧ t.hbm = s.hbm ∧ t.stands = s.stands ∧
      t.boot = s.boot) ∧
  (∀ (s : State) (d : Nat) (c : Int), s.alive = true → 105 < c → s.variant.hasDie d = true → 3 ∉ (s.die d).out →
    ∃ t, exec (.tempMonitorExcursion d c) s = .next t ∧ (t.die d).held = true ∧ (t.die d).hot = true ∧
      (t.die d).tj = (c + 64).toNat % 256 ∧ 3 ∈ (t.die d).out ∧
      (18 ≤ d → d < 26 → 3 ≤ (t.zone (d - 18)).step) ∧ t.hbm = s.hbm ∧ t.boot = s.boot ∧ t.power.p = s.power.p) ∧
  (∀ (s : State) (d : Nat), (s.die d).held = true → d < 18 →
    exec (.junctionHoldRelease d) s = .next (s.setDie d { (s.die d).back 3 s.clock.now with held := false, hot := false })) ∧
  (∀ (s : State) (d : Nat), (s.die d).held = true → 18 ≤ d → d < 26 →
    ∃ t, exec (.junctionHoldRelease d) s = .next t ∧ (t.die d).held = false ∧ (t.die d).hot = false ∧
      t.hbm = s.hbm ∧ t.stands = s.stands ∧ t.mem = s.mem ∧ t.boot = s.boot)

/-- Voltage monitors (spec/16 R402, Table 16-5): a rail outside its range shows on its domain and its dies; 1 ms of it takes issue
from those dies and decides a chip reset with CAUSE 3; a second excursion before the stands are ready turns the domain off; a rail
back in range ends the excursion. The model's own readings: log entries 71 and 73. -/
def Obligations.VoltageMonitorActions : Prop :=
  (∀ (s : State) (pd : Nat), s.alive = true → (s.domain pd).on = true → (s.domain pd).volt = false →
    ∃ t, exec (.voltageMonitorExcursion pd false) s = .next t ∧ (t.domain pd).volt = true ∧
      (t.domain pd).on = !((s.domain pd).left && !s.boot.standsReady) ∧
      (t.domain pd).fault = ((s.domain pd).fault || ((s.domain pd).left && !s.boot.standsReady)) ∧
      (∀ d ∈ domainDies s.variant pd, 2 ∈ (t.die d).out) ∧ t.hbm = s.hbm ∧ t.comp = s.comp ∧
      ((s.domain pd).left = false ∨ s.boot.standsReady = true ∨ s.boot.imageVerified = false → t.boot = s.boot)) ∧
  (∀ (s : State) (pd : Nat), s.alive = true → (s.domain pd).on = true → (s.domain pd).volt = true →
      s.rst.pendingCause = none → s.warden.halted = false →
    ∃ t, exec (.voltageMonitorExcursion pd true) s = .next t ∧ t.rst.pendingCause = some 3 ∧
      (∀ d ∈ domainDies s.variant pd, (t.die d).noIssue = true) ∧ t.hbm = s.hbm ∧ t.stands = s.stands ∧
      t.power = s.power) ∧
  (∀ (s : State) (pd : Nat),
    ∃ t, exec (.monitorBackInRange 2 pd) s = .next t ∧ (t.domain pd).volt = false ∧
      (∀ d ∈ domainDies s.variant pd, 2 ∉ (t.die d).out) ∧ t.hbm = s.hbm ∧ t.stands = s.stands ∧ t.boot = s.boot) ∧
  (∀ (s : State) (d : Nat), exec (.monitorBackInRange 3 d) s =
    .next (s.setDie d { (s.die d).back 3 s.clock.now with hot := false })) ∧
  (∀ (s : State) (d : Nat), exec (.monitorBackInRange 1 d) s = .next (s.setDie d ((s.die d).back 1 s.clock.now)))

/-- Stack temperatures and refresh (spec/07 R180, R184, Table 7-4): a readout raises the stack's step to what its temperature gives
and never lowers it, 95 °C doubles the refresh rate, 3 °C below the threshold for 1 ms lowers the step by one, below 92 °C for 1 ms
the rate returns, a refresh is issued on a trained stack, and a link recalibration changes nothing. The thermal predictor (spec/16
R405): a sample moves the estimate by an eighth of its difference from the rise over the last millisecond and counts up to 32;
while fewer than 32 have been taken no step is entered early. The model's own readings: log entry 72. -/
def Obligations.StackTemperatures : Prop :=
  (∀ (s : State) (n c : Nat), n < s.variant.stacks → s.alive = true → c < 256 →
    ∃ t, exec (.stackTempSample n c) s = .next t ∧ (t.stack n).temp = c ∧
      (t.stack n).step = max (s.stack n).step (tempStep c) ∧
      (t.stack n).refresh2x = ((s.stack n).refresh2x || decide (95 ≤ c)) ∧
      (t.zone (n / 4)).tz = t.hottest (n / 4) ∧ t.zoneBase (n / 4) ≤ (t.zone (n / 4)).step ∧
      t.hbm = s.hbm ∧ t.stands = s.stands ∧ t.dies = s.dies) ∧
  (∀ (s : State) (n : Nat), 0 < (s.stack n).step → (s.stack n).temp + 3 ≤ stepThreshold (s.stack n).step →
    ∃ t, exec (.throttleStepLeave n) s = .next t ∧ (t.stack n).step = (s.stack n).step - 1 ∧
      t.hbm = s.hbm ∧ t.stands = s.stands ∧ t.dies = s.dies) ∧
  (∀ (s : State) (n : Nat), (s.stack n).temp < 92 →
    exec (.refreshRateRestore n) s = .next (s.setStack n { s.stack n with refresh2x := false })) ∧
  (∀ (s : State) (n : Nat), (s.stack n).trained = true →
    exec (.hbmRefresh n) s = .next (s.setStack n { s.stack n with refreshes := (s.stack n).refreshes + 1 })) ∧
  (∀ (s : State) (k u : Nat), exec (.linkRecalibration k u) s = .next s) ∧
  (∀ (s : State) (z o : Nat), z < s.variant.zones → s.alive = true → (s.zone z).lastTz = some o → (s.zone z).samples < 31 →
    ∃ t, exec (.thermalPredictorSample z) s = .next t ∧
      (t.zone z).est = (s.zone z).est + (((((s.hottest z : Int) - (o : Int)) * 1000 : Int) : Rat) - (s.zone z).est) / 8 ∧
      (t.zone z).samples = (s.zone z).samples + 1 ∧ (t.zone z).step = (s.zone z).step ∧
      (t.zone z).early = (s.zone z).early ∧ (t.zone z).lastTz = some (s.hottest z) ∧
      t.stands = s.stands ∧ t.hbm = s.hbm ∧ t.dies = s.dies ∧ t.counters = s.counters) ∧
  (∀ (s : State) (z : Nat), z < s.variant.zones → s.alive = true →
    ∃ t, exec (.thermalPredictorSample z) s = .next t ∧ (t.zone z).samples ≤ max 32 (s.zone z).samples ∧
      (s.zone z).step ≤ (t.zone z).step ∧ (t.zone z).step ≤ max 3 (s.zone z).step)
/-- Host links (spec/02 R30, R32, R33, spec/14 R358): a deasserted reset starts training, training ends with the link up, an ended
link loses its endpoint's state and nothing else of the module but the packets and requests that it was assembling, and a
configuration request before the image-verified milestone is retried without effect; afterwards each has its effect and is answered, a
read of the Device Serial Number with SERIAL on either link. The model's own readings: log entries 12 and 32. -/
def Obligations.HostLinkLifecycle : Prop :=
  (∀ (s : State) (l : LinkId), s.alive = true → s.hasLink l = true →
    exec (.perstDeassert l) s = .next (s.setLink l { s.link l with training := true })) ∧
  (∀ (s : State) (l : LinkId), s.alive = true → s.hasLink l = true → (s.link l).training = true →
    exec (.hostLinkUp l) s = .next (s.setLink l { s.link l with up := true, d3hot := false })) ∧
  (∀ (s : State) (l : LinkId) (why : LinkEnd), s.alive = true → s.hasLink l = true →
    ∃ t, exec (.hostLinkReset l why) s = .next t ∧ (t.link l).bme = false ∧ (t.link l).bar4Base = 0 ∧
      (t.link l).msixEnable = false ∧ (t.link l).msix = [] ∧ (t.link l).pba = [] ∧
      (t.link l).up = (if why = .d3hot then (s.link l).up else false) ∧
      (∀ st, t.stand st = { s.stand st with chute := (s.stand st).chute.linkLost l }) ∧
      (∀ m, t.mbox m = (s.mbox m).linkLost l) ∧ (∀ k, k ≠ l → t.link k = s.link k) ∧ t.hbm = s.hbm ∧ t.comp = s.comp ∧ t.img = s.img ∧ t.boot = s.boot ∧
      t.power = s.power ∧ t.fabric = s.fabric ∧ t.counters = s.counters) ∧
  (∀ (s : State) (l : LinkId) (q : CfgReq), s.alive = true → s.hasLink l = true → (s.link l).up = true →
      s.boot.imageVerified = false → exec (.configRequest l q) s = .next (s.send (.cfg l true))) ∧
  (∀ (s : State) (l : LinkId) (n : Nat), s.alive = true → s.hasLink l = true → (s.link l).up = true →
      s.boot.imageVerified = true → n ≤ 10 →
    exec (.configRequest l (.setBar4Size n)) s =
      .next ((s.setLink l { s.link l with bar4Log2 := n, bar4Base := (s.link l).bar4Base / 2 ^ n * 2 ^ n }).send
        (.cfg l false))) ∧
  (∀ (s : State) (l : LinkId), s.alive = true → s.hasLink l = true → (s.link l).up = true → s.boot.imageVerified = true →
    exec (.configRequest l .read) s = .next (s.send (.cfg l false)) ∧
    exec (.configRequest l .readSerial) s = .next (s.send (.serial l s.flash.serial)) ∧
    (∀ on, exec (.configRequest l (.setBme on)) s =
      .next (((s.setLink l { s.link l with bme := on }).msixFlush l).send (.cfg l false))) ∧
    (∀ e m, exec (.configRequest l (.setMsix e m)) s =
      .next (((s.setLink l { s.link l with msixEnable := e, msixMask := m }).msixFlush l).send (.cfg l false))) ∧
    exec (.configRequest l .setD0) s = .next ((s.setLink l { s.link l with d3hot := false }).send (.cfg l false)) ∧
    (∃ t, exec (.hostLinkReset l .d3hot) s = .next t ∧ exec (.configRequest l .setD3hot) s = .next (t.send (.cfg l false))) ∧
    (∀ n, 10 < n → exec (.configRequest l (.setBar4Size n)) s = .next (s.send (.cfg l false))))

/-- Why a chute write is ignored, in the order of spec/02 R416. -/
def Obligations.IgnoredChuteWrites : Prop :=
  ∀ (s : State) (l : LinkId) (st off : Nat) (data : List Byte), s.reaches l = true → st < 64 →
    ((s.cfg st).enabled = false → exec (.chuteWrite l st off data) s = .next (s.countModule cUnusedStandWrites)) ∧
    ((s.cfg st).enabled = true → (s.boot.standsReady = false ∨ (s.cfg st).permits l = false) →
      exec (.chuteWrite l st off data) s = .next (s.countStand st cChuWriteIgnored)) ∧
    ((s.cfg st).enabled = true → s.boot.standsReady = true → (s.cfg st).permits l = true →
      (off % 64 ≠ 0 ∨ data.length % 64 ≠ 0 ∨ 512 < data.length ∨ 2 ^ 20 < off + data.length) →
      exec (.chuteWrite l st off data) s = .next (s.countStand st cChuBadWrite)) ∧
    ((s.cfg st).enabled = true → s.boot.standsReady = true → (s.cfg st).permits l = true →
      off % 64 = 0 → data.length % 64 = 0 → data.length ≤ 512 → off + data.length ≤ 2 ^ 20 →
      ((s.stand st).chute.discard = true →
        exec (.chuteWrite l st off data) s = .next (s.countStand st cChuDiscardedWrites)) ∧
      ((s.stand st).chute.discard = false → ∀ p, (s.stand st).chute.part = some p → p.link ≠ l →
        exec (.chuteWrite l st off data) s =
          .next ((s.setChute st { (s.stand st).chute with xlink := true }).countStand st cChuXlinkIgnored)) ∧
      ((s.stand st).chute.discard = false → (∀ p, (s.stand st).chute.part = some p → p.link = l) →
        (s.stand st).chute.free < data.length / 64 →
        exec (.chuteWrite l st off data) s =
          .next ((s.setChute st { (s.stand st).chute with overrun := true, discard := true }).countStand st cChuOverrun)))

/-- A one-flit packet (spec/02 R38, R39, R46): written by a permitted link to a chute with room and no incomplete packet, it stands
behind the packets before it with the verdict of its header checks, and both copies of the tail pointer move on. The model's own
readings: log entry 18. -/
def Obligations.ChuteTakesPacket : Prop :=
  ∀ (s : State) (l : LinkId) (st off : Nat) (flit : List Byte), s.reaches l = true → st < 64 → (s.cfg st).enabled = true →
    s.boot.standsReady = true → (s.cfg st).permits l = true → off % 64 = 0 → off + 64 ≤ 2 ^ 20 → flit.length = 64 →
    fld flit 2 2 = 1 → (s.stand st).chute.discard = false → (s.stand st).chute.part = none →
    0 < (s.stand st).chute.free →
    exec (.chuteWrite l st off flit) s =
      .next (s.setChute st { (s.stand st).chute with
        packets := (s.stand st).chute.packets ++ [⟨flit, l, headerVerdict s.variant (s.cfg st) flit⟩]
        tail := ((s.stand st).chute.tail + 1) % 4096
        tailCopy := ((s.stand st).chute.tailCopy + 1) % 4096 })

/-- The chute's pointers and DROP (spec/02 R42, R43): a pointer mismatch empties the chute, clears both copies of both pointers,
sets PTR_RESET, enters the discard state and is counted; commands issued and CHU_DISPATCHED_SEQ stay. DROP discards the incomplete
packet, ends the discard state and keeps complete packets. -/
def Obligations.ChuteResetAndDrop : Prop :=
  (∀ (s : State) (st : Nat), s.alive = true → (s.cfg st).enabled = true →
    ∃ t, exec (.chutePtrMismatch st) s = .next t ∧ (t.stand st).chute.packets = [] ∧ (t.stand st).chute.part = none ∧
      (t.stand st).chute.head = 0 ∧ (t.stand st).chute.tail = 0 ∧ (t.stand st).chute.headCopy = 0 ∧
      (t.stand st).chute.tailCopy = 0 ∧ (t.stand st).chute.ptrReset = true ∧ (t.stand st).chute.discard = true ∧
      (t.stand st).inflight = (s.stand st).inflight ∧ (t.stand st).chute.seq = (s.stand st).chute.seq ∧
      (t.stand st).slots = (s.stand st).slots ∧ (t.stand st).evt = (s.stand st).evt ∧
      t.counters.get (kStand st cChuPtrMismatch) = s.counters.get (kStand st cChuPtrMismatch) + 1 ∧
      (∀ k, k ≠ st → t.stand k = s.stand k) ∧ t.hbm = s.hbm ∧ t.comp = s.comp) ∧
  (∀ (l : LinkId) (s : State) (st : Nat), s.reaches l = true → (s.cfg st).enabled = true →
    ∃ t, exec (.drop l st) s = .next t ∧ (t.stand st).chute.part = none ∧ (t.stand st).chute.discard = false ∧
      (t.stand st).chute.packets = (s.stand st).chute.packets ∧ (t.stand st).chute.head = (s.stand st).chute.head ∧
      (t.stand st).inflight = (s.stand st).inflight ∧ (∀ k, k ≠ st → t.stand k = s.stand k) ∧
      t.counters = s.counters ∧ t.hbm = s.hbm ∧ t.comp = s.comp)

/-- Releasing a result slot (spec/02 R52): with the slot READY and its generation named it is freed, its contents and generation
unchanged; any other release is ignored and counted. -/
def Obligations.ResultSlotRelease : Prop :=
  ∀ (l : LinkId) (s : State) (st n : Nat) (g : W16), s.reaches l = true → (s.cfg st).enabled = true → n < 256 →
    (((s.stand st).slot n).st = .ready → ((s.stand st).slot n).gen = g →
      exec (.resRelease l st n g) s = .next (s.setStand st { s.stand st with
        slots := (s.stand st).slots.set n { (s.stand st).slot n with st := .free } })) ∧
    ((((s.stand st).slot n).st ≠ .ready ∨ ((s.stand st).slot n).gen ≠ g) →
      exec (.resRelease l st n g) s = .next (s.countStand st cResBadRelease))

/-- Registers (spec/00 R9 to R11, spec/02 Tables 2-2, 2-5, 2-6, R35; spec/13 Table 13-7): a write clears the sticky bits of
CHU_STATUS where ones are written, does at CHU_CTRL, RES_RELEASE, GLB_RST_REQ and WDN_MBOX_CTRL what the command of that name does, sets
GLB_BAR4_BASE without the bits below the BAR4 size, sets a word of the MSI-X table, clears WDN_MBOX_STATUS.IGNORED, counts an undefined
reset request, and changes nothing at a register without a writable field, at a reserved offset, or of a stand not in use. The model's
own readings: log entry 31. -/
def Obligations.RegisterWrites : Prop :=
  (∀ (l : LinkId) (s : State) (st : Nat) (v : W64), s.reaches l = true → st < 64 → (s.cfg st).enabled = true →
    exec (.registerWrite l (0x100000 + 0x100 * st) 8 v) s = .next (s.setChute st { (s.stand st).chute with
      overrun := (s.stand st).chute.overrun && !v.getLsbD 16, ptrReset := (s.stand st).chute.ptrReset && !v.getLsbD 17
      xlink := (s.stand st).chute.xlink && !v.getLsbD 18, badLength := (s.stand st).chute.badLength && !v.getLsbD 19 })) ∧
  (∀ (l : LinkId) (s : State) (v : W64), s.reaches l = true →
    exec (.registerWrite l 0x10010 8 v) s = .next (s.setLink l { s.link l with
      bar4Base := bits v.toNat 39 30 / 2 ^ (s.link l).bar4Log2 * 2 ^ (s.link l).bar4Log2 })) ∧
  (∀ (l : LinkId) (s : State) (v : W64), s.reaches l = true → bits v.toNat 1 0 ≠ 1 → bits v.toNat 1 0 ≠ 3 →
    exec (.registerWrite l 0x10108 8 v) s = .next (s.countModule cRstReqIgnored)) ∧
  (∀ (l : LinkId) (s : State) (st : Nat) (v : W64), s.reaches l = true → st < 64 → v.getLsbD 0 = true →
    exec (.registerWrite l (0x100008 + 0x100 * st) 8 v) s = exec (.drop l st) s) ∧
  (∀ (l : LinkId) (s : State) (st : Nat) (v : W64), s.reaches l = true → st < 64 →
    exec (.registerWrite l (0x200000 + 0x100 * st) 8 v) s =
      exec (.resRelease l st (bits v.toNat 7 0) ((v >>> 16).setWidth 16)) s) ∧
  (∀ (l : LinkId) (s : State) (v : W64), s.reaches l = true → bits v.toNat 1 0 = 1 →
    exec (.registerWrite l 0x10108 8 v) s = exec (.contextResetRequest l (bits v.toNat 13 8) (bits v.toNat 19 16)) s) ∧
  (∀ (l : LinkId) (s : State) (v : W64), s.reaches l = true → bits v.toNat 1 0 = 3 →
    exec (.registerWrite l 0x10108 8 v) s = exec (.standResetRequest l (bits v.toNat 13 8)) s) ∧
  (∀ (l : LinkId) (s : State) (m : Nat) (v : W64), s.reaches l = true → m < 4 → v.getLsbD 0 = true → v.getLsbD 1 = false →
    exec (.registerWrite l (0x1001008 + 0x40 * m) 8 v) s = .next (s.setMbox m
      (if (s.mbox m).mode = .assembling then (s.mbox m).freed else s.mbox m))) ∧
  (∀ (l : LinkId) (s : State) (m : Nat) (v : W64), s.reaches l = true → m < 4 → v.getLsbD 0 = false → v.getLsbD 1 = true →
    exec (.registerWrite l (0x1001008 + 0x40 * m) 8 v) s = .next (s.setMbox m
      (if (s.mbox m).mode = .ready ∧ (s.mbox m).gen = (v >>> 16).setWidth 16 then (s.mbox m).freed else s.mbox m))) ∧
  (∀ (l : LinkId) (s : State) (m : Nat) (v : W64), s.reaches l = true → m < 4 →
    exec (.registerWrite l (0x1001000 + 0x40 * m) 8 v) s =
      .next (s.setMbox m { s.mbox m with ignored := (s.mbox m).ignored && !v.getLsbD 4 })) ∧
  (∀ (l : LinkId) (s : State) (n : Nat) (v : W64), s.reaches l = true → n < 64 →
    exec (.registerWrite l (0x204000 + 16 * n) 8 v) s = .next ((s.setLink l { s.link l with
      msix := (s.link l).msix.set n { (s.link l).msix.get MsixEntry.reset n with addr := v &&& ~~~3#64 } }).msixFlush l) ∧
    exec (.registerWrite l (0x204008 + 16 * n) 8 v) s = .next ((s.setLink l { s.link l with
      msix := (s.link l).msix.set n { (s.link l).msix.get MsixEntry.reset n with
        data := v.setWidth 32, masked := v.getLsbD 32 } }).msixFlush l)) ∧
  (∀ (l : LinkId) (s : State) (st : Nat) (v : W64), s.reaches l = true → st < 64 →
    exec (.registerWrite l (0x100000 + 0x100 * st) 4 v) s =
      exec (.registerWrite l (0x100000 + 0x100 * st) 8 (v &&& 0xffffffff)) s) ∧
  (∀ (l : LinkId) (s : State) (st o w : Nat) (v : W64), s.reaches l = true → st < 64 → (s.cfg st).enabled = false → o < 0x100 →
    exec (.registerWrite l (0x100000 + 0x100 * st + o) w v) s = .next s) ∧
  (∀ (l : LinkId) (s : State) (o w : Nat) (v : W64), s.reaches l = true →
      (o < 0x10000 ∨ (0x104000 ≤ o ∧ o < 0x200000) ∨ 0x1200000 ≤ o) →
    exec (.registerWrite l o w v) s = .next s)

/-- BAR4 (spec/02 R34, spec/07 R174): a read answers the delivered bytes of the window, zero where nothing is allocated, and
changes no memory where no word needs correction; a write stores its bytes where the region lets the host write, and ignores and
counts where it does not. The model's own readings: log entry 33. -/
def Obligations.Bar4ReadsAndWrites : Prop :=
  (∀ (l : LinkId) (s : State) (off n : Nat), s.reaches l = true → 0 < n → n ≤ 4096 →
      off + n ≤ 2 ^ (30 + (s.link l).bar4Log2) → s.hbm.diff = [] →
    exec (.bar4Read l off n) s = .next (s.send (.bar4 l ((List.range n).map (fun i =>
      match s.hostKey (s.bar4Addr l off + i) with
      | some k => s.hbm.read k
      | none => 0)) false))) ∧
  (∀ (l : LinkId) (s : State) (off : Nat) (data : List Byte), s.reaches l = true → data ≠ [] → data.length ≤ 512 →
      off + data.length ≤ 2 ^ (30 + (s.link l).bar4Log2) →
      (∀ i, i < data.length → ∀ x, s.hostRegion (s.bar4Addr l off + i) = some x → x.hostWr = false) →
    ∃ t, exec (.bar4Write l off data) s = .next t ∧ t.hbm = s.hbm ∧ t.stands = s.stands ∧ t.sent = s.sent ∧
      t.counters.get (kModule cHostWriteIgnored) = s.counters.get (kModule cHostWriteIgnored) + 1) ∧
  (∀ (l : LinkId) (s : State) (off : Nat) (b : Byte) (x : Region) (k : Nat), s.reaches l = true →
      off + 1 ≤ 2 ^ (30 + (s.link l).bar4Log2) → s.hostRegion (s.bar4Addr l off) = some x → x.hostWr = true →
      s.visKey (s.bar4Addr l off) = some k → s.hbm.wf = true → s.hbm.check (k / 16) = .clean →
      (∀ d q, s.wantStage d q = []) →
    ∃ t, exec (.bar4Write l off [b]) s = .next t ∧ t.hbm.read k = b ∧ (∀ j, j ≠ k → t.hbm.read j = s.hbm.read j) ∧
      t.sent = s.sent ∧ t.comp = s.comp)

/-- A packet that failed a header check leaves the chute once it is at the head and a slot is free, whatever its WAIT condition
says (spec/02 R417, R46, R50): its slot holds its status, with SEQ, CTX and OPCODE from its header and no payload, GEN one higher;
no SIGNAL, no issue, no work. What holds a command at the head (spec/02 R47, R48, R50): a WAIT condition that does not hold, or no
free slot where it needs one, leaves the module as it is. The model's own readings: log entry 18. -/
def Obligations.HeaderVerdicts : Prop :=
  (∀ (s : State) (st n : Nat) (p : Packet) (ps : List Packet), s.fronts st = true → (s.stand st).chute.packets = p :: ps →
      p.verdict ≠ 0 → (s.stand st).freeSlot = some n →
    ∃ t, exec (.headerRefusal st) s = .next t ∧ (t.stand st).chute.packets = ps ∧
      (t.stand st).slot n = ⟨.ready, BitVec.ofNat 32 (fld p.bytes 8 4), p.verdict, nextGen ((s.stand st).slot n).gen,
        bits (fld p.bytes 4 1) 3 0, fld p.bytes 0 1, []⟩ ∧
      (∀ m, m ≠ n → (t.stand st).slot m = (s.stand st).slot m) ∧ (t.stand st).cursor = (n + 1) % 256 ∧
      (t.stand st).chute.seq = BitVec.ofNat 32 (fld p.bytes 8 4) ∧ (t.stand st).inflight = (s.stand st).inflight ∧
      (t.stand st).evt = (s.stand st).evt ∧ (t.stand st).wait = (s.stand st).wait ∧
      (t.stand st).steps = (s.stand st).steps ∧ s.standOnly t st ∧ s.unitsKept t) ∧
  (∀ (c : Instr) (s : State) (st : Nat) (p : Packet) (ps : List Packet), (s.stand st).chute.packets = p :: ps →
    (c = .commandIssue st ∨ c = .stepBegin st ∨ c = .stepEnd st ∨ c = .event st ∨ c = .result st ∨ c = .nop st) →
    ((bit (fld p.bytes 1 1) 0 = true →
        2 ^ 31 ≤ ((s.stand st).evt.get 0 (fld p.bytes 6 1) - (s.stand st).wait.get 0 (fld p.bytes 7 1)).toNat →
      exec c s = .next s) ∧
    ((s.stand st).freeSlot = none →
        (((fld p.bytes 0 1 ≠ 0x50 ∧ fld p.bytes 0 1 ≠ 0x52) ∨ bit (fld p.bytes 1 1) 3 = true) ∨
          s.issueCheck st p.bytes ≠ none) →
      exec c s = .next s)))

/-- A command that passes its checks issues (spec/02 R47, R50): it leaves the chute, holds the lowest free slot from the cursor on,
is the last in flight with the number that names it, and is counted; one that fails a check is refused into that slot with its
status and leaves nothing in flight (R46). Neither touches memory, another slot or an event counter. A STATS_TAP is at work from
its issue on (spec/05 R122). The model's own readings: log entry 18. -/
def Obligations.CommandIssue : Prop :=
  ∀ (s : State) (st n : Nat) (p : Packet) (ps : List Packet), (s.stand st).chute.packets = p :: ps →
      s.issuable st = some p → ownRow (fld p.bytes 0 1) = false → (s.stand st).freeSlot = some n →
    (∀ v, s.issueCheck st p.bytes = some v →
      ∃ t, exec (.commandIssue st) s = .next t ∧ (t.stand st).chute.packets = ps ∧
        ((t.stand st).slot n).st = .ready ∧ ((t.stand st).slot n).status = v ∧
        ((t.stand st).slot n).gen = nextGen ((s.stand st).slot n).gen ∧ ((t.stand st).slot n).payload = [] ∧
        (∀ m, m ≠ n → (t.stand st).slot m = (s.stand st).slot m) ∧ (t.stand st).inflight = (s.stand st).inflight ∧
        (t.stand st).evt = (s.stand st).evt ∧ s.standOnly t st ∧ s.unitsKept t) ∧
    (s.issueCheck st p.bytes = none →
      ∃ (t : State) (c : Cmd), exec (.commandIssue st) s = .next t ∧ (t.stand st).chute.packets = ps ∧
        (t.stand st).inflight = (s.stand st).inflight ++ [c] ∧ c.ticket = (s.stand st).nextTicket ∧
        c.bytes = p.bytes ∧ c.slot = some n ∧ c.stage = (if c.isTap then .running else .queued) ∧
        c.step = (if stepControl (fld p.bytes 0 1) then none else (s.stand st).steps.openStep) ∧
        ((t.stand st).slot n).st = .reserved ∧ ((t.stand st).slot n).gen = ((s.stand st).slot n).gen ∧
        (∀ m, m ≠ n → (t.stand st).slot m = (s.stand st).slot m) ∧
        (t.stand st).chute.seq = BitVec.ofNat 32 (fld p.bytes 8 4) ∧ (t.stand st).evt = (s.stand st).evt ∧
        t.counters.get (kStand st cCmdIssued) = s.counters.get (kStand st cCmdIssued) + 1 ∧
        t.hbm = s.hbm ∧ s.standOnly t st ∧ (c.isTap = false → s.unitsKept t))

/-- EVENT (spec/02 Table 2-13, R48) with SIGNAL and LOG clear completes as it issues, with no slot where RPT is clear: operation 1
adds to a counter modulo 2^32, 2 sets one, 3 sets a wait value, and 4 sets a wait value to EVT_VALUE[EVENT] plus VALUE. -/
def Obligations.EventOperations : Prop :=
  ∀ (s : State) (st : Nat) (p : Packet) (ps : List Packet), (s.stand st).chute.packets = p :: ps →
      s.issuable st = some p → fld p.bytes 0 1 = 0x50 → s.issueCheck st p.bytes = none →
      bit (fld p.bytes 1 1) 1 = false → bit (fld p.bytes 1 1) 2 = false →
      (bit (fld p.bytes 1 1) 3 = true → (s.stand st).freeSlot ≠ none) →
    ∃ t, exec (.event st) s = .next t ∧ (t.stand st).chute.packets = ps ∧
      (∀ k, k ≠ fld p.bytes 18 1 → (t.stand st).evt.get 0 k = (s.stand st).evt.get 0 k) ∧
      (∀ k, k ≠ fld p.bytes 19 1 → (t.stand st).wait.get 0 k = (s.stand st).wait.get 0 k) ∧
      (t.stand st).evt.get 0 (fld p.bytes 18 1) =
        (if fld p.bytes 16 1 = 1 then (s.stand st).evt.get 0 (fld p.bytes 18 1) + BitVec.ofNat 32 (fld p.bytes 20 4)
          else if fld p.bytes 16 1 = 2 then BitVec.ofNat 32 (fld p.bytes 20 4)
          else (s.stand st).evt.get 0 (fld p.bytes 18 1)) ∧
      (t.stand st).wait.get 0 (fld p.bytes 19 1) =
        (if fld p.bytes 16 1 = 3 then BitVec.ofNat 32 (fld p.bytes 20 4)
          else if fld p.bytes 16 1 = 4 then (s.stand st).evt.get 0 (fld p.bytes 18 1) + BitVec.ofNat 32 (fld p.bytes 20 4)
          else (s.stand st).wait.get 0 (fld p.bytes 19 1)) ∧
      (bit (fld p.bytes 1 1) 3 = false → (t.stand st).slots = (s.stand st).slots) ∧
      (t.stand st).steps = (s.stand st).steps ∧ s.standOnly t st ∧ s.unitsKept t

/-- RESULT writes its slot whatever its RPT bit: status DONE, payload bytes 16 to 63 of its flit. NOP does nothing beyond its flags;
any length from 1 to 64 flits passes, and no byte of its body is looked at (spec/02 R53). SIGNAL adds SIG_INC (R48). -/
def Obligations.ResultAndNop : Prop :=
  (∀ (s : State) (st n : Nat) (p : Packet) (ps : List Packet), (s.stand st).chute.packets = p :: ps →
      s.issuable st = some p → fld p.bytes 0 1 = 0x51 → s.issueCheck st p.bytes = none →
      (s.stand st).freeSlot = some n →
    ∃ t, exec (.result st) s = .next t ∧ (t.stand st).chute.packets = ps ∧
      (t.stand st).slot n = ⟨.ready, BitVec.ofNat 32 (fld p.bytes 8 4), 0, nextGen ((s.stand st).slot n).gen,
        bits (fld p.bytes 4 1) 3 0, 0x51, (p.bytes.drop 16).take 48⟩ ∧
      (∀ m, m ≠ n → (t.stand st).slot m = (s.stand st).slot m) ∧
      (t.stand st).evt = (if bit (fld p.bytes 1 1) 1 then
        (s.stand st).evt.upd 0 (fld p.bytes 12 2) (· + BitVec.ofNat 32 (fld p.bytes 14 2)) else (s.stand st).evt) ∧
      (t.stand st).wait = (s.stand st).wait ∧ s.standOnly t st ∧ s.unitsKept t) ∧
  (∀ (s : State) (st : Nat) (p : Packet) (ps : List Packet), (s.stand st).chute.packets = p :: ps →
      s.issuable st = some p → fld p.bytes 0 1 = 0x52 → s.issueCheck st p.bytes = none →
      (bit (fld p.bytes 1 1) 3 = true → (s.stand st).freeSlot ≠ none) →
    ∃ t, exec (.nop st) s = .next t ∧ (t.stand st).chute.packets = ps ∧
      (bit (fld p.bytes 1 1) 3 = false → (t.stand st).slots = (s.stand st).slots) ∧
      (∀ n, bit (fld p.bytes 1 1) 3 = true → (s.stand st).freeSlot = some n →
        ((t.stand st).slot n).status = 0 ∧ ((t.stand st).slot n).payload = [] ∧
        ∀ m, m ≠ n → (t.stand st).slot m = (s.stand st).slot m) ∧
      (t.stand st).evt = (if bit (fld p.bytes 1 1) 1 then
        (s.stand st).evt.upd 0 (fld p.bytes 12 2) (· + BitVec.ofNat 32 (fld p.bytes 14 2)) else (s.stand st).evt) ∧
      (t.stand st).wait = (s.stand st).wait ∧ s.standOnly t st ∧ s.unitsKept t) ∧
  (∀ (v : Variant) (g : StandCfg) (p : List Byte), fld p 0 1 = 0x52 → headerMalformed p = false → 1 ≤ fld p 2 2 →
    fld p 2 2 ≤ 64 → bit g.contexts.toNat (bits (fld p 4 1) 3 0) = true → headerVerdict v g p = 0) ∧
  (∀ (s : State) (st : Nat) (p : List Byte), fld p 0 1 = 0x52 → bit (fld p 1 1) 2 = false → s.issueCheck st p = none)

/-- STEP_BEGIN opens the step of its packet with its seeds and data position, and STEP_END closes it; each completes into its slot
(spec/12 R303 to R305). STEP_END stays in flight until the step is applied: at once where no command of the step is left in flight
and none is to be replayed. -/
def Obligations.StepsOpenAndClose : Prop :=
  (∀ (s : State) (st n : Nat) (p : Packet) (ps : List Packet), (s.stand st).chute.packets = p :: ps →
      s.issuable st = some p → fld p.bytes 0 1 = 0x40 → s.issueCheck st p.bytes = none → s.stepBeginWaits st = false →
      (s.stand st).freeSlot = some n →
    ∃ t, exec (.stepBegin st) s = .next t ∧ (t.stand st).chute.packets = ps ∧
      (t.stand st).steps.openStep = some (stepOf p.bytes) ∧ (t.stand st).steps.next = stepOf p.bytes + 1 ∧
      (t.stand st).steps.nextValid = true ∧ (t.stand st).steps.opened = (s.stand st).steps.opened + 1 ∧
      (t.stand st).steps.last = some (BitVec.ofNat 64 (fld p.bytes 32 8), BitVec.ofNat 64 (fld p.bytes 40 8),
        stepOf p.bytes) ∧
      (t.stand st).steps.records.length = (s.stand st).steps.records.length + 1 ∧
      (t.stand st).slot n = (if bit (fld p.bytes 1 1) 3 then
        ⟨.ready, BitVec.ofNat 32 (fld p.bytes 8 4), 0, nextGen ((s.stand st).slot n).gen, bits (fld p.bytes 4 1) 3 0, 0x40,
          timed s.clock.now s.clock.now []⟩ else { (s.stand st).slot n with st := .free }) ∧
      s.standOnly t st ∧ s.unitsKept t) ∧
  (∀ (s : State) (st n : Nat) (w : W64) (p : Packet) (ps : List Packet), (s.stand st).chute.packets = p :: ps →
      s.issuable st = some p → fld p.bytes 0 1 = 0x41 → s.issueCheck st p.bytes = none →
      (s.stand st).freeSlot = some n → (s.stand st).steps.openStep = some w →
      (∀ a b, a ∈ (s.stand st).steps.records → b ∈ (s.stand st).steps.records → a.mode = .isOpen → b.mode = .isOpen →
        a.step = b.step) →
      (∀ d ∈ (s.stand st).inflight, d.ticket ≠ (s.stand st).nextTicket ∧ d.slot ≠ some n) →
    ∃ t, exec (.stepEnd st) s = .next t ∧ (t.stand st).chute.packets = ps ∧ (t.stand st).steps.openStep = none ∧
      (∀ r ∈ (t.stand st).steps.records, r.step = w → r.mode ≠ .isOpen) ∧
      ((∀ d ∈ (s.stand st).inflight, d.step ≠ some w) → (s.stand st).steps.replaying w = false →
        (∀ r ∈ (t.stand st).steps.records, r.step = w → r.mode = .applied) ∧
        (t.stand st).slot n = (if bit (fld p.bytes 1 1) 3 then
          ⟨.ready, BitVec.ofNat 32 (fld p.bytes 8 4), 0, nextGen ((s.stand st).slot n).gen, bits (fld p.bytes 4 1) 3 0, 0x41,
            timed s.clock.now s.clock.now []⟩ else { (s.stand st).slot n with st := .free })) ∧
      t.hbm = s.hbm ∧ s.standOnly t st)

/-- A command whose parts have completed (spec/02 R48, R50) is in flight no longer. Its slot holds its lowest status and its
payload where RPT is set, the opcode is RESULT or the status is not DONE, and is free again, its generation unchanged, otherwise.
SIGNAL is applied once, but not by an OWNER_LOAD that what it read makes a refusal (spec/09 Table 9-10); memory stays. The Skidder
commands of a cluster complete in queue order (spec/06 R144). The model's own readings: log entry 77. -/
def Obligations.CommandCompletion : Prop :=
  ∀ (s : State) (st n : Nat) (c : Cmd), s.fronts st = true → (s.stand st).cmd c.ticket = some c → c.stage = .done →
      (s.stand st).hung c.ticket = false → (s.stand st).skidBefore c = false → c.slot = some n → c.replay = false → discarded c.status = false →
      (∀ r ∈ (s.stand st).steps.records, r.mode ≠ .closed) →
    ∃ t, exec (.commandComplete st c.ticket) s = .next t ∧ (t.stand st).cmd c.ticket = none ∧
      (∀ d ∈ (s.stand st).inflight, d.ticket ≠ c.ticket → d ∈ (t.stand st).inflight) ∧
      (t.stand st).slot n = (if c.rpt = true ∨ c.opcode = 0x51 ∨ c.status ≠ 0 then
        ⟨.ready, c.seq, c.status, nextGen ((s.stand st).slot n).gen, c.context, c.opcode, s.payload c⟩
        else { (s.stand st).slot n with st := .free }) ∧
      (∀ m, m ≠ n → (t.stand st).slot m = (s.stand st).slot m) ∧
      (t.stand st).evt = (if c.signals && !c.refusedLate then (s.stand st).evt.upd 0 c.sigEvent (· + c.sigInc) else (s.stand st).evt) ∧
      t.hbm = s.hbm ∧ s.standOnly t st

/-- MATMUL and MATMUL_PLANE (spec/04 R106, R95, R108, spec/03 R73 to R76): on each core that the command selects, element (i, j) is
the sum of its runs added in ascending order to its start, +0 or the kept value that ACC_IN takes; ACC_OUT keeps the accumulators
with the command's context and writes no C, and otherwise C is written in FMT_C. No other core, no HBM, no result slot and no event
counter changes, and of the arrays only the cells of the selected cores; the command runs on until its tiles have been checked. A
product whose C is the source of a COLLECTIVE under way waits (spec/09 R224). The model's own readings: log entries 22 and 84. -/
def Obligations.Products : Prop :=
  (∀ (s : State) (st tkt op : Nat) (c : Cmd), (op = 1 ∨ op = 2) → s.canRun st tkt op = some c → (s.stand st).outHeld c = true →
    exec (if op = 1 then .matmul st tkt else .matmulPlane st tkt) s = .next s) ∧
  ∀ (s : State) (st tkt op px : Nat) (c : Cmd), (op = 1 ∨ op = 2) → s.canRun st tkt op = some c → c.accFaults = [] → c.keptIn = [] →
      (s.stand st).outHeld c = false → s.standCluster st (matArgs c.bytes).cluster = some px →
    ∃ t, exec (if op = 1 then .matmul st tkt else .matmulPlane st tkt) s = .next t ∧ s.stageOf st tkt = some .queued ∧
      t.stageOf st tkt = some .running ∧
      (∀ r pc, r < 4 → (matArgs c.bytes).selects r = true → s.physCore px r = some pc →
        ∃ v : Nat → Nat → Val,
          (∀ i j, i < (matArgs c.bytes).m → j < (matArgs c.bytes).n →
            (((matArgs c.bytes).accIn = false → v i j = accTo ((matArgs c.bytes).valA (s.core pc).spad i)
              (fun k => (matArgs c.bytes).valB (s.core pc).spad k j) (matArgs c.bytes).rl 0 (matArgs c.bytes).k Val.zero) ∧
            (∀ x, x = (s.core pc).kept (matArgs c.bytes).kset → (matArgs c.bytes).accIn = true →
              x.rows = (matArgs c.bytes).m → x.cols = (matArgs c.bytes).n →
              v i j = accTo ((matArgs c.bytes).valA (s.core pc).spad i)
                (fun k => (matArgs c.bytes).valB (s.core pc).spad k j) (matArgs c.bytes).rl 0 (matArgs c.bytes).k
                (valAcc (valAcc (x.vals.getD (x.cols * i + j) 0)).codeAcc)))) ∧
          ((matArgs c.bytes).accOut = false →
            (t.core pc).spad = (matArgs c.bytes).descC.putStored (s.core pc).spad
              ((matArgs c.bytes).descC.store (s.recipe (matArgs c.bytes).descC.fmt) (c.sr (matArgs c.bytes).descC.fmt)
                (fun e0 e1 _ _ => v e1 e0) (matArgs c.bytes).descC.lin).bytes ∧
            (t.core pc).kept (matArgs c.bytes).kset = (if (matArgs c.bytes).accIn then KeptSet.empty
              else (s.core pc).kept (matArgs c.bytes).kset)) ∧
          ((matArgs c.bytes).accOut = true →
            (t.core pc).spad = (s.core pc).spad ∧
            ∃ vals, (t.core pc).kept (matArgs c.bytes).kset =
                ⟨true, c.context, (matArgs c.bytes).m, (matArgs c.bytes).n, vals⟩ ∧
              ∀ i j, i < (matArgs c.bytes).m → j < (matArgs c.bytes).n →
                vals.getD ((matArgs c.bytes).n * i + j) 0 = (v i j).codeAcc) ∧
          (t.core pc).kept (!(matArgs c.bytes).kset) = (s.core pc).kept (!(matArgs c.bytes).kset) ∧
          (t.core pc).batten = (s.core pc).batten) ∧
      s.cellsOnly t (fun pc => ∃ r, r < 4 ∧ (matArgs c.bytes).selects r = true ∧ s.physCore px r = some pc) ∧
      (t.stand st).outputs = (s.stand st).outputs ∧ s.standOnly t st ∧ t.hbm = s.hbm ∧ t.frame = s.frame

/-- VECOP (spec/05 R111 to R116): on each selected core, element (i, j) of Y is the operation on the elements of its operands, a
broadcast operand read in row 0, and Y is written in FMT_Y, a lane's element as its re-executions left it (R128); a write into a range that a product holds waits (spec/04 R100). The
model's own readings: log entries 16 and 25. -/
def Obligations.VectorOperations : Prop :=
  ∀ (s : State) (st tkt px : Nat) (c : Cmd), s.canRun st tkt 0x08 = some c →
      s.standCluster st (vecArgs c.bytes).cluster = some px →
    ((coresOf (vecArgs c.bytes).cores).any (fun r => (s.stand st).matHolds (vecArgs c.bytes).cluster r
        (vecArgs c.bytes).descY.span) = true → exec (.vecop st tkt) s = .next s) ∧
    ((coresOf (vecArgs c.bytes).cores).any (fun r => (s.stand st).matHolds (vecArgs c.bytes).cluster r
        (vecArgs c.bytes).descY.span) = false →
      ∃ t, exec (.vecop st tkt) s = .next t ∧ t.stageOf st tkt = some .done ∧
        (∀ r pc, r ∈ coresOf (vecArgs c.bytes).cores → s.physCore px r = some pc →
          ∃ v : Nat → Nat → Val,
            (∀ i j, i < (vecArgs c.bytes).rows → j < (vecArgs c.bytes).cols →
              v i j = vecElem c.seeds (vecArgs c.bytes) (i * (vecArgs c.bytes).cols + j)
                ((vecArgs c.bytes).descA.engineVal (s.core pc).spad i j).1
                (if (vecArgs c.bytes).usesB then ((vecArgs c.bytes).descB.engineVal (s.core pc).spad
                  (if (vecArgs c.bytes).bcastB then 0 else i) j).1 else Val.zero)
                (if (vecArgs c.bytes).usesC then ((vecArgs c.bytes).descC.engineVal (s.core pc).spad
                  (if (vecArgs c.bytes).bcastC then 0 else i) j).1 else Val.zero)) ∧
            t.core pc = { s.core pc with
              spad := (vecArgs c.bytes).descY.putStored (s.core pc).spad
                ((vecArgs c.bytes).descY.store (s.recipe (vecArgs c.bytes).descY.fmt) (c.sr (vecArgs c.bytes).descY.fmt)
                  (fun e0 e1 _ _ => c.laneVal pc (.elem ((vecArgs c.bytes).cols * e1 + e0)) (v e1 e0))
                  (vecArgs c.bytes).descY.lin).bytes }) ∧
        s.coresOnly t (fun pc => ∃ r, r ∈ coresOf (vecArgs c.bytes).cores ∧ s.physCore px r = some pc) ∧
        (t.stand st).outputs = (s.stand st).outputs ∧ s.standOnly t st ∧ t.hbm = s.hbm ∧ t.frame = s.frame)

/-- ROWOP (spec/05 R117 to R125): a STATS_TAP takes its tiles as they are written; any other waits while an earlier access to its
entries has still to take effect or a product holds a range that it writes. Otherwise, on each selected core, the rows' Y and the
Batten entries are what the operation gives for each row, a lane's value as its re-executions left it (R128); the sums of dgamma and
dbeta take their rows; entries move unchanged by the two copy operations; and the entries of other rows, other cores, HBM and the
result slots stay. The model's own readings: log entries 26 and 83. -/
def Obligations.RowOperations : Prop :=
  ∀ (s : State) (st tkt : Nat) (c : Cmd) (a : RowArgs), s.canRun st tkt 0x09 = some c → a = rowArgs c.bytes →
    ((c.isTap = true ∨ (s.stand st).entryHeld c = true ∨ (∃ r ∈ coresOf a.cores, ∃ y ∈ a.ySpans ++ a.sumSpans,
        (s.stand st).matHolds a.cluster r y = true)) → exec (.rowop st tkt) s = .next s) ∧
    ∀ px, c.isTap = false → (s.stand st).entryHeld c = false →
      (∀ r ∈ coresOf a.cores, ∀ y ∈ a.ySpans ++ a.sumSpans, (s.stand st).matHolds a.cluster r y = false) →
      s.standCluster st a.cluster = some px → 0 < a.rows → (∀ pc, ∀ x ∈ (s.core pc).taps, x.stand ≠ st) →
    ∃ t, exec (.rowop st tkt) s = .next t ∧ t.stageOf st tkt = some .done ∧
      (∀ r pc, r ∈ coresOf a.cores → s.physCore px r = some pc →
        t.core pc = { s.core pc with spad := (t.core pc).spad, batten := (t.core pc).batten } ∧
        ∀ (out : Nat → RowOut) (y : Mem),
          (∀ i, out i = (a.row (a.rowIn (s.core pc) i) i).lanes c pc i) →
          y = a.descY.putStored (s.core pc).spad (a.descY.store (s.recipe a.descY.fmt) (c.sr a.descY.fmt)
            (fun e0 e1 _ _ => c.laneVal pc (.elem (a.cols * e1 + e0)) (if e1 < a.rows then (out e1).y.getD e0 Val.zero else Val.zero))
            a.descY.lin).bytes →
          ((a.op = 2 ∨ a.op = 4 ∨ a.op = 8 ∨ a.op = 9) →
            (t.core pc).batten = (s.core pc).batten.writeRange (8 * a.entry) (entryBytes
              ((List.range a.rows).map (fun i => ((out i).entry).getD (Val.zero, Val.zero))))) ∧
          (a.op = 15 → (t.core pc).batten = (s.core pc).batten.writeRange (8 * a.entry) (entryBytes
            ((List.range a.rows).map (fun i => entryAt (s.core pc).spad (64 * a.aX + i))))) ∧
          ((a.op = 3 ∨ a.op = 5 ∨ a.op = 10 ∨ a.op = 11 ∨ a.op = 14) → (t.core pc).batten = (s.core pc).batten) ∧
          ((a.op = 3 ∨ a.op = 4 ∨ a.op = 5 ∨ a.op = 8 ∨ a.op = 9) → (t.core pc).spad = y) ∧
          (a.op = 11 → (t.core pc).spad = a.dgamma.putRow y (c.laneRow pc false (a.sums (s.core pc) a.dgamma true))) ∧
          (a.op = 10 → (t.core pc).spad = a.dbeta.putRow
            (a.dgamma.putRow y (c.laneRow pc false (a.sums (s.core pc) a.dgamma true)))
            (c.laneRow pc true (a.sums (s.core pc) a.dbeta false))) ∧
          (a.op = 14 → (t.core pc).spad = (s.core pc).spad.writeRange (512 * a.aY) (entryBytes
            ((List.range a.rows).map (fun i => entryAt (s.core pc).batten (a.entry + i))))) ∧
          ((a.op = 2 ∨ a.op = 15) → (t.core pc).spad = (s.core pc).spad)) ∧
      s.coresOnly t (fun pc => ∃ r, r ∈ coresOf a.cores ∧ s.physCore px r = some pc) ∧
      (t.stand st).outputs = (s.stand st).outputs ∧ s.standOnly t st ∧ t.hbm = s.hbm ∧ t.frame = s.frame

/-- MOVE, GATHER and WINDOW between places of the stand itself (spec/06 R147 to R152, R156, R157): with every operand in memory, in
a cluster scratch or in a scratchpad whose words all check, nothing in the way, and no background copy, the destination's store
takes the elements of the positions that the command picks, the pad value where it picks none, and no other byte of any store
changes. One whose operands are held or moving waits, in whatever places they lie; one without the unit that would do its work ends
with 0x01F3 and moves nothing (spec/11 R296). The model's own readings: log entries 28 and 29. -/
def Obligations.Transfers : Prop :=
  (∀ (s : State) (st tkt op px : Nat) (c : Cmd) (i : Instr) (p : Plan), s.skidCmd st tkt op = some c → c.stage ≠ .phase 2 →
      (op = 0x10 ∧ i = .move st tkt ∨ op = 0x11 ∧ i = .gather st tkt ∨ op = 0x13 ∧ i = .window st tkt) →
      s.planOf st c = some p → s.standCluster st p.args.cluster = some px →
    (s.skidMissing st px p.args = true → ∃ t, exec i s = .next t ∧ t.stageOf st tkt = some .done ∧
      (∃ d, (t.stand st).cmd tkt = some d ∧ 0x01f3 ∈ d.statuses) ∧ s.memoryKept t ∧
      (t.stand st).outputs = (s.stand st).outputs ∧ s.standOnly t st ∧ t.frame = s.frame) ∧
    (s.skidMissing st px p.args = false → s.planWaits st c p = true → exec i s = .next s)) ∧
  ∀ (s : State) (st tkt op px : Nat) (c : Cmd) (i : Instr) (a : SkidArgs) (x : Xfer) (pick : Coord → Option Coord) (id : StoreId),
      s.skidCmd st tkt op = some c → c.stage = .queued → a = s.skidArgs st c.step c.bytes →
      (op = 0x10 ∧ i = .move st tkt ∧ x = ⟨a.src, a.dst, val32 a.value, a.raw⟩ ∧
          pick = (fun e => if a.fill then none else some (a.permuted e)) ∨
        op = 0x11 ∧ i = .gather st tkt ∧ x = ⟨a.src, a.dst, Val.zero, a.raw⟩ ∧
          pick = (fun e => ((s.readIndex st c a.idx a.src.rows).rows.getD (a.dst.rowOf e) none).map
            (fun r => a.src.rowAt r e.1)) ∨
        op = 0x13 ∧ i = .window st tkt ∧ x = ⟨a.src, a.dst, val32 a.value, false⟩ ∧
          pick = a.windowed (winArgs c.bytes a)) →
      s.standCluster st a.cluster = some px → s.clusterFenced (.skidder px) = false →
      (∀ d ∈ a.operands, d.space ≤ 2 ∧ s.memWaits st c d = false ∧
        ∃ q, s.storeOf st d = some q ∧ (s.store q).diff = []) →
      s.storeOf st a.dst = some id → a.dst ∈ a.operands →
      (a.dst.space = 2 → (s.stand st).matHolds a.dst.cluster a.dst.core a.dst.span = false) →
      s.srcHeld st c.ticket a.dst = false → (∀ die b, s.wantStage die b = []) →
    ∃ t, exec i s = .next t ∧ t.stageOf st tkt = some .done ∧
      t.store id = (s.store id).put (heldIn id ((s.xferStored st c x pick).bytes.map (fun p => (s.spot st c a.dst p.1, p.2)))) ∧
      (∀ j, j ≠ id → t.store j = s.store j) ∧ (∀ pc, t.core pc = { s.core pc with spad := t.store (.spad pc) }) ∧
      t.mem = s.mem ∧ (t.stand st).outputs = (s.stand st).outputs ∧ s.standOnly t st ∧ t.frame = s.frame

/-- SCATTER_ADD within the stand (spec/06 R153, R154), under the same conditions: each element of each destination row that the
list names takes the sum of its own value and the named source rows' values, added in the order of the list, each addition rounded
once to binary32, a landing lane's sum as its re-executions left it (spec/08 R189); no other byte of any store changes, and rows named
again are counted. One whose operands are held, moving or due to an earlier delivery waits, and one without its unit ends with 0x01F3.
The model's own readings: log entry 29. -/
def Obligations.ScatterAdd : Prop :=
  (∀ (s : State) (st tkt px : Nat) (c : Cmd) (a : SkidArgs), s.skidCmd st tkt 0x12 = some c → a = s.skidArgs st c.step c.bytes →
      s.standCluster st a.cluster = some px →
    (s.skidMissing st px a = true → ∃ t, exec (.scatterAdd st tkt) s = .next t ∧ t.stageOf st tkt = some .done ∧
      (∃ d, (t.stand st).cmd tkt = some d ∧ 0x01f3 ∈ d.statuses) ∧ s.memoryKept t ∧
      (t.stand st).outputs = (s.stand st).outputs ∧ s.standOnly t st ∧ t.frame = s.frame) ∧
    (s.skidMissing st px a = false → s.scatterWaits st c a = true → exec (.scatterAdd st tkt) s = .next s)) ∧
  ∀ (s : State) (st tkt px : Nat) (c : Cmd) (a : SkidArgs) (id : StoreId), s.skidCmd st tkt 0x12 = some c → c.stage = .queued →
      a = s.skidArgs st c.step c.bytes → s.standCluster st a.cluster = some px → s.clusterFenced (.skidder px) = false →
      (∀ d, d = a.src ∨ d = a.dst ∨ d = a.idx → d.space ≤ 2 ∧ s.memWaits st c d = false ∧
        ∃ q, s.storeOf st d = some q ∧ (s.store q).diff = []) →
      s.storeOf st a.dst = some id →
      (a.dst.space = 2 → (s.stand st).matHolds a.dst.cluster a.dst.core a.dst.span = false) →
      s.srcHeld st c.ticket a.dst = false → s.deliveryInto st c a.dst = false → (∀ die b, s.wantStage die b = []) →
    ∃ t, exec (.scatterAdd st tkt) s = .next t ∧ t.stageOf st tkt = some .done ∧
      t.store id = (s.store id).put (heldIn id (((s.readIndex st c a.idx a.dst.rows).rows.filterMap (fun r => r)).dedup.flatMap
        (fun r => (List.range a.dst.e0).flatMap (fun e => (a.dst.bytesAt (a.dst.rowAt r e)).zipIdx.map (fun q =>
          (s.spot st c a.dst q.1, BitVec.ofNat 8 (fFP32.encode (c.landVal (.item r e)
            ((positionsOf (s.readIndex st c a.idx a.dst.rows).rows r).foldl
              (fun acc j => add32 acc (toConsumer32 (a.src.value (s.spotByte st c a.src) (a.src.rowAt j e).1
                (a.src.rowAt j e).2.1 (a.src.rowAt j e).2.2.1 (a.src.rowAt j e).2.2.2)).1)
              (a.dst.value (s.spotByte st c a.dst) (a.dst.rowAt r e).1 (a.dst.rowAt r e).2.1 (a.dst.rowAt r e).2.2.1
                (a.dst.rowAt r e).2.2.2))) / 256 ^ q.2))))))) ∧
      (∀ j, j ≠ id → t.store j = s.store j) ∧ (∀ pc, t.core pc = { s.core pc with spad := t.store (.spad pc) }) ∧
      t.counters.get (kStand st cSkdScatterCollisions) = s.counters.get (kStand st cSkdScatterCollisions) +
        BitVec.ofNat 48 (collisions (s.readIndex st c a.idx a.dst.rows).rows []) ∧
      (t.stand st).outputs = (s.stand st).outputs ∧ s.standOnly t st ∧ t.frame = s.frame

/-- OPTIM (spec/08 R196, R197, R201, spec/03 R83, R84). It waits on a sealed group, for earlier deliveries, for a held source and for
room in the copy-ahead buffers. Otherwise the group has a tentative version whose update exponent follows the largest update over its
elements, and its committed version and exponent stay; it is damaged where a word read fails correction. Where every word checks, and
the places that it writes do not meet, every byte of the tentative copy of each role is what R201 gives for the current copy and the
gradient under that role's format word, scale bytes included, and no other byte changes but those of the roles that move over
unchanged with a new tentative version. The model's own readings: log entry 36. -/
def Obligations.OptimizerStep : Prop :=
  ∀ (s : State) (st tkt k : Nat) (c : Cmd), s.canRun st tkt 0x20 = some c → k = ugrpOf c.bytes →
    (((s.ugroup k).isSealed = true ∨ s.optimHeld st c = true ∨ s.stageFor (s.tentBlocks k) = none) →
      exec (.optim st tkt) s = .next s) ∧
    ((s.ugroup k).isSealed = false → s.optimHeld st c = false → (s.stageFor (s.tentBlocks k)).isSome = true →
      ∃ t, exec (.optim st tkt) s = .next t ∧ t.stageOf st tkt = some .done ∧
        t.ugroup k = { s.ugroup k with
          tent := true
          uTent := nextU (dMax ((List.range (s.groupElems k).2).map (fun i => (s.optOut c k ((s.groupElems k).1 + i)).step)))
            (s.optU c k)
          optims := min 32 ((s.ugroup k).optims + 1)
          tstep := BitVec.ofNat 32 c.seeds.2.2.toNat
          damaged := (s.ugroup k).damaged || (s.optReads c k).any s.hbm.bad } ∧
        (∀ j, j ≠ k → t.ugroup j = s.ugroup j) ∧
        (s.hbm.diff = [] → s.hbm.wf = true →
          (∀ key, (∀ p ∈ s.optPlaces c k, s.regionKey p.2.1 p.2.2 ≠ key) →
              ((s.ugroup k).tent = false → ∀ p ∈ s.rolesOf k, ∀ o ∈ wordAddrs (s.groupRange k p.2).1 (s.groupRange k p.2).2,
                s.regionKey (s.copyOf p.2 (!(s.ugroup k).sel)) o / 16 ≠ key / 16) →
            t.hbm.read key = s.hbm.read key) ∧
          ((∀ p ∈ s.optPlaces c k, ∀ q ∈ s.optPlaces c k, s.regionKey p.2.1 p.2.2 = s.regionKey q.2.1 q.2.2 → p = q) →
            ∀ j x, (optRoles c.bytes)[j]? = some x →
              (∀ o b, (o, b) ∈ (s.optRole c k j x (s.optOut c k)).data →
                t.hbm.read (s.regionKey (s.copyOf ((s.tgroup (s.udef k).tgrp).role x.1) (!(s.ugroup k).sel)) o) = b) ∧
              (∀ o b, (o, b) ∈ (s.optRole c k j x (s.optOut c k)).scale →
                t.hbm.read (s.regionKey (s.copyOf ((s.tgroup (s.udef k).tgrp).role (x.1 + 1)) (!(s.ugroup k).sel)) o) = b))) ∧
        (t.stand st).outputs = (s.stand st).outputs ∧ s.standOnly t st ∧ t.comp = s.comp ∧ t.frame = s.frame)

/-- ACCUM (spec/08 R203) waits for earlier deliveries and for a held source, and otherwise completes: where every word checks, each
element of the group's gradient takes the scaled source, plus its own value unless FIRST is set, in one rounding to binary32, and no
other byte of memory changes. DIGEST and SWEEP (spec/08 R205 to R207). A DIGEST completes; where every word checks it changes no
memory; it leaves the Blaze of the copies that it names in its payload, and with SEAL seals each of its groups that has a tentative
version. A SWEEP waits for the stand's background copy, for a held source and for earlier deliveries, and otherwise writes +0 into
every byte of the regions it names and of their twins, changes no other byte, and puts the groups whose P region it sweeps back to
their seeds. A lane's result is as its re-executions left it (R189). The model's own readings: log entry 36. -/
def Obligations.AccumDigestSweep : Prop :=
  (∀ (s : State) (st tkt k : Nat) (c : Cmd), s.canRun st tkt 0x21 = some c → k = ugrpOf c.bytes →
    (((s.stand st).deliveryAhead c k = true ∨ s.groupHeld st c.ticket k (s.tgroup (s.udef k).tgrp).g = true) →
      exec (.accum st tkt) s = .next s) ∧
    ((s.stand st).deliveryAhead c k = false → s.groupHeld st c.ticket k (s.tgroup (s.udef k).tgrp).g = false →
      ∃ t, exec (.accum st tkt) s = .next t ∧ t.stageOf st tkt = some .done ∧
        (s.hbm.diff = [] → s.hbm.wf = true →
          (s.apart (s.tgroup (s.udef k).tgrp).g (16384 * (s.udef k).first4k)
              (16384 * ((s.udef k).first4k + (s.udef k).count4k)) →
            ∀ i b, i < 4096 * (s.udef k).count4k → b < 4 →
              t.hbm.read (s.regionKey (s.tgroup (s.udef k).tgrp).g (4 * (4096 * (s.udef k).first4k + i) + b)) =
                BitVec.ofNat 8 ((writeElem fmtFp32.fmt.flt fmtFp32.sat (drawOf fmtFp32 (c.sr fmtFp32) i)
                  (c.landVal (.role 0 (4096 * (s.udef k).first4k + i)) (if bit (fld c.bytes 16 1) 0 then
                    mul32 (f32At c.bytes 28) (s.roleVal (s.accumSrc k c.bytes) (4096 * (s.udef k).first4k + i)).1
                   else fma32 (f32At c.bytes 28) (s.roleVal (s.accumSrc k c.bytes) (4096 * (s.udef k).first4k + i)).1
                    (s.roleVal (s.gRd k) (4096 * (s.udef k).first4k + i)).1))).1 / 256 ^ b)) ∧
          (∀ key, (∀ o, 16384 * (s.udef k).first4k ≤ o → o < 16384 * ((s.udef k).first4k + (s.udef k).count4k) →
              s.regionKey (s.tgroup (s.udef k).tgrp).g o ≠ key) → t.hbm.read key = s.hbm.read key) ∧
          t.mem = s.mem) ∧
        t.comp = s.comp ∧ (t.stand st).outputs = (s.stand st).outputs ∧ s.standOnly t st ∧ t.frame = s.frame)) ∧
  (∀ (s : State) (st tkt : Nat) (c : Cmd) (ks : List Nat), s.canRun st tkt 0x23 = some c →
      ks = groupSpan (ugrpOf c.bytes) (bits (fld c.bytes 20 2) 13 0) →
    ∃ t, exec (.digest st tkt) s = .next t ∧ t.stageOf st tkt = some .done ∧
      (∃ d, (t.stand st).cmd tkt = some d ∧ d.pay.take 16 = natLe 16
        (match c.laneFaults.find? (fun (f : LaneFault) => decide (f.place = LanePlace.digest)) with
          | some f => f.code
          | none => s.blaze (BitVec.ofNat 64 (fld c.bytes 24 8)) ks (s.digestCopy (bit (fld c.bytes 16 1) 0))).toNat ∧
        (s.hbm.diff = [] → d.statuses = c.statuses)) ∧
      (s.hbm.diff = [] → t.hbm = s.hbm) ∧
      (∀ k, (t.ugroup k) = { s.ugroup k with
        isSealed := (s.ugroup k).isSealed ||
          (bit (fld c.bytes 16 1) 1 && ks.contains k && (s.ugroup k).tent) }) ∧
      t.comp = s.comp ∧ (t.stand st).outputs = (s.stand st).outputs ∧ s.standOnly t st ∧ t.frame = s.frame) ∧
  (∀ (s : State) (st tkt : Nat) (c : Cmd), s.canRun st tkt 0x22 = some c →
    ((s.sweepPinned st = true ∨ s.sweepHeld st c = true) → exec (.sweep st tkt) s = .next s) ∧
    (s.sweepPinned st = false → s.sweepHeld st c = false →
      ∃ t, exec (.sweep st tkt) s = .next t ∧ t.stageOf st tkt = some .done ∧
        (∀ key, (∃ r ∈ s.sweptRegions st c.bytes, s.inRegion r key = true ∨
            ((s.twinOf r).valid = true ∧ s.inRegion (s.twinOf r).twin key = true)) → t.hbm.raw key = 0) ∧
        (∀ key, (∀ r ∈ s.sweptRegions st c.bytes, s.inRegion r key = false ∧
            ((s.twinOf r).valid = true → s.inRegion (s.twinOf r).twin key = false)) → t.hbm.raw key = s.hbm.raw key) ∧
        (∀ k ∈ s.sweptGroups st (s.sweptRegions st c.bytes), t.ugroup k = UGroup.reset (s.udef k).seedU) ∧
        (∀ k, k ∉ s.sweptGroups st (s.sweptRegions st c.bytes) → t.ugroup k = s.ugroup k) ∧
        t.comp = s.comp ∧ (t.stand st).outputs = (s.stand st).outputs ∧ s.standOnly t st ∧ t.frame = s.frame))

/-- REDUCE, COLLECTIVE and REDUCTION_PIECE (spec/09 R216, R217, R219, R220). A command whose source an earlier OPTIM or SWEEP has still
to write waits; otherwise it begins with its instance and nothing reduced, a BARRIER having nothing to reduce. Each piece whose turn of
the Truss tree's link-die level it is (spec/01 R22) appends the module's values of its 16,384 elements, and the last one leaves this
module's result whole. A command whose results have all come writes them into its destination and ends; a BARRIER, and a BROADCAST
whose root is fenced, end and write nothing. Memory changes at the end alone. The model's own readings: log entry 37. -/
def Obligations.Reductions : Prop :=
  (∀ (s : State) (st tkt op : Nat) (c : Cmd) (a : RedArgs), (op = 0x30 ∨ op = 0x31) → s.canRun st tkt op = some c → a = redArgs c.bytes →
    (a.op ≠ 5 → s.memWaits st c a.src = true →
      exec (if op = 0x30 then .reduce st tkt else .collective st tkt) s = .next s) ∧
    (a.op ≠ 5 → s.memWaits st c a.src = false → s.keptResults st c a = none → 0 < a.src.count →
      ∃ t y, exec (if op = 0x30 then .reduce st tkt else .collective st tkt) s = .next t ∧ t.stageOf st tkt = some .running ∧
        ((t.stand st).cmd tkt).map (·.todo) = some (List.range (ceilDiv a.src.count 16384)) ∧
        (t.stand st).colls = (s.stand st).colls ++ [y] ∧ y.ticket = tkt ∧ y.inst = c.inst ∧ y.vals = [] ∧ y.ownAt = none ∧
        y.op = a.op ∧ y.collId = a.collId ∧ (s.redReads st c a = [] → s.memoryKept t) ∧
        (t.stand st).outputs = (s.stand st).outputs ∧ s.standOnly t st ∧ t.frame = s.frame) ∧
    (a.op = 5 → op = 0x31 →
      ∃ t, exec (.collective st tkt) s = .next t ∧ t.stageOf st tkt = some (.phase 2) ∧ s.memoryKept t ∧
        (t.stand st).outputs = (s.stand st).outputs ∧ s.standOnly t st ∧ t.frame = s.frame)) ∧
  (∀ (s : State) (st tkt n : Nat) (rest : List Nat) (c : Cmd) (y : Coll) (a : RedArgs), s.alive = true → (s.stand st).cmd tkt = some c →
      (s.stand st).coll tkt = some y → c.stage = .running → c.todo = n :: rest → a = redArgs c.bytes →
    (s.onLinkTruss st c = true → s.trussTurn ≠ some (st, tkt) → exec (.reductionPiece st tkt) s = .next s) ∧
    ((s.onLinkTruss st c = true → s.trussTurn = some (st, tkt)) →
      (rest ≠ [] →
        ∃ t, exec (.reductionPiece st tkt) s = .next t ∧ ((t.stand st).cmd tkt).map (·.todo) = some rest ∧
          (t.stand st).coll tkt = some { y with vals := (y.vals ++ (List.range (min 16384 (a.src.count - 16384 * n))).map
                                          (fun i => code32 (s.moduleVal st c a (16384 * n + i)).1)) } ∧
          t.counters.get (kStand st cTrsPieces) = s.counters.get (kStand st cTrsPieces) + 1 ∧
          s.memoryKept t ∧ (t.stand st).outputs = (s.stand st).outputs ∧ s.standOnly t st ∧ t.frame = s.frame) ∧
      (rest = [] → y.fromRecord = false → (c.opcode = 0x30 ∨ c.opcode = 0x31) →
        ∃ t z, exec (.reductionPiece st tkt) s = .next t ∧ t.stageOf st tkt = some (.phase 2) ∧ (t.stand st).coll tkt = some z ∧
          z.ownAt = some s.clock.now ∧
          z.vals = y.vals ++ (List.range (min 16384 (a.src.count - 16384 * n))).map
            (fun i => code32 (s.moduleVal st c a (16384 * n + i)).1) ∧
          (c.opcode = 0x30 → z.results = [(0, z.vals, false)]) ∧
          s.memoryKept t ∧ (t.stand st).outputs = (s.stand st).outputs ∧ s.standOnly t st ∧ t.frame = s.frame))) ∧
  (∀ (s : State) (st tkt op : Nat) (c : Cmd) (y : Coll) (a : RedArgs), (op = 0x30 ∨ op = 0x31) → s.alive = true →
      (s.stand st).cmd tkt = some c → (s.stand st).coll tkt = some y → c.opcode = op → c.stage = .phase 2 → y.unsent = [] →
      a = redArgs c.bytes →
    ((s.redReady st c a y = false ∨ a.dgrp = true) →
      exec (if op = 0x30 then .reduce st tkt else .collective st tkt) s = .next s) ∧
    (a.dgrp = false → s.redReady st c a y = true → (a.op = 5 ∨ s.rootLost st a = true ∨ a.dst.space = 2 ∧ s.storeOf st a.dst = none) →
      ∃ t, exec (if op = 0x30 then .reduce st tkt else .collective st tkt) s = .next t ∧ t.stageOf st tkt = some .done ∧
        (t.stand st).coll tkt = none ∧ s.memoryKept t ∧ (t.stand st).outputs = (s.stand st).outputs ∧ s.standOnly t st ∧
        t.frame = s.frame) ∧
    (∀ id, a.op ≠ 5 → a.dgrp = false → s.redReady st c a y = true → s.rootLost st a = false →
        (∀ i, i < a.dst.count → (s.resultAt st c a y i).isSome = true) → a.dst.space ≤ 2 → s.storeOf st a.dst = some id →
        (a.dst.space = 2 → ((s.stand st).others c.ticket).matHolds a.dst.cluster a.dst.core a.dst.span = false) →
        s.srcHeld st c.ticket a.dst = false → (s.memParts st a.dst).any (s.sweepAhead st c.ticket) = false →
        (id = .hbm → s.hbm.diff = []) → (∀ die b, s.wantStage die b = []) →
      ∃ t, exec (if op = 0x30 then .reduce st tkt else .collective st tkt) s = .next t ∧ t.stageOf st tkt = some .done ∧
        (t.stand st).coll tkt = none ∧
        t.store id = (s.store id).put (heldIn id ((a.dst.store (s.recipe a.dst.fmt) (c.sr a.dst.fmt)
          (fun e0 e1 e2 e3 => match s.resultAt st c a y (a.dst.lin e0 e1 e2 e3) with
            | some w => val32 w
            | none => a.dst.value (s.spotByte st c a.dst) e0 e1 e2 e3) a.dst.lin).bytes.map
          (fun p => (s.spot st c a.dst p.1, p.2)))) ∧
        (∀ j, j ≠ id → t.store j = s.store j) ∧ (t.stand st).outputs = (s.stand st).outputs ∧ s.standOnly t st ∧
        t.frame = s.frame))

/-- SEGMENT_FORM (spec/09 R217, R218, R224): with every contribution of a segment owned here arrived or replaced, and its window not
about to close, each element of the result is the fixed tree over the ranks' values, +0 where a contribution is missing, plus the
carried values where there are any; the segment is formed once; an owner that has the result from the owner before it sends that one
on; while a contribution is awaited nothing is formed. LATE_WINDOW_EXPIRE (spec/09 R227, R229, R230): at T0 plus the window, the
contributions that have not come are late, counted, and named in the ledger by entries of this owner; nothing happens while none is
late, while the window runs, or where the ledger has no room. The model's own readings: log entries 39, 40 and 80. -/
def Obligations.SegmentsAndLateness : Prop :=
  (∀ (s : State) (st tkt k my : Nat) (c : Cmd) (y : Coll) (ls : List Leaf), s.alive = true → (s.stand st).cmd tkt = some c →
      (s.stand st).coll tkt = some y → s.rankIn st y.mtab = some my → (y.op = 1 ∨ y.op = 2) → y.ownAt.isSome = true →
      y.fromRecord = false → 0 < s.lenOf st y k → s.ownerOf st y k = some my → y.formed.contains k = false →
      ls = (List.range (s.mtab st y.mtab).members.length).map (s.leafOf st c y my k) →
    (s.hasResult st y k = true → ∃ t z, exec (.segmentForm st tkt k) s = .next t ∧ (t.stand st).coll tkt = some z ∧
      z = { y with formed := y.formed ++ [k] } ∧ s.memoryKept t ∧ (t.stand st).outputs = (s.stand st).outputs ∧ s.standOnly t st ∧
      t.frame = s.frame) ∧
    (s.hasResult st y k = false → (s.windowFirst st c y my k = true ∨ .awaited ∈ ls) → exec (.segmentForm st tkt k) s = .next s) ∧
    (s.hasResult st y k = false → s.windowFirst st c y my k = false → (∀ l ∈ ls, l ≠ .awaited) →
      ∃ t z, exec (.segmentForm st tkt k) s = .next t ∧ (t.stand st).coll tkt = some z ∧ z.formed = y.formed ++ [k] ∧
        z.vals = y.vals ∧
        ((s.needed st y).contains k = true → ∃ vs b, z.result k = some (vs, b) ∧ vs.length = s.lenOf st y k ∧
          ∀ j, j < s.lenOf st y k → vs.getD j 0 = code32
            (if (s.stand st).carriesFor y k c.replay = [] then tree32 (ls.map (fun l => l.at_ j))
             else add32 (tree32 (ls.map (fun l => l.at_ j))) (carryVal ((s.stand st).carriesFor y k c.replay) ls.length j))) ∧
        exec (.segmentForm st tkt k) t = .next t ∧
        s.memoryKept t ∧ (t.stand st).outputs = (s.stand st).outputs ∧ s.standOnly t st ∧ t.frame = s.frame)) ∧
  (∀ (s : State) (st tkt k my e : Nat) (c : Cmd) (y : Coll) (late : List Nat), s.alive = true → (s.stand st).cmd tkt = some c →
      (s.stand st).coll tkt = some y → s.rankIn st y.mtab = some my → s.windowEnd st y k = some e →
      late = s.lateRanks st y my k e →
    (s.windowDue st c y k = true → late ≠ [] → (s.stand st).openOwn.length + late.length ≤ 4096 →
      ∃ t z, exec (.lateWindowExpire st tkt k) s = .next t ∧ (t.stand st).coll tkt = some z ∧ z.closed = y.closed ++ [k] ∧
        z.lateCount = y.lateCount + late.length ∧
        (∀ r ∈ late, ∃ x ∈ (t.stand st).ledger, x.own = true ∧ x.reason = .late ∧ x.rank = r ∧ x.segment = k ∧ x.inst = y.inst ∧
          x.collId = y.collId) ∧
        t.counters.get (kStand st cTrsLate) = s.counters.get (kStand st cTrsLate) + BitVec.ofNat 48 late.length ∧
        s.memoryKept t ∧ (t.stand st).outputs = (s.stand st).outputs ∧ s.standOnly t st ∧ t.frame = s.frame) ∧
    ((s.windowDue st c y k = false ∨ late = [] ∨ 4096 < (s.stand st).openOwn.length + late.length) →
      exec (.lateWindowExpire st tkt k) s = .next s))

/-- DELIVERY_INTO_G (spec/09 R221): a reduction with DGRP waits until its results have come, for every earlier access to those elements
and for a held source; it then completes, and where every word checks it writes each delivered element into the group's gradient, or
adds to it in binary32 unless FIRST is set, and no other byte of memory changes. The model's own readings: log entry 37. -/
def Obligations.DeliveryIntoG : Prop :=
  ∀ (s : State) (st tkt n : Nat) (c : Cmd) (y : Coll) (a : RedArgs), s.alive = true → (s.stand st).cmd tkt = some c →
      (s.stand st).coll tkt = some y → c.stage = .phase 2 → a = redArgs c.bytes → a.dgrp = true →
      n = a.received (decide (c.opcode = 0x31)) (if c.opcode = 0x31 then (s.mtab st y.mtab).members.length else 1)
        ((s.rankIn st y.mtab).getD 0) →
    ((s.redReady st c a y = false ∨ s.landingAhead st c a.ugrp (s.deliverySpan a.ugrp n) = true ∨
        s.memHeld st c.ticket (s.deliverySpan a.ugrp n) = true) → exec (.deliveryIntoG st tkt) s = .next s) ∧
    (s.redReady st c a y = true → s.landingAhead st c a.ugrp (s.deliverySpan a.ugrp n) = false →
        s.memHeld st c.ticket (s.deliverySpan a.ugrp n) = false →
      ∃ t, exec (.deliveryIntoG st tkt) s = .next t ∧ t.stageOf st tkt = some .done ∧
        (s.hbm.diff = [] → s.hbm.wf = true →
          (s.apart (s.gRd a.ugrp).data (16384 * (s.udef a.ugrp).first4k) (16384 * (s.udef a.ugrp).first4k + 4 * n) →
            ∀ j w b, (j, w) ∈ s.delivered st c a y → b < 4 →
              t.hbm.read (s.regionKey (s.gRd a.ugrp).data (4 * (4096 * (s.udef a.ugrp).first4k + j) + b)) =
                BitVec.ofNat 8 (fFP32.encode (if a.first then val32 w else
                  add32 (s.roleVal (s.gRd a.ugrp) (4096 * (s.udef a.ugrp).first4k + j)).1 (val32 w)) / 256 ^ b)) ∧
          (∀ key, (∀ j w b, (j, w) ∈ s.delivered st c a y → b < 4 →
              s.regionKey (s.gRd a.ugrp).data (4 * (4096 * (s.udef a.ugrp).first4k + j) + b) ≠ key) →
            t.hbm.read key = s.hbm.read key) ∧
          t.mem = s.mem) ∧
        t.comp = s.comp ∧ (t.stand st).outputs = (s.stand st).outputs ∧ s.standOnly t st ∧ t.frame = s.frame)

/-- OWNER_LOAD (spec/09 R222, R233, R239, R241) waits while an earlier command names its table, and otherwise completes. With its words
whole, an owner table takes the entries that memory holds unless one is in a reserved state (0x0104) or the budget would be passed
(0x0107), a member table takes its members with its instance counter at zero unless one repeats (0x0104) or a tensor group is not
allowed (0x010A); where it is refused, no table changes. The model's own readings: log entry 43. -/
def Obligations.TableLoads : Prop :=
  ∀ (s : State) (st tkt : Nat) (c : Cmd) (a : LoadArgs), s.canRun st tkt 0x33 = some c → a = loadArgs c.bytes →
    (s.loadWaits st c = true → exec (.ownerLoad st tkt) s = .next s) ∧
    (s.loadWaits st c = false →
      ∃ t, exec (.ownerLoad st tkt) s = .next t ∧ t.stageOf st tkt = some .done ∧ t.comp = s.comp ∧
        (t.stand st).outputs = (s.stand st).outputs ∧ s.standOnly t st ∧ t.frame = s.frame ∧
        (∀ k, k ≠ a.table → t.owner st k = s.owner st k ∧ t.mtab st k = s.mtab st k) ∧
        (s.hbm.diff = [] → ∀ (es : List OwnerEntry) (ms : List (W16 × Nat)) (tab : OwnerTab),
          es = (List.range a.entries).map (fun k => ownerEntryOf (((s.readSoft a.addr (16 * a.entries)).drop (16 * k)).take 16)) →
          ms = es.map (fun e => (e.device, e.stand)) → tab = ⟨true, a.blockLog2, es, a.version, a.blockKib⟩ →
          s.memoryKept t ∧
          (a.kind = false → (∀ e ∈ es, e.state < 2) → s.overBudget st a.table tab = false →
            t.owner st a.table = tab ∧ t.mtab st a.table = s.mtab st a.table ∧
            ((t.stand st).cmd tkt).map (·.statuses) = some c.statuses) ∧
          (a.kind = true → ms.Nodup → (a.tg = true → s.tgBad st ms = false) →
            t.mtab st a.table = ⟨true, a.tg, ms, a.version, 0⟩ ∧ t.owner st a.table = s.owner st a.table ∧
            ((t.stand st).cmd tkt).map (·.statuses) = some c.statuses) ∧
          (∀ v, (a.kind = false ∧ (∃ e ∈ es, 2 ≤ e.state) ∧ v = 0x0104 ∨
                a.kind = false ∧ (∀ e ∈ es, e.state < 2) ∧ s.overBudget st a.table tab = true ∧ v = 0x0107 ∨
                a.kind = true ∧ ¬ ms.Nodup ∧ v = 0x0104 ∨
                a.kind = true ∧ ms.Nodup ∧ a.tg = true ∧ s.tgBad st ms = true ∧ v = 0x010a) →
            ((t.stand st).cmd tkt).map (·.statuses) = some (c.statuses ++ [v]) ∧
            t.owner st a.table = s.owner st a.table ∧ t.mtab st a.table = s.mtab st a.table)))

/-- PERMUTE and PERMUTE_CLOSE (spec/09 R235, R237): a PERMUTE opens with every entry of NEW moving; members whose tables disagree
leave NEW as it was loaded; a member whose every request has been answered, with nothing left to write or to ask again, has finished
pulling; and once every member has finished, each block that came to its member is owned and the others are absent. Until then
PERMUTE_CLOSE does nothing. The model's own readings: log entries 42 and 81. -/
def Obligations.Permutes : Prop :=
  (∀ (s : State) (st tkt : Nat) (c : Cmd), s.canRun st tkt 0x32 = some c →
    ∃ t p, exec (.permute st tkt) s = .next t ∧ t.stageOf st tkt = some .running ∧
      (t.stand st).perms = (s.stand st).perms ++ [p] ∧ p.ticket = tkt ∧ p.inst = c.inst ∧ p.phase = 1 ∧
      (t.owner st (permArgs c.bytes).new).entries =
        (s.owner st (permArgs c.bytes).new).entries.map (fun e => { e with state := 2 }) ∧
      (∀ k, k ≠ (permArgs c.bytes).new → t.owner st k = s.owner st k) ∧ s.memoryKept t ∧
      (t.stand st).outputs = (s.stand st).outputs ∧ s.standOnly t st ∧ t.frame = s.frame) ∧
  (∀ (s : State) (st tkt : Nat) (c : Cmd) (p : Perm), s.alive = true → (s.stand st).cmd tkt = some c →
      (s.stand st).perm tkt = some p → c.stage = .running →
    (p.phase = 1 → s.allRanks st (permArgs c.bytes).mtab p.opened = true → p.mismatch = true →
      ∃ t, exec (.permute st tkt) s = .next t ∧ t.stageOf st tkt = some .done ∧ (t.stand st).perm tkt = none ∧
        (t.owner st (permArgs c.bytes).new).entries = (s.owner st (permArgs c.bytes).new).entries.zipIdx.map
          (fun x => { x.1 with state := p.loaded.getD x.2 0 }) ∧
        ((t.stand st).cmd tkt).map (·.statuses) = some (c.statuses ++ [0x0113]) ∧ s.memoryKept t ∧
        (t.stand st).outputs = (s.stand st).outputs ∧ s.standOnly t st ∧ t.frame = s.frame) ∧
    (p.phase = 2 → p.arrived = [] → p.failed = [] → (s.stand st).pulling tkt = false →
      ∃ t q, exec (.permute st tkt) s = .next t ∧ t.stageOf st tkt = some .running ∧ (t.stand st).perm tkt = some q ∧ q.phase = 3 ∧
        q.absent = p.absent ∧ (∀ k, t.owner st k = s.owner st k) ∧ s.memoryKept t ∧
        (t.stand st).outputs = (s.stand st).outputs ∧ s.standOnly t st ∧ t.frame = s.frame)) ∧
  (∀ (s : State) (st tkt : Nat) (c : Cmd) (p : Perm), s.alive = true → (s.stand st).cmd tkt = some c →
      (s.stand st).perm tkt = some p →
    ((p.phase ≠ 3 ∨ s.allRanks st (permArgs c.bytes).mtab p.pulledBy = false) → exec (.permuteClose st tkt) s = .next s) ∧
    (p.phase = 3 → s.allRanks st (permArgs c.bytes).mtab p.pulledBy = true →
      ∃ t, exec (.permuteClose st tkt) s = .next t ∧ t.stageOf st tkt = some .done ∧ (t.stand st).perm tkt = none ∧
        (t.owner st (permArgs c.bytes).new).entries = (s.owner st (permArgs c.bytes).new).entries.zipIdx.map (fun x =>
          { x.1 with state := if p.absent.contains x.2 || (!s.mine st x.1 &&
              (!((s.mtab st (permArgs c.bytes).mtab).members.contains (x.1.device, x.1.stand)) || s.fenced st x.1.device))
            then 0 else 1 }) ∧
        (∀ k, k ≠ (permArgs c.bytes).new → t.owner st k = s.owner st k) ∧ s.memoryKept t ∧
        (t.stand st).outputs = (s.stand st).outputs ∧ s.standOnly t st ∧ t.frame = s.frame))

/-- COMMIT and its phases (spec/12 R310, R311, R326): it waits while another COMMIT or a rollback is in hand; it begins at phase 1,
where an expelled stand or ROLLBACK_ONLY asks for a rollback instead, and ends with 0x0102 where its step may not be committed; once its
steps are applied, and have been for 10,000 NCLK, its groups are digested and sealed, a word that fails correction being noted; and once
no covered step has an open ledger entry it sends its message, which names the oldest marked step, and waits for the members that have
not answered. Memory does not change. The model's own readings: log entry 44. -/
def Obligations.CommitPhases : Prop :=
  (∀ (s : State) (st tkt : Nat) (c : Cmd) (a : CommitArgs), s.canRun st tkt 0x42 = some c → a = commitArgs c.bytes →
    (((s.stand st).steps.commits ≠ [] ∨ (s.stand st).steps.rollback ≠ none ∨
        (∃ d ∈ (s.stand st).inflight, d.ticket < tkt ∧ d.opcode = 0x42 ∧ d.ended = false)) →
      exec (.commit st tkt) s = .next s) ∧
    ((s.stand st).steps.commits = [] → (s.stand st).steps.rollback = none →
        (∀ d ∈ (s.stand st).inflight, d.ticket < tkt → d.opcode = 0x42 → d.ended = true) →
      ((a.rollbackOnly = true ∨ s.expelledFrom st a.mtab = true ∨ (s.stand st).steps.commitable a.step = true) →
        ∃ t j, exec (.commit st tkt) s = .next t ∧ t.stageOf st tkt = some .running ∧ (t.stand st).steps.commits = [j] ∧
          j.ticket = tkt ∧ j.phase = 1 ∧ j.step = a.step ∧ j.mtab = a.mtab ∧
          (t.stand st).steps.rollback = (if a.rollbackOnly then some .only else if s.expelledFrom st a.mtab then some (.halt 0x0111)
            else none) ∧
          (t.stand st).steps.records = (s.stand st).steps.records ∧ s.memoryKept t ∧ (t.stand st).outputs = (s.stand st).outputs ∧
          s.standOnly t st ∧ t.frame = s.frame) ∧
      (a.rollbackOnly = false → s.expelledFrom st a.mtab = false → (s.stand st).steps.commitable a.step = false →
        ∃ t, exec (.commit st tkt) s = .next t ∧ t.stageOf st tkt = some .done ∧ (t.stand st).steps.commits = [] ∧
          ((t.stand st).cmd tkt).map (·.statuses) = some (c.statuses ++ [0x0102]) ∧ s.memoryKept t ∧
          (t.stand st).outputs = (s.stand st).outputs ∧ s.standOnly t st ∧ t.frame = s.frame))) ∧
  (∀ (s : State) (st tkt : Nat) (c : Cmd) (j : CommitSt) (ks : List Nat), s.alive = true → s.commitNow st = some (j, c) → j.ticket = tkt →
      ks = groupSpan (commitArgs c.bytes).ugrp (commitArgs c.bytes).count →
    ((j.phase ≠ 1 ∨ (s.stand st).steps.rollback ≠ none ∨ (s.stand st).steps.inReplay = true ∨ s.phase1Over st j c = false) →
      exec (.commitPhase1End st tkt) s = .next s) ∧
    (j.phase = 1 → (s.stand st).steps.rollback = none → (s.stand st).steps.inReplay = false →
        c.tStart.toNat + 10000 ≤ s.clock.now.toNat →
        (∀ r ∈ (s.stand st).steps.covered j.step, r.mode = .applied ∧ r.applied.toNat + 10000 ≤ s.clock.now.toNat) →
      ∃ t, exec (.commitPhase1End st tkt) s = .next t ∧
        (t.stand st).steps.commits.head? = some { j with
          phase := 3, bad := (s.digestWords ks (s.digestCopy false)).any s.hbm.bad
          blaze := s.blaze (commitArgs c.bytes).key ks (s.digestCopy false), waitFrom := s.clock.now } ∧
        (∀ k, t.ugroup k = { s.ugroup k with
          isSealed := (s.ugroup k).isSealed || (ks.contains k && (s.ugroup k).tent) }) ∧
        (s.hbm.diff = [] → t.hbm = s.hbm) ∧ t.comp = s.comp ∧ (t.stand st).outputs = (s.stand st).outputs ∧ s.standOnly t st ∧
        t.frame = s.frame)) ∧
  (∀ (s : State) (st tkt : Nat) (c : Cmd) (j : CommitSt), s.alive = true → s.commitNow st = some (j, c) → j.ticket = tkt → j.phase = 3 →
      (s.stand st).steps.rollback = none →
    ((∃ e ∈ (s.stand st).openOwn, ∃ r ∈ (s.stand st).steps.covered j.step, e.step = some r.step) →
      exec (.ledgerSettled st tkt) s = .next s) ∧
    ((∀ e ∈ (s.stand st).openOwn, ∀ r ∈ (s.stand st).steps.covered j.step, e.step ≠ some r.step) →
        (∃ q ∈ s.commitMsgs st j, q.2 = none) →
      ∃ t z, exec (.ledgerSettled st tkt) s = .next t ∧ (t.stand st).steps.commits.head? = some z ∧ z.phase = 4 ∧ z.step = j.step ∧
        z.blaze = j.blaze ∧
        z.rollback = (((s.stand st).steps.covered j.step).any (fun r => r.mark.isSome) || j.bad) ∧
        z.firstLive = ((((s.stand st).steps.covered j.step).find? (fun r => r.mark.isSome)).map (·.step)).getD 0xffffffffffffffff ∧
        s.memoryKept t ∧ (t.stand st).outputs = (s.stand st).outputs ∧ s.standOnly t st ∧ t.frame = s.frame))

/-- What the messages decide (spec/12 R312): a message that asks for a rollback decides a rollback from the least of the first live
steps asked for; otherwise equal Blazes commit, a Blaze that more than half of the messages carry is the majority's, and where
there is none no Blaze agrees. The model's own readings: log entry 44. -/
def Obligations.VerdictOfMessages : Prop :=
  ∀ (ms : List CommitMsg), ms ≠ [] →
    ((∃ m ∈ ms, m.rollback = true) → ∃ f, verdict ms = .rollback f ∧ (∀ m ∈ ms, m.rollback = true → f.toNat ≤ m.firstLive.toNat) ∧
      (∃ m ∈ ms, m.rollback = true ∧ (f = m.firstLive ∨ f = 0xffffffffffffffff))) ∧
    ((∀ m ∈ ms, m.rollback = false) →
      ((∀ a ∈ ms, ∀ b ∈ ms, a.blaze = b.blaze) → verdict ms = .commit) ∧
      (∀ b, (∃ a ∈ ms, ∃ k ∈ ms, a.blaze ≠ k.blaze) → ms.length < 2 * (ms.filter (fun m => decide (m.blaze = b))).length →
        verdict ms = .majority b) ∧
      ((∃ a ∈ ms, ∃ k ∈ ms, a.blaze ≠ k.blaze) →
        (∀ b, 2 * (ms.filter (fun m => decide (m.blaze = b))).length ≤ ms.length) → verdict ms = .noneAgrees))

/-- The commit itself (spec/12 R312 to R314, R328): the last thing that a COMMIT waits for, its ledger settled or a member's
message, commits the stand where every message is there, none asks for a rollback and all carry this stand's Blaze: the committed
step, every update group at one point, the records up to the step gone, the COMMIT at its end. While a command that issued before
the decision has still to reach the old versions, the decision stands and no version changes. The model's own readings: log entries 44
and 89. -/
def Obligations.CommitCommits : Prop :=
  ∀ (s : State) (st tkt : Nat) (i : Instr) (c : Cmd) (j : CommitSt), s.alive = true → s.commitNow st = some (j, c) → j.ticket = tkt →
      (s.stand st).steps.rollback = none →
      (i = .ledgerSettled st tkt ∧ j.phase = 3 ∧
          (∀ e ∈ (s.stand st).openOwn, ∀ r ∈ (s.stand st).steps.covered j.step, e.step ≠ some r.step) ∧
          (∀ r ∈ (s.stand st).steps.covered j.step, r.mark = none) ∧ j.bad = false ∨
        (∃ m, i = .commitMessage st m ∧ (s.stand st).steps.committedValid = true ∧
          m.step.toNat ≤ (s.stand st).steps.committed.toNat) ∧ j.phase = 4 ∧ j.rollback = false ∧
          (s.cfg st).enabled = true) →
      (∀ q ∈ s.commitMsgs st j, ∃ m, q.2 = some m ∧ m.rollback = false ∧ m.blaze = j.blaze) →
      (∀ p ∈ (s.stand st).peers, p.state ≠ .sapling) →
      ¬((commitArgs c.bytes).quorum = true ∧
        2 * (1 + (s.commitMsgs st j).length) ≤ (s.mtab st j.mtab).members.length) →
    (s.commitHeld st (s.stand st).nextTicket = true →
      ∃ t z, exec i s = .next t ∧ (t.stand st).steps.commits.head? = some z ∧ z.phase = 5 ∧ z.decided.isSome = true ∧
        (t.stand st).steps.committed = (s.stand st).steps.committed ∧ (t.stand st).steps.records = (s.stand st).steps.records ∧
        s.memoryKept t ∧ (t.stand st).outputs = (s.stand st).outputs ∧ s.standOnly t st ∧ t.frame = s.frame) ∧
    (s.commitHeld st (s.stand st).nextTicket = false →
    ∃ t, exec i s = .next t ∧ t.stageOf st tkt = some .done ∧ (t.stand st).steps.committed = j.step ∧
      (t.stand st).steps.committedValid = true ∧ (t.stand st).steps.round = 0 ∧ (t.stand st).steps.restored = none ∧
      (t.stand st).steps.records = (s.stand st).steps.records.filter (fun r => decide (j.step.toNat < r.step.toNat)) ∧
      (∀ k ∈ s.groupsOf st, t.ugroup k = (s.ugroup k).commit) ∧ (∀ k, k ∉ s.groupsOf st → t.ugroup k = s.ugroup k) ∧
      (t.stand st).outputs = (s.stand st).outputs ∧ s.standOnly t st ∧ t.comp = s.comp ∧ t.frame = s.frame)

/-- What ends a COMMIT otherwise, and replay (spec/12 R311, R314 to R317): a message for a later decision is kept once for each
member, step and round; a wait that runs out asks for a rollback with PEER_TIMEOUT; and a rollback of a COMMIT that is not decided,
which waits until only COMMITs and STEP_ENDs are left in flight, discards the tentative versions and then the records, or takes them up
for replay, whose commands issue again without a slot. The model's own readings: log entries 19 and 46. -/
def Obligations.RollbackAndReplay : Prop :=
  (∀ (s : State) (st : Nat) (m : CommitMsg), s.alive = true → (s.cfg st).enabled = true → (s.stand st).steps.commits = [] →
      ((s.stand st).steps.committedValid = false ∨ (s.stand st).steps.committed.toNat < m.step.toNat) →
    exec (.commitMessage st m) s = .next (s.setSteps st (fun x => { x with
      msgs := x.msgs.filter (fun k => !(decide (k.mtabVersion = m.mtabVersion) && decide (k.step = m.step) &&
                decide (k.round = m.round) && decide (k.rank = m.rank))) ++ [m] }))) ∧
  (∀ (s : State) (st tkt : Nat) (c : Cmd) (j : CommitSt), s.alive = true → s.commitNow st = some (j, c) → j.ticket = tkt →
      (j.phase = 3 ∨ j.phase = 4) → (s.stand st).steps.rollback = none →
      j.waitFrom.toNat + (s.cfg st).commitWaitMs * 1000000 ≤ s.clock.now.toNat →
      (∃ q ∈ s.commitMsgs st j, q.2 = none ∧ ∀ m, (s.mtab st j.mtab).members[q.1]? = some m → (s.stand st).sapling m.1 = false) →
    ∃ t, exec (.commitWaitExpire st tkt) s = .next t ∧ (t.stand st).steps.rollback = some (.halt 0x0112) ∧
      t.counters.get (kStand st cDckPeerTimeout) = s.counters.get (kStand st cDckPeerTimeout) + 1 ∧
      (t.stand st).steps.records = (s.stand st).steps.records ∧ s.memoryKept t ∧ s.standOnly t st ∧ t.frame = s.frame) ∧
  (∀ (s : State) (st : Nat) (c : Cmd) (j : CommitSt) (why : RollbackFor) (lost : List W64), s.alive = true → s.commitNow st = some (j, c) →
      (s.stand st).steps.rollback = some why → j.decided = none →
    ((∃ d ∈ (s.stand st).inflight, d.opcode ≠ 0x42 ∧ d.opcode ≠ 0x41) → exec (.rollback ⟨st, lost⟩) s = .next s) ∧
    ((∀ d ∈ (s.stand st).inflight, d.opcode = 0x42 ∨ d.opcode = 0x41) →
      (∀ r ∈ (s.stand st).steps.records, r.endTicket ≠ some j.ticket) →
    ((why = .only ∨ ∃ v, why = .halt v) →
      ∃ t, exec (.rollback ⟨st, lost⟩) s = .next t ∧ t.stageOf st j.ticket = some .done ∧
        ((t.stand st).cmd j.ticket).map (·.statuses) = some (c.statuses ++
          [match why with | .halt v => v | _ => 0x0110]) ∧
        (t.stand st).steps.records = [] ∧ (t.stand st).steps.rollback = none ∧ (t.stand st).steps.round = 0 ∧
        (t.stand st).steps.restored = none ∧
        (t.stand st).steps.halted = ((s.stand st).steps.halted || decide (why ≠ .only)) ∧
        (∀ k ∈ s.groupsOf st, t.ugroup k = (s.ugroup k).rollback) ∧ (∀ k, k ∉ s.groupsOf st → t.ugroup k = s.ugroup k) ∧
        t.hbm = s.hbm ∧ t.comp = s.comp ∧ s.standOnly t st ∧ t.frame = s.frame) ∧
    (∀ fl, why = .group fl → (s.stand st).steps.records ≠ [] → (s.stand st).steps.round < (s.cfg st).replayMax →
        (∀ k ∈ (s.stand st).steps.commits, k.restored = false) →
        (∀ r ∈ (s.stand st).steps.records, r.overflow = false ∧ r.step ∉ lost) →
      ∃ t r, exec (.rollback ⟨st, lost⟩) s = .next t ∧ (t.stand st).steps.replay = some r ∧
        r.steps = (s.stand st).steps.records.map (·.step) ∧ r.next = 0 ∧ r.firstLive = fl ∧
        (t.stand st).steps.round = (s.stand st).steps.round + 1 ∧ (t.stand st).steps.rollback = none ∧
        (t.stand st).steps.records.map (·.step) = (s.stand st).steps.records.map (·.step) ∧
        (∀ q ∈ (t.stand st).steps.records, q.mark = none) ∧
        (∀ k ∈ s.groupsOf st, t.ugroup k = (s.ugroup k).rollback) ∧ t.hbm = s.hbm ∧ t.comp = s.comp ∧ s.standOnly t st ∧
        t.frame = s.frame))) ∧
  (∀ (s : State) (st n : Nat) (w : W64) (ws : List W64) (r : Replay) (q : StepRec) (k : LoggedCmd), s.fronts st = true →
      (s.stand st).steps.replay = some r → r.steps = w :: ws → (s.stand st).steps.rec_ w = some q → r.next = n →
      q.cmds[n]? = some k → fld k.bytes 0 1 < 0x40 → (bit (fld k.bytes 1 1) 0 = true → r.waitHolds k.bytes = true) →
      (∀ u, u = s.replaySeek st r (w :: ws) n →
        u.roomFor st ((u.stand st).newCmd k.bytes k.link none 0) = true ∧ u.checkOp st k.bytes = none) →
      (∀ x ∈ (s.stand st).steps.records, x.endTicket ≠ some (s.stand st).nextTicket) →
    ∃ t c, exec (.replayIssue st) s = .next t ∧ c ∈ (t.stand st).inflight ∧ c.ticket = (s.stand st).nextTicket ∧
      c.bytes = k.bytes ∧ c.replay = true ∧ c.slot = none ∧ c.step = some q.step ∧
      (t.stand st).nextTicket = (s.stand st).nextTicket + 1 ∧ t.hbm = s.hbm ∧ s.standOnly t st)

/-- CHECKPOINT, BACKGROUND_COPY_READ and RESTORE (spec/12 R319 to R321, spec/08 R207 to R210). A CHECKPOINT waits for the stand's
pin, for a held source and for a SWEEP, and otherwise pins the committed copies of its groups, its destination in the stand's memory or
at a peer; each read takes one block of what is left, as it was when pinned, on to the destination, and a mirror with nothing left is
over. A RESTORE of a peer's memory asks for the manifest; one of the stand's own memory waits for a SWEEP, is rejected with nothing
changed where the manifest is not whole, and otherwise installs every group that it names. The model's own readings: log entries 47 and
48. -/
def Obligations.CheckpointAndRestore : Prop :=
  (∀ (s : State) (st tkt : Nat) (c : Cmd) (a : CkptArgs), s.canRun st tkt 0x43 = some c → a = ckptArgs c.bytes →
    (((s.stand st).steps.copy ≠ none ∨ s.ckptHeld st c = true ∨ s.ckptSwept st c = true) → exec (.checkpoint st tkt) s = .next s) ∧
    ((s.stand st).steps.copy = none → s.ckptHeld st c = false → s.ckptSwept st c = false → c.lost = [] →
        (a.remote = true → s.fenced st a.device = false ∧ (s.routeTo a.device).isSome = true) →
      ∃ t b, exec (.checkpoint st tkt) s = .next t ∧ t.stageOf st tkt = some .running ∧ (t.stand st).steps.copy = some b ∧
        b.ticket = some tkt ∧ b.groups = (groupSpan a.ugrp a.count).map (fun k => (k, (s.ugroup k).sel)) ∧
        b.step = (s.stand st).steps.committed ∧ b.meta_ = (s.stand st).steps.meta_ ∧ b.dest = a.addr ∧ b.got = [] ∧
        b.remote = (if a.remote then some (a.device, a.dstand) else none) ∧
        t.hbm = (if a.remote then s.hbm else (s.writeSoft a.addr (natLe 8 0)).hbm) ∧ t.comp = s.comp ∧ t.mem.groups = s.mem.groups ∧
        (t.stand st).outputs = (s.stand st).outputs ∧ s.standOnly t st ∧ t.frame = s.frame)) ∧
  (∀ (s : State) (st : Nat) (b : BgCopy), s.alive = true → (s.stand st).steps.copy = some b →
      (∀ k c, b.ticket = some k → (s.stand st).cmd k = some c → c.stage ≠ .phase 2 ∧ c.lost = []) →
    (∀ die block, s.nextBlock st b = some (die, block) → (s.land die).stagedMem st block = none → s.hbm.diff = [] →
        (∀ p ∈ b.todo, ∀ q ∈ s.softBlocks (b.dest + (s.layout (b.groups.map Prod.fst)).getD p.shard 0 + 256 + p.off) p.len,
          s.wantStage q.1 q.2 = []) →
      ∃ t z, exec (.backgroundCopyRead st) s = .next t ∧ (t.stand st).steps.copy = some z ∧
        z.todo = b.todo.filter (fun p => !(decide (p.die = die) && decide (p.block = block))) ∧
        z.got = b.got ++ (b.todo.filter (fun p => decide (p.die = die) && decide (p.block = block))).map (fun p =>
          (p.shard, p.off, (List.range p.len).map (fun i => s.hbm.read (p.key + i)))) ∧
        t.comp = s.comp ∧ t.mem.groups = s.mem.groups ∧ s.standOnly t st ∧ t.frame = s.frame) ∧
    (s.nextBlock st b = none → b.ticket = none → (s.stand st).steps.mirrorWait = none →
      ∃ t, exec (.backgroundCopyRead st) s = .next t ∧ (t.stand st).steps.copy = none ∧
        t.counters.get (kStand st cDckMirrors) = s.counters.get (kStand st cDckMirrors) + 1 ∧
        t.comp = s.comp ∧ t.mem.groups = s.mem.groups ∧ s.standOnly t st ∧ t.frame = s.frame)) ∧
  (∀ (s : State) (st tkt : Nat) (c : Cmd) (a : RestArgs), s.canRun st tkt 0x44 = some c → a = restArgs c.bytes →
    (a.remote = true →
      ∃ t, exec (.restore st tkt) s = .next t ∧ t.stageOf st tkt = some (.phase 1) ∧ s.memoryKept t ∧
        (t.stand st).outputs = (s.stand st).outputs ∧ s.standOnly t st ∧ t.frame = s.frame) ∧
    (a.remote = false → s.restSwept st c = true → exec (.restore st tkt) s = .next s) ∧
    (a.remote = false → s.restSwept st c = false → s.hbm.diff = [] →
      ∀ m u, s.restBytes { c with tStart := s.clock.now } a a.addr (manifestBytes a.count) = (m, u) →
      (manifestOk m a.count = false →
        ∃ t, exec (.restore st tkt) s = .next t ∧ t.stageOf st tkt = some .done ∧
          ((t.stand st).cmd tkt).map (·.statuses) = some (c.statuses ++ [0x0118]) ∧
          t.counters.get (kStand st cDckRestoreRejected) = s.counters.get (kStand st cDckRestoreRejected) + 1 ∧
          (t.stand st).steps = (s.stand st).steps ∧ s.memoryKept t ∧ (t.stand st).outputs = (s.stand st).outputs ∧ s.standOnly t st ∧
          t.frame = s.frame) ∧
      (manifestOk m a.count = true → (∀ d q, s.wantStage d q = []) → restFails a m = [] →
        (∀ i k, (groupSpan a.ugrp a.count)[i]? = some k →
          s.shardFails a m (s.readSoft (a.addr + (s.layout (groupSpan a.ugrp a.count)).getD i 0) (s.shardBytes k)) i k
            ((s.layout (groupSpan a.ugrp a.count)).getD i 0) = [] ∧
          (∀ x, x < s.shardBytes k → (s.visKey (a.addr + (s.layout (groupSpan a.ugrp a.count)).getD i 0 + x)).isSome = true) ∧
          (s.ugroup k).isSealed = false ∧ (∀ p ∈ s.rolesOf k, s.groupHeld st c.ticket k p.2 = false)) →
        ∃ t r, exec (.restore st tkt) s = .next t ∧ t.stageOf st tkt = some .done ∧ (t.stand st).steps.restored = some r ∧
          r.step = BitVec.ofNat 64 (fld m 16 8) ∧ r.issued = false ∧ (t.stand st).steps.next = r.step + 1 ∧
          (∀ k ∈ groupSpan a.ugrp a.count, t.ugroup k = { s.ugroup k with tent := true, uTent := (s.udef k).seedU }) ∧
          (∀ k, k ∉ groupSpan a.ugrp a.count → t.ugroup k = s.ugroup k) ∧
          t.counters.get (kStand st cDckRestores) = s.counters.get (kStand st cDckRestores) + 1 ∧
          (t.stand st).outputs = (s.stand st).outputs ∧ s.standOnly t st ∧ t.comp = s.comp ∧ t.frame = s.frame)))

/-- Membership (spec/12 R323, R324, R327): FENCE_PEER sets the stand's fence for the device and ends, READMIT takes the fence away and
leaves the peer a sapling for the steps given where it is watched or there is room, and a peer silent for its time becomes SUSPECT, or
once the estimator is seasoned, fenced; before that time nothing happens. The model's own readings: log entry 49. -/
def Obligations.Membership : Prop :=
  (∀ (s : State) (st tkt : Nat) (c : Cmd), s.canRun st tkt 0x48 = some c →
    ∃ t, exec (.fencePeer st tkt) s = .next t ∧ t.stageOf st tkt = some .done ∧ t.fenced st (peerDevice c.bytes) = true ∧
      t.comp = s.comp ∧ s.standOnly t st ∧ t.frame = s.frame ∧
      ((s.stand st).steps.commits = [] →
        t.fabric.fences = (if s.fenced st (peerDevice c.bytes) then s.fabric.fences
          else (st, peerDevice c.bytes) :: s.fabric.fences) ∧
        t.counters.get (kStand st cLkoFenceCommand) = s.counters.get (kStand st cLkoFenceCommand) + 1 ∧
        s.memoryKept t ∧ (t.stand st).outputs = (s.stand st).outputs)) ∧
  (∀ (s : State) (st tkt : Nat) (c : Cmd), s.canRun st tkt 0x49 = some c →
    ∃ t, exec (.readmit st tkt) s = .next t ∧ t.stageOf st tkt = some .done ∧
      t.fabric.fences = s.fabric.fences.filter (fun f => decide (f ≠ (st, peerDevice c.bytes))) ∧
      (((s.stand st).peers.any (fun p => decide (p.device = peerDevice c.bytes)) = true ∨ (s.stand st).peers.length < 256) →
        ∃ p, (t.stand st).peer (peerDevice c.bytes) = some p ∧ p.state = .sapling ∧
          p.saplingLeft = (if fld c.bytes 19 1 = 0 then s.img.saplingSteps else fld c.bytes 19 1)) ∧
      s.memoryKept t ∧ (t.stand st).outputs = (s.stand st).outputs ∧ s.standOnly t st ∧ t.frame = s.frame) ∧
  (∀ (s : State) (st : Nat) (d : W16) (p : Peer), s.alive = true → (s.cfg st).enabled = true → (s.stand st).peer d = some p →
    ((p.state = .fenced ∨ ((s.clock.now.toNat - p.lastNamed.toNat : Nat) : Rat) / 1000 < s.silenceUs p ∨
        p.samples < 32 ∧ p.state ≠ .live) → exec (.peerSilent st d) s = .next s) ∧
    (p.state ≠ .fenced → s.silenceUs p ≤ ((s.clock.now.toNat - p.lastNamed.toNat : Nat) : Rat) / 1000 →
      (p.samples < 32 → p.state = .live →
        ∃ t, exec (.peerSilent st d) s = .next t ∧ (t.stand st).peer d = some { p with state := .suspect } ∧
          t.counters.get (kStand st cLkoSuspect) = s.counters.get (kStand st cLkoSuspect) + 1 ∧ t.fabric = s.fabric ∧
          s.memoryKept t ∧ (t.stand st).outputs = (s.stand st).outputs ∧ s.standOnly t st ∧ t.frame = s.frame) ∧
      (32 ≤ p.samples → (s.stand st).steps.commits = [] → s.fenced st d = false →
        ∃ t q, exec (.peerSilent st d) s = .next t ∧ t.fenced st d = true ∧ (t.stand st).peer d = some q ∧ q.state = .fenced ∧
          q.source = 1 ∧ t.counters.get (kStand st cLkoFenceLookout) = s.counters.get (kStand st cLkoFenceLookout) + 1 ∧
          s.memoryKept t ∧ (t.stand st).outputs = (s.stand st).outputs ∧ s.standOnly t st ∧ t.frame = s.frame)))

/-- Requests at a stand in use (spec/10 R263, R266, spec/07 R173, spec/09 R225, R235, R236): a PUT stores its payload and nothing
else, a GET answers the delivered bytes and changes nothing, a contribution waits in staging, a PERMUTE message is noted; each
answers OK. An access that the stand's table does not allow is refused and counted, and so is any access to a stand not in use; a GET
that passes a 4 KiB boundary is malformed; a PUT into a held source, an access to a region that an issued SWEEP has still to sweep, and
a contribution to a member table that is not loaded wait in the port. The model's own readings: log entries 38, 54, 80 and 81. -/
def Obligations.FabricRequests : Prop :=
  (∀ (s t : State) (p : Nat) (x : Txn), s.takeRequest p x 1 = some t →
    ((s.cfg x.dstand).enabled = false → exec (.put p x) s = .next ((t.countStand x.dstand cMemRemoteRefused).respond x 1 [])) ∧
    ((s.cfg x.dstand).enabled = true → x.addr < resultBase → s.mayRemote x.dstand x.addr x.payload.length true = false →
      exec (.put p x) s = .next ((t.countStand x.dstand cMemRemoteRefused).respond x 1 [])) ∧
    ((s.cfg x.dstand).enabled = true → x.addr < resultBase → s.mayRemote x.dstand x.addr x.payload.length true = true →
        (s.memHeld x.dstand (s.stand x.dstand).nextTicket (x.addr, x.addr + x.payload.length) = true ∨
          s.sweepBefore x.dstand x.addr x.payload.length = true) → exec (.put p x) s = .next s) ∧
    (∀ k : Nat, (s.cfg x.dstand).enabled = true → x.addr < resultBase → s.mayRemote x.dstand x.addr x.payload.length true = true →
        s.memHeld x.dstand (s.stand x.dstand).nextTicket (x.addr, x.addr + x.payload.length) = false →
        s.sweepBefore x.dstand x.addr x.payload.length = false →
        (∀ i, i < x.payload.length → s.visKey (x.addr + i) = some (k + i)) → s.hbm.diff = [] → s.hbm.wf = true →
        (∀ d b, s.wantStage d b = []) →
      ∃ m : Mem, exec (.put p x) s = .next ((t.respond x 0 []).setHbm m) ∧
        (∀ i b, x.payload[i]? = some b → m.read (k + i) = b) ∧
        (∀ j, j < k ∨ k + x.payload.length ≤ j → m.read j = s.hbm.read j))) ∧
  (∀ (s t : State) (p n : Nat) (x : Txn), s.takeRequest p x 2 = some t → n = fld x.payload 0 4 →
    ((s.cfg x.dstand).enabled = false → exec (.get p x) s = .next ((t.countStand x.dstand cMemRemoteRefused).respond x 1 [])) ∧
    ((s.cfg x.dstand).enabled = true → s.sweepBefore x.dstand x.addr n = true → exec (.get p x) s = .next s) ∧
    ((s.cfg x.dstand).enabled = true → s.sweepBefore x.dstand x.addr n = false → (x.len ≠ 1 ∨ 4096 < x.addr % 4096 + n) →
      exec (.get p x) s = .next (t.respond x 4 [])) ∧
    ((s.cfg x.dstand).enabled = true → s.sweepBefore x.dstand x.addr n = false → x.len = 1 → x.addr % 4096 + n ≤ 4096 →
        s.mayRemote x.dstand x.addr n false = false →
      exec (.get p x) s = .next ((t.countStand x.dstand cMemRemoteRefused).respond x 1 [])) ∧
    ((s.cfg x.dstand).enabled = true → s.sweepBefore x.dstand x.addr n = false → x.len = 1 → x.addr % 4096 + n ≤ 4096 →
        s.mayRemote x.dstand x.addr n false = true →
        bit (fld x.payload 4 1) 0 = false → s.hbm.diff = [] → (∀ i, i < n → (s.visKey (x.addr + i)).isSome = true) →
      exec (.get p x) s = .next (t.respond x 0 (s.readSoft x.addr n))) ∧
    ((s.cfg x.dstand).enabled = true → s.sweepBefore x.dstand x.addr n = false → x.len = 1 → x.addr % 4096 + n ≤ 4096 →
        s.mayRemote x.dstand x.addr n false = true →
        bit (fld x.payload 4 1) 0 = true →
        (s.stand x.dstand).steps.serves (bit (fld x.payload 4 1) 1) (BitVec.ofNat 32 (fld x.payload 8 4)) = false →
      exec (.get p x) s = .next (t.respond x 1 []))) ∧
  (∀ (s t : State) (p : Nat) (x : Txn) (m : Meta), s.takeRequest p x 3 = some t → m = metaOf x.meta_ →
    ((s.cfg x.dstand).enabled = false → exec (.reducePut p x) s = .next ((t.countStand x.dstand cMemRemoteRefused).respond x 1 [])) ∧
    ((s.cfg x.dstand).enabled = true → s.rankIn x.dstand m.mtab = none → exec (.reducePut p x) s = .next s) ∧
    (∀ (my k d : Nat) (vs : List W32), (s.cfg x.dstand).enabled = true → s.rankIn x.dstand m.mtab = some my →
        d = (s.mtab x.dstand m.mtab).members.length →
        k = (if m.op = 5 then my else (my + d - bits (leNat (x.meta_.take 16)) 127 121 % d) % d) → x.addr = 0 →
        vs = (codesOf x.payload).take (segLen m.count d k) →
        (∀ y ∈ (s.stand x.dstand).colls, ¬ (y.mtab = m.mtab ∧ y.inst = m.inst)) → (s.stand x.dstand).openOwn = [] →
        s.instPast x.dstand m.mtab m.inst = false → (s.stand x.dstand).contrib m.mtab m.inst k m.rank = none →
      ((s.cfg x.dstand).reduceStageMib * 2 ^ 20 < (s.stand x.dstand).staged + 4 * vs.length → exec (.reducePut p x) s = .next s) ∧
      ((s.stand x.dstand).staged + 4 * vs.length ≤ (s.cfg x.dstand).reduceStageMib * 2 ^ 20 →
        exec (.reducePut p x) s = .next ((t.setStand x.dstand { s.stand x.dstand with
          contribs := (s.stand x.dstand).contribs ++ [⟨m.mtab, m.inst, m.version, m.op, m.collId, m.count, m.rank, k, m.taint, vs,
            if segLen m.count d k ≤ vs.length ∨ m.op = 5 then some s.clock.now else none⟩] }).respond x 0 [])))) ∧
  (∀ (s t : State) (p r : Nat) (x : Txn) (q : Perm) (c : Cmd), s.takeRequest p x 4 = some t → (s.cfg x.dstand).enabled = true →
      (s.stand x.dstand).perms.find? (fun y => decide (y.mtab = x.addr / 2 ^ 36) &&
        decide (y.inst = BitVec.ofNat 32 (x.addr / 16))) = some q →
      (s.mtab x.dstand (x.addr / 2 ^ 36)).rank x.src x.sstand = some r → (s.stand x.dstand).cmd q.ticket = some c →
    (fld x.payload 15 1 = 2 →
      exec (.permuteMessage p x) s = .next ((t.setPerm x.dstand { q with pulledBy := r :: q.pulledBy }).respond x 0 [])) ∧
    (fld x.payload 15 1 = 1 →
      exec (.permuteMessage p x) s = .next ((t.setPerm x.dstand { q with
        opened := r :: q.opened
        mismatch := q.mismatch || decide (x.payload.take 16 ≠ s.permWord x.dstand (permArgs c.bytes) 1) }).respond x 0 [])) ∧
    ((fld x.payload 15 1 = 4 ∨ fld x.payload 15 1 = 5) →
      exec (.permuteMessage p x) s = .next ((t.setPerm x.dstand { q with
        absent := fld x.payload 0 8 :: q.absent
        stepAbsent := if fld x.payload 15 1 = 5 then fld x.payload 0 8 :: q.stepAbsent else q.stepAbsent }).respond x 0 [])))

/-- Time alignment (spec/10 R270, R271): a TIME request is answered on its port with the time at which it came, and takes the time of
sending as its flit leaves; an exchange asks the parent, and takes the time of sending in the same way; a first response before
STANDS_READY steps the time base by its offset, and a later one after it sets what is to be slewed; a slew adds or skips one tick. The
model's own readings: log entries 53 and 91. -/
def Obligations.TimeAlignment : Prop :=
  (∀ (s t : State) (p : Nat) (x : Txn), s.takeLink p x 5 false = some t →
    ∃ r : Txn, exec (.time p x) s = .next (t.emitTime (s.egressOf p) r .t3) ∧ r.ttype = 5 ∧ r.rsp = true ∧ r.dst = x.src ∧
      r.tag = x.tag ∧ r.status = 0 ∧ r.len = 1 ∧ fld r.payload 0 8 = s.rxTime p x) ∧
  (∀ s : State, s.alive = true → s.boot.imageVerified = true → s.img.timeRoot = false → s.img.parentPort < 28 →
      (s.port s.img.parentPort).up = true →
    ∃ (t : State) (r : Txn), exec .timeExchange s = .next t ∧ r.ttype = 5 ∧ r.rsp = false ∧ r.tag = s.fabric.nextTag ∧
      r.dst = (s.port s.img.parentPort).peerDevice ∧ r.len = 1 ∧
      t = (s.setFabric { s.fabric with
        nextTag := (s.fabric.nextTag + 1) % 4096
        timeReqs := s.fabric.timeReqs.filter (fun q => decide (q.1 ≠ s.fabric.nextTag)) }).emitTime
          (s.egressOf s.img.parentPort) r (.t1 s.fabric.nextTag)) ∧
  (∀ (s t : State) (p : Nat) (x : Txn) (t1 : W64) (off : Int), s.takeLink p x 5 true = some t →
      s.fabric.timeReqs.find? (fun q => decide (q.1 = x.tag)) = some (x.tag, t1) →
      off = (((fld x.payload 0 8 : Int) - t1.toNat) - ((s.rxTime p x : Int) - fld x.payload 8 8)) / 2 →
    (s.boot.standsReady = false → s.clock.sync.stepped = false → 0 < off →
      ∃ u, exec (.timeResponse p x) s = .next u ∧ u.clock.now = s.clock.now + BitVec.ofNat 64 off.toNat ∧
        u.clock.sync.stepped = true ∧
        u.counters.get (kModule cCskTimeStep) = s.counters.get (kModule cCskTimeStep) + 1 ∧
        u.stands = s.stands ∧ s.memoryKept u ∧ u.frame = s.frame) ∧
    (s.boot.standsReady = false → s.clock.sync.stepped = false → off ≤ 0 →
      ∃ u, exec (.timeResponse p x) s = .next u ∧ u.clock.now = s.clock.now ∧ u.clock.sync.stepped = true ∧
        (off < 0 → u.clock.sync.hold = (-off).toNat) ∧ u.stands = s.stands ∧ s.memoryKept u ∧ u.frame = s.frame) ∧
    (s.boot.standsReady = true →
      ∃ u, exec (.timeResponse p x) s = .next u ∧ u.clock.now = s.clock.now ∧ u.clock.sync.slew = u.clock.sync.offset ∧
        (u.clock.sync.offset, u.clock.sync.delay) ∈ u.clock.sync.samples ∧
        (∀ q ∈ u.clock.sync.samples, u.clock.sync.delay ≤ q.2) ∧ u.clock.sync.samples.length ≤ 8 ∧
        u.stands = s.stands ∧ s.memoryKept u ∧ u.frame = s.frame)) ∧
  (∀ s : State, s.alive = true → s.boot.standsReady = true → 0 < s.clock.sync.slew →
    exec .timeSlew s = .next (s.setClock { now := s.clock.now + 1, sync := { s.clock.sync with slew := s.clock.sync.slew - 1 } })) ∧
  (∀ s : State, s.alive = true → s.boot.standsReady = true → s.clock.sync.slew < 0 →
    exec .timeSlew s = .next (s.setClock { s.clock with
      sync := { s.clock.sync with slew := s.clock.sync.slew + 1, hold := s.clock.sync.hold + 1 } }))

/-- Heartbeats and fences heard (spec/12 R323, R325, R326): a heartbeat of a watched device that names the peer's stand is
remembered with its time and brings a suspect back to life, and one that does not only takes the naming away; sending one takes a
sequence number for each watched device; a FENCE from a member fences the device it names, and a stand named itself is expelled.
The model's own readings: log entry 49. -/
def Obligations.HeartbeatsAndFences : Prop :=
  (∀ (s t : State) (p : Nat) (x : Txn), s.takeLink p x 6 false = some t →
    ∃ u, exec (.heartbeat p x) s = .next u ∧ s.memoryKept u ∧ u.clock = s.clock ∧ u.frame = s.frame ∧
      ∀ st, st < 64 → (s.cfg st).enabled = true → ∀ (i : Nat) (q : Peer), (s.stand st).peers[i]? = some q →
        (q.device ≠ x.src → (u.stand st).peers[i]? = some q) ∧
        (q.device = x.src → bit (fld x.payload 8 8) (s.peerStand st x.src) = false →
          (u.stand st).peers[i]? = some { q with named := false }) ∧
        (q.device = x.src → bit (fld x.payload 8 8) (s.peerStand st x.src) = true →
          ∃ z, (u.stand st).peers[i]? = some z ∧ z.named = true ∧ z.lastNamed = s.clock.now ∧ z.device = q.device ∧
            z.state = (if q.state = .suspect then .live else q.state) ∧
            z.samples = (if q.named then min 32 (q.samples + 1) else q.samples))) ∧
  (∀ (s : State) (ds : List W16), s.alive = true → s.boot.imageVerified = true →
      ds = ((List.range 64).flatMap (fun st => if (s.cfg st).enabled then (s.stand st).peers.map Peer.device else [])).dedup →
    ∃ u, exec .heartbeatSend s = .next u ∧ u.stands = s.stands ∧ u.clock = s.clock ∧ s.memoryKept u ∧ u.frame = s.frame ∧
      (s.fabric.nextTag < 4096 → u.fabric.nextTag = (s.fabric.nextTag + ds.length) % 4096) ∧
      (∀ d e, ds = [d] → d ≠ s.img.deviceId → s.routeTo d = some e → ∃ r : Txn, r.ttype = 6 ∧ r.dst = d ∧ r.rsp = false ∧
        r.payload = s.heartbeat s.fabric.nextTag ∧
        (u.port (s.egressPort e)).txq.get [] (65 * 3) = (s.port (s.egressPort e)).txq.get [] (65 * 3) ++ r.stream (64, 0) .none)) ∧
  (∀ (s t : State) (p : Nat) (x : Txn) (d : W16), s.takeRequest p x 7 = some t → d = BitVec.ofNat 16 (fld x.payload 0 2) →
      (s.stand x.dstand).steps.commits = [] →
    ((s.cfg x.dstand).enabled = false → exec (.fence p x) s = .next ((t.countModule cLkoFenceRx).respond x 1 [])) ∧
    ((s.cfg x.dstand).enabled = true → d ≠ s.img.deviceId →
        (∃ m ∈ s.tablesOf x.dstand d, (x.src, x.sstand) ∈ (s.mtab x.dstand m).members) →
      ∃ u, exec (.fence p x) s = .next u ∧ u.fenced x.dstand d = true ∧ s.memoryKept u ∧
        u.counters.get (kModule cLkoFenceRx) = s.counters.get (kModule cLkoFenceRx) + 1 ∧
        s.standOnly u x.dstand ∧ u.frame = s.frame) ∧
    ((s.cfg x.dstand).enabled = true → d = s.img.deviceId → bits (fld x.payload 2 1) 5 0 = x.dstand →
      ∃ u, exec (.fence p x) s = .next u ∧ (u.stand x.dstand).steps.expelled = true ∧
        x.src ∈ (u.stand x.dstand).steps.expellers ∧ s.memoryKept u ∧
        u.counters.get (kStand x.dstand cLkoSelfExpelled) = s.counters.get (kStand x.dstand cLkoSelfExpelled) + 1 ∧
        s.standOnly u x.dstand ∧ u.frame = s.frame))

/-- Ends of requests and transit (spec/10 R265, R266, R268, R269): a response ends the outstanding request of its TAG and is otherwise
discarded; a request without one ends UNREACHABLE when its time has passed, is counted, and not before; a transaction for another device
goes on with TTL one less on the same channel over the way between the link dies, waits while a link of that way carries no traffic, and
one whose TTL is spent or that has no route is counted and dropped, a request with an UNREACHABLE answer. The model's own readings: log
entries 51, 54 and 91. -/
def Obligations.RequestEndsAndTransit : Prop :=
  (∀ (s t : State) (p : Nat) (x : Txn), s.alive = true → s.isMine x = true → x.rsp = true → x.ttype ≠ 5 → s.takeRx p x = some t →
    ((s.stand x.dstand).reqs.find? (fun r => decide (r.tag = x.tag)) = none → exec (.txnResponse p x) s = .next t) ∧
    (∀ r : Req, (s.stand x.dstand).reqs.find? (fun r => decide (r.tag = x.tag)) = some r → (s.stand x.dstand).held = [] →
      (r.what = .other →
        ∃ u, exec (.txnResponse p x) s = .next u ∧ u.stand x.dstand = { s.stand x.dstand with
            reqs := (s.stand x.dstand).reqs.filter (fun q => decide (q.tag ≠ x.tag)) } ∧
          (x.status = 3 → u.counters.get (kStand x.dstand cCskUnreachable) = s.counters.get (kStand x.dstand cCskUnreachable) + 1) ∧
          (x.status = 0 → u.counters = s.counters) ∧ s.memoryKept u ∧ s.standOnly u x.dstand ∧ u.frame = s.frame) ∧
      (∀ (k : Nat) (c : Cmd), r.what = .skidder k → (s.stand x.dstand).cmd k = some c → r.ttype = 2 → x.status = 0 →
        ∃ u, exec (.txnResponse p x) s = .next u ∧ u.stand x.dstand = ({ s.stand x.dstand with
            reqs := (s.stand x.dstand).reqs.filter (fun q => decide (q.tag ≠ x.tag)) }.setCmd c.ticket
              { c with fetched := c.fetched ++ [(pieceKey r.dst r.addr, x.payload)] }) ∧
          s.memoryKept u ∧ s.standOnly u x.dstand ∧ u.frame = s.frame))) ∧
  (∀ (s : State) (st tag : Nat) (r : Req), s.alive = true → (s.stand st).reqs.find? (fun r => decide (r.tag = tag)) = some r →
    (s.clock.now.toNat < r.sentAt.toNat + s.img.txnTimeoutMs * 1000000 → exec (.txnTimeout st tag) s = .next s) ∧
    (r.sentAt.toNat + s.img.txnTimeoutMs * 1000000 ≤ s.clock.now.toNat →
      ∃ u, exec (.txnTimeout st tag) s = .next u ∧
        u.counters.get (kStand st cCskTxnTimeout) = s.counters.get (kStand st cCskTxnTimeout) + 1 ∧
        u.comp = s.comp ∧ s.standOnly u st ∧ u.frame = s.frame ∧
        ((s.stand st).held = [] → r.what = .other →
          u.stand st = { s.stand st with reqs := (s.stand st).reqs.filter (fun q => decide (q.tag ≠ tag)) } ∧
          u.counters.get (kStand st cCskUnreachable) = s.counters.get (kStand st cCskUnreachable) + 1 ∧ s.memoryKept u))) ∧
  (∀ (s t : State) (p : Nat) (x : Txn) (y : RxTxn), s.alive = true → s.isMine x = false →
      (s.port p).rxOf x = some y → s.takeRx p x = some t →
    (∀ e, 1 < x.ttl → s.routeTo x.dst = some e →
      (s.wayOpen (linkWay s.variant (p / 7) (egressDie e)) = false → exec (.transitForward p x) s = .next s) ∧
      (s.wayOpen (linkWay s.variant (p / 7) (egressDie e)) = true →
        exec (.transitForward p x) s = .next ((t.crossWay (linkWay s.variant (p / 7) (egressDie e))).emit e y.vc 64
          { x with ttl := x.ttl - 1 } (64, 0)))) ∧
    (x.ttl ≤ 1 → x.rsp = true → exec (.transitForward p x) s = .next (t.countModule cCskTtlExpired)) ∧
    (1 < x.ttl → s.routeTo x.dst = none → x.rsp = true → exec (.transitForward p x) s = .next (t.countModule cCskNoRoute)) ∧
    (∀ e, x.ttl ≤ 1 → x.rsp = false → x.ttype ≠ 6 → s.routeTo x.src = some e →
      ∃ r : Txn, exec (.transitForward p x) s = .next ((t.countModule cCskTtlExpired).emit e (r.channel false) 64 r (64, 0)) ∧
        r.ttype = x.ttype ∧ r.rsp = true ∧ r.status = 3 ∧ r.dst = x.src ∧ r.tag = x.tag ∧ r.dstand = x.sstand ∧ r.payload = []))

/-- Flits (spec/10 R254 to R259, spec/01 R18 to R20, R22): a flit that fails its checks or comes out of order is counted and answered by
one NAK; one in order gives its acknowledgement and credits, and a DATA flit gives its transactions to the receive buffer; a NAK or a
timeout sends the held flits again, or retrains the port after eight sends; the arbiter sends replays, then CTRL, then the channels by
their priority, and IDLE where nothing is ready, each flit with its header, CRC and the credits that it returns; of the flits that wait
for a die link the one whose turn it is crosses it, and is delivered, passed on or asked for again. The model's own readings: log
entries 50, 55, 56, 90 and 91. -/
def Obligations.Flits : Prop :=
  (∀ (s : State) (p c u n : Nat) (ws : List (List Byte)) (r : Option (FlitHead × List (List Byte))),
    ((s.alive = false ∨ (s.port p).talks = false) → exec (.flitReceive p ⟨ws, c, u⟩) s = .next s) ∧
    (s.alive = true → (s.port p).talks = true → readFlit ws = (r, n) →
        (r = none ∨ ∃ h b, r = some (h, b) ∧ (h.type = 1 ∨ h.type = 3) ∧ h.seq ≠ (s.port p).rxSeq) →
      ((s.port p).nakSent = true →
        exec (.flitReceive p ⟨ws, c, u⟩) s = .next ((s.rxCounted p c u n).count (kPort p cCskFlitBad) 1)) ∧
      ((s.port p).nakSent = false →
        exec (.flitReceive p ⟨ws, c, u⟩) s = .next ((((s.rxCounted p c u n).count (kPort p cCskFlitBad) 1).setPort p
          { s.port p with nakSent := true, owed := (s.port p).owedAfter }).send (s.flitOut p (plainHead 2) zeroBody))))) ∧
  (∀ (s : State) (p c u n : Nat) (ws : List (List Byte)) (h : FlitHead) (b : List (List Byte)), s.alive = true →
      (s.port p).talks = true → readFlit ws = (some (h, b), n) →
    (h.type ≠ 1 → h.type ≠ 3 →
      exec (.flitReceive p ⟨ws, c, u⟩) s = .next ((s.rxCounted p c u n).setPort p ((s.port p).goodHead h))) ∧
    (h.type = 3 → h.seq = (s.port p).rxSeq →
      exec (.flitReceive p ⟨ws, c, u⟩) s = .next ((s.rxCounted p c u n).setPort p
        { (s.port p).goodHead h with rxSeq := ((s.port p).rxSeq + 1) % 4096, rxSome := true })) ∧
    (∀ (x : Txn) (o : Nat × Nat), h.type = 1 → h.seq = (s.port p).rxSeq → h.start = 1 → s.bondOf p = none →
        (s.port p).rxPart.get RxPart.none h.vc = RxPart.none → x.wellFormed = true → x.status < 8 → x.dstand < 64 →
        x.sstand < 64 → x.tag < 4096 → x.addr < 2 ^ 40 → x.ttl < 128 → x.payload.length = 16 * x.len → x.diffs = [] →
        x.meta_.length = (if x.ttype = 3 ∧ x.rsp = false then 16 else 0) → (x.stream o .none).length ≤ 15 →
        b = (x.stream o .none).map (·.data) ++ List.replicate (15 - (x.stream o .none).length) (List.replicate 16 0) →
      (s.meetsFence x = false → ∃ t, exec (.flitReceive p ⟨ws, c, u⟩) s = .next t ∧
        (t.port p).rxq = (s.port p).rxq ++ [⟨h.vc, [(p, (s.port p).rxCount)], x, s.clock.now⟩] ∧
        (t.port p).rxSeq = ((s.port p).rxSeq + 1) % 4096 ∧ (t.port p).owed = (s.port p).owed ∧ t.stands = s.stands ∧
        s.memoryKept t ∧ t.frame = s.frame) ∧
      (s.meetsFence x = true → s.flitHeld (p, (s.port p).rxCount) = false → ∃ t, exec (.flitReceive p ⟨ws, c, u⟩) s = .next t ∧
        (t.port p).rxq = (s.port p).rxq ∧ (t.port p).owed.get 0 h.vc = (s.port p).owed.get 0 h.vc + 1 ∧
        t.counters.get (kStand x.dstand cCskFenceDropped) = s.counters.get (kStand x.dstand cCskFenceDropped) + 1 ∧
        t.stands = s.stands ∧ s.memoryKept t ∧ t.frame = s.frame))) ∧
  (∀ (s : State) (p a : Nat), ((s.alive = false ∨ (s.port p).talks = false) → exec (.nak p a) s = .next s) ∧
    (s.alive = true → (s.port p).talks = true → (s.port p).retry = [] → exec (.nak p a) s = .next s)) ∧
  (∀ (s : State) (p a : Nat) (pre post : List RetryFlit) (f : RetryFlit), s.alive = true → (s.port p).talks = true →
      (s.port p).retry = pre ++ f :: post → f.seq = a → (∀ g ∈ pre, g.seq ≠ a) →
    (post = [] → ∃ t, exec (.nak p a) s = .next t ∧ (t.port p).retry = [] ∧ (t.port p).mode = (s.port p).mode ∧
      t.counters = s.counters ∧ t.stands = s.stands ∧ s.memoryKept t ∧ t.frame = s.frame) ∧
    (∀ (g : RetryFlit) (gs : List RetryFlit), post = g :: gs →
      ∃ t, exec (.nak p a) s = .next t ∧ (t.port p).retry = post ∧
        (g.sends < 8 → (t.port p).mode = (s.port p).mode ∧ (t.port p).replayq = post.map RetryFlit.seq) ∧
        (8 ≤ g.sends → (t.port p).mode = .retrain ∧
          t.counters.get (kPort p cCskRetrain) = s.counters.get (kPort p cCskRetrain) + 1) ∧
        t.stands = s.stands ∧ s.memoryKept t ∧ t.frame = s.frame)) ∧
  (∀ (s : State) (p : Nat) (f : RetryFlit) (fs : List RetryFlit), (s.port p).retry = f :: fs →
    ((s.alive = false ∨ (s.port p).talks = false ∨ s.clock.now.toNat < f.sentAt.toNat + 2048) →
      exec (.retryTimeout p) s = .next s) ∧
    (s.alive = true → (s.port p).talks = true → f.sentAt.toNat + 2048 ≤ s.clock.now.toNat →
      ∃ t, exec (.retryTimeout p) s = .next t ∧ (t.port p).retry = f :: fs ∧
        t.counters.get (kPort p cCskRetryTimeout) = s.counters.get (kPort p cCskRetryTimeout) + 1 ∧
        (t.port p).mode = (if 8 ≤ f.sends ∧ (s.port p).substPending = false then .retrain else (s.port p).mode) ∧
        (f.sends < 8 → (t.port p).replayq = (f :: fs).map RetryFlit.seq) ∧ t.stands = s.stands ∧ s.memoryKept t ∧
        t.frame = s.frame)) ∧
  (∀ (s : State) (p : Nat), (s.alive = false ∨ (s.port p).talks = false) → exec (.egressArbitrate p) s = .next s) ∧
  (∀ (s : State) (p : Nat), s.alive = true → (s.port p).talks = true →
    (∀ (q : Nat) (qs : List Nat) (f : RetryFlit), (s.port p).replayq = q :: qs →
        (s.port p).retry.find? (fun g => decide (g.seq = q)) = some f →
      ∃ t, exec (.egressArbitrate p) s = .next t ∧ t.sent = s.sent ++ [s.flitOut p f.head f.words] ∧ (t.port p).replayq = qs ∧
        (t.port p).retry.map RetryFlit.seq = (s.port p).retry.map RetryFlit.seq ∧
        (t.port p).retry.find? (fun g => decide (g.seq = q)) = some { f with
          sends := if (s.port p).substPending = true then f.sends else f.sends + 1, sentAt := s.clock.now } ∧
        (t.port p).owed = (s.port p).owedAfter ∧ t.counters.get (kPort p cCskReplays) = s.counters.get (kPort p cCskReplays) + 1 ∧
        t.stands = s.stands ∧ s.memoryKept t ∧ t.frame = s.frame) ∧
    ((s.port p).replayq = [] →
      (1024 ≤ (s.port p).retry.length → exec (.egressArbitrate p) s = .next ((s.setPort p
        { s.port p with owed := (s.port p).owedAfter }).send (s.flitOut p (plainHead 0) zeroBody))) ∧
      ((s.port p).retry.length < 1024 → (s.port p).ctrlq = [] → s.resendOne p = none →
          (s.bondTurn p = false ∨ ∀ vc, vc < 4 → ¬ s.vcReady p vc) →
        exec (.egressArbitrate p) s = .next ((s.setPort p
          { s.port p with owed := (s.port p).owedAfter }).send (s.flitOut p (plainHead 0) zeroBody))) ∧
      (∀ (c : CtrlMsg) (cs : List CtrlMsg), (s.port p).retry.length < 1024 → (s.port p).ctrlq = c :: cs →
        ∃ t f, exec (.egressArbitrate p) s = .next t ∧
          f = (⟨(s.port p).txSeq, none, some c, 0, 0, c.body, 1, [], s.clock.now⟩ : RetryFlit) ∧
          t.sent = s.sent ++ [s.flitOut p f.head c.body] ∧
          t.port p = { s.port p with
            ctrlq := cs, txSeq := ((s.port p).txSeq + 1) % 4096, retry := (s.port p).retry ++ [f]
            owed := (s.port p).owedAfter } ∧
          t.stands = s.stands ∧ s.memoryKept t ∧ t.frame = s.frame) ∧
      (∀ (b vc : Nat) (f : RetryFlit) (fs : List RetryFlit), (s.port p).retry.length < 1024 → (s.port p).ctrlq = [] →
          s.bondOf p = some b → (s.bond b).locked = true → (s.port p).up = true → (s.bond b).resend = f :: fs →
          f.vc = some vc → 0 < (s.port p).credits.get 0 vc →
        ∃ t g, exec (.egressArbitrate p) s = .next t ∧
          g = { f with seq := (s.port p).txSeq, sends := 1, sentAt := s.clock.now } ∧
          t.sent = s.sent ++ [s.flitOut p g.head g.words] ∧ (t.bond b).resend = fs ∧
          (t.port p).retry = (s.port p).retry ++ [g] ∧ (t.port p).credits.get 0 vc = (s.port p).credits.get 0 vc - 1 ∧
          t.stands = s.stands ∧ s.memoryKept t ∧ t.frame = s.frame) ∧
      (∀ (q vc k : Nat) (ws : List TxWord), (s.port p).retry.length < 1024 → (s.port p).ctrlq = [] → s.resendOne p = none →
          s.bondTurn p = true → q = s.streamPort p → vc < 4 → s.vcReady p vc →
          (vc ≠ 3 → ¬ s.vcReady p 3) → (vc = 1 ∨ vc = 2 → ¬ s.vcReady p 0 ∧ ¬ s.vcReady p (3 - vc)) →
          (s.port q).nextSrc vc = some k → ws = (s.port q).flitWords vc k →
        ∃ t f, exec (.egressArbitrate p) s = .next t ∧
          f = ({ seq := (s.port p).txSeq, vc := some vc, ctrl := none
                 bseq := (s.bondOf p).elim 0 (fun b => (s.bond b).txBseq), start := startOf ws
                 words := ws.map (fun w => flashWord ((w.stamped s.clock.now ++ List.replicate 16 0).take 16) w.diff) ++
                   zeroBody.drop ws.length
                 sends := 1, owners := (ws.map TxWord.owner).dedup, sentAt := s.clock.now } : RetryFlit) ∧
          t.sent = s.sent ++ [s.flitOut p f.head f.words] ∧ (t.port p).retry = (s.port p).retry ++ [f] ∧
          (t.port p).txSeq = ((s.port p).txSeq + 1) % 4096 ∧
          (t.port q).txq.get [] (65 * vc + k) = ((s.port q).txq.get [] (65 * vc + k)).drop ws.length ∧
          (t.port q).lastSrc.get 64 vc = k ∧ (t.port p).credits.get 0 vc = (s.port p).credits.get 0 vc - 1 ∧
          (t.port p).owed = (s.port p).owedAfter ∧
          t.fabric.timeReqs = s.fabric.timeReqs ++ stampedReqs ws s.clock.now ∧ t.stands = s.stands ∧ s.memoryKept t ∧
          t.frame = s.frame) ∧
      (∀ (k : Nat) (y : PortSt), (s.port p).retry.length < 1024 → (s.port p).ctrlq = [] → s.resendOne p = none →
          s.bondTurn p = true → y = s.port (s.streamPort p) → ¬ s.vcReady p 3 → ¬ s.vcReady p 0 → s.vcReady p 1 → s.vcReady p 2 →
          (y.turn1 < s.img.wColl ∨ y.turn2 < s.img.wBulk) → y.nextSrc (if y.turn1 < s.img.wColl then 1 else 2) = some k →
        ∃ t f, exec (.egressArbitrate p) s = .next t ∧ t.sent = s.sent ++ [s.flitOut p f.head f.words] ∧
          f.vc = some (if y.turn1 < s.img.wColl then 1 else 2) ∧ f.seq = (s.port p).txSeq ∧
          (t.port p).retry = (s.port p).retry ++ [f] ∧
          (t.port (s.streamPort p)).turn1 = y.turn1 + (if y.turn1 < s.img.wColl then 1 else 0) ∧
          (t.port (s.streamPort p)).turn2 = y.turn2 + (if y.turn1 < s.img.wColl then 0 else 1) ∧
          t.stands = s.stands ∧ s.memoryKept t ∧ t.frame = s.frame))) ∧
  (∀ (s : State) (d p : Nat) (fs : List DieFlit) (ok : Bool),
    ((s.alive = false ∨ s.dieLinkOn d p = false ∨ nextFlit (s.dieLink d p).turn (fs.filter (s.onPath d p)) = none) →
      exec (.dieLinkFlit d p fs ok) s = .next s) ∧
    (∀ f : DieFlit, s.alive = true → s.dieLinkOn d p = true →
        nextFlit (s.dieLink d p).turn (fs.filter (s.onPath d p)) = some f →
      ((ok = true ∧ ∀ w ∈ f.words, (readWord w).isSome = true) →
        (f.dst = d → ∃ t, exec (.dieLinkFlit d p fs ok) s = .next t ∧
          t.dieLink d p = { s.dieLink d p with turn := f.stand, delivered := (s.dieLink d p).delivered + 1 } ∧ t.sent = s.sent ∧
          t.stands = s.stands ∧ s.memoryKept t ∧ t.frame = s.frame) ∧
        (∀ n, f.dst ≠ d → (s.diePath f.src f.dst f.page).bind (afterDie d) = some n →
          ∃ t, exec (.dieLinkFlit d p fs ok) s = .next t ∧ t.dieLink d p = { s.dieLink d p with turn := f.stand } ∧
            t.sent = s.sent ++ [.dieForward d n f.words] ∧ t.stands = s.stands ∧ s.memoryKept t ∧ t.frame = s.frame)) ∧
      ((ok = false ∨ ∃ w ∈ f.words, readWord w = none) →
        ∃ t, exec (.dieLinkFlit d p fs ok) s = .next t ∧
          t.dieLink d p = { s.dieLink d p with turn := f.stand, retried := (s.dieLink d p).retried + 1 } ∧
          t.sent = s.sent ++ [.dieRetry d p] ∧
          t.counters.get (kDie d cDlkFlitRetry) = s.counters.get (kDie d cDlkFlitRetry) + 1 ∧
          t.stands = s.stands ∧ s.memoryKept t ∧ t.frame = s.frame)))

/-- Ports (spec/10 R250 to R253, R257, R261, spec/14 R359): a port that is down trains once it has rested, greets its peer, waits quiet
until both ends are ready, and ramps its buffers by doubling to ACTIVE; a retrained port goes on where it was; a wrong peer makes it
MISCABLED; a loss or a timeout takes it down and is counted; LOCK measures a bond's skew and sets its deskew delays. The model's own
readings: log entries 51, 52 and 91. -/
def Obligations.PortTraining : Prop :=
  (∀ (s : State) (p : Nat), s.alive = true → s.boot.imageVerified = true → p < s.variant.ports → (s.portCfg p).enabled = true →
      (s.port p).mode = .down →
    ((s.port p).started = true → s.clock.now.toNat < (s.port p).since.toNat + 100000000 →
      exec (.portTrainingStart p) s = .next s) ∧
    (((s.port p).started = false ∨ (s.port p).since.toNat + 100000000 ≤ s.clock.now.toNat) →
      ∃ t, exec (.portTrainingStart p) s = .next t ∧
        t.port p = { s.port p with mode := .training, since := s.clock.now, started := true, trained := false } ∧
        (∀ q, q ≠ p → t.port q = s.port q) ∧
        t.boot.fabricReady = (s.boot.fabricReady || (List.range s.variant.ports).all (fun q => !(s.portCfg q).enabled ||
          decide (q = p) || (s.port q).started)) ∧
        t.stands = s.stands ∧ s.memoryKept t ∧ t.power = s.power ∧ t.img = s.img)) ∧
  (∀ (s : State) (p healthy n : Nat), s.alive = true → n = ((s.portCfg p).lanes.filter (fun n => bit healthy n)).length →
    ((s.port p).mode = .training → (s.port p).trained = false → 4 ≤ n →
      exec (.portTrained p healthy) s = .next (s.setPort p { (s.port p).laned (s.portCfg p) healthy with
        trained := true, ctrlq := [.hello s.img.deviceId p] })) ∧
    ((s.port p).mode = .retrain → 4 ≤ n →
      ∃ t, exec (.portTrained p healthy) s = .next t ∧
        (t.port p).mode = (if (s.port p).readySent = true ∧ (s.port p).readyRecv = true then .active else .quiet) ∧
        (t.port p).retry = (s.port p).retry.map (fun f => { f with sends := 0 }) ∧
        (t.port p).replayq = (s.port p).retry.map RetryFlit.seq ∧
        (t.port p).degraded = decide (n < 8) ∧ (t.port p).width = (if n < 8 then 4 else 8) ∧
        ((s.port p).readySent = true → (s.port p).readyRecv = true → ∀ vc, vc < 4 →
          (t.port p).owed.get 0 vc = (s.port p).owed.get 0 vc + vcBuffer vc * (8 - 2 ^ (s.port p).rampStep) / 8) ∧
        (∀ q, q ≠ p → t.port q = s.port q) ∧ t.stands = s.stands ∧ s.memoryKept t ∧ t.frame = s.frame) ∧
    (((s.port p).mode = .training ∧ (s.port p).trained = false ∨ (s.port p).mode = .retrain) → n < 4 →
      ∃ t, exec (.portTrained p healthy) s = .next t ∧ (t.port p).mode = .down ∧
        t.counters.get (kPort p cCskPortDown) = s.counters.get (kPort p cCskPortDown) + 1 ∧ t.frame = s.frame)) ∧
  (∀ (s : State) (p q : Nat) (d : W16), s.alive = true →
    (((s.port p).mode ≠ .training ∨ (s.port p).trained = false) → exec (.hello p d q) s = .next s) ∧
    ((s.port p).mode = .training → (s.port p).trained = true →
      ((s.portCfg p).checkPeer = true → (d ≠ (s.portCfg p).peerDevice ∨ q ≠ (s.portCfg p).peerPort) →
        exec (.hello p d q) s = .next ((s.setPort p { s.port p with
          peerDevice := d, peerPort := q, mode := .miscabled, width := 0 }).countModule cCskMiscabled)) ∧
      (((s.portCfg p).checkPeer = false ∨ (d = (s.portCfg p).peerDevice ∧ q = (s.portCfg p).peerPort)) →
        (s.boot.standsReady = false →
          exec (.hello p d q) s = .next (s.setPort p { s.port p with
            peerDevice := d, peerPort := q, mode := .quiet, since := s.clock.now, owed := (s.port p).owed.upd 0 3 (· + 2) })) ∧
        (s.boot.standsReady = true → (s.port p).readySent = false → (s.port p).readyRecv = false →
          exec (.hello p d q) s = .next ((s.setPort p { s.port p with
            peerDevice := d, peerPort := q, mode := .quiet, since := s.clock.now, owed := (s.port p).owed.upd 0 3 (· + 2)
            readySent := true, ctrlq := (s.port p).ctrlq ++ [.ready] }).countModule cBootLatePorts))))) ∧
  (∀ (s : State) (p : Nat), s.alive = true →
    ((s.port p).mode ≠ .quiet → exec (.ready p) s = .next s) ∧
    ((s.port p).mode = .quiet →
      ((s.port p).readySent = false → exec (.ready p) s = .next (s.setPort p { s.port p with readyRecv := true })) ∧
      ((s.port p).readySent = true →
        ∃ t, exec (.ready p) s = .next t ∧ (t.port p).mode = .ramp ∧ (t.port p).rampStep = 0 ∧ (t.port p).since = s.clock.now ∧
          (∀ vc, vc < 3 → (t.port p).owed.get 0 vc = (s.port p).owed.get 0 vc + vcBuffer vc / 8) ∧
          (t.port p).owed.get 0 3 = (s.port p).owed.get 0 3 ∧
          (∀ q, q ≠ p → t.port q = s.port q) ∧ t.stands = s.stands ∧ s.memoryKept t ∧ t.frame = s.frame))) ∧
  (∀ (s : State) (p : Nat), s.alive = true → (s.port p).mode = .ramp →
    (s.clock.now.toNat < (s.port p).since.toNat + 1000000 → exec (.rampDoubling p) s = .next s) ∧
    ((s.port p).since.toNat + 1000000 ≤ s.clock.now.toNat →
      ∃ t, exec (.rampDoubling p) s = .next t ∧ (t.port p).rampStep = (s.port p).rampStep + 1 ∧
        (t.port p).mode = (if (s.port p).rampStep = 2 then .active else .ramp) ∧ (t.port p).since = s.clock.now ∧
        (∀ vc, vc < 4 → (t.port p).owed.get 0 vc = (s.port p).owed.get 0 vc + vcBuffer vc * 2 ^ (s.port p).rampStep / 8) ∧
        (∀ q, q ≠ p → t.port q = s.port q) ∧ t.stands = s.stands ∧ s.memoryKept t ∧ t.frame = s.frame)) ∧
  (∀ (s : State) (p : Nat), s.alive = true → (s.port p).mode ≠ .down → (s.port p).mode ≠ .miscabled →
    ∃ t, exec (.portDown p) s = .next t ∧ (t.port p).mode = .down ∧ (t.port p).retry = [] ∧ (t.port p).credits = [] ∧
      (t.port p).failed = (s.port p).failed ∧ (t.port p).since = s.clock.now ∧
      t.counters.get (kPort p cCskPortDown) = s.counters.get (kPort p cCskPortDown) + 1 ∧
      ((s.port p).owners = [] → t.stands = s.stands ∧ s.memoryKept t) ∧ t.frame = s.frame) ∧
  (∀ (s : State) (p : Nat), ((s.port p).mode = .down ∨ (s.port p).mode = .miscabled) → exec (.portDown p) s = .next s) ∧
  (∀ (s : State) (p : Nat), s.alive = true → ((s.port p).mode = .training ∨ (s.port p).mode = .retrain) →
    (s.clock.now.toNat < (s.port p).since.toNat + 500000000 → exec (.trainingTimeout p) s = .next s) ∧
    ((s.port p).since.toNat + 500000000 ≤ s.clock.now.toNat →
      ∃ t, exec (.trainingTimeout p) s = .next t ∧ (t.port p).mode = .down ∧ (t.port p).retry = [] ∧
        t.counters.get (kPort p cCskPortDown) = s.counters.get (kPort p cCskPortDown) + 1 ∧
        ((s.port p).owners = [] → t.stands = s.stands ∧ s.memoryKept t) ∧ t.frame = s.frame)) ∧
  (∀ (s : State) (b hi lo : Nat) (lags ls : List (Nat × Nat)), s.alive = true → b < 12 → (s.bondCfg b).ports ≠ 0 → s.bondUp b ≠ [] →
      ls = lags.filter (fun l => (s.bondUp b).contains l.1) →
    ((∃ p ∈ s.bondUp b, ∀ l ∈ ls, l.1 ≠ p) → exec (.lock b lags) s = .next s) ∧
    ((∀ p ∈ s.bondUp b, ∃ l ∈ ls, l.1 = p) → (∀ l ∈ ls, lo ≤ l.2 ∧ l.2 ≤ hi) → (∃ l ∈ ls, l.2 = hi) → (∃ l ∈ ls, l.2 = lo) →
      (hi - lo ≤ 64 → exec (.lock b lags) s = .next (s.setBond b { s.bond b with
        locked := true, skew := hi - lo, deskew := ls.foldl (fun t l => t.set l.1 (hi - l.2)) [] })) ∧
      (64 < hi - lo → exec (.lock b lags) s = .next ((s.setBond b { s.bond b with
        locked := false, skew := min (hi - lo) 255 }).count (kBond b cCskLockLost) (if (s.bond b).locked then 1 else 0))))) ∧
  (∀ (s : State) (b : Nat), s.alive = true → b < 12 →
    ∃ t, exec (.lockRemeasure b) s = .next t ∧
      (∀ p ∈ s.bondUp b, t.port p = { s.port p with ctrlq := (s.port p).ctrlq ++ [.lock s.clock.now] }) ∧
      (∀ p, p ∉ s.bondUp b → t.port p = s.port p) ∧ t.stands = s.stands ∧ s.memoryKept t ∧ t.frame = s.frame)

/-- Lanes (spec/10 R247 to R249, spec/01 R18): a failing lane is recorded in the wear ledger, and the receiver asks for the spare
lane, else for four lanes that have not failed, else the port goes down; the sender obeys and replays; a die link's first two failed
lanes are replaced, the third reduces it and marks the compute die, and a lane that has failed fails no more. The model's own readings:
log entries 52, 56 and 91. -/
def Obligations.LaneFailures : Prop :=
  (∀ (s : State) (p n : Nat) (cw : Bool), (s.alive = false ∨ (s.port p).up = false ∨ (if (s.port p).degraded then 4 else 8) ≤ n) →
    exec (.laneFailing p n cw) s = .next s) ∧
  (∀ (s : State) (p n l : Nat) (cw : Bool) (y : PortSt), s.alive = true → (s.port p).up = true →
      n < (if (s.port p).degraded then 4 else 8) → l = (s.port p).rxLane (s.portCfg p) n → y = (s.port p).failLane l →
    ∃ t, exec (.laneFailing p n cw) s = .next t ∧ bit (t.port p).failed l = true ∧
      ((4 ≤ (y.healthy (s.portCfg p)).length ∨ (s.port p).owners = []) →
        t.integ.pending = s.integ.pending ++ [⟨s.opsec, 0x0a, 4, p, BitVec.ofNat 32 l, s.flash.wearNext⟩] ∧
        t.counters.get (kPort p cCskFecUncorrectableCw) =
          s.counters.get (kPort p cCskFecUncorrectableCw) + (if cw then 4 else 0) ∧
        t.stands = s.stands ∧ s.memoryKept t) ∧
      (4 ≤ (y.healthy (s.portCfg p)).length → (s.port p).spareIdle (s.portCfg p) = true →
        t.port p = { y with ctrlq := y.ctrlq ++ [.subst n] }) ∧
      (4 ≤ (y.healthy (s.portCfg p)).length → (s.port p).spareIdle (s.portCfg p) = false →
        t.port p = { y with ctrlq := y.ctrlq ++ [.degrade y.failed], degraded := true, width := 4, substPending := true } ∧
        t.counters.get (kPort p cCskDegraded) =
          s.counters.get (kPort p cCskDegraded) + (if (s.port p).degraded then 0 else 1)) ∧
      ((y.healthy (s.portCfg p)).length < 4 → (t.port p).mode = .down) ∧
      t.frame = s.frame) ∧
  (∀ (s : State) (p n : Nat), s.alive = true → (s.port p).up = true →
    ((s.portCfg p).iface = 2 → n < 8 →
      ((s.port p).spareFor = none → (s.port p).degraded = false →
        exec (.subst p n) s = .next (((s.setPort p { s.port p with
          spareFor := some n, substPending := true, txFailed := Nat.lor (s.port p).txFailed (2 ^ n)
          replayq := (s.port p).retry.map RetryFlit.seq }).count (kPort p cCskLaneSubst) 1).send (.marker p n))) ∧
      ((s.port p).rxSpareFor = none →
        exec (.laneMarkerReceive p n) s = .next ((s.setPort p { s.port p with rxSpareFor := some n }).count
          (kPort p cCskLaneSubst) 1))) ∧
    (((s.portCfg p).iface ≠ 2 ∨ 8 ≤ n) →
      exec (.subst p n) s = .next s ∧ exec (.laneMarkerReceive p n) s = .next s)) ∧
  (∀ (s : State) (p m : Nat), s.alive = true → (s.port p).up = true →
    ∃ t, exec (.degrade ⟨p, m⟩) s = .next t ∧ t.port p = { s.port p with
        degraded := true, width := 4, substPending := true, replayq := (s.port p).retry.map RetryFlit.seq
        txFailed := Nat.lor (s.port p).txFailed m } ∧
      (∀ q, q ≠ p → t.port q = s.port q) ∧
      t.counters.get (kPort p cCskDegraded) = s.counters.get (kPort p cCskDegraded) + (if (s.port p).degraded then 0 else 1) ∧
      t.stands = s.stands ∧ s.memoryKept t ∧ t.frame = s.frame) ∧
  (∀ (s : State) (d p n : Nat),
    ((s.alive = false ∨ s.dieLinkOn d p = false ∨ 34 ≤ n ∨ n ∈ (s.dieLink d p).failedLanes) →
      exec (.dieLinkLaneFail d p n) s = .next s) ∧
    (s.alive = true → s.dieLinkOn d p = true → n < 34 → n ∉ (s.dieLink d p).failedLanes →
      ∃ t, exec (.dieLinkLaneFail d p n) s = .next t ∧
        t.dieLink d p = { s.dieLink d p with
          failedLanes := (s.dieLink d p).failedLanes ++ [n]
          reduced := (s.dieLink d p).reduced || decide (2 ≤ (s.dieLink d p).failedLanes.length) } ∧
        (⟨s.opsec, 0x0b, 4, 32 * d + p, BitVec.ofNat 32 n, s.flash.wearNext⟩ : WearEntry) ∈ t.integ.pending ∧
        ((s.dieLink d p).failedLanes.length ≤ 1 →
          t.counters.get (kDie d cDlkLaneSubst) = s.counters.get (kDie d cDlkLaneSubst) + 1) ∧
        (∀ c, (s.dieLink d p).failedLanes.length = 2 → computeEnd d p = some c → (t.die c).marked = true) ∧
        t.stands = s.stands ∧ s.memoryKept t ∧ t.frame = s.frame))

/-- Checked products and lanes (spec/04 R101 to R105, spec/11 R282 to R288, spec/05 R122, R123, R128): a fault-free tile reports
nothing, a mismatch is counted and recomputed; equal results count an alarm, differing ones confirm a fault of the array with
status 0x0110, and a second mismatch one of the core's shared path with 0x0111; a column whose two newest faults agree is remapped
while its core has no command; a lane fault that comes again is confirmed and its primary value noted for the write; a core's contents
and number move to the spare and back between commands; a tap takes tiles as the arrays write them, in order. The model's own readings:
log entries 23, 24 and 27. -/
def Obligations.IntegrityChecks : Prop :=
  (∀ (s : State) (st tkt : Nat) (tl : TileCheck), s.matRunning st tkt tl.core = none → exec (.scalerCheck st tkt tl) s = .next s) ∧
  (∀ (s : State) (st tkt pc : Nat) (c : Cmd) (tl : TileCheck), s.matRunning st tkt tl.core = some (c, pc) →
    ((tl.devs = [] ∨ (matArgs c.bytes).tileOk s.img.checkInterval (c.single tl.core) tl = false) →
      exec (.scalerCheck st tkt tl) s = .next s) ∧
    (tl.devs ≠ [] → (matArgs c.bytes).tileOk s.img.checkInterval (c.single tl.core) tl = true →
        c.tileMismatch (matArgs c.bytes) (s.core pc).spad s.img.thrProfile tl tl.devs = true →
      ∃ t, exec (.scalerCheck st tkt tl) s = .next t ∧ t.integ.tiles = s.integ.tiles ++ [⟨st, tkt, pc, tl⟩] ∧
        (t.stand st).cmd tkt = some { c with mism := sat16 (c.mism + 1) } ∧
        t.counters.get (kStand st cMatScalerMismatch) = s.counters.get (kStand st cMatScalerMismatch) + 1 ∧
        s.memoryKept t ∧ s.standOnly t st ∧ t.frame = s.frame) ∧
    (tl.devs ≠ [] → (matArgs c.bytes).tileOk s.img.checkInterval (c.single tl.core) tl = true →
        c.tileMismatch (matArgs c.bytes) (s.core pc).spad s.img.thrProfile tl tl.devs = false →
      ∃ t, exec (.scalerCheck st tkt tl) s = .next t ∧ t.integ = s.integ ∧ t.counters = s.counters ∧
        (t.stand st).cmd tkt = some { c with accFaults := c.accFaults ++ c.faultsOf (matArgs c.bytes) tl tl.devs } ∧
        t.hbm = s.hbm ∧ t.mem = s.mem ∧ s.coresOnly t (fun k => k = pc) ∧ s.standOnly t st ∧ t.frame = s.frame)) ∧
  (∀ (s : State) (st tkt : Nat) (devs : List Deviation),
    (∀ f ∈ s.integ.tiles, ¬ (f.stand = st ∧ f.ticket = tkt)) → exec (.recompute st tkt devs) s = .next s) ∧
  (∀ (s : State) (st tkt pc : Nat) (c : Cmd) (f : TileFault) (devs ds : List Deviation) (own : Bool),
      s.integ.tiles.find? (fun f => decide (f.stand = st) && decide (f.ticket = tkt)) = some f →
      s.matRunning st tkt f.tile.core = some (c, pc) →
      own = c.tileMismatch (matArgs c.bytes) (s.core pc).spad s.img.thrProfile f.tile devs →
      ds = devsDiffer (c.realDevs (matArgs c.bytes) (s.core pc).spad f.tile f.tile.devs)
        (c.realDevs (matArgs c.bytes) (s.core pc).spad f.tile devs) →
    ∃ t e, exec (.recompute st tkt devs) s = .next t ∧ t.integ.tiles = s.integ.tiles.erase f ∧ (t.stand st).cmd tkt = some e ∧
      e.recomp = sat16 (c.recomp + 1) ∧ e.mism = sat16 (c.mism + (if own then 1 else 0)) ∧
      t.counters.get (kStand st cMatRecomputes) = s.counters.get (kStand st cMatRecomputes) + 1 ∧
      (ds = [] → e.statuses = c.statuses ∧
        t.counters.get (kStand st cIntThresholdAlarm) = s.counters.get (kStand st cIntThresholdAlarm) + 1) ∧
      (ds ≠ [] → e.statuses = c.statuses ++ [if own then 0x0111 else 0x0110] ∧
        t.counters.get (kStand st cIntFaultConfirmed) = s.counters.get (kStand st cIntFaultConfirmed) + 1) ∧
      (ds ≠ [] → own = true → (st, tkt, f.core, 0) ∈ t.integ.retiring) ∧
      t.hbm = s.hbm ∧ t.mem = s.mem ∧ s.standOnly t st ∧ t.frame = s.frame) ∧
  (∀ (s : State) (u : LaneUnit) (lane st tkt : Nat) (again : Option (LanePlace × BitVec 128)),
    (s.stand st).cmd tkt = none → exec (.laneReexecution u lane again st tkt) s = .next s) ∧
  (∀ (s : State) (u : LaneUnit) (lane st tkt : Nat) (c : Cmd), (s.stand st).cmd tkt = some c →
    (s.laneAt u st c = false → ∀ again, exec (.laneReexecution u lane again st tkt) s = .next s) ∧
    (s.laneAt u st c = true →
      (∃ t, exec (.laneReexecution u lane none st tkt) s = .next t ∧
        (t.stand st).cmd tkt = some { c with mism := sat16 (c.mism + 1), recomp := sat16 (c.recomp + 1) } ∧
        t.counters.get (kStand st u.counter) = s.counters.get (kStand st u.counter) + 1 ∧
        t.hbm = s.hbm ∧ t.mem = s.mem ∧ s.standOnly t st ∧ t.frame = s.frame) ∧
      (∀ (pl : LanePlace) (v : BitVec 128), ∃ t, exec (.laneReexecution u lane (some (pl, v)) st tkt) s = .next t ∧
        (t.stand st).cmd tkt = some { c with
          mism := sat16 (c.mism + 2), recomp := sat16 (c.recomp + 1), statuses := c.statuses ++ [0x0120]
          laneFaults := ⟨u.core?.getD 0, pl, v⟩ :: c.laneFaults } ∧
        t.counters.get (kStand st cIntFaultConfirmed) = s.counters.get (kStand st cIntFaultConfirmed) + 1 ∧
        t.counters.get (kStand st cLaneConfirmed) = s.counters.get (kStand st cLaneConfirmed) + 1 ∧
        t.hbm = s.hbm ∧ t.mem = s.mem ∧ s.standOnly t st ∧ t.frame = s.frame))) ∧
  (∀ (s : State) (g col : Nat),
    (s.alive = true → s.warden.running = true → s.warden.halted = false → s.remapColumn g = some col → s.coreIdle (g / 4) = true →
      exec (.columnRemap g col) s = .next (((s.setArray g { s.array g with
        column := col, remapped := true, faults := (s.array g).faults.drop 2 }).countModule cIntColumnRemapped).wear 0x03 0 g col)) ∧
    ((s.alive = false ∨ s.warden.running = false ∨ s.warden.halted = true ∨ s.remapColumn g ≠ some col ∨
        s.coreIdle (g / 4) = false) → exec (.columnRemap g col) s = .next s)) ∧
  (∀ (s : State) (px r k : Nat), s.alive = true → s.awaitsSpare px r = some k →
    ((s.core (5 * px + 4)).logical = none → (s.core (5 * px + 4)).retired = false → s.coreBetween k = true →
      ∃ t, exec (.coreHandover px r true) s = .next t ∧ (t.core (5 * px + 4)).logical = some r ∧ (t.core k).logical = none ∧
        (t.core (5 * px + 4)).spad = (s.core k).spad ∧ (t.core (5 * px + 4)).batten = (s.core k).batten ∧
        (t.core (5 * px + 4)).kept0 = (s.core k).kept0 ∧ (t.core (5 * px + 4)).kept1 = (s.core k).kept1 ∧
        (t.core (5 * px + 4)).taps = (s.core k).taps ∧ s.coresOnly t (fun j => j = k ∨ j = 5 * px + 4) ∧
        t.hbm = s.hbm ∧ t.mem = s.mem ∧ t.stands = s.stands ∧ t.counters = s.counters ∧ t.frame = s.frame) ∧
    (((s.core (5 * px + 4)).logical ≠ none ∨ (s.core (5 * px + 4)).retired = true ∨ s.coreBetween k = false) →
      exec (.coreHandover px r true) s = .next s)) ∧
  (∀ (s : State) (px r : Nat), s.alive = true → r < 4 → (s.core (5 * px + r)).cruise = true → s.integ.cruise = none →
    (s.coreBetween (5 * px + 4) = false → exec (.coreHandover px r false) s = .next s) ∧
    (s.coreBetween (5 * px + 4) = true → (s.core (5 * px + 4)).logical = some r →
        (∀ j, j < r → (s.core (5 * px + j)).cruise = false) →
      ∃ t, exec (.coreHandover px r false) s = .next t ∧ (t.core (5 * px + r)).logical = some r ∧
        (t.core (5 * px + r)).cruise = false ∧ (t.core (5 * px + 4)).logical = none ∧
        (t.core (5 * px + r)).spad = (s.core (5 * px + 4)).spad ∧ (t.core (5 * px + r)).batten = (s.core (5 * px + 4)).batten ∧
        (t.core (5 * px + r)).kept0 = (s.core (5 * px + 4)).kept0 ∧ (t.core (5 * px + r)).kept1 = (s.core (5 * px + 4)).kept1 ∧
        (t.core (5 * px + r)).taps = (s.core (5 * px + 4)).taps ∧
        s.coresOnly t (fun j => j = 5 * px + r ∨ j = 5 * px + 4) ∧ t.hbm = s.hbm ∧ t.mem = s.mem ∧ t.stands = s.stands ∧
        t.frame = s.frame)) ∧
  (∀ (s : State) (st tkt pc tile : Nat),
    ((s.core pc).taps.find? (fun t => decide (t.stand = st) && decide (t.ticket = tkt)) = none ∨ s.alive = false) →
      exec (.tapTile st tkt pc tile) s = .next s) ∧
  (∀ (s : State) (st tkt pc tile r : Nat) (c : Cmd) (w : Tap) (a : RowArgs), s.alive = true → (s.stand st).cmd tkt = some c →
      (s.core pc).taps.find? (fun t => decide (t.stand = st) && decide (t.ticket = tkt)) = some w → (s.core pc).logical = some r →
      a = rowArgs c.bytes →
    ((a.tiles ≤ tile ∨ s.issueStopped st c = true ∨ (s.stand st).writerOf w a r tile = none) →
      exec (.tapTile st tkt pc tile) s = .next s) ∧
    (∀ (n : Nat) (d : Cmd), tile < a.tiles → s.issueStopped st c = false → (s.stand st).writerOf w a r tile = some (d, n) →
      ((∃ f ∈ s.integ.tiles, f.stand = st ∧ f.ticket = d.ticket) → exec (.tapTile st tkt pc tile) s = .next s) ∧
      ((∀ f ∈ s.integ.tiles, ¬ (f.stand = st ∧ f.ticket = d.ticket)) →
        ((s.core pc).taps = [w] → w.window = [] → tile = w.next → w.next + 1 < a.tiles →
          ∃ t z, exec (.tapTile st tkt pc tile) s = .next t ∧ (t.core pc).taps = [z] ∧ z.next = w.next + 1 ∧ z.window = [] ∧
            z.seen = (d.ticket, tile) :: w.seen ∧
            z.rows = (w.rows.zip (a.tapTile c pc (s.writtenC d r pc) (matArgs d.bytes).descC n tile)).map (fun p =>
              ((combine (val32 p.1.1, val32 p.1.2) (val32 p.2.mt, val32 p.2.lt)).1.code32,
               (combine (val32 p.1.1, val32 p.1.2) (val32 p.2.mt, val32 p.2.lt)).2.code32)) ∧
            (t.core pc).spad = (s.core pc).spad ∧ t.hbm = s.hbm ∧ t.mem = s.mem ∧ s.standOnly t st ∧ t.frame = s.frame) ∧
        ((s.core pc).taps = [w] → w.next < tile → tile < w.next + 16 → (∀ p ∈ w.window, p.1 ≠ tile ∧ p.1 ≠ w.next) →
          ∃ t z, exec (.tapTile st tkt pc tile) s = .next t ∧ (t.core pc).taps = [z] ∧ z.next = w.next ∧ z.rows = w.rows ∧
            z.window = (tile, a.tapTile c pc (s.writtenC d r pc) (matArgs d.bytes).descC n tile) :: w.window ∧
            z.seen = (d.ticket, tile) :: w.seen ∧
            (t.core pc).spad = (s.core pc).spad ∧ t.hbm = s.hbm ∧ t.mem = s.mem ∧ s.standOnly t st ∧ t.frame = s.frame) ∧
        (tile < w.next ∨ w.next + 16 ≤ tile ∨ (∃ p ∈ w.window, p.1 = tile) →
          ∃ t e, exec (.tapTile st tkt pc tile) s = .next t ∧ (t.stand st).cmd tkt = some e ∧ 0x0108 ∈ e.statuses ∧
            t.counters.get (kStand st cBatTapOrder) = s.counters.get (kStand st cBatTapOrder) + 1 ∧
            t.hbm = s.hbm ∧ t.mem = s.mem ∧ s.standOnly t st ∧ t.frame = s.frame))))

/-- Cruise (spec/11 R289 to R293): where nothing holds it back, and the library has verified, the next core of a cluster in rotation
goes out; a run counts, and its core is fresh or retired, or waits for the standby Warden to retire it; a core in service without a run
for 6 h counts as overdue each hour, and marks its die where the cluster has no spare; a landing engine's scan test retires it if it
fails. The model's own readings: log entry 35. -/
def Obligations.CruiseRuns : Prop :=
  (∀ (s : State) (px n : Nat), n = (s.cluster px).rotation →
    ((s.alive = false ∨ s.warden.libraryOk = false ∨ 72 ≤ px ∨ s.dieInService (px / 4) = false ∨ s.integ.cruise ≠ none ∨
        s.spareFree px = false ∨ (s.core (5 * px + 4)).logical ≠ none ∨ s.cruiseWaits px = true) →
      exec (.cruiseStep px) s = .next s) ∧
    (s.alive = true → s.warden.libraryOk = true → px < 72 → s.dieInService (px / 4) = true →
        s.integ.cruise = none → s.spareFree px = true → (s.core (5 * px + 4)).logical = none → s.cruiseWaits px = false →
      ∃ t, exec (.cruiseStep px) s = .next t ∧ t.integ.cruise = some ⟨px, n⟩ ∧ (t.core (5 * px + n)).cruise = true ∧
        (t.cluster px).rotation = (n + 1) % 5 ∧ t.hbm = s.hbm ∧ t.mem = s.mem ∧ t.stands = s.stands ∧
        t.counters = s.counters ∧ t.frame = s.frame)) ∧
  (∀ (s : State) (r : CruiseRun) (c : Nat), s.alive = true → s.integ.cruise = some r → r.core < 5 → c = 5 * r.cluster + r.core →
    (s.cruiseRuns r = false → ∀ ok, exec (.cruiseRunEnd ok) s = .next s) ∧
    (s.cruiseRuns r = true → (∃ d ∈ s.integ.decided, d.1 = c) → ∀ ok, exec (.cruiseRunEnd ok) s = .next s) ∧
    (s.cruiseRuns r = true → (∀ d ∈ s.integ.decided, d.1 ≠ c) →
      (∃ t, exec (.cruiseRunEnd true) s = .next t ∧ t.integ.cruise = none ∧ (t.core c).lastCruise = s.opsec ∧
        (t.core c).overdue = 0 ∧ t.counters.get (kCore c cIntCruiseRuns) = s.counters.get (kCore c cIntCruiseRuns) + 1 ∧
        t.hbm = s.hbm ∧ t.mem = s.mem ∧ t.stands = s.stands ∧ t.frame = s.frame) ∧
      ((s.core c).retired = false →
        ∃ t, exec (.cruiseRunEnd false) s = .next t ∧
          t.counters.get (kCore c cIntCruiseRuns) = s.counters.get (kCore c cIntCruiseRuns) + 1 ∧
          t.counters.get (kCore c cIntCruiseFail) = s.counters.get (kCore c cIntCruiseFail) + 1 ∧
          (s.warden.halted = false → t.integ.cruise = none ∧ (t.core c).retired = true) ∧
          (s.warden.halted = true → t.integ.decided = s.integ.decided ++ [(c, 2)] ∧ t.comp = s.comp) ∧
          t.hbm = s.hbm ∧ t.mem = s.mem ∧ (∀ k, s.clusterOwner r.cluster ≠ some k → t.stand k = s.stand k) ∧
          t.frame = s.frame))) ∧
  (∀ (s : State) (c : Nat),
    ((s.alive = false ∨ 360 ≤ c ∨ s.dieInService (c / 20) = false ∨ (s.core c).serving = false ∨ (s.core c).retired = true ∨
        s.opsec.toNat < (s.core c).overdueAt) → exec (.cruiseOverdue c) s = .next s) ∧
    (s.alive = true → c < 360 → s.dieInService (c / 20) = true → (s.core c).serving = true → (s.core c).retired = false →
        (s.core c).overdueAt ≤ s.opsec.toNat →
      ∃ t, exec (.cruiseOverdue c) s = .next t ∧ (t.core c).overdue = (s.core c).overdue + 1 ∧
        t.counters.get (kModule cIntCruiseOverdue) = s.counters.get (kModule cIntCruiseOverdue) + 1 ∧
        ((s.core c).overdue = 0 → s.spareFree (c / 5) = false → (t.die (c / 20)).marked = true) ∧
        s.coresOnly t (fun k => k = c) ∧ t.hbm = s.hbm ∧ t.mem = s.mem ∧ t.stands = s.stands ∧ t.frame = s.frame)) ∧
  (∀ (s : State) (d e : Nat), s.alive = true → d < s.variant.landDies → e < 16 →
    (s.warden.libraryOk = true → (s.land d).cruise = [] → e ∉ (s.land d).retired →
      exec (.landingCruise d e none) s = .next (s.setLand d { s.land d with cruise := [e] })) ∧
    ((s.warden.libraryOk = false ∨ (s.land d).cruise ≠ [] ∨ e ∈ (s.land d).retired) →
      exec (.landingCruise d e none) s = .next s) ∧
    (e ∉ (s.land d).cruise → ∀ ok, exec (.landingCruise d e (some ok)) s = .next s) ∧
    (e ∈ (s.land d).cruise →
      exec (.landingCruise d e (some true)) s =
        .next ((s.count (kDie (dieOfLanding d) cDieCruiseRuns) 1).setLand d { s.land d with cruise := [] })) ∧
    (e ∈ (s.land d).cruise →
      exec (.landingCruise d e (some false)) s =
        .next (((s.count (kDie (dieOfLanding d) cDieCruiseRuns) 1).setLand d { s.land d with
          cruise := [], retired := (s.land d).retired ++ [e] }).wear 0x0c 2 (16 * d + e) 0)))

/-- Scrub, repair and flume (spec/07 R176, R178, R182, R183, R185, spec/08 R209, spec/11 R295): a clean word changes nothing, a
corrected one is written back and remembered, an uncorrectable SRAM word takes its poison code, and its row's words go with their
corrections to a spare row, or else the core is retired or the die marked; HBM scrub reads each block once in a pass, and its
write-backs are made before its next block, or dropped where a newer write has come; a repair move goes on and ends; buckets refill to
their depths at each NCLK, and a slot that the zone's step opens grants a request that waits and takes from its class's buckets; a burst
sample moves the estimate by an eighth; a block is staged as it stands before a write reaches it. The model's own readings: log
entries 34, 86 and 87. -/
def Obligations.MemoryMaintenance : Prop :=
  (∀ (s : State) (x : SramStore) (w m row : Nat), s.alive = true → w < x.words → (x.place m).1 < 72 →
    ((s.sram x).check w = .clean → exec (.sramScrub x w m row) s = .next s) ∧
    (∀ i v, (s.sram x).check w = .corrected i v → w ∉ (s.sramRows (x.place m)).scrubbed →
      ∃ t, exec (.sramScrub x w m row) s = .next t ∧ t.sram x = (s.sram x).correctWord w ∧
        (t.sramRows (x.place m)).scrubbed = w :: (s.sramRows (x.place m)).scrubbed ∧
        (t.sramRows (x.place m)).spared = (s.sramRows (x.place m)).spared ∧
        t.hbm = s.hbm ∧ t.mem = s.mem ∧ t.stands = s.stands ∧ t.frame = s.frame) ∧
    (∀ i v, (s.sram x).check w = .corrected i v → w ∈ (s.sramRows (x.place m)).scrubbed →
        (s.sramRows (x.place m)).spared.length < 4 →
      ∃ t, exec (.sramScrub x w m row) s = .next t ∧
        t.sram x = (s.rowWords x m row w).foldl Mem.correctWord ((s.sram x).correctWord w) ∧
        (t.sramRows (x.place m)).scrubbed = (s.sramRows (x.place m)).scrubbed.erase w ∧
        (t.sramRows (x.place m)).spared = (s.sramRows (x.place m)).spared ++ [row % 65536] ∧
        t.integ.pending.length = s.integ.pending.length + 1 ∧
        t.hbm = s.hbm ∧ t.mem = s.mem ∧ t.stands = s.stands ∧ t.frame = s.frame) ∧
    ((s.sram x).check w = .uncorrectable → (s.sramRows (x.place m)).spared.length < 4 →
        row % 65536 ∉ (s.sramRows (x.place m)).spared →
      ∃ t, exec (.sramScrub x w m row) s = .next t ∧
        t.sram x = (s.rowWords x m row w).foldl Mem.correctWord ((s.sram x).poison w) ∧
        (t.sramRows (x.place m)).spared = (s.sramRows (x.place m)).spared ++ [row % 65536] ∧
        t.integ.pending.length = s.integ.pending.length + 1 ∧
        t.hbm = s.hbm ∧ t.mem = s.mem ∧ t.stands = s.stands ∧ t.frame = s.frame) ∧
    ((s.sram x).check w = .uncorrectable → 4 ≤ (s.sramRows (x.place m)).spared.length →
        row % 65536 ∉ (s.sramRows (x.place m)).spared → s.warden.halted = false →
      ∃ t, exec (.sramScrub x w m row) s = .next t ∧ (∀ c, x.core? = some c → (t.core c).retired = true) ∧
        (x.core? = none → (t.die (dieOfCluster (x.place m).1)).marked = true) ∧ t.hbm = s.hbm ∧ t.mem = s.mem ∧
        t.frame = s.frame)) ∧
  (∀ (s : State) (d b : Nat), s.alive = true → s.boot.hbmTrained = true → d < s.variant.landDies → b < 2 ^ 28 →
    (inSpans s.mem.scrubbed (2 ^ 28 * d + b) = true → exec (.hbmScrub d b) s = .next s) ∧
    (inSpans s.mem.scrubbed (2 ^ 28 * d + b) = false →
      (s.mem.faults = [] → s.mem.writeBacks = [] → (∀ i, i < 32 → s.hbm.check (hbmKey d (512 * b) / 16 + i) = .clean) →
        (spanCount (addSpan s.mem.scrubbed (2 ^ 28 * d + b)) < scrubBlocks s.variant →
          exec (.hbmScrub d b) s = .next (s.setMem { s.mem with scrubbed := addSpan s.mem.scrubbed (2 ^ 28 * d + b) })) ∧
        (scrubBlocks s.variant ≤ spanCount (addSpan s.mem.scrubbed (2 ^ 28 * d + b)) →
          ∃ t, exec (.hbmScrub d b) s = .next t ∧ t.hbm = s.hbm ∧ t.mem.passes = s.mem.passes + 1 ∧ t.mem.scrubbed = [] ∧
            t.comp = s.comp ∧ t.stands = s.stands ∧ t.frame = s.frame)) ∧
      (∀ j i v w n, j < 32 → w = hbmKey d (512 * b) / 16 + j → n = keyStack (16 * w) → s.mem.faults = [] →
          s.mem.writeBacks = [] → s.hbm.check w = .corrected i v →
          (∀ k, k < 32 → k ≠ j → s.hbm.check (hbmKey d (512 * b) / 16 + k) = .clean) →
        ∃ t, exec (.hbmScrub d b) s = .next t ∧ t.hbm = s.hbm ∧ t.mem.faults = [(w, some i)] ∧
          t.mem.writeBacks = [⟨w, s.hbm.rawWord w, s.hbm.diffAt w⟩] ∧
          t.counters.get (kStack n cMemCorrected) = s.counters.get (kStack n cMemCorrected) + 1 ∧
          t.comp = s.comp ∧ t.stands = s.stands ∧ t.frame = s.frame) ∧
      (∀ (w i n : Nat) (v : Byte) (x : WriteBack), s.mem.faults = [(w, some i)] → s.mem.writeBacks = [x] → x.word = w →
          s.hbm.check w = .corrected i v → n = keyStack (16 * w) → w ∉ (s.stack n).scrubbed →
          (∀ k, k < 32 → s.hbm.check (hbmKey d (512 * b) / 16 + k) = .clean) →
        (x.data = s.hbm.rawWord w → x.diff = s.hbm.diffAt w →
          ∃ t, exec (.hbmScrub d b) s = .next t ∧ t.hbm = s.hbm.correctWord w ∧ t.mem.writeBacks = [] ∧ t.mem.faults = [] ∧
            w ∈ (t.stack n).scrubbed ∧ t.comp = s.comp ∧ t.stands = s.stands ∧ t.frame = s.frame) ∧
        (x.data ≠ s.hbm.rawWord w → s.hbm.isPoison w = false →
          ∃ t, exec (.hbmScrub d b) s = .next t ∧ t.hbm = s.hbm ∧ t.mem.writeBacks = [] ∧ t.mem.faults = [] ∧
            w ∉ (t.stack n).scrubbed ∧
            t.counters.get (kStack n cMemScrubDropped) = s.counters.get (kStack n cMemScrubDropped) + 1 ∧
            t.comp = s.comp ∧ t.stands = s.stands ∧ t.frame = s.frame)))) ∧
  (∀ (s : State) (n words : Nat), s.alive = true → n < s.variant.stacks → (s.stack n).moves = [] →
    exec (.repairMove n words) s = .next s) ∧
  (∀ (s : State) (n words kind id done : Nat) (ms : List (Nat × Nat × Nat)), s.alive = true → n < s.variant.stacks →
      (s.stack n).moves = (kind, id, done) :: ms →
    (done + words < moveSize kind →
      exec (.repairMove n words) s = .next (s.setStack n { s.stack n with moves := (kind, id, done + words) :: ms })) ∧
    (moveSize kind ≤ done + words → s.hbm.diff = [] →
      exec (.repairMove n words) s = .next (s.setStack n { s.stack n with moves := ms }))) ∧
  (∀ (s : State) (d g : Nat), s.pending = [] → s.alive = true → d < s.variant.landDies → g < 66 → (s.gateCfg d g).enabled = true →
      (s.img.gates.map Prod.fst).Nodup →
    ∃ t, step s = .next t ∧
      (t.gate d g).rate = min ((s.gate d g).rate + (s.gateCfg d g).rate * stepQuarters (s.zone d).step)
        ((s.gateDepth d g * 4096).floor.toNat) ∧
      (t.gate d g).floor = min ((s.gate d g).floor + (s.gateCfg d g).floor * stepQuarters (s.zone d).step) 16384) ∧
  (∀ (s t0 : State) (d slot : Nat) (rs : List FlumeReq), s.alive = true → d < s.variant.landDies →
      t0 = s.setLand d { s.land d with
        waiting := (s.land d).waiting ++ rs.filter (fun r => decide (r.gate < 66) && (s.gateCfg d r.gate).enabled) } →
    (slotOpen (s.zone d).step slot = false → exec (.flumeGrant d ⟨slot, rs⟩) s = .next t0) ∧
    (slotOpen (s.zone d).step slot = true → t0.flumePick d (t0.land d).waiting = none → exec (.flumeGrant d ⟨slot, rs⟩) s = .next t0) ∧
    (∀ (r : FlumeReq) (cls : Nat), slotOpen (s.zone d).step slot = true → t0.flumePick d (t0.land d).waiting = some (r, cls) →
      ∃ t, exec (.flumeGrant d ⟨slot, rs⟩) s = .next t ∧ r ∈ (t0.land d).waiting ∧ cls ≤ 2 ∧
        (cls = 0 → r.user.isCopyAhead = true ∨ 4 * r.bytes ≤ (s.gate d r.gate).floor) ∧
        (cls = 1 → 4 * r.bytes ≤ (s.gate d r.gate).rate) ∧
        (t.gate d r.gate).rate = (s.gate d r.gate).rate - (if cls ≤ 1 then 4 * r.bytes else 0) ∧
        (t.gate d r.gate).floor = (s.gate d r.gate).floor - (if cls = 0 then 4 * r.bytes else 0) ∧
        (∀ g, g ≠ r.gate → t.gate d g = s.gate d g) ∧ (t.land d).waiting = (t0.land d).waiting.erase r ∧
        t.hbm = s.hbm ∧ t.comp = s.comp ∧ t.stands = s.stands ∧ t.frame = s.frame)) ∧
  (∀ (s : State) (d g bytes : Nat), s.alive = true → d < s.variant.landDies → g < 66 → (s.gateCfg d g).enabled = true →
    exec (.flumeBurstSample d g bytes true) s = .next (s.setGate d g { s.gate d g with
      est := (s.gate d g).est + ((bytes : Rat) / 1024 - (s.gate d g).est) / 8, samples := min 32 ((s.gate d g).samples + 1) }) ∧
    exec (.flumeBurstSample d g bytes false) s = .next s) ∧
  (∀ (s : State) (d st b : Nat),
    (((s.wantStage d b).contains st = false ∨ 4096 ≤ (s.land d).staged.length) → exec (.copyAhead d st b) s = .next s) ∧
    ((s.wantStage d b).contains st = true → (s.land d).staged.length < 4096 →
      ∃ t m, exec (.copyAhead d st b) s = .next t ∧ t.hbm = s.hbm ∧ (t.land d).stagedMem st b = some m ∧
        (∀ k, hbmKey d (65536 * b) ≤ k → k < hbmKey d (65536 * b) + 65536 → m.read k = s.hbm.read k) ∧
        (t.land d).staged.length = (s.land d).staged.length + 1 ∧
        t.counters.get (kStand st cLndCopyahead) = s.counters.get (kStand st cLndCopyahead) + 1 ∧
        t.comp = s.comp ∧ t.stands = s.stands ∧ t.frame = s.frame))

/-- The reset ladder (spec/13 R334 to R350, R354): a host's or the wait watchdog's context reset discards the context's commands
and completes; a watchdog fires where a command's or the head's obstacle is none of the exempted waits; a hung engine's reset waits for
its commands, and its timeout resets, then fences the engine and starts a stand reset, whose timeout decides a chip reset; a stand reset
leaves the stand empty and its clusters zero; a packet of a discarded context reports CONTEXT_RESET; the two timers ask for a power
cycle; each acts only once its time has passed. The model's own readings: log entries 3, 57, 58, 60 and 62. -/
def Obligations.ResetLadder : Prop :=
  (∀ (s : State) (l : LinkId) (st ctx : Nat), s.reaches l = false →
    exec (.contextResetRequest l st ctx) s = .next s ∧ exec (.standResetRequest l st) s = .next s) ∧
  (∀ (s : State) (l : LinkId) (st ctx : Nat), s.reaches l = true →
    (s.requestOk l st = true → bit (s.cfg st).contexts.toNat ctx = true → ctx < 16 → (s.stand st).rst.covers ctx none = false →
      ∃ t, exec (.contextResetRequest l st ctx) s = .next t ∧ (t.stand st).rst.last = 1 ∧ (t.stand st).rst.cause = 3 ∧
        (t.stand st).rst.ctx = ctx ∧
        (∀ c ∈ (s.stand st).inflight, s.inReset st ctx c = true → (t.stand st).cmd c.ticket = none) ∧
        t.counters.get (kStand st cRstContext) = s.counters.get (kStand st cRstContext) + 1 ∧
        ((∀ c ∈ (s.stand st).inflight, s.inReset st ctx c = false) → t.hbm = s.hbm) ∧ t.frame = s.frame) ∧
    (s.requestOk l st = true → bit (s.cfg st).contexts.toNat ctx = true → ctx < 16 → (s.stand st).rst.covers ctx none = true →
      exec (.contextResetRequest l st ctx) s = .next s) ∧
    ((s.requestOk l st = false ∨ bit (s.cfg st).contexts.toNat ctx = false ∨ 16 ≤ ctx) →
      exec (.contextResetRequest l st ctx) s = .next (s.countModule cRstReqIgnored)) ∧
    (s.requestOk l st = true → (∀ a ∈ (s.stand st).rst.active, a.rung ≠ 3) →
      ∃ t b, exec (.standResetRequest l st) s = .next t ∧ (t.stand st).rst.active = (s.stand st).rst.active ++
          [⟨3, 0, .host, none, [], s.clock.now, b⟩] ∧ (t.stand st).rst.masked = true ∧
        (t.stand st).inflight = (s.stand st).inflight ∧
        (t.stand st).chute = (s.stand st).chute ∧ s.memoryKept t ∧ s.standOnly t st ∧ t.frame = s.frame) ∧
    (s.requestOk l st = true → (∃ a ∈ (s.stand st).rst.active, a.rung = 3) → exec (.standResetRequest l st) s = .next s) ∧
    (s.requestOk l st = false → exec (.standResetRequest l st) s = .next (s.countModule cRstReqIgnored))) ∧
  (∀ (s : State) (st : Nat),
    ((s.alive = false ∨ (s.stand st).headDiscarded = false ∨ (s.stand st).freeSlot = none) → exec (.headDiscard st) s = .next s) ∧
    (∀ (n : Nat) (p : Packet) (ps : List Packet), s.alive = true → (s.stand st).chute.packets = p :: ps →
        (s.stand st).freeSlot = some n → (s.stand st).headDiscarded = true →
      ∃ t, exec (.headDiscard st) s = .next t ∧ (t.stand st).chute.packets = ps ∧
        (t.stand st).slot n = ⟨.ready, BitVec.ofNat 32 (fld p.bytes 8 4), 6, nextGen ((s.stand st).slot n).gen,
          bits (fld p.bytes 4 1) 3 0, fld p.bytes 0 1, []⟩ ∧
        (∀ m, m ≠ n → (t.stand st).slot m = (s.stand st).slot m) ∧ (t.stand st).cursor = (n + 1) % 256 ∧
        (t.stand st).inflight = (s.stand st).inflight ∧ (t.stand st).evt = (s.stand st).evt ∧ s.standOnly t st ∧
        s.unitsKept t)) ∧
  (∀ (s : State) (st : Nat), s.alive = true → (s.cfg st).enabled = true →
    (((s.stand st).chute.packets = [] ∧ (s.stand st).chute.part = none ∨ s.frontPaused st = true) →
      exec (.engineWatchdog st .frontend) s = .next s) ∧
    (((s.stand st).chute.packets ≠ [] ∨ (s.stand st).chute.part ≠ none) → s.frontPaused st = false →
        (∀ a ∈ (s.stand st).rst.active, a.rung ≠ 3) →
      ∃ t b, exec (.engineWatchdog st .frontend) s = .next t ∧ (t.stand st).rst.active = (s.stand st).rst.active ++
          [⟨3, 0, .frontWdt, none, [], s.clock.now, b⟩] ∧
        t.counters.get (kStand st cRstWdtFrontend) = s.counters.get (kStand st cRstWdtFrontend) + 1 ∧ s.memoryKept t ∧
        s.standOnly t st ∧ t.frame = s.frame) ∧
    (∀ e : EngineId, e ≠ .frontend →
      (((s.onEngine st e).filter (fun c => !s.cmdPaused st c) = []) → exec (.engineWatchdog st e) s = .next s) ∧
      (∀ (c : Cmd) (cs : List Cmd), (s.onEngine st e).filter (fun c => !s.cmdPaused st c) = c :: cs →
        ((s.stand st).rst.covers c.context (some e) = true → exec (.engineWatchdog st e) s = .next s) ∧
        ((s.stand st).rst.covers c.context (some e) = false → s.inReset st c.context c = true →
          ∃ t a, exec (.engineWatchdog st e) s = .next t ∧ a ∈ (t.stand st).rst.active ∧ a.rung = 1 ∧ a.ctx = c.context ∧
            a.engine = some e ∧ a.cause = .engineWdt ∧ c.ticket ∈ a.stuck ∧ a.started = s.clock.now ∧
            t.counters.get (kStand st cRstWdtEngine) = s.counters.get (kStand st cRstWdtEngine) + 1 ∧ t.frame = s.frame))) ∧
    ((s.stand st).headWaits = none → exec (.waitWatchdog st) s = .next s) ∧
    (∀ ctx, (s.stand st).headWaits = some ctx →
      ((s.clock.now.toNat < (s.stand st).chute.headAt.toNat + s.img.waitLimitMs * 1000000 ∨
          (s.stand st).rst.covers ctx none = true) → exec (.waitWatchdog st) s = .next s) ∧
      ((s.stand st).chute.headAt.toNat + s.img.waitLimitMs * 1000000 ≤ s.clock.now.toNat →
          (s.stand st).rst.covers ctx none = false →
        ∃ t, exec (.waitWatchdog st) s = .next t ∧ (t.stand st).rst.last = 1 ∧ (t.stand st).rst.cause = 1 ∧
          (t.stand st).rst.ctx = ctx ∧
          (∀ c ∈ (s.stand st).inflight, s.inReset st ctx c = true → (t.stand st).cmd c.ticket = none) ∧
          t.counters.get (kStand st cRstWdtWait) = s.counters.get (kStand st cRstWdtWait) + 1 ∧ t.frame = s.frame))) ∧
  (∀ (s : State) (st : Nat), (s.stand st).rst.top = none → exec (.rungTimeout st) s = .next s) ∧
  (∀ (s : State) (st : Nat) (a : Rung), s.alive = true → (s.stand st).rst.top = some a →
    (s.clock.now.toNat < a.started.toNat + rungLimitNs a.rung → exec (.rungTimeout st) s = .next s) ∧
    (a.started.toNat + rungLimitNs a.rung ≤ s.clock.now.toNat →
      (∀ e, a.rung = 1 → a.engine = some e →
        ∃ t b, exec (.rungTimeout st) s = .next t ∧ b ∈ (t.stand st).rst.active ∧ b.rung = 2 ∧ b.engine = some e ∧
          b.cause = .escalation ∧ b.started = s.clock.now ∧ t.frame = s.frame) ∧
      (∀ e, a.rung = 2 → a.engine = some e →
        ∃ t b, exec (.rungTimeout st) s = .next t ∧ e ∈ t.integ.fenced ∧ b ∈ (t.stand st).rst.active ∧ b.rung = 3 ∧
          b.cause = .escalation ∧
          t.counters.get (kStand st cRstEngineFenced) = s.counters.get (kStand st cRstEngineFenced) + 1 ∧ t.hbm = s.hbm ∧
          t.frame = s.frame) ∧
      (a.rung = 3 → s.rst.pendingCause = none →
        ∃ t, exec (.rungTimeout st) s = .next t ∧ t.rst.pendingCause = some 1 ∧ t.rst.decidedAt = s.clock.now ∧
          t.stands = s.stands ∧ s.memoryKept t ∧ t.frame = s.frame))) ∧
  (∀ (s : State) (st : Nat), (s.alive = false ∨ ∀ a ∈ (s.stand st).rst.active, a.rung ≠ 3) → exec (.standReset st) s = .next s) ∧
  (∀ (s : State) (st : Nat) (a : Rung), s.alive = true →
      (s.stand st).rst.active.find? (fun a => decide (a.rung = 3)) = some a →
    ∃ t, exec (.standReset st) s = .next t ∧ (t.stand st).rst.last = 3 ∧ (t.stand st).rst.active = [] ∧
      (t.stand st).rst.masked = true ∧ (t.stand st).inflight = [] ∧ (t.stand st).chute.packets = [] ∧ (t.stand st).colls = [] ∧
      (t.stand st).contribs = [] ∧ (t.stand st).ledger = [] ∧ (t.stand st).carries = [] ∧
      (∀ px ∈ s.standClusters st, (t.cluster px).scratch = Mem.empty ∧ ∀ k, k < 5 → (t.core (5 * px + k)).spad = Mem.empty) ∧
      t.counters.get (kStand st cRstStand) = s.counters.get (kStand st cRstStand) + 1 ∧
      ((s.stand st).inflight = [] → t.hbm = s.hbm) ∧ t.frame = s.frame) ∧
  (∀ (s : State) (st n : Nat),
    (s.alive = false ∨ (∀ a ∈ (s.stand st).rst.active, a.sampling = false ∨
        s.clock.now.toNat < a.started.toNat + sampleBoxNs a.rung)) → exec (.sampleBoxExpire st n) s = .next s) ∧
  (∀ (s : State) (st n : Nat) (a : Rung) (y : Sample) (ys : List Sample), s.alive = true → a ∈ (s.stand st).rst.active →
      a.sampling = true → a.started.toNat + sampleBoxNs a.rung ≤ s.clock.now.toNat → s.rst.samples = y :: ys → y.stand = st →
    ∃ t, exec (.sampleBoxExpire st n) s = .next t ∧
      t.rst.samples = { y with incomplete := true, bytes := min y.bytes n } :: ys ∧
      (∀ a ∈ (t.stand st).rst.active, a.sampling = false) ∧
      t.counters.get (kStand st cRstSampleAbandoned) = s.counters.get (kStand st cRstSampleAbandoned) + 1 ∧
      s.memoryKept t ∧ s.standOnly t st ∧ t.frame = s.frame) ∧
  (∀ s : State, (s.rst.pendingCause = none ∨ s.clock.now.toNat < s.rst.decidedAt.toNat + 2500000000) →
    exec .chipResetTimer s = .next s) ∧
  (∀ (s : State) (c : Nat), s.rst.pendingCause = some c → s.alive = true → s.power.cycleReq = false →
      s.rst.decidedAt.toNat + 2500000000 ≤ s.clock.now.toNat →
    ∃ t, exec .chipResetTimer s = .next t ∧ t.power = { s.power with cycleReq := true } ∧ t.stands = s.stands ∧ s.memoryKept t ∧
      t.boot = s.boot ∧ t.rst = s.rst) ∧
  (∀ s : State, s.warden.deadline = none → exec .deadlineTimer s = .next s) ∧
  (∀ (s : State) (w : W64), s.alive = true → s.warden.deadline = some w →
    (s.clock.now.toNat < w.toNat + 5000000000 → exec .deadlineTimer s = .next s) ∧
    (w.toNat + 5000000000 ≤ s.clock.now.toNat → s.power.cycleReq = false →
      ∃ t, exec .deadlineTimer s = .next t ∧ t.power = { s.power with cycleReq := true } ∧ t.stands = s.stands ∧ s.memoryKept t ∧
        t.boot = s.boot ∧ t.rst = s.rst)) ∧
  (∀ s : State, (s.served = true → exec .deadlineRearm s = .next (s.setWarden { s.warden with deadline := some s.clock.now })) ∧
    (s.served = false → exec .deadlineRearm s = .next s)) ∧
  (∀ (s : State) (scan : List (Nat × Bool)), (s.rst.pendingCause = none ∨ s.alive = false ∨ s.rst.running = true) →
    exec (.chipReset scan) s = .next s) ∧
  (∀ (s : State) (c : Nat) (scan : List (Nat × Bool)), s.rst.pendingCause = some c → s.alive = true → s.rst.running = false →
    ∃ t, exec (.chipReset scan) s = .next t ∧ t.rst.running = true ∧ t.rst.cause = c ∧ t.stands = [] ∧
      t.boot.imageVerified = false ∧ t.boot.hbmTrained = false ∧ t.boot.standsReady = false ∧ t.img = ImageCfg.absent ∧
      t.power.good = s.power.good ∧ t.power.p = s.power.p ∧ t.clock.now = s.clock.now ∧ t.pending = s.pending ∧
      t.variant = s.variant ∧
      ((∀ st, st < 64 → (s.stand st).inflight = []) →
        t.hbm = s.hbm ∧ t.flash.wear = s.flash.wear ++ s.integ.pending))

/-- Start-up (spec/14 R357 to R361, R366, spec/15 R374, R375, R377, R380): mask ROM starts the firmware of the first slot whose trailer
is signed for it, or of the other, or stays in recovery; a spent trial slot is cleared and passed over; a verified image takes force,
that of the other slot where the first fails, and where both fail a power cycle is asked for; units not found are a start-up fault;
memory trains to zero, or over a chip reset keeps its contents; the stands are ready once everything before them is and no fault holds.
The model's own readings: log entries 63, 64 and 92. -/
def Obligations.StartUp : Prop :=
  (∀ (s : State) (puf : Nat) (sa sb : SigRead), (s.alive = false ∨ s.warden.running = true ∨ s.warden.halted = true) →
    exec (.maskRomBoot puf sa sb) s = .next s) ∧
  (∀ (s u : State) (puf a : Nat) (sa sb : SigRead) (ok : Nat → Bool), s.alive = true → s.warden.running = false →
      s.warden.halted = false → u = s.chooseWarden.reconstruct puf → a = u.flash.firstOf fwBase → a < 2 →
      (∀ k, ok k = s.signedFor (fwBase k) .firmware (if k = 0 then sa else sb)) → u.spent (fwBase (1 - a)) (·.fw (1 - a)) = false →
    (u.spent (fwBase a) (·.fw a) = false → u.fwVerdict a (ok a) = 0 →
      ∃ t, exec (.maskRomBoot puf sa sb) s = .next t ∧ t.warden.running = true ∧ t.warden.deadline = some s.clock.now ∧
        t.warden.identity = decide (1 ≤ puf ∧ puf ≤ 4) ∧ t.boot.fwSlot = a ∧ t.boot.fwFallback = false ∧
        t.stands = s.stands ∧ s.memoryKept t ∧ t.power = s.power ∧ t.img = s.img ∧ t.pending = s.pending) ∧
    (u.spent (fwBase a) (·.fw a) = false → u.fwVerdict a (ok a) ≠ 0 → u.fwVerdict (1 - a) (ok (1 - a)) = 0 →
      ∃ t, exec (.maskRomBoot puf sa sb) s = .next t ∧ t.warden.running = true ∧ t.boot.fwSlot = 1 - a ∧ t.boot.fwFallback = true ∧
        t.counters.get (kModule cBootFwFallback) = s.counters.get (kModule cBootFwFallback) + 1 ∧
        t.stands = s.stands ∧ s.memoryKept t ∧ t.power = s.power ∧ t.img = s.img ∧ t.pending = s.pending) ∧
    (u.spent (fwBase a) (·.fw a) = true → u.fwVerdict (1 - a) (ok (1 - a)) = 0 →
      ∃ t, exec (.maskRomBoot puf sa sb) s = .next t ∧ t.warden.running = true ∧ t.boot.fwSlot = 1 - a ∧ t.boot.fwFallback = true ∧
        t.flash.magic (fwBase a) = 0 ∧ t.counters.get (kModule cWdnRollback) = s.counters.get (kModule cWdnRollback) + 1 ∧
        t.stands = s.stands ∧ s.memoryKept t ∧ t.power = s.power ∧ t.img = s.img ∧ t.pending = s.pending) ∧
    (u.spent (fwBase a) (·.fw a) = false → u.fwVerdict a (ok a) ≠ 0 → u.fwVerdict (1 - a) (ok (1 - a)) ≠ 0 →
      ∃ t, exec (.maskRomBoot puf sa sb) s = .next t ∧ t.warden.running = false ∧ t.warden.recovery = true ∧ t.boot = s.boot ∧
        t.stands = s.stands ∧ s.memoryKept t ∧ t.power = s.power ∧ t.img = s.img ∧ t.pending = s.pending)) ∧
  (∀ (s : State) (ra rb : Bool) (sa sb lib : SigRead) (missing : List Nat) (scan : List (Nat × Bool)),
    (s.served = false ∨ s.boot.imageVerified = true ∨ s.power.cycleReq = true) →
      exec (.imageVerify ra rb sa sb missing scan lib) s = .next s) ∧
  (∀ (s : State) (a : Nat) (ra rb : Bool) (sa sb lib : SigRead) (missing : List Nat) (scan : List (Nat × Bool))
      (v : Nat → Nat × Nat × Nat), s.alive = true → s.warden.running = true → s.warden.halted = false →
      s.boot.imageVerified = false → s.power.cycleReq = false → a = s.flash.firstOf imgBase → a < 2 →
      s.spent (imgBase 0) (·.imgSlot 0) = false → s.spent (imgBase 1) (·.imgSlot 1) = false →
      (∀ k, v k = s.flash.verifyImage s.variant k (if k = 0 then ra else rb)
        (s.signedFor (imgBase k) .image (if k = 0 then sa else sb))) →
    ((v a).1 = 0 →
      ∃ t, exec (.imageVerify ra rb sa sb missing scan lib) s = .next t ∧ t.boot.imageVerified = true ∧ t.boot.slot = a ∧
        t.img = (s.flash.sections s.variant (imgBase a)).config s.variant ∧
        t.warden.libraryOk = s.signedFor libBase .library lib ∧
        t.boot.hbmTrained = s.boot.hbmTrained ∧ t.boot.standsReady = s.boot.standsReady ∧
        ((∃ n ∈ missing ++ s.unpowered, n ∉ s.boot.missing) → t.boot.fault ≠ 0) ∧
        (∀ n ∈ missing ++ s.unpowered, n ∈ t.boot.missing) ∧
        (missing = [] → s.unpowered = [] → scan = [] → (∀ d, d < 18 → (s.die d).marked = false) →
          t.boot.fault = s.boot.fault ∧ s.memoryKept t) ∧
        t.stands = s.stands ∧ t.pending = s.pending) ∧
    ((v a).1 ≠ 0 → (v (1 - a)).1 = 0 →
      ∃ t, exec (.imageVerify ra rb sa sb missing scan lib) s = .next t ∧ t.boot.imageVerified = true ∧ t.boot.slot = 1 - a ∧
        t.boot.imgFallback = true ∧ t.boot.failOther = (v a).1 ∧ t.boot.section_ = (v a).2.1 ∧ t.boot.entry = (v a).2.2 ∧
        t.img = (s.flash.sections s.variant (imgBase (1 - a))).config s.variant ∧
        t.counters.get (kModule cBootImageFallback) = s.counters.get (kModule cBootImageFallback) + 1 ∧
        t.stands = s.stands ∧ t.pending = s.pending) ∧
    ((v a).1 ≠ 0 → (v (1 - a)).1 ≠ 0 →
      ∃ t, exec (.imageVerify ra rb sa sb missing scan lib) s = .next t ∧ t.boot = s.boot ∧ t.img = s.img ∧
        t.power = { s.power with cycleReq := true } ∧
        t.counters.get (kModule cBootImageFallback) = s.counters.get (kModule cBootImageFallback) + 1 ∧
        t.stands = s.stands ∧ s.memoryKept t ∧ t.pending = s.pending)) ∧
  (∀ (s : State) (failed : List Nat),
    ((s.alive = false ∨ s.boot.imageVerified = false ∨ s.boot.hbmTrained = true) → exec (.hbmTrained failed) s = .next s) ∧
    (s.alive = true → s.boot.imageVerified = true → s.boot.hbmTrained = false →
      ((∀ n ∈ failed, s.variant.stacks ≤ n) →
        ∃ t, exec (.hbmTrained failed) s = .next t ∧ t.boot.hbmTrained = true ∧
          (∀ n, n < s.variant.stacks → (t.stack n).trained = true) ∧
          t.hbm = (if s.rst.running then s.hbm else Mem.empty) ∧ t.comp = s.comp ∧ t.stands = s.stands ∧ t.power = s.power ∧
          t.img = s.img ∧ t.boot.standsReady = s.boot.standsReady ∧ t.pending = s.pending) ∧
      ((∃ n ∈ failed, n < s.variant.stacks) → s.boot.fault = 0 →
        ∃ t, exec (.hbmTrained failed) s = .next t ∧ t.boot = { s.boot with fault := 2 } ∧
          (∀ n, n < s.variant.stacks → (t.stack n).trained = !failed.contains n) ∧ t.comp = s.comp ∧ t.stands = s.stands ∧
          t.power = s.power ∧ t.img = s.img ∧ t.pending = s.pending))) ∧
  (∀ s : State,
    ((s.alive = false ∨ s.boot.imageVerified = false ∨ s.boot.hbmTrained = false ∨ s.boot.fabricReady = false ∨
        s.boot.fault ≠ 0 ∨ s.boot.standsReady = true) → exec .standsReady s = .next s) ∧
    (s.alive = true → s.boot.imageVerified = true → s.boot.hbmTrained = true → s.boot.fabricReady = true → s.boot.fault = 0 →
        s.boot.standsReady = false →
      ∃ t, exec .standsReady s = .next t ∧ t.boot = { s.boot with standsReady := true, tStands := s.bootMs } ∧
        t.rst.running = false ∧ (s.rst.running = true → t.rst.pendingCause = none) ∧
        (∀ st, st < 64 → (s.cfg st).enabled = true → t.stand st = { s.stand st with recovery := true }) ∧
        (∀ c, c < 360 → s.dieInService (dieOfCore c) = true → (t.core c).serving = true ∧
          ((s.core c).serving = true → (t.core c).lastCruise = (s.core c).lastCruise)) ∧
        t.hbm = s.hbm ∧ t.img = s.img ∧ t.pending = s.pending))

/-- The Wardens and the flash (spec/15 R373, R374, R386, R388, spec/11 R288, R297): a lockstep mismatch halts and retires the
active Warden, the standby takes over with what was left undecided, or is itself retired; the oldest staged event, wear entry or capture
is copied to the flash, and a full wear ledger is compacted. The model's own readings: log entry 66. -/
def Obligations.WardensAndFlash : Prop :=
  (∀ s : State, (s.served = false → exec .lockstepMismatch s = .next s) ∧ (s.served = true →
    exec .lockstepMismatch s = .next ((s.setFlash { s.flash with retired := s.flash.retired ++ [s.warden.active] }).setWarden
      { s.warden with halted := true, standby := if s.warden.standby = .ready then .starting else s.warden.standby }))) ∧
  (∀ s : State, (s.alive = false ∨ s.warden.halted = false ∨ s.warden.standby ≠ .starting) →
    exec .wardenTakeover s = .next s) ∧
  (∀ s : State, s.alive = true → s.warden.halted = true → s.warden.standby = .starting →
    ∃ t, exec .wardenTakeover s = .next t ∧ t.warden.active = 1 - s.warden.active ∧ t.warden.halted = false ∧
      t.warden.standby = .retired ∧ t.warden.deadline = some s.clock.now ∧ t.warden.update = .idle ∧
      (∀ k, k < 3 → t.warden.spdm.get 0 k = spdmLost) ∧
      t.counters.get (kModule cWdnTakeover) = s.counters.get (kModule cWdnTakeover) + 1 ∧
      (∀ d ∈ s.integ.decided, (t.core d.1).retired = true) ∧ t.integ.decided = [] ∧
      (∀ c, Decision.chipReset c ∈ s.flash.journal → t.rst.pendingCause ≠ none) ∧ t.flash.journal = [] ∧
      (s.integ.decided = [] → t.integ.pending.length = s.integ.pending.length + 1 ∧ t.stands = s.stands ∧ s.memoryKept t) ∧
      t.hbm = s.hbm ∧ t.frame = s.frame) ∧
  (∀ s : State, ((s.alive = false ∨ s.warden.running = false ∨ s.warden.standby = .retired) → exec .standbyFault s = .next s) ∧
    (s.alive = true → s.warden.running = true → s.warden.standby ≠ .retired →
      ∃ t, exec .standbyFault s = .next t ∧ t.warden.standby = .retired ∧ t.warden.active = s.warden.active ∧
        t.flash.retired = s.flash.retired ++ [1 - s.warden.active] ∧
        t.counters.get (kModule cWdnStandbyFault) = s.counters.get (kModule cWdnStandbyFault) + 1 ∧ t.stands = s.stands ∧
        s.memoryKept t ∧ t.frame = s.frame)) ∧
  (∀ s : State, (s.integ.pending = [] ∨ s.warden.running = false ∨ 32768 ≤ s.flash.wear.length) →
    exec .wearLedgerWrite s = .next s) ∧
  (∀ (s : State) (e : WearEntry) (es : List WearEntry), s.alive = true → s.warden.running = true → s.integ.pending = e :: es →
      s.flash.wear.length < 32768 →
    exec .wearLedgerWrite s = .next (((s.setInteg { s.integ with pending := es }).setFlash
      { s.flash with wear := s.flash.wear ++ [e] }).countModule cIntLedgerWrites)) ∧
  (∀ s : State, (s.flash.wear.length < 32768 → exec .ledgerCompact s = .next s) ∧
    (s.alive = true → s.warden.running = true → 32768 ≤ s.flash.wear.length →
      exec .ledgerCompact s = .next ((s.setFlash { s.flash with
        wear := s.flash.wear.filter s.keepsEntry }).countModule cIntLedgerCompact))) ∧
  (∀ (s : State) (i : Nat), s.integ.captures[i]? = none → exec (.captureCopy i) s = .next s) ∧
  (∀ (s : State) (i : Nat) (x : Capture), s.alive = true → s.warden.running = true → s.integ.captures[i]? = some x →
    (x ∉ s.flash.supplement →
      exec (.captureCopy i) s = .next (s.setFlash { s.flash with supplement := (x :: s.flash.supplement).take 8 })) ∧
    (x ∈ s.flash.supplement → exec (.captureCopy i) s = .next s)) ∧
  (∀ s : State, (s.served = false ∨ s.warden.staged = []) → exec .eventLogCopy s = .next s) ∧
  (∀ (s : State) (e : EvLog) (es : List EvLog), s.served = true → s.warden.staged = e :: es →
    (s.flash.log.length < 1048576 →
      exec .eventLogCopy s = .next (((s.setFlash { s.flash with log := s.flash.log ++ [e] }).setWarden
        { s.warden with staged := es }).countModule cWdnEvlogWritten)) ∧
    (1048576 ≤ s.flash.log.length →
      exec .eventLogCopy s = .next ((((s.setFlash { s.flash with log := s.flash.log.drop 1 ++ [e] }).setWarden
        { s.warden with staged := es }).countModule cWdnEvlogWritten).countModule cWdnEvlogOverwritten)))

/-- Management over the sidebands (spec/15 R375, R380 to R385, spec/16 Table 16-16): sensors and the I3C address take what they are
given, and a junction sensor shows in THM_DIE; SPDM negotiates in order and then answers with the certificate chain, a signature or the
measurements, and refuses without identity; an update is taken from one agent, written into the slot not in use after what waits for the
flash, verified, and activated, in recovery by starting it. The model's own readings: log entries 67, 68, 69 and 93. -/
def Obligations.Management : Prop :=
  (∀ (s : State) (n : Nat) (r : Int),
    ((s.served = false ∨ n ∉ sensorIds ∨ sensorPresent s.variant n = false) → exec (.sensorSample n r) s = .next s) ∧
    (s.served = true → n ∈ sensorIds → sensorPresent s.variant n = true →
      (0x200 ≤ n → exec (.sensorSample n r) s = .next (s.setWarden { s.warden with sensors := s.warden.sensors.set n r })) ∧
      (∀ d, n < 0x200 → d = (n - 0x100) / 4 →
        ∃ t, exec (.sensorSample n r) s = .next t ∧ t.warden = { s.warden with sensors := s.warden.sensors.set n r } ∧
          (∀ v : Int, (∃ m k, m < 4 ∧ t.sensor (0x100 + 4 * d + m) = some k ∧ v = k / 8) →
            (∀ m k, m < 4 → t.sensor (0x100 + 4 * d + m) = some k → k / 8 ≤ v) → (t.die d).tj = (v + 64).toNat % 256) ∧
          (∀ e, e ≠ d → t.die e = s.die e) ∧ t.stands = s.stands ∧ s.memoryKept t ∧ t.frame = s.frame))) ∧
  (∀ s : State, (s.served = true ∨ (s.alive = true ∧ s.warden.recovery = true)) →
    (∀ a : Nat, a < 128 → exec (.entdaa a) s = .next (s.setWarden { s.warden with da := a })) ∧
    (∀ (c : Nat) (d : List Byte), ∃ t r, exec (.mctpControlMessage c d) s = .next t ∧
      t.warden = { s.warden with eid := if c = 1 ∧ fld d 0 1 ≤ 1 ∧ 8 ≤ fld d 1 1 ∧ fld d 1 1 < 255 then fld d 1 1
        else s.warden.eid } ∧
      t.sent = s.sent ++ [.i3c r] ∧ t.stands = s.stands ∧ s.memoryKept t ∧ t.frame = s.frame)) ∧
  (∀ s : State, s.served = false → s.warden.recovery = false → ∀ (a c : Nat) (d : List Byte),
    exec (.entdaa a) s = .next s ∧ exec (.mctpControlMessage c d) s = .next s) ∧
  (∀ (s : State) (via : Nat), s.spdmServes via = false → ∀ (i k o n : Nat) (b : Bool) (d : List Byte),
    exec (.spdmNegotiation via k d) s = .next s ∧ exec (.getCertificate via k o n) s = .next s ∧
      exec (.challenge via d) s = .next s ∧ exec (.getMeasurements via i b d) s = .next s) ∧
  (∀ (s : State) (via : Nat) (d : List Byte), s.spdmServes via = true →
    (s.spdmStage via = spdmLost → ∀ (i k o n : Nat) (b : Bool) (c : Instr),
        c ∈ [Instr.spdmNegotiation via k d, .getCertificate via k o n, .challenge via d, .getMeasurements via i b d] →
      exec c s = .next ((((s.setSpdm via 0).send (.spdm via true [0x43])).countModule cWdnSpdmRequests).countModule
        cWdnSpdmErrors)) ∧
    (s.spdmStage via ≠ spdmLost →
      (∃ t r, exec (.spdmNegotiation via 0x84 d) s = .next t ∧ t.spdmStage via = 1 ∧ t.sent = s.sent ++ [.spdm via false r] ∧
        t.stands = s.stands ∧ s.memoryKept t ∧ t.frame = s.frame) ∧
      (1 ≤ s.spdmStage via →
        ∃ t r, exec (.spdmNegotiation via 0xe1 d) s = .next t ∧ t.spdmStage via = 2 ∧ t.sent = s.sent ++ [.spdm via false r] ∧
          t.stands = s.stands ∧ s.memoryKept t ∧ t.frame = s.frame) ∧
      (2 ≤ s.spdmStage via →
        ∃ t r, exec (.spdmNegotiation via 0xe3 d) s = .next t ∧ t.spdmStage via = 3 ∧ t.sent = s.sent ++ [.spdm via false r] ∧
          t.stands = s.stands ∧ s.memoryKept t ∧ t.frame = s.frame) ∧
      (∀ (i k o n : Nat) (b : Bool) (c : Instr), s.spdmStage via < 3 →
          (c ∈ [Instr.getCertificate via k o n, .challenge via d, .getMeasurements via i b d] ∨
            c = .spdmNegotiation via 0xe3 d ∧ s.spdmStage via < 2 ∨ c = .spdmNegotiation via 0xe1 d ∧ s.spdmStage via < 1) →
        exec c s = .next (((s.send (.spdm via true [0x04])).countModule cWdnSpdmRequests).countModule cWdnSpdmErrors)) ∧
      (∀ k, k ≠ 0x84 → k ≠ 0xe1 → k ≠ 0xe3 →
        exec (.spdmNegotiation via k d) s = .next (((s.send (.spdm via true [0x07])).countModule cWdnSpdmRequests).countModule
          cWdnSpdmErrors)))) ∧
  (∀ (s : State) (via : Nat), s.spdmServes via = true → 3 ≤ s.spdmStage via → s.spdmStage via ≠ spdmLost →
    (∀ k o n, s.warden.identity = true →
      exec (.getCertificate via k o n) s = .next (if k = 0 ∧ o < Config.deviceChain.length then
          (s.send (.spdm via false ((Config.deviceChain.drop o).take n))).countModule cWdnSpdmRequests
        else ((s.send (.spdm via true [0x01])).countModule cWdnSpdmRequests).countModule cWdnSpdmErrors)) ∧
    (∀ k o n, s.warden.identity = false →
      exec (.getCertificate via k o n) s = .next (((s.send (.spdm via true [0x05])).countModule cWdnSpdmRequests).countModule
        cWdnSpdmErrors)) ∧
    (∀ nonce, s.warden.identity = true →
      ∃ t b, exec (.challenge via nonce) s = .next t ∧
        t.sent = s.sent ++ [.spdm via false (b ++ Config.signature (nonce ++ b))] ∧
        t.counters.get (kModule cWdnSpdmRequests) = s.counters.get (kModule cWdnSpdmRequests) + 1 ∧
        t.stands = s.stands ∧ s.memoryKept t ∧ t.frame = s.frame) ∧
    (∀ nonce, s.warden.identity = false →
      exec (.challenge via nonce) s = .next (((s.send (.spdm via true [0x05])).countModule cWdnSpdmRequests).countModule
        cWdnSpdmErrors)) ∧
    (∀ i nonce b, (i ≤ 6 ∨ i = 0xff) →
        b = (if i = 0 then [6] else if i = 0xff then ([1, 2, 3, 4, 5, 6].map s.measurement).flatten else s.measurement i) →
      exec (.getMeasurements via i false nonce) s = .next ((s.send (.spdm via false b)).countModule cWdnSpdmRequests) ∧
      (s.warden.identity = true →
        exec (.getMeasurements via i true nonce) s = .next ((s.send (.spdm via false (b ++
          Config.signature (nonce ++ b)))).countModule cWdnSpdmRequests))) ∧
    (∀ i nonce, 6 < i → i ≠ 0xff →
      exec (.getMeasurements via i false nonce) s = .next (((s.send (.spdm via true [0x01])).countModule
        cWdnSpdmRequests).countModule cWdnSpdmErrors)) ∧
    (∀ i nonce, s.warden.identity = false →
      exec (.getMeasurements via i true nonce) s = .next (((s.send (.spdm via true [0x05])).countModule
        cWdnSpdmRequests).countModule cWdnSpdmErrors))) ∧
  (∀ (s : State) (via : Nat), s.updateServes via = false → ∀ (c o : Nat) (d : List Byte) (x : SigRead),
    exec (.requestUpdate via) s = .next s ∧ exec (.updateTransfer via c o d) s = .next s ∧
      exec (.verifyComplete via c x) s = .next s ∧ exec (.activateFirmware via) s = .next s) ∧
  (∀ (s : State) (via : Nat), s.updateServes via = true →
    (s.warden.update = .idle →
      exec (.requestUpdate via) s = .next ((s.setWarden { s.warden with
        update := agentOf via, component := none, verified := [], xfer := 0 }).send (.pldm via 0 []))) ∧
    (s.warden.update ≠ .idle → s.warden.update ≠ agentOf via →
      exec (.requestUpdate via) s = .next ((s.send (.pldm via 0x81 [])).countModule cWdnUpdateRefused)) ∧
    (s.warden.update = agentOf via → exec (.requestUpdate via) s = .next (s.send (.pldm via 0x81 []))) ∧
    (∀ (c o : Nat) (d : List Byte),
      ((s.warden.update ≠ agentOf via ∨ s.componentOk c = false ∨ componentSize c < o + d.length) →
        exec (.updateTransfer via c o d) s = .next s) ∧
      (s.warden.update = agentOf via → s.componentOk c = true → o + d.length ≤ componentSize c →
        ∃ t, exec (.updateTransfer via c o d) s = .next t ∧ t.warden.component = some c ∧ c ∉ t.warden.verified ∧
          t.warden.xfer = o + d.length ∧
          (cellsWf 0 s.flash.cells = true → t.flash.read (s.componentBase c + o) d.length = d) ∧
          t.flash.wear = s.flash.wear ++ s.integ.pending ∧ t.integ.pending = [] ∧ t.warden.staged = [] ∧
          t.stands = s.stands ∧ s.memoryKept t ∧ t.frame = s.frame)) ∧
    (∀ (c : Nat) (x : SigRead),
      ((s.warden.update ≠ agentOf via ∨ s.warden.component ≠ some c) → exec (.verifyComplete via c x) s = .next s) ∧
      (s.warden.update = agentOf via → s.warden.component = some c →
        (s.componentVerifies c x = true →
          ∃ t, exec (.verifyComplete via c x) s = .next t ∧ t.warden.component = none ∧
            t.warden.verified = s.warden.verified ++ [c] ∧ (c = 3 → t.warden.libraryOk = true) ∧
            t.sent = s.sent ++ [.pldm via 0 []] ∧ t.stands = s.stands ∧ s.memoryKept t ∧ t.frame = s.frame) ∧
        (s.componentVerifies c x = false →
          ∃ t, exec (.verifyComplete via c x) s = .next t ∧ t.warden.component = none ∧ t.warden.verified = s.warden.verified ∧
            t.sent = s.sent ++ [.pldm via 1 []] ∧ t.stands = s.stands ∧ s.memoryKept t ∧ t.frame = s.frame))) ∧
    (s.warden.update ≠ agentOf via → exec (.activateFirmware via) s = .next (s.send (.pldm via 0x80 []))) ∧
    (s.warden.update = agentOf via → s.warden.component ≠ none →
      exec (.activateFirmware via) s = .next (s.send (.pldm via 0x85 []))) ∧
    (s.warden.update = agentOf via → s.warden.component = none → s.warden.recovery = false →
      (via = 0 → s.rst.pendingCause = none →
        ∃ t r, exec (.activateFirmware via) s = .next t ∧ t.warden.update = .idle ∧ t.rst.pendingCause = some 4 ∧
          t.sent = s.sent ++ [.pldm via 0 r] ∧ t.stands = s.stands ∧ s.memoryKept t ∧ t.frame = s.frame) ∧
      (via ≠ 0 →
        ∃ t, exec (.activateFirmware via) s = .next t ∧ t.warden.update = .idle ∧ t.warden.pendingAct = true ∧ t.rst = s.rst ∧
          t.sent = s.sent ++ [.pldm via 0 []] ∧ t.stands = s.stands ∧ s.memoryKept t ∧ t.frame = s.frame)) ∧
    (s.warden.update = agentOf via → s.warden.component = none → s.warden.recovery = true → 1 ∈ s.warden.verified →
      ∃ t r, exec (.activateFirmware via) s = .next t ∧ t.warden.update = .idle ∧ t.warden.running = true ∧
        t.warden.recovery = false ∧ t.boot.fwSlot = 1 - s.boot.fwSlot ∧ t.sent = s.sent ++ [.pldm via 0 r] ∧
        t.stands = s.stands ∧ s.memoryKept t ∧ t.power = s.power ∧ t.img = s.img ∧ t.pending = s.pending))

/-- Mailboxes (spec/15 R387, Table 15-6): writes of one link assemble a request, which waits once LENGTH bytes have come or is
answered at once; each request of the table, whether a mailbox holds it or the sideband brings it, is answered with the data that its OP
asks for, or RANGE, a mailbox's READY with the next generation and the request's tag; the owner aborts an assembly and releases an answer
by its generation. The model's own readings: log entries 70 and 93. -/
def Obligations.Mailboxes : Prop :=
  (∀ (l : LinkId) (s : State) (m : Nat), (s.reaches l = false ∨ 4 ≤ m) → ∀ (o : Nat) (d : List Byte) (g : W16),
    exec (.mailboxWrite l m o d) s = .next s ∧ exec (.mailboxAbort l m) s = .next s ∧
      exec (.mailboxRelease l m g) s = .next s) ∧
  (∀ (l : LinkId) (s : State) (m : Nat), s.reaches l = true → m < 4 →
    (∀ (o : Nat) (d : List Byte), mboxBad o d.length = true →
      exec (.mailboxWrite l m o d) s = .next (s.countModule cWdnMboxBad)) ∧
    (∀ (o : Nat) (d : List Byte), mboxBad o d.length = false → ((s.mbox m).mode = .busy ∨ (s.mbox m).mode = .ready ∨
        (s.mbox m).mode = .assembling ∧ (s.mbox m).owner ≠ some l) →
      exec (.mailboxWrite l m o d) s = .next ((s.setMbox m { s.mbox m with ignored := true }).countModule cWdnMboxIgnored)) ∧
    (∀ (o n : Nat) (d r : List Byte), mboxBad o d.length = false →
        ((s.mbox m).mode = .free ∨ (s.mbox m).mode = .assembling ∧ (s.mbox m).owner = some l) → r = (s.mbox m).req ++ d →
        n = fld r 4 4 →
      (mboxLengthOk n = false →
        exec (.mailboxWrite l m o d) s = .next ((s.setMbox m { s.mbox m with
          mode := .ready, owner := some l, req := r, gen := (s.mbox m).gen + 1, tag := BitVec.ofNat 32 (fld r 8 4)
          status := 1, data := [] }).countModule cWdnMboxRequests)) ∧
      (mboxLengthOk n = true →
        (r.length < n →
          exec (.mailboxWrite l m o d) s = .next (s.setMbox m { s.mbox m with mode := .assembling, owner := some l, req := r })) ∧
        (r.length = n → 1 ≤ fld r 0 1 → fld r 0 1 ≤ 9 →
          exec (.mailboxWrite l m o d) s = .next ((s.setMbox m { s.mbox m with
            mode := .busy, owner := some l, req := r }).countModule cWdnMboxRequests)) ∧
        (r.length = n → (fld r 0 1 = 0 ∨ 9 < fld r 0 1) →
          exec (.mailboxWrite l m o d) s = .next ((s.setMbox m { s.mbox m with
            mode := .ready, owner := some l, req := r, gen := (s.mbox m).gen + 1, tag := BitVec.ofNat 32 (fld r 8 4)
            status := 2, data := [] }).countModule cWdnMboxRequests)) ∧
        (n < r.length → 1 ≤ fld r 0 1 → fld r 0 1 ≤ 9 →
          exec (.mailboxWrite l m o d) s = .next (((s.setMbox m { s.mbox m with
            mode := .busy, owner := some l, req := r.take n, ignored := true }).countModule cWdnMboxRequests).countModule
              cWdnMboxIgnored)))) ∧
    ((s.mbox m).mode = .assembling →
      exec (.mailboxAbort l m) s = .next (s.setMbox m { s.mbox m with mode := .free, owner := none, req := [] })) ∧
    ((s.mbox m).mode ≠ .assembling → exec (.mailboxAbort l m) s = .next s) ∧
    (∀ g, (s.mbox m).mode = .ready → (s.mbox m).gen = g →
      exec (.mailboxRelease l m g) s = .next (s.setMbox m { s.mbox m with mode := .free, owner := none, req := [] })) ∧
    (∀ g, ((s.mbox m).mode ≠ .ready ∨ (s.mbox m).gen ≠ g) → exec (.mailboxRelease l m g) s = .next s)) ∧
  (∀ (s : State) (op : Nat) (c : ReqVia → Instr) (f : List Byte → W16 × List Byte),
      (op = 1 ∧ c = Instr.logRead ∧ f = entryRun (s.flash.log ++ s.warden.staged) (·.seq) EvLog.bytes ∨
        op = 2 ∧ c = Instr.ledgerRead ∧ f = entryRun s.flash.wear (·.entry) WearEntry.bytes ∨
        op = 3 ∧ c = Instr.sampleRead ∧ f = (fun req => match s.rst.samples[fld req 16 1]? with
          | some x => bytesFrom (x.header ++ x.body) req
          | none => (3, [])) ∨
        op = 4 ∧ c = Instr.captureRead ∧ f = (fun req => match (if fld req 16 1 < 64 then s.integ.captures[fld req 16 1]?
            else if 0x80 ≤ fld req 16 1 ∧ fld req 16 1 ≤ 0x87 then s.flash.supplement[fld req 16 1 - 0x80]? else none) with
          | some x => bytesFrom (Config.captureBytes x.parts) req
          | none => (3, [])) ∨
        op = 5 ∧ c = Instr.routeRead ∧ f = (fun req =>
          if 65536 < fld req 16 4 + fld req 20 4 ∨ 65536 ≤ fld req 16 4 then (3, [])
          else (0, (List.range (fld req 20 4)).flatMap (fun i =>
            natLe 4 (s.img.routes.get Route.none (fld req 16 4 + i)).word))) ∨
        op = 6 ∧ c = Instr.sensorRead ∧ f = (fun _ => (0, sensorIds.flatMap (fun id =>
          Config.sensorWord (sensorPresent s.variant id) (s.sensor id)))) ∨
        op = 7 ∧ c = Instr.certRead ∧ f = (fun _ => if s.warden.identity then (0, Config.deviceChain) else (5, [])) ∨
        op = 9 ∧ c = Instr.variantRead ∧ f = (fun _ => (0, s.flash.variantRec))) →
    (∀ m, ((s.served = false ∨ 4 ≤ m ∨ (s.mbox m).mode ≠ .busy ∨ fld (s.mbox m).req 0 1 ≠ op) →
        exec (c (.mbox m)) s = .next s) ∧
      (s.served = true → m < 4 → (s.mbox m).mode = .busy → fld (s.mbox m).req 0 1 = op →
        exec (c (.mbox m)) s = .next (s.setMbox m { s.mbox m with
          mode := .ready, gen := (s.mbox m).gen + 1, tag := BitVec.ofNat 32 (fld (s.mbox m).req 8 4)
          status := (f (s.mbox m).req).1, data := (f (s.mbox m).req).2 }))) ∧
    (∀ req : List Byte, ((s.served = false ∨ fld req 0 1 ≠ op) → exec (c (.i3c req)) s = .next s) ∧
      (s.served = true → fld req 0 1 = op →
        (mboxLengthOk (fld req 4 4) = true → req.length = fld req 4 4 →
          exec (c (.i3c req)) s = .next (s.send (.i3c (responseBytes (fld req 8 4) ((f req).1, (f req).2.take 4096))))) ∧
        ((mboxLengthOk (fld req 4 4) = false ∨ req.length ≠ fld req 4 4) →
          exec (c (.i3c req)) s = .next (s.send (.i3c (responseBytes (fld req 8 4) (1, []))))))))  ∧
  (∀ (s : State) (m : Nat), s.served = true → m < 4 → (s.mbox m).mode = .busy → fld (s.mbox m).req 0 1 = 8 →
    ∃ t d, exec (.pldm (.mbox m)) s = .next t ∧ t.mbox m = { s.mbox m with
        mode := .ready, gen := (s.mbox m).gen + 1, tag := BitVec.ofNat 32 (fld (s.mbox m).req 8 4), status := 0, data := d } ∧
      (∀ k, k ≠ m → t.mbox k = s.mbox k) ∧ t.sent = s.sent ∧ t.stands = s.stands ∧ s.memoryKept t ∧ t.frame = s.frame) ∧
  (∀ (s : State) (req : List Byte), s.served = true → fld req 0 1 = 8 →
    ∃ t r, exec (.pldm (.i3c req)) s = .next t ∧ t.sent = s.sent ++ [.i3c r] ∧ t.warden = s.warden ∧ t.stands = s.stands ∧
      s.memoryKept t ∧ t.frame = s.frame)
end

