-- ==== Sys2Proof/Laws/State.lean ====
section
/-! SUPPORT. What each setter does to each field of the state. -/

namespace Sys2Proof.Machine

variable (s : State)

@[simp] theorem State.setPending_pending (v : List Instr) : (s.setPending v).pending = v := rfl
@[simp] theorem State.setPending_sent (v : List Instr) : (s.setPending v).sent = s.sent := rfl
@[simp] theorem State.setPending_freeCtr (v : List Instr) : (s.setPending v).freeCtr = s.freeCtr := rfl
@[simp] theorem State.setPending_variant (v : List Instr) : (s.setPending v).variant = s.variant := rfl
@[simp] theorem State.setPending_power (v : List Instr) : (s.setPending v).power = s.power := rfl
@[simp] theorem State.setPending_dies (v : List Instr) : (s.setPending v).dies = s.dies := rfl
@[simp] theorem State.setPending_clock (v : List Instr) : (s.setPending v).clock = s.clock := rfl
@[simp] theorem State.setPending_flash (v : List Instr) : (s.setPending v).flash = s.flash := rfl
@[simp] theorem State.setPending_warden (v : List Instr) : (s.setPending v).warden = s.warden := rfl
@[simp] theorem State.setPending_boot (v : List Instr) : (s.setPending v).boot = s.boot := rfl
@[simp] theorem State.setPending_img (v : List Instr) : (s.setPending v).img = s.img := rfl
@[simp] theorem State.setPending_link0 (v : List Instr) : (s.setPending v).link0 = s.link0 := rfl
@[simp] theorem State.setPending_link1 (v : List Instr) : (s.setPending v).link1 = s.link1 := rfl
@[simp] theorem State.setPending_counters (v : List Instr) : (s.setPending v).counters = s.counters := rfl
@[simp] theorem State.setPending_stands (v : List Instr) : (s.setPending v).stands = s.stands := rfl
@[simp] theorem State.setPending_comp (v : List Instr) : (s.setPending v).comp = s.comp := rfl
@[simp] theorem State.setPending_hbm (v : List Instr) : (s.setPending v).hbm = s.hbm := rfl
@[simp] theorem State.setPending_mem (v : List Instr) : (s.setPending v).mem = s.mem := rfl
@[simp] theorem State.setPending_fabric (v : List Instr) : (s.setPending v).fabric = s.fabric := rfl
@[simp] theorem State.setPending_integ (v : List Instr) : (s.setPending v).integ = s.integ := rfl
@[simp] theorem State.setPending_rst (v : List Instr) : (s.setPending v).rst = s.rst := rfl
@[simp] theorem State.setSent_pending (v : List Output) : (s.setSent v).pending = s.pending := rfl
@[simp] theorem State.setSent_sent (v : List Output) : (s.setSent v).sent = v := rfl
@[simp] theorem State.setSent_freeCtr (v : List Output) : (s.setSent v).freeCtr = s.freeCtr := rfl
@[simp] theorem State.setSent_variant (v : List Output) : (s.setSent v).variant = s.variant := rfl
@[simp] theorem State.setSent_power (v : List Output) : (s.setSent v).power = s.power := rfl
@[simp] theorem State.setSent_dies (v : List Output) : (s.setSent v).dies = s.dies := rfl
@[simp] theorem State.setSent_clock (v : List Output) : (s.setSent v).clock = s.clock := rfl
@[simp] theorem State.setSent_flash (v : List Output) : (s.setSent v).flash = s.flash := rfl
@[simp] theorem State.setSent_warden (v : List Output) : (s.setSent v).warden = s.warden := rfl
@[simp] theorem State.setSent_boot (v : List Output) : (s.setSent v).boot = s.boot := rfl
@[simp] theorem State.setSent_img (v : List Output) : (s.setSent v).img = s.img := rfl
@[simp] theorem State.setSent_link0 (v : List Output) : (s.setSent v).link0 = s.link0 := rfl
@[simp] theorem State.setSent_link1 (v : List Output) : (s.setSent v).link1 = s.link1 := rfl
@[simp] theorem State.setSent_counters (v : List Output) : (s.setSent v).counters = s.counters := rfl
@[simp] theorem State.setSent_stands (v : List Output) : (s.setSent v).stands = s.stands := rfl
@[simp] theorem State.setSent_comp (v : List Output) : (s.setSent v).comp = s.comp := rfl
@[simp] theorem State.setSent_hbm (v : List Output) : (s.setSent v).hbm = s.hbm := rfl
@[simp] theorem State.setSent_mem (v : List Output) : (s.setSent v).mem = s.mem := rfl
@[simp] theorem State.setSent_fabric (v : List Output) : (s.setSent v).fabric = s.fabric := rfl
@[simp] theorem State.setSent_integ (v : List Output) : (s.setSent v).integ = s.integ := rfl
@[simp] theorem State.setSent_rst (v : List Output) : (s.setSent v).rst = s.rst := rfl
@[simp] theorem State.setFreeCtr_pending (v : Nat) : (s.setFreeCtr v).pending = s.pending := rfl
@[simp] theorem State.setFreeCtr_sent (v : Nat) : (s.setFreeCtr v).sent = s.sent := rfl
@[simp] theorem State.setFreeCtr_freeCtr (v : Nat) : (s.setFreeCtr v).freeCtr = v := rfl
@[simp] theorem State.setFreeCtr_variant (v : Nat) : (s.setFreeCtr v).variant = s.variant := rfl
@[simp] theorem State.setFreeCtr_power (v : Nat) : (s.setFreeCtr v).power = s.power := rfl
@[simp] theorem State.setFreeCtr_dies (v : Nat) : (s.setFreeCtr v).dies = s.dies := rfl
@[simp] theorem State.setFreeCtr_clock (v : Nat) : (s.setFreeCtr v).clock = s.clock := rfl
@[simp] theorem State.setFreeCtr_flash (v : Nat) : (s.setFreeCtr v).flash = s.flash := rfl
@[simp] theorem State.setFreeCtr_warden (v : Nat) : (s.setFreeCtr v).warden = s.warden := rfl
@[simp] theorem State.setFreeCtr_boot (v : Nat) : (s.setFreeCtr v).boot = s.boot := rfl
@[simp] theorem State.setFreeCtr_img (v : Nat) : (s.setFreeCtr v).img = s.img := rfl
@[simp] theorem State.setFreeCtr_link0 (v : Nat) : (s.setFreeCtr v).link0 = s.link0 := rfl
@[simp] theorem State.setFreeCtr_link1 (v : Nat) : (s.setFreeCtr v).link1 = s.link1 := rfl
@[simp] theorem State.setFreeCtr_counters (v : Nat) : (s.setFreeCtr v).counters = s.counters := rfl
@[simp] theorem State.setFreeCtr_stands (v : Nat) : (s.setFreeCtr v).stands = s.stands := rfl
@[simp] theorem State.setFreeCtr_comp (v : Nat) : (s.setFreeCtr v).comp = s.comp := rfl
@[simp] theorem State.setFreeCtr_hbm (v : Nat) : (s.setFreeCtr v).hbm = s.hbm := rfl
@[simp] theorem State.setFreeCtr_mem (v : Nat) : (s.setFreeCtr v).mem = s.mem := rfl
@[simp] theorem State.setFreeCtr_fabric (v : Nat) : (s.setFreeCtr v).fabric = s.fabric := rfl
@[simp] theorem State.setFreeCtr_integ (v : Nat) : (s.setFreeCtr v).integ = s.integ := rfl
@[simp] theorem State.setFreeCtr_rst (v : Nat) : (s.setFreeCtr v).rst = s.rst := rfl
@[simp] theorem State.setVariant_pending (v : Variant) : (s.setVariant v).pending = s.pending := rfl
@[simp] theorem State.setVariant_sent (v : Variant) : (s.setVariant v).sent = s.sent := rfl
@[simp] theorem State.setVariant_freeCtr (v : Variant) : (s.setVariant v).freeCtr = s.freeCtr := rfl
@[simp] theorem State.setVariant_variant (v : Variant) : (s.setVariant v).variant = v := rfl
@[simp] theorem State.setVariant_power (v : Variant) : (s.setVariant v).power = s.power := rfl
@[simp] theorem State.setVariant_dies (v : Variant) : (s.setVariant v).dies = s.dies := rfl
@[simp] theorem State.setVariant_clock (v : Variant) : (s.setVariant v).clock = s.clock := rfl
@[simp] theorem State.setVariant_flash (v : Variant) : (s.setVariant v).flash = s.flash := rfl
@[simp] theorem State.setVariant_warden (v : Variant) : (s.setVariant v).warden = s.warden := rfl
@[simp] theorem State.setVariant_boot (v : Variant) : (s.setVariant v).boot = s.boot := rfl
@[simp] theorem State.setVariant_img (v : Variant) : (s.setVariant v).img = s.img := rfl
@[simp] theorem State.setVariant_link0 (v : Variant) : (s.setVariant v).link0 = s.link0 := rfl
@[simp] theorem State.setVariant_link1 (v : Variant) : (s.setVariant v).link1 = s.link1 := rfl
@[simp] theorem State.setVariant_counters (v : Variant) : (s.setVariant v).counters = s.counters := rfl
@[simp] theorem State.setVariant_stands (v : Variant) : (s.setVariant v).stands = s.stands := rfl
@[simp] theorem State.setVariant_comp (v : Variant) : (s.setVariant v).comp = s.comp := rfl
@[simp] theorem State.setVariant_hbm (v : Variant) : (s.setVariant v).hbm = s.hbm := rfl
@[simp] theorem State.setVariant_mem (v : Variant) : (s.setVariant v).mem = s.mem := rfl
@[simp] theorem State.setVariant_fabric (v : Variant) : (s.setVariant v).fabric = s.fabric := rfl
@[simp] theorem State.setVariant_integ (v : Variant) : (s.setVariant v).integ = s.integ := rfl
@[simp] theorem State.setVariant_rst (v : Variant) : (s.setVariant v).rst = s.rst := rfl
@[simp] theorem State.setPower_pending (v : PowerSt) : (s.setPower v).pending = s.pending := rfl
@[simp] theorem State.setPower_sent (v : PowerSt) : (s.setPower v).sent = s.sent := rfl
@[simp] theorem State.setPower_freeCtr (v : PowerSt) : (s.setPower v).freeCtr = s.freeCtr := rfl
@[simp] theorem State.setPower_variant (v : PowerSt) : (s.setPower v).variant = s.variant := rfl
@[simp] theorem State.setPower_power (v : PowerSt) : (s.setPower v).power = v := rfl
@[simp] theorem State.setPower_dies (v : PowerSt) : (s.setPower v).dies = s.dies := rfl
@[simp] theorem State.setPower_clock (v : PowerSt) : (s.setPower v).clock = s.clock := rfl
@[simp] theorem State.setPower_flash (v : PowerSt) : (s.setPower v).flash = s.flash := rfl
@[simp] theorem State.setPower_warden (v : PowerSt) : (s.setPower v).warden = s.warden := rfl
@[simp] theorem State.setPower_boot (v : PowerSt) : (s.setPower v).boot = s.boot := rfl
@[simp] theorem State.setPower_img (v : PowerSt) : (s.setPower v).img = s.img := rfl
@[simp] theorem State.setPower_link0 (v : PowerSt) : (s.setPower v).link0 = s.link0 := rfl
@[simp] theorem State.setPower_link1 (v : PowerSt) : (s.setPower v).link1 = s.link1 := rfl
@[simp] theorem State.setPower_counters (v : PowerSt) : (s.setPower v).counters = s.counters := rfl
@[simp] theorem State.setPower_stands (v : PowerSt) : (s.setPower v).stands = s.stands := rfl
@[simp] theorem State.setPower_comp (v : PowerSt) : (s.setPower v).comp = s.comp := rfl
@[simp] theorem State.setPower_hbm (v : PowerSt) : (s.setPower v).hbm = s.hbm := rfl
@[simp] theorem State.setPower_mem (v : PowerSt) : (s.setPower v).mem = s.mem := rfl
@[simp] theorem State.setPower_fabric (v : PowerSt) : (s.setPower v).fabric = s.fabric := rfl
@[simp] theorem State.setPower_integ (v : PowerSt) : (s.setPower v).integ = s.integ := rfl
@[simp] theorem State.setPower_rst (v : PowerSt) : (s.setPower v).rst = s.rst := rfl
@[simp] theorem State.setDies_pending (v : Tab DieSt) : (s.setDies v).pending = s.pending := rfl
@[simp] theorem State.setDies_sent (v : Tab DieSt) : (s.setDies v).sent = s.sent := rfl
@[simp] theorem State.setDies_freeCtr (v : Tab DieSt) : (s.setDies v).freeCtr = s.freeCtr := rfl
@[simp] theorem State.setDies_variant (v : Tab DieSt) : (s.setDies v).variant = s.variant := rfl
@[simp] theorem State.setDies_power (v : Tab DieSt) : (s.setDies v).power = s.power := rfl
@[simp] theorem State.setDies_dies (v : Tab DieSt) : (s.setDies v).dies = v := rfl
@[simp] theorem State.setDies_clock (v : Tab DieSt) : (s.setDies v).clock = s.clock := rfl
@[simp] theorem State.setDies_flash (v : Tab DieSt) : (s.setDies v).flash = s.flash := rfl
@[simp] theorem State.setDies_warden (v : Tab DieSt) : (s.setDies v).warden = s.warden := rfl
@[simp] theorem State.setDies_boot (v : Tab DieSt) : (s.setDies v).boot = s.boot := rfl
@[simp] theorem State.setDies_img (v : Tab DieSt) : (s.setDies v).img = s.img := rfl
@[simp] theorem State.setDies_link0 (v : Tab DieSt) : (s.setDies v).link0 = s.link0 := rfl
@[simp] theorem State.setDies_link1 (v : Tab DieSt) : (s.setDies v).link1 = s.link1 := rfl
@[simp] theorem State.setDies_counters (v : Tab DieSt) : (s.setDies v).counters = s.counters := rfl
@[simp] theorem State.setDies_stands (v : Tab DieSt) : (s.setDies v).stands = s.stands := rfl
@[simp] theorem State.setDies_comp (v : Tab DieSt) : (s.setDies v).comp = s.comp := rfl
@[simp] theorem State.setDies_hbm (v : Tab DieSt) : (s.setDies v).hbm = s.hbm := rfl
@[simp] theorem State.setDies_mem (v : Tab DieSt) : (s.setDies v).mem = s.mem := rfl
@[simp] theorem State.setDies_fabric (v : Tab DieSt) : (s.setDies v).fabric = s.fabric := rfl
@[simp] theorem State.setDies_integ (v : Tab DieSt) : (s.setDies v).integ = s.integ := rfl
@[simp] theorem State.setDies_rst (v : Tab DieSt) : (s.setDies v).rst = s.rst := rfl
@[simp] theorem State.setClock_pending (v : ClockSt) : (s.setClock v).pending = s.pending := rfl
@[simp] theorem State.setClock_sent (v : ClockSt) : (s.setClock v).sent = s.sent := rfl
@[simp] theorem State.setClock_freeCtr (v : ClockSt) : (s.setClock v).freeCtr = s.freeCtr := rfl
@[simp] theorem State.setClock_variant (v : ClockSt) : (s.setClock v).variant = s.variant := rfl
@[simp] theorem State.setClock_power (v : ClockSt) : (s.setClock v).power = s.power := rfl
@[simp] theorem State.setClock_dies (v : ClockSt) : (s.setClock v).dies = s.dies := rfl
@[simp] theorem State.setClock_clock (v : ClockSt) : (s.setClock v).clock = v := rfl
@[simp] theorem State.setClock_flash (v : ClockSt) : (s.setClock v).flash = s.flash := rfl
@[simp] theorem State.setClock_warden (v : ClockSt) : (s.setClock v).warden = s.warden := rfl
@[simp] theorem State.setClock_boot (v : ClockSt) : (s.setClock v).boot = s.boot := rfl
@[simp] theorem State.setClock_img (v : ClockSt) : (s.setClock v).img = s.img := rfl
@[simp] theorem State.setClock_link0 (v : ClockSt) : (s.setClock v).link0 = s.link0 := rfl
@[simp] theorem State.setClock_link1 (v : ClockSt) : (s.setClock v).link1 = s.link1 := rfl
@[simp] theorem State.setClock_counters (v : ClockSt) : (s.setClock v).counters = s.counters := rfl
@[simp] theorem State.setClock_stands (v : ClockSt) : (s.setClock v).stands = s.stands := rfl
@[simp] theorem State.setClock_comp (v : ClockSt) : (s.setClock v).comp = s.comp := rfl
@[simp] theorem State.setClock_hbm (v : ClockSt) : (s.setClock v).hbm = s.hbm := rfl
@[simp] theorem State.setClock_mem (v : ClockSt) : (s.setClock v).mem = s.mem := rfl
@[simp] theorem State.setClock_fabric (v : ClockSt) : (s.setClock v).fabric = s.fabric := rfl
@[simp] theorem State.setClock_integ (v : ClockSt) : (s.setClock v).integ = s.integ := rfl
@[simp] theorem State.setClock_rst (v : ClockSt) : (s.setClock v).rst = s.rst := rfl
@[simp] theorem State.setFlash_pending (v : Flash) : (s.setFlash v).pending = s.pending := rfl
@[simp] theorem State.setFlash_sent (v : Flash) : (s.setFlash v).sent = s.sent := rfl
@[simp] theorem State.setFlash_freeCtr (v : Flash) : (s.setFlash v).freeCtr = s.freeCtr := rfl
@[simp] theorem State.setFlash_variant (v : Flash) : (s.setFlash v).variant = s.variant := rfl
@[simp] theorem State.setFlash_power (v : Flash) : (s.setFlash v).power = s.power := rfl
@[simp] theorem State.setFlash_dies (v : Flash) : (s.setFlash v).dies = s.dies := rfl
@[simp] theorem State.setFlash_clock (v : Flash) : (s.setFlash v).clock = s.clock := rfl
@[simp] theorem State.setFlash_flash (v : Flash) : (s.setFlash v).flash = v := rfl
@[simp] theorem State.setFlash_warden (v : Flash) : (s.setFlash v).warden = s.warden := rfl
@[simp] theorem State.setFlash_boot (v : Flash) : (s.setFlash v).boot = s.boot := rfl
@[simp] theorem State.setFlash_img (v : Flash) : (s.setFlash v).img = s.img := rfl
@[simp] theorem State.setFlash_link0 (v : Flash) : (s.setFlash v).link0 = s.link0 := rfl
@[simp] theorem State.setFlash_link1 (v : Flash) : (s.setFlash v).link1 = s.link1 := rfl
@[simp] theorem State.setFlash_counters (v : Flash) : (s.setFlash v).counters = s.counters := rfl
@[simp] theorem State.setFlash_stands (v : Flash) : (s.setFlash v).stands = s.stands := rfl
@[simp] theorem State.setFlash_comp (v : Flash) : (s.setFlash v).comp = s.comp := rfl
@[simp] theorem State.setFlash_hbm (v : Flash) : (s.setFlash v).hbm = s.hbm := rfl
@[simp] theorem State.setFlash_mem (v : Flash) : (s.setFlash v).mem = s.mem := rfl
@[simp] theorem State.setFlash_fabric (v : Flash) : (s.setFlash v).fabric = s.fabric := rfl
@[simp] theorem State.setFlash_integ (v : Flash) : (s.setFlash v).integ = s.integ := rfl
@[simp] theorem State.setFlash_rst (v : Flash) : (s.setFlash v).rst = s.rst := rfl
@[simp] theorem State.setWarden_pending (v : Warden) : (s.setWarden v).pending = s.pending := rfl
@[simp] theorem State.setWarden_sent (v : Warden) : (s.setWarden v).sent = s.sent := rfl
@[simp] theorem State.setWarden_freeCtr (v : Warden) : (s.setWarden v).freeCtr = s.freeCtr := rfl
@[simp] theorem State.setWarden_variant (v : Warden) : (s.setWarden v).variant = s.variant := rfl
@[simp] theorem State.setWarden_power (v : Warden) : (s.setWarden v).power = s.power := rfl
@[simp] theorem State.setWarden_dies (v : Warden) : (s.setWarden v).dies = s.dies := rfl
@[simp] theorem State.setWarden_clock (v : Warden) : (s.setWarden v).clock = s.clock := rfl
@[simp] theorem State.setWarden_flash (v : Warden) : (s.setWarden v).flash = s.flash := rfl
@[simp] theorem State.setWarden_warden (v : Warden) : (s.setWarden v).warden = v := rfl
@[simp] theorem State.setWarden_boot (v : Warden) : (s.setWarden v).boot = s.boot := rfl
@[simp] theorem State.setWarden_img (v : Warden) : (s.setWarden v).img = s.img := rfl
@[simp] theorem State.setWarden_link0 (v : Warden) : (s.setWarden v).link0 = s.link0 := rfl
@[simp] theorem State.setWarden_link1 (v : Warden) : (s.setWarden v).link1 = s.link1 := rfl
@[simp] theorem State.setWarden_counters (v : Warden) : (s.setWarden v).counters = s.counters := rfl
@[simp] theorem State.setWarden_stands (v : Warden) : (s.setWarden v).stands = s.stands := rfl
@[simp] theorem State.setWarden_comp (v : Warden) : (s.setWarden v).comp = s.comp := rfl
@[simp] theorem State.setWarden_hbm (v : Warden) : (s.setWarden v).hbm = s.hbm := rfl
@[simp] theorem State.setWarden_mem (v : Warden) : (s.setWarden v).mem = s.mem := rfl
@[simp] theorem State.setWarden_fabric (v : Warden) : (s.setWarden v).fabric = s.fabric := rfl
@[simp] theorem State.setWarden_integ (v : Warden) : (s.setWarden v).integ = s.integ := rfl
@[simp] theorem State.setWarden_rst (v : Warden) : (s.setWarden v).rst = s.rst := rfl
@[simp] theorem State.setBoot_pending (v : BootRegs) : (s.setBoot v).pending = s.pending := rfl
@[simp] theorem State.setBoot_sent (v : BootRegs) : (s.setBoot v).sent = s.sent := rfl
@[simp] theorem State.setBoot_freeCtr (v : BootRegs) : (s.setBoot v).freeCtr = s.freeCtr := rfl
@[simp] theorem State.setBoot_variant (v : BootRegs) : (s.setBoot v).variant = s.variant := rfl
@[simp] theorem State.setBoot_power (v : BootRegs) : (s.setBoot v).power = s.power := rfl
@[simp] theorem State.setBoot_dies (v : BootRegs) : (s.setBoot v).dies = s.dies := rfl
@[simp] theorem State.setBoot_clock (v : BootRegs) : (s.setBoot v).clock = s.clock := rfl
@[simp] theorem State.setBoot_flash (v : BootRegs) : (s.setBoot v).flash = s.flash := rfl
@[simp] theorem State.setBoot_warden (v : BootRegs) : (s.setBoot v).warden = s.warden := rfl
@[simp] theorem State.setBoot_boot (v : BootRegs) : (s.setBoot v).boot = v := rfl
@[simp] theorem State.setBoot_img (v : BootRegs) : (s.setBoot v).img = s.img := rfl
@[simp] theorem State.setBoot_link0 (v : BootRegs) : (s.setBoot v).link0 = s.link0 := rfl
@[simp] theorem State.setBoot_link1 (v : BootRegs) : (s.setBoot v).link1 = s.link1 := rfl
@[simp] theorem State.setBoot_counters (v : BootRegs) : (s.setBoot v).counters = s.counters := rfl
@[simp] theorem State.setBoot_stands (v : BootRegs) : (s.setBoot v).stands = s.stands := rfl
@[simp] theorem State.setBoot_comp (v : BootRegs) : (s.setBoot v).comp = s.comp := rfl
@[simp] theorem State.setBoot_hbm (v : BootRegs) : (s.setBoot v).hbm = s.hbm := rfl
@[simp] theorem State.setBoot_mem (v : BootRegs) : (s.setBoot v).mem = s.mem := rfl
@[simp] theorem State.setBoot_fabric (v : BootRegs) : (s.setBoot v).fabric = s.fabric := rfl
@[simp] theorem State.setBoot_integ (v : BootRegs) : (s.setBoot v).integ = s.integ := rfl
@[simp] theorem State.setBoot_rst (v : BootRegs) : (s.setBoot v).rst = s.rst := rfl
@[simp] theorem State.setImg_pending (v : ImageCfg) : (s.setImg v).pending = s.pending := rfl
@[simp] theorem State.setImg_sent (v : ImageCfg) : (s.setImg v).sent = s.sent := rfl
@[simp] theorem State.setImg_freeCtr (v : ImageCfg) : (s.setImg v).freeCtr = s.freeCtr := rfl
@[simp] theorem State.setImg_variant (v : ImageCfg) : (s.setImg v).variant = s.variant := rfl
@[simp] theorem State.setImg_power (v : ImageCfg) : (s.setImg v).power = s.power := rfl
@[simp] theorem State.setImg_dies (v : ImageCfg) : (s.setImg v).dies = s.dies := rfl
@[simp] theorem State.setImg_clock (v : ImageCfg) : (s.setImg v).clock = s.clock := rfl
@[simp] theorem State.setImg_flash (v : ImageCfg) : (s.setImg v).flash = s.flash := rfl
@[simp] theorem State.setImg_warden (v : ImageCfg) : (s.setImg v).warden = s.warden := rfl
@[simp] theorem State.setImg_boot (v : ImageCfg) : (s.setImg v).boot = s.boot := rfl
@[simp] theorem State.setImg_img (v : ImageCfg) : (s.setImg v).img = v := rfl
@[simp] theorem State.setImg_link0 (v : ImageCfg) : (s.setImg v).link0 = s.link0 := rfl
@[simp] theorem State.setImg_link1 (v : ImageCfg) : (s.setImg v).link1 = s.link1 := rfl
@[simp] theorem State.setImg_counters (v : ImageCfg) : (s.setImg v).counters = s.counters := rfl
@[simp] theorem State.setImg_stands (v : ImageCfg) : (s.setImg v).stands = s.stands := rfl
@[simp] theorem State.setImg_comp (v : ImageCfg) : (s.setImg v).comp = s.comp := rfl
@[simp] theorem State.setImg_hbm (v : ImageCfg) : (s.setImg v).hbm = s.hbm := rfl
@[simp] theorem State.setImg_mem (v : ImageCfg) : (s.setImg v).mem = s.mem := rfl
@[simp] theorem State.setImg_fabric (v : ImageCfg) : (s.setImg v).fabric = s.fabric := rfl
@[simp] theorem State.setImg_integ (v : ImageCfg) : (s.setImg v).integ = s.integ := rfl
@[simp] theorem State.setImg_rst (v : ImageCfg) : (s.setImg v).rst = s.rst := rfl
@[simp] theorem State.setLink0_pending (v : HostLink) : (s.setLink0 v).pending = s.pending := rfl
@[simp] theorem State.setLink0_sent (v : HostLink) : (s.setLink0 v).sent = s.sent := rfl
@[simp] theorem State.setLink0_freeCtr (v : HostLink) : (s.setLink0 v).freeCtr = s.freeCtr := rfl
@[simp] theorem State.setLink0_variant (v : HostLink) : (s.setLink0 v).variant = s.variant := rfl
@[simp] theorem State.setLink0_power (v : HostLink) : (s.setLink0 v).power = s.power := rfl
@[simp] theorem State.setLink0_dies (v : HostLink) : (s.setLink0 v).dies = s.dies := rfl
@[simp] theorem State.setLink0_clock (v : HostLink) : (s.setLink0 v).clock = s.clock := rfl
@[simp] theorem State.setLink0_flash (v : HostLink) : (s.setLink0 v).flash = s.flash := rfl
@[simp] theorem State.setLink0_warden (v : HostLink) : (s.setLink0 v).warden = s.warden := rfl
@[simp] theorem State.setLink0_boot (v : HostLink) : (s.setLink0 v).boot = s.boot := rfl
@[simp] theorem State.setLink0_img (v : HostLink) : (s.setLink0 v).img = s.img := rfl
@[simp] theorem State.setLink0_link0 (v : HostLink) : (s.setLink0 v).link0 = v := rfl
@[simp] theorem State.setLink0_link1 (v : HostLink) : (s.setLink0 v).link1 = s.link1 := rfl
@[simp] theorem State.setLink0_counters (v : HostLink) : (s.setLink0 v).counters = s.counters := rfl
@[simp] theorem State.setLink0_stands (v : HostLink) : (s.setLink0 v).stands = s.stands := rfl
@[simp] theorem State.setLink0_comp (v : HostLink) : (s.setLink0 v).comp = s.comp := rfl
@[simp] theorem State.setLink0_hbm (v : HostLink) : (s.setLink0 v).hbm = s.hbm := rfl
@[simp] theorem State.setLink0_mem (v : HostLink) : (s.setLink0 v).mem = s.mem := rfl
@[simp] theorem State.setLink0_fabric (v : HostLink) : (s.setLink0 v).fabric = s.fabric := rfl
@[simp] theorem State.setLink0_integ (v : HostLink) : (s.setLink0 v).integ = s.integ := rfl
@[simp] theorem State.setLink0_rst (v : HostLink) : (s.setLink0 v).rst = s.rst := rfl
@[simp] theorem State.setLink1_pending (v : HostLink) : (s.setLink1 v).pending = s.pending := rfl
@[simp] theorem State.setLink1_sent (v : HostLink) : (s.setLink1 v).sent = s.sent := rfl
@[simp] theorem State.setLink1_freeCtr (v : HostLink) : (s.setLink1 v).freeCtr = s.freeCtr := rfl
@[simp] theorem State.setLink1_variant (v : HostLink) : (s.setLink1 v).variant = s.variant := rfl
@[simp] theorem State.setLink1_power (v : HostLink) : (s.setLink1 v).power = s.power := rfl
@[simp] theorem State.setLink1_dies (v : HostLink) : (s.setLink1 v).dies = s.dies := rfl
@[simp] theorem State.setLink1_clock (v : HostLink) : (s.setLink1 v).clock = s.clock := rfl
@[simp] theorem State.setLink1_flash (v : HostLink) : (s.setLink1 v).flash = s.flash := rfl
@[simp] theorem State.setLink1_warden (v : HostLink) : (s.setLink1 v).warden = s.warden := rfl
@[simp] theorem State.setLink1_boot (v : HostLink) : (s.setLink1 v).boot = s.boot := rfl
@[simp] theorem State.setLink1_img (v : HostLink) : (s.setLink1 v).img = s.img := rfl
@[simp] theorem State.setLink1_link0 (v : HostLink) : (s.setLink1 v).link0 = s.link0 := rfl
@[simp] theorem State.setLink1_link1 (v : HostLink) : (s.setLink1 v).link1 = v := rfl
@[simp] theorem State.setLink1_counters (v : HostLink) : (s.setLink1 v).counters = s.counters := rfl
@[simp] theorem State.setLink1_stands (v : HostLink) : (s.setLink1 v).stands = s.stands := rfl
@[simp] theorem State.setLink1_comp (v : HostLink) : (s.setLink1 v).comp = s.comp := rfl
@[simp] theorem State.setLink1_hbm (v : HostLink) : (s.setLink1 v).hbm = s.hbm := rfl
@[simp] theorem State.setLink1_mem (v : HostLink) : (s.setLink1 v).mem = s.mem := rfl
@[simp] theorem State.setLink1_fabric (v : HostLink) : (s.setLink1 v).fabric = s.fabric := rfl
@[simp] theorem State.setLink1_integ (v : HostLink) : (s.setLink1 v).integ = s.integ := rfl
@[simp] theorem State.setLink1_rst (v : HostLink) : (s.setLink1 v).rst = s.rst := rfl
@[simp] theorem State.setCounters_pending (v : Counters) : (s.setCounters v).pending = s.pending := rfl
@[simp] theorem State.setCounters_sent (v : Counters) : (s.setCounters v).sent = s.sent := rfl
@[simp] theorem State.setCounters_freeCtr (v : Counters) : (s.setCounters v).freeCtr = s.freeCtr := rfl
@[simp] theorem State.setCounters_variant (v : Counters) : (s.setCounters v).variant = s.variant := rfl
@[simp] theorem State.setCounters_power (v : Counters) : (s.setCounters v).power = s.power := rfl
@[simp] theorem State.setCounters_dies (v : Counters) : (s.setCounters v).dies = s.dies := rfl
@[simp] theorem State.setCounters_clock (v : Counters) : (s.setCounters v).clock = s.clock := rfl
@[simp] theorem State.setCounters_flash (v : Counters) : (s.setCounters v).flash = s.flash := rfl
@[simp] theorem State.setCounters_warden (v : Counters) : (s.setCounters v).warden = s.warden := rfl
@[simp] theorem State.setCounters_boot (v : Counters) : (s.setCounters v).boot = s.boot := rfl
@[simp] theorem State.setCounters_img (v : Counters) : (s.setCounters v).img = s.img := rfl
@[simp] theorem State.setCounters_link0 (v : Counters) : (s.setCounters v).link0 = s.link0 := rfl
@[simp] theorem State.setCounters_link1 (v : Counters) : (s.setCounters v).link1 = s.link1 := rfl
@[simp] theorem State.setCounters_counters (v : Counters) : (s.setCounters v).counters = v := rfl
@[simp] theorem State.setCounters_stands (v : Counters) : (s.setCounters v).stands = s.stands := rfl
@[simp] theorem State.setCounters_comp (v : Counters) : (s.setCounters v).comp = s.comp := rfl
@[simp] theorem State.setCounters_hbm (v : Counters) : (s.setCounters v).hbm = s.hbm := rfl
@[simp] theorem State.setCounters_mem (v : Counters) : (s.setCounters v).mem = s.mem := rfl
@[simp] theorem State.setCounters_fabric (v : Counters) : (s.setCounters v).fabric = s.fabric := rfl
@[simp] theorem State.setCounters_integ (v : Counters) : (s.setCounters v).integ = s.integ := rfl
@[simp] theorem State.setCounters_rst (v : Counters) : (s.setCounters v).rst = s.rst := rfl
@[simp] theorem State.setStands_pending (v : Tab StandSt) : (s.setStands v).pending = s.pending := rfl
@[simp] theorem State.setStands_sent (v : Tab StandSt) : (s.setStands v).sent = s.sent := rfl
@[simp] theorem State.setStands_freeCtr (v : Tab StandSt) : (s.setStands v).freeCtr = s.freeCtr := rfl
@[simp] theorem State.setStands_variant (v : Tab StandSt) : (s.setStands v).variant = s.variant := rfl
@[simp] theorem State.setStands_power (v : Tab StandSt) : (s.setStands v).power = s.power := rfl
@[simp] theorem State.setStands_dies (v : Tab StandSt) : (s.setStands v).dies = s.dies := rfl
@[simp] theorem State.setStands_clock (v : Tab StandSt) : (s.setStands v).clock = s.clock := rfl
@[simp] theorem State.setStands_flash (v : Tab StandSt) : (s.setStands v).flash = s.flash := rfl
@[simp] theorem State.setStands_warden (v : Tab StandSt) : (s.setStands v).warden = s.warden := rfl
@[simp] theorem State.setStands_boot (v : Tab StandSt) : (s.setStands v).boot = s.boot := rfl
@[simp] theorem State.setStands_img (v : Tab StandSt) : (s.setStands v).img = s.img := rfl
@[simp] theorem State.setStands_link0 (v : Tab StandSt) : (s.setStands v).link0 = s.link0 := rfl
@[simp] theorem State.setStands_link1 (v : Tab StandSt) : (s.setStands v).link1 = s.link1 := rfl
@[simp] theorem State.setStands_counters (v : Tab StandSt) : (s.setStands v).counters = s.counters := rfl
@[simp] theorem State.setStands_stands (v : Tab StandSt) : (s.setStands v).stands = v := rfl
@[simp] theorem State.setStands_comp (v : Tab StandSt) : (s.setStands v).comp = s.comp := rfl
@[simp] theorem State.setStands_hbm (v : Tab StandSt) : (s.setStands v).hbm = s.hbm := rfl
@[simp] theorem State.setStands_mem (v : Tab StandSt) : (s.setStands v).mem = s.mem := rfl
@[simp] theorem State.setStands_fabric (v : Tab StandSt) : (s.setStands v).fabric = s.fabric := rfl
@[simp] theorem State.setStands_integ (v : Tab StandSt) : (s.setStands v).integ = s.integ := rfl
@[simp] theorem State.setStands_rst (v : Tab StandSt) : (s.setStands v).rst = s.rst := rfl
@[simp] theorem State.setComp_pending (v : Compute) : (s.setComp v).pending = s.pending := rfl
@[simp] theorem State.setComp_sent (v : Compute) : (s.setComp v).sent = s.sent := rfl
@[simp] theorem State.setComp_freeCtr (v : Compute) : (s.setComp v).freeCtr = s.freeCtr := rfl
@[simp] theorem State.setComp_variant (v : Compute) : (s.setComp v).variant = s.variant := rfl
@[simp] theorem State.setComp_power (v : Compute) : (s.setComp v).power = s.power := rfl
@[simp] theorem State.setComp_dies (v : Compute) : (s.setComp v).dies = s.dies := rfl
@[simp] theorem State.setComp_clock (v : Compute) : (s.setComp v).clock = s.clock := rfl
@[simp] theorem State.setComp_flash (v : Compute) : (s.setComp v).flash = s.flash := rfl
@[simp] theorem State.setComp_warden (v : Compute) : (s.setComp v).warden = s.warden := rfl
@[simp] theorem State.setComp_boot (v : Compute) : (s.setComp v).boot = s.boot := rfl
@[simp] theorem State.setComp_img (v : Compute) : (s.setComp v).img = s.img := rfl
@[simp] theorem State.setComp_link0 (v : Compute) : (s.setComp v).link0 = s.link0 := rfl
@[simp] theorem State.setComp_link1 (v : Compute) : (s.setComp v).link1 = s.link1 := rfl
@[simp] theorem State.setComp_counters (v : Compute) : (s.setComp v).counters = s.counters := rfl
@[simp] theorem State.setComp_stands (v : Compute) : (s.setComp v).stands = s.stands := rfl
@[simp] theorem State.setComp_comp (v : Compute) : (s.setComp v).comp = v := rfl
@[simp] theorem State.setComp_hbm (v : Compute) : (s.setComp v).hbm = s.hbm := rfl
@[simp] theorem State.setComp_mem (v : Compute) : (s.setComp v).mem = s.mem := rfl
@[simp] theorem State.setComp_fabric (v : Compute) : (s.setComp v).fabric = s.fabric := rfl
@[simp] theorem State.setComp_integ (v : Compute) : (s.setComp v).integ = s.integ := rfl
@[simp] theorem State.setComp_rst (v : Compute) : (s.setComp v).rst = s.rst := rfl
@[simp] theorem State.setHbm_pending (v : Mem) : (s.setHbm v).pending = s.pending := rfl
@[simp] theorem State.setHbm_sent (v : Mem) : (s.setHbm v).sent = s.sent := rfl
@[simp] theorem State.setHbm_freeCtr (v : Mem) : (s.setHbm v).freeCtr = s.freeCtr := rfl
@[simp] theorem State.setHbm_variant (v : Mem) : (s.setHbm v).variant = s.variant := rfl
@[simp] theorem State.setHbm_power (v : Mem) : (s.setHbm v).power = s.power := rfl
@[simp] theorem State.setHbm_dies (v : Mem) : (s.setHbm v).dies = s.dies := rfl
@[simp] theorem State.setHbm_clock (v : Mem) : (s.setHbm v).clock = s.clock := rfl
@[simp] theorem State.setHbm_flash (v : Mem) : (s.setHbm v).flash = s.flash := rfl
@[simp] theorem State.setHbm_warden (v : Mem) : (s.setHbm v).warden = s.warden := rfl
@[simp] theorem State.setHbm_boot (v : Mem) : (s.setHbm v).boot = s.boot := rfl
@[simp] theorem State.setHbm_img (v : Mem) : (s.setHbm v).img = s.img := rfl
@[simp] theorem State.setHbm_link0 (v : Mem) : (s.setHbm v).link0 = s.link0 := rfl
@[simp] theorem State.setHbm_link1 (v : Mem) : (s.setHbm v).link1 = s.link1 := rfl
@[simp] theorem State.setHbm_counters (v : Mem) : (s.setHbm v).counters = s.counters := rfl
@[simp] theorem State.setHbm_stands (v : Mem) : (s.setHbm v).stands = s.stands := rfl
@[simp] theorem State.setHbm_comp (v : Mem) : (s.setHbm v).comp = s.comp := rfl
@[simp] theorem State.setHbm_hbm (v : Mem) : (s.setHbm v).hbm = v := rfl
@[simp] theorem State.setHbm_mem (v : Mem) : (s.setHbm v).mem = s.mem := rfl
@[simp] theorem State.setHbm_fabric (v : Mem) : (s.setHbm v).fabric = s.fabric := rfl
@[simp] theorem State.setHbm_integ (v : Mem) : (s.setHbm v).integ = s.integ := rfl
@[simp] theorem State.setHbm_rst (v : Mem) : (s.setHbm v).rst = s.rst := rfl
@[simp] theorem State.setMem_pending (v : MemSys) : (s.setMem v).pending = s.pending := rfl
@[simp] theorem State.setMem_sent (v : MemSys) : (s.setMem v).sent = s.sent := rfl
@[simp] theorem State.setMem_freeCtr (v : MemSys) : (s.setMem v).freeCtr = s.freeCtr := rfl
@[simp] theorem State.setMem_variant (v : MemSys) : (s.setMem v).variant = s.variant := rfl
@[simp] theorem State.setMem_power (v : MemSys) : (s.setMem v).power = s.power := rfl
@[simp] theorem State.setMem_dies (v : MemSys) : (s.setMem v).dies = s.dies := rfl
@[simp] theorem State.setMem_clock (v : MemSys) : (s.setMem v).clock = s.clock := rfl
@[simp] theorem State.setMem_flash (v : MemSys) : (s.setMem v).flash = s.flash := rfl
@[simp] theorem State.setMem_warden (v : MemSys) : (s.setMem v).warden = s.warden := rfl
@[simp] theorem State.setMem_boot (v : MemSys) : (s.setMem v).boot = s.boot := rfl
@[simp] theorem State.setMem_img (v : MemSys) : (s.setMem v).img = s.img := rfl
@[simp] theorem State.setMem_link0 (v : MemSys) : (s.setMem v).link0 = s.link0 := rfl
@[simp] theorem State.setMem_link1 (v : MemSys) : (s.setMem v).link1 = s.link1 := rfl
@[simp] theorem State.setMem_counters (v : MemSys) : (s.setMem v).counters = s.counters := rfl
@[simp] theorem State.setMem_stands (v : MemSys) : (s.setMem v).stands = s.stands := rfl
@[simp] theorem State.setMem_comp (v : MemSys) : (s.setMem v).comp = s.comp := rfl
@[simp] theorem State.setMem_hbm (v : MemSys) : (s.setMem v).hbm = s.hbm := rfl
@[simp] theorem State.setMem_mem (v : MemSys) : (s.setMem v).mem = v := rfl
@[simp] theorem State.setMem_fabric (v : MemSys) : (s.setMem v).fabric = s.fabric := rfl
@[simp] theorem State.setMem_integ (v : MemSys) : (s.setMem v).integ = s.integ := rfl
@[simp] theorem State.setMem_rst (v : MemSys) : (s.setMem v).rst = s.rst := rfl
@[simp] theorem State.setFabric_pending (v : Fabric) : (s.setFabric v).pending = s.pending := rfl
@[simp] theorem State.setFabric_sent (v : Fabric) : (s.setFabric v).sent = s.sent := rfl
@[simp] theorem State.setFabric_freeCtr (v : Fabric) : (s.setFabric v).freeCtr = s.freeCtr := rfl
@[simp] theorem State.setFabric_variant (v : Fabric) : (s.setFabric v).variant = s.variant := rfl
@[simp] theorem State.setFabric_power (v : Fabric) : (s.setFabric v).power = s.power := rfl
@[simp] theorem State.setFabric_dies (v : Fabric) : (s.setFabric v).dies = s.dies := rfl
@[simp] theorem State.setFabric_clock (v : Fabric) : (s.setFabric v).clock = s.clock := rfl
@[simp] theorem State.setFabric_flash (v : Fabric) : (s.setFabric v).flash = s.flash := rfl
@[simp] theorem State.setFabric_warden (v : Fabric) : (s.setFabric v).warden = s.warden := rfl
@[simp] theorem State.setFabric_boot (v : Fabric) : (s.setFabric v).boot = s.boot := rfl
@[simp] theorem State.setFabric_img (v : Fabric) : (s.setFabric v).img = s.img := rfl
@[simp] theorem State.setFabric_link0 (v : Fabric) : (s.setFabric v).link0 = s.link0 := rfl
@[simp] theorem State.setFabric_link1 (v : Fabric) : (s.setFabric v).link1 = s.link1 := rfl
@[simp] theorem State.setFabric_counters (v : Fabric) : (s.setFabric v).counters = s.counters := rfl
@[simp] theorem State.setFabric_stands (v : Fabric) : (s.setFabric v).stands = s.stands := rfl
@[simp] theorem State.setFabric_comp (v : Fabric) : (s.setFabric v).comp = s.comp := rfl
@[simp] theorem State.setFabric_hbm (v : Fabric) : (s.setFabric v).hbm = s.hbm := rfl
@[simp] theorem State.setFabric_mem (v : Fabric) : (s.setFabric v).mem = s.mem := rfl
@[simp] theorem State.setFabric_fabric (v : Fabric) : (s.setFabric v).fabric = v := rfl
@[simp] theorem State.setFabric_integ (v : Fabric) : (s.setFabric v).integ = s.integ := rfl
@[simp] theorem State.setFabric_rst (v : Fabric) : (s.setFabric v).rst = s.rst := rfl
@[simp] theorem State.setInteg_pending (v : Integ) : (s.setInteg v).pending = s.pending := rfl
@[simp] theorem State.setInteg_sent (v : Integ) : (s.setInteg v).sent = s.sent := rfl
@[simp] theorem State.setInteg_freeCtr (v : Integ) : (s.setInteg v).freeCtr = s.freeCtr := rfl
@[simp] theorem State.setInteg_variant (v : Integ) : (s.setInteg v).variant = s.variant := rfl
@[simp] theorem State.setInteg_power (v : Integ) : (s.setInteg v).power = s.power := rfl
@[simp] theorem State.setInteg_dies (v : Integ) : (s.setInteg v).dies = s.dies := rfl
@[simp] theorem State.setInteg_clock (v : Integ) : (s.setInteg v).clock = s.clock := rfl
@[simp] theorem State.setInteg_flash (v : Integ) : (s.setInteg v).flash = s.flash := rfl
@[simp] theorem State.setInteg_warden (v : Integ) : (s.setInteg v).warden = s.warden := rfl
@[simp] theorem State.setInteg_boot (v : Integ) : (s.setInteg v).boot = s.boot := rfl
@[simp] theorem State.setInteg_img (v : Integ) : (s.setInteg v).img = s.img := rfl
@[simp] theorem State.setInteg_link0 (v : Integ) : (s.setInteg v).link0 = s.link0 := rfl
@[simp] theorem State.setInteg_link1 (v : Integ) : (s.setInteg v).link1 = s.link1 := rfl
@[simp] theorem State.setInteg_counters (v : Integ) : (s.setInteg v).counters = s.counters := rfl
@[simp] theorem State.setInteg_stands (v : Integ) : (s.setInteg v).stands = s.stands := rfl
@[simp] theorem State.setInteg_comp (v : Integ) : (s.setInteg v).comp = s.comp := rfl
@[simp] theorem State.setInteg_hbm (v : Integ) : (s.setInteg v).hbm = s.hbm := rfl
@[simp] theorem State.setInteg_mem (v : Integ) : (s.setInteg v).mem = s.mem := rfl
@[simp] theorem State.setInteg_fabric (v : Integ) : (s.setInteg v).fabric = s.fabric := rfl
@[simp] theorem State.setInteg_integ (v : Integ) : (s.setInteg v).integ = v := rfl
@[simp] theorem State.setInteg_rst (v : Integ) : (s.setInteg v).rst = s.rst := rfl
@[simp] theorem State.setRst_pending (v : RstMod) : (s.setRst v).pending = s.pending := rfl
@[simp] theorem State.setRst_sent (v : RstMod) : (s.setRst v).sent = s.sent := rfl
@[simp] theorem State.setRst_freeCtr (v : RstMod) : (s.setRst v).freeCtr = s.freeCtr := rfl
@[simp] theorem State.setRst_variant (v : RstMod) : (s.setRst v).variant = s.variant := rfl
@[simp] theorem State.setRst_power (v : RstMod) : (s.setRst v).power = s.power := rfl
@[simp] theorem State.setRst_dies (v : RstMod) : (s.setRst v).dies = s.dies := rfl
@[simp] theorem State.setRst_clock (v : RstMod) : (s.setRst v).clock = s.clock := rfl
@[simp] theorem State.setRst_flash (v : RstMod) : (s.setRst v).flash = s.flash := rfl
@[simp] theorem State.setRst_warden (v : RstMod) : (s.setRst v).warden = s.warden := rfl
@[simp] theorem State.setRst_boot (v : RstMod) : (s.setRst v).boot = s.boot := rfl
@[simp] theorem State.setRst_img (v : RstMod) : (s.setRst v).img = s.img := rfl
@[simp] theorem State.setRst_link0 (v : RstMod) : (s.setRst v).link0 = s.link0 := rfl
@[simp] theorem State.setRst_link1 (v : RstMod) : (s.setRst v).link1 = s.link1 := rfl
@[simp] theorem State.setRst_counters (v : RstMod) : (s.setRst v).counters = s.counters := rfl
@[simp] theorem State.setRst_stands (v : RstMod) : (s.setRst v).stands = s.stands := rfl
@[simp] theorem State.setRst_comp (v : RstMod) : (s.setRst v).comp = s.comp := rfl
@[simp] theorem State.setRst_hbm (v : RstMod) : (s.setRst v).hbm = s.hbm := rfl
@[simp] theorem State.setRst_mem (v : RstMod) : (s.setRst v).mem = s.mem := rfl
@[simp] theorem State.setRst_fabric (v : RstMod) : (s.setRst v).fabric = s.fabric := rfl
@[simp] theorem State.setRst_integ (v : RstMod) : (s.setRst v).integ = s.integ := rfl
@[simp] theorem State.setRst_rst (v : RstMod) : (s.setRst v).rst = v := rfl

end Sys2Proof.Machine
end

