-- ==== Sys2Proof/Laws/Frame.lean ====
section
/-! SUPPORT. What the operations leave alone: for each shared operation and each command outside power, start-up and the links,
one lemma that it keeps `State.frame`. -/

namespace Sys2Proof.Machine

theorem foldl_frame {α : Type} (f : State → α → State) (h : ∀ u a, (f u a).frame = u.frame) (l : List α) (s : State) :
    (l.foldl f s).frame = s.frame := by
  induction l generalizing s with
  | nil => rfl
  | cons a l ih => rw [List.foldl_cons, ih, h]

theorem foldl_frame_fst {α β : Type} (f : State × α → β → State × α) (h : ∀ a b, (f a b).1.frame = a.1.frame)
    (l : List β)
    (p : State × α) : (l.foldl f p).1.frame = p.1.frame := by
  induction l generalizing p with
  | nil => rfl
  | cons a l ih => rw [List.foldl_cons, ih, h]

theorem foldl_frame_snd {α β : Type} (f : α × State → β → α × State) (h : ∀ a b, (f a b).2.frame = a.2.frame)
    (l : List β)
    (p : α × State) : (l.foldl f p).2.frame = p.2.frame := by
  induction l generalizing p with
  | nil => rfl
  | cons a l ih => rw [List.foldl_cons, ih, h]

theorem State.frame_ite (c : Prop) [Decidable c] (s t u : State) (hs : s.frame = u.frame) (ht : t.frame = u.frame) :
    (if c then s else t).frame = u.frame := by split <;> assumption

@[simp] theorem State.setSent_frame (s : State) (v : List Output) : (s.setSent v).frame = s.frame := rfl
@[simp] theorem State.setFreeCtr_frame (s : State) (v : Nat) : (s.setFreeCtr v).frame = s.frame := rfl
@[simp] theorem State.setDies_frame (s : State) (v : Tab DieSt) : (s.setDies v).frame = s.frame := rfl
@[simp] theorem State.setClock_frame (s : State) (v : ClockSt) : (s.setClock v).frame = s.frame := rfl
@[simp] theorem State.setFlash_frame (s : State) (v : Flash) : (s.setFlash v).frame = s.frame := rfl
@[simp] theorem State.setWarden_frame (s : State) (v : Warden) : (s.setWarden v).frame = s.frame := rfl
@[simp] theorem State.setCounters_frame (s : State) (v : Counters) : (s.setCounters v).frame = s.frame := rfl
@[simp] theorem State.setStands_frame (s : State) (v : Tab StandSt) : (s.setStands v).frame = s.frame := rfl
@[simp] theorem State.setComp_frame (s : State) (v : Compute) : (s.setComp v).frame = s.frame := rfl
@[simp] theorem State.setHbm_frame (s : State) (v : Mem) : (s.setHbm v).frame = s.frame := rfl
@[simp] theorem State.setMem_frame (s : State) (v : MemSys) : (s.setMem v).frame = s.frame := rfl
@[simp] theorem State.setFabric_frame (s : State) (v : Fabric) : (s.setFabric v).frame = s.frame := rfl
@[simp] theorem State.setInteg_frame (s : State) (v : Integ) : (s.setInteg v).frame = s.frame := rfl
@[simp] theorem State.setRst_frame (s : State) (v : RstMod) : (s.setRst v).frame = s.frame := rfl

@[simp] theorem State.setStand_frame (s : State) (i : Nat) (x : StandSt) :
    (State.setStand s i x).frame = s.frame := by
  rfl

@[simp] theorem State.setDie_frame (s : State) (d : Nat) (x : DieSt) :
    (State.setDie s d x).frame = s.frame := by
  rfl

@[simp] theorem State.setCore_frame (s : State) (c : Nat) (x : CoreSt) :
    (State.setCore s c x).frame = s.frame := by
  rfl

@[simp] theorem State.setArray_frame (s : State) (g : Nat) (x : ArraySt) :
    (State.setArray s g x).frame = s.frame := by
  rfl

@[simp] theorem State.setCluster_frame (s : State) (x : Nat) (v : ClusterSt) :
    (State.setCluster s x v).frame = s.frame := by
  rfl

@[simp] theorem State.setStack_frame (s : State) (n : Nat) (x : StackSt) :
    (State.setStack s n x).frame = s.frame := by
  rfl

@[simp] theorem State.setLand_frame (s : State) (n : Nat) (x : LandDie) :
    (State.setLand s n x).frame = s.frame := by
  rfl

@[simp] theorem State.setUgroup_frame (s : State) (k : Nat) (x : UGroup) :
    (State.setUgroup s k x).frame = s.frame := by
  rfl

@[simp] theorem State.setPort_frame (s : State) (p : Nat) (x : PortSt) :
    (State.setPort s p x).frame = s.frame := by
  rfl

@[simp] theorem State.setBond_frame (s : State) (b : Nat) (x : BondSt) :
    (State.setBond s b x).frame = s.frame := by
  rfl

@[simp] theorem State.setLink_frame (s : State) (l : LinkId) (x : HostLink) (h : x.up = (s.link l).up) :
    (s.setLink l x).frame = s.frame := by
  cases l <;> simp_all [State.setLink, State.link, State.frame]

@[simp] theorem State.setMbox_frame (s : State) (m : Nat) (x : Mbox) :
    (State.setMbox s m x).frame = s.frame := by
  rfl

@[simp] theorem State.count_frame (s : State) (k n : Nat) :
    (State.count s k n).frame = s.frame := by
  unfold State.count; simp

@[simp] theorem State.countStand_frame (s : State) (st c : Nat) :
    (State.countStand s st c).frame = s.frame := by
  unfold State.countStand; simp

@[simp] theorem State.countModule_frame (s : State) (c : Nat) :
    (State.countModule s c).frame = s.frame := by
  unfold State.countModule; simp

@[simp] theorem State.send_frame (s : State) (o : Output) :
    (State.send s o).frame = s.frame := by
  unfold State.send; simp

@[simp] theorem State.tookFree_frame (s : State) :
    (State.tookFree s).frame = s.frame := by
  unfold State.tookFree; simp

@[simp] theorem State.event_frame (s : State) (code unit data : Nat) :
    (State.event s code unit data).frame = s.frame := by
  unfold State.event; simp

@[simp] theorem State.wear_frame (s : State) (kind cause unit detail : Nat) :
    (State.wear s kind cause unit detail).frame = s.frame := by
  unfold State.wear; simp

@[simp] theorem State.mark_frame (s : State) (st : Nat) (step : Option W64) (cause : Nat) :
    (State.mark s st step cause).frame = s.frame := by
  unfold State.mark; split <;> simp

@[simp] theorem State.openWindow_frame (s : State) (st : Nat) :
    (State.openWindow s st).frame = s.frame := by
  unfold State.openWindow; simp

@[simp] theorem State.monitorMarks_frame (l : List Nat) : ∀ s : State, (s.monitorMarks l).frame = s.frame := by
  induction l with
  | nil => intro s; rfl
  | cons a l ih => intro s; unfold State.monitorMarks; simp [ih, foldl_frame]

@[simp] theorem State.setDieLink_frame (s : State) (d port : Nat) (x : DieLink) :
    (State.setDieLink s d port x).frame = s.frame := by
  rfl

@[simp] theorem State.substitute_frame (s : State) (d sp : Nat) :
    (State.substitute s d sp).frame = s.frame := by
  unfold State.substitute; simp

@[simp] theorem State.flushFlash_frame (s : State) :
    (State.flushFlash s).frame = s.frame := by
  unfold State.flushFlash; simp

@[simp] theorem State.decideChipReset_frame (s : State) (cause : Nat) :
    (State.decideChipReset s cause).frame = s.frame := by
  unfold State.decideChipReset; split <;> simp

@[simp] theorem State.wardenReset_frame (s : State) (cause : Nat) :
    (State.wardenReset s cause).frame = s.frame := by
  unfold State.wardenReset; (repeat' split) <;> simp

@[simp] theorem State.journalled_frame (s : State) : s.journalled.frame = s.frame := by
  refine (foldl_frame _ (fun t d => ?_) _ _).trans rfl
  split <;> simp

@[simp] theorem State.onDies_frame (s : State) (ds : List Nat) (f : DieSt → DieSt) :
    (State.onDies s ds f).frame = s.frame := by
  unfold State.onDies; simp

@[simp] theorem State.excursion_frame (s : State) (ds : List Nat) (kind c : Nat) :
    (State.excursion s ds kind c).frame = s.frame := by
  unfold State.excursion; simp

@[simp] theorem State.msix_frame (s : State) (l : LinkId) (v : Nat) :
    (State.msix s l v).frame = s.frame := by
  unfold State.msix; dsimp only; (repeat' split) <;> simp

@[simp] theorem State.msixFlush_frame (s : State) (l : LinkId) : (s.msixFlush l).frame = s.frame := by
  unfold State.msixFlush; dsimp only
  split
  · rfl
  · rw [State.setSent_frame, State.setLink_frame]; rfl

@[simp] theorem State.writeSlot_frame (s : State) (st n : Nat) (link : LinkId) (bytes : List Byte) (status : W16)
    (payload : List Byte) :
    (State.writeSlot s st n link bytes status payload).frame = s.frame := by
  unfold State.writeSlot; simp

@[simp] theorem State.setChute_frame (s : State) (st : Nat) (c : Chute) :
    (State.setChute s st c).frame = s.frame := by
  rfl

@[simp] theorem State.chuteWrite_frame (s : State) (link : LinkId) (st offset : Nat) (data : List Byte) :
    (State.chuteWrite s link st offset data).frame = s.frame := by
  unfold State.chuteWrite; dsimp only; (repeat' split) <;> simp

theorem execChuteWrite_frame (link : LinkId) (stand offset : Nat) (data : List Byte) (s : State) :
    ∀ u, execChuteWrite link stand offset data s = .next u → u.frame = s.frame := by
  intro u h; simp only [execChuteWrite, Host.Outcome.next.injEq] at h; subst h; split <;> simp

theorem execChutePtrMismatch_frame (stand : Nat) (s : State) :
    ∀ u, execChutePtrMismatch stand s = .next u → u.frame = s.frame := by
  intro u h; simp only [execChutePtrMismatch, Host.Outcome.next.injEq] at h; subst h; split <;> simp

@[simp] theorem State.drop_frame (s : State) (st : Nat) :
    (State.drop s st).frame = s.frame := by
  unfold State.drop; split <;> simp

theorem execDrop_frame (link : LinkId) (stand : Nat) (s : State) :
    ∀ u, execDrop link stand s = .next u → u.frame = s.frame := by
  intro u h; simp only [execDrop, Host.Outcome.next.injEq] at h; subst h; split <;> simp

@[simp] theorem State.release_frame (s : State) (st slot : Nat) (gen : W16) :
    (State.release s st slot gen).frame = s.frame := by
  unfold State.release; dsimp only; (repeat' split) <;> simp

theorem execResRelease_frame (link : LinkId) (stand slot : Nat) (gen : W16) (s : State) :
    ∀ u, execResRelease link stand slot gen s = .next u → u.frame = s.frame := by
  intro u h; simp only [execResRelease, Host.Outcome.next.injEq] at h; subst h; split <;> simp

@[simp] theorem State.reportSlot_frame (s : State) (st : Nat) (c : Cmd) (payload : List Byte) :
    (State.reportSlot s st c payload).frame = s.frame := by
  unfold State.reportSlot; (repeat' split) <;> simp

@[simp] theorem State.applySignal_frame (s : State) (st : Nat) (c : Cmd) :
    (State.applySignal s st c).frame = s.frame := by
  unfold State.applySignal; dsimp only; (repeat' split) <;> simp

@[simp] theorem State.finish_frame (s : State) (st : Nat) (c : Cmd) (payload : List Byte) :
    (State.finish s st c payload).frame = s.frame := by
  unfold State.finish; simp

@[simp] theorem State.addFault_frame (s : State) (w : Nat) (pos : Option Nat) :
    (State.addFault s w pos).frame = s.frame := by
  rfl

@[simp] theorem State.noteWord_frame (s : State) (w : Nat) :
    (State.noteWord s w).frame = s.frame := by
  unfold State.noteWord; (repeat' split) <;> simp

@[simp] theorem State.noteWords_frame (s : State) (ws : List Nat) :
    (State.noteWords s ws).frame = s.frame := by
  unfold State.noteWords; (repeat' split) <;> simp [foldl_frame]

@[simp] theorem State.noteSoft_frame (s : State) (a n : Nat) :
    (State.noteSoft s a n).frame = s.frame := by
  unfold State.noteSoft; simp

@[simp] theorem State.noteMerge_frame (s : State) (ks : List Nat) :
    (State.noteMerge s ks).frame = s.frame := by
  unfold State.noteMerge; (repeat' split) <;> simp

@[simp] theorem State.writeKey_frame (s : State) (k : Nat) (bs : List Byte) :
    (State.writeKey s k bs).frame = s.frame := by
  unfold State.writeKey; simp

@[simp] theorem State.writeSoftN_frame (n : Nat) :
    ∀ (s : State) (a : Nat) (bs : List Byte), (State.writeSoftN s n a bs).frame = s.frame := by
  induction n with
  | zero => intros; rfl
  | succ n ih => intro s a bs; cases bs with
    | nil => rfl
    | cons b bs => unfold State.writeSoftN; dsimp only; rw [ih]; split <;> simp

@[simp] theorem State.writeSoft_frame (s : State) (a : Nat) (bs : List Byte) :
    (State.writeSoft s a bs).frame = s.frame := by
  unfold State.writeSoft; simp

@[simp] theorem State.setCmd_frame (s : State) (st : Nat) (c : Cmd) :
    (State.setCmd s st c).frame = s.frame := by
  rfl

@[simp] theorem State.engineDone_frame (s : State) (st : Nat) (c : Cmd) :
    (State.engineDone s st c).frame = s.frame := by
  unfold State.engineDone; simp

@[simp] theorem State.countFmt_frame (s : State) (st : Nat) (w : WrCount) :
    (State.countFmt s st w).frame = s.frame := by
  unfold State.countFmt; simp

@[simp] theorem State.markCmd_frame (s : State) (st : Nat) (c : Cmd) (cause : Nat) :
    (State.markCmd s st c cause).frame = s.frame := by
  unfold State.markCmd; simp

@[simp] theorem State.countDone_frame (s : State) (st op : Nat) :
    (State.countDone s st op).frame = s.frame := by
  unfold State.countDone; simp [foldl_frame]

@[simp] theorem State.writeRegionN_frame (n : Nat) :
    ∀ (s : State) (r a : Nat) (bs : List Byte), (State.writeRegionN s r n a bs).frame = s.frame := by
  induction n with
  | zero => intros; rfl
  | succ n ih => intro s r a bs; cases bs with
    | nil => rfl
    | cons b bs => unfold State.writeRegionN; dsimp only; rw [ih]; simp

@[simp] theorem State.writeRegion_frame (s : State) (r off : Nat) (bs : List Byte) :
    (State.writeRegion s r off bs).frame = s.frame := by
  unfold State.writeRegion; simp

@[simp] theorem State.copyRegion_frame (s : State) (src dst off n : Nat) :
    (State.copyRegion s src dst off n).frame = s.frame := by
  unfold State.copyRegion; simp

@[simp] theorem State.poisonWords_frame (s : State) (ws : List Nat) :
    (State.poisonWords s ws).frame = s.frame := by
  unfold State.poisonWords; simp

@[simp] theorem State.handover_frame (s : State) (src dst : Nat) :
    (State.handover s src dst).frame = s.frame := by
  unfold State.handover; simp

@[simp] theorem State.markDie_frame (s : State) (d : Nat) :
    (State.markDie s d).frame = s.frame := by
  unfold State.markDie; dsimp only; (repeat' split) <;> simp

@[simp] theorem State.orphanCore_frame (s : State) (c : Nat) :
    (State.orphanCore s c).frame = s.frame := by
  unfold State.orphanCore; simp

@[simp] theorem State.coppice_frame (s : State) (px : Nat) :
    (State.coppice s px).frame = s.frame := by
  unfold State.coppice; (repeat' split) <;> simp

@[simp] theorem State.cruiseBack_frame (s : State) (px : Nat) :
    (State.cruiseBack s px).frame = s.frame := by
  unfold State.cruiseBack; (repeat' split) <;> simp

@[simp] theorem State.cruiseEnds_frame (s : State) (px k : Nat) :
    (State.cruiseEnds s px k).frame = s.frame := by
  unfold State.cruiseEnds; (repeat' split) <;> simp

@[simp] theorem State.cruiseGivesWay_frame (s : State) (c : Nat) :
    (State.cruiseGivesWay s c).1.frame = s.frame := by
  unfold State.cruiseGivesWay; dsimp only; (repeat' split) <;> simp

@[simp] theorem State.replaceCore_frame (s : State) (c : Nat) :
    (State.replaceCore s c).frame = s.frame := by
  unfold State.replaceCore; (repeat' split) <;> simp

@[simp] theorem State.retireCore_frame (s : State) (c cause : Nat) :
    (State.retireCore s c cause).frame = s.frame := by
  unfold State.retireCore; dsimp only; (repeat' split) <;> simp

@[simp] theorem State.retireDecided_frame (s : State) :
    (State.retireDecided s).frame = s.frame := by
  unfold State.retireDecided; simp [foldl_frame]

@[simp] theorem State.retireAfter_frame (s : State) (st ticket c cause : Nat) :
    (State.retireAfter s st ticket c cause).frame = s.frame := by
  unfold State.retireAfter; simp

@[simp] theorem State.retireNow_frame (s : State) (st ticket : Nat) :
    (State.retireNow s st ticket).frame = s.frame := by
  unfold State.retireNow; simp [foldl_frame]

@[simp] theorem State.judgeCore_frame (s : State) (st ticket c cause : Nat) :
    (State.judgeCore s st ticket c cause).frame = s.frame := by
  unfold State.judgeCore; split <;> simp

@[simp] theorem State.capture_frame (s : State) (c : Nat) (x : Capture) :
    (State.capture s c x).frame = s.frame := by
  unfold State.capture; split <;> simp

@[simp] theorem State.confirmArray_frame (s : State) (st ticket g : Nat) (col : Option Nat) (note : Nat) :
    (State.confirmArray s st ticket g col note).frame = s.frame := by
  unfold State.confirmArray; simp

@[simp] theorem State.confirmCaptured_frame (s : State) (st ticket g : Nat) (col : Option Nat) (x : Capture) :
    (State.confirmCaptured s st ticket g col x).frame = s.frame := by
  unfold State.confirmCaptured; simp

@[simp] theorem State.alarmArray_frame (s : State) (st ticket g : Nat) (cap : Capture) :
    (State.alarmArray s st ticket g cap).frame = s.frame := by
  unfold State.alarmArray; dsimp only; (repeat' split) <;> simp

@[simp] theorem State.confirmShared_frame (s : State) (st ticket c : Nat) :
    (State.confirmShared s st ticket c).frame = s.frame := by
  unfold State.confirmShared; simp

@[simp] theorem State.confirmLane_frame (s : State) (st ticket c lane : Nat) :
    (State.confirmLane s st ticket c lane).frame = s.frame := by
  unfold State.confirmLane; simp

@[simp] theorem State.noteSpad_frame (s : State) (c corrected bad : Nat) :
    (State.noteSpad s c corrected bad).frame = s.frame := by
  unfold State.noteSpad; simp

@[simp] theorem State.onGroups_frame (s : State) (ks : List Nat) (f : UGroup → UGroup) :
    (State.onGroups s ks f).frame = s.frame := by
  unfold State.onGroups; simp [foldl_frame]

@[simp] theorem State.damage_frame (s : State) (st k : Nat) :
    (State.damage s st k).frame = s.frame := by
  unfold State.damage; simp

@[simp] theorem State.stage_frame (s : State) (st die block : Nat) :
    (State.stage s st die block).frame = s.frame := by
  unfold State.stage; simp

theorem State.stageFor_frame (l : List (Nat × Nat)) : ∀ (s u : State), s.stageFor l = some u → u.frame = s.frame := by
  induction l with
  | nil => intro s u h; cases h; rfl
  | cons r l ih =>
    intro s u h; unfold State.stageFor at h; dsimp only at h; split at h
    · cases h
    · rw [ih _ _ h]; simp [foldl_frame]

theorem execCopyAhead_frame (die stand block : Nat) (s : State) :
    ∀ u, execCopyAhead die stand block s = .next u → u.frame = s.frame := by
  intro u h; simp only [execCopyAhead, Host.Outcome.next.injEq] at h; subst h; split <;> simp

@[simp] theorem State.setSpad_frame (s : State) (c : Nat) (m : Mem) :
    (State.setSpad s c m).frame = s.frame := by
  rfl

@[simp] theorem State.unavailable_frame (s : State) (st : Nat) (c : Cmd) :
    (State.unavailable s st c).1.frame = s.frame := by
  unfold State.unavailable; simp

@[simp] theorem State.operandPoison_frame (s : State) (st : Nat) (c : Cmd) (bad : Nat) :
    (State.operandPoison s st c bad).1.frame = s.frame := by
  unfold State.operandPoison; split <;> simp

@[simp] theorem State.putProduct_frame (s : State) (st : Nat) (c : Cmd) (a : MatArgs) (r pc : Nat) (res : Array Val)
    (cnt : Bool) :
    (State.putProduct s st c a r pc res cnt).frame = s.frame := by
  unfold State.putProduct; (repeat' split) <;> simp

@[simp] theorem State.leaveCells_frame (s : State) (c : Cmd) (a : MatArgs) (r pc : Nat) (m : Mem) :
    (State.leaveCells s c a r pc m).frame = s.frame := by
  rfl

@[simp] theorem State.matCore_frame (s : State) (st : Nat) (c : Cmd) (a : MatArgs) (r pc : Nat) :
    (State.matCore s st c a r pc).1.frame = s.frame := by
  unfold State.matCore; dsimp only; (repeat' split) <;> simp

@[simp] theorem State.matCores_frame (st : Nat) (a : MatArgs) (px : Nat) (l : List Nat) :
    ∀ (s : State) (c : Cmd), (s.matCores st c a px l).1.frame = s.frame := by
  induction l with
  | nil => intros; rfl
  | cons r l ih => intro s c; unfold State.matCores; dsimp only; (repeat' split) <;> simp [ih]

@[simp] theorem State.runMat_frame (s : State) (st : Nat) (c : Cmd) :
    (State.runMat s st c).frame = s.frame := by
  unfold State.runMat; dsimp only; (repeat' split) <;> simp

theorem execMatmul_frame (stand ticket : Nat) (s : State) :
    ∀ u, execMatmul stand ticket s = .next u → u.frame = s.frame := by
  intro u h; simp only [execMatmul, Host.Outcome.next.injEq] at h; subst h; (repeat' split) <;> simp

theorem execMatmulPlane_frame (stand ticket : Nat) (s : State) :
    ∀ u, execMatmulPlane stand ticket s = .next u → u.frame = s.frame := by
  intro u h; simp only [execMatmulPlane, Host.Outcome.next.injEq] at h; subst h; (repeat' split) <;> simp

@[simp] theorem State.noteOperands_frame (s : State) (st : Nat) (c : Cmd) (pc : Nat) (ds : List Desc) :
    (State.noteOperands s st c pc ds).1.frame = s.frame := by
  unfold State.noteOperands; split <;> simp

@[simp] theorem State.vecCore_frame (s : State) (st : Nat) (c : Cmd) (a : VecArgs) (pc : Nat) :
    (State.vecCore s st c a pc).1.frame = s.frame := by
  unfold State.vecCore; simp

theorem State.onCores_frame (st px : Nat) (f : State → Cmd → Nat → State × Cmd)
    (h : ∀ u c pc, (f u c pc).1.frame = u.frame) (l : List Nat) :
    ∀ (s : State) (c : Cmd), (s.onCores st c px f l).1.frame = s.frame := by
  induction l with
  | nil => intros; rfl
  | cons r l ih => intro s c; unfold State.onCores; dsimp only; (repeat' split) <;> simp [ih, h]

theorem execVecop_frame (stand ticket : Nat) (s : State) :
    ∀ u, execVecop stand ticket s = .next u → u.frame = s.frame := by
  intro u h
  simp only [execVecop, Host.Outcome.next.injEq] at h
  subst h
  (repeat' split) <;> simp [State.onCores_frame]

@[simp] theorem State.putEntries_frame (s : State) (pc e : Nat) (l : List (Val × Val)) :
    (State.putEntries s pc e l).frame = s.frame := by
  unfold State.putEntries; simp

@[simp] theorem State.rowCore_frame (s : State) (st : Nat) (c : Cmd) (a : RowArgs) (pc : Nat) :
    (s.rowCore st c a pc).1.frame = s.frame := by
  unfold State.rowCore
  extract_lets x ef lf
  generalize hp : s.noteOperands st c pc a.inputs = p
  have h1 : p.1.frame = s.frame := by rw [← hp]; simp
  obtain ⟨t1, c1⟩ := p
  dsimp only at h1 ⊢
  generalize h : t1.noteSpad pc (ef.1 + lf.1) (ef.2 + lf.2) = t2
  have h2 : t2.frame = s.frame := by rw [← h]; simp [h1]
  generalize hq : (if c1.statuses.contains 0x01f6 then (t2.count (kStand st cIntOperandPoison) (ef.2 + lf.2), c1)
    else t2.operandPoison st c1 (ef.2 + lf.2)) = q
  have h3 : q.1.frame = s.frame := by rw [← hq]; split <;> simp [h2]
  obtain ⟨t3, c3⟩ := q
  dsimp only at h3 ⊢
  (repeat' split) <;> simp [h3]

@[simp] theorem State.settleTaps_frame (st : Nat) (l : List Nat) : ∀ s : State,
    (s.settleTaps st l).frame = s.frame := by
  induction l with
  | nil => intros; rfl
  | cons r l ih =>
    intro s; unfold State.settleTaps; simp only [ih]
    rw [foldl_frame _ (by intro u a; split <;> simp)]; simp

@[simp] theorem State.endTaps_frame (s : State) (st : Nat) :
    (State.endTaps s st).frame = s.frame := by
  unfold State.endTaps; simp

@[simp] theorem State.settleStand_frame (s : State) (st : Nat) :
    (State.settleStand s st).frame = s.frame := by
  unfold State.settleStand; simp

theorem execRowop_frame (stand ticket : Nat) (s : State) :
    ∀ u, execRowop stand ticket s = .next u → u.frame = s.frame := by
  intro u h
  simp only [execRowop, Host.Outcome.next.injEq] at h
  subst h
  (repeat' split) <;> simp [State.onCores_frame]

@[simp] theorem State.armOn_frame (s : State) (st : Nat) (c : Cmd) (pc : Nat) :
    (State.armOn s st c pc).frame = s.frame := by
  rfl

@[simp] theorem State.armTap_frame (s : State) (st : Nat) (c : Cmd) :
    (State.armTap s st c).frame = s.frame := by
  unfold State.armTap; dsimp only; (repeat' split) <;> simp [foldl_frame]

@[simp] theorem State.tapOrder_frame (s : State) (st pc : Nat) (t : Tap) :
    (State.tapOrder s st pc t).frame = s.frame := by
  unfold State.tapOrder; simp

theorem execTapTile_frame (stand ticket core tile : Nat) (s : State) :
    ∀ u, execTapTile stand ticket core tile s = .next u → u.frame = s.frame := by
  intro u h; simp only [execTapTile, Host.Outcome.next.injEq] at h; subst h; (repeat' split) <;> simp

@[simp] theorem State.emit_frame (s : State) (e vc part : Nat) (t : Txn) (owner : Nat × Nat) :
    (State.emit s e vc part t owner).frame = s.frame := by
  unfold State.emit; (repeat' split) <;> simp

@[simp] theorem State.emitTime_frame (s : State) (e : Nat) (t : Txn) (stamp : Stamp) :
    (State.emitTime s e t stamp).frame = s.frame := by
  rfl

@[simp] theorem State.sendReq_frame (s : State) (st e : Nat) (h : HeldReq) :
    (State.sendReq s st e h).frame = s.frame := by
  unfold State.sendReq; simp

@[simp] theorem State.ask_frame (s : State) (st : Nat) (h : HeldReq) :
    (State.ask s st h).1.frame = s.frame := by
  unfold State.ask; dsimp only; (repeat' split) <;> simp

@[simp] theorem State.requestWith_frame (s : State) (st ttype : Nat) (dst : W16) (dstand addr : Nat) (meta_ payload : List Byte) (diffs : Tab (Byte × Byte)) (coll : Bool) (what : ReqFor) :
    (State.requestWith s st ttype dst dstand addr meta_ payload diffs coll what).1.frame = s.frame := by
  unfold State.requestWith; simp

@[simp] theorem State.request_frame (s : State) (st ttype : Nat) (dst : W16) (dstand addr : Nat) (meta_ payload : List Byte) (coll : Bool) (what : ReqFor) :
    (State.request s st ttype dst dstand addr meta_ payload coll what).1.frame = s.frame := by
  unfold State.request; simp

@[simp] theorem State.sendOnly_frame (s : State) (ttype : Nat) (dst : W16) (payload : List Byte) :
    (State.sendOnly s ttype dst payload).frame = s.frame := by
  unfold State.sendOnly; split <;> simp

@[simp] theorem State.respondWith_frame (s : State) (q : Txn) (status : Nat) (payload : List Byte) (diffs : Tab (Byte × Byte)) :
    (State.respondWith s q status payload diffs).frame = s.frame := by
  unfold State.respondWith; (repeat' split) <;> simp

@[simp] theorem State.respond_frame (s : State) (q : Txn) (status : Nat) (payload : List Byte) :
    (State.respond s q status payload).frame = s.frame := by
  unfold State.respond; simp

@[simp] theorem State.endReq_frame (s : State) (st tag : Nat) :
    (State.endReq s st tag).frame = s.frame := by
  unfold State.endReq; simp

@[simp] theorem State.oweCredit_frame (s : State) (p vc : Nat) :
    (State.oweCredit s p vc).frame = s.frame := by
  rfl

@[simp] theorem State.freeFlits_frame (s : State) (vc : Nat) (rs : List (Nat × Nat)) :
    (s.freeFlits vc rs).frame = s.frame := by
  refine foldl_frame _ (fun u r => ?_) _ _
  split <;> simp

theorem State.takeRx_frame (s : State) (p : Nat) (t : Txn) : ∀ u, s.takeRx p t = some u → u.frame = s.frame := by
  intro u h
  simp only [State.takeRx, Option.map_eq_some_iff] at h
  obtain ⟨y, -, rfl⟩ := h
  simp

theorem State.takeRequest_frame (s : State) (p : Nat) (t : Txn) (ttype : Nat) :
    ∀ u, s.takeRequest p t ttype = some u → u.frame = s.frame := by
  intro u h
  unfold State.takeRequest at h
  split at h
  · exact State.takeRx_frame s p t u h
  · cases h

@[simp] theorem State.putRegion_frame (s : State) (r : Nat) (off n : Nat) (bs : List (Nat × Byte)) :
    (State.putRegion s r off n bs).frame = s.frame := by
  unfold State.putRegion; simp

@[simp] theorem State.optWrite_frame (s t : State) (k : Nat) (twin : Bool) (x : Nat × FmtWord) (w : RoleWr)
    (bad : List Nat) :
    (State.optWrite s t k twin x w bad).frame = t.frame := by
  unfold State.optWrite; dsimp only; split <;> simp

@[simp] theorem State.optim_frame (s : State) (st : Nat) (c : Cmd) (k : Nat) : (s.optim st c k).frame = s.frame := by
  unfold State.optim
  extract_lets _ _ _ _ _ _ _ t1 t2
  split; extract_lets _ _ _ _ _ _ _ t3 _ t4 t5 t6 pay
  have e1 : t1.frame = s.frame := by simp only [t1]; split <;> simp [foldl_frame]
  have e2 : t2.frame = s.frame := by simp only [t2]; simp [e1]
  have e3 : t3.frame = s.frame := by simp only [t3]; rw [foldl_frame _ (by intros; simp)]; exact e2
  have e4 : t4.frame = s.frame := by simp only [t4, State.setUgroup_frame]; exact e3
  have e5 : t5.frame = s.frame := by simp only [t5, State.count_frame, State.countFmt_frame]; exact e4
  have e6 : t6.frame = s.frame := by simp only [t6]; split <;> simp [e5]
  simp only [State.engineDone_frame, e6]

theorem execOptim_frame (stand ticket : Nat) (s : State) :
    ∀ u, execOptim stand ticket s = .next u → u.frame = s.frame := by
  intro u h; simp only [execOptim, Host.Outcome.next.injEq] at h; subst h
  split
  · rfl
  split
  · rfl
  split
  · rw [State.optim_frame]; exact State.stageFor_frame _ _ _ ‹_›
  · rfl

@[simp] theorem State.accum_frame (s : State) (st : Nat) (c : Cmd) (k : Nat) :
    (State.accum s st c k).frame = s.frame := by
  unfold State.accum; dsimp only; (repeat' split) <;> simp

theorem execAccum_frame (stand ticket : Nat) (s : State) :
    ∀ u, execAccum stand ticket s = .next u → u.frame = s.frame := by
  intro u h; simp only [execAccum, Host.Outcome.next.injEq] at h; subst h; (repeat' split) <;> simp

@[simp] theorem State.sealGroups_frame (s : State) (ks : List Nat) :
    (State.sealGroups s ks).frame = s.frame := by
  unfold State.sealGroups; simp

@[simp] theorem State.digest_frame (s : State) (st : Nat) (c : Cmd) :
    (State.digest s st c).frame = s.frame := by
  unfold State.digest; dsimp only; (repeat' split) <;> simp

theorem execDigest_frame (stand ticket : Nat) (s : State) :
    ∀ u, execDigest stand ticket s = .next u → u.frame = s.frame := by
  intro u h; simp only [execDigest, Host.Outcome.next.injEq] at h; subst h; split <;> simp

@[simp] theorem State.zeroRegion_frame (s : State) (r : Nat) :
    (State.zeroRegion s r).frame = s.frame := by
  unfold State.zeroRegion; simp

@[simp] theorem State.sweepRegion_frame (s : State) (r : Nat) :
    (State.sweepRegion s r).frame = s.frame := by
  unfold State.sweepRegion; split <;> simp

@[simp] theorem State.sweep_frame (s : State) (st : Nat) (c : Cmd) :
    (State.sweep s st c).frame = s.frame := by
  unfold State.sweep; simp [foldl_frame]

theorem execSweep_frame (stand ticket : Nat) (s : State) :
    ∀ u, execSweep stand ticket s = .next u → u.frame = s.frame := by
  intro u h; simp only [execSweep, Host.Outcome.next.injEq] at h; subst h; (repeat' split) <;> simp

@[simp] theorem State.setStore_frame (s : State) (id : StoreId) (m : Mem) : (s.setStore id m).frame = s.frame := by
  cases id <;> simp [State.setStore]

@[simp] theorem State.noteStored_frame (s : State) (ws : List (StoreId × Nat)) :
    (State.noteStored s ws).frame = s.frame := by
  unfold State.noteStored
  (repeat' split) <;> first | (simp; done) | (apply foldl_frame; intro u a; (repeat' split) <;> simp)

@[simp] theorem State.putSpots_frame (s : State) (ws : List (Spot × Byte)) (bad : List BadWord) :
    (s.putSpots ws bad).frame = s.frame := by
  unfold State.putSpots
  rw [State.setFreeCtr_frame]
  refine foldl_frame _ (fun u id => ?_) _ _
  split <;> simp

@[simp] theorem State.mixSpots_frame (s : State) (ws : List (Spot × Byte)) (bad : List BadWord) :
    (State.mixSpots s ws bad).frame = s.frame := by
  unfold State.mixSpots; simp

@[simp] theorem State.onRec_frame (s : State) (st : Nat) (step : W64) (f : StepRec → StepRec) :
    (State.onRec s st step f).frame = s.frame := by
  unfold State.onRec; simp

@[simp] theorem State.overflowRec_frame (s : State) (st : Nat) (step : W64) :
    (State.overflowRec s st step).frame = s.frame := by
  unfold State.overflowRec; (repeat' split) <;> simp

@[simp] theorem State.recordItem_frame (s : State) (st : Nat) (step : W64) (n : Nat) (f : StepRec → StepRec) :
    (State.recordItem s st step n f).frame = s.frame := by
  unfold State.recordItem; (repeat' split) <;> simp

@[simp] theorem State.recordCmd_frame (s : State) (st : Nat) (step : W64) (c : LoggedCmd) :
    (State.recordCmd s st step c).frame = s.frame := by
  unfold State.recordCmd; simp

@[simp] theorem State.recordEntry_frame (s : State) (st : Nat) (step : Option W64) :
    (State.recordEntry s st step).frame = s.frame := by
  unfold State.recordEntry; split <;> simp

@[simp] theorem State.recordKept_frame (s : State) (st : Nat) (step : W64) (k : KeptResult) :
    (State.recordKept s st step k).frame = s.frame := by
  unfold State.recordKept; dsimp only; (repeat' split) <;> simp

@[simp] theorem State.settle_frame (s : State) (st : Nat) (p : LateEntry → Bool) (d : LateDisp) :
    (State.settle s st p d).frame = s.frame := by
  rfl

@[simp] theorem State.endStep_frame (s : State) (st : Nat) (r : StepRec) (status : List W16) :
    (State.endStep s st r status).frame = s.frame := by
  unfold State.endStep; (repeat' split) <;> simp

@[simp] theorem State.applySteps_frame (s : State) (st : Nat) :
    (State.applySteps s st).frame = s.frame := by
  unfold State.applySteps; simp [foldl_frame]

@[simp] theorem State.discardRecords_frame (s : State) (st : Nat) :
    (State.discardRecords s st).frame = s.frame := by
  unfold State.discardRecords; simp [foldl_frame]

@[simp] theorem State.setColl_frame (s : State) (st : Nat) (y : Coll) :
    (State.setColl s st y).frame = s.frame := by
  rfl

@[simp] theorem State.askColl_frame (s : State) (st ttype : Nat) (y : Coll) (dev : W16) (ds addr k r : Nat) (meta_ payload : List Byte) :
    (State.askColl s st ttype y dev ds addr k r meta_ payload).1.frame = s.frame := by
  unfold State.askColl; simp

@[simp] theorem State.keepUnsent_frame (s : State) (st ticket k owner : Nat) :
    (State.keepUnsent s st ticket k owner).frame = s.frame := by
  unfold State.keepUnsent; (repeat' split) <;> simp

@[simp] theorem State.sendContrib_frame (s : State) (st : Nat) (y : Coll) (my k owner : Nat) :
    (s.sendContrib st y my k owner).frame = s.frame := by
  unfold State.sendContrib
  dsimp only; split
  · rfl
  · refine foldl_frame _ (fun u p => ?_) _ _
    rename_i dev ds _
    have h := State.askColl_frame u st 3 y dev ds (4096 * p.2) k owner
      (contribMeta y my (s.taintNow st y) (segShift (s.mtab st y.mtab).members.length k owner)) (codeBytes p.1)
    split <;> rename_i g <;> rw [g] at h <;> simpa using h

@[simp] theorem State.sendResult_frame (s : State) (st : Nat) (y : Coll) (k : Nat) (vs : List W32) (taint : Bool)
    (es : List LateEntry) (r : Nat) :
    (State.sendResult s st y k vs taint es r).frame = s.frame := by
  unfold State.sendResult; (repeat' split) <;> simp [foldl_frame]

@[simp] theorem State.resultWhole_frame (s : State) (st : Nat) (y : Coll) (taint : Bool) :
    (State.resultWhole s st y taint).frame = s.frame := by
  unfold State.resultWhole; split <;> simp

@[simp] theorem State.putPart_frame (s : State) (st : Nat) (y : Coll) (k o : Nat) (vs : List W32) (taint : Bool) :
    (State.putPart s st y k o vs taint).frame = s.frame := by
  unfold State.putPart; dsimp only; (repeat' split) <;> simp

@[simp] theorem State.lateSample_frame (s : State) (st coll ns : Nat) :
    (State.lateSample s st coll ns).frame = s.frame := by
  unfold State.lateSample; simp

@[simp] theorem State.matchStaged_frame (s : State) (st : Nat) (y : Coll) :
    (State.matchStaged s st y).frame = s.frame := by
  unfold State.matchStaged; simp

@[simp] theorem State.addEntry_frame (s : State) (st : Nat) (e : LateEntry) :
    (State.addEntry s st e).frame = s.frame := by
  unfold State.addEntry; simp

@[simp] theorem State.settleLate_frame (s : State) (st : Nat) (c : Contrib) (e : LateEntry) :
    (State.settleLate s st c e).frame = s.frame := by
  rfl

theorem State.putResult_frame (s : State) (st : Nat) (c : Cmd) (d : Desc) (val : Nat → Option W32) :
    ∀ u, s.putResult st c d val = some u → u.1.frame = s.frame := by
  intro u h
  unfold State.putResult at h
  split at h
  · cases h; split <;> simp
  · split at h
    · cases h
    · simp only [Option.map_eq_some_iff] at h
      obtain ⟨t, ht, rfl⟩ := h
      simp [State.stageFor_frame _ _ t ht]

@[simp] theorem State.rewatch_frame (s : State) (st : Nat) :
    (State.rewatch s st).frame = s.frame := by
  unfold State.rewatch; simp

@[simp] theorem State.putRemote_frame (s : State) (st : Nat) (c : Cmd) (d : Desc) (ws : List (Spot × Byte)) (bad : List Spot)
    (k : Nat) : (s.putRemote st c d ws bad k).1.frame = s.frame :=
  foldl_frame_fst _ (fun a b => by simp) _ _

@[simp] theorem State.getRemote_frame (s : State) (st : Nat) (c : Cmd) (d : Desc) (k : Nat) :
    (State.getRemote s st c d k).1.frame = s.frame := by
  unfold State.getRemote; simp [foldl_frame_fst]

@[simp] theorem State.ownerGone_frame (s : State) (st : Nat) (c : Cmd) (n : Nat) :
    (State.ownerGone s st c n).1.frame = s.frame := by
  unfold State.ownerGone; split <;> simp

@[simp] theorem State.poisonMoved_frame (s : State) (st : Nat) (c : Cmd) (n : Nat) :
    (State.poisonMoved s st c n).1.frame = s.frame := by
  unfold State.poisonMoved; split <;> simp

@[simp] theorem State.indexRange_frame (s : State) (st : Nat) (c : Cmd) (n : Nat) :
    (State.indexRange s st c n).1.frame = s.frame := by
  unfold State.indexRange; split <;> simp

@[simp] theorem State.skidDone_frame (s : State) (st : Nat) (c : Cmd) (lines bad coll first : Nat) :
    (State.skidDone s st c lines bad coll first).frame = s.frame := by
  unfold State.skidDone; simp

@[simp] theorem State.skidAbsent_frame (s : State) (st : Nat) (c : Cmd) :
    (State.skidAbsent s st c).frame = s.frame := by
  unfold State.skidAbsent; simp

theorem State.transfer_frame (s : State) (st : Nat) (c : Cmd) (x : Xfer) (pick : Coord → Option Coord) (fill : Bool)
    (ix : IndexList) (lines : Nat) : ∀ u, s.transfer st c x pick fill ix lines = some u → u.frame = s.frame := by
  intro u h
  unfold State.transfer at h
  dsimp only at h
  split at h
  · cases h
  · rename_i t ht
    have hs := State.stageFor_frame _ _ t ht
    (repeat' split at h) <;> simp only [Option.some.injEq] at h <;> subst h <;> simp [foldl_frame_fst, hs]

@[simp] theorem State.putsOver_frame (s : State) (st : Nat) (c : Cmd) (d : Desc) :
    (State.putsOver s st c d).frame = s.frame := by
  unfold State.putsOver; simp

@[simp] theorem State.runXfer_frame (s : State) (st : Nat) (c : Cmd) (p : Plan) : (s.runXfer st c p).frame = s.frame := by
  unfold State.runXfer
  dsimp only; (repeat' split) <;> try (simp [foldl_frame_fst]; done)
  cases h : s.transfer st c p.x p.pick p.args.fill p.ix p.lines with
  | none => rfl
  | some u => exact State.transfer_frame _ _ _ _ _ _ _ _ u h

theorem execMove_frame (stand ticket : Nat) (s : State) :
    ∀ u, execMove stand ticket s = .next u → u.frame = s.frame := by
  intro u h; simp only [execMove, Host.Outcome.next.injEq] at h; subst h; split <;> simp

theorem execGather_frame (stand ticket : Nat) (s : State) :
    ∀ u, execGather stand ticket s = .next u → u.frame = s.frame := by
  intro u h; simp only [execGather, Host.Outcome.next.injEq] at h; subst h; split <;> simp

theorem execWindow_frame (stand ticket : Nat) (s : State) :
    ∀ u, execWindow stand ticket s = .next u → u.frame = s.frame := by
  intro u h; simp only [execWindow, Host.Outcome.next.injEq] at h; subst h; split <;> simp

theorem State.scatter_frame (s : State) (st : Nat) (c : Cmd) (a : SkidArgs) :
    ∀ u, s.scatter st c a = some u → u.frame = s.frame := by
  intro u h
  unfold State.scatter at h
  dsimp only at h
  split at h
  · cases h
  · rename_i t ht
    have hs := State.stageFor_frame _ _ t ht
    cases h; simp [hs]

@[simp] theorem State.runScatter_frame (s : State) (st : Nat) (c : Cmd) (a : SkidArgs) :
    (s.runScatter st c a).frame = s.frame := by
  unfold State.runScatter
  dsimp only; (repeat' split) <;> try (simp [foldl_frame_fst]; done)
  cases h : s.scatter st c a with
  | none => rfl
  | some u => exact State.scatter_frame _ _ _ _ u h

theorem execScatterAdd_frame (stand ticket : Nat) (s : State) :
    ∀ u, execScatterAdd stand ticket s = .next u → u.frame = s.frame := by
  intro u h; simp only [execScatterAdd, Host.Outcome.next.injEq] at h; subst h; split <;> simp

@[simp] theorem State.redSources_frame (s : State) (st : Nat) (c : Cmd) (a : RedArgs) :
    (State.redSources s st c a).1.frame = s.frame := by
  unfold State.redSources; split <;> simp

@[simp] theorem State.matchNow_frame (s : State) (st ticket : Nat) :
    (State.matchNow s st ticket).frame = s.frame := by
  unfold State.matchNow; (repeat' split) <;> simp

@[simp] theorem State.moduleDone_frame (s : State) (st : Nat) (c : Cmd) (a : RedArgs) (y : Coll) :
    (s.moduleDone st c a y).frame = s.frame := by
  unfold State.moduleDone
  dsimp only; (repeat' split) <;> try (simp [foldl_frame]; done)
  · refine (foldl_frame _ (fun u k => ?_) _ _).trans (by simp)
    split <;> simp [foldl_frame]
  · simp only [State.matchNow_frame]
    refine (foldl_frame _ (fun u k => ?_) _ _).trans (by simp)
    (repeat' split) <;> simp

@[simp] theorem State.startRed_frame (s : State) (st : Nat) (c : Cmd) :
    (State.startRed s st c).frame = s.frame := by
  unfold State.startRed; dsimp only; (repeat' split) <;> simp

@[simp] theorem State.piece_frame (s : State) (st : Nat) (c : Cmd) (y : Coll) :
    (State.piece s st c y).frame = s.frame := by
  unfold State.piece; (repeat' split) <;> simp

@[simp] theorem State.holdTruss_frame (s : State) (st : Nat) (c : Cmd) :
    (State.holdTruss s st c).frame = s.frame := by
  unfold State.holdTruss; (repeat' split) <;> simp

theorem execReductionPiece_frame (stand ticket : Nat) (s : State) :
    ∀ u, execReductionPiece stand ticket s = .next u → u.frame = s.frame := by
  intro u h; simp only [execReductionPiece, Host.Outcome.next.injEq] at h; subst h; (repeat' split) <;> simp

@[simp] theorem State.closeWindow_frame (s : State) (st : Nat) (c : Cmd) (y : Coll) (k : Nat) (late : List Nat) :
    (s.closeWindow st c y k late).frame = s.frame := by
  unfold State.closeWindow
  extract_lets may t1 t2
  rw [foldl_frame _ (by intro u r; split <;> [(split <;> simp); rfl])]
  simp only [t2]; rw [foldl_frame _ (by intros; simp)]; simp [t1]

theorem execLateWindowExpire_frame (stand ticket segment : Nat) (s : State) :
    ∀ u, execLateWindowExpire stand ticket segment s = .next u → u.frame = s.frame := by
  intro u h; simp only [execLateWindowExpire, Host.Outcome.next.injEq] at h; subst h; (repeat' split) <;> simp

@[simp] theorem State.formSegment_frame (s : State) (st : Nat) (c : Cmd) (y : Coll) (my k : Nat) (ls : List Leaf) :
    (State.formSegment s st c y my k ls).frame = s.frame := by
  unfold State.formSegment; dsimp only; (repeat' split) <;> simp [foldl_frame]

@[simp] theorem State.passOn_frame (s : State) (st : Nat) (y : Coll) (my k : Nat) :
    (State.passOn s st y my k).frame = s.frame := by
  unfold State.passOn; simp [foldl_frame]

theorem execSegmentForm_frame (stand ticket segment : Nat) (s : State) :
    ∀ u, execSegmentForm stand ticket segment s = .next u → u.frame = s.frame := by
  intro u h; simp only [execSegmentForm, Host.Outcome.next.injEq] at h; subst h; (repeat' split) <;> simp

@[simp] theorem State.stageContrib_frame (s : State) (st : Nat) (m : Meta) (k o : Nat) (vs : List W32) :
    (State.stageContrib s st m k o vs).frame = s.frame := by
  unfold State.stageContrib; dsimp only; (repeat' split) <;> simp

theorem State.takeContrib_frame (s : State) (st : Nat) (t : Txn) :
    ∀ u, State.takeContrib s st t = some u → u.frame = s.frame := by
  unfold State.takeContrib
  intro u h
  dsimp only at h
  (repeat' split at h) <;> first | (cases h; done) | (cases h; simp)

theorem execReducePut_frame (port : Nat) (txn : Txn) (s : State) :
    ∀ u, execReducePut port txn s = .next u → u.frame = s.frame := by
  intro u h; simp only [execReducePut, Host.Outcome.next.injEq] at h; subst h
  split
  · rfl
  · rename_i t h
    have hs := State.takeRequest_frame _ _ _ _ t h
    (repeat' split) <;> first | rfl | (simp [hs, foldl_frame]; done) | (simp [State.takeContrib_frame _ _ _ _ ‹_›, hs]; done)

@[simp] theorem State.takeEntries_frame (s : State) (st : Nat) (m : Meta) (payload : List Byte) (step : Option W64) :
    (State.takeEntries s st m payload step).frame = s.frame := by
  unfold State.takeEntries; simp [foldl_frame]

theorem State.takeResult_frame (s : State) (st : Nat) (t : Txn) :
    ∀ u, State.takeResult s st t = some u → u.frame = s.frame := by
  intro u h; unfold State.takeResult at h; dsimp only at h
  (repeat' split at h) <;>
    first | (cases h; rfl) | (cases h; simp [foldl_frame]; done) | (cases h; (repeat' split) <;> simp [foldl_frame]; done) | cases h

@[simp] theorem State.keepResults_frame (s : State) (st : Nat) (c : Cmd) (a : RedArgs) (y : Coll) :
    (State.keepResults s st c a y).frame = s.frame := by
  unfold State.keepResults; (repeat' split) <;> simp [foldl_frame]

@[simp] theorem State.redDone_frame (s : State) (st : Nat) (c : Cmd) (a : RedArgs) (y : Coll) :
    (State.redDone s st c a y).frame = s.frame := by
  unfold State.redDone; simp

@[simp] theorem State.endRed_frame (s : State) (st : Nat) (c : Cmd) (y : Coll) : (s.endRed st c y).frame = s.frame := by
  unfold State.endRed
  dsimp only; (repeat' split) <;> try (simp; done)
  rename_i h
  simpa using State.putResult_frame _ _ _ _ _ _ h

@[simp] theorem State.retryUnsent_frame (s : State) (st : Nat) (y : Coll) :
    (State.retryUnsent s st y).frame = s.frame := by
  unfold State.retryUnsent; simp [foldl_frame]

@[simp] theorem State.runRed_frame (s : State) (st t op : Nat) :
    (State.runRed s st t op).frame = s.frame := by
  unfold State.runRed; (repeat' split) <;> simp

theorem execReduce_frame (stand ticket : Nat) (s : State) :
    ∀ u, execReduce stand ticket s = .next u → u.frame = s.frame := by
  intro u h; simp only [execReduce, Host.Outcome.next.injEq] at h; subst h; simp

theorem execCollective_frame (stand ticket : Nat) (s : State) :
    ∀ u, execCollective stand ticket s = .next u → u.frame = s.frame := by
  intro u h; simp only [execCollective, Host.Outcome.next.injEq] at h; subst h; simp

@[simp] theorem State.deliver_frame (s : State) (st : Nat) (c : Cmd) (a : RedArgs) (y : Coll) :
    (State.deliver s st c a y).frame = s.frame := by
  unfold State.deliver; dsimp only; (repeat' split) <;> simp

theorem execDeliveryIntoG_frame (stand ticket : Nat) (s : State) :
    ∀ u, execDeliveryIntoG stand ticket s = .next u → u.frame = s.frame := by
  intro u h; simp only [execDeliveryIntoG, Host.Outcome.next.injEq] at h; subst h; (repeat' split) <;> simp

@[simp] theorem State.loadMembers_frame (s : State) (st : Nat) (a : LoadArgs) (ms : List (W16 × Nat)) :
    (State.loadMembers s st a ms).frame = s.frame := by
  unfold State.loadMembers; simp

@[simp] theorem State.ownerLoad_frame (s : State) (st : Nat) (c : Cmd) :
    (State.ownerLoad s st c).frame = s.frame := by
  unfold State.ownerLoad; dsimp only; (repeat' split) <;> simp

theorem execOwnerLoad_frame (stand ticket : Nat) (s : State) :
    ∀ u, execOwnerLoad stand ticket s = .next u → u.frame = s.frame := by
  intro u h; simp only [execOwnerLoad, Host.Outcome.next.injEq] at h; subst h; (repeat' split) <;> simp

@[simp] theorem State.permTell_frame (s : State) (st : Nat) (c : Cmd) (a : PermArgs) (w : List Byte) :
    (s.permTell st c a w).frame = s.frame := by
  refine foldl_frame _ (fun u r => ?_) _ _
  (repeat' split) <;> simp

@[simp] theorem State.permSend_frame (s : State) (st : Nat) (c : Cmd) (a : PermArgs) (kind : Nat) :
    (State.permSend s st c a kind).frame = s.frame := by
  unfold State.permSend
  (repeat' split) <;> first | (simp; done) | (apply foldl_frame; intro u a; (repeat' split) <;> simp)

@[simp] theorem State.setPerm_frame (s : State) (st : Nat) (p : Perm) :
    (State.setPerm s st p).frame = s.frame := by
  rfl

theorem State.takePerm_frame (s : State) (st : Nat) (t : Txn) :
    ∀ u, State.takePerm s st t = some u → u.frame = s.frame := by
  unfold State.takePerm; intro u h; dsimp only at h; (repeat' split at h) <;> first | (cases h; done) | (cases h; simp)

theorem execPermuteMessage_frame (port : Nat) (txn : Txn) (s : State) :
    ∀ u, execPermuteMessage port txn s = .next u → u.frame = s.frame := by
  intro u h; simp only [execPermuteMessage, Host.Outcome.next.injEq] at h; subst h
  split
  · rfl
  · rename_i t h
    have hs := State.takeRequest_frame _ _ _ _ t h
    (repeat' split) <;> first | rfl | (simp [hs, foldl_frame]; done) | (simp [State.takePerm_frame _ _ _ _ ‹_›, hs]; done)

@[simp] theorem State.copyBlock_frame (s : State) (src dst n : Nat) :
    (State.copyBlock s src dst n).frame = s.frame := by
  unfold State.copyBlock; simp

@[simp] theorem State.pullFrom_frame (s : State) (st : Nat) (c : Cmd) (a : PermArgs) (p : Perm) (k : Nat)
    (src : OwnerEntry) (size : Nat) :
    (State.pullFrom s st c a p k src size).1.frame = s.frame := by
  unfold State.pullFrom; dsimp only; (repeat' split) <;> simp [foldl_frame_fst]

@[simp] theorem State.permPull_frame (s : State) (st : Nat) (c : Cmd) (a : PermArgs) (p : Perm) :
    (s.permPull st c a p).frame = s.frame := by
  unfold State.permPull
  extract_lets
  split; rename_i t q h
  rw [State.setPerm_frame, show t = (t, q).1 from rfl, ← h, foldl_frame_fst _ (by intro a b; dsimp only; split <;> simp)]

@[simp] theorem State.permRetry_frame (s : State) (st : Nat) (c : Cmd) (a : PermArgs) (p : Perm) :
    (s.permRetry st c a p).frame = s.frame := by
  unfold State.permRetry
  extract_lets
  split; rename_i t q h
  rw [State.setPerm_frame, show t = (t, q).1 from rfl, ← h, foldl_frame_fst _ (by intro a b; dsimp only; split <;> simp)]

@[simp] theorem State.permLand_frame (s : State) (st : Nat) (p : Perm) : (s.permLand st p).frame = s.frame := by
  unfold State.permLand
  simp only [State.setPerm_frame]
  refine foldl_frame_fst _ (fun a x => ?_) _ _
  (repeat' split) <;> try rfl
  rename_i h
  simp [State.stageFor_frame _ _ _ h]

@[simp] theorem State.permPulled_frame (s : State) (st : Nat) (c : Cmd) (a : PermArgs) (p : Perm) :
    (State.permPulled s st c a p).frame = s.frame := by
  unfold State.permPulled; simp [foldl_frame]

@[simp] theorem State.setStates_frame (s : State) (st n : Nat) (f : Nat → OwnerEntry → Nat) :
    (State.setStates s st n f).frame = s.frame := by
  rfl

@[simp] theorem State.permDone_frame (s : State) (st : Nat) (c : Cmd) (p : Perm) (status : List W16) :
    (State.permDone s st c p status).frame = s.frame := by
  unfold State.permDone; simp

@[simp] theorem State.permOpen_frame (s : State) (st : Nat) (c : Cmd) (a : PermArgs) :
    (State.permOpen s st c a).frame = s.frame := by
  unfold State.permOpen; dsimp only; (repeat' split) <;> simp

theorem execPermute_frame (stand ticket : Nat) (s : State) :
    ∀ u, execPermute stand ticket s = .next u → u.frame = s.frame := by
  intro u h; simp only [execPermute, Host.Outcome.next.injEq] at h; subst h; (repeat' split) <;> simp

theorem execPermuteClose_frame (stand ticket : Nat) (s : State) :
    ∀ u, execPermuteClose stand ticket s = .next u → u.frame = s.frame := by
  intro u h; simp only [execPermuteClose, Host.Outcome.next.injEq] at h; subst h; (repeat' split) <;> simp

@[simp] theorem State.stepBegin_frame (s : State) (st : Nat) (p : List Byte) :
    (State.stepBegin s st p).frame = s.frame := by
  unfold State.stepBegin; dsimp only; (repeat' split) <;> simp

@[simp] theorem State.stepEnd_frame (s : State) (st ticket : Nat) :
    (State.stepEnd s st ticket).frame = s.frame := by
  unfold State.stepEnd; split <;> simp

@[simp] theorem State.sendFence_frame (s : State) (st : Nat) (m named : W16 × Nat) :
    (State.sendFence s st m named).frame = s.frame := by
  unfold State.sendFence; simp

@[simp] theorem State.relayFence_frame (s : State) (st m : Nat) (d : W16) :
    (State.relayFence s st m d).frame = s.frame := by
  unfold State.relayFence
  (repeat' split) <;> first | (simp; done) | (apply foldl_frame; intro u a; (repeat' split) <;> simp)

@[simp] theorem State.setPeer_frame (s : State) (st : Nat) (d : W16) (f : Peer → Peer) :
    (State.setPeer s st d f).frame = s.frame := by
  unfold State.setPeer; dsimp only; (repeat' split) <;> simp

@[simp] theorem State.resend_frame (s t : State) (st : Nat) (y : Coll) : (State.resend s t st y).frame = t.frame := by
  unfold State.resend
  dsimp only; split
  · rfl
  · refine foldl_frame _ (fun u k => ?_) _ _
    (repeat' split) <;> simp

@[simp] theorem State.fenceDev_frame (s : State) (st : Nat) (d : W16) (source : Nat) :
    (s.fenceDev st d source).frame = s.frame := by
  unfold State.fenceDev
  dsimp only; split
  · rfl
  · refine (foldl_frame _ (fun u y => ?_) _ _).trans (by simp)
    split <;> simp

@[simp] theorem State.failSapling_frame (s : State) (st : Nat) (d : W16) :
    (State.failSapling s st d).frame = s.frame := by
  unfold State.failSapling; simp

@[simp] theorem State.takeKeys_frame (s : State) (m : Mem) (ks : List Nat) :
    (State.takeKeys s m ks).2.frame = s.frame := by
  unfold State.takeKeys; dsimp only; (repeat' split) <;> simp

@[simp] theorem State.keepDiffs_frame (s : State) (a : Nat) (fs : Tab (Byte × Byte)) :
    (State.keepDiffs s a fs).frame = s.frame := by
  rfl

@[simp] theorem State.copyOut_frame (s : State) (st : Nat) (b : BgCopy) (off : Nat) (bs : List Byte) (fs : Tab (Byte × Byte)) :
    (s.copyOut st b off bs fs).frame = s.frame := by
  unfold State.copyOut
  split
  · simp
  · refine foldl_frame _ (fun u p => ?_) _ _
    dsimp only; (repeat' split) <;> simp_all

@[simp] theorem State.setCopy_frame (s : State) (st : Nat) (b : Option BgCopy) :
    (State.setCopy s st b).frame = s.frame := by
  rfl

@[simp] theorem State.beginCopy_frame (s : State) (st : Nat) (b : BgCopy) :
    (State.beginCopy s st b).frame = s.frame := by
  unfold State.beginCopy; simp

@[simp] theorem State.copyPiece_frame (s : State) (st : Nat) (m : Mem) (offs : List Nat) (b : BgCopy) (p : CopyPiece) :
    (State.copyPiece s st m offs b p).1.frame = s.frame := by
  unfold State.copyPiece; simp

@[simp] theorem State.readBlock_frame (s : State) (st : Nat) (b : BgCopy) (die block : Nat) :
    (State.readBlock s st b die block).frame = s.frame := by
  unfold State.readBlock; dsimp only; (repeat' split) <;> simp [foldl_frame_fst]

@[simp] theorem State.copyHeads_frame (s : State) (st : Nat) (b : BgCopy) :
    (State.copyHeads s st b).frame = s.frame := by
  unfold State.copyHeads; simp [foldl_frame]

@[simp] theorem State.setSteps_frame (s : State) (st : Nat) (f : StepSt → StepSt) :
    (State.setSteps s st f).frame = s.frame := by
  rfl

@[simp] theorem State.commitDone_frame (s : State) (st : Nat) (j : CommitSt) (c : Cmd) (status : List W16)
    (blaze : List Byte) (rounds : Nat) (n : List Byte) :
    (State.commitDone s st j c status blaze rounds n).frame = s.frame := by
  unfold State.commitDone; simp

@[simp] theorem State.wantRollback_frame (s : State) (st : Nat) (why : RollbackFor) :
    (State.wantRollback s st why).frame = s.frame := by
  unfold State.wantRollback; simp

theorem execCommit_frame (stand ticket : Nat) (s : State) :
    ∀ u, execCommit stand ticket s = .next u → u.frame = s.frame := by
  intro u h; simp only [execCommit, Host.Outcome.next.injEq] at h; subst h; (repeat' split) <;> simp

@[simp] theorem State.commitDigest_frame (s : State) (st : Nat) (j : CommitSt) (a : CommitArgs) :
    (State.commitDigest s st j a).frame = s.frame := by
  unfold State.commitDigest; dsimp only; (repeat' split) <;> simp

theorem execCommitPhase1End_frame (stand ticket : Nat) (s : State) :
    ∀ u, execCommitPhase1End stand ticket s = .next u → u.frame = s.frame := by
  intro u h; simp only [execCommitPhase1End, Host.Outcome.next.injEq] at h; subst h; (repeat' split) <;> simp

@[simp] theorem State.sendCommit_frame (s : State) (st : Nat) (j : CommitSt) :
    (State.sendCommit s st j).frame = s.frame := by
  unfold State.sendCommit
  (repeat' split) <;> first | (simp; done) | (apply foldl_frame; intro u a; (repeat' split) <;> simp)

@[simp] theorem State.commitStand_frame (s : State) (st : Nat) (j : CommitSt) :
    (State.commitStand s st j).frame = s.frame := by
  unfold State.commitStand; dsimp only; (repeat' split) <;> simp

@[simp] theorem State.startMirror_frame (s : State) (st ctx : Nat) (a : CommitArgs) :
    (State.startMirror s st ctx a).frame = s.frame := by
  unfold State.startMirror; dsimp only; (repeat' split) <;> simp

@[simp] theorem State.judgeSapling_frame (s : State) (st : Nat) (blaze : BitVec 128) (steps : Nat) (d : W16)
    (m : Option CommitMsg) :
    (State.judgeSapling s st blaze steps d m).frame = s.frame := by
  unfold State.judgeSapling; dsimp only; (repeat' split) <;> simp

@[simp] theorem State.judgeSaplings_frame (s : State) (st : Nat) (j : CommitSt) (steps : Nat) (ms : List
    (Nat × Option CommitMsg)) :
    (State.judgeSaplings s st j steps ms).frame = s.frame := by
  unfold State.judgeSaplings
  (repeat' split) <;> first | (simp; done) | (apply foldl_frame; intro u a; (repeat' split) <;> simp)

@[simp] theorem State.expel_frame (s : State) (st : Nat) (j : CommitSt) (ranks : List Nat) :
    (s.expel st j ranks).frame = s.frame := by
  unfold State.expel
  refine (foldl_frame _ (fun u m => by simp) _ _).trans (foldl_frame _ (fun u m => foldl_frame _ (fun v r => ?_) _ _) _ _)
  split <;> simp

@[simp] theorem State.commitFlip_frame (s : State) (st : Nat) (j : CommitSt) (c : Cmd) (d : CommitDecision) :
    (State.commitFlip s st j c d).frame = s.frame := by
  unfold State.commitFlip; dsimp only; (repeat' split) <;> simp

@[simp] theorem State.settleCommit_frame (s : State) (st : Nat) (now : Bool) :
    (State.settleCommit s st now).frame = s.frame := by
  unfold State.settleCommit; (repeat' split) <;> simp

@[simp] theorem State.commitOk_frame (s : State) (st : Nat) (j : CommitSt) (c : Cmd) (n expelled : Nat) (ms : List
    (Nat × Option CommitMsg)) :
    (State.commitOk s st j c n expelled ms).frame = s.frame := by
  unfold State.commitOk; dsimp only; (repeat' split) <;> simp

@[simp] theorem State.decideCommit_frame (s : State) (st : Nat) (j : CommitSt) (c : Cmd) :
    (State.decideCommit s st j c).frame = s.frame := by
  unfold State.decideCommit; dsimp only; (repeat' split) <;> simp

@[simp] theorem State.tryDecide_frame (s : State) (st : Nat) :
    (State.tryDecide s st).frame = s.frame := by
  unfold State.tryDecide; (repeat' split) <;> simp

theorem execLedgerSettled_frame (stand ticket : Nat) (s : State) :
    ∀ u, execLedgerSettled stand ticket s = .next u → u.frame = s.frame := by
  intro u h; simp only [execLedgerSettled, Host.Outcome.next.injEq] at h; subst h; (repeat' split) <;> simp

@[simp] theorem State.takeCommitMsg_frame (s : State) (st : Nat) (m : CommitMsg) :
    (State.takeCommitMsg s st m).frame = s.frame := by
  unfold State.takeCommitMsg; simp

theorem execCommitMessage_frame (stand : Nat) (msg : CommitMsg) (s : State) :
    ∀ u, execCommitMessage stand msg s = .next u → u.frame = s.frame := by
  intro u h; simp only [execCommitMessage, Host.Outcome.next.injEq] at h; subst h; split <;> simp

theorem execCommitWaitExpire_frame (stand ticket : Nat) (s : State) :
    ∀ u, execCommitWaitExpire stand ticket s = .next u → u.frame = s.frame := by
  intro u h
  simp only [execCommitWaitExpire, Host.Outcome.next.injEq] at h
  subst h
  (repeat' split) <;> simp [foldl_frame]

@[simp] theorem State.rollBack_frame (s : State) (st : Nat) :
    (State.rollBack s st).frame = s.frame := by
  unfold State.rollBack; dsimp only; (repeat' split) <;> simp

@[simp] theorem State.rollbackOver_frame (s : State) (st : Nat) (halt : Bool) :
    (State.rollbackOver s st halt).frame = s.frame := by
  unfold State.rollbackOver; simp

@[simp] theorem State.rollbackEnds_frame (s : State) (st : Nat) (status : W16) (rounds : Nat) :
    (State.rollbackEnds s st status rounds).frame = s.frame := by
  unfold State.rollbackEnds; split <;> simp

@[simp] theorem State.startReplay_frame (s : State) (st : Nat) (firstLive : W64) :
    (State.startReplay s st firstLive).frame = s.frame := by
  unfold State.startReplay; simp

@[simp] theorem State.doRollback_frame (s : State) (st : Nat) (why : RollbackFor) :
    (State.doRollback s st why).frame = s.frame := by
  unfold State.doRollback; dsimp only; (repeat' split) <;> simp

theorem execRollback_frame (due : RollbackDue) (s : State) :
    ∀ u, execRollback due s = .next u → u.frame = s.frame := by
  intro u h; simp only [execRollback, Host.Outcome.next.injEq] at h; subst h; (repeat' split) <;> simp [foldl_frame]

@[simp] theorem State.fencePeer_frame (s : State) (st : Nat) (c : Cmd) :
    (State.fencePeer s st c).frame = s.frame := by
  unfold State.fencePeer; (repeat' split) <;> simp

theorem execFencePeer_frame (stand ticket : Nat) (s : State) :
    ∀ u, execFencePeer stand ticket s = .next u → u.frame = s.frame := by
  intro u h; simp only [execFencePeer, Host.Outcome.next.injEq] at h; subst h; split <;> simp

@[simp] theorem State.readmit_frame (s : State) (st : Nat) (c : Cmd) :
    (State.readmit s st c).frame = s.frame := by
  unfold State.readmit; simp

theorem execReadmit_frame (stand ticket : Nat) (s : State) :
    ∀ u, execReadmit stand ticket s = .next u → u.frame = s.frame := by
  intro u h; simp only [execReadmit, Host.Outcome.next.injEq] at h; subst h; split <;> simp

@[simp] theorem State.selfExpelled_frame (s : State) (st : Nat) (sender : W16) :
    (State.selfExpelled s st sender).frame = s.frame := by
  unfold State.selfExpelled; dsimp only; (repeat' split) <;> simp

@[simp] theorem State.takeFence_frame (s : State) (st : Nat) (src : W16 × Nat) (named : W16 × Nat) :
    (State.takeFence s st src named).frame = s.frame := by
  unfold State.takeFence; (repeat' split) <;> simp

theorem execFence_frame (port : Nat) (txn : Txn) (s : State) :
    ∀ u, execFence port txn s = .next u → u.frame = s.frame := by
  intro u h; simp only [execFence, Host.Outcome.next.injEq] at h; subst h
  split
  · rfl
  · rename_i t h
    have hs := State.takeRequest_frame _ _ _ _ t h
    (repeat' split) <;> first | rfl | (simp [hs, foldl_frame]; done)

@[simp] theorem State.hear_frame (s : State) (st : Nat) (d : W16) (mask : Nat) :
    (State.hear s st d mask).frame = s.frame := by
  unfold State.hear; simp

theorem State.takeLink_frame (s : State) (p : Nat) (t : Txn) (ttype : Nat) (rsp : Bool) :
    ∀ u, s.takeLink p t ttype rsp = some u → u.frame = s.frame := by
  intro u h
  unfold State.takeLink at h
  split at h
  · exact State.takeRx_frame s p t u h
  · cases h

theorem execHeartbeat_frame (port : Nat) (txn : Txn) (s : State) :
    ∀ u, execHeartbeat port txn s = .next u → u.frame = s.frame := by
  intro u h; simp only [execHeartbeat, Host.Outcome.next.injEq] at h; subst h
  split
  · rfl
  · rename_i t h
    have hs := State.takeLink_frame _ _ _ _ _ t h
    (repeat' split) <;> first | rfl | (simp [hs, foldl_frame]; done)

theorem execHeartbeatSend_frame (s : State) :
    ∀ u, execHeartbeatSend s = .next u → u.frame = s.frame := by
  intro u h
  simp only [execHeartbeatSend, Host.Outcome.next.injEq] at h
  subst h
  (repeat' split) <;> simp [foldl_frame]

@[simp] theorem State.silent_frame (s : State) (st : Nat) (p : Peer) :
    (State.silent s st p).frame = s.frame := by
  unfold State.silent; dsimp only; (repeat' split) <;> simp [foldl_frame]

theorem execPeerSilent_frame (stand : Nat) (device : W16) (s : State) :
    ∀ u, execPeerSilent stand device s = .next u → u.frame = s.frame := by
  intro u h; simp only [execPeerSilent, Host.Outcome.next.injEq] at h; subst h; (repeat' split) <;> simp

@[simp] theorem State.endCopy_frame (s : State) (st : Nat) :
    (State.endCopy s st).frame = s.frame := by
  unfold State.endCopy; dsimp only; (repeat' split) <;> simp [foldl_frame]

@[simp] theorem State.ckptDone_frame (s : State) (st : Nat) (c : Cmd) (status : List W16) :
    (State.ckptDone s st c status).frame = s.frame := by
  unfold State.ckptDone; split <;> simp

@[simp] theorem State.ckptPoll_frame (s : State) (st ticket : Nat) :
    (State.ckptPoll s st ticket).frame = s.frame := by
  unfold State.ckptPoll; (repeat' split) <;> simp

theorem execCheckpoint_frame (stand ticket : Nat) (s : State) :
    ∀ u, execCheckpoint stand ticket s = .next u → u.frame = s.frame := by
  intro u h; simp only [execCheckpoint, Host.Outcome.next.injEq] at h; subst h; (repeat' split) <;> simp

@[simp] theorem State.copyRead_frame (s : State) (st : Nat) (b : BgCopy) :
    (State.copyRead s st b).frame = s.frame := by
  unfold State.copyRead; dsimp only; (repeat' split) <;> simp

@[simp] theorem State.copyStep_frame (s : State) (st : Nat) (b : BgCopy) : (s.copyStep st b).frame = s.frame := by
  unfold State.copyStep
  split
  · simp
  dsimp only
  split
  · rfl
  · simp [State.stageFor_frame _ _ _ ‹_›]

theorem execBackgroundCopyRead_frame (stand : Nat) (s : State) :
    ∀ u, execBackgroundCopyRead stand s = .next u → u.frame = s.frame := by
  intro u h; simp only [execBackgroundCopyRead, Host.Outcome.next.injEq] at h; subst h; (repeat' split) <;> simp

@[simp] theorem State.restGet_frame (s : State) (st : Nat) (c : Cmd) (a : RestArgs) (addr n : Nat) :
    (State.restGet s st c a addr n).1.frame = s.frame := by
  unfold State.restGet; simp [foldl_frame_fst]

@[simp] theorem State.restBytes_frame (s : State) (c : Cmd) (a : RestArgs) (addr n : Nat) :
    (State.restBytes s c a addr n).2.frame = s.frame := by
  unfold State.restBytes; split <;> simp

@[simp] theorem State.restFail_frame (s : State) (st : Nat) (c : Cmd) (status : List W16) (m : List Byte)
    (firstBad bytes : Nat) :
    (State.restFail s st c status m firstBad bytes).frame = s.frame := by
  unfold State.restFail; simp

@[simp] theorem State.install_frame (s : State) (k : Nat) (b : List Byte) :
    (State.install s k b).frame = s.frame := by
  unfold State.install; simp [foldl_frame_fst]

theorem State.restRun_frame (s : State) (st : Nat) (c : Cmd) (a : RestArgs) :
    ∀ u, s.restRun st c a = some u → u.frame = s.frame := by
  intro u h
  unfold State.restRun at h
  dsimp only at h
  split at h
  · cases h
  · split at h
    · cases h; simp
    · split at h
      · cases h; simp [foldl_frame_snd]
      · split at h
        · cases h
        · simp only [Option.map_eq_some_iff] at h
          obtain ⟨t, ht, rfl⟩ := h
          simp [foldl_frame, State.stageFor_frame _ _ t ht, foldl_frame_snd]

@[simp] theorem State.restRun_getD_frame (s : State) (st : Nat) (c : Cmd) (a : RestArgs) :
    ((s.restRun st c a).getD s).frame = s.frame := by
  cases h : s.restRun st c a with
  | none => rfl
  | some u => exact State.restRun_frame _ _ _ _ u h

@[simp] theorem State.restShards_frame (s : State) (st : Nat) (c : Cmd) (a : RestArgs) :
    (State.restShards s st c a).frame = s.frame := by
  unfold State.restShards; simp [foldl_frame_fst]

@[simp] theorem State.restNext_frame (s : State) (st : Nat) (c : Cmd) (a : RestArgs) :
    (s.restNext st c a).frame = s.frame := by
  unfold State.restNext; dsimp only; (repeat' split) <;> simp

theorem execRestore_frame (stand ticket : Nat) (s : State) :
    ∀ u, execRestore stand ticket s = .next u → u.frame = s.frame := by
  intro u h; simp only [execRestore, Host.Outcome.next.injEq] at h; subst h; (repeat' split) <;> simp

theorem State.takeCollective_frame (s : State) (st : Nat) (t : Txn) :
    ∀ u, State.takeCollective s st t = some u → u.frame = s.frame := by
  unfold State.takeCollective
  intro u h
  (repeat' split at h) <;> first | (cases h; done) | (cases h; simp; done) | exact State.takeResult_frame _ _ _ _ h

theorem State.takePut_frame (s : State) (st : Nat) (t : Txn) :
    ∀ u, s.takePut st t = some u → u.1.frame = s.frame := by
  intro u h
  unfold State.takePut at h
  dsimp only at h
  split at h
  · cases h; simp
  split at h
  · cases h
  simp only [Option.map_eq_some_iff] at h
  obtain ⟨t, ht, rfl⟩ := h
  simp only [State.writeSoft_frame]; exact State.stageFor_frame _ _ _ ht

theorem execPut_frame (port : Nat) (txn : Txn) (s : State) :
    ∀ u, execPut port txn s = .next u → u.frame = s.frame := by
  intro u h; simp only [execPut, Host.Outcome.next.injEq] at h; subst h
  split
  · rfl
  · rename_i t h
    have hs := State.takeRequest_frame _ _ _ _ t h
    (repeat' split) <;> first | rfl | (simp [hs, foldl_frame]; done) | (simp [State.takeCollective_frame _ _ _ _ ‹_›, hs]; done) | (simp [State.takePut_frame _ _ _ _ ‹_›, hs]; done)

@[simp] theorem State.serveGet_frame (s : State) (st : Nat) (t : Txn) :
    (State.serveGet s st t).1.frame = s.frame := by
  unfold State.serveGet; dsimp only; (repeat' split) <;> simp

theorem execGet_frame (port : Nat) (txn : Txn) (s : State) :
    ∀ u, execGet port txn s = .next u → u.frame = s.frame := by
  intro u h; simp only [execGet, Host.Outcome.next.injEq] at h; subst h
  split
  · rfl
  · rename_i t h
    have hs := State.takeRequest_frame _ _ _ _ t h
    (repeat' split) <;> first | rfl | (simp [hs, foldl_frame]; done)

@[simp] theorem State.skidEnded_frame (s : State) (st ticket : Nat) (q : HeldReq) (status : Nat) (data : List Byte) :
    (State.skidEnded s st ticket q status data).frame = s.frame := by
  unfold State.skidEnded; (repeat' split) <;> simp

@[simp] theorem State.ckptEnded_frame (s : State) (st ticket : Nat) (q : HeldReq) (status : Nat) (data : List Byte) :
    (State.ckptEnded s st ticket q status data).frame = s.frame := by
  unfold State.ckptEnded; (repeat' split) <;> simp

@[simp] theorem State.permEnded_frame (s : State) (st ticket block : Nat) (q : HeldReq) (status : Nat) (data : List Byte) :
    (State.permEnded s st ticket block q status data).frame = s.frame := by
  unfold State.permEnded; (repeat' split) <;> simp

@[simp] theorem State.reqEnded_frame (s : State) (st : Nat) (q : HeldReq) (status : Nat) (data : List Byte) :
    (State.reqEnded s st q status data).frame = s.frame := by
  unfold State.reqEnded; (repeat' split) <;> simp

@[simp] theorem State.pumpOne_frame (s : State) (st : Nat) (h : HeldReq) :
    (State.pumpOne s st h).frame = s.frame := by
  unfold State.pumpOne; dsimp only; (repeat' split) <;> simp

@[simp] theorem State.pump_frame (s : State) (st : Nat) :
    (State.pump s st).frame = s.frame := by
  unfold State.pump; simp [foldl_frame]

@[simp] theorem State.finishReq_frame (s : State) (st : Nat) (r : Req) (status : Nat) (data : List Byte) :
    (State.finishReq s st r status data).frame = s.frame := by
  unfold State.finishReq; simp

theorem execTxnResponse_frame (port : Nat) (txn : Txn) (s : State) :
    ∀ u, execTxnResponse port txn s = .next u → u.frame = s.frame := by
  intro u h; simp only [execTxnResponse, Host.Outcome.next.injEq] at h; subst h
  (repeat' split) <;> try rfl
  all_goals simp [State.takeRx_frame _ _ _ _ ‹_›]

@[simp] theorem State.lostReq_frame (s : State) (st : Nat) (r : Req) :
    (State.lostReq s st r).frame = s.frame := by
  unfold State.lostReq; simp

theorem execTxnTimeout_frame (stand tag : Nat) (s : State) :
    ∀ u, execTxnTimeout stand tag s = .next u → u.frame = s.frame := by
  intro u h; simp only [execTxnTimeout, Host.Outcome.next.injEq] at h; subst h; (repeat' split) <;> simp

@[simp] theorem State.crossWay_frame (s : State) (w : List Nat) :
    (State.crossWay s w).frame = s.frame := by
  rfl

@[simp] theorem State.dropTransit_frame (s : State) (t : Txn) :
    (State.dropTransit s t).frame = s.frame := by
  unfold State.dropTransit; (repeat' split) <;> simp

theorem execTransitForward_frame (port : Nat) (txn : Txn) (s : State) :
    ∀ u, execTransitForward port txn s = .next u → u.frame = s.frame := by
  intro u h; simp only [execTransitForward, Host.Outcome.next.injEq] at h; subst h
  (repeat' split) <;> try rfl
  all_goals simp [State.takeRx_frame _ _ _ _ ‹_›]

theorem execTime_frame (port : Nat) (txn : Txn) (s : State) :
    ∀ u, execTime port txn s = .next u → u.frame = s.frame := by
  intro u h; simp only [execTime, Host.Outcome.next.injEq] at h; subst h
  split
  · rfl
  · rename_i t h
    have hs := State.takeLink_frame _ _ _ _ _ t h
    (repeat' split) <;> first | rfl | (simp [hs, foldl_frame]; done)

theorem execTimeExchange_frame (s : State) :
    ∀ u, execTimeExchange s = .next u → u.frame = s.frame := by
  intro u h; simp only [execTimeExchange, Host.Outcome.next.injEq] at h; subst h; split <;> simp

@[simp] theorem State.timeSample_frame (s : State) (t1 t2 t3 t4 : Nat) :
    (State.timeSample s t1 t2 t3 t4).frame = s.frame := by
  unfold State.timeSample; dsimp only; (repeat' split) <;> simp

theorem execTimeResponse_frame (port : Nat) (txn : Txn) (s : State) :
    ∀ u, execTimeResponse port txn s = .next u → u.frame = s.frame := by
  intro u h; simp only [execTimeResponse, Host.Outcome.next.injEq] at h; subst h
  (repeat' split) <;> try rfl
  all_goals simp [State.takeLink_frame _ _ _ _ _ _ ‹_›]

theorem execTimeSlew_frame (s : State) :
    ∀ u, execTimeSlew s = .next u → u.frame = s.frame := by
  intro u h; simp only [execTimeSlew, Host.Outcome.next.injEq] at h; subst h; (repeat' split) <;> simp

@[simp] theorem State.bondResend_frame (s : State) (p : Nat) :
    (State.bondResend s p).frame = s.frame := by
  unfold State.bondResend; split <;> simp

@[simp] theorem State.retrain_frame (s : State) (p : Nat) :
    (State.retrain s p).frame = s.frame := by
  unfold State.retrain; simp

@[simp] theorem State.replay_frame (s : State) (p : Nat) :
    (State.replay s p).frame = s.frame := by
  unfold State.replay; dsimp only; (repeat' split) <;> simp

theorem execNak_frame (port ack : Nat) (s : State) :
    ∀ u, execNak port ack s = .next u → u.frame = s.frame := by
  intro u h; simp only [execNak, Host.Outcome.next.injEq] at h; subst h; split <;> simp

theorem execRetryTimeout_frame (port : Nat) (s : State) :
    ∀ u, execRetryTimeout port s = .next u → u.frame = s.frame := by
  intro u h; simp only [execRetryTimeout, Host.Outcome.next.injEq] at h; subst h; split <;> simp

@[simp] theorem State.degrade_frame (s : State) (p : Nat) :
    (State.degrade s p).frame = s.frame := by
  unfold State.degrade; simp

theorem execSubst_frame (port lane : Nat) (s : State) :
    ∀ u, execSubst port lane s = .next u → u.frame = s.frame := by
  intro u h; simp only [execSubst, Host.Outcome.next.injEq] at h; subst h; split <;> simp

theorem execLaneMarkerReceive_frame (port lane : Nat) (s : State) :
    ∀ u, execLaneMarkerReceive port lane s = .next u → u.frame = s.frame := by
  intro u h; simp only [execLaneMarkerReceive, Host.Outcome.next.injEq] at h; subst h; split <;> simp

theorem execDegrade_frame (request : DegradeReq) (s : State) :
    ∀ u, execDegrade request s = .next u → u.frame = s.frame := by
  intro u h; simp only [execDegrade, Host.Outcome.next.injEq] at h; subst h; split <;> simp

@[simp] theorem State.forgetFlits_frame (s : State) (p : Nat) :
    (State.forgetFlits s p).frame = s.frame := by
  unfold State.forgetFlits; simp [foldl_frame]

@[simp] theorem State.loseOwners_frame (s : State) (os : List (Nat × Nat)) :
    (State.loseOwners s os).frame = s.frame := by
  unfold State.loseOwners
  (repeat' split) <;> first | (simp; done) | (apply foldl_frame; intro u a; (repeat' split) <;> simp)

@[simp] theorem State.portDown_frame (s : State) (p : Nat) :
    (State.portDown s p).frame = s.frame := by
  unfold State.portDown; dsimp only; (repeat' split) <;> simp

theorem execPortDown_frame (port : Nat) (s : State) :
    ∀ u, execPortDown port s = .next u → u.frame = s.frame := by
  intro u h; simp only [execPortDown, Host.Outcome.next.injEq] at h; subst h; split <;> simp

theorem execLaneFailing_frame (port lane : Nat) (codewords : Bool) (s : State) :
    ∀ u, execLaneFailing port lane codewords s = .next u → u.frame = s.frame := by
  intro u h; simp only [execLaneFailing, Host.Outcome.next.injEq] at h; subst h; (repeat' split) <;> simp

theorem execPortTrained_frame (port healthy : Nat) (s : State) :
    ∀ u, execPortTrained port healthy s = .next u → u.frame = s.frame := by
  intro u h; simp only [execPortTrained, Host.Outcome.next.injEq] at h; subst h; (repeat' split) <;> simp

theorem execTrainingTimeout_frame (port : Nat) (s : State) :
    ∀ u, execTrainingTimeout port s = .next u → u.frame = s.frame := by
  intro u h; simp only [execTrainingTimeout, Host.Outcome.next.injEq] at h; subst h; split <;> simp

theorem execHello_frame (port : Nat) (device : W16) (peerPort : Nat) (s : State) :
    ∀ u, execHello port device peerPort s = .next u → u.frame = s.frame := by
  intro u h; simp only [execHello, Host.Outcome.next.injEq] at h; subst h; (repeat' split) <;> simp

theorem execReady_frame (port : Nat) (s : State) :
    ∀ u, execReady port s = .next u → u.frame = s.frame := by
  intro u h; simp only [execReady, Host.Outcome.next.injEq] at h; subst h; split <;> simp

theorem execRampDoubling_frame (port : Nat) (s : State) :
    ∀ u, execRampDoubling port s = .next u → u.frame = s.frame := by
  intro u h; simp only [execRampDoubling, Host.Outcome.next.injEq] at h; subst h; split <;> simp

theorem execLock_frame (bond : Nat) (lags : List (Nat × Nat)) (s : State) :
    ∀ u, execLock bond lags s = .next u → u.frame = s.frame := by
  intro u h; simp only [execLock, Host.Outcome.next.injEq] at h; subst h; (repeat' split) <;> simp

theorem execLockRemeasure_frame (bond : Nat) (s : State) :
    ∀ u, execLockRemeasure bond s = .next u → u.frame = s.frame := by
  intro u h
  simp only [execLockRemeasure, Host.Outcome.next.injEq] at h
  subst h
  (repeat' split) <;> simp [foldl_frame]

theorem execBar4Read_frame (link : LinkId) (offset count : Nat) (s : State) :
    ∀ u, execBar4Read link offset count s = .next u → u.frame = s.frame := by
  intro u h; simp only [execBar4Read, Host.Outcome.next.injEq] at h; subst h; (repeat' split) <;> simp

@[simp] theorem State.makeRoom_frame (bs : List (Nat × Nat)) (n : Nat) : ∀ s : State,
    (s.makeRoom bs n).frame = s.frame := by
  induction n with
  | zero => intros; rfl
  | succ n ih =>
    intro s; unfold State.makeRoom; split
    · exact State.stageFor_frame _ _ _ ‹_›
    · rw [ih]; apply foldl_frame; intro u a; (repeat' split) <;> simp

@[simp] theorem State.hostStore_frame (s : State) (ws : List (Nat × Byte)) :
    (State.hostStore s ws).frame = s.frame := by
  unfold State.hostStore; simp

theorem execBar4Write_frame (link : LinkId) (offset : Nat) (data : List Byte) (s : State) :
    ∀ u, execBar4Write link offset data s = .next u → u.frame = s.frame := by
  intro u h; simp only [execBar4Write, Host.Outcome.next.injEq] at h; subst h; (repeat' split) <;> simp

@[simp] theorem State.mixScatter_frame (s : State) (st : Nat) (c : Cmd) (a : SkidArgs) :
    (State.mixScatter s st c a).frame = s.frame := by
  unfold State.mixScatter; simp

@[simp] theorem State.mixSkid_frame (s : State) (st : Nat) (c : Cmd) : (s.mixSkid st c).frame = s.frame := by
  unfold State.mixSkid
  dsimp only
  (repeat' split) <;> first | rfl | simp [State.stageFor_frame _ _ _ ‹_›]

@[simp] theorem State.scrambleCore_frame (s : State) (core : Nat) (d : Desc) :
    (State.scrambleCore s core d).frame = s.frame := by
  unfold State.scrambleCore; simp

@[simp] theorem State.scramble_frame (s : State) (st : Nat) (c : Cmd) : (s.scramble st c).frame = s.frame := by
  unfold State.scramble
  (repeat' split) <;> try simp
  refine foldl_frame _ (fun u r => ?_) _ _
  split <;> simp

@[simp] theorem State.damageBy_frame (s : State) (st : Nat) (c : Cmd) :
    (State.damageBy s st c).frame = s.frame := by
  unfold State.damageBy; (repeat' split) <;> simp [foldl_frame]

@[simp] theorem State.forget_frame (s : State) (st : Nat) (c : Cmd) :
    (State.forget s st c).frame = s.frame := by
  unfold State.forget; dsimp only; (repeat' split) <;> simp [foldl_frame]

@[simp] theorem State.discardCmd_frame (s : State) (st : Nat) (c : Cmd) (status : W16) :
    (State.discardCmd s st c status).frame = s.frame := by
  unfold State.discardCmd; dsimp only; (repeat' split) <;> simp [foldl_frame]

@[simp] theorem State.discardAll_frame (s : State) (st : Nat) (cs : List Cmd) (status : W16) :
    (State.discardAll s st cs status).frame = s.frame := by
  unfold State.discardAll; simp [foldl_frame]

@[simp] theorem State.cutReplay_frame (s : State) (st : Nat) :
    (State.cutReplay s st).frame = s.frame := by
  unfold State.cutReplay; (repeat' split) <;> simp [foldl_frame]

@[simp] theorem State.afterDiscard_frame (s : State) (st : Nat) (cut : Bool) :
    (State.afterDiscard s st cut).frame = s.frame := by
  unfold State.afterDiscard; split <;> simp

@[simp] theorem State.setRstStand_frame (s : State) (st : Nat) (f : RstStand → RstStand) :
    (State.setRstStand s st f).frame = s.frame := by
  rfl

@[simp] theorem State.rearm_frame (s : State) :
    (State.rearm s).frame = s.frame := by
  rfl

@[simp] theorem State.takeSample_frame (s : State) (st rung : Nat) (cause : RungCause) (e : Option EngineId) :
    (State.takeSample s st rung cause e).1.frame = s.frame := by
  unfold State.takeSample; (repeat' split) <;> simp

theorem execSampleBoxExpire_frame (stand sampled : Nat) (s : State) :
    ∀ u, execSampleBoxExpire stand sampled s = .next u → u.frame = s.frame := by
  intro u h; simp only [execSampleBoxExpire, Host.Outcome.next.injEq] at h; subst h; split <;> simp

@[simp] theorem State.freeKept_frame (s : State) (px ctx : Nat) :
    (State.freeKept s px ctx).frame = s.frame := by
  unfold State.freeKept; simp [foldl_frame]

@[simp] theorem State.contextReset_frame (s : State) (st ctx : Nat) (cause : RungCause) (e : Option EngineId)
    (stuck : List Nat) :
    (State.contextReset s st ctx cause e stuck).frame = s.frame := by
  unfold State.contextReset; (repeat' split) <;> simp [foldl_frame]

@[simp] theorem State.abandon_frame (s : State) (st ticket : Nat) :
    (State.abandon s st ticket).frame = s.frame := by
  unfold State.abandon; (repeat' split) <;> simp [foldl_frame]

@[simp] theorem State.fenceSelf_frame (s : State) (st : Nat) :
    (State.fenceSelf s st).frame = s.frame := by
  unfold State.fenceSelf
  (repeat' split) <;> first | (simp; done) | (apply foldl_frame; intro u a; (repeat' split) <;> simp)

@[simp] theorem State.startStandReset_frame (s : State) (st : Nat) (cause : RungCause) (e : Option EngineId) :
    (State.startStandReset s st cause e).frame = s.frame := by
  unfold State.startStandReset; split <;> simp

@[simp] theorem State.requestContext_frame (s : State) (l : LinkId) (st ctx : Nat) :
    (State.requestContext s l st ctx).frame = s.frame := by
  unfold State.requestContext; (repeat' split) <;> simp

@[simp] theorem State.requestStand_frame (s : State) (l : LinkId) (st : Nat) :
    (State.requestStand s l st).frame = s.frame := by
  unfold State.requestStand; split <;> simp

theorem execContextResetRequest_frame (link : LinkId) (stand context : Nat) (s : State) :
    ∀ u, execContextResetRequest link stand context s = .next u → u.frame = s.frame := by
  intro u h; simp only [execContextResetRequest, Host.Outcome.next.injEq] at h; subst h; split <;> simp

theorem execStandResetRequest_frame (link : LinkId) (stand : Nat) (s : State) :
    ∀ u, execStandResetRequest link stand s = .next u → u.frame = s.frame := by
  intro u h; simp only [execStandResetRequest, Host.Outcome.next.injEq] at h; subst h; split <;> simp

@[simp] theorem State.popHead_frame (s : State) (st : Nat) :
    (State.popHead s st).frame = s.frame := by
  unfold State.popHead; dsimp only; (repeat' split) <;> simp

theorem execHeadDiscard_frame (stand : Nat) (s : State) :
    ∀ u, execHeadDiscard stand s = .next u → u.frame = s.frame := by
  intro u h; simp only [execHeadDiscard, Host.Outcome.next.injEq] at h; subst h; (repeat' split) <;> simp

@[simp] theorem State.engineCleared_frame (s : State) (e : EngineId) :
    (State.engineCleared s e).frame = s.frame := by
  unfold State.engineCleared; split <;> simp

@[simp] theorem State.engineReset_frame (s : State) (st : Nat) (e : EngineId) :
    (State.engineReset s st e).frame = s.frame := by
  unfold State.engineReset
  dsimp only
  (repeat' split) <;>
    first | rfl | (simp [foldl_frame]; done) | (apply foldl_frame; intro u a; (repeat' split) <;> simp)

@[simp] theorem State.startEngineReset_frame (s : State) (st : Nat) (a : Rung) (e : EngineId) :
    (State.startEngineReset s st a e).frame = s.frame := by
  unfold State.startEngineReset; dsimp only; (repeat' split) <;> simp

@[simp] theorem State.fenceEngine_frame (s : State) (st : Nat) (e : EngineId) :
    (State.fenceEngine s st e).frame = s.frame := by
  unfold State.fenceEngine; split <;> simp

@[simp] theorem State.engineResetDone_frame (s : State) (st : Nat) (a : Rung) :
    (State.engineResetDone s st a).frame = s.frame := by
  unfold State.engineResetDone; simp

theorem execRungTimeout_frame (stand : Nat) (s : State) :
    ∀ u, execRungTimeout stand s = .next u → u.frame = s.frame := by
  intro u h; simp only [execRungTimeout, Host.Outcome.next.injEq] at h; subst h; (repeat' split) <;> simp

@[simp] theorem State.zeroCluster_frame (s : State) (px : Nat) :
    (State.zeroCluster s px).frame = s.frame := by
  unfold State.zeroCluster; simp [foldl_frame]

@[simp] theorem State.seedGate_frame (s : State) (l g : Nat) :
    (State.seedGate s l g).frame = s.frame := by
  unfold State.seedGate; simp

@[simp] theorem State.emptyStand_frame (s : State) (st : Nat) :
    (State.emptyStand s st).frame = s.frame := by
  unfold State.emptyStand; simp

@[simp] theorem State.clearTables_frame (s : State) (st : Nat) :
    (State.clearTables s st).frame = s.frame := by
  unfold State.clearTables; simp

@[simp] theorem State.haltStand_frame (s : State) (st : Nat) :
    (State.haltStand s st).frame = s.frame := by
  unfold State.haltStand; simp

@[simp] theorem State.resetStand_frame (s : State) (st : Nat) (cause : RungCause) :
    (State.resetStand s st cause).frame = s.frame := by
  unfold State.resetStand; simp [foldl_frame]

theorem execStandReset_frame (stand : Nat) (s : State) :
    ∀ u, execStandReset stand s = .next u → u.frame = s.frame := by
  intro u h; simp only [execStandReset, Host.Outcome.next.injEq] at h; subst h; (repeat' split) <;> simp

theorem execPerstDeassert_frame (link : LinkId) (s : State) :
    ∀ u, execPerstDeassert link s = .next u → u.frame = s.frame := by
  intro u h; simp only [execPerstDeassert, Host.Outcome.next.injEq] at h; subst h; split <;> simp

theorem execDeadlineRearm_frame (s : State) :
    ∀ u, execDeadlineRearm s = .next u → u.frame = s.frame := by
  intro u h; simp only [execDeadlineRearm, Host.Outcome.next.injEq] at h; subst h; split <;> simp

@[simp] theorem State.tryspares_frame (sc : List (Nat × Bool)) (d : Nat) (l : List Nat) :
    ∀ s : State, (s.tryspares sc d l).1.frame = s.frame := by
  induction l with
  | nil => intros; rfl
  | cons r l ih => intro s; unfold State.tryspares; split <;> simp [ih]

@[simp] theorem State.discardStands_frame (s : State) : s.discardStands.frame = s.frame := by
  unfold State.discardStands
  apply foldl_frame; intro u st; split
  · exact State.discardAll_frame _ _ _ _
  · rfl

@[simp] theorem State.updateBoot_frame (s : State) (f : BootState → BootState) :
    (State.updateBoot s f).frame = s.frame := by
  unfold State.updateBoot; split <;> simp

@[simp] theorem State.clearMagic_frame (s : State) (base : Nat) :
    (State.clearMagic s base).frame = s.frame := by
  unfold State.clearMagic; simp

@[simp] theorem State.tryFw_frame (s : State) (slot : Nat) (sig : Bool) :
    (State.tryFw s slot sig).1.frame = s.frame := by
  unfold State.tryFw; dsimp only; (repeat' split) <;> simp

@[simp] theorem State.chooseWarden_frame (s : State) :
    (State.chooseWarden s).frame = s.frame := by
  unfold State.chooseWarden; simp

@[simp] theorem State.reconstruct_frame (s : State) (puf : Nat) :
    (State.reconstruct s puf).frame = s.frame := by
  unfold State.reconstruct; split <;> simp

@[simp] theorem State.tryImage_frame (s : State) (slot : Nat) (read sig : Bool) :
    (State.tryImage s slot read sig).1.frame = s.frame := by
  unfold State.tryImage; dsimp only; (repeat' split) <;> simp

@[simp] theorem State.portsReady_frame (s : State) :
    (State.portsReady s).frame = s.frame := by
  unfold State.portsReady; simp

@[simp] theorem State.storeFaults_frame (s : State) (st : Nat) (c : Cmd) (r : Nat) :
    (State.storeFaults s st c r).frame = s.frame := by
  unfold State.storeFaults; dsimp only; (repeat' split) <;> simp

theorem execScalerCheck_frame (stand ticket : Nat) (tile : TileCheck) (s : State) :
    ∀ u, execScalerCheck stand ticket tile s = .next u → u.frame = s.frame := by
  intro u h; simp only [execScalerCheck, Host.Outcome.next.injEq] at h; subst h; (repeat' split) <;> simp

@[simp] theorem State.judgeTile_frame (s : State) (c : Cmd) (f : TileFault) (orig rec : List Deviation) (own : Bool) :
    (State.judgeTile s c f orig rec own).frame = s.frame := by
  unfold State.judgeTile; dsimp only; (repeat' split) <;> simp

theorem execRecompute_frame (stand ticket : Nat) (devs : List Deviation) (s : State) :
    ∀ u, execRecompute stand ticket devs s = .next u → u.frame = s.frame := by
  intro u h; simp only [execRecompute, Host.Outcome.next.injEq] at h; subst h; (repeat' split) <;> simp

theorem execColumnRemap_frame (array column : Nat) (s : State) :
    ∀ u, execColumnRemap array column s = .next u → u.frame = s.frame := by
  intro u h; simp only [execColumnRemap, Host.Outcome.next.injEq] at h; subst h; split <;> simp

@[simp] theorem State.laneCleared_frame (s : State) (u : LaneUnit) (lane st : Nat) :
    (State.laneCleared s u lane st).frame = s.frame := by
  unfold State.laneCleared; split <;> simp

@[simp] theorem State.laneConfirmed_frame (s : State) (u : LaneUnit) (lane st : Nat) (c : Cmd) :
    (State.laneConfirmed s u lane st c).frame = s.frame := by
  unfold State.laneConfirmed; split <;> simp

theorem execLaneReexecution_frame (unit : LaneUnit) (lane : Nat) (again : Option (LanePlace × BitVec 128)) (stand ticket : Nat) (s : State) :
    ∀ u, execLaneReexecution unit lane again stand ticket s = .next u → u.frame = s.frame := by
  intro u h; simp only [execLaneReexecution, Host.Outcome.next.injEq] at h; subst h; (repeat' split) <;> simp

@[simp] theorem State.tryHandover_frame (s : State) (px r : Nat) (toSpare : Bool) :
    (State.tryHandover s px r toSpare).frame = s.frame := by
  unfold State.tryHandover; dsimp only; (repeat' split) <;> simp

theorem execCoreHandover_frame (cluster logical : Nat) (toSpare : Bool) (s : State) :
    ∀ u, execCoreHandover cluster logical toSpare s = .next u → u.frame = s.frame := by
  intro u h; simp only [execCoreHandover, Host.Outcome.next.injEq] at h; subst h; split <;> simp

theorem execCruiseStep_frame (cluster : Nat) (s : State) :
    ∀ u, execCruiseStep cluster s = .next u → u.frame = s.frame := by
  intro u h; simp only [execCruiseStep, Host.Outcome.next.injEq] at h; subst h; (repeat' split) <;> simp

theorem execCruiseRunEnd_frame (passed : Bool) (s : State) :
    ∀ u, execCruiseRunEnd passed s = .next u → u.frame = s.frame := by
  intro u h; simp only [execCruiseRunEnd, Host.Outcome.next.injEq] at h; subst h; (repeat' split) <;> simp

theorem execCruiseOverdue_frame (core : Nat) (s : State) :
    ∀ u, execCruiseOverdue core s = .next u → u.frame = s.frame := by
  intro u h; simp only [execCruiseOverdue, Host.Outcome.next.injEq] at h; subst h; (repeat' split) <;> simp

theorem execLandingCruise_frame (die engine : Nat) (passed : Option Bool) (s : State) :
    ∀ u, execLandingCruise die engine passed s = .next u → u.frame = s.frame := by
  intro u h; simp only [execLandingCruise, Host.Outcome.next.injEq] at h; subst h; (repeat' split) <;> simp

@[simp] theorem State.setSram_frame (s : State) (x : SramStore) (m : Mem) : (s.setSram x m).frame = s.frame := by
  cases x <;> simp [State.setSram]

@[simp] theorem State.setSramRows_frame (s : State) (p : Nat × Nat) (r : SramRows) :
    (State.setSramRows s p r).frame = s.frame := by
  rfl

@[simp] theorem State.copyRow_frame (s : State) (x : SramStore) (macro_ row w : Nat) :
    (State.copyRow s x macro_ row w).frame = s.frame := by
  unfold State.copyRow; simp

@[simp] theorem State.rowFault_frame (s : State) (x : SramStore) (p : Nat × Nat) (macro_ row w : Nat) :
    (State.rowFault s x p macro_ row w).frame = s.frame := by
  unfold State.rowFault; dsimp only; (repeat' split) <;> simp

@[simp] theorem State.scrubWord_frame (s : State) (x : SramStore) (w macro_ row : Nat) :
    (State.scrubWord s x w macro_ row).frame = s.frame := by
  unfold State.scrubWord; dsimp only; (repeat' split) <;> simp

theorem execSramScrub_frame (store : SramStore) (word macro_ row : Nat) (s : State) :
    ∀ u, execSramScrub store word macro_ row s = .next u → u.frame = s.frame := by
  intro u h; simp only [execSramScrub, Host.Outcome.next.injEq] at h; subst h; split <;> simp

theorem execCaptureCopy_frame (index : Nat) (s : State) :
    ∀ u, execCaptureCopy index s = .next u → u.frame = s.frame := by
  intro u h; simp only [execCaptureCopy, Host.Outcome.next.injEq] at h; subst h; (repeat' split) <;> simp

theorem execWearLedgerWrite_frame (s : State) :
    ∀ u, execWearLedgerWrite s = .next u → u.frame = s.frame := by
  intro u h; simp only [execWearLedgerWrite, Host.Outcome.next.injEq] at h; subst h; (repeat' split) <;> simp

theorem execLedgerCompact_frame (s : State) :
    ∀ u, execLedgerCompact s = .next u → u.frame = s.frame := by
  intro u h; simp only [execLedgerCompact, Host.Outcome.next.injEq] at h; subst h; split <;> simp

@[simp] theorem State.accept_frame (s : State) (p : Nat) (y : RxTxn) (fenced : Bool) :
    (State.accept s p y fenced).frame = s.frame := by
  unfold State.accept; (repeat' split) <;> simp

@[simp] theorem State.takeBody_frame (s : State) (p q vc start : Nat) (body : List (List Byte)) (num : Nat) (time : W64) :
    (State.takeBody s p q vc start body num time).frame = s.frame := by
  unfold State.takeBody; simp [foldl_frame]

@[simp] theorem State.drainBond_frame (b n : Nat) : ∀ s : State, (s.drainBond b n).frame = s.frame := by
  induction n with
  | zero => intros; rfl
  | succ n ih => intro s; unfold State.drainBond; dsimp only; split <;> simp [ih]

@[simp] theorem State.takeData_frame (s : State) (p : Nat) (h : FlitHead) (body : List (List Byte)) :
    (s.takeData p h body).frame = s.frame := by
  unfold State.takeData
  dsimp only
  (repeat' split) <;> simp

@[simp] theorem State.putFlit_frame (s : State) (p : Nat) (h : FlitHead) (body : List (List Byte)) :
    (State.putFlit s p h body).frame = s.frame := by
  rfl

@[simp] theorem State.badFlit_frame (s : State) (p : Nat) :
    (State.badFlit s p).frame = s.frame := by
  unfold State.badFlit; dsimp only; (repeat' split) <;> simp

theorem execFlitReceive_frame (port : Nat) (flit : RxFlit) (s : State) :
    ∀ u, execFlitReceive port flit s = .next u → u.frame = s.frame := by
  intro u h; simp only [execFlitReceive, Host.Outcome.next.injEq] at h; subst h
  (repeat' split) <;> simp

@[simp] theorem State.sendFlit_frame (s : State) (p : Nat) (f : RetryFlit) :
    (State.sendFlit s p f).frame = s.frame := by
  unfold State.sendFlit; simp

@[simp] theorem State.sendAgain_frame (s : State) (p seq : Nat) :
    (State.sendAgain s p seq).frame = s.frame := by
  unfold State.sendAgain; dsimp only; (repeat' split) <;> simp

theorem State.resendOne_frame (s : State) (p : Nat) :
    ∀ u, State.resendOne s p = some u → u.frame = s.frame := by
  unfold State.resendOne; intro u h; dsimp only at h; (repeat' split at h) <;> first | (cases h; done) | (cases h; simp)

@[simp] theorem State.sendData_frame (s : State) (p q vc k : Nat) :
    (State.sendData s p q vc k).frame = s.frame := by
  unfold State.sendData; dsimp only; (repeat' split) <;> simp

@[simp] theorem State.sendNext_frame (s : State) (p : Nat) :
    (State.sendNext s p).frame = s.frame := by
  unfold State.sendNext
  dsimp only
  (repeat' split) <;> first | rfl | (simp; done) | exact State.resendOne_frame _ _ _ ‹_›

theorem execEgressArbitrate_frame (port : Nat) (s : State) :
    ∀ u, execEgressArbitrate port s = .next u → u.frame = s.frame := by
  intro u h; simp only [execEgressArbitrate, Host.Outcome.next.injEq] at h; subst h; split <;> simp

@[simp] theorem State.takeFlit_frame (s : State) (die port : Nat) (f : DieFlit) :
    (State.takeFlit s die port f).frame = s.frame := by
  unfold State.takeFlit; (repeat' split) <;> simp

theorem execDieLinkFlit_frame (die port : Nat) (waiting : List DieFlit) (checkOk : Bool) (s : State) :
    ∀ u, execDieLinkFlit die port waiting checkOk s = .next u → u.frame = s.frame := by
  intro u h; simp only [execDieLinkFlit, Host.Outcome.next.injEq] at h; subst h; (repeat' split) <;> simp

theorem execDieLinkLaneFail_frame (die port lane : Nat) (s : State) :
    ∀ u, execDieLinkLaneFail die port lane s = .next u → u.frame = s.frame := by
  intro u h; simp only [execDieLinkLaneFail, Host.Outcome.next.injEq] at h; subst h; (repeat' split) <;> simp

@[simp] theorem State.refuseHead_frame (s : State) (st n : Nat) (p : Packet) (v : W16) :
    (State.refuseHead s st n p v).frame = s.frame := by
  unfold State.refuseHead; simp [foldl_frame]

theorem execHeaderRefusal_frame (stand : Nat) (s : State) :
    ∀ u, execHeaderRefusal stand s = .next u → u.frame = s.frame := by
  intro u h; simp only [execHeaderRefusal, Host.Outcome.next.injEq] at h; subst h; (repeat' split) <;> simp

@[simp] theorem State.issue_frame (s : State) (st : Nat) (p : Packet) (slot : Option Nat) :
    (State.issue s st p slot).1.frame = s.frame := by
  unfold State.issue; dsimp only; (repeat' split) <;> simp

@[simp] theorem State.afterIssue_frame (s : State) (st : Nat) (c : Cmd) :
    (State.afterIssue s st c).frame = s.frame := by
  unfold State.afterIssue; (repeat' split) <;> simp

@[simp] theorem State.issueHead_frame (s : State) (st : Nat) (p : Packet) :
    (State.issueHead s st p).frame = s.frame := by
  unfold State.issueHead; dsimp only; (repeat' split) <;> simp

@[simp] theorem State.tryIssue_frame (s : State) (st : Nat) (row : Nat → Bool) :
    (State.tryIssue s st row).frame = s.frame := by
  unfold State.tryIssue; (repeat' split) <;> simp

theorem execCommandIssue_frame (stand : Nat) (s : State) :
    ∀ u, execCommandIssue stand s = .next u → u.frame = s.frame := by
  intro u h; simp only [execCommandIssue, Host.Outcome.next.injEq] at h; subst h; simp

theorem execStepBegin_frame (stand : Nat) (s : State) :
    ∀ u, execStepBegin stand s = .next u → u.frame = s.frame := by
  intro u h; simp only [execStepBegin, Host.Outcome.next.injEq] at h; subst h; simp

theorem execStepEnd_frame (stand : Nat) (s : State) :
    ∀ u, execStepEnd stand s = .next u → u.frame = s.frame := by
  intro u h; simp only [execStepEnd, Host.Outcome.next.injEq] at h; subst h; simp

theorem execEvent_frame (stand : Nat) (s : State) :
    ∀ u, execEvent stand s = .next u → u.frame = s.frame := by
  intro u h; simp only [execEvent, Host.Outcome.next.injEq] at h; subst h; simp

theorem execResult_frame (stand : Nat) (s : State) :
    ∀ u, execResult stand s = .next u → u.frame = s.frame := by
  intro u h; simp only [execResult, Host.Outcome.next.injEq] at h; subst h; simp

theorem execNop_frame (stand : Nat) (s : State) :
    ∀ u, execNop stand s = .next u → u.frame = s.frame := by
  intro u h; simp only [execNop, Host.Outcome.next.injEq] at h; subst h; simp

@[simp] theorem State.countEnd_frame (s : State) (st : Nat) (c : Cmd) :
    (State.countEnd s st c).frame = s.frame := by
  unfold State.countEnd; simp [foldl_frame]

@[simp] theorem State.complete_frame (s : State) (st : Nat) (c : Cmd) :
    (State.complete s st c).frame = s.frame := by
  unfold State.complete; simp

theorem execCommandComplete_frame (stand ticket : Nat) (s : State) :
    ∀ u, execCommandComplete stand ticket s = .next u → u.frame = s.frame := by
  intro u h; simp only [execCommandComplete, Host.Outcome.next.injEq] at h; subst h; (repeat' split) <;> simp

@[simp] theorem State.replaySeek_frame (st : Nat) (r : Replay) (l : List W64) :
    ∀ (s : State) (i : Nat), (s.replaySeek st r l i).frame = s.frame := by
  induction l with
  | nil => intros; simp [State.replaySeek]
  | cons a l ih => intro s i; unfold State.replaySeek; (repeat' split) <;> simp [ih]

@[simp] theorem State.reissue_frame (s : State) (st : Nat) (q : StepRec) (k : LoggedCmd) :
    (State.reissue s st q k).frame = s.frame := by
  unfold State.reissue; simp

@[simp] theorem State.replayNext_frame (s : State) (st : Nat) (r : Replay) (q : StepRec) (k : LoggedCmd) :
    (State.replayNext s st r q k).frame = s.frame := by
  unfold State.replayNext; dsimp only; (repeat' split) <;> simp

theorem execReplayIssue_frame (stand : Nat) (s : State) :
    ∀ u, execReplayIssue stand s = .next u → u.frame = s.frame := by
  intro u h; simp only [execReplayIssue, Host.Outcome.next.injEq] at h; subst h; (repeat' split) <;> simp

theorem execLockstepMismatch_frame (s : State) :
    ∀ u, execLockstepMismatch s = .next u → u.frame = s.frame := by
  intro u h; simp only [execLockstepMismatch, Host.Outcome.next.injEq] at h; subst h; split <;> simp

@[simp] theorem State.endUpdate_frame (s : State) :
    (State.endUpdate s).frame = s.frame := by
  unfold State.endUpdate; split <;> simp

theorem execWardenTakeover_frame (s : State) :
    ∀ u, execWardenTakeover s = .next u → u.frame = s.frame := by
  intro u h; simp only [execWardenTakeover, Host.Outcome.next.injEq] at h; subst h; split <;> simp

theorem execStandbyFault_frame (s : State) :
    ∀ u, execStandbyFault s = .next u → u.frame = s.frame := by
  intro u h; simp only [execStandbyFault, Host.Outcome.next.injEq] at h; subst h; split <;> simp

theorem execEventLogCopy_frame (s : State) :
    ∀ u, execEventLogCopy s = .next u → u.frame = s.frame := by
  intro u h; simp only [execEventLogCopy, Host.Outcome.next.injEq] at h; subst h; (repeat' split) <;> simp

@[simp] theorem State.showJunction_frame (s : State) (d : Nat) :
    (State.showJunction s d).frame = s.frame := by
  unfold State.showJunction; (repeat' split) <;> simp

theorem execSensorSample_frame (sensor : Nat) (reading : Int) (s : State) :
    ∀ u, execSensorSample sensor reading s = .next u → u.frame = s.frame := by
  intro u h; simp only [execSensorSample, Host.Outcome.next.injEq] at h; subst h; (repeat' split) <;> simp

theorem execEntdaa_frame (address : Nat) (s : State) :
    ∀ u, execEntdaa address s = .next u → u.frame = s.frame := by
  intro u h; simp only [execEntdaa, Host.Outcome.next.injEq] at h; subst h; split <;> simp

theorem execMctpControlMessage_frame (code : Nat) (data : List Byte) (s : State) :
    ∀ u, execMctpControlMessage code data s = .next u → u.frame = s.frame := by
  intro u h; simp only [execMctpControlMessage, Host.Outcome.next.injEq] at h; subst h; (repeat' split) <;> simp

@[simp] theorem State.spdmReply_frame (s : State) (via : Nat) (error : Bool) (data : List Byte) :
    (State.spdmReply s via error data).frame = s.frame := by
  unfold State.spdmReply; simp

@[simp] theorem State.setSpdm_frame (s : State) (via n : Nat) :
    (State.setSpdm s via n).frame = s.frame := by
  rfl

theorem State.spdm_frame (s : State) (via need : Nat) (f : State → State) (hf : ∀ u, (f u).frame = u.frame) :
    (s.spdm via need f).frame = s.frame := by
  unfold State.spdm; (repeat' split) <;> simp [hf]

theorem execGetCertificate_frame (via slot offset length : Nat)
    (s : State) : ∀ u, execGetCertificate via slot offset length s = .next u → u.frame = s.frame := by
  intro u h; simp only [execGetCertificate, Host.Outcome.next.injEq] at h; subst h
  (repeat' split) <;> first | rfl | (simp; done) | (apply State.spdm_frame; intro v; (repeat' split) <;> simp)

theorem execChallenge_frame (via : Nat) (nonce : List Byte)
    (s : State) : ∀ u, execChallenge via nonce s = .next u → u.frame = s.frame := by
  intro u h; simp only [execChallenge, Host.Outcome.next.injEq] at h; subst h
  (repeat' split) <;> first | rfl | (simp; done) | (apply State.spdm_frame; intro v; (repeat' split) <;> simp)

theorem execGetMeasurements_frame (via index : Nat) (signed : Bool) (nonce : List Byte)
    (s : State) : ∀ u, execGetMeasurements via index signed nonce s = .next u → u.frame = s.frame := by
  intro u h; simp only [execGetMeasurements, Host.Outcome.next.injEq] at h; subst h
  (repeat' split) <;> first | rfl | (simp; done) | (apply State.spdm_frame; intro v; (repeat' split) <;> simp)

theorem execSpdmNegotiation_frame (via code : Nat) (data : List Byte)
    (s : State) : ∀ u, execSpdmNegotiation via code data s = .next u → u.frame = s.frame := by
  intro u h; simp only [execSpdmNegotiation, Host.Outcome.next.injEq] at h; subst h
  (repeat' split) <;> first | rfl | (simp; done) | (apply State.spdm_frame; intro v; (repeat' split) <;> simp)

theorem execRequestUpdate_frame (via : Nat) (s : State) :
    ∀ u, execRequestUpdate via s = .next u → u.frame = s.frame := by
  intro u h; simp only [execRequestUpdate, Host.Outcome.next.injEq] at h; subst h; (repeat' split) <;> simp

@[simp] theorem State.markTrial_frame (s : State) (c : Nat) :
    (State.markTrial s c).frame = s.frame := by
  unfold State.markTrial; (repeat' split) <;> simp

theorem execUpdateTransfer_frame (via component offset : Nat) (data : List Byte) (s : State) :
    ∀ u, execUpdateTransfer via component offset data s = .next u → u.frame = s.frame := by
  intro u h; simp only [execUpdateTransfer, Host.Outcome.next.injEq] at h; subst h; split <;> simp

theorem execVerifyComplete_frame (via component : Nat) (sig : SigRead) (s : State) :
    ∀ u, execVerifyComplete via component sig s = .next u → u.frame = s.frame := by
  intro u h; simp only [execVerifyComplete, Host.Outcome.next.injEq] at h; subst h; (repeat' split) <;> simp

@[simp] theorem State.mboxIgnore_frame (s : State) (m : Nat) :
    (State.mboxIgnore s m).frame = s.frame := by
  unfold State.mboxIgnore; simp

theorem execMailboxWrite_frame (link : LinkId) (mbox offset : Nat) (data : List Byte) (s : State) :
    ∀ u, execMailboxWrite link mbox offset data s = .next u → u.frame = s.frame := by
  intro u h; simp only [execMailboxWrite, Host.Outcome.next.injEq] at h; subst h; (repeat' split) <;> simp

theorem execMailboxAbort_frame (link : LinkId) (mbox : Nat) (s : State) :
    ∀ u, execMailboxAbort link mbox s = .next u → u.frame = s.frame := by
  intro u h; simp only [execMailboxAbort, Host.Outcome.next.injEq] at h; subst h; split <;> simp

theorem execMailboxRelease_frame (link : LinkId) (mbox : Nat) (gen : W16) (s : State) :
    ∀ u, execMailboxRelease link mbox gen s = .next u → u.frame = s.frame := by
  intro u h; simp only [execMailboxRelease, Host.Outcome.next.injEq] at h; subst h; split <;> simp

@[simp] theorem State.serve_frame (s : State) (via : ReqVia) (op : Nat) (f : List Byte → W16 × List Byte) :
    (State.serve s via op f).frame = s.frame := by
  unfold State.serve; dsimp only; (repeat' split) <;> simp

theorem execLogRead_frame (via : ReqVia) (s : State) :
    ∀ u, execLogRead via s = .next u → u.frame = s.frame := by
  intro u h; simp only [execLogRead, Host.Outcome.next.injEq] at h; subst h; (repeat' split) <;> simp

theorem execLedgerRead_frame (via : ReqVia) (s : State) :
    ∀ u, execLedgerRead via s = .next u → u.frame = s.frame := by
  intro u h; simp only [execLedgerRead, Host.Outcome.next.injEq] at h; subst h; (repeat' split) <;> simp

theorem execSampleRead_frame (via : ReqVia) (s : State) :
    ∀ u, execSampleRead via s = .next u → u.frame = s.frame := by
  intro u h; simp only [execSampleRead, Host.Outcome.next.injEq] at h; subst h; (repeat' split) <;> simp

theorem execCaptureRead_frame (via : ReqVia) (s : State) :
    ∀ u, execCaptureRead via s = .next u → u.frame = s.frame := by
  intro u h; simp only [execCaptureRead, Host.Outcome.next.injEq] at h; subst h; (repeat' split) <;> simp

theorem execRouteRead_frame (via : ReqVia) (s : State) :
    ∀ u, execRouteRead via s = .next u → u.frame = s.frame := by
  intro u h; simp only [execRouteRead, Host.Outcome.next.injEq] at h; subst h; (repeat' split) <;> simp

theorem execSensorRead_frame (via : ReqVia) (s : State) :
    ∀ u, execSensorRead via s = .next u → u.frame = s.frame := by
  intro u h; simp only [execSensorRead, Host.Outcome.next.injEq] at h; subst h; (repeat' split) <;> simp

theorem execCertRead_frame (via : ReqVia) (s : State) :
    ∀ u, execCertRead via s = .next u → u.frame = s.frame := by
  intro u h; simp only [execCertRead, Host.Outcome.next.injEq] at h; subst h; split <;> simp

theorem execPldm_frame (via : ReqVia) (s : State) :
    ∀ u, execPldm via s = .next u → u.frame = s.frame := by
  intro u h; simp only [execPldm, Host.Outcome.next.injEq] at h; subst h; (repeat' split) <;> simp

theorem execVariantRead_frame (via : ReqVia) (s : State) :
    ∀ u, execVariantRead via s = .next u → u.frame = s.frame := by
  intro u h; simp only [execVariantRead, Host.Outcome.next.injEq] at h; subst h; (repeat' split) <;> simp

@[simp] theorem State.poolExhausted_frame (s : State) (n : Nat) :
    (State.poolExhausted s n).frame = s.frame := by
  unfold State.poolExhausted; simp

@[simp] theorem State.moveWords_frame (s : State) (ws : List Nat) :
    (State.moveWords s ws).frame = s.frame := by
  unfold State.moveWords; simp [foldl_frame]

@[simp] theorem State.remapChannel_frame (s : State) (n pc : Nat) :
    (State.remapChannel s n pc).frame = s.frame := by
  unfold State.remapChannel; dsimp only; (repeat' split) <;> simp

@[simp] theorem State.remapBank_frame (s : State) (n b : Nat) :
    (State.remapBank s n b).frame = s.frame := by
  unfold State.remapBank; dsimp only; (repeat' split) <;> simp

@[simp] theorem State.repairRow_frame (s : State) (n b r : Nat) (how : RowRepair) :
    (State.repairRow s n b r how).frame = s.frame := by
  unfold State.repairRow; (repeat' split) <;> simp

@[simp] theorem State.hbmRowFault_frame (s : State) (k : Nat) :
    (State.hbmRowFault s k).frame = s.frame := by
  unfold State.hbmRowFault; dsimp only; (repeat' split) <;> simp

@[simp] theorem State.noteSymbol_frame (s : State) (k pos : Nat) :
    (State.noteSymbol s k pos).frame = s.frame := by
  unfold State.noteSymbol; dsimp only; (repeat' split) <;> simp

@[simp] theorem State.writeBack_frame (s : State) (b : WriteBack) :
    (State.writeBack s b).frame = s.frame := by
  unfold State.writeBack; (repeat' split) <;> simp

@[simp] theorem State.wordFault_frame (s : State) (w : Nat) :
    (State.wordFault s w).frame = s.frame := by
  unfold State.wordFault; simp

@[simp] theorem State.controllersTurn_frame (s : State) : s.controllersTurn.frame = s.frame := by
  unfold State.controllersTurn
  split
  · rfl
  · refine (foldl_frame _ (fun u f => by simp) _ _).trans ((foldl_frame _ (fun u f => ?_) _ _).trans
      ((foldl_frame _ (fun u k => by simp) _ _).trans rfl))
    split <;> simp

@[simp] theorem State.scrubHbmWord_frame (s : State) (w : Nat) :
    (State.scrubHbmWord s w).frame = s.frame := by
  unfold State.scrubHbmWord; dsimp only; (repeat' split) <;> simp

@[simp] theorem State.scrubProgress_frame (s : State) (n : Nat) :
    (State.scrubProgress s n).frame = s.frame := by
  unfold State.scrubProgress; dsimp only; (repeat' split) <;> simp

theorem execHbmScrub_frame (die block : Nat) (s : State) :
    ∀ u, execHbmScrub die block s = .next u → u.frame = s.frame := by
  intro u h; simp only [execHbmScrub, Host.Outcome.next.injEq] at h; subst h; split <;> simp [foldl_frame]

@[simp] theorem State.repairMove_frame (s : State) (n words : Nat) :
    (State.repairMove s n words).frame = s.frame := by
  unfold State.repairMove; dsimp only; (repeat' split) <;> simp

theorem execRepairMove_frame (stack words : Nat) (s : State) :
    ∀ u, execRepairMove stack words s = .next u → u.frame = s.frame := by
  intro u h; simp only [execRepairMove, Host.Outcome.next.injEq] at h; subst h; split <;> simp

@[simp] theorem State.setGate_frame (s : State) (l g : Nat) (x : Gate) :
    (State.setGate s l g x).frame = s.frame := by
  rfl

@[simp] theorem State.refill_frame (s : State) (l g : Nat) :
    (State.refill s l g).frame = s.frame := by
  unfold State.refill; dsimp only; (repeat' split) <;> simp

@[simp] theorem State.flumeTake_frame (s : State) (l : Nat) (r : FlumeReq) (cls : Nat) :
    (State.flumeTake s l r cls).frame = s.frame := by
  unfold State.flumeTake; (repeat' split) <;> simp

@[simp] theorem State.flumeArrive_frame (s : State) (l : Nat) (rs : List FlumeReq) :
    (State.flumeArrive s l rs).frame = s.frame := by
  rfl

theorem execFlumeGrant_frame (die : Nat) (turn : FlumeSlot) (s : State) :
    ∀ u, execFlumeGrant die turn s = .next u → u.frame = s.frame := by
  intro u h; simp only [execFlumeGrant, Host.Outcome.next.injEq] at h; subst h; (repeat' split) <;> simp

@[simp] theorem State.refillGates_frame (s : State) : s.refillGates.frame = s.frame := by
  refine foldl_frame _ (fun u p => ?_) _ _
  split <;> simp

theorem execFlumeBurstSample_frame (die gate burstBytes : Nat) (busy : Bool) (s : State) :
    ∀ u, execFlumeBurstSample die gate burstBytes busy s = .next u → u.frame = s.frame := by
  intro u h; simp only [execFlumeBurstSample, Host.Outcome.next.injEq] at h; subst h; split <;> simp

@[simp] theorem State.writeRstReq_frame (s : State) (l : LinkId) (v : W64) :
    (State.writeRstReq s l v).frame = s.frame := by
  unfold State.writeRstReq; dsimp only; (repeat' split) <;> simp

@[simp] theorem State.writeMsix_frame (s : State) (l : LinkId) (i : Nat) (m v : W64) :
    (State.writeMsix s l i m v).frame = s.frame := by
  unfold State.writeMsix; simp

@[simp] theorem State.writeMboxCtrl_frame (s : State) (k : Nat) (v : W64) :
    (State.writeMboxCtrl s k v).frame = s.frame := by
  unfold State.writeMboxCtrl; simp

@[simp] theorem State.writeChu_frame (s : State) (st o : Nat) (v : W64) :
    (State.writeChu s st o v).frame = s.frame := by
  unfold State.writeChu; (repeat' split) <;> simp

@[simp] theorem State.writeBar0_frame (s : State) (l : LinkId) (o : Nat) (m v : W64) :
    (s.writeBar0 l o m v).frame = s.frame := by
  unfold State.writeBar0; dsimp only
  (repeat' split) <;> first | rfl | (simp; done) | (apply State.setLink_frame; rfl)

theorem execRegisterWrite_frame (link : LinkId) (offset width : Nat) (value : W64) (s : State) :
    ∀ u, execRegisterWrite link offset width value s = .next u → u.frame = s.frame := by
  intro u h; simp only [execRegisterWrite, Host.Outcome.next.injEq] at h; subst h; split <;> simp

theorem execEngineWatchdog_frame (stand : Nat) (engine : EngineId) (s : State) :
    ∀ u, execEngineWatchdog stand engine s = .next u → u.frame = s.frame := by
  intro u h; simp only [execEngineWatchdog, Host.Outcome.next.injEq] at h; subst h; (repeat' split) <;> simp

theorem execWaitWatchdog_frame (stand : Nat) (s : State) :
    ∀ u, execWaitWatchdog stand s = .next u → u.frame = s.frame := by
  intro u h; simp only [execWaitWatchdog, Host.Outcome.next.injEq] at h; subst h; (repeat' split) <;> simp

theorem execRefreshRateRestore_frame (stack : Nat) (s : State) :
    ∀ u, execRefreshRateRestore stack s = .next u → u.frame = s.frame := by
  intro u h; simp only [execRefreshRateRestore, Host.Outcome.next.injEq] at h; subst h; split <;> simp

theorem execHbmRefresh_frame (stack : Nat) (s : State) :
    ∀ u, execHbmRefresh stack s = .next u → u.frame = s.frame := by
  intro u h; simp only [execHbmRefresh, Host.Outcome.next.injEq] at h; subst h; split <;> simp

theorem execLinkRecalibration_frame (k n : Nat) (s : State) :
    ∀ u, execLinkRecalibration k n s = .next u → u.frame = s.frame := by
  intro u h; cases h; rfl

@[simp] theorem State.countCycles_frame (s : State) (st : Nat) :
    (State.countCycles s st).frame = s.frame := by
  unfold State.countCycles; simp [foldl_frame]

@[simp] theorem State.zoneCycle_frame (s : State) (z : Nat) :
    (State.zoneCycle s z).frame = s.frame := by
  unfold State.zoneCycle; split <;> simp

@[simp] theorem State.portCycle_frame (s : State) (p : Nat) :
    (State.portCycle s p).frame = s.frame := by
  unfold State.portCycle; (repeat' split) <;> simp

@[simp] theorem State.finishResets_frame (s : State) (st : Nat) :
    (State.finishResets s st).frame = s.frame := by
  unfold State.finishResets; simp [foldl_frame]

@[simp] theorem tick_frame (s : State) :
    (tick s).frame = s.frame := by
  unfold tick; dsimp only; (repeat' split) <;> simp [foldl_frame]

end Sys2Proof.Machine
end

