-- ==== Sys2Proof/Laws/Mem.lean ====
section
/-! SUPPORT. Read after write for stored bytes, and every memory operation keeps the canonical form. -/

namespace Sys2Proof.Machine

theorem cellsWf_mono {lo lo' : Nat} (h : lo' ≤ lo) : ∀ {t : Cells}, cellsWf lo t = true → cellsWf lo' t = true
  | [], _ => rfl
  | (i, v) :: t, ht => by
    simp only [cellsWf, Bool.and_eq_true, decide_eq_true_eq] at ht ⊢
    exact ⟨⟨le_trans h ht.1.1, ht.1.2⟩, ht.2⟩

theorem cellSet_wf : ∀ (t : Cells) (lo k : Nat) (v : Byte), lo ≤ k → cellsWf lo t = true →
    cellsWf lo (cellSet t k v) = true
  | [], lo, k, v, h, _ => by
    simp only [cellSet]; split_ifs with hv
    · rfl
    · simp only [cellsWf, Bool.and_eq_true, decide_eq_true_eq]; exact ⟨⟨h, hv⟩, trivial⟩
  | (i, w) :: t, lo, k, v, h, ht => by
    simp only [cellsWf, Bool.and_eq_true, decide_eq_true_eq] at ht
    obtain ⟨⟨h1, h2⟩, h3⟩ := ht
    simp only [cellSet]
    split_ifs with hik hv hki hv
    · exact cellsWf_mono (by omega) h3
    · subst hik; simp only [cellsWf, Bool.and_eq_true, decide_eq_true_eq]; exact ⟨⟨h, hv⟩, h3⟩
    · simp only [cellsWf, Bool.and_eq_true, decide_eq_true_eq]; exact ⟨⟨h1, h2⟩, h3⟩
    · simp only [cellsWf, Bool.and_eq_true, decide_eq_true_eq]
      exact ⟨⟨h, hv⟩, ⟨by omega, h2⟩, h3⟩
    · simp only [cellsWf, Bool.and_eq_true, decide_eq_true_eq]
      exact ⟨⟨h1, h2⟩, cellSet_wf t (i + 1) k v (by omega) h3⟩

theorem cellGet_low : ∀ (t : Cells) (lo k : Nat), k < lo → cellsWf lo t = true → cellGet t k = 0
  | [], _, _, _, _ => rfl
  | (i, w) :: t, lo, k, h, ht => by
    simp only [cellsWf, Bool.and_eq_true, decide_eq_true_eq] at ht
    have hne : i ≠ k := by omega
    simp only [cellGet, hne, if_false]
    exact cellGet_low t (i + 1) k (by omega) ht.2

theorem cellGet_set_same : ∀ (t : Cells) (lo k : Nat) (v : Byte), cellsWf lo t = true →
    cellGet (cellSet t k v) k = v
  | [], _, k, v, _ => by
    simp only [cellSet]; split_ifs with hv
    · simp [cellGet, hv]
    · simp [cellGet]
  | (i, w) :: t, lo, k, v, ht => by
    simp only [cellsWf, Bool.and_eq_true, decide_eq_true_eq] at ht
    simp only [cellSet]
    split_ifs with hik hv hki hv
    · subst hik; rw [cellGet_low t (i + 1) i (by omega) ht.2, hv]
    · simp [cellGet]
    · have hne : i ≠ k := hik
      simp only [cellGet, hne, if_false]
      rw [cellGet_low t (i + 1) k (by omega) ht.2, hv]
    · simp [cellGet]
    · have hne : i ≠ k := hik
      simp only [cellGet, hne, if_false]
      exact cellGet_set_same t (i + 1) k v ht.2

theorem cellGet_set_ne : ∀ (t : Cells) (k j : Nat) (v : Byte), k ≠ j →
    cellGet (cellSet t k v) j = cellGet t j
  | [], k, j, v, h => by
    simp only [cellSet]; split_ifs <;> simp [cellGet, h]
  | (i, w) :: t, k, j, v, h => by
    simp only [cellSet]
    split_ifs with hik hv hki hv
    · subst hik; simp [cellGet, h]
    · subst hik; simp [cellGet, h]
    · rfl
    · simp [cellGet, h]
    · simp only [cellGet]; rw [cellGet_set_ne t k j v h]

theorem diffWf_mono {lo lo' : Nat} (h : lo' ≤ lo) :
    ∀ {t : Tab (Byte × Byte)}, diffWf lo t = true → diffWf lo' t = true
  | [], _ => rfl
  | (i, v) :: t, ht => by
    simp only [diffWf, Bool.and_eq_true, decide_eq_true_eq] at ht ⊢
    exact ⟨⟨le_trans h ht.1.1, ht.1.2⟩, ht.2⟩

theorem diffSet_wf : ∀ (t : Tab (Byte × Byte)) (lo k : Nat) (v : Byte × Byte), lo ≤ k → diffWf lo t = true →
    diffWf lo (diffSet t k v) = true
  | [], lo, k, v, h, _ => by
    simp only [diffSet]; split_ifs with hv
    · rfl
    · simp only [diffWf, Bool.and_eq_true, decide_eq_true_eq]; exact ⟨⟨h, hv⟩, trivial⟩
  | (i, w) :: t, lo, k, v, h, ht => by
    simp only [diffWf, Bool.and_eq_true, decide_eq_true_eq] at ht
    obtain ⟨⟨h1, h2⟩, h3⟩ := ht
    simp only [diffSet]
    split_ifs with hik hv hki hv
    · exact diffWf_mono (by omega) h3
    · subst hik; simp only [diffWf, Bool.and_eq_true, decide_eq_true_eq]; exact ⟨⟨h, hv⟩, h3⟩
    · simp only [diffWf, Bool.and_eq_true, decide_eq_true_eq]; exact ⟨⟨h1, h2⟩, h3⟩
    · simp only [diffWf, Bool.and_eq_true, decide_eq_true_eq]
      exact ⟨⟨h, hv⟩, ⟨by omega, h2⟩, h3⟩
    · simp only [diffWf, Bool.and_eq_true, decide_eq_true_eq]
      exact ⟨⟨h1, h2⟩, diffSet_wf t (i + 1) k v (by omega) h3⟩

theorem Mem.wf_iff (m : Mem) : m.wf = true ↔ cellsWf 0 m.bytes = true ∧ diffWf 0 m.diff = true := by
  simp [Mem.wf]

@[simp] theorem Mem.empty_wf : Mem.empty.wf = true := rfl

theorem Mem.writeRaw_wf {m : Mem} (h : m.wf = true) (a : Nat) (v : Byte) : (m.writeRaw a v).wf = true := by
  rw [Mem.wf_iff] at h ⊢; exact ⟨cellSet_wf _ _ _ _ (Nat.zero_le _) h.1, h.2⟩

theorem Mem.setDiff_wf {m : Mem} (h : m.wf = true) (w : Nat) (d : Byte × Byte) : (m.setDiff w d).wf = true := by
  rw [Mem.wf_iff] at h ⊢; exact ⟨h.1, diffSet_wf _ _ _ _ (Nat.zero_le _) h.2⟩

theorem Mem.writeRawN_wf : ∀ (bs : List Byte) {m : Mem} (a : Nat), m.wf = true → (m.writeRawN a bs).wf = true
  | [], _, _, h => h
  | v :: vs, _, a, h => Mem.writeRawN_wf vs (a + 1) (Mem.writeRaw_wf h a v)

theorem Mem.correctWord_wf {m : Mem} (h : m.wf = true) (w : Nat) : (m.correctWord w).wf = true := by
  unfold Mem.correctWord
  split
  · split_ifs
    · exact Mem.setDiff_wf (Mem.writeRaw_wf h _ _) _ _
    · exact Mem.setDiff_wf h _ _
  · exact h

theorem Mem.writeByte_wf {m : Mem} (h : m.wf = true) (a : Nat) (v : Byte) : (m.writeByte a v).wf = true := by
  unfold Mem.writeByte
  split_ifs
  · exact Mem.setDiff_wf (Mem.writeRaw_wf h _ _) _ _
  · exact Mem.writeRaw_wf (Mem.correctWord_wf h _) _ _

theorem Mem.writeBytes_wf : ∀ (bs : List Byte) {m : Mem} (a : Nat), m.wf = true → (m.writeBytes a bs).wf = true
  | [], _, _, h => h
  | v :: vs, _, a, h => Mem.writeBytes_wf vs (a + 1) (Mem.writeByte_wf h a v)

theorem Mem.writeWord_wf {m : Mem} (h : m.wf = true) (w : Nat) (bs : List Byte) : (m.writeWord w bs).wf = true :=
  Mem.setDiff_wf (Mem.writeRawN_wf _ _ h) _ _

theorem Mem.freshWords_wf : ∀ (n : Nat) {m : Mem} (w : Nat), m.wf = true → (m.freshWords w n).wf = true
  | 0, _, _, h => h
  | n + 1, _, w, h => Mem.freshWords_wf n (w + 1) (Mem.setDiff_wf h w _)

theorem Mem.writeRange_wf {m : Mem} (h : m.wf = true) (a : Nat) (bs : List Byte) : (m.writeRange a bs).wf = true :=
  Mem.writeBytes_wf _ _ (Mem.freshWords_wf _ _ h)

theorem Mem.poison_wf {m : Mem} (h : m.wf = true) (w : Nat) : (m.poison w).wf = true := Mem.setDiff_wf h _ _

theorem Mem.upset_wf {m : Mem} (h : m.wf = true) (w pos : Nat) (x : Byte) : (m.upset w pos x).wf = true := by
  unfold Mem.upset
  split_ifs
  · exact Mem.setDiff_wf h _ _
  · exact Mem.setDiff_wf h _ _
  · exact Mem.setDiff_wf (Mem.writeRaw_wf h _ _) _ _

theorem Mem.foldl_wf {α : Type} {f : Mem → α → Mem} (hf : ∀ {m : Mem} (x : α), m.wf = true → (f m x).wf = true) :
    ∀ (xs : List α) {m : Mem}, m.wf = true → (xs.foldl f m).wf = true
  | [], _, h => h
  | x :: xs, _, h => Mem.foldl_wf hf xs (hf x h)

theorem Mem.put_wf {m : Mem} (h : m.wf = true) (bs : List (Nat × Byte)) : (m.put bs).wf = true :=
  Mem.foldl_wf (fun _ h => Mem.writeByte_wf h _ _) _ (Mem.foldl_wf (fun _ h => Mem.setDiff_wf h _ _) _ h)

theorem Mem.spoil_wf {m : Mem} (h : m.wf = true) (ctr : Nat) (ws : List BadWord) : (m.spoil ctr ws).wf = true := by
  refine Mem.foldl_wf (fun p h => ?_) _ h
  split <;> exact Mem.setDiff_wf (Mem.writeRawN_wf _ _ h) _ _

theorem Mem.copyWord_wf {m : Mem} (h : m.wf = true) (src dst : Nat) : (m.copyWord src dst).wf = true :=
  Mem.setDiff_wf (Mem.writeRawN_wf _ _ h) _ _

theorem diffWf_filter (q : Nat × Byte × Byte → Bool) :
    ∀ {t : Tab (Byte × Byte)} {lo : Nat}, diffWf lo t = true → diffWf lo (t.filter q) = true
  | [], _, h => h
  | (k, v) :: t, lo, h => by
    simp only [diffWf, Bool.and_eq_true, decide_eq_true_eq] at h
    by_cases hq : q (k, v) = true
    · have hv := h.1.2
      simp [hq, diffWf, h.1.1, diffWf_filter q h.2]
      exact hv
    · simp only [List.filter_cons, hq]
      exact diffWf_mono (by omega) (diffWf_filter q h.2)

theorem Mem.freshRange_wf {m : Mem} (h : m.wf = true) (a n : Nat) : (m.freshRange a n).wf = true := by
  rw [Mem.wf_iff] at h ⊢; exact ⟨h.1, diffWf_filter _ h.2⟩

theorem Desc.putStored_wf (d : Desc) {m : Mem} (h : m.wf = true) (bs : List (Nat × Byte)) :
    (d.putStored m bs).wf = true := by
  refine Mem.foldl_wf (fun _ h => Mem.writeByte_wf h _ _) _ ?_
  split_ifs <;> repeat' first | exact h | apply Mem.freshRange_wf

end Sys2Proof.Machine
end

