-- ==== Sys2Proof/Laws/Tab.lean ====
section
/-! SUPPORT. Read after write for the sparse tables. -/

namespace Sys2Proof.Machine

@[simp] theorem Tab.get_nil {α : Type} (d : α) (k : Nat) : Tab.get d ([] : Tab α) k = d := rfl

@[simp] theorem Tab.get_set_same {α : Type} (d : α) (t : Tab α) (k : Nat) (v : α) :
    (t.set k v).get d k = v := by
  induction t with
  | nil => simp [Tab.set, Tab.get]
  | cons p t ih =>
    obtain ⟨i, w⟩ := p
    simp only [Tab.set]
    split_ifs with h1 h2
    · simp [Tab.get]
    · simp [Tab.get]
    · simpa [Tab.get, h1] using ih

theorem Tab.get_set_ne {α : Type} (d : α) (t : Tab α) (k j : Nat) (v : α) (h : k ≠ j) :
    (t.set k v).get d j = t.get d j := by
  induction t with
  | nil => simp [Tab.set, Tab.get, h]
  | cons p t ih =>
    obtain ⟨i, w⟩ := p
    simp only [Tab.set]
    split_ifs with h1 h2
    · subst h1; simp [Tab.get, h]
    · simp [Tab.get, h]
    · simp only [Tab.get]; rw [ih]

theorem Tab.get_set {α : Type} (d : α) (t : Tab α) (k j : Nat) (v : α) :
    (t.set k v).get d j = if k = j then v else t.get d j := by
  split_ifs with h
  · subst h; simp
  · exact Tab.get_set_ne d t k j v h

@[simp] theorem Tab.get_upd_same {α : Type} (d : α) (t : Tab α) (k : Nat) (f : α → α) :
    (t.upd d k f).get d k = f (t.get d k) := by simp [Tab.upd]

theorem Tab.get_upd_ne {α : Type} (d : α) (t : Tab α) (k j : Nat) (f : α → α) (h : k ≠ j) :
    (t.upd d k f).get d j = t.get d j := by simp [Tab.upd, Tab.get_set_ne d t k j _ h]

end Sys2Proof.Machine
end

