-- ==== Sys2Proof/WellFormed.lean ====
section
/-! DEFINITION. What makes a command well-formed: every operand within the numbering of the specification (spec/00 R14,
Table 0-6; spec/11 Table 11-9). A machine accepts any operand; these checks say which commands name things that exist. -/

namespace Sys2Proof

/-! ### The numberings -/

/-- Stands, 0 to 63. -/
def isStand (n : Nat) : Bool := decide (n < 64)
/-- Caskline ports, 0 to 27. -/
def isPort (n : Nat) : Bool := decide (n < 28)
/-- Where a transaction comes from: a port, or 28 for one that stays within the module. -/
def isSource (n : Nat) : Bool := decide (n ≤ 28)
/-- Bonds, 0 to 11. -/
def isBond (n : Nat) : Bool := decide (n < 12)
/-- Logical lanes of a port, 0 to 7. -/
def isLane (n : Nat) : Bool := decide (n < 8)
/-- Dies as spec/11 Table 11-9 numbers them, 0 to 31. -/
def isDie (n : Nat) : Bool := decide (n < 32)
/-- Landing dies, 0 to 7. -/
def isLanding (n : Nat) : Bool := decide (n < 8)
/-- Stacks, 0 to 31. -/
def isStack (n : Nat) : Bool := decide (n < 32)
/-- Physical cores, 0 to 359, and physical clusters, 0 to 71. -/
def isCore (n : Nat) : Bool := decide (n < 360)
def isCluster (n : Nat) : Bool := decide (n < 72)
/-- Switched domains, 0 to 19. -/
def isDomain (n : Nat) : Bool := decide (n < 20)
/-- Management transports: the I3C sideband and the two links. -/
def isTransport (n : Nat) : Bool := decide (n < 3)
/-- Mailboxes, 0 to 3. -/
def isMailbox (n : Nat) : Bool := decide (n < 4)

/-- A request of spec/15 Table 15-6 comes from a mailbox that exists, or over I3C. -/
def Machine.ReqVia.ok : Machine.ReqVia → Bool
  | .mbox m => isMailbox m
  | .i3c _ => true

/-- The command names units, stands, ports and fields that the specification numbers. -/
def Instr.wellFormed : Instr → Bool
  | .powerGood | .inputOutOfRange .. | .limiterWindow .. | .fastLimit .. | .thermtrip .. | .pwrCycleReqTimeout | .sleep
  | .wake .. | .clockMonitorExcursion .. | .clockRecovered | .linkRecalibration .. | .perstDeassert .. | .hostLinkReset ..
  | .configRequest .. | .bar4Read .. | .bar4Write .. | .cruiseRunEnd .. | .sramScrub .. | .timeExchange | .timeSlew
  | .heartbeatSend | .chipReset .. | .chipResetTimer | .deadlineTimer | .deadlineRearm | .maskRomBoot .. | .imageVerify ..
  | .hbmTrained .. | .standsReady | .lockstepMismatch | .wardenTakeover | .standbyFault | .wearLedgerWrite | .ledgerCompact
  | .captureCopy .. | .eventLogCopy | .sensorSample .. | .hostLinkUp .. | .mctpControlMessage .. | .standbyPowerLoss => true
  | .domainSwitchOn pd | .domainRegulationTimeout pd | .voltageMonitorExcursion pd .. => isDomain pd
  | .phaseFault pd phase => isDomain pd && decide (phase < 14)
  | .tempMonitorExcursion die .. | .junctionHoldRelease die => isDie die
  | .stackTempSample stack .. | .throttleStepLeave stack | .refreshRateRestore stack | .hbmRefresh stack | .repairMove stack ..
    => isStack stack
  | .thermalPredictorSample zone => decide (zone < 8)
  | .chuteWrite _ stand .. | .chutePtrMismatch stand | .drop _ stand | .headerRefusal stand | .commandIssue stand
  | .commandComplete stand .. | .matmul stand .. | .matmulPlane stand .. | .vecop stand .. | .rowop stand .. | .move stand ..
  | .gather stand .. | .scatterAdd stand .. | .window stand .. | .optim stand .. | .accum stand .. | .sweep stand ..
  | .digest stand .. | .reduce stand .. | .collective stand .. | .permute stand .. | .ownerLoad stand .. | .stepBegin stand
  | .stepEnd stand | .commit stand .. | .checkpoint stand .. | .restore stand .. | .fencePeer stand .. | .readmit stand ..
  | .event stand | .result stand | .nop stand | .scalerCheck stand .. | .recompute stand .. | .backgroundCopyRead stand
  | .deliveryIntoG stand .. | .reductionPiece stand .. | .lateWindowExpire stand .. | .segmentForm stand ..
  | .permuteClose stand .. | .peerSilent stand .. | .commitPhase1End stand .. | .ledgerSettled stand ..
  | .commitMessage stand .. | .commitWaitExpire stand .. | .rollback ⟨stand, _⟩ | .replayIssue stand | .engineWatchdog stand ..
  | .waitWatchdog stand | .standResetRequest _ stand | .headDiscard stand | .rungTimeout stand | .standReset stand
  | .sampleBoxExpire stand .. => isStand stand
  | .resRelease _ stand slot .. => isStand stand && decide (slot < 256)
  | .registerWrite _ _ width .. => decide (width = 4 ∨ width = 8)
  | .laneReexecution _ lane _ stand .. => decide (lane < 1024) && isStand stand
  | .tapTile stand _ core tile => isStand stand && isCore core && decide (tile < 2048)
  | .coreHandover cluster logical .. => isCluster cluster && decide (logical < 4)
  | .columnRemap array column => decide (array < 1440) && decide (column ≤ 64)
  | .cruiseStep cluster => isCluster cluster
  | .cruiseOverdue core => isCore core
  | .landingCruise die engine .. => isLanding die && decide (engine < 16)
  | .hbmScrub die .. => isLanding die
  | .flumeGrant die ⟨_, rs⟩ => isLanding die && rs.all (fun r => decide (r.gate < 66))
  | .flumeBurstSample die gate .. => isLanding die && decide (gate < 66)
  | .copyAhead die stand .. => isLanding die && isStand stand
  | .put port .. | .get port .. | .reducePut port .. | .permuteMessage port .. | .fence port .. | .txnResponse port ..
    => isSource port
  | .time port .. | .timeResponse port .. | .heartbeat port .. | .transitForward port .. | .flitReceive port ..
  | .retryTimeout port | .egressArbitrate port | .portDown port | .portTrainingStart port | .portTrained port ..
  | .trainingTimeout port | .ready port | .rampDoubling port => isPort port
  | .txnTimeout stand tag => isStand stand && decide (tag < 4096)
  | .nak port ack => isPort port && decide (ack < 4096)
  | .laneFailing port lane .. | .subst port lane | .laneMarkerReceive port lane => isPort port && isLane lane
  | .degrade ⟨port, failed⟩ => isPort port && decide (failed < 512)
  | .hello port _ peerPort => isPort port && decide (peerPort < 64)
  | .lock bond lags => isBond bond && lags.all (fun l => decide (l.1 < 28))
  | .lockRemeasure bond => isBond bond
  | .dieLinkFlit die port .. => isDie die && decide (port < 18)
  | .dieLinkLaneFail die port lane => isDie die && decide (port < 18) && decide (lane < 34)
  | .contextResetRequest _ stand context => isStand stand && decide (context < 16)
  | .entdaa address => decide (address < 128)
  | .getCertificate via slot .. => isTransport via && decide (slot < 8)
  | .challenge via .. | .getMeasurements via .. | .spdmNegotiation via .. | .requestUpdate via | .updateTransfer via ..
  | .verifyComplete via .. | .activateFirmware via => isTransport via
  | .mailboxWrite _ mbox .. | .mailboxAbort _ mbox | .mailboxRelease _ mbox .. => isMailbox mbox
  | .logRead via | .ledgerRead via | .sampleRead via | .captureRead via | .routeRead via | .sensorRead via | .certRead via
  | .pldm via | .variantRead via => via.ok
  | .monitorBackInRange kind .. => decide (1 ≤ kind ∧ kind ≤ 3)

end Sys2Proof
end

