-- ==== Sys2Proof/Tests/Slice0.lean ====
section
/-! SUPPORT. The model's own tests: ill-formed commands that the checks refuse, for every statement with hypotheses a state and
operands that meet them, and results that the specification works out. -/

namespace Sys2Proof.Tests

open Sys2Proof Sys2Proof.Machine

-- One proof after another: each is checked by the kernel as it stands, and many at once would each hold a stack of their own.
set_option Elab.async false

/-! The states that the tests stand on. -/

/-- Stand 0 of the tests: both links, every context, cluster 0. -/
def tCfg : StandCfg :=
  { StandCfg.unused with
    enabled := true, h0 := true, contexts := 0xffff, clusters := [0], deckMib := 16, blazeK := 4, replayMax := 2,
    commitWaitMs := 10, budgetGib := 4, reduceStageMib := 1, carryMib := 1, lateMinUs := 10, lateMaxUs := 100 }

/-- A device with stand 0 in use and one port, port 0, that leads to device 2. -/
def tImg : ImageCfg :=
  { ImageCfg.absent with
    stands := [(0, tCfg)], deviceId := 1, powerLimitW := 1000, saplingSteps := 3, txnTimeoutMs := 5,
    ports := [(0, { PortCfg.unused with enabled := true })], routes := [(2, ⟨true, 0, false, 0⟩)] }

/-- Power in, every unit's domain off. -/
def tPowered : State := { State.reset with power := { PowerSt.reset with good := true } }

/-- The module runs: management power is on, the milestones are reached, link H0 is up. -/
def tOn : State :=
  { tPowered with
    power := { PowerSt.reset with good := true, domains := [(18, { Domain.reset with on := true })] },
    boot := { BootRegs.reset with imageVerified := true, hbmTrained := true, fabricReady := true, standsReady := true },
    img := tImg, link0 := { HostLink.reset with up := true, bar4Log2 := 4 } }

/-- The same before its image is verified. -/
def tEarly : State := { tOn with boot := BootRegs.reset, img := ImageCfg.absent }

/-- The running module with stand 0 as given. -/
def tStand (x : StandSt) : State := { tOn with stands := [(0, x)] }

/-- A little-endian field of `n` bytes. -/
def tLe : Nat → Nat → List Byte
  | 0, _ => []
  | n + 1, v => BitVec.ofNat 8 v :: tLe n (v / 256)

/-- A command of `n` flits (spec/02 Table 2-9): its opcode, flags, SEQ, and its body from byte 16 on. -/
def tCommand (op flags n seq : Nat) (body : List Byte) : List Byte :=
  let h := tLe 1 op ++ tLe 1 flags ++ tLe 2 n ++ tLe 4 0 ++ tLe 4 seq ++ tLe 4 0 ++ body
  h ++ List.replicate (64 * n - h.length) 0

/-- A packet that passed its header checks. -/
def tPacket (op flags : Nat) (body : List Byte) : Packet := ⟨tCommand op flags 1 7 body, .h0, 0⟩

/-- Stand 0 with one packet at the head of its chute. -/
def tHead (p : Packet) : State := tStand { StandSt.reset with chute := { Chute.reset with packets := [p], tail := 1, tailCopy := 1 } }

/-- A command in flight of stand 0 at a stage. -/
def tCmd (op : Nat) (stage : Stage) (body : List Byte) : Cmd :=
  { ticket := 5, bytes := tCommand op 0 1 7 body, link := .h0, slot := some 3, replay := false, inst := 0, step := none,
    seeds := (0, 0, 0), stage := stage, statuses := [], tStart := 0, stream := 0, mism := 0, recomp := 0, pay := [], todo := [],
    accFaults := [], laneFaults := [], keptIn := [], fetched := [], lost := [] }

/-- Stand 0 with one command in flight. -/
def tFlight (c : Cmd) : State := tStand { StandSt.reset with inflight := [c] }

/-- The state that a command leaves, the same state where it leaves none. -/
def tAfter (c : Instr) (s : State) : State :=
  match exec c s with
  | .next t => t
  | _ => s

/-! Ill-formed commands: one for each check. -/

theorem test_wf_domain : (Instr.domainSwitchOn 20).wellFormed = false := by decide
theorem test_wf_regulation : (Instr.domainRegulationTimeout 20).wellFormed = false := by decide
theorem test_wf_phase : (Instr.phaseFault 0 14).wellFormed = false ∧ (Instr.phaseFault 20 0).wellFormed = false := by decide
theorem test_wf_die : (Instr.tempMonitorExcursion 32 0).wellFormed = false ∧
    (Instr.junctionHoldRelease 32).wellFormed = false := by decide
theorem test_wf_volt : (Instr.voltageMonitorExcursion 20 true).wellFormed = false := by decide
theorem test_wf_stack : (Instr.stackTempSample 32 0).wellFormed = false ∧ (Instr.throttleStepLeave 32).wellFormed = false ∧
    (Instr.refreshRateRestore 32).wellFormed = false ∧ (Instr.hbmRefresh 32).wellFormed = false ∧
    (Instr.repairMove 32 0).wellFormed = false := by decide
theorem test_wf_zone : (Instr.thermalPredictorSample 8).wellFormed = false := by decide
theorem test_wf_stand : (Instr.chuteWrite .h0 64 0 []).wellFormed = false ∧ (Instr.commandIssue 64).wellFormed = false ∧
    (Instr.matmul 64 0).wellFormed = false ∧ (Instr.commit 64 0).wellFormed = false ∧
    (Instr.rollback ⟨64, []⟩).wellFormed = false := by decide
theorem test_wf_slot : (Instr.resRelease .h0 0 256 0).wellFormed = false := by decide
theorem test_wf_width : (Instr.registerWrite .h0 0 2 0).wellFormed = false := by decide
theorem test_wf_lane : (Instr.laneReexecution (.vector 0) 1024 none 0 0).wellFormed = false := by decide
theorem test_wf_tile : (Instr.tapTile 0 0 0 2048).wellFormed = false ∧ (Instr.tapTile 0 0 360 0).wellFormed = false := by decide
theorem test_wf_cluster : (Instr.coreHandover 72 0 true).wellFormed = false ∧ (Instr.coreHandover 0 4 true).wellFormed = false ∧
    (Instr.cruiseStep 72).wellFormed = false := by decide
theorem test_wf_array : (Instr.columnRemap 1440 0).wellFormed = false ∧ (Instr.columnRemap 0 65).wellFormed = false := by decide
theorem test_wf_core : (Instr.cruiseOverdue 360).wellFormed = false := by decide
theorem test_wf_landing : (Instr.landingCruise 8 0 none).wellFormed = false ∧ (Instr.landingCruise 0 16 none).wellFormed = false ∧
    (Instr.hbmScrub 8 0).wellFormed = false ∧ (Instr.flumeBurstSample 0 66 0 false).wellFormed = false := by decide
theorem test_wf_port : (Instr.subst 28 0).wellFormed = false ∧ (Instr.subst 0 8).wellFormed = false ∧
    (Instr.nak 0 4096).wellFormed = false ∧ (Instr.hello 0 0 64).wellFormed = false := by decide
theorem test_wf_tag : (Instr.txnTimeout 0 4096).wellFormed = false := by decide
theorem test_wf_bond : (Instr.lock 12 []).wellFormed = false ∧ (Instr.lock 0 [(28, 0)]).wellFormed = false  := by decide
theorem test_wf_die_link : (Instr.dieLinkFlit 0 18 [] true).wellFormed = false ∧
    (Instr.dieLinkLaneFail 0 0 34).wellFormed = false ∧ (Instr.dieLinkFlit 32 0 [] true).wellFormed = false := by decide
theorem test_wf_context : (Instr.contextResetRequest .h0 0 16).wellFormed = false := by decide
theorem test_wf_management : (Instr.entdaa 128).wellFormed = false ∧ (Instr.challenge 3 []).wellFormed = false ∧
    (Instr.getCertificate 0 8 0 0).wellFormed = false ∧ (Instr.logRead (.mbox 4)).wellFormed = false ∧
    (Instr.monitorBackInRange 0 0).wellFormed = false := by decide

/-- The table gives no row bits, so no word spells a command. -/
theorem test_no_word (n w : Nat) : decodeTableWord n w = none := rfl

/-! Witnesses: states and operands that meet the hypotheses of the statements. -/

theorem wit_StepRunsFront : ({ tOn with pending := [.powerGood, .sleep] } : State).pending = .powerGood :: [.sleep] := rfl

theorem wit_InvariantKept : State.reset.Inv ∧ step State.reset = .next (tick State.reset) :=
  ⟨⟨⟨by decide, by decide⟩, fun _ _ => rfl, ⟨by decide, by decide, by decide⟩, fun _ => rfl⟩, rfl⟩

theorem wit_QueueAndIdle : tOn.pending = [] ∧ tOn.alive = true ∧ exec .powerGood tOn = .next tOn := ⟨rfl, rfl, rfl⟩

theorem wit_ImageChangesOnlyAtStart : exec (.linkRecalibration 0 0) tOn = .next tOn := rfl

theorem wit_MemoryFormKept : tOn.hbm.wf = true ∧ cellsWf 0 tOn.flash.cells = true ∧
    step { tOn with pending := [.linkRecalibration 0 0] } = .next tOn := ⟨rfl, rfl, rfl⟩

/-- The module asleep, in sleep's own way: power in and no domain on. -/
def tAsleep : State := { tPowered with power := { PowerSt.reset with good := true, asleep := true, latched := some .sleep } }

theorem wit_ModuleStarts : State.reset.power.good = false ∧ tPowered.power.good = true ∧
    (tAsleep.power.asleep = true ∧ tAsleep.power.good = true ∧ tAsleep.power.thermtrip = false ∧ tAsleep.power.locked = false ∧
      tAsleep.power.stbyLost = false) ∧
    ({ tAsleep with power := { tAsleep.power with stbyLost := true } } : State).power.stbyLost = true := by decide

theorem wit_PowerOffs : (((-500 : Int) ≤ -500 ∧ (-500 : Int) < 44000) ∧ (62000 : Int) < 62001 ∧ (62001 : Int) ≤ 65000) ∧
    ((44000 : Int) ≤ 44000 ∧ (44000 : Int) ≤ 62000) ∧ (65001 : Int) > 65000 ∧
    (tOn.power.good = true ∧ (100 : Int) ≥ (if true then 100 else 115) ∧ (115 : Int) ≥ (if false then 100 else 115)) ∧
    (∃ s : State, s.power.cycleReq = true ∧ s.power.good = true ∧ s.power.locked = false) ∧
    (tOn.power.good = true ∧ tOn.power.asleep = false ∧ tOn.power.locked = false) :=
  ⟨by decide, by decide, by decide, by decide, ⟨{ tOn with power := { tOn.power with cycleReq := true } }, by decide⟩, by decide⟩

theorem wit_DomainsAndPhases :
    (∀ pd, pd = 0 ∨ pd = 19 → tPowered.power.good = true ∧ tPowered.power.asleep = false ∧ tPowered.power.locked = false ∧
      domainUsed tPowered.variant pd = true ∧ (tPowered.domain pd).fault = false ∧ pd ≠ 8 ∧ pd ≠ 9) ∧
    (tOn.domain 18).on = true ∧
    (domainUsed tOn.variant 0 = true ∧ domainN 0 + 1 < domainN 0 + 2 ∧ domainN 0 + 1 ∉ (tOn.domain 0).failed) ∧
    tOn.boot.standsReady = true ∧
    (∃ s : State, (s.domain 18).on = true ∧ s.boot.imageVerified = true ∧ s.boot.standsReady = false) :=
  ⟨fun pd h => h.elim (fun e => e ▸ by decide) (fun e => e ▸ by decide), by decide, by decide, rfl,
    { tOn with boot := { tOn.boot with standsReady := false } }, by decide⟩

theorem wit_PowerLimits : tOn.boot.imageVerified = true ∧ tOn.alive = true ∧ Variant.fastAmps tOn.variant < Variant.fastAmps tOn.variant + 1 := by
  decide

/-- Die 0 and landing die 18 held for their heat, stack 0 a step up and trained, on REFCLK lost. -/
def tHot : State :=
  ({ tOn with
    power := { tOn.power with osc := true }
    dies := [(0, { DieSt.reset with held := true }), (18, { DieSt.reset with held := true })] } : State).setStack 0
    { StackSt.reset with step := 1, temp := 50, trained := true }

theorem wit_DieMonitors : (tOn.alive = true ∧ tOn.variant.hasDie 0 = true ∧ 1 ∉ (tOn.die 0).out) ∧
    (tHot.power.osc = true ∧ tHot.alive = true ∧ tHot.rst.pendingCause = none ∧ tHot.warden.halted = false) ∧
    (∃ s : State, s.power.osc = true ∧ s.warden.halted = true) ∧
    ((105 : Int) < 106 ∧ tOn.variant.hasDie 25 = true ∧ 3 ∉ (tOn.die 25).out) ∧
    ((tHot.die 0).held = true ∧ 0 < 18) ∧ ((tHot.die 18).held = true ∧ 18 ≤ 18 ∧ 18 < 26) :=
  ⟨by decide, by decide, ⟨{ tHot with warden := { tHot.warden with halted := true } }, by decide⟩, by decide⟩

theorem wit_VoltageMonitorActions : (tOn.alive = true ∧ (tOn.domain 18).on = true ∧ (tOn.domain 18).volt = false) ∧
    (∃ s : State, s.alive = true ∧ (s.domain 18).on = true ∧ (s.domain 18).volt = true ∧ s.rst.pendingCause = none ∧
      s.warden.halted = false) :=
  ⟨by decide, { tOn with power := { tOn.power with domains := [(18, { Domain.reset with on := true, volt := true })] } }, by decide⟩

theorem wit_StackTemperatures : (31 < tOn.variant.stacks ∧ tOn.alive = true ∧ 255 < 256) ∧
    (0 < (tHot.stack 0).step ∧ (tHot.stack 0).temp + 3 ≤ stepThreshold (tHot.stack 0).step ∧ (tHot.stack 0).temp < 92 ∧
      (tHot.stack 0).trained = true) ∧
    (∃ s : State, 7 < s.variant.zones ∧ s.alive = true ∧ (s.zone 7).lastTz = some 50 ∧ (s.zone 7).samples < 31) :=
  ⟨by decide, by decide, { tOn with power := { tOn.power with zones := [(7, { Zone.reset with lastTz := some 50, samples := 30 })] } },
    by decide⟩

theorem wit_HostLinkLifecycle : (tOn.alive = true ∧ tOn.hasLink .h1 = true) ∧
    (∃ s : State, s.alive = true ∧ s.hasLink .h0 = true ∧ (s.link .h0).training = true) ∧
    (tEarly.alive = true ∧ tEarly.hasLink .h0 = true ∧ (tEarly.link .h0).up = true ∧ tEarly.boot.imageVerified = false) ∧
    ((tOn.link .h0).up = true ∧ tOn.boot.imageVerified = true ∧ 10 ≤ 10 ∧ 10 < 11) :=
  ⟨by decide, ⟨{ tOn with link0 := { HostLink.reset with training := true } }, by decide⟩, by decide, by decide⟩

/-- Stand 0's chute holding back an incomplete packet of H0, all else of the chute empty. -/
def tPartial (l : LinkId) : State :=
  tStand { StandSt.reset with chute := { Chute.reset with part := some ⟨List.replicate 64 0, l, 64⟩ } }

/-- The chute with no flit free. -/
def tFull : State :=
  tStand { StandSt.reset with chute := { Chute.reset with packets := List.replicate 64 ⟨List.replicate 4096 0, .h0, 0⟩ } }

theorem wit_IgnoredChuteWrites : (tOn.reaches .h0 = true ∧ (tOn.cfg 63).enabled = false) ∧
    ((tOn.cfg 0).enabled = true ∧ (tOn.cfg 0).permits .h1 = false ∧
      ∃ s : State, s.reaches .h0 = true ∧ (s.cfg 0).enabled = true ∧ s.boot.standsReady = false) ∧
    (tOn.boot.standsReady = true ∧ (tOn.cfg 0).permits .h0 = true ∧ 1 % 64 ≠ 0 ∧ 63 % 64 ≠ 0 ∧ 512 < 576 ∧
      2 ^ 20 < (2 ^ 20 - 64) + 128) ∧
    (∃ s : State, s.reaches .h0 = true ∧ (s.cfg 0).enabled = true ∧ s.boot.standsReady = true ∧ (s.cfg 0).permits .h0 = true ∧
      (s.stand 0).chute.discard = true) ∧
    ((tPartial .h1).reaches .h0 = true ∧ ((tPartial .h1).stand 0).chute.discard = false ∧
      ((tPartial .h1).stand 0).chute.part.map (·.link) = some .h1 ∧ LinkId.h1 ≠ .h0) ∧
    (tFull.reaches .h0 = true ∧ (tFull.stand 0).chute.discard = false ∧ (tFull.stand 0).chute.part = none ∧
      (tFull.stand 0).chute.free < 1) :=
  ⟨by decide, ⟨by decide, by decide, { tOn with boot := { tOn.boot with standsReady := false } }, by decide⟩, by decide,
    ⟨tStand { StandSt.reset with chute := { Chute.reset with discard := true } }, by decide⟩, by decide, by decide +kernel⟩

theorem wit_ChuteTakesPacket : tOn.reaches .h0 = true ∧ (tOn.cfg 0).enabled = true ∧ tOn.boot.standsReady = true ∧
    (tOn.cfg 0).permits .h0 = true ∧ (2 ^ 20 - 64) % 64 = 0 ∧ (2 ^ 20 - 64) + 64 ≤ 2 ^ 20 ∧ (tCommand 0x52 0 1 7 []).length = 64 ∧
    fld (tCommand 0x52 0 1 7 []) 2 2 = 1 ∧ (tOn.stand 0).chute.discard = false ∧ (tOn.stand 0).chute.part = none ∧
    0 < (tOn.stand 0).chute.free := by decide +kernel

theorem wit_ChuteResetAndDrop : (tOn.alive = true ∧ (tOn.cfg 0).enabled = true) ∧ tOn.reaches .h0 = true := by decide

/-- Stand 0 with slot 255 READY under generation 9. -/
def tSlot : State := tStand { StandSt.reset with slots := [(255, { Slot.reset with st := .ready, gen := 9 })] }

theorem wit_ResultSlotRelease : tSlot.reaches .h0 = true ∧ (tSlot.cfg 0).enabled = true ∧ 255 < 256 ∧
    ((tSlot.stand 0).slot 255).st = .ready ∧ ((tSlot.stand 0).slot 255).gen = 9 ∧ ((tSlot.stand 0).slot 254).st ≠ .ready ∧
    ((tSlot.stand 0).slot 255).gen ≠ 8 := by decide

theorem wit_RegisterWrites : (tOn.reaches .h0 = true ∧ 63 < 64 ∧ (tOn.cfg 0).enabled = true ∧ (tOn.cfg 63).enabled = false) ∧
    (∀ v, v = (0 : W64) ∨ v = 2 → bits v.toNat 1 0 ≠ 1 ∧ bits v.toNat 1 0 ≠ 3) ∧
    ((5 : W64).getLsbD 0 = true ∧ bits (5 : W64).toNat 1 0 = 1 ∧ bits (7 : W64).toNat 1 0 = 3 ∧ (5 : W64).getLsbD 1 = false) ∧
    ((2 : W64).getLsbD 0 = false ∧ (2 : W64).getLsbD 1 = true ∧ 3 < 4) ∧ 0xffff < 0x10000 ∧
    (0x104000 ≤ 0x1fffff ∧ 0x1fffff < 0x200000) ∧ 0x1200000 ≤ 0x1200000 :=
  ⟨by decide, fun v h => by rcases h with h | h <;> subst h <;> decide, by decide, by decide, by decide, by decide, by decide⟩

/-- The running module with region 0 of 1 MiB of zone 0 open to the host. -/
def tRegion : State :=
  { tOn with img := { tImg with regions := [(0, { Region.undefined with valid := true, hostWr := true, granLog2 := 30, size := 2 ^ 20 })] } }

theorem wit_Bar4ReadsAndWrites : (tOn.reaches .h0 = true ∧ 0 < 4096 ∧ 4096 ≤ 4096 ∧
      (2 ^ (30 + (tOn.link .h0).bar4Log2) - 4096) + 4096 ≤ 2 ^ (30 + (tOn.link .h0).bar4Log2) ∧ tOn.hbm.diff = []) ∧
    ([(0 : Byte)] ≠ [] ∧ [(0 : Byte)].length ≤ 512 ∧ ∀ i, i < 1 → ∀ x, tOn.hostRegion (tOn.bar4Addr .h0 0 + i) = some x → x.hostWr = false) ∧
    (tRegion.reaches .h0 = true ∧ (∃ x, tRegion.hostRegion (tRegion.bar4Addr .h0 0) = some x ∧ x.hostWr = true) ∧
      (∃ k, tRegion.visKey (tRegion.bar4Addr .h0 0) = some k ∧ tRegion.hbm.check (k / 16) = .clean) ∧ tRegion.hbm.wf = true ∧
      (∀ d q, tRegion.wantStage d q = [])) :=
  ⟨by decide +kernel, ⟨by decide, by decide, fun i h x e => by
      have n : tOn.hostRegion (tOn.bar4Addr .h0 0 + 0) = none := by decide +kernel
      have z : i = 0 := by omega
      subst z; rw [n] at e; cases e⟩, by decide +kernel,
    ⟨_, rfl, rfl⟩, ⟨_, rfl, rfl⟩, rfl, fun _ _ => rfl⟩

/-- A step record with nothing logged. -/
def tRec (step : W64) (mode : StepMode) : StepRec :=
  { step := step, dpos := 0, rseed := 0, dseed := 0, job := 0, gov := 0, mode := mode, mark := none, overflow := false,
    unheld := false, applied := 0, cmds := [],
    entries := 0, kept := [], snapEvt := [], snapWait := [], inst := [], endTicket := none }

/-- A stand with one step, number 4, in a mode. -/
def tStep (mode : StepMode) : StandSt := { StandSt.reset with steps := { StepSt.reset with records := [tRec 4 mode], next := 5, nextValid := true } }

/-- All 256 slots of a stand taken. -/
def tNoSlot (p : Packet) : State :=
  tStand { StandSt.reset with
    chute := { Chute.reset with packets := [p] }
    slots := (List.range 256).map (fun n => (n, { Slot.reset with st := .reserved })) }

/-- A NOP under WAIT whose wait value is one ahead of its event counter. -/
def tWaiting : State :=
  tStand { StandSt.reset with chute := { Chute.reset with packets := [tPacket 0x52 1 []] }, wait := [(0, 1)] }

theorem wit_HeaderVerdicts :
    (∃ p : Packet, p.verdict ≠ 0 ∧ (tHead p).fronts 0 = true ∧ ((tHead p).stand 0).chute.packets = p :: [] ∧
      ((tHead p).stand 0).freeSlot = some 0) ∧
    ((tWaiting.stand 0).chute.packets = tPacket 0x52 1 [] :: [] ∧ bit (fld (tPacket 0x52 1 []).bytes 1 1) 0 = true ∧
      2 ^ 31 ≤ ((tWaiting.stand 0).evt.get 0 (fld (tPacket 0x52 1 []).bytes 6 1) -
        (tWaiting.stand 0).wait.get 0 (fld (tPacket 0x52 1 []).bytes 7 1)).toNat) ∧
    (∃ p : Packet, ((tNoSlot p).stand 0).chute.packets = p :: [] ∧ ((tNoSlot p).stand 0).freeSlot = none ∧ fld p.bytes 0 1 ≠ 0x50 ∧
      fld p.bytes 0 1 ≠ 0x52) :=
  ⟨⟨⟨tCommand 0x77 0 1 7 [], .h0, 2⟩, by decide +kernel⟩, by decide +kernel,
    ⟨tPacket 0x51 0 [], by decide +kernel⟩⟩

/-- FENCE_PEER naming device 2, and one that names this device. -/
def tFence (d : Nat) : Packet := tPacket 0x48 8 (tLe 2 d)

theorem wit_CommandIssue : ((tHead (tFence 2)).stand 0).chute.packets = tFence 2 :: [] ∧
    (tHead (tFence 2)).issuable 0 = some (tFence 2) ∧ ownRow (fld (tFence 2).bytes 0 1) = false ∧
    ((tHead (tFence 2)).stand 0).freeSlot = some 0 ∧ (tHead (tFence 2)).issueCheck 0 (tFence 2).bytes = none ∧
    (tHead (tFence 1)).issuable 0 = some (tFence 1) ∧ ((tHead (tFence 1)).issueCheck 0 (tFence 1).bytes).isSome = true := by
  decide +kernel

/-- EVENT: its operation, EVENT and WAIT_EVENT 255, and a value. -/
def tEvent (op : Nat) : Packet := tPacket 0x50 0 (tLe 1 op ++ tLe 1 0 ++ tLe 1 255 ++ tLe 1 255 ++ tLe 4 0xffffffff)

theorem wit_EventOperations : ∀ op, op = 1 ∨ op = 2 ∨ op = 3 ∨ op = 4 →
    ((tHead (tEvent op)).stand 0).chute.packets = tEvent op :: [] ∧ (tHead (tEvent op)).issuable 0 = some (tEvent op) ∧
    fld (tEvent op).bytes 0 1 = 0x50 ∧ (tHead (tEvent op)).issueCheck 0 (tEvent op).bytes = none ∧
    bit (fld (tEvent op).bytes 1 1) 1 = false ∧ bit (fld (tEvent op).bytes 1 1) 2 = false ∧
    ((tHead (tEvent op)).stand 0).freeSlot ≠ none := by
  rintro op (h | h | h | h) <;> subst h <;> decide +kernel

theorem wit_ResultAndNop : ∀ op, op = 0x51 ∨ op = 0x52 →
    ((tHead (tPacket op 8 [])).stand 0).chute.packets = tPacket op 8 [] :: [] ∧
    (tHead (tPacket op 8 [])).issuable 0 = some (tPacket op 8 []) ∧ fld (tPacket op 8 []).bytes 0 1 = op ∧
    (tHead (tPacket op 8 [])).issueCheck 0 (tPacket op 8 []).bytes = none ∧
    ((tHead (tPacket op 8 [])).stand 0).freeSlot = some 0 ∧
    headerMalformed (tCommand 0x52 0 64 7 []) = false ∧ fld (tCommand 0x52 0 64 7 []) 2 2 = 64 ∧
    headerMalformed (tPacket 0x52 0 []).bytes = false ∧ bit tCfg.contexts.toNat (bits (fld (tPacket 0x52 0 []).bytes 4 1) 3 0) = true ∧
    bit (fld (tPacket 0x52 8 []).bytes 1 1) 2 = false := by
  rintro op (h | h) <;> subst h <;> decide +kernel

/-- STEP_END at the head of a stand whose step 4 is open. -/
def tEnding : State := tStand { tStep .isOpen with chute := { Chute.reset with packets := [tPacket 0x41 8 []], tail := 1, tailCopy := 1 } }

theorem wit_StepsOpenAndClose :
    (((tHead (tPacket 0x40 8 [])).stand 0).chute.packets = tPacket 0x40 8 [] :: [] ∧
      (tHead (tPacket 0x40 8 [])).issuable 0 = some (tPacket 0x40 8 []) ∧ fld (tPacket 0x40 8 []).bytes 0 1 = 0x40 ∧
      (tHead (tPacket 0x40 8 [])).issueCheck 0 (tPacket 0x40 8 []).bytes = none ∧
      (tHead (tPacket 0x40 8 [])).stepBeginWaits 0 = false ∧ ((tHead (tPacket 0x40 8 [])).stand 0).freeSlot = some 0) ∧
    ((tEnding.stand 0).chute.packets = tPacket 0x41 8 [] :: [] ∧ tEnding.issuable 0 = some (tPacket 0x41 8 []) ∧
      fld (tPacket 0x41 8 []).bytes 0 1 = 0x41 ∧ tEnding.issueCheck 0 (tPacket 0x41 8 []).bytes = none ∧
      (tEnding.stand 0).freeSlot = some 0 ∧ (tEnding.stand 0).steps.openStep = some 4 ∧
      (tEnding.stand 0).steps.records = [tRec 4 .isOpen] ∧ (tEnding.stand 0).inflight = [] ∧
      (tEnding.stand 0).steps.replaying 4 = false) := by decide +kernel

theorem wit_CommandCompletion : (tFlight (tCmd 0x48 .done [])).fronts 0 = true ∧
    ((tFlight (tCmd 0x48 .done [])).stand 0).cmd 5 = some (tCmd 0x48 .done []) ∧
    ((tFlight (tCmd 0x48 .done [])).stand 0).hung 5 = false ∧
    ((tFlight (tCmd 0x48 .done [])).stand 0).skidBefore (tCmd 0x48 .done []) = false ∧ (tCmd 0x48 .done []).replay = false ∧ (tCmd 0x48 .done []).slot = some 3 ∧
    discarded (tCmd 0x48 .done []).status = false ∧ ((tFlight (tCmd 0x48 .done [])).stand 0).steps.records = [] := by decide +kernel

/-- A product of one element on core 0 of cluster 0, in binary32. -/
def tMat (op : Nat) : Cmd :=
  tCmd op .queued (tLe 1 0 ++ tLe 1 1 ++ tLe 2 0 ++ tLe 4 1 ++ tLe 4 1 ++ tLe 4 1 ++ tLe 12 0 ++ tLe 2 0 ++ tLe 2 8 ++ tLe 2 16)

/-- A descriptor (spec/06 Table 6-1): binary32 of a SPACE at an address, its four extents. -/
def tDescIn (space addr e0 e1 : Nat) : List Byte :=
  tLe 4 0 ++ tLe 4 space ++ tLe 8 addr ++ tLe 4 e0 ++ tLe 4 e1 ++ tLe 4 1 ++ tLe 4 1

/-- The same of memory. -/
def tDesc (addr e0 e1 : Nat) : List Byte := tDescIn 0 addr e0 e1

/-- A reduction of `op` over member table 0 from 8 elements of a SPACE at 0. -/
def tRedIn (space opc op flags : Nat) (stage : Stage) : Cmd :=
  tCmd opc stage (tLe 1 op ++ tLe 1 0 ++ tLe 1 1 ++ tLe 1 1 ++ tLe 1 flags ++ tLe 11 0 ++ tDescIn space 0 8 1)

/-- The same of memory. -/
def tRed (opc op flags : Nat) (stage : Stage) : Cmd := tRedIn 0 opc op flags stage

/-- Stand 0 with a command that runs and, behind it, the command of ticket 5. -/
def tBehind (d c : Cmd) : State :=
  tStand { StandSt.reset with inflight := [{ d with ticket := 4, stage := .running }, c], slots := [(3, { Slot.reset with st := .reserved })] }

/-- A product whose C is the scratchpad's first bytes. -/
def tMatC (op : Nat) : Cmd :=
  tCmd op .queued (tLe 1 0 ++ tLe 1 1 ++ tLe 2 0 ++ tLe 4 1 ++ tLe 4 1 ++ tLe 4 1 ++ tLe 12 0 ++ tLe 2 8 ++ tLe 2 16 ++ tLe 2 0)

theorem wit_Products_wait : ∀ op, op = 1 ∨ op = 2 →
    (tBehind (tRedIn 2 0x31 1 0 .running) (tMatC op)).canRun 0 5 op = some (tMatC op) ∧
    ((tBehind (tRedIn 2 0x31 1 0 .running) (tMatC op)).stand 0).outHeld (tMatC op) = true := by
  rintro op (h | h) <;> subst h <;> decide +kernel

theorem wit_Products : ∀ op, op = 1 ∨ op = 2 → (tFlight (tMat op)).canRun 0 5 op = some (tMat op) ∧ (tMat op).accFaults = [] ∧
    (tMat op).keptIn = [] ∧ ((tFlight (tMat op)).stand 0).outHeld (tMat op) = false ∧ (tFlight (tMat op)).standCluster 0 (matArgs (tMat op).bytes).cluster = some 0 ∧
    (matArgs (tMat op).bytes).selects 0 = true ∧ ((tFlight (tMat op)).physCore 0 0).isSome = true ∧
    (matArgs (tMat op).bytes).m = 1 := by
  rintro op (h | h) <;> subst h <;> decide +kernel

/-- A VECOP of one element on core 0 of cluster 0, as the bytes of its command say it. -/
def tVec : Cmd := tCmd 0x08 .queued (tLe 1 0 ++ tLe 1 1 ++ tLe 2 1 ++ tLe 4 0 ++ tLe 4 1 ++ tLe 4 1)

/-- A product that still runs over the range that the VECOP writes, and the VECOP behind it. -/
def tHeld : State := tBehind (tMat 1) tVec

theorem wit_VectorOperations : (tFlight tVec).canRun 0 5 0x08 = some tVec ∧
    (tFlight tVec).standCluster 0 (vecArgs tVec.bytes).cluster = some 0 ∧
    (coresOf (vecArgs tVec.bytes).cores).any (fun r => ((tFlight tVec).stand 0).matHolds (vecArgs tVec.bytes).cluster r
      (vecArgs tVec.bytes).descY.span) = false ∧
    (tHeld.canRun 0 5 0x08 = some tVec ∧ tHeld.standCluster 0 (vecArgs tVec.bytes).cluster = some 0 ∧
      (coresOf (vecArgs tVec.bytes).cores).any (fun r => (tHeld.stand 0).matHolds (vecArgs tVec.bytes).cluster r
        (vecArgs tVec.bytes).descY.span) = true) := by decide +kernel

/-- ROWOP of operation `op` over one row on core 0 of cluster 0. -/
def tRow (op : Nat) : Cmd :=
  tCmd 0x09 .queued (tLe 1 0 ++ tLe 1 1 ++ tLe 1 op ++ tLe 1 0 ++ tLe 4 1 ++ tLe 4 1)

theorem wit_RowOperations : ∀ op, op = 2 ∨ op = 3 ∨ op = 14 ∨ op = 15 → (tFlight (tRow op)).canRun 0 5 0x09 = some (tRow op) ∧
    (tRow op).isTap = false ∧ (tFlight (tRow op)).standCluster 0 (rowArgs (tRow op).bytes).cluster = some 0 ∧
    0 < (rowArgs (tRow op).bytes).rows ∧ ((tFlight (tRow op)).stand 0).entryHeld (tRow op) = false ∧
    (∀ r ∈ coresOf (rowArgs (tRow op).bytes).cores, ∀ y ∈ (rowArgs (tRow op).bytes).ySpans ++ (rowArgs (tRow op).bytes).sumSpans,
      ((tFlight (tRow op)).stand 0).matHolds (rowArgs (tRow op).bytes).cluster r y = false) ∧
    (∀ k, ((tFlight (tRow op)).core k).taps = []) := by
  rintro op (h | h | h | h) <;> subst h <;> refine ⟨?_, ?_, ?_, ?_, ?_, ?_, fun _ => rfl⟩ <;> decide +kernel

theorem wit_RowOperations_wait : (tFlight { tRow 1 with stage := .queued }).canRun 0 5 0x09 = some (tRow 1) ∧ (tRow 1).isTap = true ∧
    (tBehind (tRow 1) (tRow 3)).canRun 0 5 0x09 = some (tRow 3) ∧ ((tBehind (tRow 1) (tRow 3)).stand 0).entryHeld (tRow 3) = true ∧
    (tBehind (tMat 1) (tRow 3)).canRun 0 5 0x09 = some (tRow 3) ∧ (∃ y ∈ (rowArgs (tRow 3).bytes).ySpans,
      ((tBehind (tMat 1) (tRow 3)).stand 0).matHolds 0 0 y = true) := by decide +kernel

/-- A Skidder command with every other field zero: both places are memory at address 0, with no element. -/
def tSkid (op : Nat) : Cmd := tCmd op .queued []

theorem wit_Transfers : ∀ op, op = 0x10 ∨ op = 0x11 ∨ op = 0x12 ∨ op = 0x13 →
    (tFlight (tSkid op)).skidCmd 0 5 op = some (tSkid op) ∧ (tSkid op).stage = .queued ∧
    (tFlight (tSkid op)).standCluster 0 ((tFlight (tSkid op)).skidArgs 0 none (tSkid op).bytes).cluster = some 0 ∧
    (tFlight (tSkid op)).clusterFenced (.skidder 0) = false ∧
    (∀ d ∈ ((tFlight (tSkid op)).skidArgs 0 none (tSkid op).bytes).operands, d.space ≤ 2 ∧
      (tFlight (tSkid op)).memWaits 0 (tSkid op) d = false ∧ (tFlight (tSkid op)).storeOf 0 d = some .hbm ∧
      ((tFlight (tSkid op)).store .hbm).diff = []) ∧
    (tFlight (tSkid op)).storeOf 0 ((tFlight (tSkid op)).skidArgs 0 none (tSkid op).bytes).dst = some .hbm ∧
    ((tFlight (tSkid op)).skidArgs 0 none (tSkid op).bytes).dst ∈ ((tFlight (tSkid op)).skidArgs 0 none (tSkid op).bytes).operands ∧
    (tFlight (tSkid op)).srcHeld 0 5 ((tFlight (tSkid op)).skidArgs 0 none (tSkid op).bytes).dst = false ∧
    (tFlight (tSkid op)).deliveryInto 0 (tSkid op) ((tFlight (tSkid op)).skidArgs 0 none (tSkid op).bytes).dst = false ∧
    (∀ die b, (tFlight (tSkid op)).wantStage die b = []) := by
  rintro op (h | h | h | h) <;> subst h <;> refine ⟨?_, ?_, ?_, ?_, ?_, ?_, ?_, ?_, ?_, fun _ _ => rfl⟩ <;> decide +kernel

/-- A Skidder command of two flits whose source and index are elsewhere and whose DST is 8 elements of memory at 0. -/
def tInto (op : Nat) : Cmd :=
  { tCmd op .queued [] with
    bytes := tCommand op 0 2 7 (tLe 16 0 ++ tDesc 65536 8 1 ++ (if op = 0x12 ∨ op = 0x11 then tDesc 131072 1 1 else []) ++ tDesc 0 8 1) }

/-- The running module with stand 0's command and the Skidder of cluster 0 fenced. -/
def tNoSkid (c : Cmd) : State := { tFlight c with integ := { Integ.reset with fenced := [.skidder 0] } }

theorem wit_Transfers_wait : ∀ op, op = 0x10 ∨ op = 0x11 ∨ op = 0x12 ∨ op = 0x13 →
    (tBehind (tRed 0x31 1 0 .running) (tInto op)).skidCmd 0 5 op = some (tInto op) ∧
    (op ≠ 0x12 → ((tBehind (tRed 0x31 1 0 .running) (tInto op)).planOf 0 (tInto op)).any (fun p =>
      !(tBehind (tRed 0x31 1 0 .running) (tInto op)).skidMissing 0 0 p.args &&
        (tBehind (tRed 0x31 1 0 .running) (tInto op)).planWaits 0 (tInto op) p) = true) ∧
    ((tBehind (tRed 0x31 1 0 .running) (tInto 0x12)).skidMissing 0 0
        ((tBehind (tRed 0x31 1 0 .running) (tInto 0x12)).skidArgs 0 none (tInto 0x12).bytes) = false ∧
      (tBehind (tRed 0x31 1 0 .running) (tInto 0x12)).scatterWaits 0 (tInto 0x12)
        ((tBehind (tRed 0x31 1 0 .running) (tInto 0x12)).skidArgs 0 none (tInto 0x12).bytes) = true) ∧
    ((tNoSkid (tInto op)).skidCmd 0 5 op = some (tInto op) ∧ (tNoSkid (tInto op)).standCluster 0 0 = some 0 ∧
      (op ≠ 0x12 → ((tNoSkid (tInto op)).planOf 0 (tInto op)).any (fun p => (tNoSkid (tInto op)).skidMissing 0 0 p.args) = true) ∧
      (tNoSkid (tInto op)).skidMissing 0 0 ((tNoSkid (tInto op)).skidArgs 0 none (tInto op).bytes) = true) := by
  rintro op (h | h | h | h) <;> subst h <;> decide +kernel

/-- A trainable group over regions 0 (P), 2 and 4 (moments) with their twins and 6 (G), 16 MiB each, and update group 0 of 4,096
elements of stand 0. -/
def tLand (c : Cmd) : State :=
  let r := fun k => (k, { Region.undefined with valid := true, trainable := true, granLog2 := 24, base := k * 2 ^ 24, size := 2 ^ 24 })
  let w := fun k => (k, { Twin.unused with twin := k + 1, valid := true, width := 2 })
  { tFlight c with img := { tImg with
      regions := [r 0, r 1, r 2, r 3, r 4, r 5, r 6], twins := [w 0, w 2, w 4], tgroups := [(0, ⟨0, 255, 2, 255, 4, 255, 6⟩)],
      udefs := [(0, { UDef.undefined with isDefined := true, count4k := 1 })], sregs := [(0, { SReg.unused with valid := true })] } }

/-- Each region's bytes of one granule lie together on landing die 0. -/
theorem tLand_key (c : Cmd) (r o : Nat) (hr : r < 7) (ho : o < 2 ^ 24) : (tLand c).regionKey r o = r * 2 ^ 24 + o := by
  have hg : ((tLand c).region r).granLog2 = 24 := by interval_cases r <;> rfl
  have hx : ((tLand c).region r).rot = 0 := by interval_cases r <;> rfl
  have hp : (tLand c).placeBase r 0 = r * 2 ^ 24 := by
    have h : ∀ k, k < 7 → (tLand (tSkid 0x20)).placeBase k 0 = k * 2 ^ 24 := by decide +kernel
    exact h r hr
  have hd : o / 2 ^ 24 = 0 := Nat.div_eq_of_lt ho
  have hm : o % 2 ^ 24 = o := Nat.mod_eq_of_lt ho
  unfold State.regionKey hbmKey
  simp only [hg, hx, hd, hm, Nat.zero_add, Nat.zero_mod, Nat.zero_div, Nat.zero_mul, Nat.add_zero]
  rw [hp]

/-- Where no background copy wants a block, staging blocks leaves the state as it is. -/
theorem stageFor_idle (s : State) (h : ∀ d b, s.wantStage d b = []) : ∀ bs, s.stageFor bs = some s
  | [] => rfl
  | (d, b) :: bs => by simp [State.stageFor, h, stageFor_idle s h bs]

theorem wit_OptimizerStep : ((tLand (tSkid 0x20)).canRun 0 5 0x20 = some (tSkid 0x20) ∧ ugrpOf (tSkid 0x20).bytes = 0 ∧
      ((tLand (tSkid 0x20)).ugroup 0).isSealed = false ∧ (tLand (tSkid 0x20)).optimHeld 0 (tSkid 0x20) = false) ∧
    ((tLand (tSkid 0x20)).stageFor ((tLand (tSkid 0x20)).tentBlocks 0)).isSome = true ∧
    (tLand (tSkid 0x20)).hbm.diff = [] ∧ (tLand (tSkid 0x20)).hbm.wf = true ∧ ((tLand (tSkid 0x20)).ugroup 0).tent = false ∧
    ((tLand (tSkid 0x20)).canRun 0 5 0x20 = some (tSkid 0x20) ∧
      (((tLand (tSkid 0x20)).setUgroup 0 { UGroup.reset 0 with isSealed := true }).ugroup 0).isSealed = true) :=
  ⟨by decide +kernel, by rw [stageFor_idle _ (fun _ _ => rfl)]; rfl, rfl, rfl, by decide +kernel, by decide +kernel⟩

/-- The places of the three roles that the witness's OPTIM writes do not meet. -/
theorem wit_OptimizerStep_places : ∀ p ∈ (tLand (tSkid 0x20)).optPlaces (tSkid 0x20) 0,
    ∀ q ∈ (tLand (tSkid 0x20)).optPlaces (tSkid 0x20) 0,
    (tLand (tSkid 0x20)).regionKey p.2.1 p.2.2 = (tLand (tSkid 0x20)).regionKey q.2.1 q.2.2 → p = q := by
  have hx : ∀ x ∈ optRoles (tSkid 0x20).bytes, x.2.bytes = 4 ∧ x.2.scaled = false ∧ x.1 < 5 ∧
      (tLand (tSkid 0x20)).copyOf (((tLand (tSkid 0x20)).tgroup 0).role x.1) true = x.1 + 1 := by decide +kernel
  have form : ∀ p ∈ (tLand (tSkid 0x20)).optPlaces (tSkid 0x20) 0, p.1 < 5 ∧ p.2.1 = p.1 + 1 ∧ p.2.2 < 16384 := by
    intro p hp
    obtain ⟨x, mx, hp⟩ := List.mem_flatMap.mp hp
    obtain ⟨i, mi, hp⟩ := List.mem_flatMap.mp hp
    obtain ⟨hb, hs, h5, hc⟩ := hx x mx
    have mi' : i < 4096 := List.mem_range.mp mi
    simp only [hs, hb, Bool.false_eq_true, if_false, List.append_nil, List.mem_map, List.mem_range] at hp
    obtain ⟨b, h4, rfl⟩ := hp
    exact ⟨h5, hc, by show (0 + i) * 4 + b < 16384; omega⟩
  intro p hp q hq e
  obtain ⟨p5, pc, po⟩ := form p hp
  obtain ⟨q5, qc, qo⟩ := form q hq
  rw [pc, qc, tLand_key _ _ _ (by omega) (by omega), tLand_key _ _ _ (by omega) (by omega)] at e
  have h1 : p.1 = q.1 := by omega
  have h2 : p.2.2 = q.2.2 := by omega
  exact Prod.ext h1 (Prod.ext (by rw [pc, qc, h1]) h2)

/-- SWEEP of region 0. -/
def tSweep : Cmd := tCmd 0x22 .queued (tLe 4 1)

/-- A delivery of a COLLECTIVE into group 0's gradient, from memory at 6 times 16 MiB. -/
def tDeliver : Cmd := { tRed 0x31 1 128 .running with bytes := tCommand 0x31 0 1 7 (tLe 4 0x01010001 ++ tLe 4 128 ++ tLe 8 0 ++ tDesc 0 8 1) }

/-- The group's stand with that delivery ahead of the command of ticket 5. -/
def tAhead (c : Cmd) : State :=
  { tLand c with stands := [(0, { StandSt.reset with inflight := [{ tDeliver with ticket := 4 }, c] })] }

theorem wit_AccumDigestSweep :
    ((tLand (tSkid 0x21)).canRun 0 5 0x21 = some (tSkid 0x21) ∧ ((tLand (tSkid 0x21)).stand 0).deliveryAhead (tSkid 0x21) 0 = false ∧
      (tLand (tSkid 0x21)).groupHeld 0 5 0 6 = false ∧ (tLand (tSkid 0x21)).hbm.diff = [] ∧ (tLand (tSkid 0x21)).hbm.wf = true ∧
      (tLand (tSkid 0x21)).apart 6 0 16384) ∧
    (tLand (tSkid 0x23)).canRun 0 5 0x23 = some (tSkid 0x23) ∧
    ((tLand tSweep).canRun 0 5 0x22 = some tSweep ∧ (tLand tSweep).sweepPinned 0 = false ∧ (tLand tSweep).sweepHeld 0 tSweep = false) ∧
    ((tAhead (tSkid 0x21)).canRun 0 5 0x21 = some (tSkid 0x21) ∧ ((tAhead (tSkid 0x21)).stand 0).deliveryAhead (tSkid 0x21) 0 = true ∧
      (tAhead tSweep).canRun 0 5 0x22 = some tSweep ∧ (tAhead tSweep).sweepHeld 0 tSweep = true) :=
  ⟨⟨by decide +kernel, by decide +kernel, by decide +kernel, rfl, rfl, fun o p _ ho _ hp e => by
      rw [tLand_key _ _ _ (by omega) (by omega), tLand_key _ _ _ (by omega) (by omega)] at e; omega⟩,
    by decide +kernel⟩

/-- The same as a command of two flits, which has a destination. -/
def tRed2 (opc op flags : Nat) (stage : Stage) : Cmd :=
  { tRed opc op flags stage with
    bytes := tCommand opc 0 2 7 (tLe 1 op ++ tLe 1 0 ++ tLe 1 1 ++ tLe 1 1 ++ tLe 1 flags ++ tLe 11 0 ++ tDesc 0 8 1 ++ tDesc 4096 8 1) }

/-- The reduction at work for the command of ticket 5: 8 elements, all in segment 0, its own values made at 0 ns. -/
def tColl (op : Nat) : Coll :=
  { ticket := 5, mtab := 0, inst := 0, version := 0, op := op, collId := 0, count := 8, policy := 1, vals := List.replicate 8 0,
    taint := false, ownAt := some 0, closed := [], mism := [], results := [], formed := [], lateCount := 0, carriedCount := 0,
    windowUs := 0, memberFenced := false, fromRecord := false, unsent := [] }

/-- Stand 0 as rank 0 of two members, with a reduction at work, 1 ms after it began. -/
def tWork (c : Cmd) (y : Coll) (x : StandSt) : State :=
  { tLand c with
    clock := { ClockSt.reset with now := 1000000 }
    stands := [(0, { x with
      inflight := [c], colls := [y], mtabs := [(0, { MemberTab.reset with loaded := true, members := [(1, 0), (2, 0)] })] })] }

/-- The contribution of rank 1 to segment 0. -/
def tContrib : Contrib := ⟨0, 0, 0, 1, 0, 8, 1, 0, false, List.replicate 8 0, some 0⟩

theorem wit_Reductions_begin : ∀ op, op = 0x30 ∨ op = 0x31 →
    (tLand (tRed2 op 1 0 .queued)).canRun 0 5 op = some (tRed2 op 1 0 .queued) ∧ (redArgs (tRed2 op 1 0 .queued).bytes).op ≠ 5 ∧
    (tLand (tRed2 op 1 0 .queued)).memWaits 0 (tRed2 op 1 0 .queued) (redArgs (tRed2 op 1 0 .queued).bytes).src = false ∧
    (tLand (tRed2 op 1 0 .queued)).keptResults 0 (tRed2 op 1 0 .queued) (redArgs (tRed2 op 1 0 .queued).bytes) = none ∧
    (redArgs (tRed2 op 1 0 .queued).bytes).src.count = 8 ∧
    (tLand (tRed2 op 1 0 .queued)).redReads 0 (tRed2 op 1 0 .queued) (redArgs (tRed2 op 1 0 .queued).bytes) = [] ∧
    (redArgs (tRed2 op 1 0 .queued).bytes).allLeaves.all ((tLand (tRed2 op 1 0 .queued)).leafThere 0) = true := by
  rintro op (h | h) <;> subst h <;> decide +kernel

/-- The group's stand with an OPTIM of group 0 ahead of the command of ticket 5, which is `c`. -/
def tAfterOptim (c : Cmd) : State :=
  { tLand c with stands := [(0, { StandSt.reset with inflight := [{ tSkid 0x20 with ticket := 4 }, c] })] }

theorem wit_Reductions_wait : (∀ op, op = 0x30 ∨ op = 0x31 →
      (tAfterOptim (tRed2 op 1 0 .queued)).canRun 0 5 op = some (tRed2 op 1 0 .queued) ∧
      (tAfterOptim (tRed2 op 1 0 .queued)).memWaits 0 (tRed2 op 1 0 .queued) (redArgs (tRed2 op 1 0 .queued).bytes).src = true) ∧
    (tLand (tRed 0x31 5 0 .queued)).canRun 0 5 0x31 = some (tRed 0x31 5 0 .queued) ∧
    (redArgs (tRed 0x31 5 0 .queued).bytes).op = 5 := by
  refine ⟨?_, by decide +kernel⟩
  rintro op (h | h) <;> subst h <;> decide +kernel

/-- A REDUCE over clusters 0 and 1 of a stand whose clusters lie on dies 0 and 1, its first piece to come. -/
def tTwoDies : Cmd :=
  { tRed 0x30 1 0 .running with
    bytes := tCommand 0x30 0 1 7 (tLe 1 1 ++ tLe 1 0 ++ tLe 1 2 ++ tLe 1 1 ++ tLe 12 0 ++ tDescIn 2 0 8 1), todo := [0] }

/-- Stands 0 and 1 with one each. -/
def tTruss : State :=
  { tOn with
    img := { tImg with stands := [(0, { tCfg with clusters := [0, 4] }), (1, { tCfg with clusters := [1, 5] })] }
    stands := [0, 1].map (fun k => (k, { StandSt.reset with inflight := [tTwoDies], colls := [{ tColl 1 with ownAt := none }] })) }

theorem wit_Reductions_turn : (tTruss.stand 1).cmd 5 = some tTwoDies ∧ (tTruss.stand 1).coll 5 = some { tColl 1 with ownAt := none } ∧
    tTwoDies.stage = .running ∧ tTwoDies.todo = 0 :: [] ∧ tTruss.onLinkTruss 0 tTwoDies = true ∧ tTruss.onLinkTruss 1 tTwoDies = true ∧
    tTruss.trussTurn = some (0, 5) := by decide +kernel

theorem wit_Reductions_piece :
    ((tWork { tRed2 0x31 1 0 .running with todo := [0, 1] } (tColl 1) StandSt.reset).stand 0).coll 5 = some (tColl 1) ∧
    ((tWork { tRed2 0x30 1 0 .running with todo := [0] } (tColl 1) StandSt.reset).stand 0).cmd 5 =
      some { tRed2 0x30 1 0 .running with todo := [0] } ∧
    (tWork { tRed2 0x30 1 0 .running with todo := [0] } (tColl 1) StandSt.reset).alive = true ∧
    ({ tRed2 0x30 1 0 .running with todo := [0] } : Cmd).opcode = 0x30 := by decide +kernel

/-- The reduction with the result of segment 0, which holds all its elements, there. -/
def tCame : Coll := { tColl 1 with results := [(0, List.replicate 8 0, false)] }

theorem wit_Reductions_end : ∀ op, op = 0x30 ∨ op = 0x31 →
    (tWork (tRed2 op 1 0 (.phase 2)) tCame StandSt.reset).alive = true ∧
    ((tWork (tRed2 op 1 0 (.phase 2)) tCame StandSt.reset).stand 0).cmd 5 = some (tRed2 op 1 0 (.phase 2)) ∧
    ((tWork (tRed2 op 1 0 (.phase 2)) tCame StandSt.reset).stand 0).coll 5 = some tCame ∧
    (tRed2 op 1 0 (.phase 2)).opcode = op ∧ tCame.unsent = [] ∧ ((tWork (tRed2 op 1 0 (.phase 2)) tCame StandSt.reset).memParts 0
      (redArgs (tRed2 op 1 0 (.phase 2)).bytes).dst).any
      ((tWork (tRed2 op 1 0 (.phase 2)) tCame StandSt.reset).sweepAhead 0 5) = false ∧ (redArgs (tRed2 op 1 0 (.phase 2)).bytes).dgrp = false ∧
    (tWork (tRed2 op 1 0 (.phase 2)) tCame StandSt.reset).redReady 0 (tRed2 op 1 0 (.phase 2))
      (redArgs (tRed2 op 1 0 (.phase 2)).bytes) tCame = true ∧
    (tWork (tRed2 op 1 0 (.phase 2)) tCame StandSt.reset).rootLost 0 (redArgs (tRed2 op 1 0 (.phase 2)).bytes) = false ∧
    (redArgs (tRed2 op 1 0 (.phase 2)).bytes).dst.count = 8 ∧
    (∀ i, i < 8 → ((tWork (tRed2 op 1 0 (.phase 2)) tCame StandSt.reset).resultAt 0 (tRed2 op 1 0 (.phase 2))
      (redArgs (tRed2 op 1 0 (.phase 2)).bytes) tCame i).isSome = true) ∧
    (redArgs (tRed2 op 1 0 (.phase 2)).bytes).dst.space = 0 ∧
    (tWork (tRed2 op 1 0 (.phase 2)) tCame StandSt.reset).storeOf 0 (redArgs (tRed2 op 1 0 (.phase 2)).bytes).dst = some .hbm ∧
    (tWork (tRed2 op 1 0 (.phase 2)) tCame StandSt.reset).srcHeld 0 5 (redArgs (tRed2 op 1 0 (.phase 2)).bytes).dst = false ∧
    (∀ die b, (tWork (tRed2 op 1 0 (.phase 2)) tCame StandSt.reset).wantStage die b = []) := by
  rintro op (h | h) <;> subst h <;> refine ⟨?_, ?_, ?_, ?_, ?_, ?_, ?_, ?_, ?_, ?_, ?_, ?_, ?_, ?_, fun _ _ => rfl⟩ <;> decide +kernel

/-- A BARRIER whose other member has been heard, and a COLLECTIVE whose result has not come. -/
theorem wit_Reductions_ends : ∀ (y : Coll), y = tColl 5 →
    ((tWork (tRed 0x31 5 0 (.phase 2)) y { StandSt.reset with contribs := [⟨0, 0, 0, 5, 0, 8, 1, 0, false, [], some 0⟩] }).redReady 0
      (tRed 0x31 5 0 (.phase 2)) (redArgs (tRed 0x31 5 0 (.phase 2)).bytes) y = true ∧
      (redArgs (tRed 0x31 5 0 (.phase 2)).bytes).dgrp = false ∧ (redArgs (tRed 0x31 5 0 (.phase 2)).bytes).op = 5) ∧
    (tWork (tRed2 0x31 1 0 (.phase 2)) (tColl 1) StandSt.reset).redReady 0 (tRed2 0x31 1 0 (.phase 2))
      (redArgs (tRed2 0x31 1 0 (.phase 2)).bytes) (tColl 1) = false := by
  intro y h
  subst h
  decide +kernel

/-- Segment 0 with every contribution there. -/
def tForm : State := tWork (tRed2 0x31 1 0 .running) (tColl 1) { StandSt.reset with contribs := [tContrib] }

/-- Segment 0 with rank 1's contribution missing. -/
def tLate : State := tWork (tRed2 0x31 1 0 .running) (tColl 1) StandSt.reset

theorem wit_SegmentsAndLateness :
    (tForm.alive = true ∧ (tForm.stand 0).cmd 5 = some (tRed2 0x31 1 0 .running) ∧ (tForm.stand 0).coll 5 = some (tColl 1) ∧
      tForm.rankIn 0 0 = some 0 ∧ tForm.lenOf 0 (tColl 1) 0 = 8 ∧ tForm.ownerOf 0 (tColl 1) 0 = some 0 ∧
      (tColl 1).formed.contains 0 = false ∧ (tColl 1).fromRecord = false ∧ tForm.hasResult 0 (tColl 1) 0 = false ∧
      tForm.windowFirst 0 (tRed2 0x31 1 0 .running) (tColl 1) 0 0 = false ∧ (tForm.needed 0 (tColl 1)).contains 0 = true ∧
      ∀ l ∈ (List.range 2).map (tForm.leafOf 0 (tRed2 0x31 1 0 .running) (tColl 1) 0 0), l ≠ .awaited) ∧
    (tLate.rankIn 0 0 = some 0 ∧ tLate.windowEnd 0 (tColl 1) 0 = some 100000 ∧ tLate.lateRanks 0 (tColl 1) 0 0 100000 = [1] ∧
      tLate.windowDue 0 (tRed2 0x31 1 0 .running) (tColl 1) 0 = true ∧ (tLate.stand 0).openOwn = []) ∧
    (tForm.windowEnd 0 (tColl 1) 0 = some 100000 ∧ tForm.lateRanks 0 (tColl 1) 0 0 100000 = []) ∧
    tLate.windowFirst 0 (tRed2 0x31 1 0 .running) (tColl 1) 0 0 = true ∧
    (tWork (tRed2 0x31 1 0 .running) tCame StandSt.reset).hasResult 0 tCame 0 = true := by decide +kernel

theorem wit_DeliveryIntoG : ∀ c : Cmd, c = tRed2 0x31 1 128 (.phase 2) →
    (tWork c tCame StandSt.reset).alive = true ∧ ((tWork c tCame StandSt.reset).stand 0).cmd 5 = some c ∧
    ((tWork c tCame StandSt.reset).stand 0).coll 5 = some tCame ∧ (redArgs c.bytes).dgrp = true ∧
    (tWork c tCame StandSt.reset).redReady 0 c (redArgs c.bytes) tCame = true ∧
    (redArgs c.bytes).received (decide (c.opcode = 0x31)) 2 0 = 8 ∧
    (tWork c tCame StandSt.reset).landingAhead 0 c 0 ((tWork c tCame StandSt.reset).deliverySpan 0 8) = false ∧
    (tWork c tCame StandSt.reset).memHeld 0 5 ((tWork c tCame StandSt.reset).deliverySpan 0 8) = false ∧
    (tWork c tCame StandSt.reset).hbm.wf = true ∧ (tWork c tCame StandSt.reset).hbm.diff = [] ∧
    ((tWork c tCame StandSt.reset).gRd 0).data = 6 ∧ (tWork c tCame StandSt.reset).apart 6 0 32 := by
  intro c h
  subst h
  refine ⟨?_, ?_, ?_, ?_, ?_, ?_, ?_, ?_, rfl, rfl, ?_, fun o p _ ho _ hp e => ?_⟩
  iterate 9 decide +kernel
  have k : ∀ n, n < 32 → (tWork (tRed2 0x31 1 128 (.phase 2)) tCame StandSt.reset).regionKey 6 n = 6 * 2 ^ 24 + n :=
    fun n h => tLand_key (tRed2 0x31 1 128 (.phase 2)) 6 n (by omega) (by omega)
  rw [k o ho, k p hp] at e
  omega

/-- The delivery into group 0 behind an OPTIM of it, and one whose result has not come. -/
theorem wit_DeliveryIntoG_wait : ∀ c : Cmd, c = tRed2 0x31 1 128 (.phase 2) →
    ({ tWork c tCame StandSt.reset with
        stands := [(0, { ((tWork c tCame StandSt.reset).stand 0) with inflight := [{ tSkid 0x20 with ticket := 4 }, c] })] } :
      State).landingAhead 0 c 0 ((tWork c tCame StandSt.reset).deliverySpan 0 8) = true ∧
    (tWork c (tColl 1) StandSt.reset).redReady 0 c (redArgs c.bytes) (tColl 1) = false := by
  intro c h
  subst h
  decide +kernel

/-- OWNER_LOAD of one entry from memory that holds zeros: an owner table, and a member table. -/
def tLoad (kind : Nat) : Cmd := tCmd 0x33 .queued (tLe 1 kind ++ tLe 1 0 ++ tLe 2 1)

/-- Memory whose first entry is in the reserved state 2. -/
def tReserved (c : Cmd) : State := { tLand c with hbm := Mem.empty.writeRaw 2 0x80 }

/-- The group's stand with a load of the same table ahead of the command of ticket 5. -/
def tWaitLoad (c : Cmd) : State :=
  { tLand c with stands := [(0, { StandSt.reset with inflight := [{ tLoad 0 with ticket := 4 }, c] })] }

theorem wit_TableLoads : (∀ k, k = 0 ∨ k = 16 → (tLand (tLoad k)).canRun 0 5 0x33 = some (tLoad k) ∧
      (loadArgs (tLoad k).bytes).kind = decide (k = 16) ∧ (tLand (tLoad k)).loadWaits 0 (tLoad k) = false ∧
      (tLand (tLoad k)).hbm.diff = [] ∧ (ownerEntryOf ((tLand (tLoad k)).readSoft 0 16)).state = 0 ∧
      (loadArgs (tLoad k).bytes).entries = 1 ∧ (loadArgs (tLoad k).bytes).tg = false) ∧
    (tLand (tLoad 0)).overBudget 0 0 ⟨true, 0, [⟨0, 0, 0, 0⟩], 0, 0⟩ = false ∧
    ((tReserved (tLoad 0)).canRun 0 5 0x33 = some (tLoad 0) ∧ (tReserved (tLoad 0)).hbm.diff = [] ∧
      (tReserved (tLoad 0)).loadWaits 0 (tLoad 0) = false ∧ 2 ≤ (ownerEntryOf ((tReserved (tLoad 0)).readSoft 0 16)).state) ∧
    ((tWaitLoad (tLoad 0)).canRun 0 5 0x33 = some (tLoad 0) ∧ (tWaitLoad (tLoad 0)).loadWaits 0 (tLoad 0) = true) ∧
    ((tLand (tLoad 48)).canRun 0 5 0x33 = some (tLoad 48) ∧ (loadArgs (tLoad 48).bytes).tg = true ∧
      (tLand (tLoad 48)).tgBad 0 [(0, 0)] = true ∧ [((0 : W16), 0)].Nodup ∧ ¬ [((0 : W16), 0), (0, 0)].Nodup) ∧
    ({ tLand (tLoad 0) with img := { tImg with stands := [(0, { tCfg with budgetGib := 0 })] } } : State).overBudget 0 0
      ⟨true, 0, [⟨1, 0, 1, 0⟩], 0, 1⟩ = true :=
  ⟨fun k h => by rcases h with h | h <;> subst h <;> decide +kernel, by decide +kernel⟩

/-- A PERMUTE of table 0 into table 1 with member table 0. -/
def tPerm (stage : Stage) : Cmd := tCmd 0x32 stage (tLe 1 0 ++ tLe 1 16)

/-- The resharding at work, every member opened and pulled. -/
def tMoving (phase : Nat) (mismatch : Bool) : Perm :=
  { ticket := 5, mtab := 0, inst := 0, phase := phase, opened := [0, 1], pulledBy := [0, 1], todo := [], alted := [], failed := [], hard := [], arrived := [],
    pulled := 0, copied := 0, absent := [], stepAbsent := [], loaded := [], mismatch := mismatch, memberFenced := false }

/-- Stand 0's resharding in a phase. -/
def tPermAt (phase : Nat) (mismatch : Bool) : State :=
  tWork (tPerm .running) (tColl 1) { StandSt.reset with perms := [tMoving phase mismatch] }

theorem wit_Permutes : (tLand (tPerm .queued)).canRun 0 5 0x32 = some (tPerm .queued) ∧
    (∀ phase m, (phase = 1 ∧ m = true) ∨ (phase = 2 ∧ m = false) ∨ (phase = 3 ∧ m = false) →
      (tPermAt phase m).alive = true ∧ ((tPermAt phase m).stand 0).cmd 5 = some (tPerm .running) ∧
      ((tPermAt phase m).stand 0).perm 5 = some (tMoving phase m) ∧ ((tPermAt phase m).stand 0).pulling 5 = false ∧
      (tPermAt phase m).allRanks 0 (permArgs (tPerm .running).bytes).mtab [0, 1] = true ∧
      (tPermAt phase m).allRanks 0 (permArgs (tPerm .running).bytes).mtab [0] = false) := by
  refine ⟨by decide +kernel, ?_⟩
  rintro phase m (⟨h, e⟩ | ⟨h, e⟩ | ⟨h, e⟩) <;> subst h <;> subst e <;> decide +kernel

/-- A COMMIT of step 4 for member table 0. -/
def tCommit (stage : Stage) : Cmd := tCmd 0x42 stage (tLe 8 0 ++ tLe 8 4)

/-- The COMMIT of ticket 5 in a phase. -/
def tPhase (n : Nat) : CommitSt :=
  { ticket := 5, mtab := 0, step := 4, phase := n, rollback := false, firstLive := 0, blaze := 0, waitFrom := 0, expelled := 0,
    restored := false, bad := false, decided := none }

/-- A commit message of rank 1 about step 4. -/
def tMsg (rollback : Bool) (blaze : BitVec 128) : CommitMsg := ⟨0, 4, 0, rollback, 4, blaze, 1⟩

/-- Stand 0 at a COMMIT in a phase, with step 4 applied and messages come, 1 s into its wait. -/
def tAt (n : Nat) (ms : List CommitMsg) (rb : Option RollbackFor) : State :=
  let w := tWork (tCommit .running) (tColl 1)
    { tStep .applied with steps := { (tStep .applied).steps with commits := [tPhase n], msgs := ms, rollback := rb } }
  { w with clock := { w.clock with now := 1000000000 } }

/-- Stand 0 at its COMMIT's wait for messages, with an open entry of step 4 in its ledger. -/
def tOwing : State :=
  (tAt 3 [] none).setStand 0 { (tAt 3 [] none).stand 0 with
    ledger := [⟨some 4, 0, 0, 0, .late, .isOpen, 1, 0, 0, 0, true, false⟩] }

theorem wit_CommitPhases :
    (∀ r, r = 0 ∨ r = 32 → (tWork (tCmd 0x42 .queued (tLe 8 r ++ tLe 8 4)) (tColl 1) (tStep .applied)).canRun 0 5 0x42 =
        some (tCmd 0x42 .queued (tLe 8 r ++ tLe 8 4)) ∧
      (commitArgs (tCmd 0x42 .queued (tLe 8 r ++ tLe 8 4)).bytes).rollbackOnly = decide (r = 32) ∧
      ((tWork (tCmd 0x42 .queued (tLe 8 r ++ tLe 8 4)) (tColl 1) (tStep .applied)).stand 0).steps.commitable 4 = true ∧
      (tWork (tCmd 0x42 .queued (tLe 8 r ++ tLe 8 4)) (tColl 1) (tStep .applied)).expelledFrom 0 0 = false ∧
      ((tWork (tCmd 0x42 .queued (tLe 8 r ++ tLe 8 4)) (tColl 1) (tStep .applied)).stand 0).steps.commits = [] ∧
      ((tWork (tCmd 0x42 .queued (tLe 8 r ++ tLe 8 4)) (tColl 1) (tStep .applied)).stand 0).steps.rollback = none ∧
      ((tWork (tCmd 0x42 .queued (tLe 8 r ++ tLe 8 4)) (tColl 1) (tStep .applied)).stand 0).inflight.length = 1) ∧
    ((tAt 1 [] none).alive = true ∧ (tAt 1 [] none).commitNow 0 = some (tPhase 1, tCommit .running) ∧
      ((tAt 1 [] none).stand 0).steps.inReplay = false ∧ ((tAt 1 [] none).stand 0).steps.covered 4 = [tRec 4 .applied] ∧
      (tAt 1 [] none).hbm.diff = [] ∧ ((tAt 1 [] none).stand 0).steps.rollback = none ∧
      (tCommit .running).tStart.toNat + 10000 ≤ (tAt 1 [] none).clock.now.toNat ∧
      (tRec 4 .applied).applied.toNat + 10000 ≤ (tAt 1 [] none).clock.now.toNat) ∧
    ((tAt 3 [] none).commitNow 0 = some (tPhase 3, tCommit .running) ∧ ((tAt 3 [] none).stand 0).openOwn = [] ∧
      (tAt 3 [] none).commitMsgs 0 (tPhase 3) = [(1, none)]) ∧
    (∃ e ∈ (tOwing.stand 0).openOwn, ∃ r ∈ (tOwing.stand 0).steps.covered 4, e.step = some r.step) ∧
    (∃ s : State, s.canRun 0 5 0x42 = some (tCommit .queued) ∧ (s.stand 0).steps.commits ≠ []) ∧
    (∃ s : State, s.canRun 0 5 0x42 = some (tCommit .queued) ∧ (s.stand 0).steps.commits = [] ∧
      (commitArgs (tCommit .queued).bytes).rollbackOnly = false ∧ s.expelledFrom 0 (commitArgs (tCommit .queued).bytes).mtab = false ∧
      (s.stand 0).steps.commitable (commitArgs (tCommit .queued).bytes).step = false) := by
  refine ⟨fun r h => ?_, ?_, ?_, ?_,
    ⟨tWork (tCommit .queued) (tColl 1) { StandSt.reset with steps := { StepSt.reset with commits := [tPhase 3] } }, ?_⟩,
    tWork (tCommit .queued) (tColl 1) StandSt.reset, ?_⟩
  · rcases h with h | h <;> subst h <;> decide +kernel
  iterate 5 decide +kernel

theorem wit_VerdictOfMessages : (∃ m ∈ [tMsg true 0], m.rollback = true) ∧ (∀ m ∈ [tMsg false 0], m.rollback = false) ∧
    (∃ a ∈ [tMsg false 0, tMsg false 1], ∃ k ∈ [tMsg false 0, tMsg false 1], a.blaze ≠ k.blaze) ∧
    [tMsg false 0, tMsg false 1, tMsg false 1].length <
      2 * ([tMsg false 0, tMsg false 1, tMsg false 1].filter (fun m => decide (m.blaze = 1))).length ∧
    (∀ b : BitVec 128, 2 * ([tMsg false 0, tMsg false 1].filter (fun m => decide (m.blaze = b))).length ≤
      [tMsg false 0, tMsg false 1].length) := by
  refine ⟨by decide, by decide, by decide, by decide, fun b => ?_⟩
  have h : (0 : BitVec 128) ≠ 1 := by decide
  by_cases h0 : (0 : BitVec 128) = b
  · subst h0; decide
  · have e : [tMsg false 0, tMsg false 1].filter (fun m => decide (m.blaze = b)) =
        [tMsg false 1].filter (fun m => decide (m.blaze = b)) := by
      simp only [List.filter_cons, show (tMsg false 0).blaze = 0 from rfl, h0, decide_false, if_false, Bool.false_eq_true]
    rw [e]
    have := List.length_filter_le (fun m => decide (m.blaze = b)) [tMsg false 1]
    simp only [List.length_cons, List.length_nil] at *
    omega

/-- The same with a DIGEST that issued before and has still to run. -/
def tEarlier : State :=
  (tAt 3 [tMsg false 0] none).setStand 0 { (tAt 3 [tMsg false 0] none).stand 0 with
    inflight := [{ tCmd 0x23 .queued (tLe 4 0 ++ tLe 2 1) with ticket := 4 }, tCommit .running], nextTicket := 6 }

theorem wit_CommitCommits :
    ((tAt 3 [tMsg false 0] none).alive = true ∧ (tAt 3 [tMsg false 0] none).commitNow 0 = some (tPhase 3, tCommit .running) ∧
      ((tAt 3 [tMsg false 0] none).stand 0).openOwn = [] ∧
      (∀ r ∈ ((tAt 3 [tMsg false 0] none).stand 0).steps.covered 4, r.mark = none) ∧
      (tAt 3 [tMsg false 0] none).commitMsgs 0 (tPhase 3) = [(1, some (tMsg false 0))] ∧
      ((tAt 3 [tMsg false 0] none).stand 0).peers = [] ∧ (commitArgs (tCommit .running).bytes).quorum = false ∧
      ((tAt 3 [tMsg false 0] none).stand 0).steps.rollback = none ∧ (tPhase 3).bad = false ∧
      (tAt 3 [tMsg false 0] none).commitHeld 0 ((tAt 3 [tMsg false 0] none).stand 0).nextTicket = false) ∧
    (tEarlier.commitNow 0 = some (tPhase 3, tCommit .running) ∧ tEarlier.commitMsgs 0 (tPhase 3) = [(1, some (tMsg false 0))] ∧
      (tEarlier.stand 0).steps.rollback = none ∧ tEarlier.commitHeld 0 (tEarlier.stand 0).nextTicket = true) ∧
    (∃ s : State, s.alive = true ∧ s.commitNow 0 = some (tPhase 4, tCommit .running) ∧ (s.cfg 0).enabled = true ∧
      (s.stand 0).steps.committedValid = true ∧ (tMsg false 0).step.toNat ≤ (s.stand 0).steps.committed.toNat ∧
      s.commitMsgs 0 (tPhase 4) = [(1, some (tMsg false 0))] ∧ (s.stand 0).peers = []) :=
  ⟨by decide +kernel, by decide +kernel, (tAt 4 [tMsg false 0] none).setSteps 0 (fun x => { x with committedValid := true, committed := 4 }),
    by decide +kernel⟩

/-- A DIGEST of group 0 that step 4 logged. -/
def tLogged : LoggedCmd := ⟨tCommand 0x23 4 1 7 (tLe 4 0 ++ tLe 2 1), .h0⟩

/-- Step 4 taken up for replay, its stand reading regions 0, 2 and 4. -/
def tReplay : State :=
  let r := fun k n => (k, { SReg.unused with region := n, valid := true, contexts := 0xffff })
  ({ tLand (tSkid 0x23) with img := { (tLand (tSkid 0x23)).img with sregs := [r 0 0, r 1 2, r 2 4] } } : State).setStand 0 { StandSt.reset with steps := { StepSt.reset with
    records := [{ tRec 4 .applied with cmds := [tLogged] }], replay := some ⟨[4], 0, [], [], 4, 5⟩ } }

theorem wit_RollbackAndReplay :
    ((tStand StandSt.reset).alive = true ∧ ((tStand StandSt.reset).stand 0).steps.commits = [] ∧
      ((tStand StandSt.reset).stand 0).steps.committedValid = false) ∧
    ((tAt 3 [] none).commitNow 0 = some (tPhase 3, tCommit .running) ∧ ((tAt 3 [] none).cfg 0).commitWaitMs = 10 ∧
      (tPhase 3).waitFrom.toNat + 10 * 1000000 ≤ (tAt 3 [] none).clock.now.toNat ∧
      (tAt 3 [] none).commitMsgs 0 (tPhase 3) = [(1, none)] ∧ ((tAt 3 [] none).stand 0).sapling 2 = false) ∧
    (∀ why, why = RollbackFor.only ∨ why = .halt 0x0112 ∨ why = .group 4 →
      (tAt 4 [] (some why)).alive = true ∧ (tAt 4 [] (some why)).commitNow 0 = some (tPhase 4, tCommit .running) ∧
      ((tAt 4 [] (some why)).stand 0).steps.rollback = some why ∧ ((tAt 4 [] (some why)).stand 0).inflight = [tCommit .running] ∧
      (tCommit .running).opcode = 0x42 ∧ ((tAt 4 [] (some why)).stand 0).steps.records = [tRec 4 .applied] ∧
      ((tAt 4 [] (some why)).stand 0).steps.round < ((tAt 4 [] (some why)).cfg 0).replayMax ∧ (tPhase 4).decided = none ∧
      (tRec 4 .applied).endTicket = none ∧ (tPhase 4).restored = false ∧ (tRec 4 .applied).overflow = false) ∧
    (∃ d ∈ (tEarlier.stand 0).inflight, d.opcode ≠ 0x42 ∧ d.opcode ≠ 0x41) ∧
    (tReplay.fronts 0 = true ∧ (tReplay.stand 0).steps.replay = some ⟨[4], 0, [], [], 4, 5⟩ ∧
      ((tReplay.stand 0).steps.rec_ 4).map (·.cmds) = some [tLogged] ∧ fld tLogged.bytes 0 1 < 0x40 ∧
      bit (fld tLogged.bytes 1 1) 0 = false ∧
      (∀ u, u = tReplay.replaySeek 0 ⟨[4], 0, [], [], 4, 5⟩ [4] 0 →
        u.roomFor 0 ((u.stand 0).newCmd tLogged.bytes tLogged.link none 0) = true ∧ u.checkOp 0 tLogged.bytes = none) ∧
      (∀ x ∈ (tReplay.stand 0).steps.records, x.endTicket ≠ some (tReplay.stand 0).nextTicket)) := by
  refine ⟨?_, ?_, fun why h => ?_, ?_, ?_, ?_, ?_, ?_, ?_, fun u h => ?_, ?_⟩
  pick_goal 10
  · subst h; decide +kernel
  pick_goal 3
  · rcases h with h | h | h <;> subst h <;> decide +kernel
  iterate 9 decide +kernel

/-- A CHECKPOINT of group 0 to memory at 4,096. -/
def tCkpt : Cmd := tCmd 0x43 .queued (tLe 2 0 ++ tLe 2 1 ++ tLe 4 0 ++ tLe 8 4096)

/-- A copy into region 6 with one block still to read, on landing die 0. -/
def tCopy : State :=
  let copy : BgCopy :=
    { ticket := none, ctx := 0, groups := [(0, false)], todo := [⟨0, 0, 0, 512, 0, 256⟩], got := [], remote := none, dest := 6 * 2 ^ 24,
      otver := 0, sign := false, step := 0, meta_ := ⟨0, 0, 0, 0⟩ }
  (tLand tCkpt).setSteps 0 (fun x => { x with copy := some copy })

/-- The module of the group's tests with a group of no element, its memory as given. -/
def tKept (c : Cmd) (m : Mem) : State :=
  { tLand c with img := { (tLand c).img with udefs := [(0, { UDef.undefined with isDefined := true, tag := 77 })] }, hbm := m }

/-- A whole shard of group 0 for step 9, and the manifest that names it (spec/12 Tables 12-11 and 12-12). -/
def tShard : List Byte :=
  let h := tLe 4 0x48535a57 ++ tLe 2 1 ++ tLe 2 21 ++ tLe 8 0 ++ tLe 8 9 ++ tLe 4 0 ++ tLe 2 77 ++ tLe 98 0
  h ++ sha512 h ++ tLe 64 0

def tManifest : List Byte :=
  let h := tLe 4 0x464d5a57 ++ tLe 2 1 ++ tLe 6 0 ++ tLe 4 1 ++ tLe 8 9 ++ tLe 232 0 ++
    (tLe 8 0 ++ tLe 8 4096 ++ tLe 8 256 ++ (tShard.drop 128).take 64 ++ tLe 8 0)
  h ++ sha512 h

/-- RESTORE of group 0 from memory at 0. -/
def tRest : Cmd := tCmd 0x44 .queued (tLe 2 0 ++ tLe 2 1)

/-- That checkpoint in memory. -/
def tSaved : State := tKept tRest ((Mem.empty.writeRawN 0 tManifest).writeRawN 4096 tShard)

/-- The group's stand with a SWEEP of region 0, whose group 0 is, ahead of the command of ticket 5. -/
def tSwept (c : Cmd) : State :=
  { tLand c with stands := [(0, { StandSt.reset with inflight := [{ tSweep with ticket := 4 }, c] })] }

/-- A CHECKPOINT or RESTORE of group 0 with the memory of stand 3 of device 2. -/
def tFar (op : Nat) : Cmd := tCmd op .queued (tLe 2 0 ++ tLe 2 1 ++ tLe 2 2 ++ tLe 2 0x43 ++ tLe 8 4096)

/-- The group's stand with port 0 up to device 2. -/
def tRoute (c : Cmd) : State := (tLand c).setPort 0 { PortSt.reset with mode := .active, peerDevice := 2 }

theorem wit_CheckpointAndRestore :
    ((tLand tCkpt).canRun 0 5 0x43 = some tCkpt ∧ (ckptArgs tCkpt.bytes).remote = false ∧
      ((tLand tCkpt).stand 0).steps.copy = none ∧ tCkpt.lost = [] ∧
      (tLand tCkpt).ckptHeld 0 tCkpt = false ∧ (tLand tCkpt).ckptSwept 0 tCkpt = false) ∧
    (∃ b, tCopy.alive = true ∧ (tCopy.stand 0).steps.copy = some b ∧ b.ticket = none ∧ tCopy.nextBlock 0 b = some (0, 0) ∧
      tCopy.nextBlock 0 { b with todo := [] } = none ∧ (tCopy.stand 0).steps.mirrorWait = none ∧ (tCopy.land 0).stagedMem 0 0 = none ∧ tCopy.hbm.diff = [] ∧
      ∀ p ∈ b.todo, ∀ q ∈ tCopy.softBlocks (b.dest + (tCopy.layout (b.groups.map Prod.fst)).getD p.shard 0 + 256 + p.off) p.len,
        tCopy.wantStage q.1 q.2 = []) ∧
    ((tKept tRest Mem.empty).canRun 0 5 0x44 = some tRest ∧ (restArgs tRest.bytes).remote = false ∧
      (tKept tRest Mem.empty).restSwept 0 tRest = false ∧ (tKept tRest Mem.empty).hbm.diff = [] ∧
      manifestOk ((tKept tRest Mem.empty).restBytes tRest (restArgs tRest.bytes) 0 (manifestBytes 1)).1 1 = false) ∧
    (((tCopy).stand 0).steps.copy ≠ none ∧ (tSwept tCkpt).canRun 0 5 0x43 = some tCkpt ∧ (tSwept tCkpt).ckptSwept 0 tCkpt = true ∧
      (tSwept tRest).canRun 0 5 0x44 = some tRest ∧ (tSwept tRest).restSwept 0 tRest = true) ∧
    ((tRoute (tFar 0x43)).canRun 0 5 0x43 = some (tFar 0x43) ∧ (ckptArgs (tFar 0x43).bytes).remote = true ∧
      (tRoute (tFar 0x43)).fenced 0 2 = false ∧ ((tRoute (tFar 0x43)).routeTo 2).isSome = true ∧
      (tLand (tFar 0x44)).canRun 0 5 0x44 = some (tFar 0x44) ∧ (restArgs (tFar 0x44).bytes).remote = true) :=
  ⟨by decide +kernel, ⟨_, by decide +kernel, rfl, by decide +kernel, by decide +kernel, rfl, by decide +kernel, by decide +kernel, rfl,
    by decide +kernel⟩, by decide +kernel⟩

theorem wit_CheckpointAndRestore_whole : tSaved.canRun 0 5 0x44 = some tRest ∧ tSaved.hbm.diff = [] ∧
    manifestOk (tSaved.restBytes tRest (restArgs tRest.bytes) 0 (manifestBytes 1)).1 1 = true ∧
    restFails (restArgs tRest.bytes) (tSaved.restBytes tRest (restArgs tRest.bytes) 0 (manifestBytes 1)).1 = [] ∧
    tSaved.shardBytes 0 = 256 ∧ (tSaved.layout (groupSpan 0 1)) = [4096] ∧
    tSaved.shardFails (restArgs tRest.bytes) (tSaved.restBytes tRest (restArgs tRest.bytes) 0 (manifestBytes 1)).1
      (tSaved.readSoft 4096 256) 0 0 4096 = [] ∧
    (∀ x, x < 256 → (tSaved.visKey (4096 + x)).isSome = true) ∧ (tSaved.ugroup 0).isSealed = false ∧
    (∀ p ∈ tSaved.rolesOf 0, tSaved.groupHeld 0 5 0 p.2 = false) := by decide +kernel

/-- FENCE_PEER and READMIT of device 2. -/
def tMember (op : Nat) : Cmd := tCmd op .queued (tLe 2 2)

/-- Stand 0 at 1 s with a device watched. -/
def tPeer (p : Peer) : State :=
  { tStand { StandSt.reset with peers := [p] } with clock := { ClockSt.reset with now := 1000000000 } }

/-- Stand 0 with device 2 watched, silent for 1 s, after `n` samples. -/
def tSilent (n : Nat) : State := tPeer ⟨2, .live, 0, 0, n, 0, true, 0⟩

theorem wit_Membership : (tFlight (tMember 0x48)).canRun 0 5 0x48 = some (tMember 0x48) ∧
    ((tFlight (tMember 0x48)).stand 0).steps.commits = [] ∧ (tFlight (tMember 0x49)).canRun 0 5 0x49 = some (tMember 0x49) ∧
    ((tFlight (tMember 0x49)).stand 0).peers.length < 256 ∧ (tFlight (tMember 0x48)).fenced 0 2 = false ∧
    ((tPeer ⟨2, .fenced, 0, 0, 31, 0, true, 0⟩).stand 0).peer 2 = some ⟨2, .fenced, 0, 0, 31, 0, true, 0⟩ ∧
    (((1000000000 : W64).toNat - (999999000 : W64).toNat : Nat) : Rat) / 1000 <
      ({ tPeer ⟨2, .live, 0, 0, 31, 999999000, true, 0⟩ with img := { tImg with deadMs := 1 } } : State).silenceUs
        ⟨2, .live, 0, 0, 31, 999999000, true, 0⟩ ∧
    (∀ n, n = 31 ∨ n = 32 → (tSilent n).alive = true ∧ ((tSilent n).cfg 0).enabled = true ∧
      ((tSilent n).stand 0).peer 2 = some ⟨2, .live, 0, 0, n, 0, true, 0⟩ ∧
      (tSilent n).silenceUs ⟨2, .live, 0, 0, n, 0, true, 0⟩ ≤ (((tSilent n).clock.now.toNat - 0 : Nat) : Rat) / 1000 ∧
      ((tSilent n).stand 0).steps.commits = [] ∧ (tSilent n).fenced 0 2 = false) := by
  refine ⟨?_, ?_, ?_, ?_, ?_, ?_, ?_, fun n h => by rcases h with h | h <;> subst h <;> decide +kernel⟩ <;> decide +kernel

/-- A transaction from stand 0 of device 2 to stand 0 of this device, 1. -/
def tTxn (ttype : Nat) (rsp : Bool) (addr : Nat) (payload : List Byte) : Txn :=
  { ttype := ttype, rsp := rsp, status := 0, dst := 1, src := 2, dstand := 0, sstand := 0, tag := 9, addr := addr, len := 1, ttl := 16,
    meta_ := tLe 16 0, payload := payload }

/-- A module with port 0 up, device 2 at its other end, and a transaction received there. -/
def tRx (s : State) (x : Txn) : State :=
  s.setPort 0 { PortSt.reset with mode := .active, peerDevice := 2, rxq := [⟨0, [], x, 100⟩] }

/-- A group's module whose region 0 device 2 may write and read. -/
def tOpen (x : Txn) : State :=
  let s := tLand (tSkid 0x23)
  tRx { s with img := { s.img with sregs := [(0, { SReg.unused with valid := true, write := true, remote := true })] } } x

/-- The running module with no stand in use. -/
def tNone (x : Txn) : State := tRx { tOn with img := { tImg with stands := [] } } x

/-- A PUT of 16 bytes to 32, a GET of 8 bytes there, one that asks for the step's copy. -/
def tPut : Txn := tTxn 1 false 32 (tLe 16 7)
def tGet : Txn := tTxn 2 false 32 (tLe 16 8)
def tGetStep : Txn := tTxn 2 false 32 (tLe 4 8 ++ tLe 4 3 ++ tLe 8 1)

/-- The same with a SWEEP of region 0 that has issued. -/
def tSwept0 (x : Txn) : State :=
  (tOpen x).setStand 0 { (tOpen x).stand 0 with inflight := [{ tSweep with ticket := 4 }], nextTicket := 5 }

theorem wit_FabricRequests_put :
    (((tNone tPut).takeRequest 0 tPut 1).isSome = true ∧ ((tNone tPut).cfg 0).enabled = false) ∧
    (((tRx tOn tPut).takeRequest 0 tPut 1).isSome = true ∧ ((tRx tOn tPut).cfg 0).enabled = true ∧ tPut.addr < resultBase ∧
      (tRx tOn tPut).mayRemote 0 32 16 true = false) ∧
    (((tOpen tPut).takeRequest 0 tPut 1).isSome = true ∧ ((tOpen tPut).cfg 0).enabled = true ∧ (tOpen tPut).mayRemote 0 32 16 true = true ∧
      (tOpen tPut).memHeld 0 ((tOpen tPut).stand 0).nextTicket (32, 48) = false ∧ (tOpen tPut).sweepBefore 0 32 16 = false ∧
      (∀ i, i < tPut.payload.length → (tOpen tPut).visKey (32 + i) = some (32 + i)) ∧ (tOpen tPut).hbm.diff = [] ∧
      (tOpen tPut).hbm.wf = true ∧ ∀ d b, (tOpen tPut).wantStage d b = []) ∧
    ((tSwept0 tPut).sweepBefore 0 32 16 = true ∧ (tSwept0 tPut).mayRemote 0 32 16 true = true ∧
      ((tSwept0 tPut).takeRequest 0 tPut 1).isSome = true) := by
  refine ⟨?_, ?_, ⟨?_, ?_, ?_, ?_, ?_, ?_, rfl, rfl, fun _ _ => rfl⟩, ?_⟩ <;> decide +kernel

theorem wit_FabricRequests_get :
    (((tNone tGet).takeRequest 0 tGet 2).isSome = true ∧ ((tNone tGet).cfg 0).enabled = false) ∧
    (((tRx tOn tGet).takeRequest 0 tGet 2).isSome = true ∧ fld tGet.payload 0 4 = 8 ∧ tGet.len = 1 ∧ tGet.addr % 4096 + 8 ≤ 4096 ∧
      (tRx tOn tGet).sweepBefore 0 32 8 = false ∧ (tRx tOn tGet).mayRemote 0 32 8 false = false) ∧
    ((tSwept0 tGet).sweepBefore 0 32 8 = true ∧ 4096 < ({ tGet with addr := 4089 } : Txn).addr % 4096 + 8 ∧
      ((tOpen { tGet with addr := 4089 }).takeRequest 0 { tGet with addr := 4089 } 2).isSome = true ∧
      (tOpen { tGet with addr := 4089 }).sweepBefore 0 4089 8 = false) ∧
    (((tOpen tGet).takeRequest 0 tGet 2).isSome = true ∧ (tOpen tGet).mayRemote 0 32 8 false = true ∧
      (tOpen tGet).sweepBefore 0 32 8 = false ∧ bit (fld tGet.payload 4 1) 0 = false ∧ (tOpen tGet).hbm.diff = [] ∧
      (∀ i, i < 8 → ((tOpen tGet).visKey (32 + i)).isSome = true)) ∧
    (((tOpen tGetStep).takeRequest 0 tGetStep 2).isSome = true ∧ (tOpen tGetStep).mayRemote 0 32 8 false = true ∧
      bit (fld tGetStep.payload 4 1) 0 = true ∧
      ((tOpen tGetStep).stand 0).steps.serves (bit (fld tGetStep.payload 4 1) 1) (BitVec.ofNat 32 (fld tGetStep.payload 8 4)) = false) := by
  decide +kernel

/-- A contribution of rank 1 to segment 0 of instance 5: an ALLREDUCE of 8 elements. -/
def tContribute : Txn :=
  { tTxn 3 false 0 (tLe 32 1) with meta_ := tLe 16 (0 + 5 * 2 ^ 32 + 8 * 2 ^ 64 + 1 * 2 ^ 96 + 1 * 2 ^ 108) }

/-- The device at its reduction of instance 0. -/
def tGather : State := tRx tLate tContribute

/-- A PERMUTE message of device 2: 1 opens, 2 says that it has pulled. -/
def tPermMsg (n : Nat) : Txn := tTxn 4 false 0 (tLe 15 0 ++ tLe 1 n)

/-- The device at a PERMUTE. -/
def tPermuting (n : Nat) : State :=
  tRx (tWork (tPerm .running) (tColl 1) { StandSt.reset with perms := [tMoving 1 false] }) (tPermMsg n)

theorem wit_FabricRequests_reduce : (tGather.takeRequest 0 tContribute 3).isSome = true ∧ (tGather.cfg 0).enabled = true ∧
    tGather.rankIn 0 (metaOf tContribute.meta_).mtab = some 0 ∧ tContribute.addr % 2 ^ 32 = 0 ∧
    (∀ y ∈ (tGather.stand 0).colls, ¬ (y.mtab = (metaOf tContribute.meta_).mtab ∧ y.inst = (metaOf tContribute.meta_).inst)) ∧
    (tGather.stand 0).openOwn = [] ∧ tGather.instPast 0 (metaOf tContribute.meta_).mtab (metaOf tContribute.meta_).inst = false ∧
    (tGather.stand 0).contrib 0 5 0 1 = none ∧ (metaOf tContribute.meta_).inst = 5 ∧ (metaOf tContribute.meta_).rank = 1 ∧
    (tGather.stand 0).staged + 4 * 8 ≤ (tGather.cfg 0).reduceStageMib * 2 ^ 20 ∧
    (∃ s : State, (s.takeRequest 0 tContribute 3).isSome = true ∧ (s.cfg 0).enabled = true ∧
      s.rankIn 0 (metaOf tContribute.meta_).mtab = none) ∧
    (∃ s : State, (s.cfg 0).reduceStageMib * 2 ^ 20 < (s.stand 0).staged + 4 * 8 ∧ s.rankIn 0 0 = some 0) :=
by
  refine ⟨?_, ?_, ?_, ?_, ?_, ?_, ?_, ?_, ?_, ?_, ?_, ⟨tRx tOn tContribute, ?_⟩,
    { tGather with img := { tImg with stands := [(0, { tCfg with reduceStageMib := 0 })] } }, ?_⟩ <;> decide +kernel

theorem wit_FabricRequests_permute : ∀ n, n ∈ [1, 2, 4, 5] → ((tPermuting n).takeRequest 0 (tPermMsg n) 4).isSome = true ∧
    ((tPermuting n).cfg 0).enabled = true ∧
    ((tPermuting n).stand 0).perms.find? (fun y => decide (y.mtab = (tPermMsg n).addr / 2 ^ 36) &&
      decide (y.inst = BitVec.ofNat 32 ((tPermMsg n).addr / 16))) = some (tMoving 1 false) ∧
    ((tPermuting n).mtab 0 0).rank 2 0 = some 1 ∧ ((tPermuting n).stand 0).cmd 5 = some (tPerm .running) ∧
    fld (tPermMsg n).payload 15 1 = n := by decide +kernel

/-- The running module whose time comes from port 0, a request of tag 9 outstanding since 0 ns; `sr`: its stands are ready. -/
def tTime (x : Txn) (sr : Bool) : State :=
  let s := tRx tOn x
  { s with boot := { s.boot with standsReady := sr }, fabric := { s.fabric with timeReqs := [(9, 0)] }, clock := { ClockSt.reset with now := 100 } }

/-- A response that says the request came and its answer left at `t` ns. -/
def tTimeRsp (t : Nat) : Txn := tTxn 5 true 0 (tLe 8 t ++ tLe 8 t)

theorem wit_TimeAlignment : ((tTime (tTxn 5 false 0 []) true).takeLink 0 (tTxn 5 false 0 []) 5 false).isSome = true ∧
    (tTime (tTimeRsp 0) true).img.timeRoot = false ∧ (tTime (tTimeRsp 0) true).img.parentPort < 28 ∧
    ((tTime (tTimeRsp 0) true).port (tTime (tTimeRsp 0) true).img.parentPort).up = true ∧
    (∀ sr, ((tTime (tTimeRsp 0) sr).takeLink 0 (tTimeRsp 0) 5 true).isSome = true ∧
      (tTime (tTimeRsp 0) sr).fabric.timeReqs.find? (fun q => decide (q.1 = (tTimeRsp 0).tag)) = some (9, 0) ∧
      (tTime (tTimeRsp 0) sr).boot.standsReady = sr ∧ (tTime (tTimeRsp 0) sr).clock.sync.stepped = false) ∧
    (((fld (tTimeRsp 0).payload 0 8 : Int) - 0) - (100 - fld (tTimeRsp 0).payload 8 8)) / 2 = -50 ∧
    (((fld (tTimeRsp 200).payload 0 8 : Int) - 0) - (100 - fld (tTimeRsp 200).payload 8 8)) / 2 = 150 ∧
    ((tTime (tTimeRsp 200) false).takeLink 0 (tTimeRsp 200) 5 true).isSome = true ∧
    (∃ s : State, s.alive = true ∧ s.boot.standsReady = true ∧ 0 < s.clock.sync.slew) ∧
    (∃ s : State, s.alive = true ∧ s.boot.standsReady = true ∧ s.clock.sync.slew < 0) :=
by
  refine ⟨?_, ?_, ?_, ?_, ?_, ?_, ?_, ?_, ⟨{ tOn with clock := ⟨0, { TimeSync.reset with slew := 1 }⟩ }, ?_⟩,
    { tOn with clock := ⟨0, { TimeSync.reset with slew := -1 }⟩ }, ?_⟩ <;> decide +kernel

/-- A heartbeat of device 2 that names its stands in `mask`. -/
def tBeat (mask : Nat) : Txn := tTxn 6 false 0 (tLe 8 0 ++ tLe 8 mask)

/-- Stand 0 with devices 2 and 3 watched, 2 suspected, and a transaction received. -/
def tWatch (x : Txn) : State :=
  tRx (tStand { StandSt.reset with peers := [⟨2, .suspect, 0, 0, 0, 0, true, 0⟩, ⟨3, .live, 0, 0, 0, 0, false, 0⟩]
                                   mtabs := [(0, { MemberTab.reset with loaded := true, members := [(1, 0), (2, 0), (3, 0)] })] }) x

/-- A FENCE that names a device, and stand 0 of it. -/
def tFenceTxn (d : Nat) : Txn := tTxn 7 false 0 (tLe 2 d ++ tLe 14 0)

theorem wit_HeartbeatsAndFences :
    (∀ mask, mask = 0 ∨ mask = 1 → ((tWatch (tBeat mask)).takeLink 0 (tBeat mask) 6 false).isSome = true ∧
      ((tWatch (tBeat mask)).cfg 0).enabled = true ∧ ((tWatch (tBeat mask)).stand 0).peers[0]? = some ⟨2, .suspect, 0, 0, 0, 0, true, 0⟩ ∧
      ((tWatch (tBeat mask)).stand 0).peers[1]? = some ⟨3, .live, 0, 0, 0, 0, false, 0⟩ ∧
      bit (fld (tBeat mask).payload 8 8) ((tWatch (tBeat mask)).peerStand 0 2) = decide (mask = 1)) ∧
    (∃ s : State, s.alive = true ∧ s.boot.imageVerified = true ∧ s.fabric.nextTag < 4096 ∧ s.routeTo 2 = some 0 ∧
      ((List.range 64).flatMap (fun st => if (s.cfg st).enabled then (s.stand st).peers.map Peer.device else [])).dedup = [2]) ∧
    (∀ d, d = 1 ∨ d = 3 → ((tWatch (tFenceTxn d)).takeRequest 0 (tFenceTxn d) 7).isSome = true ∧
      fld (tFenceTxn d).payload 0 2 = d ∧ ((tWatch (tFenceTxn d)).stand 0).steps.commits = [] ∧
      ((tWatch (tFenceTxn d)).cfg 0).enabled = true ∧ (tWatch (tFenceTxn d)).img.deviceId = 1 ∧
      bits (fld (tFenceTxn d).payload 2 1) 5 0 = 0) ∧
    (∃ m ∈ (tWatch (tFenceTxn 3)).tablesOf 0 3, ((2 : W16), 0) ∈ ((tWatch (tFenceTxn 3)).mtab 0 m).members) ∧
    (((tNone (tFenceTxn 3)).takeRequest 0 (tFenceTxn 3) 7).isSome = true ∧ ((tNone (tFenceTxn 3)).cfg 0).enabled = false) := by
  refine ⟨fun m h => ?_, ⟨tRx (tStand { StandSt.reset with peers := [⟨2, .live, 0, 0, 0, 0, true, 0⟩] }) (tBeat 1), by decide +kernel⟩,
    fun d h => ?_, by decide +kernel, by decide +kernel⟩
  · rcases h with h | h <;> subst h <;> decide +kernel
  · rcases h with h | h <;> subst h <;> decide +kernel

/-- Stand 0 with a request of tag 9 outstanding for something, and a transaction received. -/
def tAsk (w : ReqFor) (ttype : Nat) (x : Txn) : State :=
  tRx (tStand { StandSt.reset with inflight := [tSkid 0x10], reqs := [⟨0, 9, ttype, 2, 4096, 16, w, 0, 0⟩] }) x

/-- A transaction for device 2. -/
def tPass (rsp : Bool) (ttl : Nat) : Txn := { tTxn 1 rsp 0 [] with dst := 2, src := 3, ttl := ttl }

/-- A transaction for device 2, whose route leaves by port 7 of link die 1, waits at port 0 while link die 0's die links are out. -/
def tCut : State :=
  let s := (tRx { tOn with img := { tImg with routes := [(2, ⟨true, 7, false, 0⟩)] } } (tPass false 16)).setPort 7
    { PortSt.reset with mode := .active, peerDevice := 2 }
  s.setFabric { s.fabric with dieLinks := (List.range 18).map (fun p => (32 * 26 + p, { DieLink.reset with out := true })) }

theorem wit_RequestEndsAndTransit :
    ((tAsk .other 1 (tTxn 1 true 0 [])).alive = true ∧ (tAsk .other 1 (tTxn 1 true 0 [])).isMine (tTxn 1 true 0 []) = true ∧
      ((tAsk .other 1 (tTxn 1 true 0 [])).takeRx 0 (tTxn 1 true 0 [])).isSome = true ∧
      ((tAsk .other 1 (tTxn 1 true 0 [])).stand 0).reqs.find? (fun r => decide (r.tag = 9)) = some ⟨0, 9, 1, 2, 4096, 16, .other, 0, 0⟩ ∧
      ((tAsk .other 1 (tTxn 1 true 0 [])).stand 0).held = []) ∧
    (((tRx tOn (tTxn 1 true 0 [])).takeRx 0 (tTxn 1 true 0 [])).isSome = true ∧
      ((tRx tOn (tTxn 1 true 0 [])).stand 0).reqs.find? (fun r => decide (r.tag = 9)) = none) ∧
    (((tAsk (.skidder 5) 2 (tTxn 2 true 0 [])).takeRx 0 (tTxn 2 true 0 [])).isSome = true ∧
      ((tAsk (.skidder 5) 2 (tTxn 2 true 0 [])).stand 0).cmd 5 = some (tSkid 0x10)) ∧
    ((0 : W64).toNat + tImg.txnTimeoutMs * 1000000 ≤ 5000000 ∧ (4999999 : W64).toNat < (0 : W64).toNat + tImg.txnTimeoutMs * 1000000) := by
  decide +kernel

theorem wit_RequestEndsAndTransit_way :
    ((tRx tOn (tPass false 16)).isMine (tPass false 16) = false ∧
      ((tRx tOn (tPass false 16)).port 0).rxOf (tPass false 16) = some ⟨0, [], tPass false 16, 100⟩ ∧
      ((tRx tOn (tPass false 16)).takeRx 0 (tPass false 16)).isSome = true ∧ (tRx tOn (tPass false 16)).routeTo 2 = some 0 ∧
      1 < (tPass false 2).ttl ∧ ((tRx tOn (tPass false 2)).takeRx 0 (tPass false 2)).isSome = true ∧
      (tRx tOn (tPass false 16)).wayOpen (linkWay (tRx tOn (tPass false 16)).variant 0 (egressDie 0)) = true) ∧
    (tCut.routeTo 2 = some 7 ∧ (tCut.takeRx 0 (tPass false 16)).isSome = true ∧
      tCut.wayOpen (linkWay tCut.variant 0 (egressDie 7)) = false) ∧
    ((tPass true 1).ttl ≤ 1 ∧ (tPass true 1).rsp = true ∧ ((tRx tOn (tPass true 1)).takeRx 0 (tPass true 1)).isSome = true) ∧
    ((tPass false 1).ttl ≤ 1 ∧ (tPass false 1).rsp = false ∧ (tPass false 1).ttype ≠ 6 ∧
      (∃ s : State, (s.takeRx 0 (tPass false 1)).isSome = true ∧ s.routeTo 3 = some 0)) ∧
    (∃ s : State, s.isMine (tPass true 16) = false ∧ (s.takeRx 0 (tPass true 16)).isSome = true ∧ s.routeTo 2 = none) := by
  refine ⟨by decide +kernel, by decide +kernel, by decide +kernel, ⟨by decide, by decide, by decide,
    ⟨tRx { tOn with img := { tImg with routes := [(3, ⟨true, 0, false, 0⟩)] } } (tPass false 1), by decide +kernel⟩⟩,
    ⟨tRx { tOn with img := { tImg with routes := [] } } (tPass true 16), by decide +kernel⟩⟩

/-- A word as a port receives it: 16 data bytes and the check symbols that match them. -/
def tWord (d : List Byte) : List Byte := d ++ [(chkOf 0 d).1, (chkOf 0 d).2]

/-- A flit of a TYPE with SEQ 0, START and 15 body words (spec/10 Table 10-4). -/
def tFlit (type start : Nat) (body : List (List Byte)) : List (List Byte) :=
  let b := body ++ List.replicate (15 - body.length) (List.replicate 16 0)
  let h := tLe 8 (type + start * 2 ^ 32)
  (h ++ tLe 8 (crc32c (h ++ b.flatten)).toNat) :: b |>.map tWord

/-- A response that fits one flit. -/
def tReply : Txn := { tTxn 1 true 0 [] with len := 0, meta_ := [] }

/-- Port 0 up, in a mode, as given, at `now` ns. -/
def tPortAt (now : W64) (x : PortSt) : State := { tOn with clock := { ClockSt.reset with now := now } }.setPort 0 x

/-- The same as power comes. -/
def tPort (x : PortSt) : State := tPortAt 0 x

/-- A DATA flit as the retry buffer keeps it. -/
def tRetry (seq sends : Nat) : RetryFlit :=
  { seq := seq, vc := some 0, ctrl := none, bseq := 0, start := 0, words := [], sends := sends, owners := [], sentAt := 0 }

/-- Port 0 active. -/
def tUp : PortSt := { PortSt.reset with mode := .active }

/-- A flit whose words read well and whose CRC agrees is read. -/
theorem readFlit_of {words ws : List (List Byte)} (h1 : words.length = 16) (h2 : (words.map readWord).all Option.isSome = true)
    (h3 : (words.map readWord).filterMap (fun r => r.map Prod.fst) = ws) (h4 : crcOk ws = true)
    (h5 : (flitHead (ws.headD [])).type ≤ 3) : (readFlit words).1 = some (flitHead (ws.headD []), ws.drop 1) := by
  unfold readFlit
  simp only [h3]
  rw [if_pos ⟨h1, h2, h4, h5⟩]

/-! The CRC of a flit, some words at a time. -/

theorem crcZeros {c0 c1 c2 c3 c4 c5 : W32} (h1 : (List.replicate 40 0).foldl crcByte c0 = c1)
    (h2 : (List.replicate 40 0).foldl crcByte c1 = c2) (h3 : (List.replicate 40 0).foldl crcByte c2 = c3)
    (h4 : (List.replicate 40 0).foldl crcByte c3 = c4) (h5 : (List.replicate 40 0).foldl crcByte c4 = c5) (n : Nat) :
    (List.replicate (200 + n) 0).foldl crcByte c0 = (List.replicate n 0).foldl crcByte c5 := by
  rw [show 200 + n = 40 + (40 + (40 + (40 + (40 + n)))) by omega]
  simp only [List.replicate_add _ _ (0 : Byte), List.foldl_append, h1, h2, h3, h4, h5]

theorem tFlit_crc (h : List Byte) (k m : Nat) (hk : k * 16 = 200 + m) {c0 c1 c2 c3 c4 c5 : W32} (h0 : h.foldl crcByte 0xffffffff#32 = c0)
    (h1 : (List.replicate 40 0).foldl crcByte c0 = c1)
    (h2 : (List.replicate 40 0).foldl crcByte c1 = c2) (h3 : (List.replicate 40 0).foldl crcByte c2 = c3)
    (h4 : (List.replicate 40 0).foldl crcByte c3 = c4) (h5 : (List.replicate 40 0).foldl crcByte c4 = c5) :
    crc32c (h ++ (List.replicate k (List.replicate 16 0)).flatten) = (List.replicate m 0).foldl crcByte c5 ^^^ 0xffffffff#32 := by
  unfold crc32c
  rw [List.flatten_replicate_replicate, hk, List.foldl_append, h0, crcZeros h1 h2 h3 h4 h5]

theorem tCrc_data : crc32c (tLe 8 3 ++ (List.replicate 15 (List.replicate 16 (0 : Byte))).flatten) = 488455897#32 := by
  rw [tFlit_crc (tLe 8 3) 15 40 rfl (c0 := 2828257820#32) (by decide +kernel)
    (by decide +kernel : (List.replicate 40 0).foldl crcByte 2828257820#32 = 4077445706#32)
    (by decide +kernel : (List.replicate 40 0).foldl crcByte 4077445706#32 = 4238904490#32)
    (by decide +kernel : (List.replicate 40 0).foldl crcByte 4238904490#32 = 1299171522#32)
    (by decide +kernel : (List.replicate 40 0).foldl crcByte 1299171522#32 = 3458483036#32)
    (by decide +kernel : (List.replicate 40 0).foldl crcByte 3458483036#32 = 993229632#32)]
  decide +kernel

theorem tCrc_ctrl : crc32c (tLe 8 2 ++ (List.replicate 15 (List.replicate 16 (0 : Byte))).flatten) = 2768049503#32 := by
  rw [tFlit_crc (tLe 8 2) 15 40 rfl (c0 := 3786389307#32) (by decide +kernel)
    (by decide +kernel : (List.replicate 40 0).foldl crcByte 3786389307#32 = 4011982670#32)
    (by decide +kernel : (List.replicate 40 0).foldl crcByte 4011982670#32 = 4223484665#32)
    (by decide +kernel : (List.replicate 40 0).foldl crcByte 4223484665#32 = 620562016#32)
    (by decide +kernel : (List.replicate 40 0).foldl crcByte 620562016#32 = 348693602#32)
    (by decide +kernel : (List.replicate 40 0).foldl crcByte 348693602#32 = 3209798464#32)]
  decide +kernel

theorem tCrc_reply : crc32c (tLe 8 (1 + 1 * 2 ^ 32) ++ tReply.header ++ (List.replicate 14 (List.replicate 16 (0 : Byte))).flatten) = 2146953211#32 := by
  rw [tFlit_crc (tLe 8 (1 + 1 * 2 ^ 32) ++ tReply.header) 14 24 rfl (c0 := 2619986066#32) (by decide +kernel)
    (by decide +kernel : (List.replicate 40 0).foldl crcByte 2619986066#32 = 3100969400#32)
    (by decide +kernel : (List.replicate 40 0).foldl crcByte 3100969400#32 = 4238658661#32)
    (by decide +kernel : (List.replicate 40 0).foldl crcByte 4238658661#32 = 867997836#32)
    (by decide +kernel : (List.replicate 40 0).foldl crcByte 867997836#32 = 4003817988#32)
    (by decide +kernel : (List.replicate 40 0).foldl crcByte 4003817988#32 = 814558097#32)]
  decide +kernel

/-- A flit written out, and the words that it carries. -/
def tWords (h : Nat) (crc : W32) (body : List (List Byte)) : List (List Byte) := (tLe 8 h ++ tLe 8 crc.toNat) :: body

def tZeros (n : Nat) : List (List Byte) := List.replicate n (List.replicate 16 0)

theorem tFlit_reads (type start h : Nat) (body rest : List (List Byte)) (c : W32) (e : h = type + start * 2 ^ 32)
    (r : rest = body ++ List.replicate (15 - body.length) (List.replicate 16 0)) (k : crc32c (tLe 8 h ++ rest.flatten) = c)
    (h1 : ((tWords h c rest).map tWord).length = 16) (h2 : (((tWords h c rest).map tWord).map readWord).all Option.isSome = true)
    (h3 : (((tWords h c rest).map tWord).map readWord).filterMap (fun x => x.map Prod.fst) = tWords h c rest)
    (h4 : (tLe 8 h ++ tLe 8 c.toNat).take 8 = tLe 8 h ∧ fld (tLe 8 h ++ tLe 8 c.toNat) 8 4 = c.toNat)
    (h5 : (flitHead (tLe 8 h ++ tLe 8 c.toNat)).type ≤ 3) :
    (readFlit (tFlit type start body)).1 = some (flitHead (tLe 8 h ++ tLe 8 c.toNat), rest) := by
  have f : tFlit type start body = (tWords h c rest).map tWord := by
    unfold tFlit tWords; simp only [← e, ← r, k]
  have g : crcOk (tWords h c rest) = true := by unfold crcOk tWords; simp only [h4.1, h4.2, k, decide_true]
  have q := readFlit_of h1 h2 h3 g (by unfold tWords; simpa only [List.headD_cons] using h5)
  rw [f, q]
  unfold tWords
  simp only [List.headD_cons, List.drop_one, List.tail_cons]

theorem tFlit_data : (readFlit (tFlit 3 0 [])).1 = some (flitHead (tLe 8 3 ++ tLe 8 488455897), tZeros 15) := by
  refine tFlit_reads 3 0 3 [] (tZeros 15) 488455897#32 rfl rfl tCrc_data ?_ ?_ ?_ ?_ ?_ <;> decide +kernel

theorem tFlit_ctrl : (readFlit (tFlit 2 0 [])).1 = some (flitHead (tLe 8 2 ++ tLe 8 2768049503), tZeros 15) := by
  refine tFlit_reads 2 0 2 [] (tZeros 15) 2768049503#32 rfl rfl tCrc_ctrl ?_ ?_ ?_ ?_ ?_ <;> decide +kernel

theorem tFlit_reply : (readFlit (tFlit 1 1 [tReply.header])).1 = some (flitHead (tLe 8 (1 + 1 * 2 ^ 32) ++ tLe 8 2146953211), tReply.header :: tZeros 14) := by
  refine tFlit_reads 1 1 (1 + 1 * 2 ^ 32) [tReply.header] (tReply.header :: tZeros 14) 2146953211#32 rfl rfl ?_ ?_ ?_ ?_ ?_ ?_
  · simp only [List.flatten_cons, ← List.append_assoc, tZeros]; exact tCrc_reply
  iterate 5 decide +kernel

theorem wit_Flits_receive : ((tPort tUp).alive = true ∧ ((tPort tUp).port 0).talks = true ∧ (readFlit []).1 = none ∧
      ((tPort tUp).port 0).nakSent = false ∧ ((tPort { tUp with nakSent := true }).port 0).nakSent = true ∧
      ((tPort { tUp with nakSent := true }).port 0).talks = true ∧ ((tPort PortSt.reset).port 0).talks = false) ∧
    ((∃ h b, (readFlit (tFlit 3 0 [])).1 = some (h, b) ∧ h.type = 3 ∧ h.seq ≠ ((tPort { tUp with rxSeq := 1 }).port 0).rxSeq) ∧
      (∃ h b, (readFlit (tFlit 3 0 [])).1 = some (h, b) ∧ h.type = 3 ∧ h.seq = ((tPort tUp).port 0).rxSeq) ∧
      (∃ h b, (readFlit (tFlit 2 0 [])).1 = some (h, b) ∧ h.type ≠ 1 ∧ h.type ≠ 3)) ∧
    ((∃ h b, (readFlit (tFlit 1 1 [tReply.header])).1 = some (h, b) ∧ h.type = 1 ∧ h.seq = ((tPort tUp).port 0).rxSeq ∧ h.start = 1 ∧
        ((tPort tUp).port 0).rxPart.get RxPart.none h.vc = RxPart.none ∧ (tReply.stream (64, 0) .none).length ≤ 15 ∧
        b = (tReply.stream (64, 0) .none).map (·.data) ++
          List.replicate (15 - (tReply.stream (64, 0) .none).length) (List.replicate 16 0)) ∧
      (tPort tUp).bondOf 0 = none ∧ tReply.wellFormed = true ∧ tReply.status < 8 ∧ tReply.dstand < 64 ∧ tReply.sstand < 64 ∧
      tReply.tag < 4096 ∧ tReply.addr < 2 ^ 40 ∧ tReply.ttl < 128 ∧ tReply.payload.length = 16 * tReply.len ∧ tReply.diffs = [] ∧
      tReply.meta_.length = (if tReply.ttype = 3 ∧ tReply.rsp = false then 16 else 0) ∧ (tPort tUp).meetsFence tReply = false) ∧
    (∃ s : State, (s.port 0).talks = true ∧ s.bondOf 0 = none ∧ s.meetsFence tReply = true ∧ s.flitHeld (0, (s.port 0).rxCount) = false) :=
  ⟨by decide +kernel, ⟨⟨_, _, tFlit_data, by decide +kernel⟩, ⟨_, _, tFlit_data, by decide +kernel⟩, ⟨_, _, tFlit_ctrl, by decide +kernel⟩⟩,
    ⟨⟨_, _, tFlit_reply, by decide +kernel⟩, by decide +kernel⟩,
    ⟨(tPort tUp).setFabric { (tPort tUp).fabric with fences := [(0, 2)] }, by decide +kernel⟩⟩

theorem wit_Flits_repeat :
    (∀ post, post = [] ∨ post = [tRetry 1 7] ∨ post = [tRetry 1 8] →
      (tPort { tUp with retry := [] ++ tRetry 0 1 :: post }).alive = true ∧
      ((tPort { tUp with retry := [] ++ tRetry 0 1 :: post }).port 0).talks = true ∧
      ((tPort { tUp with retry := [] ++ tRetry 0 1 :: post }).port 0).retry = [] ++ tRetry 0 1 :: post) ∧
    (∀ n, n = 7 ∨ n = 8 → ((tPortAt 2048 { tUp with retry := [tRetry 0 n] }).port 0).retry = [tRetry 0 n] ∧
      ((tPortAt 2048 { tUp with retry := [tRetry 0 n] }).port 0).substPending = false ∧
      (tRetry 0 n).sentAt.toNat + 2048 ≤ (tPortAt 2048 { tUp with retry := [tRetry 0 n] }).clock.now.toNat ∧
      (tPortAt 2047 { tUp with retry := [tRetry 0 n] }).clock.now.toNat < (tRetry 0 n).sentAt.toNat + 2048) := by
  refine ⟨fun post h => ?_, fun n h => ?_⟩
  · rcases h with h | h | h <;> subst h <;> decide +kernel
  · rcases h with h | h <;> subst h <;> decide +kernel

/-- Port 0 with a word of source 64 waiting on each channel named and a credit for it. -/
def tSend (vcs : List Nat) : State :=
  tPort { tUp with credits := vcs.map (fun v => (v, 1)), txq := vcs.map (fun v => (65 * v + 64, [⟨tLe 16 5, true, (64, 0), (0, 0), .none⟩])) }

theorem wit_Flits_send :
    (((tPort { tUp with retry := [tRetry 0 1], replayq := [0] }).port 0).replayq = [0] ∧
      ((tPort { tUp with retry := [tRetry 0 1], replayq := [0] }).port 0).retry.find? (fun g => decide (g.seq = 0)) = some (tRetry 0 1)) ∧
    (((tPort { tUp with ctrlq := [.ready], retry := List.replicate 1023 (tRetry 0 1) }).port 0).replayq = [] ∧
      ((tPort { tUp with ctrlq := [.ready], retry := List.replicate 1023 (tRetry 0 1) }).port 0).retry.length < 1024 ∧
      ((tPort { tUp with ctrlq := [.ready], retry := List.replicate 1023 (tRetry 0 1) }).port 0).ctrlq = [.ready] ∧
      1024 ≤ ((tPort { tUp with ctrlq := [.ready], retry := List.replicate 1024 (tRetry 0 1) }).port 0).retry.length) ∧
    (∀ vc, vc < 4 → (tSend [vc]).vcReady 0 vc ∧ (tSend [vc]).bondTurn 0 = true ∧ (tSend [vc]).resendOne 0 = none ∧
      ((tSend [vc]).port 0).nextSrc vc = some 64 ∧ (tSend [vc]).streamPort 0 = 0 ∧
      ∀ k, k < 4 → k ≠ vc → ¬ (tSend [vc]).vcReady 0 k) ∧
    ((tSend []).resendOne 0 = none ∧ ∀ vc, vc < 4 → ¬ (tSend []).vcReady 0 vc) ∧
    (∀ a b, (a = 0 ∨ a = 1) ∧ b = 1 ∨ a = 0 ∧ b = 0 → ∃ s : State, s.vcReady 0 1 ∧ s.vcReady 0 2 ∧ ¬ s.vcReady 0 3 ∧ ¬ s.vcReady 0 0 ∧
      s.bondTurn 0 = true ∧ (s.port 0).turn1 = a ∧ s.img.wColl = b ∧ (s.port 0).turn2 = 0 ∧ s.img.wBulk = 1 ∧
      (s.port 0).nextSrc (if (s.port 0).turn1 < s.img.wColl then 1 else 2) = some 64) := by
  unfold State.vcReady
  refine ⟨by decide +kernel, by decide +kernel, by decide +kernel, by decide +kernel, fun a b h => ⟨{ (tSend [1, 2]).setPort 0
    { (tSend [1, 2]).port 0 with turn1 := a } with img := { tImg with wColl := b, wBulk := 1 } }, ?_⟩⟩
  rcases h with ⟨rfl | rfl, rfl⟩ | ⟨rfl, rfl⟩ <;> decide +kernel

/-- A flit of stand 0 from device link 0 to compute die 0, of one word. -/
def tDieFlit : DieFlit := ⟨0, 30, 0, 0, [tWord (tLe 16 5)]⟩

theorem wit_Flits_die : (∀ d p, d = 26 ∧ p = 11 ∨ d = 0 ∧ p = 8 → tOn.dieLinkOn d p = true ∧
      nextFlit (tOn.dieLink d p).turn ([tDieFlit].filter (tOn.onPath d p)) = some tDieFlit ∧
      nextFlit (tOn.dieLink d p).turn (([] : List DieFlit).filter (tOn.onPath d p)) = none) ∧
    tDieFlit.dst = 0 ∧ (tOn.diePath 30 0 0).bind (afterDie 26) = some 0 ∧ (readWord (tWord (tLe 16 5))).isSome = true ∧
    readWord [] = none := by
  refine ⟨fun d p h => ?_, by decide +kernel⟩
  rcases h with ⟨rfl, rfl⟩ | ⟨rfl, rfl⟩ <;> decide +kernel

/-- The module whose port 0 is set as given, before or after its stands are ready. -/
def tPortCfg (g : PortCfg) (sr : Bool) (x : PortSt) : State :=
  ({ tOn with img := { tImg with ports := [(0, g)] }, boot := { tOn.boot with standsReady := sr } } : State).setPort 0 x

/-- Settings that ask for device 2, port 3. -/
def tChecked : PortCfg := { PortCfg.unused with enabled := true, iface := 2, checkPeer := true, peerDevice := 2, peerPort := 3 }

/-- Port 0 in bond 0, with a repeat to send or none. -/
def tBond (locked : Bool) (again : List RetryFlit) : State :=
  ({ tOn with img := { tImg with ports := [(0, { PortCfg.unused with enabled := true })], bonds := [(0, ⟨1, 0⟩)] },
              fabric := { Fabric.reset with bonds := [(0, { BondSt.reset with locked := locked, resend := again })] } } : State).setPort 0
    { tUp with credits := [(0, 1)] }

theorem wit_Flits_bond : (tBond true [tRetry 3 1]).bondOf 0 = some 0 ∧ ((tBond true [tRetry 3 1]).bond 0).locked = true ∧
    ((tBond true [tRetry 3 1]).bond 0).resend = [tRetry 3 1] ∧ (tRetry 3 1).vc = some 0 ∧
    0 < ((tBond true [tRetry 3 1]).port 0).credits.get 0 0 := by decide +kernel

theorem wit_PortTraining_down :
    ((tPort PortSt.reset).boot.imageVerified = true ∧ 0 < tOn.variant.ports ∧ ((tPort PortSt.reset).portCfg 0).enabled = true ∧
      ((tPort PortSt.reset).port 0).mode = .down ∧ ((tPort PortSt.reset).port 0).started = false) ∧
    ((tPort { PortSt.reset with started := true }).clock.now.toNat < (0 : W64).toNat + 100000000 ∧
      (0 : W64).toNat + 100000000 ≤ (tPortAt 100000000 { PortSt.reset with started := true }).clock.now.toNat) ∧
    (4 ≤ (((tPort { PortSt.reset with mode := .training }).portCfg 0).lanes.filter (fun n => bit 15 n)).length ∧
      (((tPort { PortSt.reset with mode := .training }).portCfg 0).lanes.filter (fun n => bit 7 n)).length < 4 ∧
      ((tPort { PortSt.reset with mode := .training }).port 0).mode = .training ∧
      ((tPort { PortSt.reset with mode := .training }).port 0).trained = false ∧
      ((tPort { tUp with mode := .retrain, retry := [tRetry 0 8], readySent := true, readyRecv := true }).port 0).mode = .retrain) ∧
    (((tPort tUp).port 0).mode ≠ .down ∧ ((tPort tUp).port 0).mode ≠ .miscabled ∧ ((tPort tUp).port 0).owners = []) ∧
    ((499999999 : W64).toNat < (0 : W64).toNat + 500000000 ∧ (0 : W64).toNat + 500000000 ≤ (500000000 : W64).toNat) := by
  decide +kernel

theorem wit_PortTraining_up :
    (∀ sr, ((tPortCfg tChecked sr { PortSt.reset with mode := .training, trained := true }).port 0).mode = .training ∧
      ((tPortCfg tChecked sr { PortSt.reset with mode := .training, trained := true }).port 0).trained = true ∧
      ((tPortCfg tChecked sr { PortSt.reset with mode := .training, trained := true }).portCfg 0).checkPeer = true ∧
      ((tPortCfg tChecked sr { PortSt.reset with mode := .training, trained := true }).portCfg 0).peerPort = 3 ∧
      (tPortCfg tChecked sr { PortSt.reset with mode := .training, trained := true }).boot.standsReady = sr ∧
      ((tPortCfg tChecked sr { PortSt.reset with mode := .training, trained := true }).port 0).readySent = false) ∧
    (∀ b, ((tPort { PortSt.reset with mode := .quiet, readySent := b }).port 0).mode = .quiet ∧
      ((tPort { PortSt.reset with mode := .quiet, readySent := b }).port 0).readySent = b) ∧
    (∀ n, n = 0 ∨ n = 2 → ((tPortAt 1000000 { PortSt.reset with mode := .ramp, rampStep := n }).port 0).mode = .ramp ∧
      ((tPortAt 1000000 { PortSt.reset with mode := .ramp, rampStep := n }).port 0).rampStep = n ∧
      (0 : W64).toNat + 1000000 ≤ (tPortAt 1000000 { PortSt.reset with mode := .ramp, rampStep := n }).clock.now.toNat ∧
      (tPort { PortSt.reset with mode := .ramp, rampStep := n }).clock.now.toNat < (0 : W64).toNat + 1000000) ∧
    (∀ b, (tBond b []).alive = true ∧ ((tBond b []).bondCfg 0).ports ≠ 0 ∧ (tBond b []).bondUp 0 = [0] ∧
      ((tBond b []).bond 0).locked = b) ∧
    (∀ l : Nat × Nat, l ∈ [(0, 7)] → 7 ≤ l.2 ∧ l.2 ≤ 7) ∧ [(0, 7)].filter (fun l => [0].contains l.1) = [(0, 7)] := by
  refine ⟨by decide +kernel, by decide +kernel, fun n h => ?_, by decide +kernel, by decide +kernel, by decide⟩
  rcases h with h | h <;> subst h <;> decide +kernel

theorem wit_LaneFailures :
    (∀ f, f = 0 ∨ f = 0x0f ∨ f = 0x1f →
      (tPortCfg tChecked true { tUp with failed := f }).alive = true ∧ ((tPortCfg tChecked true { tUp with failed := f }).port 0).up = true ∧
      ((tPortCfg tChecked true { tUp with failed := f }).port 0).owners = [] ∧
      (4 ≤ ((((tPortCfg tChecked true { tUp with failed := f }).port 0).failLane
        (((tPortCfg tChecked true { tUp with failed := f }).port 0).rxLane tChecked 7)).healthy tChecked).length ↔ f ≠ 0x1f) ∧
      ((tPortCfg tChecked true { tUp with failed := f }).port 0).spareIdle tChecked = true) ∧
    ((tPort tUp).port 0).spareIdle ((tPort tUp).portCfg 0) = false ∧ 4 ≤ (((tPort tUp).port 0).healthy ((tPort tUp).portCfg 0)).length ∧
    (((tPortCfg tChecked true tUp).portCfg 0).iface = 2 ∧ ((tPortCfg tChecked true tUp).port 0).spareFor = none ∧
      ((tPortCfg tChecked true tUp).port 0).degraded = false ∧ ((tPortCfg tChecked true tUp).port 0).rxSpareFor = none ∧
      ((tPort tUp).portCfg 0).iface ≠ 2) ∧
    (∀ n, n < 3 → (tOn.setDieLink 0 0 { DieLink.reset with failedLanes := List.range n }).dieLinkOn 0 0 = true ∧
      ((tOn.setDieLink 0 0 { DieLink.reset with failedLanes := List.range n }).dieLink 0 0).failedLanes.length = n ∧
      33 ∉ ((tOn.setDieLink 0 0 { DieLink.reset with failedLanes := List.range n }).dieLink 0 0).failedLanes ∧
      computeEnd 0 0 = some 0) := by
  refine ⟨fun f h => ?_, by decide +kernel, by decide +kernel, by decide +kernel, by decide +kernel⟩
  rcases h with h | h | h <;> subst h <;> decide +kernel

/-- A check of the first tile of a product's one element, with what a fault left in it. -/
def tTile (ds : List Deviation) : TileCheck := ⟨0, 0, 0, 0, 0, 1, ds⟩

/-- The product of one element, at work. -/
def tMatRun : Cmd := { tMat 1 with stage := .running }

/-- A deviation of the column sums, and one outside every sum. -/
def tSums : List Deviation := [⟨129, 0, 5⟩]
def tOutside : List Deviation := [⟨300, 0, 5⟩]

/-- The product with a tile that awaits its recompute. -/
def tSuspect : State := { tFlight tMatRun with integ := { Integ.reset with tiles := [⟨0, 5, 0, tTile tSums⟩] } }

theorem wit_IntegrityChecks_tiles : (tFlight tMatRun).matRunning 0 5 0 = some (tMatRun, 0) ∧
    (matArgs tMatRun.bytes).tileOk (tFlight tMatRun).img.checkInterval (tMatRun.single 0) (tTile tSums) = true ∧
    tMatRun.tileMismatch (matArgs tMatRun.bytes) ((tFlight tMatRun).core 0).spad (tFlight tMatRun).img.thrProfile (tTile tSums) tSums = true ∧
    (matArgs tMatRun.bytes).tileOk (tFlight tMatRun).img.checkInterval (tMatRun.single 0) (tTile tOutside) = true ∧
    (matArgs tMatRun.bytes).tileOk (tFlight tMatRun).img.checkInterval (tMatRun.single 0) ⟨0, 0, 0, 0, 0, 2, tSums⟩ = false ∧
    tOn.matRunning 0 5 0 = none ∧
    tMatRun.tileMismatch (matArgs tMatRun.bytes) ((tFlight tMatRun).core 0).spad (tFlight tMatRun).img.thrProfile (tTile tOutside)
      tOutside = false := by decide +kernel

theorem wit_IntegrityChecks_recompute :
    tSuspect.integ.tiles.find? (fun f => decide (f.stand = 0) && decide (f.ticket = 5)) = some ⟨0, 5, 0, tTile tSums⟩ ∧
    tSuspect.matRunning 0 5 0 = some (tMatRun, 0) ∧
    devsDiffer (tMatRun.realDevs (matArgs tMatRun.bytes) (tSuspect.core 0).spad (tTile tSums) tSums)
      (tMatRun.realDevs (matArgs tMatRun.bytes) (tSuspect.core 0).spad (tTile tSums) tSums) = [] ∧
    devsDiffer (tMatRun.realDevs (matArgs tMatRun.bytes) (tSuspect.core 0).spad (tTile tSums) tSums)
      (tMatRun.realDevs (matArgs tMatRun.bytes) (tSuspect.core 0).spad (tTile tSums) []) ≠ [] := by decide +kernel

/-- An array whose two newest faults lie in column 7, on a running Warden. -/
def tColumn : State :=
  ({ tOn with warden := { tOn.warden with running := true } } : State).setArray 0 { ArraySt.reset with faults := [(0, some 7), (0, some 7)] }

/-- Core 1 of cluster 0 out for cruise: its number still its own, its run begun; or with the spare, its run over. -/
def tOut (handed : Bool) : State :=
  { (tOn.setCore 1 { CoreSt.reset 1 with cruise := true, logical := if handed then none else some 1 }).setCore 4
      { CoreSt.reset 4 with logical := if handed then some 1 else none } with
    integ := { Integ.reset with cruise := if handed then none else some ⟨0, 1⟩ } }

/-- The same with a tile of the cluster that awaits its recompute. -/
def tOutBusy (handed : Bool) : State :=
  { tOut handed with integ := { (tOut handed).integ with tiles := [⟨0, 5, 0, tTile tSums⟩] } }

/-- A tap of the running product's one tile, its tile `next` due, on core 0. -/
def tTapCmd : Cmd :=
  { tCmd 0x09 .running (tLe 1 0 ++ tLe 1 1 ++ tLe 1 1 ++ tLe 1 0 ++ tLe 4 1 ++ tLe 4 128 ++ tLe 24 0 ++ tLe 2 16) with ticket := 6 }

def tTap (next : Nat) : Tap :=
  { stand := 0, ticket := 6, slotNo := 0, next := next, window := [], seen := [], rows := List.replicate 1 (0, 0) }

def tTapped (next : Nat) : State :=
  (tStand { StandSt.reset with inflight := [tMatRun, tTapCmd] }).setCore 0 { CoreSt.reset 0 with taps := [tTap next] }

/-- The command of an opcode that selects core 0 of cluster 0, or update group 0. -/
def tVecRow (op : Nat) : Cmd := if op = 0x20 then tSkid 0x20 else if op = 0x08 then tVec else tRow 2

theorem wit_IntegrityChecks_units :
    (∀ op u, (op = 0x08 ∧ u = LaneUnit.vector 0) ∨ (op = 0x09 ∧ u = .batten 0) ∨ (op = 0x20 ∧ u = .landing 0 0) →
      ((tLand (tVecRow op)).stand 0).cmd 5 = some (tVecRow op) ∧ (tLand (tVecRow op)).laneAt u 0 (tVecRow op) = true ∧
      (tLand (tVecRow op)).laneAt (.vector 7) 0 (tVecRow op) = false) ∧
    (tColumn.alive = true ∧ tColumn.warden.running = true ∧ tColumn.warden.halted = false ∧ tColumn.remapColumn 0 = some 7 ∧
      tColumn.coreIdle 0 = true) ∧
    ((tOut false).alive = true ∧ (tOut false).awaitsSpare 0 1 = some 1 ∧ ((tOut false).core 4).logical = none ∧
      ((tOut false).core 4).retired = false ∧ (tOut false).coreBetween 1 = true) ∧
    (((tOut true).core 1).cruise = true ∧ (tOut true).integ.cruise = none ∧ (tOut true).coreBetween 4 = true ∧
      ((tOut true).core 4).logical = some 1 ∧ ((tOut true).core 0).cruise = false) ∧
    ((tOutBusy false).awaitsSpare 0 1 = some 1 ∧ (tOutBusy false).coreBetween 1 = false ∧
      ((tOutBusy true).core 1).cruise = true ∧ (tOutBusy true).integ.cruise = none ∧ (tOutBusy true).coreBetween 4 = false) := by
  refine ⟨fun op u h => ?_, by decide +kernel, by decide +kernel, by decide +kernel, by decide +kernel⟩
  rcases h with ⟨h, e⟩ | ⟨h, e⟩ | ⟨h, e⟩ <;> subst h <;> subst e <;> decide +kernel

theorem wit_IntegrityChecks_tap : ∀ next, next = 0 ∨ next = 1 → (tTapped next).alive = true ∧
    ((tTapped next).stand 0).cmd 6 = some tTapCmd ∧ (tTapped next).laneAt (.tap 0) 0 tTapCmd = true ∧
    ((tTapped next).core 0).taps.find? (fun t => decide (t.stand = 0) && decide (t.ticket = 6)) = some (tTap next) ∧
    ((tTapped next).core 0).logical = some 0 ∧ 1 < (rowArgs tTapCmd.bytes).tiles ∧ (tTapped next).issueStopped 0 tTapCmd = false ∧
    (((tTapped next).stand 0).writerOf (tTap next) (rowArgs tTapCmd.bytes) 0 0).map (fun x => x.1) = some tMatRun ∧
    (tTapped next).integ.tiles = [] ∧ ((tTapped next).core 0).taps = [tTap next] ∧ (next = 1 → 0 < (tTap next).next) ∧
    (rowArgs tTapCmd.bytes).tiles ≤ 360 ∧
    ((tTapped next).core 1).taps.find? (fun t => decide (t.stand = 0) && decide (t.ticket = 6)) = none := by
  rintro next (h | h) <;> subst h <;> decide +kernel

/-- A product of 1 row and 24 columns, two tiles of which a tap of 24 columns takes in either order. -/
def tWide : Cmd :=
  tCmd 1 .running (tLe 1 0 ++ tLe 1 1 ++ tLe 2 0 ++ tLe 4 1 ++ tLe 4 128 ++ tLe 4 1 ++ tLe 12 0 ++ tLe 2 0 ++ tLe 2 8 ++ tLe 2 16)

theorem wit_IntegrityChecks_tapAhead : ((tStand { StandSt.reset with inflight := [tWide, tTapCmd] }).stand 0).writerOf (tTap 0)
      (rowArgs tTapCmd.bytes) 0 1 = some (tWide, 1) ∧ (tTap 0).next < 1 ∧ 1 < (tTap 0).next + 16 ∧
    (∀ p ∈ (tTap 0).window, p.1 ≠ 1 ∧ p.1 ≠ (tTap 0).next) ∧
    (∃ f ∈ [(⟨0, 5, 0, tTile tSums⟩ : TileFault)], f.stand = 0 ∧ f.ticket = tWide.ticket) := by decide +kernel

/-- The module 6 h and one second into its life, its library there. -/
def tOld : State :=
  { tOn with clock := { ClockSt.reset with now := 21601000000000 }, warden := { tOn.warden with libraryOk := true } }

/-- Landing die 0 with engine 0 out for its scan test. -/
def tScan : State := tOn.setLand 0 { LandDie.reset with cruise := [0] }

/-- The same with core 0 in service, and with a run of the spare at cluster 0 whose core `d` a decision holds. -/
def tRun (d : List (Nat × Nat)) : State :=
  { tOld.setCore 0 { CoreSt.reset 0 with serving := true } with integ := { Integ.reset with cruise := some ⟨0, 4⟩, decided := d } }

theorem wit_CruiseRuns :
    (tOld.alive = true ∧ tOld.warden.libraryOk = true ∧ 71 < 72 ∧ tOld.dieInService (68 / 4) = false ∧ tOld.dieInService 0 = true ∧
      tOld.integ.cruise = none ∧ tOld.spareFree 0 = true ∧ (tOld.core 4).logical = none ∧ tOld.cruiseWaits 0 = false ∧
      tOn.warden.libraryOk = false) ∧
    ((tRun []).alive = true ∧ (tRun []).integ.cruise = some ⟨0, 4⟩ ∧ (tRun []).cruiseRuns ⟨0, 4⟩ = true ∧
      ((tRun []).core 4).retired = false ∧ (tRun []).cruiseRuns ⟨0, 0⟩ = false ∧ (∃ d ∈ (tRun [(4, 2)]).integ.decided, d.1 = 4)) ∧
    ((tRun []).dieInService (0 / 20) = true ∧ ((tRun []).core 0).serving = true ∧ ((tRun []).core 0).retired = false ∧
      ((tRun []).core 0).overdueAt ≤ (tRun []).opsec.toNat ∧ ((tRun []).core 0).overdue = 0 ∧ (tOld.core 0).serving = false) ∧
    (7 < tOn.variant.landDies ∧ (tOld.land 7).cruise = [] ∧ 15 ∉ (tOld.land 7).retired ∧ 0 ∈ (tScan.land 0).cruise ∧
      1 ∉ (tScan.land 0).cruise) := by decide +kernel

/-- Core 0's scratchpad with a difference in the check symbols of its word 0, its macro's rows as given. -/
def tSram (d : Byte × Byte) (rows : SramRows) : State := (tOn.setSpad 0 (Mem.empty.setDiff 0 d)).setSramRows (0, 256) rows

/-- HBM with a difference in its word 0. -/
def tWordOff (d : Byte × Byte) : State := tOn.setHbm (Mem.empty.setDiff 0 d)

theorem wit_MemoryMaintenance_sram :
    (131071 < (SramStore.scratchpad 0).words ∧ ((SramStore.scratchpad 359).place 0).1 < 72 ∧
      (tOn.sram (.scratchpad 0)).check 0 = .clean) ∧
    ((∃ i v, ((tSram (chkOfByte 0 1) SramRows.reset).sram (.scratchpad 0)).check 0 = .corrected i v) ∧
      ((tSram (chkOfByte 0 1) SramRows.reset).sramRows (0, 256)).scrubbed = [] ∧
      ((tSram (chkOfByte 0 1) { SramRows.reset with scrubbed := [0] }).sramRows (0, 256)).scrubbed = [0]) ∧
    (((tSram poisonDiff SramRows.reset).sram (.scratchpad 0)).check 0 = .uncorrectable ∧
      ((tSram poisonDiff SramRows.reset).sramRows (0, 256)).spared = [] ∧
      ((tSram poisonDiff { SramRows.reset with spared := [1, 2, 3, 4] }).sramRows (0, 256)).spared = [1, 2, 3, 4] ∧
      tOn.warden.halted = false) :=
  ⟨by decide +kernel, ⟨⟨2, 1, by decide +kernel⟩, by decide +kernel⟩, by decide +kernel⟩

/-- HBM whose word 0 was read and found to need correction, the word written back then as given. -/
def tFound (data : List Byte) : State :=
  (tWordOff (chkOfByte 0 1)).setMem { (tWordOff (chkOfByte 0 1)).mem with
    faults := [(0, some 2)], writeBacks := [⟨0, data, chkOfByte 0 1⟩] }

theorem wit_MemoryMaintenance_scrub :
    (tOn.boot.hbmTrained = true ∧ inSpans tOn.mem.scrubbed (2 ^ 28 * 7 + (2 ^ 28 - 1)) = false ∧ tOn.mem.faults = [] ∧
      tOn.mem.writeBacks = [] ∧ (∀ i, i < 32 → tOn.hbm.check (hbmKey 7 (512 * (2 ^ 28 - 1)) / 16 + i) = .clean) ∧
      spanCount (addSpan tOn.mem.scrubbed (2 ^ 28 * 7 + (2 ^ 28 - 1))) < scrubBlocks tOn.variant) ∧
    (inSpans [(0, 2 ^ 31)] (2 ^ 31 - 1) = true ∧ inSpans [(0, 2 ^ 31 - 1)] (2 ^ 31 - 1) = false ∧
      scrubBlocks tOn.variant ≤ spanCount (addSpan [(0, 2 ^ 31 - 1)] (2 ^ 31 - 1))) ∧
    ((tWordOff (chkOfByte 0 1)).hbm.check (hbmKey 0 0 / 16 + 0) = .corrected 2 1 ∧ (tWordOff (chkOfByte 0 1)).mem.faults = [] ∧
      (∀ k, k < 32 → k ≠ 0 → (tWordOff (chkOfByte 0 1)).hbm.check (hbmKey 0 0 / 16 + k) = .clean)) ∧
    (∀ d, d = List.replicate 16 0 ∨ d = List.replicate 16 1 → (tFound d).hbm.check 0 = .corrected 2 1 ∧
      (tFound d).mem.faults = [(0, some 2)] ∧ (tFound d).mem.writeBacks = [⟨0, d, chkOfByte 0 1⟩] ∧
      0 ∉ ((tFound d).stack (keyStack 0)).scrubbed ∧ (∀ k, k < 32 → (tFound d).hbm.check (hbmKey 0 (512 * 1) / 16 + k) = .clean) ∧
      (tFound d).hbm.diffAt 0 = chkOfByte 0 1 ∧ (tFound d).hbm.isPoison 0 = false ∧
      (d = (tFound d).hbm.rawWord 0 ↔ d = List.replicate 16 0)) := by
  refine ⟨by decide +kernel, by decide +kernel, by decide +kernel, fun d h => ?_⟩
  rcases h with h | h <;> subst h <;> decide +kernel

/-- Landing die 0 whose gate 0 is enabled, its buckets filled as given, with a request of a product of stand 0 that waits. -/
def tGate (rate floor : Nat) : State :=
  let s := ({ tOn with img := { tImg with gates := [(0, { GateCfg.unused with enabled := true, rate := 4, floor := 4 })] } } : State).setGate 0 0
    { (tOn.gate 0 0) with rate := rate, floor := floor }
  s.setLand 0 { s.land 0 with waiting := [⟨.command 0, 64⟩] }

theorem wit_MemoryMaintenance_flume :
    (∃ s : State, s.alive = true ∧ 31 < s.variant.stacks ∧ (s.stack 31).moves = [(3, 0, 0)] ∧ 0 + 1 < moveSize 3 ∧
      moveSize 3 ≤ 0 + moveSize 3 ∧ s.hbm.diff = [] ∧ (s.stack 30).moves = []) ∧
    (tOn.flumePick 0 (tOn.land 0).waiting = none ∧ ((tGate 0 0).gateCfg 0 0).enabled = true ∧
      (tGate 0 256).flumePick 0 ((tGate 0 256).land 0).waiting = some (⟨.command 0, 64⟩, 0) ∧
      (tGate 256 0).flumePick 0 ((tGate 256 0).land 0).waiting = some (⟨.command 0, 64⟩, 1) ∧
      (tGate 0 0).flumePick 0 ((tGate 0 0).land 0).waiting = some (⟨.command 0, 64⟩, 2)) ∧
    (slotOpen 0 3 = true ∧ slotOpen 1 3 = false ∧ slotOpen 1 2 = true ∧ slotOpen 2 1 = false ∧ slotOpen 3 2 = false ∧
      slotOpen 3 4 = true ∧ (tGate 0 0).pending = [] ∧ ((tGate 0 0).img.gates.map Prod.fst).Nodup) ∧
    ((tCopy.wantStage 0 0).contains 0 = true ∧ (tCopy.land 0).staged.length < 4096) ∧ (tOn.wantStage 0 0).contains 0 = false :=
  ⟨⟨tOn.setStack 31 { StackSt.reset with moves := [(3, 0, 0)] }, by decide +kernel⟩, by decide +kernel⟩
/-! An image that verifies, for the witnesses of start-up. -/

/-- A signature trailer of two certificates (spec/15 Table 15-2), and what a chain to the root of the module says of a purpose. -/
def tTrailer : List Byte := tLe 4 0x52545a57 ++ tLe 2 1 ++ tLe 2 2 ++ tLe 56 0
def tSig (use : KeyPurpose) : SigRead :=
  ⟨true, [⟨true, true, [], some use, none⟩, ⟨true, false, List.replicate 64 0, none, none⟩]⟩

/-- An image of a JW32-F that puts nothing in use, at the start of slot A: the five tables, a FABRIC section and a SAFETY section
(spec/14 Tables 14-3 to 14-6). -/
def tFlash : Flash :=
  let dir := fun t off n c => tLe 2 t ++ tLe 2 0 ++ tLe 4 off ++ tLe 4 n ++ tLe 4 c
  let header := tLe 4 0x49584249 ++ tLe 2 1 ++ tLe 2 6 ++ tLe 4 65536 ++ tLe 4 1 ++ tLe 8 0 ++ tLe 2 0x0320 ++ tLe 6 0 ++ sha512 []
  let entries := dir 1 256 4096 64 ++ dir 2 4352 16 1 ++ dir 3 4416 16384 2048 ++ dir 4 20800 4224 528 ++ dir 8 25024 336 42 ++
    dir 10 25408 64 1
  let safety := tLe 2 1 ++ tLe 6 0 ++ tLe 2 100 ++ tLe 2 10 ++ tLe 2 1 ++ tLe 2 0 ++ tLe 8 (2 ^ 16 + 1) ++ tLe 4 1000
  (((((Flash.reset.write (imgBase 0) header).write (imgBase 0 + 128) entries).write (imgBase 0 + 25024 + 4) (tLe 2 1)).write
    (imgBase 0 + 25024 + 8) [0x3e]).write (imgBase 0 + 25408) safety).write (imgBase 0 + 65536) tTrailer

/-- Its FABRIC and SAFETY sections. -/
def tFabric : List (List Byte) := entriesOf 8 42 (tFlash.read (imgBase 0 + 25024) 336)
def tSafety : List (List Byte) := entriesOf 64 1 (tFlash.read (imgBase 0 + 25408) 64)

/-- Its sections: the tables hold zeros. -/
def tSections : Sections :=
  [(1, List.replicate 64 (List.replicate 64 0)), (2, List.replicate 1 (List.replicate 16 0)),
    (3, List.replicate 2048 (List.replicate 8 0)), (4, List.replicate 528 (List.replicate 8 0)), (8, tFabric), (10, tSafety)]

theorem readRun_zero (c : Cells) : ∀ (n a : Nat), (∀ p, c.head? = some p → a + n ≤ p.1) → readRun n a c = List.replicate n 0 := by
  intro n
  induction n with
  | zero => intro a _; rfl
  | succ n ih =>
    intro a h
    match c with
    | [] => simp only [readRun, ih (a + 1) (by simp), List.replicate_succ]
    | (i, v) :: t =>
      have hi : a + (n + 1) ≤ i := h (i, v) rfl
      have hn : ¬ i = a := by omega
      simp only [readRun, hn, if_false, List.replicate_succ]
      rw [ih (a + 1) (fun p hp => by have := h p hp; omega)]

theorem entriesOf_zero (size : Nat) : ∀ n, entriesOf size n (List.replicate (n * size) 0) = List.replicate n (List.replicate size 0) := by
  intro n
  induction n with
  | zero => rfl
  | succ n ih =>
    have e : (n + 1) * size - size = n * size := by rw [Nat.add_mul, Nat.one_mul, Nat.add_sub_cancel]
    have m : min size ((n + 1) * size) = size := by rw [Nat.add_mul, Nat.one_mul]; omega
    simp only [entriesOf, List.take_replicate, List.drop_replicate, e, m, ih, List.replicate_succ]

theorem tFlash_zero (a n : Nat) (h : ((tFlash.cells.dropWhile (fun p => decide (p.1 < a))).head?.all (fun p => decide (a + n ≤ p.1))) = true) :
    tFlash.read a n = List.replicate n 0 :=
  readRun_zero _ n a (fun p hp => by rw [hp] at h; exact of_decide_eq_true h)

theorem tFlash_directory : tFlash.directory (imgBase 0) =
    [⟨1, 0, 256, 4096, 64⟩, ⟨2, 0, 4352, 16, 1⟩, ⟨3, 0, 4416, 16384, 2048⟩, ⟨4, 0, 20800, 4224, 528⟩, ⟨8, 0, 25024, 336, 42⟩,
      ⟨10, 0, 25408, 64, 1⟩] := by decide +kernel

theorem tFlash_sections : tFlash.sections .f (imgBase 0) = tSections := by
  have h1 := tFlash_zero (imgBase 0 + 256) 4096 (by decide +kernel)
  have h2 := tFlash_zero (imgBase 0 + 4352) 16 (by decide +kernel)
  have h3 := tFlash_zero (imgBase 0 + 4416) 16384 (by decide +kernel)
  have h4 := tFlash_zero (imgBase 0 + 20800) 4224 (by decide +kernel)
  have e1 := entriesOf_zero 64 64
  have e2 := entriesOf_zero 16 1
  have e3 := entriesOf_zero 8 2048
  have e4 := entriesOf_zero 8 528
  unfold Flash.sections
  rw [tFlash_directory]
  simp only [List.foldl_cons, List.foldl_nil, h1, h2, h3, h4]
  show Tab.set (Tab.set (Tab.set (Tab.set (Tab.set (Tab.set [] 1 (entriesOf 64 64 (List.replicate 4096 0))) 2
    (entriesOf 16 1 (List.replicate 16 0))) 3 (entriesOf 8 2048 (List.replicate 16384 0))) 4
    (entriesOf 8 528 (List.replicate 4224 0))) 8 tFabric) 10 tSafety = tSections
  rw [show (4096 : Nat) = 64 * 64 from rfl, e1, show (16 : Nat) = 1 * 16 from rfl, show (16384 : Nat) = 2048 * 8 from rfl, e3,
    show (4224 : Nat) = 528 * 8 from rfl, e4]
  rfl

theorem firstEntry_none (t n : Nat) (bad : Nat → Bool) (h : ∀ k, k < n → bad k = false) : firstEntry t n bad = none := by
  have e : (List.range n).find? bad = none := List.find?_eq_none.mpr (fun k hk => by rw [h k (List.mem_range.mp hk)]; decide)
  simp [firstEntry, e]

/-- An entry of a table that holds zeros. -/
theorem tSections_zero (t n size : Nat) (h : tSections.of t = List.replicate n (List.replicate size 0)) (k : Nat) (hk : k < n) :
    tSections.entry t k = List.replicate size 0 := by
  unfold Sections.entry
  rw [h, List.getElem?_replicate, if_pos hk]
  rfl

theorem tStand_zero (k : Nat) (hk : k < 64) : tSections.entry 1 k = List.replicate 64 0 := tSections_zero 1 64 64 rfl k hk
theorem tSreg_zero (k : Nat) (hk : k < 2048) : tSections.entry 3 k = List.replicate 8 0 := tSections_zero 3 2048 8 rfl k hk
theorem tGate_zero (k : Nat) (hk : k < 528) : tSections.entry 4 k = List.replicate 8 0 := tSections_zero 4 528 8 rfl k hk

theorem tSections_lengths : (tSections.of 1).length = 64 ∧ (tSections.of 2).length = 1 ∧ (tSections.of 3).length = 2048 ∧
    (tSections.of 4).length = 528 ∧ (tSections.of 5).length = 0 ∧ (tSections.of 6).length = 0 ∧ (tSections.of 7).length = 0 ∧
    (tSections.of 8).length = 42 ∧ (tSections.of 9).length = 0 ∧ (tSections.of 10).length = 1 ∧ (tSections.of 11).length = 0 :=
  ⟨List.length_replicate, rfl, List.length_replicate, List.length_replicate, rfl, rfl, rfl, by decide +kernel, rfl, by decide +kernel,
    rfl⟩

theorem tSections_fields : fieldFail .f (tFlash.read (imgBase 0) 128) (tFlash.directory (imgBase 0)) tSections = none := by
  obtain ⟨l1, l2, l3, l4, l5, l6, l7, l8, l9, l10, l11⟩ := tSections_lengths
  have f1 : firstEntry 1 64 (standField tSections) = none := firstEntry_none _ _ _ (fun k hk => by
    have e : tSections.standCfg k = standCfgOf (List.replicate 64 0) none := by unfold Sections.standCfg; rw [tStand_zero k hk]; rfl
    unfold standField
    rw [tStand_zero k hk, e]
    decide +kernel)
  have f3 : firstEntry 3 2048 (sregField tSections) = none := firstEntry_none _ _ _ (fun k hk => by
    unfold sregField; rw [tSreg_zero k hk]; decide +kernel)
  have f4 : firstEntry 4 528 (gateField tSections) = none := firstEntry_none _ _ _ (fun k hk => by
    unfold gateField Sections.gate; rw [tGate_zero k hk]; decide +kernel)
  have f2 : firstEntry 2 1 (regionField .f tSections) = none := by decide +kernel
  have f8 : firstEntry 8 42 (fabricField .f tSections) = none := by decide +kernel
  have f10 : firstEntry 10 1 (fun _ => safetyField .f tSections) = none := by decide +kernel
  have z : (!isZeroRange (tFlash.read (imgBase 0) 128) 28 4 || !isZeroRange (tFlash.read (imgBase 0) 128) 96 32 ||
      (tFlash.directory (imgBase 0)).any (fun e => decide (e.resv ≠ 0))) = false := by rw [tFlash_directory]; decide +kernel
  unfold fieldFail
  rw [z]
  simp only [l1, l2, l3, l4, l5, l6, l7, l8, l9, l10, l11, f1, f2, f3, f4, f8, f10]
  rfl

theorem tSections_rules : ruleFail .f tSections = none := by
  obtain ⟨l1, l2, l3, l4, l5, l6, l7, l8, l9, l10, -⟩ := tSections_lengths
  have f1 : firstEntry 1 64 (standRule .f tSections) = none := firstEntry_none _ _ _ (fun k hk => by
    have e : tSections.standCfg k = standCfgOf (List.replicate 64 0) none := by unfold Sections.standCfg; rw [tStand_zero k hk]; rfl
    have d : (standCfgOf (List.replicate 64 0) none).enabled = false := by decide +kernel
    unfold standRule
    simp only [e, d, tStand_zero k hk]
    rw [if_pos (by decide)]
    decide +kernel)
  have f3 : firstEntry 3 2048 (sregRule tSections) = none := firstEntry_none _ _ _ (fun k hk => by
    have d : (sregOf (List.replicate 8 0)).valid = false := by decide +kernel
    unfold sregRule Sections.sreg
    simp only [tSreg_zero k hk, d, Bool.false_and])
  have f4 : firstEntry 4 528 (gateRule tSections) = none := firstEntry_none _ _ _ (fun k hk => by
    have g : ∀ j, j < 528 → (tSections.gate j).floor = 0 := fun j hj => by
      unfold Sections.gate; rw [tGate_zero j hj]; decide +kernel
    have s : ((List.range (k % 66 + 1)).map (fun j => (tSections.gate (k - k % 66 + j)).floor)).sum = 0 :=
      List.sum_eq_zero (fun x hx => by
        obtain ⟨j, hj, rfl⟩ := List.mem_map.mp hx
        have := List.mem_range.mp hj
        exact g _ (by omega))
    unfold gateRule
    rw [s]
    decide)
  have f2 : firstEntry 2 1 (regionRule .f tSections) = none := by decide +kernel
  have f8 : firstEntry 8 42 (fabricRule .f tSections) = none := by decide +kernel
  have f10 : firstEntry 10 1 (fun _ => decide (1 < bits tSections.scalerCfg 15 8)) = none := by decide +kernel
  unfold ruleFail
  simp only [l1, l2, l3, l4, l5, l6, l7, l8, l9, l10, f1, f2, f3, f4, f8, f10]
  rfl

theorem tFlash_verifies : (tFlash.verifyImage .f 0 true true).1 = 0 := by
  have m : tFlash.magic (imgBase 0) = 0x49584249 := by decide +kernel
  have f : tFlash.format (imgBase 0) = 1 := by decide +kernel
  have n : tFlash.length (imgBase 0) = 65536 := by decide +kernel
  have v : fld (tFlash.read (imgBase 0) 128) 24 2 = 0x0320 := by decide +kernel
  have h : ((tFlash.read (imgBase 0) 128).drop 32).take 64 = sha512 tFlash.variantRec := by decide +kernel
  have s : fld (tFlash.read (imgBase 0) 128) 16 8 = 0 := by decide +kernel
  have d : directoryBad .f 65536 (tFlash.directory (imgBase 0)) = false := by rw [tFlash_directory]; decide +kernel
  unfold Flash.verifyImage
  simp [m, f, n, v, h, s, d, tFlash_sections, tSections_fields, tSections_rules]

/-- A rung in progress on stand 0, begun at 0 ns. -/
def tRung (n : Nat) : Rung := ⟨n, 0, .host, if n = 3 then none else some (.vector 0), [5], 0, n = 3⟩

/-- Stand 0 with that rung in progress, one sample taken, at `now` ns. -/
def tRungs (n : Nat) (now : W64) : State :=
  { tStand { StandSt.reset with rst := { RstStand.reset with active := [tRung n] } } with
    clock := { ClockSt.reset with now := now }, rst := { RstMod.reset with samples := [⟨0, 3, 0, 1, false, 0, 0, 0, []⟩] } }

/-- A packet at the head, of context 0, that waits for event 0 to reach 1, at `now` ns, with a wait limit of 1 ms. -/
def tWaitHead (now : W64) : State :=
  { tStand { StandSt.reset with
      wait := [(0, 1)], chute := { Chute.reset with packets := [tPacket 0x08 0x01 []], tail := 1, tailCopy := 1 } } with
    img := { tImg with waitLimitMs := 1 }, clock := { ClockSt.reset with now := now } }

theorem wit_ResetLadder_context :
    (tOn.reaches .h0 = true ∧ tOn.requestOk .h0 0 = true ∧ bit (tOn.cfg 0).contexts.toNat 15 = true ∧ State.reset.reaches .h0 = false ∧
      (tOn.stand 0).rst.covers 15 none = false ∧ tOn.requestOk .h0 64 = false ∧ (tOn.stand 0).rst.active = [] ∧
      ((tRungs 3 0).stand 0).rst.covers 15 none = true ∧ (∃ a ∈ ((tRungs 3 0).stand 0).rst.active, a.rung = 3)) ∧
    (∃ s : State, ∃ p, s.alive = true ∧ (s.stand 0).chute.packets = [p] ∧ (s.stand 0).freeSlot = some 0 ∧
      (s.stand 0).headDiscarded = true) ∧
    ((tHead (tPacket 0x40 0 [])).alive = true ∧ ((tHead (tPacket 0x40 0 [])).cfg 0).enabled = true ∧
      ((tHead (tPacket 0x40 0 [])).stand 0).chute.packets ≠ [] ∧ (tHead (tPacket 0x40 0 [])).frontPaused 0 = false ∧
      ((tHead (tPacket 0x40 0 [])).stand 0).rst.active = [] ∧ (tWaitHead 0).frontPaused 0 = true) ∧
    (((tFlight (tCmd 0x20 .running [])).onEngine 0 (.landing 0 0)).filter (fun c => !(tFlight (tCmd 0x20 .running [])).cmdPaused 0 c) =
        [tCmd 0x20 .running []] ∧
      ((tFlight (tCmd 0x20 .running [])).stand 0).rst.covers 0 (some (.landing 0 0)) = false ∧
      (tFlight (tCmd 0x20 .running [])).inReset 0 0 (tCmd 0x20 .running []) = true ∧ (tCmd 0x20 .running []).context = 0 ∧
      (tOn.onEngine 0 (.landing 0 0)).filter (fun c => !tOn.cmdPaused 0 c) = []) ∧
    (((tWaitHead 0).stand 0).headWaits = some 0 ∧ ((tWaitHead 0).stand 0).rst.covers 0 none = false ∧
      (tWaitHead 999999).clock.now.toNat < ((tWaitHead 0).stand 0).chute.headAt.toNat + (tWaitHead 0).img.waitLimitMs * 1000000 ∧
      ((tWaitHead 0).stand 0).chute.headAt.toNat + (tWaitHead 0).img.waitLimitMs * 1000000 ≤ (tWaitHead 1000000).clock.now.toNat) :=
  ⟨by decide +kernel, ⟨{ tHead (tPacket 0x40 0 []) with stands := [(0, { StandSt.reset with
      chute := { Chute.reset with packets := [tPacket 0x40 0 []], tail := 1, tailCopy := 1 }
      rst := { RstStand.reset with discard := [(0, 1)] } })] }, tPacket 0x40 0 [], by decide +kernel⟩,
    by decide +kernel, by decide +kernel, by decide +kernel⟩

theorem wit_ResetLadder_rungs :
    (∀ n, n = 1 ∨ n = 2 ∨ n = 3 → (tRungs n 20000000).alive = true ∧ ((tRungs n 20000000).stand 0).rst.top = some (tRung n) ∧
      (tRungs n 20000000).rst.pendingCause = none ∧ ((tRung n).engine = some (.vector 0) ∨ n = 3) ∧
      (tRung n).started.toNat + rungLimitNs n ≤ (tRungs n 20000000).clock.now.toNat ∧
      (tRungs n 0).clock.now.toNat < (tRung n).started.toNat + rungLimitNs n ∧
      (tRungs n 0).clock.now.toNat < (tRung n).started.toNat + sampleBoxNs n) ∧
    ((tRungs 3 0).stand 0).rst.active.find? (fun a => decide (a.rung = 3)) = some (tRung 3) ∧
    (tRung 3 ∈ ((tRungs 3 8000000).stand 0).rst.active ∧ (tRung 3).sampling = true ∧
      (tRung 3).started.toNat + sampleBoxNs 3 ≤ (tRungs 3 8000000).clock.now.toNat ∧
      ((tRungs 3 8000000).rst.samples.map (·.stand)) = [0]) := by
  refine ⟨?_, by decide +kernel, by decide +kernel⟩
  rintro n (h | h | h) <;> subst h <;> decide +kernel

/-- A chip reset decided and the deadline timer started at 0 ns, at `now` ns. -/
def tDecided (now : W64) : State :=
  { tOn with
    clock := { ClockSt.reset with now := now }, rst := { RstMod.reset with pendingCause := some 1 }
    warden := { tOn.warden with running := true, deadline := some 0 } }

theorem wit_ResetLadder_chip :
    (tDecided 0).rst.pendingCause = some 1 ∧ (tDecided 0).alive = true ∧ (tDecided 0).power.cycleReq = false ∧
      (tDecided 0).warden.deadline = some 0 ∧ (tDecided 0).served = true ∧ (tDecided 0).rst.running = false ∧ tOn.served = false ∧
      (tDecided 2499999999).clock.now.toNat < (tDecided 0).rst.decidedAt.toNat + 2500000000 ∧
      (tDecided 0).rst.decidedAt.toNat + 2500000000 ≤ (tDecided 2500000000).clock.now.toNat ∧
      (tDecided 4999999999).clock.now.toNat < (0 : W64).toNat + 5000000000 ∧
      (0 : W64).toNat + 5000000000 ≤ (tDecided 5000000000).clock.now.toNat ∧
      (∀ st, st < 64 → ((tDecided 0).stand st).inflight = []) := by decide +kernel

/-- A Warden firmware image's header in the named slots: MAGIC, FORMAT, 4 KiB, generation 0, and its trailer (spec/14 Table 14-8). -/
def tFw (slots : List Nat) : State :=
  { tEarly with flash := slots.foldl (fun f k =>
      (f.write (fwBase k) (tLe 4 0x57465a57 ++ tLe 4 1 ++ tLe 4 4096)).write (fwBase k + 4096) tTrailer) tEarly.flash }

/-- Those of the named slots, slot 0's on trial and its trial start spent. -/
def tTried (slots : List Nat) : State :=
  { tFw slots with flash := { (tFw slots).flash with boot := some ⟨0, ⟨true, 2⟩, ⟨false, 0⟩, ⟨false, 0⟩, ⟨false, 0⟩⟩ } }

theorem wit_StartUp_rom :
    (∀ slots, slots = [0] ∨ slots = [1] ∨ slots = [] → (tFw slots).alive = true ∧ (tFw slots).warden.running = false ∧
      (tFw slots).warden.halted = false ∧ ((tFw slots).chooseWarden.reconstruct 1).flash.firstOf fwBase = 0 ∧
      ((tFw slots).chooseWarden.reconstruct 1).spent (fwBase 0) (·.fw 0) = false ∧
      ((tFw slots).chooseWarden.reconstruct 1).spent (fwBase 1) (·.fw 1) = false ∧
      (∀ k, k < 2 → (tFw slots).signedFor (fwBase k) .firmware (tSig .firmware) = slots.contains k)) ∧
    ((tFw [0]).chooseWarden.reconstruct 1).fwVerdict 0 true = 0 ∧
    (((tFw [1]).chooseWarden.reconstruct 1).fwVerdict 0 false ≠ 0 ∧ ((tFw [1]).chooseWarden.reconstruct 1).fwVerdict (1 - 0) true = 0) ∧
    (((tFw []).chooseWarden.reconstruct 1).fwVerdict 0 false ≠ 0 ∧ ((tFw []).chooseWarden.reconstruct 1).fwVerdict (1 - 0) false ≠ 0) ∧
    (((tTried [0, 1]).chooseWarden.reconstruct 1).spent (fwBase 0) (·.fw 0) = true ∧
      ((tTried [0, 1]).chooseWarden.reconstruct 1).spent (fwBase 1) (·.fw 1) = false ∧
      ((tTried [0, 1]).chooseWarden.reconstruct 1).flash.firstOf fwBase = 0 ∧
      ((tTried [0, 1]).chooseWarden.reconstruct 1).fwVerdict (1 - 0) true = 0) := by
  refine ⟨?_, by decide +kernel, by decide +kernel, by decide +kernel, by decide +kernel⟩
  rintro slots (h | h | h) <;> subst h <;> decide +kernel

/-- Before the image is verified, Warden firmware runs; with the image of the tests, or with none. -/
def tBoot (f : Flash) : State := { tEarly with flash := f, warden := { tEarly.warden with running := true } }

theorem wit_StartUp_image :
    (∀ f : Flash, f = tFlash ∨ f = Flash.reset → (tBoot f).alive = true ∧ (tBoot f).warden.running = true ∧
      (tBoot f).warden.halted = false ∧ (tBoot f).boot.imageVerified = false ∧ (tBoot f).power.cycleReq = false ∧
      0 = (tBoot f).flash.firstOf imgBase ∧ (tBoot f).spent (imgBase 0) (·.imgSlot 0) = false ∧
      (tBoot f).spent (imgBase 1) (·.imgSlot 1) = false ∧ (tBoot f).unpowered = []) ∧
    ((tBoot tFlash).signedFor (imgBase 0) .image (tSig .image) = true ∧
      (tBoot Flash.reset).signedFor (imgBase 0) .image (tSig .image) = false) ∧
    ((tBoot tFlash).flash.verifyImage (tBoot tFlash).variant 0 true true).1 = 0 ∧
    (∀ d, d < 18 → ((tBoot tFlash).die d).marked = false) ∧
    ((tBoot Flash.reset).flash.verifyImage (tBoot Flash.reset).variant 0 true false).1 ≠ 0 ∧
    ((tBoot Flash.reset).flash.verifyImage (tBoot Flash.reset).variant (1 - 0) true false).1 ≠ 0 ∧
    (tOn.boot.imageVerified = true ∧ (∃ n ∈ [7], n ∉ (tBoot tFlash).boot.missing)) := by
  refine ⟨?_, by decide +kernel, tFlash_verifies, by decide +kernel, by decide +kernel, by decide +kernel, by decide +kernel⟩
  rintro f (h | h) <;> subst h <;> decide +kernel

/-- The image is verified, memory not trained. -/
def tTrain : State := { tOn with boot := { BootRegs.reset with imageVerified := true } }

/-- Everything stands but the stands, with FAULT as given. -/
def tReady (fault : Nat) : State := { tOn with boot := { tOn.boot with standsReady := false, fault := fault } }

theorem wit_StartUp_ready :
    (tTrain.alive = true ∧ tTrain.boot.imageVerified = true ∧ tTrain.boot.hbmTrained = false ∧ tTrain.variant.stacks ≤ 32 ∧
      31 < tTrain.variant.stacks ∧ tTrain.boot.fault = 0 ∧ (∀ n ∈ [32], tTrain.variant.stacks ≤ n) ∧
      (∃ n ∈ [31], n < tTrain.variant.stacks) ∧ State.reset.alive = false) ∧
    (∀ f, f = 0 ∨ f = 2 → (tReady f).alive = true ∧ (tReady f).boot.imageVerified = true ∧ (tReady f).boot.hbmTrained = true ∧
      (tReady f).boot.fabricReady = true ∧ (tReady f).boot.standsReady = false ∧ (tReady f).boot.fault = f) := by
  refine ⟨by decide +kernel, ?_⟩
  rintro f (h | h) <;> subst h <;> decide +kernel

/-- Warden firmware runs. -/
def tServed : State := { tOn with warden := { tOn.warden with running := true } }

def tWear : WearEntry := ⟨0, 1, 0, 0, 0, 0⟩
def tCapture : Capture := ⟨0, [], 0, [], [], [], [], []⟩
def tLog : EvLog := ⟨0, 0, 0, 1, 0, 0⟩

theorem wit_WardensAndFlash_idle : tOn.served = false ∧ tServed.warden.halted = false ∧ tServed.integ.pending = [] ∧
    tServed.flash.wear.length < 32768 ∧ tServed.integ.captures[0]? = none ∧ tServed.warden.staged = [] ∧ tServed.integ.decided = [] ∧
    (∃ s : State, s.alive = true ∧ s.warden.standby = .retired) :=
by
  refine ⟨?_, ?_, ?_, ?_, ?_, ?_, ?_, { tOn with warden := { tOn.warden with standby := .retired } }, ?_⟩ <;> decide +kernel

theorem wit_WardensAndFlash :
    tServed.served = true ∧
    (∃ s : State, s.alive = true ∧ s.warden.halted = true ∧ s.warden.standby = .starting) ∧
    tServed.warden.standby ≠ .retired ∧
    (∃ s : State, s.alive = true ∧ s.warden.running = true ∧ s.integ.pending = [tWear] ∧ s.flash.wear.length < 32768) ∧
    (∃ s : State, s.alive = true ∧ s.warden.running = true ∧ 32768 ≤ s.flash.wear.length) ∧
    (∃ s : State, s.alive = true ∧ s.warden.running = true ∧ s.integ.captures[0]? = some tCapture ∧ tCapture ∉ s.flash.supplement) ∧
    (∃ s : State, s.alive = true ∧ s.warden.running = true ∧ s.integ.captures[0]? = some tCapture ∧ tCapture ∈ s.flash.supplement) ∧
    (∃ s : State, s.served = true ∧ s.warden.staged = [tLog] ∧ s.flash.log.length < 1048576) ∧
    (∃ s : State, s.served = true ∧ s.warden.staged = [tLog] ∧ 1048576 ≤ s.flash.log.length) :=
  ⟨by decide +kernel, ⟨{ tOn with warden := { tOn.warden with halted := true, standby := .starting } }, by decide +kernel⟩,
    by decide +kernel, ⟨{ tServed with integ := { Integ.reset with pending := [tWear] } }, by decide +kernel⟩,
    ⟨{ tServed with flash := { Flash.reset with wear := List.replicate 32768 tWear } },
      by decide +kernel, by decide +kernel, by simp only [List.length_replicate]; decide⟩,
    ⟨{ tServed with integ := { Integ.reset with captures := [tCapture] } }, by decide +kernel⟩,
    ⟨{ tServed with
        integ := { Integ.reset with captures := [tCapture] }
        flash := { Flash.reset with supplement := [tCapture] } }, by decide +kernel⟩,
    ⟨{ tServed with warden := { tServed.warden with staged := [tLog] } }, by decide +kernel⟩,
    ⟨{ tServed with
        warden := { tServed.warden with staged := [tLog] }
        flash := { Flash.reset with log := List.replicate 1048576 tLog } },
      by decide +kernel, by decide +kernel, by simp only [List.length_replicate]; decide⟩⟩

/-- Warden firmware runs, its device identity there or not, SPDM over I3C negotiated as far as given. -/
def tSpdm (identity : Bool) (stage : Nat) : State :=
  { tOn with warden := { tOn.warden with running := true, identity := identity, spdm := Tab.set [] 0 stage } }

theorem wit_Management_spdm :
    (tServed.served = true ∧ 0x100 ∈ sensorIds ∧ sensorPresent tServed.variant 0x100 = true ∧ (∃ n ∈ sensorIds, 0x200 ≤ n ∧
      sensorPresent tServed.variant n = true) ∧ 0 ∉ sensorIds ∧ tOn.served = false ∧ tOn.warden.recovery = false) ∧
    (∃ s : State, s.served = false ∧ s.alive = true ∧ s.warden.recovery = true) ∧
    (tOn.spdmServes 0 = false ∧ tOn.updateServes 1 = false ∧ (tSpdm true spdmLost).spdmServes 0 = true ∧
      (tSpdm true spdmLost).spdmStage 0 = spdmLost) ∧
    (fld [(1 : Byte), 254] 1 1 = 254 ∧ fld [(1 : Byte), 254] 0 1 ≤ 1 ∧ fld [(0 : Byte), 8] 1 1 = 8) ∧
    (∀ k, k = 0 ∨ k = 1 ∨ k = 2 ∨ k = 3 → ∀ b, (tSpdm b k).spdmServes 0 = true ∧ (tSpdm b k).spdmStage 0 = k ∧
      (tSpdm b k).spdmStage 0 ≠ spdmLost ∧ (tSpdm b k).warden.identity = b) := by
  refine ⟨by decide +kernel, ⟨{ tOn with warden := { tOn.warden with recovery := true } }, by decide +kernel⟩, by decide +kernel,
    by decide +kernel, ?_⟩
  rintro k (h | h | h | h) b <;> subst h <;> cases b <;> decide +kernel

/-- An update that I3C is taking, at a component. -/
def tUpdate (c : Option Nat) (slots : List Nat) : State :=
  { tServed with
    flash := (tFw slots).flash
    warden := { tServed.warden with update := .i3c, component := c } }

theorem wit_Management_update :
    (tServed.updateServes 0 = true ∧ tServed.updateServes 1 = true ∧ tServed.warden.update = .idle) ∧
    ((tUpdate none []).warden.update ≠ .idle ∧ (tUpdate none []).warden.update ≠ agentOf 1 ∧ (tUpdate none []).updateServes 1 = true) ∧
    ((tUpdate none []).warden.update = agentOf 0 ∧ (tUpdate none []).componentOk 1 = true ∧ (tUpdate none []).componentOk 3 = true ∧
      16777215 + [(1 : Byte)].length ≤ componentSize 1 ∧ cellsWf 0 (tUpdate none []).flash.cells = true) ∧
    ((tUpdate (some 1) [0, 1]).warden.component = some 1 ∧ (tUpdate (some 1) [0, 1]).componentVerifies 1 (tSig .firmware) = true ∧
      (tUpdate (some 1) [0, 1]).componentVerifies 1 ⟨false, []⟩ = false) ∧
    ((tUpdate none []).warden.component = none ∧ (tUpdate none []).warden.recovery = false ∧ (tUpdate none []).alive = true ∧
      (tUpdate none []).rst.pendingCause = none) ∧
    (∃ s : State, s.updateServes 1 = true ∧ s.warden.update = agentOf 1 ∧ s.warden.component = none ∧ s.warden.recovery = false) ∧
    (∃ s : State, s.updateServes 0 = true ∧ s.warden.update = agentOf 0 ∧ s.warden.component = none ∧ s.warden.recovery = true ∧
      1 ∈ s.warden.verified) :=
by
  refine ⟨?_, ?_, ?_, ?_, ?_, ⟨{ tServed with warden := { tServed.warden with update := .mailbox } }, ?_⟩,
    { tOn with warden := { tOn.warden with recovery := true, update := .i3c, verified := [1] } }, ?_⟩ <;> decide +kernel

/-- A mailbox request of an OP, its LENGTH, TAG, and what follows (spec/15 Table 15-6). -/
def tReq (op len : Nat) (rest : List Byte) : List Byte :=
  let h := tLe 1 op ++ tLe 3 0 ++ tLe 4 len ++ tLe 4 9 ++ tLe 4 0 ++ rest
  h ++ List.replicate (64 - h.length) 0

/-- Mailbox 3 as given. -/
def tMbox (m : Mbox) : State := tServed.setMbox 3 m

theorem wit_Mailboxes_write :
    (tOn.reaches .h0 = true ∧ mboxBad 1 64 = true ∧ mboxBad 0 576 = true ∧ mboxBad 0 64 = false ∧ (tOn.mbox 3).mode = .free) ∧
    (((tMbox { Mbox.reset with mode := .busy }).mbox 3).mode = .busy ∧
      ((tMbox { Mbox.reset with mode := .assembling, owner := some .h0 }).mbox 3).mode = .assembling ∧
      ((tMbox { Mbox.reset with mode := .assembling, owner := some .h0 }).mbox 3).owner = some .h0 ∧
      ((tMbox { Mbox.reset with mode := .ready, gen := 4 }).mbox 3).mode = .ready ∧
      ((tMbox { Mbox.reset with mode := .ready, gen := 4 }).mbox 3).gen = 4 ∧
      ((tMbox { Mbox.reset with mode := .ready, gen := 4 }).mbox 3).gen ≠ 3) ∧
    ((tReq 1 128 []).length < 128 ∧ mboxLengthOk 128 = true ∧ fld ((tOn.mbox 3).req ++ tReq 1 128 []) 4 4 = 128) ∧
    (((tOn.mbox 3).req ++ tReq 9 64 []).length = 64 ∧ fld (tReq 9 64 []) 4 4 = 64 ∧ 1 ≤ fld (tReq 9 64 []) 0 1 ∧
      fld (tReq 9 64 []) 0 1 ≤ 9) ∧
    (64 < (tReq 1 64 (tLe 64 0)).length ∧ fld (tReq 1 64 (tLe 64 0)) 4 4 = 64 ∧ tOn.reaches .h1 = false) ∧
    ((tReq 10 64 []).length = 64 ∧ fld (tReq 10 64 []) 4 4 = 64 ∧ 9 < fld (tReq 10 64 []) 0 1 ∧ fld (tReq 0 64 []) 0 1 = 0) := by
  decide +kernel

theorem wit_Mailboxes_ops : ∀ op, op = 1 ∨ op = 2 ∨ op = 3 ∨ op = 4 ∨ op = 5 ∨ op = 6 ∨ op = 7 ∨ op = 8 ∨ op = 9 →
    (tMbox { Mbox.reset with mode := .busy, req := tReq op 64 [] }).served = true ∧
    ((tMbox { Mbox.reset with mode := .busy, req := tReq op 64 [] }).mbox 3).mode = .busy ∧
    mboxLengthOk (fld (tReq op 64 []) 4 4) = true ∧ (tReq op 64 []).length = fld (tReq op 64 []) 4 4 ∧
    mboxLengthOk (fld (tReq op 63 []) 4 4) = false ∧ fld (tReq op 63 []) 0 1 = op ∧ fld ((tMbox { Mbox.reset with mode := .busy, req := tReq op 64 [] }).mbox 3).req 0 1 = op := by
  rintro op (h | h | h | h | h | h | h | h | h) <;> subst h <;> decide +kernel

/-! Results that the specification works out, and single commands. -/

/-- The example under spec/03 R68: a block whose largest magnitude is 1,000. -/
theorem test_block_scale :
    let b := writeBlock fE4M3 false Recipe.standard [(.ofNat 1000, none), (.fin true 3490289711212134 (-50), none),
      (.fin false 5764607523034235 (-59), none)]
    b.1 = 0x81 ∧ b.2.1.map (· % 256) = [0x78, 0xb4, 0x01] := by decide +kernel

/-- The example under spec/03 R69: logits written under rule FIXED with E = 0x84. -/
theorem test_block_fixed :
    (writeBlock fE4M3 false ⟨1, 0x84, 0⟩ [(.ofNat 20000, none), (.ofNat 3, none)]).2.1 = [0x7e, 0x1c] ∧
    (writeBlock fE4M3 false ⟨1, 0x84, 0⟩ [(.ofNat 20000, none), (.ofNat 3, none)]).2.2.saturated = 1 := by decide +kernel

/-- spec/03 R71: 464 is written as 448 in E4M3, what lies above it is an overflow. -/
theorem test_overflow_edge :
    writeElem fE4M3 false none (.ofNat 464) = (0x7e, WrCount.zero) ∧
    writeElem fE4M3 true none (.ofNat 465) = (0x7e, { WrCount.zero with saturated := 1 }) := by decide +kernel

/-- The example under spec/03 R65: a 3-bit code 0b101 with block scale 0x79, signed and with zero point 3. -/
theorem test_planes :
    (decodeIntp 3 none 0x79 5).eqv (.fin true 3 (-6)) = true ∧ (decodeIntp 3 (some 3) 0x79 5).eqv (.fin false 2 (-6)) = true := by
  decide +kernel

/-- The examples of the two sums that the specification takes from other standards: SHA-512 of "abc" (FIPS 180-4), CRC-32C of
"123456789". -/
theorem test_sums :
    (sha512 [0x61, 0x62, 0x63]).take 8 = [0xdd, 0xaf, 0x35, 0xa1, 0x93, 0x61, 0x7a, 0xba] ∧
    crc32c [0x31, 0x32, 0x33, 0x34, 0x35, 0x36, 0x37, 0x38, 0x39] = 0xe3069283 := by decide +kernel

/-- spec/07 R166: one wrong symbol of a word is corrected, two are not taken for a correction of a third. -/
theorem test_symbol : ((Mem.empty.upset 0 5 0x40).read 5 = 0) ∧ (Mem.empty.upset 0 5 0x40).bad 0 = false := by decide +kernel

/-- spec/02 R38: an accepted chute write appends its packet at the tail, an offset past the window is ignored and counted. -/
theorem test_chute :
    (((tAfter (.chuteWrite .h0 0 0 (tCommand 0x42 0 1 7 [])) tOn).stand 0).chute.packets.map (·.bytes)) = [tCommand 0x42 0 1 7 []] ∧
    (((tAfter (.chuteWrite .h0 0 0 (tCommand 0x42 0 1 7 [])) tOn).stand 0).chute.tail = 1) := by decide +kernel

/-- Before power is good nothing runs, nothing waits, and memory lists nothing. -/
theorem test_reset : State.reset.alive = false ∧ State.reset.pending = [] ∧ State.reset.hbm = Mem.empty := by decide +kernel

/-- spec/02 R52: a release with the slot's generation frees it, one with another counts. -/
theorem test_release :
    let s := tStand { StandSt.reset with slots := [(3, ⟨.ready, 7, 0, 4, 0, 0x42, []⟩)] }
    (((tAfter (.resRelease .h0 0 3 4) s).stand 0).slot 3).st = .free ∧
    (((tAfter (.resRelease .h0 0 3 5) s).stand 0).slot 3).st = .ready ∧
    (tAfter (.resRelease .h0 0 3 5) s).counters.get (kStand 0 cResBadRelease) = 1 := by decide +kernel

/-- spec/15 Table 15-10: a mailbox write that does not start on 64 bytes counts. -/
theorem test_mailbox : (tAfter (.mailboxWrite .h0 3 1 (List.replicate 64 0)) tOn).counters.get (kModule cWdnMboxBad) = 1 := by
  decide +kernel

/-- spec/15 R373: a lockstep mismatch halts the active Warden, whose standby starts. -/
theorem test_lockstep :
    (tAfter .lockstepMismatch tServed).warden.halted = true ∧ (tAfter .lockstepMismatch tServed).warden.standby = .starting ∧
    (tAfter .lockstepMismatch tServed).flash.retired = [0] := by decide +kernel

/-- spec/16 R408: sleep switches every domain off. -/
theorem test_sleep : (List.range 20).all (fun d => !((tAfter .sleep tOn).domain d).on) = true := by decide +kernel

/-- A step takes the command at the front of the queue. -/
theorem test_step : step { tOn with pending := [.linkRecalibration 0 0, .sleep] } = .next { tOn with pending := [.sleep] } := rfl

end Sys2Proof.Tests
end

section
/-! Register writes (spec/00 R9 to R11): what a write covers, and which unit each range of BAR0 hands it to. -/

namespace Sys2Proof.Machine

/-- An aligned write of 8 bytes covers its register and carries its value (spec/00 R11). -/
theorem coverOf_eight (off : Nat) (v : W64) (h : off % 8 = 0) : coverOf off 8 v = (BitVec.allOnes 64, v) := by
  have cover : BitVec.ofNat 64 ((2 ^ (8 * 8) - 1) * 2 ^ (8 * 0)) = BitVec.allOnes 64 := by decide
  rw [coverOf, h]
  simp only [cover, Nat.mul_zero, BitVec.shiftLeft_zero, BitVec.and_allOnes]

/-- A write of 4 bytes at a register's start covers its lower half (spec/00 R11). -/
theorem coverOf_four (off : Nat) (v : W64) (h : off % 8 = 0) : coverOf off 4 v = (0xffffffff, v &&& 0xffffffff) := by
  have cover : BitVec.ofNat 64 ((2 ^ (8 * 4) - 1) * 2 ^ (8 * 0)) = 0xffffffff := by decide
  rw [coverOf, h]
  simp only [cover, Nat.mul_zero, BitVec.shiftLeft_zero]

theorem exec_registerWrite_eight (l : LinkId) (s : State) (o : Nat) (v : W64) (hr : s.reaches l = true) (ho : o % 8 = 0) :
    exec (.registerWrite l o 8 v) s = .next (s.writeBar0 l o (BitVec.allOnes 64) v) := by
  have start : o / 8 * 8 = o := by omega
  simp [exec, execRegisterWrite, hr, ho, coverOf_eight, start]

theorem exec_registerWrite_four (l : LinkId) (s : State) (o : Nat) (v : W64) (hr : s.reaches l = true) (ho : o % 8 = 0) :
    exec (.registerWrite l o 4 v) s = .next (s.writeBar0 l o 0xffffffff (v &&& 0xffffffff)) := by
  have start : o / 8 * 8 = o := by omega
  have aligned : o % 4 = 0 := by omega
  simp [exec, execRegisterWrite, hr, aligned, ho, coverOf_four, start]

/-- A write whose register ignores it changes nothing, whatever its width and alignment. -/
theorem exec_registerWrite_ignored (l : LinkId) (s : State) (o w : Nat) (v : W64)
    (h : ∀ m x, s.writeBar0 l (o / 8 * 8) m x = s) : exec (.registerWrite l o w v) s = .next s := by
  simp [exec, execRegisterWrite, h]

/-! ### The ranges of BAR0 (spec/02 Table 2-2) -/

section
variable (s : State) (l : LinkId) (m v : W64)

theorem State.writeBar0_bar4Base : s.writeBar0 l 0x10010 m v = s.setLink l ((s.link l).writeBase m v) := by
  simp [State.writeBar0]

theorem State.writeBar0_rstReq : s.writeBar0 l 0x10108 m v = s.writeRstReq l v := by
  simp [State.writeBar0]

theorem State.writeBar0_chu (st o : Nat) (hs : st < 64) (ho : o < 0x100) :
    s.writeBar0 l (0x100000 + 0x100 * st + o) m v = s.writeChu st o v := by
  have stand : (0x100000 + 0x100 * st + o - 0x100000) / 0x100 = st := by omega
  have reg : (0x100000 + 0x100 * st + o) % 0x100 = o := by omega
  rw [State.writeBar0, if_neg (by omega), if_neg (by omega), if_pos (by omega), stand, reg]

theorem State.writeBar0_chuStatus (st : Nat) (hs : st < 64) :
    s.writeBar0 l (0x100000 + 0x100 * st) m v = s.writeChu st 0 v :=
  s.writeBar0_chu l m v st 0 hs (by omega)

theorem State.writeBar0_resRelease (st : Nat) (hs : st < 64) :
    s.writeBar0 l (0x200000 + 0x100 * st) m v = s.release st (bits v.toNat 7 0) ((v >>> 16).setWidth 16) := by
  have stand : (0x200000 + 0x100 * st - 0x200000) / 0x100 = st := by omega
  rw [State.writeBar0, if_neg (by omega), if_neg (by omega), if_neg (by omega), if_pos (by omega), stand]

theorem State.writeBar0_msix (i : Nat) (hi : i < 128) : s.writeBar0 l (0x204000 + 8 * i) m v = s.writeMsix l i m v := by
  have word : (0x204000 + 8 * i - 0x204000) / 8 = i := by omega
  rw [State.writeBar0, if_neg (by omega), if_neg (by omega), if_neg (by omega), if_neg (by omega), if_pos (by omega), word]

theorem State.writeBar0_mboxStatus (k : Nat) (hk : k < 4) :
    s.writeBar0 l (0x1001000 + 0x40 * k) m v = s.setMbox k { s.mbox k with ignored := w1c (s.mbox k).ignored v 4 } := by
  have mailbox : (0x1001000 + 0x40 * k - 0x1001000) / 0x40 = k := by omega
  rw [State.writeBar0, if_neg (by omega), if_neg (by omega), if_neg (by omega), if_neg (by omega), if_neg (by omega),
    if_pos (by omega), mailbox, if_pos (by omega)]

theorem State.writeBar0_mboxCtrl (k : Nat) (hk : k < 4) : s.writeBar0 l (0x1001008 + 0x40 * k) m v = s.writeMboxCtrl k v := by
  have mailbox : (0x1001008 + 0x40 * k - 0x1001000) / 0x40 = k := by omega
  rw [State.writeBar0, if_neg (by omega), if_neg (by omega), if_neg (by omega), if_neg (by omega), if_neg (by omega),
    if_pos (by omega), mailbox, if_neg (by omega), if_pos (by omega)]

/-- Below GLB, between the chutes' registers and the result registers, and past the mailboxes no register takes a write. -/
theorem State.writeBar0_reserved (o : Nat) (h : o < 0x10000 ∨ (0x104000 ≤ o ∧ o < 0x200000) ∨ 0x1200000 ≤ o) :
    s.writeBar0 l o m v = s := by
  rw [State.writeBar0, if_neg (by omega), if_neg (by omega), if_neg (by omega), if_neg (by omega), if_neg (by omega),
    if_neg (by omega)]

theorem State.writeChu_unused (st o : Nat) (h : (s.cfg st).enabled = false) : s.writeChu st o v = s := by
  simp [State.writeChu, h]

theorem State.writeChu_status (st : Nat) (h : (s.cfg st).enabled = true) :
    s.writeChu st 0 v = s.setChute st ((s.stand st).chute.writeStatus v) := by
  simp [State.writeChu, h]

/-- CHU_CTRL.DROP written with 1 (spec/02 R43). -/
theorem State.writeChu_drop (st : Nat) (h : v.getLsbD 0 = true) : s.writeChu st 8 v = s.drop st := by
  cases en : (s.cfg st).enabled <;> simp [State.writeChu, State.drop, en, h]

/-- GLB_BAR4_BASE written whole (spec/02 Table 2-5). -/
theorem HostLink.writeBase_whole (h : HostLink) : h.writeBase (BitVec.allOnes 64) v =
    { h with bar4Base := bits v.toNat 39 30 / 2 ^ h.bar4Log2 * 2 ^ h.bar4Log2 } := by
  simp [HostLink.writeBase]

/-- The address word of an MSI-X entry written whole (spec/02 R54). -/
theorem State.writeMsix_address (n : Nat) : s.writeMsix l (2 * n) (BitVec.allOnes 64) v =
    (s.setLink l { s.link l with
      msix := (s.link l).msix.set n { (s.link l).msix.get MsixEntry.reset n with addr := v &&& ~~~3#64 } }).msixFlush l := by
  simp [State.writeMsix]

/-- The word of an MSI-X entry that holds its data and vector control written whole (spec/02 R54). -/
theorem State.writeMsix_data (n : Nat) : s.writeMsix l (2 * n + 1) (BitVec.allOnes 64) v =
    (s.setLink l { s.link l with
      msix := (s.link l).msix.set n { (s.link l).msix.get MsixEntry.reset n with
        data := v.setWidth 32, masked := v.getLsbD 32 } }).msixFlush l := by
  have entry : (2 * n + 1) / 2 = n := by omega
  simp [State.writeMsix, entry]

/-- WDN_MBOX_CTRL.ABORT written alone (spec/15 Table 15-10). -/
theorem State.writeMboxCtrl_abort (k : Nat) (h0 : v.getLsbD 0 = true) (h1 : v.getLsbD 1 = false) :
    s.writeMboxCtrl k v = s.setMbox k (if (s.mbox k).mode = .assembling then (s.mbox k).freed else s.mbox k) := by
  simp only [State.writeMboxCtrl, h0, h1, true_and, Bool.false_eq_true, false_and, if_false]

/-- WDN_MBOX_CTRL.RELEASE written alone (spec/15 Table 15-10). -/
theorem State.writeMboxCtrl_release (k : Nat) (h0 : v.getLsbD 0 = false) (h1 : v.getLsbD 1 = true) :
    s.writeMboxCtrl k v = s.setMbox k
      (if (s.mbox k).mode = .ready ∧ (s.mbox k).gen = (v >>> 16).setWidth 16 then (s.mbox k).freed else s.mbox k) := by
  simp only [State.writeMboxCtrl, h0, h1, true_and, Bool.false_eq_true, false_and, if_false]

/-! ### GLB_RST_REQ (spec/13 Table 13-7) -/

theorem State.writeRstReq_context (h : bits v.toNat 1 0 = 1) :
    s.writeRstReq l v = s.requestContext l (bits v.toNat 13 8) (bits v.toNat 19 16) := by
  simp [State.writeRstReq, h]

theorem State.writeRstReq_stand (h : bits v.toNat 1 0 = 3) : s.writeRstReq l v = s.requestStand l (bits v.toNat 13 8) := by
  simp [State.writeRstReq, h]

theorem State.writeRstReq_undefined (h1 : bits v.toNat 1 0 ≠ 1) (h3 : bits v.toNat 1 0 ≠ 3) :
    s.writeRstReq l v = s.countModule cRstReqIgnored := by
  simp [State.writeRstReq, h1, h3]

end

/-! ### The commands that the control registers stand for -/

theorem exec_resRelease (l : LinkId) (s : State) (st : Nat) (v : W64) (g : W16) (hr : s.reaches l = true) :
    exec (.resRelease l st (bits v.toNat 7 0) g) s = .next (s.release st (bits v.toNat 7 0) g) := by
  have slot : bits v.toNat 7 0 % 256 = bits v.toNat 7 0 := by simp [bits]
  simp [exec, execResRelease, hr, slot]

/-- Settles O20: each clause hands the write to its register by the range it lies in, and the register's own lemma says what it does. -/
theorem registerWrites : Obligations.RegisterWrites := by
  unfold Obligations.RegisterWrites
  refine ⟨?status, ?base, ?undefined, ?drop, ?release, ?context, ?stand, ?abort, ?free, ?ignored, ?msix, ?half, ?unused,
    ?reserved⟩
  case status =>
    intro l s st v hr hs en
    rw [exec_registerWrite_eight l s _ v hr (by omega), s.writeBar0_chuStatus l _ v st hs, s.writeChu_status v st en]
    rfl
  case base =>
    intro l s v hr
    rw [exec_registerWrite_eight l s _ v hr (by omega), s.writeBar0_bar4Base, HostLink.writeBase_whole]
  case undefined =>
    intro l s v hr h1 h3
    rw [exec_registerWrite_eight l s _ v hr (by omega), s.writeBar0_rstReq, s.writeRstReq_undefined l v h1 h3]
  case drop =>
    intro l s st v hr hs hv
    have dropped : exec (.drop l st) s = .next (s.drop st) := by simp [exec, execDrop, hr]
    rw [show 0x100008 + 0x100 * st = 0x100000 + 0x100 * st + 8 by omega, exec_registerWrite_eight l s _ v hr (by omega),
      s.writeBar0_chu l _ v st 8 hs (by omega), s.writeChu_drop v st hv, dropped]
  case release =>
    intro l s st v hr hs
    rw [exec_registerWrite_eight l s _ v hr (by omega), s.writeBar0_resRelease l _ v st hs, exec_resRelease l s st v _ hr]
  case context =>
    intro l s v hr hv
    rw [exec_registerWrite_eight l s _ v hr (by omega), s.writeBar0_rstReq, s.writeRstReq_context l v hv]
    simp [exec, execContextResetRequest, hr]
  case stand =>
    intro l s v hr hv
    rw [exec_registerWrite_eight l s _ v hr (by omega), s.writeBar0_rstReq, s.writeRstReq_stand l v hv]
    simp [exec, execStandResetRequest, hr]
  case abort =>
    intro l s k v hr hk h0 h1
    rw [exec_registerWrite_eight l s _ v hr (by omega), s.writeBar0_mboxCtrl l _ v k hk, s.writeMboxCtrl_abort v k h0 h1]
  case free =>
    intro l s k v hr hk h0 h1
    rw [exec_registerWrite_eight l s _ v hr (by omega), s.writeBar0_mboxCtrl l _ v k hk, s.writeMboxCtrl_release v k h0 h1]
  case ignored =>
    intro l s k v hr hk
    rw [exec_registerWrite_eight l s _ v hr (by omega), s.writeBar0_mboxStatus l _ v k hk]
    rfl
  case msix =>
    intro l s n v hr hn
    constructor
    · rw [show 0x204000 + 16 * n = 0x204000 + 8 * (2 * n) by omega, exec_registerWrite_eight l s _ v hr (by omega),
        s.writeBar0_msix l _ v _ (by omega), s.writeMsix_address]
    · rw [show 0x204008 + 16 * n = 0x204000 + 8 * (2 * n + 1) by omega, exec_registerWrite_eight l s _ v hr (by omega),
        s.writeBar0_msix l _ v _ (by omega), s.writeMsix_data]
  case half =>
    intro l s st v hr hs
    rw [exec_registerWrite_four l s _ v hr (by omega), exec_registerWrite_eight l s _ _ hr (by omega),
      s.writeBar0_chuStatus l _ _ st hs, s.writeBar0_chuStatus l _ _ st hs]
  case unused =>
    intro l s st o w v _ hs en ho
    refine exec_registerWrite_ignored l s _ w v fun m x => ?_
    rw [show (0x100000 + 0x100 * st + o) / 8 * 8 = 0x100000 + 0x100 * st + o / 8 * 8 by omega,
      s.writeBar0_chu l m x st _ hs (by omega), s.writeChu_unused x st _ en]
  case reserved =>
    intro l s o w v _ ho
    exact exec_registerWrite_ignored l s o w v fun m x => s.writeBar0_reserved l m x _ (by omega)

end Sys2Proof.Machine
end

section
/-! Reading the flash in canonical form (spec/14 R362): a run of bytes is the cells it covers, and a cleared MAGIC reads as zero. -/

namespace Sys2Proof.Machine

theorem readRun_eq_map (n : Nat) : ∀ (a : Nat) (c : Cells), cellsWf a c = true →
    readRun n a c = (List.range' a n).map (cellGet c) := by
  induction n with
  | zero => intros; rfl
  | succ n ih =>
    intro a c h
    rw [List.range'_succ, List.map_cons]
    cases c with
    | nil => rw [readRun, ih (a + 1) [] rfl]; rfl
    | cons p t =>
      obtain ⟨i, v⟩ := p
      have form := h
      simp only [cellsWf, Bool.and_eq_true, decide_eq_true_eq] at form
      obtain ⟨⟨low, nonzero⟩, rest⟩ := form
      by_cases here : i = a
      · subst here
        have later : ∀ k ∈ List.range' (i + 1) n, cellGet t k = cellGet ((i, v) :: t) k := fun k hk => by
          have : i ≠ k := by have := (List.mem_range'_1.mp hk).1; omega
          simp only [cellGet, this, if_false]
        rw [readRun, if_pos rfl, ih _ t rest, List.map_congr_left later]
        simp only [cellGet, if_true]
      · have above : cellsWf (a + 1) ((i, v) :: t) = true := by
          simp only [cellsWf, Bool.and_eq_true, decide_eq_true_eq]
          exact ⟨⟨by omega, nonzero⟩, rest⟩
        rw [readRun, if_neg here, ih _ _ above, cellGet_low _ _ a (Nat.lt_succ_self a) above]

theorem dropWhile_cellsWf (a : Nat) : ∀ (lo : Nat) (c : Cells), cellsWf lo c = true →
    cellsWf a (c.dropWhile fun p => decide (p.1 < a)) = true
  | _, [], _ => rfl
  | lo, (i, v) :: t, h => by
    simp only [cellsWf, Bool.and_eq_true, decide_eq_true_eq] at h
    obtain ⟨⟨-, nonzero⟩, rest⟩ := h
    by_cases below : i < a
    · simpa [List.dropWhile_cons, below] using dropWhile_cellsWf a (i + 1) t rest
    · rw [List.dropWhile_cons_of_neg (by simpa using below)]
      simp only [cellsWf, Bool.and_eq_true, decide_eq_true_eq]
      exact ⟨⟨Nat.le_of_not_lt below, nonzero⟩, rest⟩

theorem cellGet_dropWhile (a k : Nat) (hk : a ≤ k) : ∀ c : Cells,
    cellGet (c.dropWhile fun p => decide (p.1 < a)) k = cellGet c k
  | [] => rfl
  | (i, v) :: t => by
    by_cases below : i < a
    · have : i ≠ k := by omega
      simpa [List.dropWhile_cons, below, cellGet, this] using cellGet_dropWhile a k hk t
    · simp [below]

/-- A read of a canonical flash gives the byte at each address (spec/14 R362). -/
theorem Flash.read_eq_map (f : Flash) (a n : Nat) (h : cellsWf 0 f.cells = true) :
    f.read a n = (List.range' a n).map (cellGet f.cells) := by
  rw [Flash.read, readRun_eq_map n a _ (dropWhile_cellsWf a 0 _ h)]
  exact List.map_congr_left fun k hk => cellGet_dropWhile a k (List.mem_range'_1.mp hk).1 _

theorem cellGet_set {c : Cells} {lo : Nat} (h : cellsWf lo c = true) (k j : Nat) (v : Byte) :
    cellGet (cellSet c k v) j = if k = j then v else cellGet c j := by
  split_ifs with same
  · subst same; exact cellGet_set_same c lo k v h
  · exact cellGet_set_ne c k j v same

/-- In a canonical flash a cleared MAGIC is zero, so a spent slot does not start again (spec/15 R380). -/
theorem State.clearMagic_magic (s : State) (base : Nat) (h : cellsWf 0 s.flash.cells = true) :
    (s.clearMagic base).flash.magic base = 0 := by
  have w1 := cellSet_wf _ 0 base 0 (Nat.zero_le _) h
  have w2 := cellSet_wf _ 0 (base + 1) 0 (Nat.zero_le _) w1
  have w3 := cellSet_wf _ 0 (base + 2) 0 (Nat.zero_le _) w2
  have w4 := cellSet_wf _ 0 (base + 3) 0 (Nat.zero_le _) w3
  have cells : (s.clearMagic base).flash.cells =
      cellSet (cellSet (cellSet (cellSet s.flash.cells base 0) (base + 1) 0) (base + 2) 0) (base + 3) 0 := rfl
  have gone : ∀ k ∈ List.range' base 4, cellGet (s.clearMagic base).flash.cells k = 0 := fun k hk => by
    have range := List.mem_range'_1.mp hk
    simp only [cells, cellGet_set w3, cellGet_set w2, cellGet_set w1, cellGet_set h, ite_eq_left_iff]
    omega
  rw [Flash.magic, Flash.read_eq_map _ _ _ (cells ▸ w4), List.map_congr_left gone]
  rfl

end Sys2Proof.Machine
end

section
/-! Start-up from a flash that is not in canonical form. A cell that the flash lists twice outlives the clearing of a spent slot's
MAGIC, so the clause of O57 on a spent trial slot fails for a state whose flash is like that; in a canonical flash a cleared MAGIC is
zero (`State.clearMagic_magic`). -/

namespace Sys2Proof.Machine

/-- Slot A of the firmware: the first byte of its MAGIC is listed twice. Slot B: MAGIC, FORMAT 1, LENGTH 1, generation 0, and at the
4 KiB boundary a trailer that holds two certificates (spec/14 Table 14-3, spec/15 Table 15-1). -/
def doubledCells : Cells :=
  [(fwBase 0, 1), (fwBase 0, 1),
   (fwBase 1, 0x57), (fwBase 1 + 1, 0x5a), (fwBase 1 + 2, 0x46), (fwBase 1 + 3, 0x57), (fwBase 1 + 4, 1), (fwBase 1 + 8, 1),
   (fwBase 1 + 4096, 0x57), (fwBase 1 + 4097, 0x5a), (fwBase 1 + 4098, 0x54), (fwBase 1 + 4099, 0x52), (fwBase 1 + 4100, 1),
   (fwBase 1 + 4102, 2)]

/-- A module that is on, before mask ROM runs; firmware slot A is on trial and has had its two starts (spec/15 R380). -/
def doubledMagic : State :=
  { State.reset with
    power := { PowerSt.reset with good := true, domains := [(18, { Domain.reset with on := true })] }
    flash := { Flash.reset with
      cells := doubledCells, boot := some ⟨0, ⟨true, 2⟩, ⟨false, 0⟩, ⟨false, 0⟩, ⟨false, 0⟩⟩ } }

/-- What a trailer for firmware reads as: a good signature, and a leaf certificate under the module's own root. -/
def firmwareSig : SigRead :=
  ⟨true, [⟨true, true, [], some .firmware, none⟩, ⟨true, false, doubledMagic.warden.rootDigest, none, none⟩]⟩

/-- What `State.clearMagic_magic` asks for and the statement does not. -/
theorem doubledMagic_notCanonical : cellsWf 0 doubledMagic.flash.cells = false := by decide +kernel

theorem doubledMagic_beforeRom : doubledMagic.alive = true ∧ doubledMagic.warden.running = false ∧
    doubledMagic.warden.halted = false := by decide +kernel

/-- Slot A is tried first and is spent, and slot B starts. -/
theorem doubledMagic_slots :
    0 = (doubledMagic.chooseWarden.reconstruct 1).flash.firstOf fwBase ∧
      (doubledMagic.chooseWarden.reconstruct 1).spent (fwBase 0) (·.fw 0) = true ∧
      (doubledMagic.chooseWarden.reconstruct 1).spent (fwBase (1 - 0)) (·.fw (1 - 0)) = false ∧
      (doubledMagic.chooseWarden.reconstruct 1).fwVerdict (1 - 0)
        (doubledMagic.signedFor (fwBase (1 - 0)) .firmware firmwareSig) = 0 := by decide +kernel

/-- Only the first of the two cells is cleared, and MAGIC still reads as 1. -/
theorem doubledMagic_magic (t : State) (h : exec (.maskRomBoot 1 firmwareSig firmwareSig) doubledMagic = .next t) :
    t.flash.magic (fwBase 0) = 1 := by
  simp only [exec, execMaskRomBoot, Host.Outcome.next.injEq] at h
  subst h
  decide +kernel

/-- Refutes O57: the statement takes any flash, and in one that lists the first byte of slot A's MAGIC twice, clearing the spent
slot A leaves that MAGIC other than zero. -/
theorem not_startUp : ¬ Obligations.StartUp := by
  unfold Obligations.StartUp
  rintro ⟨-, rom, -⟩
  obtain ⟨alive, running, halted⟩ := doubledMagic_beforeRom
  obtain ⟨first, spentA, spentB, startsB⟩ := doubledMagic_slots
  obtain ⟨-, -, spent, -⟩ := rom doubledMagic _ 1 0 firmwareSig firmwareSig
    (fun k => doubledMagic.signedFor (fwBase k) .firmware firmwareSig) alive running halted rfl first (by decide)
    (fun k => by simp only [ite_self]) spentB
  obtain ⟨t, boots, -, -, -, cleared, -⟩ := spent spentA startsB
  rw [doubledMagic_magic t boots] at cleared
  exact one_ne_zero cleared

end Sys2Proof.Machine
end

section
/-! The image in force (spec/02 R28): what every command outside power, start-up and the host links keeps of `State.frame`, and the commands
of those families that leave the image alone. -/

namespace Sys2Proof

/-- The commands of power, start-up and the host links, which may change part of `State.frame`. -/
def Instr.setsFrame : Instr → Bool
  | .powerGood | .inputOutOfRange .. | .domainSwitchOn .. | .domainRegulationTimeout .. | .phaseFault .. | .limiterWindow ..
  | .fastLimit .. | .thermtrip .. | .pwrCycleReqTimeout | .sleep | .wake .. | .clockMonitorExcursion .. | .clockRecovered
  | .voltageMonitorExcursion .. | .tempMonitorExcursion .. | .junctionHoldRelease .. | .stackTempSample .. | .throttleStepLeave ..
  | .thermalPredictorSample .. | .hostLinkReset .. | .configRequest .. | .portTrainingStart .. | .chipReset .. | .chipResetTimer
  | .deadlineTimer | .maskRomBoot .. | .imageVerify .. | .hbmTrained .. | .standsReady | .activateFirmware .. | .hostLinkUp ..
  | .standbyPowerLoss | .monitorBackInRange .. => true
  | _ => false

/-- The commands that apply an image, reset the chip or take power. -/
def Instr.setsImage : Instr → Bool
  | .powerGood | .inputOutOfRange .. | .thermtrip .. | .pwrCycleReqTimeout | .sleep | .wake .. | .chipReset .. | .imageVerify .. => true
  | _ => false

theorem Instr.setsImage_cases : ∀ c : Instr, c.setsImage = true →
    (∃ scan, c = .chipReset scan) ∨ (∃ a b d e m sc l, c = .imageVerify a b d e m sc l) ∨ c = .powerGood ∨
      (∃ mv, c = .inputOutOfRange mv) ∨ (∃ k u d, c = .thermtrip k u d) ∨ c = .pwrCycleReqTimeout ∨ c = .sleep ∨ ∃ n, c = .wake n
  | .chipReset _, _ | .imageVerify .., _ | .powerGood, _ | .inputOutOfRange _, _ | .thermtrip .., _ | .pwrCycleReqTimeout, _
  | .sleep, _ | .wake _, _ => by simp

end Sys2Proof

namespace Sys2Proof.Machine

/-- Every other command keeps the queue, the ordering code, the image in force, the milestones, power, and which host links are up. -/
theorem exec_frame {s t : State} : ∀ c : Instr, c.setsFrame = false → exec c s = .next t → t.frame = s.frame
  | .refreshRateRestore stack, _, h => execRefreshRateRestore_frame stack s t h
  | .hbmRefresh stack, _, h => execHbmRefresh_frame stack s t h
  | .linkRecalibration kind unit, _, h => execLinkRecalibration_frame kind unit s t h
  | .perstDeassert link, _, h => execPerstDeassert_frame link s t h
  | .chuteWrite link stand offset data, _, h => execChuteWrite_frame link stand offset data s t h
  | .chutePtrMismatch stand, _, h => execChutePtrMismatch_frame stand s t h
  | .drop link stand, _, h => execDrop_frame link stand s t h
  | .resRelease link stand slot gen, _, h => execResRelease_frame link stand slot gen s t h
  | .registerWrite link offset width value, _, h => execRegisterWrite_frame link offset width value s t h
  | .bar4Read link offset count, _, h => execBar4Read_frame link offset count s t h
  | .bar4Write link offset data, _, h => execBar4Write_frame link offset data s t h
  | .headerRefusal stand, _, h => execHeaderRefusal_frame stand s t h
  | .commandIssue stand, _, h => execCommandIssue_frame stand s t h
  | .commandComplete stand ticket, _, h => execCommandComplete_frame stand ticket s t h
  | .matmul stand ticket, _, h => execMatmul_frame stand ticket s t h
  | .matmulPlane stand ticket, _, h => execMatmulPlane_frame stand ticket s t h
  | .vecop stand ticket, _, h => execVecop_frame stand ticket s t h
  | .rowop stand ticket, _, h => execRowop_frame stand ticket s t h
  | .move stand ticket, _, h => execMove_frame stand ticket s t h
  | .gather stand ticket, _, h => execGather_frame stand ticket s t h
  | .scatterAdd stand ticket, _, h => execScatterAdd_frame stand ticket s t h
  | .window stand ticket, _, h => execWindow_frame stand ticket s t h
  | .optim stand ticket, _, h => execOptim_frame stand ticket s t h
  | .accum stand ticket, _, h => execAccum_frame stand ticket s t h
  | .sweep stand ticket, _, h => execSweep_frame stand ticket s t h
  | .digest stand ticket, _, h => execDigest_frame stand ticket s t h
  | .reduce stand ticket, _, h => execReduce_frame stand ticket s t h
  | .collective stand ticket, _, h => execCollective_frame stand ticket s t h
  | .permute stand ticket, _, h => execPermute_frame stand ticket s t h
  | .ownerLoad stand ticket, _, h => execOwnerLoad_frame stand ticket s t h
  | .stepBegin stand, _, h => execStepBegin_frame stand s t h
  | .stepEnd stand, _, h => execStepEnd_frame stand s t h
  | .commit stand ticket, _, h => execCommit_frame stand ticket s t h
  | .checkpoint stand ticket, _, h => execCheckpoint_frame stand ticket s t h
  | .restore stand ticket, _, h => execRestore_frame stand ticket s t h
  | .fencePeer stand ticket, _, h => execFencePeer_frame stand ticket s t h
  | .readmit stand ticket, _, h => execReadmit_frame stand ticket s t h
  | .event stand, _, h => execEvent_frame stand s t h
  | .result stand, _, h => execResult_frame stand s t h
  | .nop stand, _, h => execNop_frame stand s t h
  | .scalerCheck stand ticket tile, _, h => execScalerCheck_frame stand ticket tile s t h
  | .recompute stand ticket devs, _, h => execRecompute_frame stand ticket devs s t h
  | .laneReexecution unit lane again stand ticket, _, h => execLaneReexecution_frame unit lane again stand ticket s t h
  | .tapTile stand ticket core tile, _, h => execTapTile_frame stand ticket core tile s t h
  | .coreHandover cluster logical toSpare, _, h => execCoreHandover_frame cluster logical toSpare s t h
  | .columnRemap array column, _, h => execColumnRemap_frame array column s t h
  | .cruiseStep cluster, _, h => execCruiseStep_frame cluster s t h
  | .cruiseRunEnd passed, _, h => execCruiseRunEnd_frame passed s t h
  | .cruiseOverdue core, _, h => execCruiseOverdue_frame core s t h
  | .landingCruise die engine passed, _, h => execLandingCruise_frame die engine passed s t h
  | .sramScrub store word macro_ row, _, h => execSramScrub_frame store word macro_ row s t h
  | .hbmScrub die block, _, h => execHbmScrub_frame die block s t h
  | .repairMove stack words, _, h => execRepairMove_frame stack words s t h
  | .flumeGrant die turn, _, h => execFlumeGrant_frame die turn s t h
  | .flumeBurstSample die gate burstBytes busy, _, h => execFlumeBurstSample_frame die gate burstBytes busy s t h
  | .copyAhead die stand block, _, h => execCopyAhead_frame die stand block s t h
  | .backgroundCopyRead stand, _, h => execBackgroundCopyRead_frame stand s t h
  | .deliveryIntoG stand ticket, _, h => execDeliveryIntoG_frame stand ticket s t h
  | .reductionPiece stand ticket, _, h => execReductionPiece_frame stand ticket s t h
  | .lateWindowExpire stand ticket segment, _, h => execLateWindowExpire_frame stand ticket segment s t h
  | .segmentForm stand ticket segment, _, h => execSegmentForm_frame stand ticket segment s t h
  | .permuteClose stand ticket, _, h => execPermuteClose_frame stand ticket s t h
  | .put port txn, _, h => execPut_frame port txn s t h
  | .get port txn, _, h => execGet_frame port txn s t h
  | .reducePut port txn, _, h => execReducePut_frame port txn s t h
  | .permuteMessage port txn, _, h => execPermuteMessage_frame port txn s t h
  | .time port txn, _, h => execTime_frame port txn s t h
  | .timeResponse port txn, _, h => execTimeResponse_frame port txn s t h
  | .heartbeat port txn, _, h => execHeartbeat_frame port txn s t h
  | .fence port txn, _, h => execFence_frame port txn s t h
  | .txnResponse port txn, _, h => execTxnResponse_frame port txn s t h
  | .transitForward port txn, _, h => execTransitForward_frame port txn s t h
  | .txnTimeout stand tag, _, h => execTxnTimeout_frame stand tag s t h
  | .timeExchange, _, h => execTimeExchange_frame s t h
  | .timeSlew, _, h => execTimeSlew_frame s t h
  | .heartbeatSend, _, h => execHeartbeatSend_frame s t h
  | .peerSilent stand device, _, h => execPeerSilent_frame stand device s t h
  | .flitReceive port flit, _, h => execFlitReceive_frame port flit s t h
  | .nak port ack, _, h => execNak_frame port ack s t h
  | .retryTimeout port, _, h => execRetryTimeout_frame port s t h
  | .egressArbitrate port, _, h => execEgressArbitrate_frame port s t h
  | .laneFailing port lane codewords, _, h => execLaneFailing_frame port lane codewords s t h
  | .subst port lane, _, h => execSubst_frame port lane s t h
  | .degrade request, _, h => execDegrade_frame request s t h
  | .portDown port, _, h => execPortDown_frame port s t h
  | .portTrained port healthy, _, h => execPortTrained_frame port healthy s t h
  | .hello port device peerPort, _, h => execHello_frame port device peerPort s t h
  | .trainingTimeout port, _, h => execTrainingTimeout_frame port s t h
  | .ready port, _, h => execReady_frame port s t h
  | .rampDoubling port, _, h => execRampDoubling_frame port s t h
  | .lock bond lags, _, h => execLock_frame bond lags s t h
  | .lockRemeasure bond, _, h => execLockRemeasure_frame bond s t h
  | .dieLinkFlit die port waiting checkOk, _, h => execDieLinkFlit_frame die port waiting checkOk s t h
  | .dieLinkLaneFail die port lane, _, h => execDieLinkLaneFail_frame die port lane s t h
  | .commitPhase1End stand ticket, _, h => execCommitPhase1End_frame stand ticket s t h
  | .ledgerSettled stand ticket, _, h => execLedgerSettled_frame stand ticket s t h
  | .commitMessage stand msg, _, h => execCommitMessage_frame stand msg s t h
  | .commitWaitExpire stand ticket, _, h => execCommitWaitExpire_frame stand ticket s t h
  | .rollback due, _, h => execRollback_frame due s t h
  | .replayIssue stand, _, h => execReplayIssue_frame stand s t h
  | .engineWatchdog stand engine, _, h => execEngineWatchdog_frame stand engine s t h
  | .waitWatchdog stand, _, h => execWaitWatchdog_frame stand s t h
  | .contextResetRequest link stand context, _, h => execContextResetRequest_frame link stand context s t h
  | .standResetRequest link stand, _, h => execStandResetRequest_frame link stand s t h
  | .headDiscard stand, _, h => execHeadDiscard_frame stand s t h
  | .rungTimeout stand, _, h => execRungTimeout_frame stand s t h
  | .standReset stand, _, h => execStandReset_frame stand s t h
  | .sampleBoxExpire stand sampled, _, h => execSampleBoxExpire_frame stand sampled s t h
  | .deadlineRearm, _, h => execDeadlineRearm_frame s t h
  | .lockstepMismatch, _, h => execLockstepMismatch_frame s t h
  | .wardenTakeover, _, h => execWardenTakeover_frame s t h
  | .standbyFault, _, h => execStandbyFault_frame s t h
  | .wearLedgerWrite, _, h => execWearLedgerWrite_frame s t h
  | .ledgerCompact, _, h => execLedgerCompact_frame s t h
  | .captureCopy index, _, h => execCaptureCopy_frame index s t h
  | .eventLogCopy, _, h => execEventLogCopy_frame s t h
  | .sensorSample sensor reading, _, h => execSensorSample_frame sensor reading s t h
  | .entdaa address, _, h => execEntdaa_frame address s t h
  | .getCertificate via slot offset length, _, h => execGetCertificate_frame via slot offset length s t h
  | .challenge via nonce, _, h => execChallenge_frame via nonce s t h
  | .getMeasurements via index signed nonce, _, h => execGetMeasurements_frame via index signed nonce s t h
  | .spdmNegotiation via code data, _, h => execSpdmNegotiation_frame via code data s t h
  | .requestUpdate via, _, h => execRequestUpdate_frame via s t h
  | .updateTransfer via component offset data, _, h => execUpdateTransfer_frame via component offset data s t h
  | .verifyComplete via component sig, _, h => execVerifyComplete_frame via component sig s t h
  | .mailboxWrite link mbox offset data, _, h => execMailboxWrite_frame link mbox offset data s t h
  | .logRead via, _, h => execLogRead_frame via s t h
  | .ledgerRead via, _, h => execLedgerRead_frame via s t h
  | .sampleRead via, _, h => execSampleRead_frame via s t h
  | .captureRead via, _, h => execCaptureRead_frame via s t h
  | .routeRead via, _, h => execRouteRead_frame via s t h
  | .sensorRead via, _, h => execSensorRead_frame via s t h
  | .certRead via, _, h => execCertRead_frame via s t h
  | .pldm via, _, h => execPldm_frame via s t h
  | .variantRead via, _, h => execVariantRead_frame via s t h
  | .mailboxAbort link mbox, _, h => execMailboxAbort_frame link mbox s t h
  | .mailboxRelease link mbox gen, _, h => execMailboxRelease_frame link mbox gen s t h
  | .mctpControlMessage code data, _, h => execMctpControlMessage_frame code data s t h
  | .laneMarkerReceive port lane, _, h => execLaneMarkerReceive_frame port lane s t h

theorem img_of_frame {s t : State} (h : t.frame = s.frame) : t.img = s.img := congrArg (fun f => f.2.2.1) h

/-! ### Operations of power and start-up -/

section
variable (s : State)

@[simp] theorem State.count_img (k n : Nat) : (s.count k n).img = s.img := rfl
@[simp] theorem State.countModule_img (c : Nat) : (s.countModule c).img = s.img := rfl
@[simp] theorem State.event_img (code unit data : Nat) : (s.event code unit data).img = s.img := rfl
@[simp] theorem State.wear_img (kind cause unit detail : Nat) : (s.wear kind cause unit detail).img = s.img := rfl
@[simp] theorem State.send_img (o : Output) : (s.send o).img = s.img := rfl
@[simp] theorem State.setDie_img (d : Nat) (x : DieSt) : (s.setDie d x).img = s.img := rfl
@[simp] theorem State.setStack_img (n : Nat) (x : StackSt) : (s.setStack n x).img = s.img := rfl
@[simp] theorem State.setPort_img (p : Nat) (x : PortSt) : (s.setPort p x).img = s.img := rfl
@[simp] theorem State.setDomain_img (pd : Nat) (x : Domain) : (s.setDomain pd x).img = s.img := rfl
@[simp] theorem State.setZone_img (z : Nat) (x : Zone) : (s.setZone z x).img = s.img := rfl
@[simp] theorem State.setLink_img (l : LinkId) (x : HostLink) : (s.setLink l x).img = s.img := by cases l <;> rfl
@[simp] theorem State.onDies_img (ds : List Nat) (f : DieSt → DieSt) : (s.onDies ds f).img = s.img := rfl
@[simp] theorem State.excursion_img (ds : List Nat) (kind c : Nat) : (s.excursion ds kind c).img = s.img := img_of_frame (by simp)
@[simp] theorem State.decideChipReset_img (cause : Nat) : (s.decideChipReset cause).img = s.img := img_of_frame (by simp)
@[simp] theorem State.wardenReset_img (cause : Nat) : (s.wardenReset cause).img = s.img := img_of_frame (by simp)
@[simp] theorem State.updateBoot_img (f : BootState → BootState) : (s.updateBoot f).img = s.img := img_of_frame (by simp)
@[simp] theorem State.msixFlush_img (l : LinkId) : (s.msixFlush l).img = s.img := img_of_frame (by simp)
@[simp] theorem State.portsReady_img : s.portsReady.img = s.img := img_of_frame (by simp)
@[simp] theorem State.rearm_img : s.rearm.img = s.img := img_of_frame (by simp)

theorem foldl_img {α : Type} (f : State → α → State) (h : ∀ u a, (f u a).img = u.img) (l : List α) (s : State) :
    (l.foldl f s).img = s.img := by
  induction l generalizing s with
  | nil => rfl
  | cons a l ih => rw [List.foldl_cons, ih, h]

@[simp] theorem State.foldl_event_img (code data : Nat) (l : List Nat) : (l.foldl (fun u n => u.event code n data) s).img = s.img :=
  foldl_img _ (fun u n => by rfl) l s

@[simp] theorem State.foldl_setStack_img (f : State → Nat → StackSt) (l : List Nat) :
    (l.foldl (fun u n => u.setStack n (f u n)) s).img = s.img :=
  foldl_img _ (fun u n => by rfl) l s

@[simp] theorem State.requestCycle_img (why : Nat) : (s.requestCycle why).img = s.img := by
  simp [State.requestCycle, apply_ite State.img]

@[simp] theorem State.startFault_img (code : Nat) : (s.startFault code).img = s.img := by
  simp [State.startFault, apply_ite State.img]

@[simp] theorem State.missingUnits_img (units : List Nat) : (s.missingUnits units).img = s.img := by
  simp [State.missingUnits, apply_ite State.img]

@[simp] theorem State.domainFails_img (pd : Nat) : (s.domainFails pd).img = s.img := by
  simp [State.domainFails, apply_ite State.img]

@[simp] theorem State.settleZone_img (z : Nat) : (s.settleZone z).img = s.img := by
  simp [State.settleZone, apply_ite State.img]

@[simp] theorem State.linkLost_img (l : LinkId) (why : LinkEnd) : (s.linkLost l why).img = s.img := by simp [State.linkLost]

@[simp] theorem State.configure_img (l : LinkId) (q : CfgReq) : (s.configure l q).img = s.img := by
  cases q <;> simp [State.configure]

@[simp] theorem State.fabricCheck_img : s.fabricCheck.img = s.img := by
  simp [State.fabricCheck, apply_ite State.img]

@[simp] theorem State.startWarden_img (slot : Nat) (fallback : Bool) : (s.startWarden slot fallback).img = s.img := rfl

@[simp] theorem State.leaveRecovery_img : s.leaveRecovery.img = s.img := by simp [State.leaveRecovery]

@[simp] theorem State.tryFw_img (slot : Nat) (sig : Bool) : (s.tryFw slot sig).1.img = s.img := img_of_frame (by simp)

@[simp] theorem State.chooseWarden_reconstruct_img (puf : Nat) : (s.chooseWarden.reconstruct puf).img = s.img :=
  img_of_frame (by simp)

@[simp] theorem State.startStands_img : s.startStands.img = s.img := by
  simp only [State.startStands]
  rw [foldl_img _ (fun u st => by split <;> rfl), foldl_img _ (fun u c => by rfl), foldl_img _ (fun u l => by rfl)]

end

/-! ### Commands -/

theorem img_of_next {s t u : State} (h : (.next u : Host.Outcome State Fault Refusal) = .next t)
    (hu : u.img = s.img := by simp [apply_ite State.img]) : t.img = s.img := by
  obtain rfl := Host.Outcome.next.inj h
  exact hu

/-- Of power, start-up and the host links, the commands that do not apply an image, reset the chip or take power keep the image. -/
theorem exec_img_of_setsFrame {s t : State} : ∀ c : Instr, c.setsFrame = true → c.setsImage = false → exec c s = .next t →
    t.img = s.img
  | .domainSwitchOn _, _, _, h => img_of_next h
  | .domainRegulationTimeout _, _, _, h => img_of_next h
  | .phaseFault .., _, _, h => img_of_next h
  | .limiterWindow .., _, _, h => img_of_next h
  | .fastLimit _, _, _, h => img_of_next h
  | .clockMonitorExcursion _, _, _, h => img_of_next h
  | .clockRecovered, _, _, h => img_of_next h
  | .voltageMonitorExcursion .., _, _, h => img_of_next h
  | .tempMonitorExcursion .., _, _, h => img_of_next h
  | .junctionHoldRelease _, _, _, h => img_of_next h
  | .stackTempSample .., _, _, h => img_of_next h
  | .throttleStepLeave _, _, _, h => img_of_next h
  | .thermalPredictorSample _, _, _, h => img_of_next h (by (repeat' split) <;> simp)
  | .hostLinkReset .., _, _, h => img_of_next h
  | .configRequest .., _, _, h => img_of_next h
  | .portTrainingStart _, _, _, h => img_of_next h
  | .chipResetTimer, _, _, h => img_of_next h
  | .deadlineTimer, _, _, h => img_of_next h
  | .maskRomBoot .., _, _, h => img_of_next h
  | .hbmTrained _, _, _, h => img_of_next h
  | .standsReady, _, _, h => img_of_next h
  | .activateFirmware _, _, _, h => img_of_next h
  | .hostLinkUp _, _, _, h => img_of_next h
  | .standbyPowerLoss, _, _, h => img_of_next h rfl
  | .monitorBackInRange .., _, _, h => img_of_next h

/-- A command that does not apply an image, reset the chip or take power keeps the image in force (spec/02 R28). -/
theorem exec_img {s t : State} {c : Instr} (hc : c.setsImage = false) (h : exec c s = .next t) : t.img = s.img := by
  cases hf : c.setsFrame
  · exact img_of_frame (exec_frame c hf h)
  · exact exec_img_of_setsFrame c hf hc h

/-- Settles O5: every command but those that the statement names keeps the image (`exec_img`). -/
theorem imageChangesOnlyAtStart : Obligations.ImageChangesOnlyAtStart := by
  unfold Obligations.ImageChangesOnlyAtStart
  intro c s t h
  cases hc : c.setsImage
  · exact .inl (exec_img hc h)
  · exact .inr (Instr.setsImage_cases c hc)

end Sys2Proof.Machine
end

section
/-! What the shared operations of a stand's front end do to the stands, and that they touch nothing else (spec/02 R38 to R54). -/

namespace Sys2Proof.Machine

/-! ### Reading a stand, a link and a counter back -/

section
variable (s : State)

@[simp] theorem State.setStand_stand_same (st : Nat) (x : StandSt) : (s.setStand st x).stand st = x := by
  simp [State.stand, State.setStand]

theorem State.setStand_stand_ne {st k : Nat} (h : k ≠ st) (x : StandSt) : (s.setStand st x).stand k = s.stand k := by
  simp [State.stand, State.setStand, Tab.get_set_ne _ _ _ _ _ (Ne.symm h)]

@[simp] theorem State.countStand_stand (st c k : Nat) : (s.countStand st c).stand k = s.stand k := rfl
@[simp] theorem State.send_stand (o : Output) (k : Nat) : (s.send o).stand k = s.stand k := rfl
@[simp] theorem State.setLink_stand (l : LinkId) (x : HostLink) (k : Nat) : (s.setLink l x).stand k = s.stand k := by cases l <;> rfl

@[simp] theorem State.setLink_link_same (l : LinkId) (x : HostLink) : (s.setLink l x).link l = x := by cases l <;> rfl

theorem State.setLink_link_ne {l k : LinkId} (h : k ≠ l) (x : HostLink) : (s.setLink l x).link k = s.link k := by
  cases l <;> cases k <;> [exact absurd rfl h; rfl; rfl; exact absurd rfl h]

@[simp] theorem State.setLink_self (l : LinkId) : s.setLink l (s.link l) = s := by cases l <;> rfl

theorem Counters.get_add_same (c : Counters) (k n : Nat) : (c.add k n).get k = c.get k + BitVec.ofNat 48 n := by
  unfold Counters.add
  split
  · next zero => simp [zero]
  · simp [Counters.get]

/-- One more event counted, and one only. -/
theorem State.count_one (c : Nat) : (s.count c 1).counters.get c = s.counters.get c + 1 := Counters.get_add_same _ _ _

@[simp] theorem State.msix_stand (l : LinkId) (v k : Nat) : (s.msix l v).stand k = s.stand k := by
  simp only [State.msix]; (repeat' split) <;> simp

end

/-! ### Only one stand is touched -/

/-- From `s` to `t` nothing changes but stand `st`, the counters, and what goes to the hosts. -/
def State.onlyStand (s t : State) (st : Nat) : Prop := s.standOnly t st ∧ s.unitsKept t

theorem State.onlyStand.trans {s t u : State} {st : Nat} (h : s.onlyStand t st) (k : t.onlyStand u st) : s.onlyStand u st := by
  obtain ⟨hs, ⟨h1, h2, h3⟩, h4, h5, h6, h7, h8, h9, h10, h11⟩ := h
  obtain ⟨ks, ⟨k1, k2, k3⟩, k4, k5, k6, k7, k8, k9, k10, k11⟩ := k
  exact ⟨fun j hj => (ks j hj).trans (hs j hj), ⟨k1.trans h1, k2.trans h2, k3.trans h3⟩, k4.trans h4, k5.trans h5, k6.trans h6,
    k7.trans h7, k8.trans h8, k9.trans h9, k10.trans h10, k11.trans h11⟩

section
variable (s : State) (st : Nat)

theorem State.onlyStand.refl : s.onlyStand s st := ⟨fun _ _ => rfl, ⟨rfl, rfl, rfl⟩, rfl, rfl, rfl, rfl, rfl, rfl, rfl, rfl⟩

theorem State.setStand_onlyStand (x : StandSt) : s.onlyStand (s.setStand st x) st :=
  ⟨fun _ hk => s.setStand_stand_ne hk x, ⟨rfl, rfl, rfl⟩, rfl, rfl, rfl, rfl, rfl, rfl, rfl, rfl⟩

theorem State.count_onlyStand (c n : Nat) : s.onlyStand (s.count c n) st := State.onlyStand.refl s st

theorem State.msix_onlyStand (l : LinkId) (v : Nat) : s.onlyStand (s.msix l v) st := by
  refine ⟨fun _ _ => s.msix_stand l v _, ⟨?_, ?_, ?_⟩, ?_, ?_, ?_, ?_, ?_, ?_, ?_, s.msix_frame l v⟩ <;>
    (simp only [State.msix]; cases l <;> (repeat' split) <;> rfl)

theorem State.foldl_countStand_onlyStand (cs : List Nat) : s.onlyStand (cs.foldl (fun t c => t.countStand st c) s) st := by
  induction cs generalizing s with
  | nil => exact State.onlyStand.refl s st
  | cons c cs ih => exact (s.count_onlyStand st _ 1).trans (ih (s.countStand st c))

@[simp] theorem State.foldl_countStand_stand (cs : List Nat) (k : Nat) :
    (cs.foldl (fun t c => t.countStand st c) s).stand k = s.stand k := by
  induction cs generalizing s with
  | nil => rfl
  | cons c cs ih => exact ih (s.countStand st c)

end

/-! ### A result slot written (spec/02 R50, R54) -/

section
variable (s : State) (st n : Nat) (link : LinkId) (bytes payload : List Byte) (status : W16)

/-- The result of a command written into a slot. -/
def StandSt.written (x : StandSt) (n : Nat) (bytes : List Byte) (status : W16) (payload : List Byte) : StandSt :=
  let v := (x.slot n).write (BitVec.ofNat 32 (fld bytes 8 4)) status (bits (fld bytes 4 1) 3 0) (fld bytes 0 1) payload
  { x with slots := x.slots.set n v }

theorem State.writeSlot_stand : (s.writeSlot st n link bytes status payload).stand st =
    (s.stand st).written n bytes status payload := by
  simp [State.writeSlot, StandSt.written]

theorem State.writeSlot_onlyStand : s.onlyStand (s.writeSlot st n link bytes status payload) st :=
  (s.setStand_onlyStand st _).trans (State.msix_onlyStand _ st link st)

end

/-! ### The head packet leaves the chute (spec/02 R47, Table 2-8) -/

section
variable (s : State) (st : Nat)

/-- What the head packet's leaving makes of its stand. -/
def StandSt.popped (x : StandSt) (now : W64) : StandSt :=
  match x.chute.packets with
  | [] => x
  | p :: ps =>
    let c := { x.chute with packets := ps, headAt := now, seq := BitVec.ofNat 32 (fld p.bytes 8 4), seqValid := true }
    { x with
      chute := c.advanceHead p.flits
      rst := { x.rst with discard := (x.rst.discard.map (fun d => (d.1, d.2 - 1))).filter (fun d => decide (0 < d.2)) } }

theorem State.popHead_stand : (s.popHead st).stand st = (s.stand st).popped s.clock.now := by
  unfold State.popHead StandSt.popped
  split <;> simp_all

theorem State.popHead_onlyStand : s.onlyStand (s.popHead st) st := by
  simp only [State.popHead]
  split
  · exact State.onlyStand.refl s st
  · exact s.setStand_onlyStand st _

theorem StandSt.popped_packets {x : StandSt} {p : Packet} {ps : List Packet} (h : x.chute.packets = p :: ps) (now : W64) :
    (x.popped now).chute.packets = ps := by
  simp [StandSt.popped, h, Chute.advanceHead]

theorem StandSt.popped_seq {x : StandSt} {p : Packet} {ps : List Packet} (h : x.chute.packets = p :: ps) (now : W64) :
    (x.popped now).chute.seq = BitVec.ofNat 32 (fld p.bytes 8 4) := by
  simp [StandSt.popped, h, Chute.advanceHead]

/-- Apart from the chute and the discards that wait, the stand is as it was. -/
theorem StandSt.popped_rest (x : StandSt) (now : W64) :
    x.popped now = { x with chute := (x.popped now).chute, rst := (x.popped now).rst } := by
  unfold StandSt.popped; split <;> rfl

section
variable (x : StandSt) (now : W64)

@[simp] theorem StandSt.popped_slots : (x.popped now).slots = x.slots := by rw [StandSt.popped_rest]
@[simp] theorem StandSt.popped_cursor : (x.popped now).cursor = x.cursor := by rw [StandSt.popped_rest]
@[simp] theorem StandSt.popped_evt : (x.popped now).evt = x.evt := by rw [StandSt.popped_rest]
@[simp] theorem StandSt.popped_wait : (x.popped now).wait = x.wait := by rw [StandSt.popped_rest]
@[simp] theorem StandSt.popped_inflight : (x.popped now).inflight = x.inflight := by rw [StandSt.popped_rest]
@[simp] theorem StandSt.popped_steps : (x.popped now).steps = x.steps := by rw [StandSt.popped_rest]

end

end

/-! ### The head packet refused (spec/02 R46, R50, R417) -/

section
variable (s : State) (st n : Nat) (p : Packet) (v : W16)

theorem State.refuseHead_stand : (s.refuseHead st n p v).stand st =
    (((s.stand st).reserve n).written n p.bytes v []).popped s.clock.now := by
  obtain ⟨-, -, -, -, clock, -⟩ := (((s.setStand_onlyStand st ((s.stand st).reserve n)).trans
    (State.writeSlot_onlyStand _ st n p.link p.bytes [] v)).trans
    (State.foldl_countStand_onlyStand _ st (refusalCounters v)))
  rw [State.refuseHead, State.popHead_stand, State.foldl_countStand_stand, State.writeSlot_stand, State.setStand_stand_same, clock]

theorem State.refuseHead_onlyStand : s.onlyStand (s.refuseHead st n p v) st :=
  (((s.setStand_onlyStand st ((s.stand st).reserve n)).trans (State.writeSlot_onlyStand _ st n p.link p.bytes [] v)).trans
    (State.foldl_countStand_onlyStand _ st (refusalCounters v))).trans (State.popHead_onlyStand _ st)

theorem State.refuseHead_slot_same : ((s.refuseHead st n p v).stand st).slot n =
    ⟨.ready, BitVec.ofNat 32 (fld p.bytes 8 4), v, nextGen ((s.stand st).slot n).gen, bits (fld p.bytes 4 1) 3 0,
      fld p.bytes 0 1, []⟩ := by
  simp [State.refuseHead_stand, StandSt.slot, StandSt.written, StandSt.reserve, Slot.write]

theorem State.refuseHead_slot_ne {m : Nat} (h : m ≠ n) : ((s.refuseHead st n p v).stand st).slot m = (s.stand st).slot m := by
  simp [State.refuseHead_stand, StandSt.slot, StandSt.written, StandSt.reserve, Tab.get_set_ne _ _ _ _ _ (Ne.symm h)]

theorem State.refuseHead_packets {ps : List Packet} (h : (s.stand st).chute.packets = p :: ps) :
    ((s.refuseHead st n p v).stand st).chute.packets = ps := by
  rw [State.refuseHead_stand, StandSt.popped_packets]; exact h

theorem State.refuseHead_seq {ps : List Packet} (h : (s.stand st).chute.packets = p :: ps) :
    ((s.refuseHead st n p v).stand st).chute.seq = BitVec.ofNat 32 (fld p.bytes 8 4) := by
  rw [State.refuseHead_stand, StandSt.popped_seq]; exact h

theorem State.refuseHead_rest : ((s.refuseHead st n p v).stand st).cursor = (n + 1) % 256 ∧
    ((s.refuseHead st n p v).stand st).inflight = (s.stand st).inflight ∧
    ((s.refuseHead st n p v).stand st).evt = (s.stand st).evt ∧ ((s.refuseHead st n p v).stand st).wait = (s.stand st).wait ∧
    ((s.refuseHead st n p v).stand st).steps = (s.stand st).steps := by
  simp [State.refuseHead_stand, StandSt.written, StandSt.reserve]

end

end Sys2Proof.Machine
end

section
/-! Verdicts on the head packet (spec/02 R46 to R50, R417). -/

namespace Sys2Proof.Machine

/-- A WAIT condition that does not hold keeps the head command in the chute (spec/02 R48). -/
theorem State.issuable_none_of_wait {s : State} {st : Nat} {p : Packet} {ps : List Packet}
    (hp : (s.stand st).chute.packets = p :: ps) (hw : bit (fld p.bytes 1 1) 0 = true)
    (h : 2 ^ 31 ≤ ((s.stand st).evt.get 0 (fld p.bytes 6 1) - (s.stand st).wait.get 0 (fld p.bytes 7 1)).toNat) :
    s.issuable st = none := by
  have holds : (s.stand st).waitHolds p.bytes = false := decide_eq_false (by omega)
  simp [State.issuable, hp, hw, holds]

theorem State.issuable_head {s : State} {st : Nat} {p q : Packet} {ps : List Packet}
    (hp : (s.stand st).chute.packets = p :: ps) (h : s.issuable st = some q) : q = p := by
  simp only [State.issuable, hp] at h
  split at h
  · exact (Option.some.inj h).symm
  · exact absurd h (by simp)

/-- With no slot free, a head command that is refused or needs a slot stays (spec/02 R50). -/
theorem State.issueHead_of_noSlot {s : State} {st : Nat} {p : Packet} (hs : (s.stand st).freeSlot = none)
    (h : slotless p.bytes = false ∨ s.issueCheck st p.bytes ≠ none) : s.issueHead st p = s := by
  simp only [State.issueHead, hs]
  cases hc : s.issueCheck st p.bytes with
  | none => simp [h.resolve_right (not_not_intro hc)]
  | some v => rfl

theorem State.tryIssue_of_none {s : State} {st : Nat} (row : Nat → Bool) (h : s.issuable st = none) : s.tryIssue st row = s := by
  simp [State.tryIssue, h]

/-- What keeps every row of issue from the head command. -/
theorem exec_issueRow {c : Instr} (s : State) {st : Nat}
    (hc : c = .commandIssue st ∨ c = .stepBegin st ∨ c = .stepEnd st ∨ c = .event st ∨ c = .result st ∨ c = .nop st) :
    ∃ row, exec c s = .next (s.tryIssue st row) := by
  rcases hc with rfl | rfl | rfl | rfl | rfl | rfl <;> exact ⟨_, rfl⟩

/-- Settles O22: a refused packet leaves as `State.refuseHead` says, and a WAIT condition or the want of a slot keeps the head. -/
theorem headerVerdicts : Obligations.HeaderVerdicts := by
  unfold Obligations.HeaderVerdicts
  refine ⟨?refused, ?held⟩
  case refused =>
    intro s st n p ps hf hp hv hn
    have leaves : exec (.headerRefusal st) s = .next (s.refuseHead st n p p.verdict) := by
      simp only [exec, execHeaderRefusal, hp, hn]
      rw [if_pos ⟨hf, hv⟩]
    obtain ⟨cursor, inflight, evt, wait, steps⟩ := s.refuseHead_rest st n p p.verdict
    obtain ⟨others, units⟩ := s.refuseHead_onlyStand st n p p.verdict
    exact ⟨_, leaves, s.refuseHead_packets st n p _ hp, s.refuseHead_slot_same st n p _, fun m hm => s.refuseHead_slot_ne st n p _ hm,
      cursor, s.refuseHead_seq st n p _ hp, inflight, evt, wait, steps, others, units⟩
  case held =>
    intro c s st p ps hp hc
    obtain ⟨row, runs⟩ := exec_issueRow s hc
    rw [runs]
    constructor
    · intro hw held
      rw [State.tryIssue_of_none row (State.issuable_none_of_wait hp hw held)]
    · intro hs need
      have need' : slotless p.bytes = false ∨ s.issueCheck st p.bytes ≠ none := by
        rcases need with (⟨h0, h2⟩ | rpt) | fails
        · exact .inl (by simp [slotless, h0, h2])
        · exact .inl (by simp [slotless, rpt])
        · exact .inr fails
      unfold State.tryIssue
      split
      · next q hq =>
        obtain rfl := State.issuable_head hp hq
        rw [State.issueHead_of_noSlot hs need', ite_self]
      · rfl

end Sys2Proof.Machine
end

section
/-! A head command issued, and its completion (spec/02 R47 to R53). -/

namespace Sys2Proof.Machine

/-! ### The record of a logged command (spec/12 R306) -/

section
variable (s : State) (st : Nat) (step : W64)

theorem State.onRec_stand (f : StepRec → StepRec) :
    (s.onRec st step f).stand st = { s.stand st with steps := (s.stand st).steps.onRec step f } := by
  simp [State.onRec]

theorem State.onRec_onlyStand (f : StepRec → StepRec) : s.onlyStand (s.onRec st step f) st := s.setStand_onlyStand st _

/-- From `s` to `t` stand `st` keeps everything but its steps. -/
def State.stepsOnly (s t : State) (st : Nat) : Prop := t.stand st = { s.stand st with steps := (t.stand st).steps }

theorem State.overflowRec_stepsOnly : s.stepsOnly (s.overflowRec st step) st := by
  unfold State.overflowRec State.stepsOnly
  (repeat' split) <;> simp [State.onRec_stand]

theorem State.overflowRec_onlyStand : s.onlyStand (s.overflowRec st step) st := by
  unfold State.overflowRec
  split
  · split
    · exact State.onlyStand.refl s st
    · exact (s.onRec_onlyStand st step _).trans (State.count_onlyStand _ st _ 1)
  · exact State.onlyStand.refl s st

theorem State.recordItem_stepsOnly (n : Nat) (f : StepRec → StepRec) : s.stepsOnly (s.recordItem st step n f) st := by
  unfold State.recordItem
  split
  · rfl
  · split_ifs
    · rfl
    · simp [State.stepsOnly, State.onRec_stand]
    · exact s.overflowRec_stepsOnly st step

theorem State.recordItem_onlyStand (n : Nat) (f : StepRec → StepRec) : s.onlyStand (s.recordItem st step n f) st := by
  unfold State.recordItem
  split
  · exact State.onlyStand.refl s st
  · split_ifs
    · exact State.onlyStand.refl s st
    · exact s.onRec_onlyStand st step f
    · exact s.overflowRec_onlyStand st step

end

/-! ### Issue (spec/02 R47) -/

section
variable (s : State) (st : Nat) (p : Packet) (slot : Option Nat)

/-- The stand of an issued command that is still at the head: it has its slot, its ticket and its number in the member table. -/
def StandSt.taken (x : StandSt) (p : Packet) (slot : Option Nat) : StandSt :=
  { (match slot with | some n => x.reserve n | none => x) with
    nextTicket := x.nextTicket + 1
    mtabs := (x.takeInst p.bytes).2 }

/-- What an issue makes of its stand, apart from the record of a logged command. -/
def StandSt.issued (x : StandSt) (p : Packet) (slot : Option Nat) (now : W64) : StandSt := (x.taken p slot).popped now

/-- The state of an issue before the command is recorded. -/
def State.issueUnlogged (s : State) (st : Nat) (p : Packet) (slot : Option Nat) : State :=
  ((s.setStand st ((s.stand st).taken p slot)).countStand st cCmdIssued).popHead st

theorem State.issueUnlogged_stand : (s.issueUnlogged st p slot).stand st = (s.stand st).issued p slot s.clock.now := by
  rw [State.issueUnlogged, State.popHead_stand, State.countStand_stand, State.setStand_stand_same]; rfl

theorem State.issueUnlogged_onlyStand : s.onlyStand (s.issueUnlogged st p slot) st :=
  ((s.setStand_onlyStand st _).trans (State.count_onlyStand _ st _ 1)).trans (State.popHead_onlyStand _ st)

theorem State.issue_eq : (s.issue st p slot).1 = match (s.issue st p slot).2.step with
    | some n => if (s.issue st p slot).2.logged then (s.issueUnlogged st p slot).recordCmd st n ⟨p.bytes, p.link⟩
      else s.issueUnlogged st p slot
    | none => s.issueUnlogged st p slot := rfl

theorem State.issue_onlyStand : s.onlyStand (s.issue st p slot).1 st := by
  have plain := s.issueUnlogged_onlyStand st p slot
  rw [State.issue_eq]
  split
  · split
    · exact plain.trans (State.recordItem_onlyStand _ st _ _ _)
    · exact plain
  · exact plain

/-- An issue changes its stand as `StandSt.issued` says, and its steps where it records the command. -/
theorem State.issue_stand : (s.issue st p slot).1.stand st =
    { (s.stand st).issued p slot s.clock.now with steps := ((s.issue st p slot).1.stand st).steps } := by
  have plain := s.issueUnlogged_stand st p slot
  rw [State.issue_eq]
  split
  · split
    · rw [← plain]; exact State.recordItem_stepsOnly _ st _ _ _
    · rw [plain]
  · rw [plain]

theorem State.issue_steps (h : bit (fld p.bytes 1 1) 2 = false) : ((s.issue st p slot).1.stand st).steps = (s.stand st).steps := by
  have unlogged : (s.issue st p slot).2.logged = false := h
  have plain : (s.issue st p slot).1 = s.issueUnlogged st p slot := by
    rw [State.issue_eq, unlogged]; split <;> rfl
  rw [plain, State.issueUnlogged_stand]
  cases slot <;> simp [StandSt.issued, StandSt.taken, StandSt.reserve]

end

/-! ### What an issue leaves of the stand -/

section
variable (s : State) (st : Nat) (p : Packet) (slot : Option Nat)

theorem State.issue_packets {ps : List Packet} (h : (s.stand st).chute.packets = p :: ps) :
    ((s.issue st p slot).1.stand st).chute.packets = ps := by
  have head : ((s.stand st).taken p slot).chute.packets = p :: ps := by cases slot <;> exact h
  rw [State.issue_stand]
  exact StandSt.popped_packets head _

theorem State.issue_evt : ((s.issue st p slot).1.stand st).evt = (s.stand st).evt := by
  rw [State.issue_stand]; cases slot <;> simp [StandSt.issued, StandSt.taken, StandSt.reserve]

theorem State.issue_wait : ((s.issue st p slot).1.stand st).wait = (s.stand st).wait := by
  rw [State.issue_stand]; cases slot <;> simp [StandSt.issued, StandSt.taken, StandSt.reserve]

theorem State.issue_slots_none : ((s.issue st p none).1.stand st).slots = (s.stand st).slots := by
  rw [State.issue_stand]; simp [StandSt.issued, StandSt.taken]

theorem State.issue_slot_same (n : Nat) : ((s.issue st p (some n)).1.stand st).slot n =
    { (s.stand st).slot n with st := .reserved } := by
  rw [State.issue_stand]; simp [StandSt.slot, StandSt.issued, StandSt.taken, StandSt.reserve]

theorem State.issue_slot_ne {n m : Nat} (h : m ≠ n) : ((s.issue st p (some n)).1.stand st).slot m = (s.stand st).slot m := by
  rw [State.issue_stand]
  simp [StandSt.slot, StandSt.issued, StandSt.taken, StandSt.reserve, Tab.get_set_ne _ _ _ _ _ (Ne.symm h)]

end

/-! ### Completion (spec/02 R48, R50) -/

section
variable (s : State) (st : Nat) (c : Cmd) (payload : List Byte)

/-- The slots of a stand once a command has reported, where no reset discarded it. -/
def StandSt.reported (x : StandSt) (c : Cmd) (payload : List Byte) : StandSt :=
  match c.slot with
  | none => x
  | some n =>
    if c.rpt || decide (c.opcode = 0x51) || decide (c.status ≠ 0) then x.written n c.bytes c.status payload else x.freeUnwritten n

/-- A stand once a command that is neither discarded nor replayed has completed. -/
def StandSt.finished (x : StandSt) (c : Cmd) (payload : List Byte) : StandSt :=
  { x.reported c payload with
    evt := if c.signals && !c.refusedLate then x.evt.upd 0 c.sigEvent (· + c.sigInc) else x.evt
    inflight := x.inflight.filter (fun d => decide (d.ticket ≠ c.ticket)) }

/-- A report changes nothing but the slots. -/
theorem StandSt.reported_rest (x : StandSt) : x.reported c payload = { x with slots := (x.reported c payload).slots } := by
  unfold StandSt.reported; (repeat' split) <;> rfl

theorem StandSt.finished_chute (x : StandSt) : (x.finished c payload).chute = x.chute := by
  rw [StandSt.finished, StandSt.reported_rest]

theorem StandSt.finished_wait (x : StandSt) : (x.finished c payload).wait = x.wait := by
  rw [StandSt.finished, StandSt.reported_rest]

theorem StandSt.finished_steps (x : StandSt) : (x.finished c payload).steps = x.steps := by
  rw [StandSt.finished, StandSt.reported_rest]

theorem StandSt.finished_slots_none (x : StandSt) (h : c.slot = none) : (x.finished c payload).slots = x.slots := by
  simp [StandSt.finished, StandSt.reported, h]

theorem StandSt.finished_slot_same (x : StandSt) {n : Nat} (h : c.slot = some n)
    (hw : (c.rpt || decide (c.opcode = 0x51) || decide (c.status ≠ 0)) = true) :
    (x.finished c payload).slot n = (x.slot n).write c.seq c.status c.context c.opcode payload := by
  simp only [StandSt.finished, StandSt.reported, h, hw, if_true, StandSt.written, StandSt.slot, Tab.get_set_same]
  rfl

theorem StandSt.finished_slot_ne (x : StandSt) {n m : Nat} (h : c.slot = some n) (hm : m ≠ n) :
    (x.finished c payload).slot m = x.slot m := by
  simp only [StandSt.finished, StandSt.reported, h]
  split <;> simp [StandSt.written, StandSt.freeUnwritten, StandSt.slot, Tab.get_set_ne _ _ _ _ _ (Ne.symm hm)]

theorem StandSt.finished_evt (x : StandSt) : (x.finished c payload).evt =
    if c.signals && !c.refusedLate then x.evt.upd 0 c.sigEvent (· + c.sigInc) else x.evt := rfl

theorem State.reportSlot_stand (hd : discarded c.status = false) :
    (s.reportSlot st c payload).stand st = (s.stand st).reported c payload := by
  cases slot : c.slot with
  | none => simp [State.reportSlot, StandSt.reported, slot]
  | some n =>
    simp only [State.reportSlot, StandSt.reported, slot]
    split
    · rw [State.writeSlot_stand, hd, if_neg Bool.false_ne_true]
    · exact s.setStand_stand_same st _

theorem State.reportSlot_onlyStand : s.onlyStand (s.reportSlot st c payload) st := by
  unfold State.reportSlot
  split
  · exact State.onlyStand.refl s st
  · split
    · exact s.writeSlot_onlyStand ..
    · exact s.setStand_onlyStand st _

/-- SIGNAL of a command that is neither discarded nor replayed. -/
theorem State.applySignal_stand (hd : discarded c.status = false) (hr : c.replay = false) : (s.applySignal st c).stand st =
    { s.stand st with
      evt := if c.signals && !c.refusedLate then (s.stand st).evt.upd 0 c.sigEvent (· + c.sigInc) else (s.stand st).evt } := by
  cases hs : c.signals <;> cases hl : c.refusedLate <;> simp [State.applySignal, StandSt.signal, hd, hr, hs, hl]

theorem State.applySignal_onlyStand : s.onlyStand (s.applySignal st c) st := by
  simp only [State.applySignal]
  split
  · exact State.onlyStand.refl s st
  · split
    · split
      · exact s.setStand_onlyStand st _
      · exact State.onlyStand.refl s st
    · exact s.setStand_onlyStand st _

theorem State.finish_stand (hd : discarded c.status = false) (hr : c.replay = false) :
    (s.finish st c payload).stand st = (s.stand st).finished c payload := by
  rw [State.finish, State.setStand_stand_same, State.applySignal_stand _ st c hd hr, State.reportSlot_stand _ st c _ hd,
    StandSt.finished, StandSt.reported_rest]

theorem State.finish_onlyStand : s.onlyStand (s.finish st c payload) st :=
  ((s.reportSlot_onlyStand st c payload).trans (State.applySignal_onlyStand _ st c)).trans (State.setStand_onlyStand _ st _)

end

/-! ### The commands that complete as they issue -/

section
variable {s : State} {st : Nat} {p : Packet}

/-- A head command that passes its checks and has a slot, or needs none, issues; STEP_BEGIN may have to wait. -/
theorem State.issueHead_of_passes (hc : s.issueCheck st p.bytes = none) (h40 : fld p.bytes 0 1 ≠ 0x40)
    (hs : slotless p.bytes = false → (s.stand st).freeSlot ≠ none) :
    s.issueHead st p =
      let i := s.issue st p (if slotless p.bytes then none else (s.stand st).freeSlot)
      i.1.afterIssue st i.2 := by
  have room : ((s.stand st).freeSlot.isNone && !slotless p.bytes) = false := by
    cases hl : slotless p.bytes
    · simp [Option.isSome_iff_ne_none, hs hl]
    · simp
  simp [State.issueHead, hc, room, h40]

theorem State.tryIssue_of_issuable {row : Nat → Bool} (hi : s.issuable st = some p) (hr : row (fld p.bytes 0 1) = true) :
    s.tryIssue st row = s.issueHead st p := by
  simp [State.tryIssue, hi, hr]

/-- EVENT that passes its checks. -/
theorem exec_event_issues (hi : s.issuable st = some p) (ho : fld p.bytes 0 1 = 0x50) (hc : s.issueCheck st p.bytes = none)
    (hs : slotless p.bytes = false → (s.stand st).freeSlot ≠ none) :
    exec (.event st) s =
      let i := s.issue st p (if slotless p.bytes then none else (s.stand st).freeSlot)
      .next ((i.1.setStand st ((i.1.stand st).eventOp p.bytes)).finish st i.2 []) := by
  have opcode : (s.issue st p (if slotless p.bytes then none else (s.stand st).freeSlot)).2.opcode = 0x50 := ho
  have runs : exec (.event st) s = .next (s.issueHead st p) :=
    congrArg Host.Outcome.next (State.tryIssue_of_issuable hi (by simp [ho]))
  rw [runs, State.issueHead_of_passes hc (by omega) hs]
  simp only [State.afterIssue, opcode]
  rfl

/-- RESULT that passes its checks. -/
theorem exec_result_issues {n : Nat} (hi : s.issuable st = some p) (ho : fld p.bytes 0 1 = 0x51)
    (hc : s.issueCheck st p.bytes = none) (hn : (s.stand st).freeSlot = some n) :
    exec (.result st) s =
      let i := s.issue st p (some n)
      .next (i.1.finish st i.2 ((p.bytes.drop 16).take 48)) := by
  have opcode : (s.issue st p (some n)).2.opcode = 0x51 := ho
  have runs : exec (.result st) s = .next (s.issueHead st p) :=
    congrArg Host.Outcome.next (State.tryIssue_of_issuable hi (by simp [ho]))
  have takes : slotless p.bytes = false := by simp [slotless, ho]
  rw [runs, State.issueHead_of_passes hc (by omega) (by simp [hn]), takes, hn, if_neg Bool.false_ne_true]
  simp only [State.afterIssue, opcode]
  rfl

/-- NOP that passes its checks. -/
theorem exec_nop_issues (hi : s.issuable st = some p) (ho : fld p.bytes 0 1 = 0x52) (hc : s.issueCheck st p.bytes = none)
    (hs : slotless p.bytes = false → (s.stand st).freeSlot ≠ none) :
    exec (.nop st) s =
      let i := s.issue st p (if slotless p.bytes then none else (s.stand st).freeSlot)
      .next (i.1.finish st i.2 []) := by
  have opcode : (s.issue st p (if slotless p.bytes then none else (s.stand st).freeSlot)).2.opcode = 0x52 := ho
  have runs : exec (.nop st) s = .next (s.issueHead st p) :=
    congrArg Host.Outcome.next (State.tryIssue_of_issuable hi (by simp [ho]))
  rw [runs, State.issueHead_of_passes hc (by omega) hs]
  simp only [State.afterIssue, opcode]

end

/-! ### EVENT (spec/02 Table 2-13) -/

section
variable (x : StandSt) (p : List Byte)

theorem StandSt.eventOp_rest : x.eventOp p = { x with evt := (x.eventOp p).evt, wait := (x.eventOp p).wait } := by
  unfold StandSt.eventOp; split <;> rfl

theorem StandSt.eventOp_evt_ne {k : Nat} (h : k ≠ fld p 18 1) : (x.eventOp p).evt.get 0 k = x.evt.get 0 k := by
  unfold StandSt.eventOp
  split <;> simp [Tab.get_upd_ne _ _ _ _ _ (Ne.symm h), Tab.get_set_ne _ _ _ _ _ (Ne.symm h)]

theorem StandSt.eventOp_wait_ne {k : Nat} (h : k ≠ fld p 19 1) : (x.eventOp p).wait.get 0 k = x.wait.get 0 k := by
  unfold StandSt.eventOp
  split <;> simp [Tab.get_set_ne _ _ _ _ _ (Ne.symm h)]

theorem StandSt.eventOp_evt_same : (x.eventOp p).evt.get 0 (fld p 18 1) =
    (if fld p 16 1 = 1 then x.evt.get 0 (fld p 18 1) + BitVec.ofNat 32 (fld p 20 4)
      else if fld p 16 1 = 2 then BitVec.ofNat 32 (fld p 20 4) else x.evt.get 0 (fld p 18 1)) := by
  unfold StandSt.eventOp
  split <;> simp_all [fmtAt]

theorem StandSt.eventOp_wait_same : (x.eventOp p).wait.get 0 (fld p 19 1) =
    (if fld p 16 1 = 3 then BitVec.ofNat 32 (fld p 20 4)
      else if fld p 16 1 = 4 then x.evt.get 0 (fld p 18 1) + BitVec.ofNat 32 (fld p 20 4) else x.wait.get 0 (fld p 19 1)) := by
  unfold StandSt.eventOp
  split <;> simp_all [fmtAt]

end

theorem slotless_of_rptClear {p : List Byte} (ho : fld p 0 1 = 0x50 ∨ fld p 0 1 = 0x52) : slotless p = !bit (fld p 1 1) 3 := by
  rcases ho with h | h <;> simp [slotless, h]

theorem Cmd.refusedLate_of_opcode {c : Cmd} (h : c.opcode ≠ 0x33) : c.refusedLate = false := by simp [Cmd.refusedLate, h]

/-- Settles O24: with SIGNAL clear the completion leaves the counters as `StandSt.eventOp` sets them. -/
theorem eventOperations : Obligations.EventOperations := by
  unfold Obligations.EventOperations
  intro s st p ps hp hi ho hc hsig hlog hrpt
  have clear := slotless_of_rptClear (.inl ho)
  have needs : slotless p.bytes = false → (s.stand st).freeSlot ≠ none := fun h => hrpt (by simpa [clear] using h)
  refine ⟨_, exec_event_issues hi ho hc needs, ?_⟩
  set slot := if slotless p.bytes then none else (s.stand st).freeSlot
  set i := s.issue st p slot with issued
  set x := (i.1.stand st).eventOp p.bytes with acted
  have stand : ((i.1.setStand st x).finish st i.2 []).stand st = x.finished i.2 [] := by
    rw [State.finish_stand _ st i.2 [] rfl rfl, State.setStand_stand_same]
  have unsignalled : i.2.signals = false := hsig
  have evt : (x.finished i.2 []).evt = x.evt := by simp [StandSt.finished_evt, unsignalled]
  obtain ⟨others, units⟩ := ((s.issue_onlyStand st p slot).trans (State.setStand_onlyStand i.1 st x)).trans
    (State.finish_onlyStand _ st i.2 [])
  rw [stand, evt, StandSt.finished_chute, StandSt.finished_wait, StandSt.finished_steps, acted, ← s.issue_evt st p slot,
    ← s.issue_wait st p slot, ← s.issue_steps st p slot hlog]
  refine ⟨?_, fun k => StandSt.eventOp_evt_ne _ _, fun k => StandSt.eventOp_wait_ne _ _, StandSt.eventOp_evt_same _ _,
    StandSt.eventOp_wait_same _ _, fun h => ?_, ?_, others, units⟩
  · rw [StandSt.eventOp_rest]; exact s.issue_packets st p slot hp
  · have noSlot : slot = none := by simp [slot, clear, h]
    rw [StandSt.finished_slots_none _ _ _ noSlot, StandSt.eventOp_rest, issued, noSlot]
    exact s.issue_slots_none st p
  · rw [StandSt.eventOp_rest]

/-- Settles O25: the slot that `StandSt.written` leaves, and the flags' signal in `StandSt.finished`; a NOP's body is not looked at. -/
theorem resultAndNop : Obligations.ResultAndNop := by
  unfold Obligations.ResultAndNop
  refine ⟨?result, ?nop, ?length, ?body⟩
  case result =>
    intro s st n p ps hp hi ho hc hn
    refine ⟨_, exec_result_issues hi ho hc hn, ?_⟩
    set i := s.issue st p (some n) with issued
    obtain ⟨others, units⟩ := (s.issue_onlyStand st p (some n)).trans (State.finish_onlyStand i.1 st i.2 ((p.bytes.drop 16).take 48))
    have writes : (i.2.rpt || decide (i.2.opcode = 0x51) || decide (i.2.status ≠ 0)) = true := by
      have opcode : i.2.opcode = 0x51 := ho
      simp [opcode]
    rw [State.finish_stand i.1 st i.2 _ rfl rfl, StandSt.finished_chute, StandSt.finished_wait,
      StandSt.finished_slot_same i.2 _ _ rfl writes]
    refine ⟨s.issue_packets st p _ hp, ?_, fun m hm => ?_, ?_, s.issue_wait st p _, others, units⟩
    · rw [issued, s.issue_slot_same]
      simp only [Slot.write, ← ho]
      rfl
    · rw [StandSt.finished_slot_ne i.2 _ _ rfl hm, issued, s.issue_slot_ne _ _ hm]
    · have late : i.2.refusedLate = false := Cmd.refusedLate_of_opcode (ne_of_eq_of_ne ho (by decide))
      rw [StandSt.finished_evt, late, s.issue_evt, Bool.not_false, Bool.and_true]
      rfl
  case nop =>
    intro s st p ps hp hi ho hc hrpt
    have clear := slotless_of_rptClear (.inr ho)
    have needs : slotless p.bytes = false → (s.stand st).freeSlot ≠ none := fun h => hrpt (by simpa [clear] using h)
    refine ⟨_, exec_nop_issues hi ho hc needs, ?_⟩
    set slot := if slotless p.bytes then none else (s.stand st).freeSlot
    set i := s.issue st p slot with issued
    obtain ⟨others, units⟩ := (s.issue_onlyStand st p slot).trans (State.finish_onlyStand i.1 st i.2 [])
    rw [State.finish_stand i.1 st i.2 _ rfl rfl, StandSt.finished_chute, StandSt.finished_wait]
    refine ⟨s.issue_packets st p _ hp, fun h => ?_, fun n hr hn => ?_, ?_, s.issue_wait st p _, others, units⟩
    · have noSlot : slot = none := by simp [slot, clear, h]
      rw [StandSt.finished_slots_none _ _ _ noSlot, issued, noSlot]
      exact s.issue_slots_none st p
    · have takes : slot = some n := by simp [slot, clear, hr, hn]
      have writes : (i.2.rpt || decide (i.2.opcode = 0x51) || decide (i.2.status ≠ 0)) = true := by
        have rpt : i.2.rpt = true := hr
        simp [rpt]
      rw [StandSt.finished_slot_same i.2 _ _ takes writes]
      refine ⟨rfl, rfl, fun m hm => ?_⟩
      rw [StandSt.finished_slot_ne i.2 _ _ takes hm, issued, takes, s.issue_slot_ne _ _ hm]
    · have late : i.2.refusedLate = false := Cmd.refusedLate_of_opcode (ne_of_eq_of_ne ho (by decide))
      rw [StandSt.finished_evt, late, s.issue_evt, Bool.not_false, Bool.and_true]
      rfl
  case length =>
    intro v g p ho hm lo hi hctx
    have accepted : lengthsOf (fld p 0 1) = some (1, 64) := by simp [lengthsOf, ho]
    have inRange : ¬ (fld p 2 2 < 1 ∨ 64 < fld p 2 2) := by omega
    rw [headerVerdict, if_neg (by simp [hm]), accepted]
    simp only [if_neg inRange, hctx]
    simp [ho]
  case body =>
    intro s st p ho hlog
    have unchecked : s.checkOp st p = none := by simp [State.checkOp, ho]
    simp [State.issueCheck, unchecked, StepSt.logFail, hlog]

end Sys2Proof.Machine
end

section
/-! Result slots, chutes and host links from outside (spec/02 R30 to R43, R52, R416). -/

namespace Sys2Proof.Machine

/-! ### RES_RELEASE (spec/02 R52) -/

section
variable {s : State} {st n : Nat} {g : W16}

theorem State.release_ready (he : (s.cfg st).enabled = true) (hr : ((s.stand st).slot n).st = .ready)
    (hg : ((s.stand st).slot n).gen = g) : s.release st n g = s.setStand st ((s.stand st).freeUnwritten n) := by
  simp [State.release, he, hr, hg]

theorem State.release_bad (he : (s.cfg st).enabled = true)
    (h : ((s.stand st).slot n).st ≠ .ready ∨ ((s.stand st).slot n).gen ≠ g) : s.release st n g = s.countStand st cResBadRelease := by
  have other : ¬ (((s.stand st).slot n).st = .ready ∧ ((s.stand st).slot n).gen = g) := by tauto
  simp [State.release, he, other]

end

/-- Settles O19: a READY slot of the named generation is freed (`State.release_ready`), any other release is counted. -/
theorem resultSlotRelease : Obligations.ResultSlotRelease := by
  unfold Obligations.ResultSlotRelease
  intro l s st n g hr he hn
  have released : exec (.resRelease l st n g) s = .next (s.release st n g) := by
    simp [exec, execResRelease, hr, Nat.mod_eq_of_lt hn]
  rw [released]
  exact ⟨fun ready gen => by rw [State.release_ready he ready gen]; rfl, fun bad => by rw [State.release_bad he bad]⟩

/-! ### Chute writes that are ignored (spec/02 R416) -/

theorem exec_chuteWrite {s : State} {l : LinkId} {st : Nat} (off : Nat) (data : List Byte) (hr : s.reaches l = true) (hs : st < 64) :
    exec (.chuteWrite l st off data) s = .next (s.chuteWrite l st off data) := by
  simp [exec, execChuteWrite, hr, hs]

/-- A write is of the wrong shape: not of whole flits at a flit's place, too long, or past the window (spec/02 R38). -/
def badShape (off : Nat) (data : List Byte) : Prop :=
  off % 64 ≠ 0 ∨ data.length % 64 ≠ 0 ∨ data.length > 512 ∨ off + data.length > 2 ^ 20

section
variable {s : State} {l : LinkId} {st off : Nat} {data : List Byte}

theorem State.chuteWrite_unused (he : (s.cfg st).enabled = false) :
    s.chuteWrite l st off data = s.countModule cUnusedStandWrites := by
  simp [State.chuteWrite, he]

section
variable (he : (s.cfg st).enabled = true)
include he

theorem State.chuteWrite_notPermitted (h : s.boot.standsReady = false ∨ (s.cfg st).permits l = false) :
    s.chuteWrite l st off data = s.countStand st cChuWriteIgnored := by
  rcases h with h | h <;> simp [State.chuteWrite, he, h]

variable (hb : s.boot.standsReady = true) (hp : (s.cfg st).permits l = true)
include hb hp

theorem State.chuteWrite_badShape (h : badShape off data) : s.chuteWrite l st off data = s.countStand st cChuBadWrite := by
  simp only [State.chuteWrite, he, hb, hp, Bool.not_true, Bool.or_self, Bool.false_eq_true, if_false]
  exact if_pos h

variable (hw : ¬ badShape off data)
include hw

theorem State.chuteWrite_discarding (h : (s.stand st).chute.discard = true) :
    s.chuteWrite l st off data = s.countStand st cChuDiscardedWrites := by
  simp only [State.chuteWrite, he, hb, hp, h, Bool.not_true, Bool.or_self, Bool.false_eq_true, if_false, if_true]
  exact if_neg hw

variable (hd : (s.stand st).chute.discard = false)
include hd

theorem State.chuteWrite_crossLink {p : Partial} (hpart : (s.stand st).chute.part = some p) (h : p.link ≠ l) :
    s.chuteWrite l st off data =
      (s.setChute st { (s.stand st).chute with xlink := true }).countStand st cChuXlinkIgnored := by
  simp only [State.chuteWrite, he, hb, hp, hd, hpart, h, Bool.not_true, Bool.or_self, Bool.false_eq_true, if_false, ne_eq,
    not_false_eq_true, decide_true, if_true]
  exact if_neg hw

theorem State.chuteWrite_overrun (hl : ∀ p, (s.stand st).chute.part = some p → p.link = l)
    (h : (s.stand st).chute.free < data.length / 64) :
    s.chuteWrite l st off data =
      (s.setChute st { (s.stand st).chute with overrun := true, discard := true }).countStand st cChuOverrun := by
  cases hpart : (s.stand st).chute.part with
  | none =>
    simp only [State.chuteWrite, he, hb, hp, hd, hpart, Bool.not_true, Bool.or_self, Bool.false_eq_true, if_false]
    exact (if_neg hw).trans (if_pos h)
  | some p =>
    simp only [State.chuteWrite, he, hb, hp, hd, hpart, hl p hpart, Bool.not_true, Bool.or_self, Bool.false_eq_true, if_false,
      ne_eq, not_true_eq_false, decide_false]
    exact (if_neg hw).trans (if_pos h)

end
end

/-- Settles O16: one lemma for each reason of R416, under the negation of those before it. -/
theorem ignoredChuteWrites : Obligations.IgnoredChuteWrites := by
  unfold Obligations.IgnoredChuteWrites
  intro s l st off data hr hs
  rw [exec_chuteWrite off data hr hs]
  refine ⟨fun he => by rw [State.chuteWrite_unused he], fun he h => by rw [State.chuteWrite_notPermitted he h],
    fun he hb hp h => by rw [State.chuteWrite_badShape he hb hp h], fun he hb hp ho hm hl hw => ?_⟩
  have good : ¬ badShape off data := by unfold badShape; omega
  exact ⟨fun h => by rw [State.chuteWrite_discarding he hb hp good h],
    fun hd p hpart h => by rw [State.chuteWrite_crossLink he hb hp good hd hpart h],
    fun hd hl h => by rw [State.chuteWrite_overrun he hb hp good hd hl h]⟩

/-! ### The chute's pointers and DROP (spec/02 R42, R43) -/

theorem Chute.drop_rest (c : Chute) : c.drop.part = none ∧ c.drop.discard = false ∧ c.drop.packets = c.packets ∧
    c.drop.head = c.head := by
  cases h : c.part <;> simp [Chute.drop, Chute.advanceTail, h]

/-- Settles O18: the emptied chute is written out, and `Chute.drop_rest` says what DROP keeps. -/
theorem chuteResetAndDrop : Obligations.ChuteResetAndDrop := by
  unfold Obligations.ChuteResetAndDrop
  constructor
  · intro s st ha he
    let x := { s.stand st with
      chute := { (s.stand st).chute.emptied with ptrReset := true, discard := true }
      rst := { (s.stand st).rst with discard := [] } }
    have emptied : exec (.chutePtrMismatch st) s = .next ((s.setStand st x).countStand st cChuPtrMismatch) := by
      simp [exec, execChutePtrMismatch, ha, he, x]
    refine ⟨_, emptied, ?_⟩
    rw [State.countStand_stand, State.setStand_stand_same]
    exact ⟨rfl, rfl, rfl, rfl, rfl, rfl, rfl, rfl, rfl, rfl, rfl, rfl, State.count_one _ _, fun k hk => s.setStand_stand_ne hk x,
      rfl, rfl⟩
  · intro l s st hr he
    let x := { s.stand st with chute := (s.stand st).chute.drop }
    have dropped : exec (.drop l st) s = .next (s.setStand st x) := by
      simp [exec, execDrop, State.drop, State.setChute, hr, he, x]
    obtain ⟨part, discard, packets, head⟩ := (s.stand st).chute.drop_rest
    refine ⟨_, dropped, ?_⟩
    rw [State.setStand_stand_same]
    exact ⟨part, discard, packets, head, rfl, fun k hk => s.setStand_stand_ne hk x, rfl, rfl, rfl⟩

end Sys2Proof.Machine
end

section
/-! The host links' endpoints (spec/02 R30 to R33, spec/14 R358). -/

namespace Sys2Proof.Machine

/-! ### A link lost (spec/02 R32, R40, spec/15 R387) -/

/-- One change to every listed entry of a table is that change at every index, where it keeps the default. -/
theorem Tab.get_map {α : Type} (d : α) (f : α → α) (hd : f d = d) (k : Nat) : ∀ t : Tab α,
    Tab.get d (t.map fun p => (p.1, f p.2)) k = f (t.get d k)
  | [] => hd.symm
  | (i, v) :: t => by
    by_cases h : i = k
    · simp [Tab.get, h]
    · simpa [Tab.get, h] using Tab.get_map d f hd k t

section
variable (s : State) (l : LinkId) (why : LinkEnd)

theorem State.linkLost_stand (st : Nat) :
    (s.linkLost l why).stand st = { s.stand st with chute := (s.stand st).chute.linkLost l } := by
  rw [State.linkLost, State.setLink_stand]
  exact Tab.get_map StandSt.reset (fun x => { x with chute := x.chute.linkLost l }) rfl st s.stands

theorem State.linkLost_mbox (m : Nat) : (s.linkLost l why).mbox m = (s.mbox m).linkLost l := by
  have : (s.linkLost l why).mbox m = Tab.get Mbox.reset (s.warden.mbox.map fun p => (p.1, p.2.linkLost l)) m := by
    cases l <;> rfl
  rw [this]
  exact Tab.get_map Mbox.reset (fun x => x.linkLost l) rfl m s.warden.mbox

theorem State.linkLost_link_same : (s.linkLost l why).link l = (s.link l).ended why := State.setLink_link_same _ l _

theorem State.linkLost_link_ne {k : LinkId} (h : k ≠ l) : (s.linkLost l why).link k = s.link k := by
  rw [State.linkLost, State.setLink_link_ne _ h]; cases k <;> rfl

theorem HostLink.ended_up (h : HostLink) : (h.ended why).up = if why = .d3hot then h.up else false := by cases why <;> rfl

/-- The endpoint's own state is gone, however its link ended. -/
theorem HostLink.ended_clear (h : HostLink) : (h.ended why).bme = false ∧ (h.ended why).bar4Base = 0 ∧
    (h.ended why).msixEnable = false ∧ (h.ended why).msix = [] ∧ (h.ended why).pba = [] := by
  cases why <;> exact ⟨rfl, rfl, rfl, rfl, rfl⟩

end

/-! ### Configuration requests (spec/02 R33) -/

section
variable {s : State} {l : LinkId} (ha : s.alive = true) (hl : s.hasLink l = true)
include ha hl

theorem exec_hostLinkReset (why : LinkEnd) : exec (.hostLinkReset l why) s = .next (s.linkLost l why) := by
  simp [exec, execHostLinkReset, ha, hl]

variable (hu : (s.link l).up = true)
include hu

theorem exec_configRequest_early (q : CfgReq) (hi : s.boot.imageVerified = false) :
    exec (.configRequest l q) s = .next (s.send (.cfg l true)) := by
  simp [exec, execConfigRequest, ha, hl, hu, hi]

theorem exec_configRequest (q : CfgReq) (hi : s.boot.imageVerified = true) :
    exec (.configRequest l q) s = .next ((s.configure l q).send (s.cfgReply l q)) := by
  simp [exec, execConfigRequest, ha, hl, hu, hi]

end

theorem HostLink.resizeBar4_within (h : HostLink) {n : Nat} (hn : n ≤ 10) :
    h.resizeBar4 n = { h with bar4Log2 := n, bar4Base := h.bar4Base / 2 ^ n * 2 ^ n } := if_pos hn

theorem HostLink.resizeBar4_beyond (h : HostLink) {n : Nat} (hn : 10 < n) : h.resizeBar4 n = h := if_neg (Nat.not_le.mpr hn)

/-- Settles O15: a lost link is `State.linkLost`, entry by entry of its tables; a served request is its effect and its answer. -/
theorem hostLinkLifecycle : Obligations.HostLinkLifecycle := by
  unfold Obligations.HostLinkLifecycle
  refine ⟨?deassert, ?up, ?lost, ?early, ?resize, ?served⟩
  case deassert =>
    intro s l ha hl
    simp [exec, execPerstDeassert, ha, hl]
  case up =>
    intro s l ha hl ht
    simp [exec, execHostLinkUp, ha, hl, ht]
  case lost =>
    intro s l why ha hl
    obtain ⟨bme, base, enable, msix, pba⟩ := HostLink.ended_clear why (s.link l)
    refine ⟨_, exec_hostLinkReset ha hl why, ?_⟩
    rw [State.linkLost_link_same]
    refine ⟨bme, base, enable, msix, pba, HostLink.ended_up why _, s.linkLost_stand l why, s.linkLost_mbox l why,
      fun k hk => s.linkLost_link_ne l why hk, ?_⟩
    cases l <;> exact ⟨rfl, rfl, rfl, rfl, rfl, rfl, rfl⟩
  case early =>
    intro s l q ha hl hu hi
    exact exec_configRequest_early ha hl hu q hi
  case resize =>
    intro s l n ha hl hu hi hn
    rw [exec_configRequest ha hl hu _ hi, State.configure, HostLink.resizeBar4_within _ hn]
    rfl
  case served =>
    intro s l ha hl hu hi
    have served := fun q => exec_configRequest ha hl hu q hi
    refine ⟨served .read, served .readSerial, fun on => served (.setBme on), fun e m => served (.setMsix e m), served .setD0,
      ⟨_, exec_hostLinkReset ha hl .d3hot, served .setD3hot⟩, fun n hn => ?_⟩
    rw [served, State.configure, HostLink.resizeBar4_beyond _ hn, State.setLink_self]
    rfl

end Sys2Proof.Machine
end

section
/-! BAR4 (spec/02 R34, spec/07 R174): what the host reads and writes of memory. -/

namespace Sys2Proof.Machine

/-! ### A store without check differences, and one byte written to a clean word -/

theorem Mem.bad_of_diff_nil {m : Mem} (h : m.diff = []) (w : Nat) : m.bad w = false := by
  have clean : m.check w = .clean := by simp only [Mem.check, Mem.diffAt, h, Tab.get_nil]; decide
  simp [Mem.bad, clean]

section
variable {m : Mem} {k : Nat} (hc : m.check (k / 16) = .clean)
include hc

theorem Mem.writeByte_of_clean (v : Byte) : m.writeByte k v = m.writeRaw k v := by
  simp [Mem.writeByte, Mem.bad, hc, Mem.correctWord]

theorem Mem.read_writeRaw_same (hw : m.wf = true) (v : Byte) : (m.writeRaw k v).read k = v := by
  have check : (m.writeRaw k v).check (k / 16) = .clean := hc
  simp only [Mem.read, check]
  exact cellGet_set_same m.bytes 0 k v ((Mem.wf_iff m).mp hw).1

end

theorem Mem.read_writeRaw_ne (m : Mem) {k j : Nat} (h : j ≠ k) (v : Byte) : (m.writeRaw k v).read j = m.read j := by
  have raw : (m.writeRaw k v).raw j = m.raw j := cellGet_set_ne m.bytes k j v (Ne.symm h)
  have check : (m.writeRaw k v).check (j / 16) = m.check (j / 16) := rfl
  simp only [Mem.read, raw, check]

/-- One byte covers no word whole. -/
theorem Mem.put_one (m : Mem) (k : Nat) (v : Byte) : m.put [(k, v)] = m.writeByte k v := by
  have none : wholeWords [k] = [] := by
    have second : ∃ i < 16, ¬ i = 0 := ⟨1, by decide, by decide⟩
    by_cases h : k % 16 = 0 <;> simp [wholeWords, h, second]
  simp [Mem.put, none]

theorem Mem.put_nil (m : Mem) : m.put [] = m := rfl

/-! ### Reads -/

section
variable {s : State} {l : LinkId} {off n : Nat}

theorem State.bar4Ok_of {max : Nat} (hr : s.reaches l = true) (h0 : 0 < n) (hn : n ≤ max)
    (hw : off + n ≤ 2 ^ (30 + (s.link l).bar4Log2)) : s.bar4Ok l off n max = true := by
  simp [State.bar4Ok, hr, h0, hn, hw]

theorem exec_bar4Read_clean (hok : s.bar4Ok l off n 4096 = true) (hd : s.hbm.diff = []) :
    exec (.bar4Read l off n) s = .next (s.send (.bar4 l (s.bar4Bytes (s.bar4Addr l off) n) false)) := by
  have good : (s.bar4Words (s.bar4Addr l off) n).any s.hbm.bad = false :=
    List.any_eq_false.mpr fun w _ => by simp [Mem.bad_of_diff_nil hd]
  simp [exec, execBar4Read, hok, good, State.noteWords, hd]

/-- The delivered byte of the window at an address, zero where the host reaches none (spec/07 R174). -/
def State.hostByte (s : State) (a : Nat) : Byte := (s.hostKey a).elim 0 s.hbm.read

theorem State.bar4Bytes_clean (a : Nat) (hd : s.hbm.diff = []) :
    s.bar4Bytes a n = (List.range n).map fun i => s.hostByte (a + i) := by
  refine List.map_congr_left fun i _ => ?_
  cases h : s.hostKey (a + i) <;> simp [State.hostByte, h, Mem.bad_of_diff_nil hd]

end

/-! ### Writes -/

section
variable {s t : State} {l : LinkId} {off : Nat} {data : List Byte}

theorem State.makeRoom_of_stageFor {bs : List (Nat × Nat)} (h : s.stageFor bs = some t) (f : Nat) : s.makeRoom bs (f + 1) = t := by
  simp [State.makeRoom, h]

/-- Where no copy waits for a block, none is staged. -/
theorem State.stageFor_of_unwanted (h : ∀ d q, s.wantStage d q = []) : ∀ bs, s.stageFor bs = some s
  | [] => rfl
  | (d, q) :: bs => by simp [State.stageFor, h, State.stageFor_of_unwanted h bs]

/-- Bytes of regions that do not let the host write are not written. -/
theorem State.hostWrites_nil {a : Nat}
    (h : ∀ i, i < data.length → ∀ x, s.hostRegion (a + i) = some x → x.hostWr = false) : s.hostWrites a data = [] := by
  refine List.filterMap_eq_nil_iff.mpr fun p hp => ?_
  obtain ⟨-, hi, -⟩ := List.mem_zipIdx hp
  cases hx : s.hostRegion (a + p.2) with
  | none => rfl
  | some x => simp [h p.2 (by omega) x hx]

theorem State.hostWrites_one {a : Nat} {b : Byte} {x : Region} (hx : s.hostRegion a = some x) (hw : x.hostWr = true) :
    s.hostWrites a [b] = [(a, b)] := by
  simp [State.hostWrites, hx, hw]

theorem State.hostStore_nil : s.hostStore [] = s := by
  have merged : s.noteMerge [] = s := by simp [State.noteMerge, State.noteWords, partWords]
  simp only [State.hostStore, List.filterMap_nil, List.map_nil, merged, Mem.put_nil]
  rfl

/-- A word that is clean is read without a note. -/
theorem State.noteMerge_one {k : Nat} (hc : s.hbm.check (k / 16) = .clean) : s.noteMerge [k] = s := by
  have read : ∀ ws : List Nat, (∀ w ∈ ws, w = k / 16) → ws.foldl State.noteWord s = s := by
    intro ws h
    induction ws with
    | nil => rfl
    | cons w ws ih =>
      have clean : s.noteWord w = s := by simp [State.noteWord, h w, hc]
      rw [List.foldl_cons, clean, ih fun v hv => h v (List.mem_cons_of_mem _ hv)]
  have words : ∀ w ∈ partWords [k], w = k / 16 := fun w hw => by simpa [partWords] using (List.mem_filter.mp hw).1
  simp only [State.noteMerge, State.noteWords, read _ words, ite_self]

theorem State.hostStore_one {a k : Nat} {b : Byte} (hk : s.visKey a = some k) (hc : s.hbm.check (k / 16) = .clean) :
    s.hostStore [(a, b)] = s.setHbm (s.hbm.writeRaw k b) := by
  simp [State.hostStore, hk, State.noteMerge_one hc, Mem.put_one, Mem.writeByte_of_clean hc]

/-- A write of which every byte lies where the host may not write changes nothing, and counts once. -/
theorem exec_bar4Write_ignored (hok : s.bar4Ok l off data.length 512 = true) (h0 : data ≠ [])
    (hn : s.hostWrites (s.bar4Addr l off) data = []) :
    exec (.bar4Write l off data) s = .next (s.countModule cHostWriteIgnored) := by
  have room : s.makeRoom (s.byteBlocks []) 40000 = s := State.makeRoom_of_stageFor rfl 39999
  have short : 0 < data.length := List.length_pos_iff.mpr h0
  simp [exec, execBar4Write, hok, hn, room, State.hostStore_nil, short]

/-- A byte that the host may write, in a word that needs no correction and that no copy waits for, is stored. -/
theorem exec_bar4Write_one {b : Byte} {x : Region} {k : Nat} (hok : s.bar4Ok l off 1 512 = true)
    (hx : s.hostRegion (s.bar4Addr l off) = some x) (hw : x.hostWr = true) (hk : s.visKey (s.bar4Addr l off) = some k)
    (hc : s.hbm.check (k / 16) = .clean) (hu : ∀ d q, s.wantStage d q = []) :
    exec (.bar4Write l off [b]) s = .next (s.setHbm (s.hbm.writeRaw k b)) := by
  have room : ∀ bs, s.makeRoom bs 40000 = s := fun bs => State.makeRoom_of_stageFor (State.stageFor_of_unwanted hu bs) 39999
  simp [exec, execBar4Write, hok, State.hostWrites_one hx hw, room, State.hostStore_one hk hc]

end

/-- Settles O21: a store without check differences delivers what it holds, and one byte written to a clean word is stored raw. -/
theorem bar4ReadsAndWrites : Obligations.Bar4ReadsAndWrites := by
  unfold Obligations.Bar4ReadsAndWrites
  refine ⟨?read, ?ignored, ?stored⟩
  case read =>
    intro l s off n hr h0 hn hw hd
    rw [exec_bar4Read_clean (State.bar4Ok_of hr h0 hn hw) hd, State.bar4Bytes_clean _ hd]
    refine congrArg (fun bs => Host.Outcome.next (s.send (.bar4 l bs false))) (List.map_congr_left fun i _ => ?_)
    cases h : s.hostKey (s.bar4Addr l off + i) <;> simp [State.hostByte, h]
  case ignored =>
    intro l s off data hr h0 hn hw hro
    have ok := State.bar4Ok_of hr (List.length_pos_iff.mpr h0) hn hw
    exact ⟨_, exec_bar4Write_ignored ok h0 (State.hostWrites_nil hro), rfl, rfl, rfl, State.count_one s _⟩
  case stored =>
    intro l s off b x k hr hw hx hwr hk hwf hc hu
    refine ⟨_, exec_bar4Write_one (State.bar4Ok_of hr Nat.one_pos (by decide) hw) hx hwr hk hc hu, ?_⟩
    exact ⟨Mem.read_writeRaw_same hc hwf b, fun j hj => Mem.read_writeRaw_ne _ hj b, rfl, rfl⟩

end Sys2Proof.Machine
end

section
/-! Two statements that fail: a tap of which no core holds a tap is not at work but over, and a retirement that waited for a command
reaches the stand that owns the retired core's cluster. -/

namespace Sys2Proof.Machine

/-- A module that runs, its stands as the image gives them. -/
def runningModule (cfgs : Tab StandCfg) : State :=
  { State.reset with
    power := { PowerSt.reset with good := true, domains := [(18, { Domain.reset with on := true })] }
    img := { ImageCfg.absent with stands := cfgs } }

/-- A stand in use that owns one cluster. -/
def standOwning (cluster : Nat) : StandCfg := { StandCfg.unused with enabled := true, contexts := 0xffff, clusters := [cluster] }

/-! ### A STATS_TAP whose only core is gone (spec/05 R122, spec/11 R296) -/

/-- ROWOP STATS_TAP on logical core 0 of cluster 0: one row of 64 columns (spec/05 Table 5-3). -/
def tapPacket : Packet :=
  { bytes := [9, 0, 1, 0] ++ List.replicate 12 0 ++ [0, 1, 1, 0, 1, 0, 0, 0, 64] ++ List.replicate 39 0, link := .h0, verdict := 0 }

/-- A core that is retired and answers no logical number. -/
def goneCore (k : Nat) : CoreSt := { CoreSt.reset k with retired := true, logical := none }

/-- Core 0 of cluster 0 and its spare are retired, so that logical core 0 has no physical core; the tap is at the head of the chute. -/
def tapWithoutCore : State :=
  { runningModule [(0, standOwning 0)] with
    comp := { Compute.reset with cores := [(0, goneCore 0), (4, goneCore 4)] }
    stands := [(0, { StandSt.reset with chute := { Chute.reset with packets := [tapPacket], tail := 1, tailCopy := 1 } })] }

theorem tapWithoutCore_issues : (tapWithoutCore.stand 0).chute.packets = [tapPacket] ∧ tapWithoutCore.issuable 0 = some tapPacket ∧
    ownRow (fld tapPacket.bytes 0 1) = false ∧ (tapWithoutCore.stand 0).freeSlot = some 0 ∧
    tapWithoutCore.issueCheck 0 tapPacket.bytes = none := by decide +kernel

theorem tapWithoutCore_inflight : (tapWithoutCore.stand 0).inflight = [] ∧
    ((tapWithoutCore.tryIssue 0 (fun o => !ownRow o)).stand 0).inflight.map (fun c => (c.isTap, c.stage)) = [(true, .done)] := by
  decide +kernel

/-- Refutes O23: a STATS_TAP issues whose selected logical core has no physical core; no core holds its tap, so that its work is over
at once, where the statement has it running. -/
theorem not_commandIssue : ¬ Obligations.CommandIssue := by
  unfold Obligations.CommandIssue
  intro h
  obtain ⟨packets, issuable, row, slot, passes⟩ := tapWithoutCore_issues
  obtain ⟨none, after⟩ := tapWithoutCore_inflight
  obtain ⟨t, c, issued, -, inflight, -, -, -, stage, -⟩ := (h tapWithoutCore 0 0 tapPacket [] packets issuable row slot).2 passes
  obtain rfl := Host.Outcome.next.inj issued
  rw [inflight, none] at after
  obtain ⟨tap, ended⟩ : c.isTap = true ∧ c.stage = .done := by simpa using after
  simp [tap, ended] at stage

/-! ### A retirement in a cluster of another stand (spec/09 R239, spec/11 R287) -/

/-- A MATMUL of stand 0 whose work is over. -/
def doneProduct : Cmd :=
  { StandSt.reset.newCmd [1, 0, 1, 0] .h0 (some 0) 0 with stage := .done }

/-- Stand 0 owns cluster 0 and stand 1 cluster 1; the retirement that waits for stand 0's product is that of core 5, of cluster 1. -/
def retirementElsewhere : State :=
  { runningModule [(0, standOwning 0), (1, standOwning 1)] with
    stands := [(0, { StandSt.reset with inflight := [doneProduct], nextTicket := 1 })]
    integ := { Integ.reset with retiring := [(0, 0, 5, 0)] } }

theorem retirementElsewhere_completes : retirementElsewhere.fronts 0 = true ∧
    (retirementElsewhere.stand 0).cmd doneProduct.ticket = some doneProduct ∧ doneProduct.stage = .done ∧
    (retirementElsewhere.stand 0).hung doneProduct.ticket = false ∧ (retirementElsewhere.stand 0).skidBefore doneProduct = false ∧
    doneProduct.slot = some 0 ∧ doneProduct.replay = false ∧ discarded doneProduct.status = false ∧
    (∀ r ∈ (retirementElsewhere.stand 0).steps.records, r.mode ≠ .closed) := by decide +kernel

/-- The spare of cluster 1 is coppiced, and the recovery window of the cluster's owner opens. -/
theorem retirementElsewhere_window (t : State) (h : exec (.commandComplete 0 doneProduct.ticket) retirementElsewhere = .next t) :
    (t.stand 1).recovery = true ∧ (retirementElsewhere.stand 1).recovery = false := by
  obtain rfl := Host.Outcome.next.inj h
  decide +kernel

/-- Refutes O27: nothing in the statement says that the retirements that wait for a command are in its own stand's clusters, and one in
another's opens that stand's recovery window. -/
theorem not_commandCompletion : ¬ Obligations.CommandCompletion := by
  unfold Obligations.CommandCompletion
  intro h
  obtain ⟨fronts, cmd, stage, hung, turn, slot, replay, kept, steps⟩ := retirementElsewhere_completes
  obtain ⟨t, completes, -, -, -, -, -, -, others⟩ :=
    h retirementElsewhere 0 0 doneProduct fronts cmd stage hung turn slot replay kept steps
  obtain ⟨opened, shut⟩ := retirementElsewhere_window t completes
  rw [others 1 one_ne_zero, shut] at opened
  exact Bool.false_ne_true opened

end Sys2Proof.Machine
end
section
/-! Products (spec/04 R95, R106, R108): the value of every element, what one core's product leaves, and the selected cores in turn. -/

namespace Sys2Proof.Machine

/-! ### Cores, arrays and commands read back -/

section
variable (s : State)

@[simp] theorem State.setCore_core_same (k : Nat) (x : CoreSt) : (s.setCore k x).core k = x := by
  simp [State.core, State.setCore]

theorem State.setCore_core_ne {j k : Nat} (h : k ≠ j) (x : CoreSt) : (s.setCore j x).core k = s.core k := by
  simp [State.core, State.setCore, Tab.get_set_ne _ _ _ _ _ (Ne.symm h)]

@[simp] theorem State.setArray_array_same (g : Nat) (x : ArraySt) : (s.setArray g x).array g = x := by
  simp [State.array, State.setArray]

theorem State.setArray_array_ne {g k : Nat} (h : k ≠ g) (x : ArraySt) : (s.setArray g x).array k = s.array k := by
  simp [State.array, State.setArray, Tab.get_set_ne _ _ _ _ _ (Ne.symm h)]

theorem State.core_of_comp {s t : State} (h : t.comp = s.comp) (k : Nat) : t.core k = s.core k := by
  rw [State.core, h]; rfl

/-- A logical number is answered by a core that holds it. -/
theorem State.logical_of_physCore {px r pc : Nat} (h : s.physCore px r = some pc) : (s.core pc).logical = some r := by
  simpa using List.find?_some h

/-- Two logical numbers are not answered by one core. -/
theorem State.physCore_inj {px r k pc : Nat} (hr : s.physCore px r = some pc) (hk : s.physCore px k = some pc) : r = k :=
  Option.some.inj ((s.logical_of_physCore hr).symm.trans (s.logical_of_physCore hk))

end

theorem StandSt.cmd_ticket {x : StandSt} {t : Nat} {c : Cmd} (h : x.cmd t = some c) : c.ticket = t := by
  simpa using List.find?_some h

theorem StandSt.cmd_setCmd {x : StandSt} {t : Nat} {c d : Cmd} (h : x.cmd t = some c) (hd : d.ticket = t) :
    (x.setCmd t d).cmd t = some d := by
  have same : ((fun e : Cmd => decide (e.ticket = t)) ∘ fun e => if e.ticket = t then d else e) = fun e => decide (e.ticket = t) := by
    funext e
    by_cases he : e.ticket = t <;> simp [he, hd]
  have ticket := StandSt.cmd_ticket h
  rw [StandSt.cmd] at h
  rw [StandSt.cmd, StandSt.setCmd, List.find?_map, same, h, Option.map_some, if_pos ticket]

/-- A command that its engine may begin is queued in its stand. -/
theorem State.canRun_some {s : State} {st t op : Nat} {c : Cmd} (h : s.canRun st t op = some c) :
    (s.stand st).cmd t = some c ∧ c.stage = .queued := by
  unfold State.canRun at h
  split at h
  · exact absurd h (by simp)
  · split at h
    · next d hd =>
      split at h
      · next ready =>
        obtain rfl := Option.some.inj h
        exact ⟨hd, ready.2.1⟩
      · exact absurd h (by simp)
    · exact absurd h (by simp)

/-! ### What work on cores may touch -/

/-- From `s` to `t` only the cores of `p`, the cells of their arrays, the counters and the steps of stand `st` change, and no core's
logical number. -/
structure State.worked (s t : State) (st : Nat) (p : Nat → Prop) : Prop where
  cells : s.cellsOnly t p
  logical : ∀ k, (t.core k).logical = (s.core k).logical
  steps : s.stepsOnly t st
  others : s.standOnly t st
  img : t.img = s.img
  hbm : t.hbm = s.hbm
  freeCtr : t.freeCtr = s.freeCtr

theorem State.cellsOnly.trans {s t u : State} {p : Nat → Prop} (h : s.cellsOnly t p) (k : t.cellsOnly u p) : s.cellsOnly u p := by
  obtain ⟨hc, hx, ha, hg⟩ := h
  obtain ⟨kc, kx, ka, kg⟩ := k
  refine ⟨fun c hp => (kc c hp).trans (hc c hp), kx.trans hx, fun g => ?_, fun g hp => (kg g hp).trans (hg g hp)⟩
  have last := ka g
  rw [ha g] at last
  exact last

theorem State.stepsOnly.trans {s t u : State} {st : Nat} (h : s.stepsOnly t st) (k : t.stepsOnly u st) : s.stepsOnly u st := by
  unfold State.stepsOnly at h k ⊢
  rw [h] at k
  exact k

theorem State.worked.trans {s t u : State} {st : Nat} {p : Nat → Prop} (h : s.worked t st p) (k : t.worked u st p) :
    s.worked u st p where
  cells := h.cells.trans k.cells
  logical j := (k.logical j).trans (h.logical j)
  steps := h.steps.trans k.steps
  others j hj := (k.others j hj).trans (h.others j hj)
  img := k.img.trans h.img
  hbm := k.hbm.trans h.hbm
  freeCtr := k.freeCtr.trans h.freeCtr

theorem State.worked.mono {s t : State} {st : Nat} {p q : Nat → Prop} (h : s.worked t st p) (hpq : ∀ k, p k → q k) :
    s.worked t st q where
  cells := by
    obtain ⟨cores, clusters, cells, arrays⟩ := h.cells
    exact ⟨fun k hk => cores k (mt (hpq k) hk), clusters, cells, fun g hg => arrays g (mt (hpq _) hg)⟩
  logical := h.logical
  steps := h.steps
  others := h.others
  img := h.img
  hbm := h.hbm
  freeCtr := h.freeCtr

theorem State.worked.physCore {s t : State} {st : Nat} {p : Nat → Prop} (h : s.worked t st p) (px r : Nat) :
    t.physCore px r = s.physCore px r := by
  simp only [State.physCore, h.logical]

section
variable (s : State) (st : Nat) (p : Nat → Prop)

theorem State.worked.refl : s.worked s st p :=
  ⟨⟨fun _ _ => rfl, rfl, fun _ => rfl, fun _ _ => rfl⟩, fun _ => rfl, rfl, fun _ _ => rfl, rfl, rfl, rfl⟩

theorem State.setCounters_worked (v : Counters) : s.worked (s.setCounters v) st p :=
  ⟨⟨fun _ _ => rfl, rfl, fun _ => rfl, fun _ _ => rfl⟩, fun _ => rfl, rfl, fun _ _ => rfl, rfl, rfl, rfl⟩

theorem State.count_worked (k n : Nat) : s.worked (s.count k n) st p := s.setCounters_worked st p _

theorem State.countFmt_worked (w : WrCount) : s.worked (s.countFmt st w) st p :=
  ((((s.count_worked st p _ w.nonfinite).trans (State.count_worked _ st p _ w.overflow)).trans
    (State.count_worked _ st p _ w.saturated)).trans (State.count_worked _ st p _ w.floor)).trans
    (State.count_worked _ st p _ w.decode)

theorem State.noteSpad_worked (k corrected bad : Nat) : s.worked (s.noteSpad k corrected bad) st p :=
  (s.count_worked st p _ corrected).trans (State.count_worked _ st p _ bad)

theorem State.setSteps_worked (v : StepSt) : s.worked (s.setStand st { s.stand st with steps := v }) st p where
  cells := ⟨fun _ _ => rfl, rfl, fun _ => rfl, fun _ _ => rfl⟩
  logical _ := rfl
  steps := by rw [State.stepsOnly, s.setStand_stand_same]
  others _ hk := s.setStand_stand_ne hk _
  img := rfl
  hbm := rfl
  freeCtr := rfl

theorem State.setCore_worked {k : Nat} {x : CoreSt} (hk : p k) (hx : x.logical = (s.core k).logical) : s.worked (s.setCore k x) st p where
  cells := ⟨fun _ hc => s.setCore_core_ne (by rintro rfl; exact hc hk) x, rfl, fun _ => rfl, fun _ _ => rfl⟩
  logical j := by
    by_cases hj : j = k
    · subst hj; simpa using hx
    · rw [s.setCore_core_ne hj]
  steps := rfl
  others _ _ := rfl
  img := rfl
  hbm := rfl
  freeCtr := rfl

theorem State.setArray_cells_worked {g : Nat} (hg : p (g / 4)) (cells : List Cell) :
    s.worked (s.setArray g { s.array g with cells := cells }) st p where
  cells := by
    refine ⟨fun _ _ => rfl, rfl, fun k => ?_, fun k hk => s.setArray_array_ne (by rintro rfl; exact hk hg) _⟩
    by_cases hk : k = g
    · subst hk; simp
    · rw [s.setArray_array_ne hk]
  logical _ := rfl
  steps := rfl
  others _ _ := rfl
  img := rfl
  hbm := rfl
  freeCtr := rfl

theorem State.markCmd_worked (c : Cmd) (cause : Nat) : s.worked (s.markCmd st c cause) st p := by
  unfold State.markCmd State.mark
  split
  · exact State.worked.refl s st p
  · exact (s.setSteps_worked st p _).trans (State.setCounters_worked _ st p _)

theorem State.foldl_worked {α : Type} (f : State → α → State) (l : List α) (h : ∀ u : State, ∀ a ∈ l, u.worked (f u a) st p) :
    s.worked (l.foldl f s) st p := by
  induction l generalizing s with
  | nil => exact State.worked.refl s st p
  | cons a l ih => exact (h s a List.mem_cons_self).trans (ih _ fun u b hb => h u b (List.mem_cons_of_mem a hb))

end

/-! ### The command carried from core to core -/

/-- `d` is the command `c` with more noted: statuses, stream slots, single-buffered cores and kept values. -/
def Cmd.carries (c d : Cmd) : Prop :=
  d = { c with keptIn := d.keptIn, statuses := d.statuses, stream := d.stream, todo := d.todo }

theorem Cmd.carries.trans {c d e : Cmd} (h : c.carries d) (k : d.carries e) : c.carries e := by
  unfold Cmd.carries at h k ⊢
  rw [h] at k
  exact k

/-- The kept values that a product starts from on one core, noted. -/
def Cmd.noteKept (c : Cmd) (a : MatArgs) (r ctr : Nat) (kin : KeptSet) : Cmd :=
  if a.accIn then { c with keptIn := c.keptIn ++ [(r, a.m, a.n, kin.starts (ctr + 16384 * r) a.m a.n)] } else c

theorem Cmd.noteKept_carries (c : Cmd) (a : MatArgs) (r ctr : Nat) (kin : KeptSet) : c.carries (c.noteKept a r ctr kin) := by
  unfold Cmd.noteKept; split <;> rfl

/-- The command has kept values of a logical core. -/
def Cmd.notes (c : Cmd) (r : Nat) : Bool := c.keptIn.any (fun x => decide (x.1 = r))

theorem Cmd.noteKept_notes {c : Cmd} {a : MatArgs} {r k ctr : Nat} {kin : KeptSet} (h : c.notes k = false) (hk : k ≠ r) :
    (c.noteKept a r ctr kin).notes k = false := by
  unfold Cmd.noteKept
  split
  · simpa [Cmd.notes, hk.symm] using h
  · exact h

/-! ### The values of a product (spec/03 R73 to R77) -/

/-- Row by row, entry (i, j) of an m × n table lies at n × i + j. -/
theorem getElem?_rowMajor {α : Type} (f : Nat → Nat → α) (n : Nat) : ∀ {m i j : Nat}, i < m → j < n →
    ((List.range m).flatMap fun i => (List.range n).map (f i))[n * i + j]? = some (f i j)
  | m + 1, i, j, hi, hj => by
    have length : ((List.range m).flatMap fun i => (List.range n).map (f i)).length = n * m := by
      simp [List.length_flatMap, Nat.mul_comm]
    rw [List.range_succ, List.flatMap_append, List.flatMap_singleton]
    rcases Nat.lt_succ_iff_lt_or_eq.mp hi with earlier | rfl
    · have before : n * i + j < n * m := calc
        n * i + j < n * (i + 1) := by rw [Nat.mul_succ]; omega
        _ ≤ n * m := Nat.mul_le_mul_left n earlier
      rw [List.getElem?_append_left (length ▸ before)]
      exact getElem?_rowMajor f n earlier hj
    · rw [List.getElem?_append_right (by omega), length]
      simp [hj]

/-- Element (i, j) of a core's product, from what the core holds: the kept value or +0, and the runs of the whole of K. -/
def MatArgs.productVal (a : MatArgs) (x : CoreSt) (ctr i j : Nat) : Val :=
  let kin := x.kept a.kset
  accTo (a.valA x.spad i) (fun k => a.valB x.spad k j) a.rl 0 a.k
    (if a.accIn then valAcc (keptVal ctr kin.rows kin.cols kin.vals i j).codeAcc else Val.zero)

/-- The elements row by row. -/
def MatArgs.productVals (a : MatArgs) (x : CoreSt) (ctr : Nat) : Array Val :=
  ((List.range a.m).flatMap fun i => (List.range a.n).map (a.productVal x ctr i)).toArray

theorem MatArgs.productVals_getElem? (a : MatArgs) (x : CoreSt) (ctr : Nat) {i j : Nat} (hi : i < a.m) (hj : j < a.n) :
    (a.productVals x ctr)[a.n * i + j]? = some (a.productVal x ctr i j) := by
  rw [MatArgs.productVals, List.getElem?_toArray]
  exact getElem?_rowMajor _ _ hi hj

theorem MatArgs.productVals_getD (a : MatArgs) (x : CoreSt) (ctr : Nat) {i j : Nat} (hi : i < a.m) (hj : j < a.n) :
    (a.productVals x ctr).getD (a.n * i + j) Val.zero = a.productVal x ctr i j := by
  rw [Array.getD_eq_getD_getElem?, a.productVals_getElem? x ctr hi hj, Option.getD_some]

theorem MatArgs.productVals_codes (a : MatArgs) (x : CoreSt) (ctr : Nat) {i j : Nat} (hi : i < a.m) (hj : j < a.n) :
    ((a.productVals x ctr).toList.map Val.codeAcc).getD (a.n * i + j) 0 = (a.productVal x ctr i j).codeAcc := by
  rw [List.getD_eq_getElem?_getD, List.getElem?_map, Array.getElem?_toList, a.productVals_getElem? x ctr hi hj, Option.map_some,
    Option.getD_some]

theorem MatArgs.productVal_fresh {a : MatArgs} (x : CoreSt) (ctr i j : Nat) (h : a.accIn = false) :
    a.productVal x ctr i j = accTo (a.valA x.spad i) (fun k => a.valB x.spad k j) a.rl 0 a.k Val.zero := by
  simp [MatArgs.productVal, h]

theorem MatArgs.productVal_kept {a : MatArgs} {x : CoreSt} (ctr : Nat) {i j : Nat} (h : a.accIn = true)
    (hi : i < (x.kept a.kset).rows) (hj : j < (x.kept a.kset).cols) :
    a.productVal x ctr i j = accTo (a.valA x.spad i) (fun k => a.valB x.spad k j) a.rl 0 a.k
      (valAcc (valAcc ((x.kept a.kset).vals.getD ((x.kept a.kset).cols * i + j) 0)).codeAcc) := by
  simp [MatArgs.productVal, h, keptVal, hi, hj]

theorem KeptSet.starts_getD (x : KeptSet) (ctr : Nat) {m n i j : Nat} (hi : i < m) (hj : j < n) :
    (x.starts ctr m n).getD (n * i + j) 0 = (keptVal ctr x.rows x.cols x.vals i j).codeAcc := by
  rw [KeptSet.starts, List.getD_eq_getElem?_getD, getElem?_rowMajor _ _ hi hj, Option.getD_some]

section
variable {c : Cmd} {a : MatArgs} {x : CoreSt} {r ctr : Nat}

theorem Cmd.notes_find? (h : c.notes r = false) : c.keptIn.find? (fun x => decide (x.1 = r)) = none := by
  simpa [Cmd.notes] using h

theorem Cmd.matStart_noteKept (h : c.notes r = false) {i j : Nat} (hi : i < a.m) (hj : j < a.n) :
    (c.noteKept a r ctr (x.kept a.kset)).matStart r i j =
      if a.accIn then valAcc (keptVal (ctr + 16384 * r) (x.kept a.kset).rows (x.kept a.kset).cols (x.kept a.kset).vals i j).codeAcc
      else Val.zero := by
  have fresh := Cmd.notes_find? h
  unfold Cmd.noteKept
  split
  · simp only [Cmd.matStart, List.find?_append, fresh, Option.none_or, List.find?_singleton, decide_true, if_true]
    rw [KeptSet.starts_getD _ _ hi hj]
  · simp [Cmd.matStart, fresh]

theorem Cmd.matAcc_of_noFaults {d : Cmd} (h : d.accFaults = []) (m : Mem) (i j k : Nat) :
    d.matAcc a m r i j k = accTo (a.valA m i) (fun k => a.valB m k j) a.rl 0 k (d.matStart r i j) := by
  simp [Cmd.matAcc, h]

/-- Without faults, the result that the arrays form is the product's values. -/
theorem Cmd.matResult_noteKept (hf : c.accFaults = []) (h : c.notes r = false) :
    (c.noteKept a r ctr (x.kept a.kset)).matResult a x.spad r = a.productVals x (ctr + 16384 * r) := by
  have faults : (c.noteKept a r ctr (x.kept a.kset)).accFaults = [] := by
    rw [c.noteKept_carries a r ctr (x.kept a.kset)]; exact hf
  unfold Cmd.matResult MatArgs.productVals
  refine congrArg List.toArray (List.flatMap_congr fun i hi => List.map_congr_left fun j hj => ?_)
  rw [List.mem_range] at hi hj
  rw [Cmd.matAcc_of_noFaults faults, Cmd.matStart_noteKept h hi hj, MatArgs.productVal]

end

/-! ### One core's product -/

/-- A core's scratchpad replaced. -/
def CoreSt.withSpad (x : CoreSt) (m : Mem) : CoreSt := { x with spad := m }

/-- What a product leaves of its core: a kept set used up, and the result kept or written to C. -/
def CoreSt.withProduct (x : CoreSt) (a : MatArgs) (ctx : Nat) (rec : Recipe) (sr : SrCtx) (res : Array Val) : CoreSt :=
  let y := if a.accIn then x.setKept a.kset KeptSet.empty else x
  if a.accOut then y.setKept a.kset ⟨true, ctx, a.m, a.n, res.toList.map Val.codeAcc⟩
  else y.withSpad (a.descC.putStored x.spad
    (a.descC.store rec sr (fun e0 e1 _ _ => res.getD (a.n * e1 + e0) Val.zero) a.descC.lin).bytes)

section
variable (x : CoreSt) (k : Bool) (v : KeptSet)

@[simp] theorem CoreSt.setKept_kept_same : (x.setKept k v).kept k = v := by cases k <;> rfl
@[simp] theorem CoreSt.setKept_kept_other : (x.setKept k v).kept (!k) = x.kept (!k) := by cases k <;> rfl
@[simp] theorem CoreSt.setKept_spad : (x.setKept k v).spad = x.spad := by cases k <;> rfl
@[simp] theorem CoreSt.setKept_batten : (x.setKept k v).batten = x.batten := by cases k <;> rfl
@[simp] theorem CoreSt.setKept_logical : (x.setKept k v).logical = x.logical := by cases k <;> rfl
@[simp] theorem CoreSt.withSpad_kept (m : Mem) : (x.withSpad m).kept k = x.kept k := by cases k <;> rfl
@[simp] theorem CoreSt.withSpad_spad (m : Mem) : (x.withSpad m).spad = m := rfl
@[simp] theorem CoreSt.withSpad_batten (m : Mem) : (x.withSpad m).batten = x.batten := rfl
@[simp] theorem CoreSt.withSpad_logical (m : Mem) : (x.withSpad m).logical = x.logical := rfl

end

section
variable (x : CoreSt) (a : MatArgs) (ctx : Nat) (rec : Recipe) (sr : SrCtx) (res : Array Val)

theorem CoreSt.withProduct_batten : (x.withProduct a ctx rec sr res).batten = x.batten := by
  unfold CoreSt.withProduct; split_ifs <;> simp

theorem CoreSt.withProduct_kept_other : (x.withProduct a ctx rec sr res).kept (!a.kset) = x.kept (!a.kset) := by
  unfold CoreSt.withProduct; split_ifs <;> simp

theorem CoreSt.withProduct_keeps (h : a.accOut = true) : (x.withProduct a ctx rec sr res).spad = x.spad ∧
    (x.withProduct a ctx rec sr res).kept a.kset = ⟨true, ctx, a.m, a.n, res.toList.map Val.codeAcc⟩ := by
  unfold CoreSt.withProduct; split_ifs <;> simp

theorem CoreSt.withProduct_writes (h : a.accOut = false) :
    (x.withProduct a ctx rec sr res).spad = a.descC.putStored x.spad
      (a.descC.store rec sr (fun e0 e1 _ _ => res.getD (a.n * e1 + e0) Val.zero) a.descC.lin).bytes ∧
    (x.withProduct a ctx rec sr res).kept a.kset = if a.accIn then KeptSet.empty else x.kept a.kset := by
  unfold CoreSt.withProduct; split_ifs <;> simp_all

end

section
variable (s : State) (st : Nat) (c : Cmd) (a : MatArgs) (r pc : Nat)

theorem State.operandPoison_carries (bad : Nat) : c.carries (s.operandPoison st c bad).2 := by
  unfold State.operandPoison; split <;> rfl

theorem State.operandPoison_worked (bad : Nat) (p : Nat → Prop) : s.worked (s.operandPoison st c bad).1 st p := by
  unfold State.operandPoison
  split
  · exact State.worked.refl s st p
  · exact (State.setCounters_worked s st p _).trans (State.markCmd_worked _ st p c 6)

theorem State.unavailable_worked (p : Nat → Prop) : s.worked (s.unavailable st c).1 st p :=
  (State.setCounters_worked s st p _).trans (State.markCmd_worked _ st p c 9)

theorem State.leaveCells_worked (m : Mem) : s.worked (s.leaveCells c a r pc m) st (fun k => k = pc) :=
  State.foldl_worked s st _ _ _ fun u g hg => by
    have array : (4 * pc + g) / 4 = pc := by have := List.mem_range.mp hg; omega
    exact u.setArray_cells_worked st (fun k => k = pc) array _

theorem State.markCmd_comp (cause : Nat) : (s.markCmd st c cause).comp = s.comp := by
  unfold State.markCmd State.mark; split <;> rfl

theorem State.operandPoison_comp (bad : Nat) : (s.operandPoison st c bad).1.comp = s.comp := by
  unfold State.operandPoison
  split
  · rfl
  · exact State.markCmd_comp _ st c 6

theorem State.leaveCells_core (m : Mem) (k : Nat) : (s.leaveCells c a r pc m).core k = s.core k := rfl
theorem State.noteSpad_core (n bad k : Nat) : (s.noteSpad pc n bad).core k = s.core k := rfl
theorem State.countFmt_core (w : WrCount) (k : Nat) : (s.countFmt st w).core k = s.core k :=
  State.core_of_comp (by simp [State.countFmt, State.count]) k
@[simp] theorem State.setCore_recipe (k : Nat) (x : CoreSt) (f : FmtWord) : (s.setCore k x).recipe f = s.recipe f := rfl

section
variable (res : Array Val)

theorem State.putProduct_keeps (h : a.accOut = true) : s.putProduct st c a r pc res true =
    s.setCore pc ((s.core pc).setKept a.kset ⟨true, c.context, a.m, a.n, res.toList.map Val.codeAcc⟩) := by
  simp [State.putProduct, h]

theorem State.putProduct_writes (h : a.accOut = false) : s.putProduct st c a r pc res true =
    (s.setCore pc ((s.core pc).withSpad (a.descC.putStored (s.core pc).spad (s.productOut c a res).bytes))).countFmt st
      (s.productOut c a res).cnt := by
  simp [State.putProduct, h, State.setSpad, CoreSt.withSpad]

theorem State.putProduct_core : (s.putProduct st c a r pc res true).core pc =
    if a.accOut then (s.core pc).setKept a.kset ⟨true, c.context, a.m, a.n, res.toList.map Val.codeAcc⟩
    else (s.core pc).withSpad (a.descC.putStored (s.core pc).spad (a.descC.store (s.recipe a.descC.fmt) (c.sr a.descC.fmt)
      (fun e0 e1 _ _ => res.getD (a.n * e1 + e0) Val.zero) a.descC.lin).bytes) := by
  cases h : a.accOut
  · rw [s.putProduct_writes st c a r pc res h, State.countFmt_core, State.setCore_core_same]; rfl
  · rw [s.putProduct_keeps st c a r pc res h, State.setCore_core_same]; rfl

theorem State.putProduct_worked : s.worked (s.putProduct st c a r pc res true) st (fun k => k = pc) := by
  cases h : a.accOut
  · rw [s.putProduct_writes st c a r pc res h]
    exact (s.setCore_worked st (fun k => k = pc) rfl (CoreSt.withSpad_logical _ _)).trans (State.countFmt_worked _ st _ _)
  · rw [s.putProduct_keeps st c a r pc res h]
    exact s.setCore_worked st (fun k => k = pc) rfl (CoreSt.setKept_logical _ _ _)

end

/-- A used kept set given back, and the result kept or written to C. -/
def State.storedProduct : State :=
  let x := s.core pc
  let d := c.noteKept a r s.freeCtr (x.kept a.kset)
  (if a.accIn then s.setCore pc (x.setKept a.kset KeptSet.empty) else s).putProduct st d a r pc (d.matResult a x.spad r) true

theorem State.storedProduct_worked : s.worked (s.storedProduct st c a r pc) st (fun k => k = pc) := by
  unfold State.storedProduct
  split
  · exact (s.setCore_worked st (fun k => k = pc) rfl (CoreSt.setKept_logical _ _ _)).trans (State.putProduct_worked _ st _ a r pc _)
  · exact s.putProduct_worked st _ a r pc _

/-- The core as the stored result leaves it. -/
theorem State.storedProduct_core (hf : c.accFaults = []) (hn : c.notes r = false) :
    (s.storedProduct st c a r pc).core pc = (s.core pc).withProduct a c.context (s.recipe a.descC.fmt) (c.sr a.descC.fmt)
      (a.productVals (s.core pc) (s.freeCtr + 16384 * r)) := by
  have carried := c.noteKept_carries a r s.freeCtr ((s.core pc).kept a.kset)
  have context : (c.noteKept a r s.freeCtr ((s.core pc).kept a.kset)).context = c.context := by rw [carried]; rfl
  have draws : (c.noteKept a r s.freeCtr ((s.core pc).kept a.kset)).sr a.descC.fmt = c.sr a.descC.fmt := by rw [carried]; rfl
  simp only [State.storedProduct, Cmd.matResult_noteKept hf hn, State.putProduct_core, context, draws]
  cases hin : a.accIn <;> simp [CoreSt.withProduct, hin]

/-- Words of operands that failed correction, on one core of several: the status and the mark come once. -/
def State.poisonNoted (bad : Nat) : State × Cmd :=
  if c.statuses.contains 0x01f6 then (s.count (kStand st cIntOperandPoison) bad, c) else s.operandPoison st c bad

theorem State.poisonNoted_worked (bad : Nat) (p : Nat → Prop) : s.worked (s.poisonNoted st c bad).1 st p := by
  unfold State.poisonNoted
  split
  · exact s.count_worked st p _ bad
  · exact s.operandPoison_worked st c bad p

theorem State.poisonNoted_comp (bad : Nat) : (s.poisonNoted st c bad).1.comp = s.comp := by
  unfold State.poisonNoted
  split
  · rfl
  · exact s.operandPoison_comp st c bad

theorem State.poisonNoted_carries (bad : Nat) : c.carries (s.poisonNoted st c bad).2 := by
  unfold State.poisonNoted
  split
  · rfl
  · exact s.operandPoison_carries st c bad

theorem State.poisonNoted_keptIn (bad : Nat) : (s.poisonNoted st c bad).2.keptIn = c.keptIn := by
  unfold State.poisonNoted State.operandPoison
  split_ifs <;> rfl

/-- The uncorrectable words of A and B on a core. -/
def State.operandBad : Nat := (a.descA.spadFaults (s.core pc).spad).2 + (a.descB.spadFaults (s.core pc).spad).2

/-- The core's result, cells and notes of words read. -/
def State.readProduct : State :=
  ((s.storedProduct st c a r pc).leaveCells (c.noteKept a r s.freeCtr ((s.core pc).kept a.kset)) a r pc (s.core pc).spad).noteSpad pc
    ((a.descA.spadFaults (s.core pc).spad).1 + (a.descB.spadFaults (s.core pc).spad).1) (s.operandBad a pc)

theorem State.matCore_eq : s.matCore st c a r pc =
    let x := s.core pc
    let single := x.kept0.held || x.kept1.held
    let q := (s.readProduct st c a r pc).poisonNoted st (c.noteKept a r s.freeCtr (x.kept a.kset)) (s.operandBad a pc)
    (q.1.setCounters (q.1.counters.addUnits (kStand st cMatStream4k) 4096 (a.slots single).2),
     { q.2 with stream := max q.2.stream (a.slots single).1, todo := if single then q.2.todo ++ [r] else q.2.todo }) := rfl

/-- A product on one core: its stored result, the cells that it leaves, and what else it counts and marks. -/
theorem State.matCore_worked : s.worked (s.matCore st c a r pc).1 st (fun k => k = pc) := by
  rw [s.matCore_eq]
  have read : s.worked (s.readProduct st c a r pc) st (fun k => k = pc) := by
    unfold State.readProduct
    exact ((s.storedProduct_worked st c a r pc).trans (State.leaveCells_worked _ st _ a r pc _)).trans
      (State.noteSpad_worked _ st _ pc _ _)
  exact (read.trans (State.poisonNoted_worked _ st _ _ _)).trans (State.setCounters_worked _ st _ _)

theorem State.matCore_core (hf : c.accFaults = []) (hn : c.notes r = false) :
    (s.matCore st c a r pc).1.core pc = (s.core pc).withProduct a c.context (s.recipe a.descC.fmt) (c.sr a.descC.fmt)
      (a.productVals (s.core pc) (s.freeCtr + 16384 * r)) := by
  rw [s.matCore_eq]
  refine (State.core_of_comp (State.poisonNoted_comp (s.readProduct st c a r pc) st _ _) pc).trans ?_
  rw [State.readProduct, State.noteSpad_core, State.leaveCells_core, s.storedProduct_core st c a r pc hf hn]

theorem State.matCore_carries : c.carries (s.matCore st c a r pc).2 := by
  rw [s.matCore_eq]
  exact ((c.noteKept_carries a r s.freeCtr _).trans (State.poisonNoted_carries _ st _ _)).trans rfl

theorem State.matCore_notes {k : Nat} (hn : c.notes k = false) (hk : k ≠ r) : (s.matCore st c a r pc).2.notes k = false := by
  rw [s.matCore_eq]
  simpa only [Cmd.notes, State.poisonNoted_keptIn] using Cmd.noteKept_notes hn hk

end

/-! ### The selected cores in turn (spec/11 R296 for one without a physical core) -/

section
variable (s : State) (st : Nat) (c : Cmd) (a : MatArgs) (px r : Nat)

/-- The turn of one selected core. -/
def State.matTurn : State × Cmd :=
  match s.physCore px r with
  | some pc => s.matCore st c a r pc
  | none => if c.statuses.contains 0x01f3 then (s, c) else s.unavailable st c

theorem State.matCores_cons (rs : List Nat) : s.matCores st c a px (r :: rs) =
    (s.matTurn st c a px r).1.matCores st (s.matTurn st c a px r).2 a px rs := by
  cases h : s.physCore px r <;> simp only [State.matCores, State.matTurn, h]

theorem State.matTurn_some {pc : Nat} (h : s.physCore px r = some pc) : s.matTurn st c a px r = s.matCore st c a r pc := by
  simp only [State.matTurn, h]

theorem State.matTurn_worked : s.worked (s.matTurn st c a px r).1 st (fun pc => s.physCore px r = some pc) := by
  cases h : s.physCore px r with
  | some pc =>
    rw [s.matTurn_some st c a px r h]
    exact (s.matCore_worked st c a r pc).mono fun k hk => congrArg some hk.symm
  | none =>
    simp only [State.matTurn, h]
    split
    · exact State.worked.refl s st _
    · exact s.unavailable_worked st c _

theorem State.matTurn_carries : c.carries (s.matTurn st c a px r).2 := by
  unfold State.matTurn
  split
  · exact s.matCore_carries st c a r _
  · split <;> rfl

theorem State.matTurn_notes {k : Nat} (hn : c.notes k = false) (hk : k ≠ r) : (s.matTurn st c a px r).2.notes k = false := by
  unfold State.matTurn
  split
  · exact s.matCore_notes st c a r _ hn hk
  · split <;> exact hn

theorem State.matCores_worked (rs : List Nat) :
    s.worked (s.matCores st c a px rs).1 st (fun pc => ∃ r ∈ rs, s.physCore px r = some pc) := by
  induction rs generalizing s c with
  | nil => exact State.worked.refl s st _
  | cons r rs ih =>
    rw [s.matCores_cons]
    have turn := s.matTurn_worked st c a px r
    refine (turn.mono fun pc h => ⟨r, List.mem_cons_self, h⟩).trans ((ih _ _).mono ?_)
    rintro pc ⟨k, hk, h⟩
    exact ⟨k, List.mem_cons_of_mem r hk, turn.physCore px k ▸ h⟩

theorem State.matCores_carries (rs : List Nat) : c.carries (s.matCores st c a px rs).2 := by
  induction rs generalizing s c with
  | nil => rfl
  | cons r rs ih =>
    rw [s.matCores_cons]
    exact (s.matTurn_carries st c a px r).trans (ih _ _)

/-- Whatever cores took their turn before, a selected core is left as a product on it alone leaves it. -/
theorem State.matCores_core {rs : List Nat} {pc : Nat} (distinct : rs.Nodup) (hf : c.accFaults = [])
    (hn : ∀ k ∈ rs, c.notes k = false) (hr : r ∈ rs) (hpc : s.physCore px r = some pc) :
    (s.matCores st c a px rs).1.core pc = (s.core pc).withProduct a c.context (s.recipe a.descC.fmt) (c.sr a.descC.fmt)
      (a.productVals (s.core pc) (s.freeCtr + 16384 * r)) := by
  induction rs generalizing s c with
  | nil => exact absurd hr List.not_mem_nil
  | cons k rs ih =>
    obtain ⟨hk, distinct⟩ := List.nodup_cons.mp distinct
    rw [s.matCores_cons]
    by_cases first : r = k
    · subst first
      have rest := (s.matTurn st c a px r).1.matCores_worked st (s.matTurn st c a px r).2 a px rs
      have turn := s.matTurn_worked st c a px r
      have untouched : ¬ ∃ k ∈ rs, (s.matTurn st c a px r).1.physCore px k = some pc := by
        rintro ⟨k, hkrs, h⟩
        rw [turn.physCore] at h
        exact hk (s.physCore_inj hpc h ▸ hkrs)
      rw [rest.cells.1 pc untouched, s.matTurn_some st c a px r hpc]
      exact s.matCore_core st c a r pc hf (hn r List.mem_cons_self)
    · have turn := s.matTurn_worked st c a px k
      have carried := s.matTurn_carries st c a px k
      have later := ih (s.matTurn st c a px k).1 (s.matTurn st c a px k).2 distinct (by rw [carried]; exact hf)
        (fun j hj => s.matTurn_notes st c a px k (hn j (List.mem_cons_of_mem k hj)) fun e => hk (e ▸ hj))
        ((List.mem_cons.mp hr).resolve_left first) (by rw [turn.physCore]; exact hpc)
      have core : (s.matTurn st c a px k).1.core pc = s.core pc := turn.cells.1 pc fun h => first (s.physCore_inj hpc h)
      have context : (s.matTurn st c a px k).2.context = c.context := by rw [carried]; rfl
      have draws : (s.matTurn st c a px k).2.sr a.descC.fmt = c.sr a.descC.fmt := by rw [carried]; rfl
      rw [later, core, context, draws, turn.freeCtr, State.recipe, turn.img]
      rfl

end

/-! ### The command -/

section
variable {s : State} {st : Nat} {c : Cmd} {px : Nat}

/-- The command as its work begins. -/
def Cmd.begun (c : Cmd) (now : W64) : Cmd := { c with tStart := now, stage := .running }

/-- The selected cores' work and the command with what it notes. -/
def State.matWork (s : State) (st : Nat) (c : Cmd) (px : Nat) : State × Cmd :=
  s.matCores st (c.begun s.clock.now) (matArgs c.bytes) px ((List.range 4).filter (matArgs c.bytes).selects)

theorem State.runMat_eq (h : s.standCluster st (matArgs c.bytes).cluster = some px) : s.runMat st c =
    ((s.matWork st c px).1.setCmd st (s.matWork st c px).2).setFreeCtr
      (if (matArgs c.bytes).accIn then s.freeCtr + 65536 else s.freeCtr) := by
  simp only [State.runMat, h]
  rfl

/-- A selected core that exists. -/
def State.matSelected (s : State) (c : Cmd) (px pc : Nat) : Prop :=
  ∃ r, r < 4 ∧ (matArgs c.bytes).selects r = true ∧ s.physCore px r = some pc

theorem State.matWork_worked : s.worked (s.matWork st c px).1 st (s.matSelected c px) := by
  refine (s.matCores_worked st _ _ px _).mono ?_
  rintro pc ⟨r, hr, h⟩
  obtain ⟨four, selected⟩ := List.mem_filter.mp hr
  exact ⟨r, List.mem_range.mp four, selected, h⟩

theorem State.matWork_command : (s.matWork st c px).2.ticket = c.ticket ∧ (s.matWork st c px).2.stage = .running := by
  have carried := s.matCores_carries st (c.begun s.clock.now) (matArgs c.bytes) px ((List.range 4).filter (matArgs c.bytes).selects)
  unfold State.matWork
  rw [carried]
  exact ⟨rfl, rfl⟩

theorem State.runMat_core (hf : c.accFaults = []) (hk : c.keptIn = []) (h : s.standCluster st (matArgs c.bytes).cluster = some px)
    {r pc : Nat} (hr : r < 4) (hs : (matArgs c.bytes).selects r = true) (hpc : s.physCore px r = some pc) :
    (s.runMat st c).core pc = (s.core pc).withProduct (matArgs c.bytes) c.context (s.recipe (matArgs c.bytes).descC.fmt)
      (c.sr (matArgs c.bytes).descC.fmt) ((matArgs c.bytes).productVals (s.core pc) (s.freeCtr + 16384 * r)) := by
  rw [State.runMat_eq h]
  exact s.matCores_core st (c.begun s.clock.now) _ px r (List.nodup_range.filter _) hf
    (fun k _ => by simp [Cmd.notes, Cmd.begun, hk]) (List.mem_filter.mpr ⟨List.mem_range.mpr hr, hs⟩) hpc

theorem State.runMat_stand (h : s.standCluster st (matArgs c.bytes).cluster = some px) :
    (s.runMat st c).stand st = ((s.matWork st c px).1.stand st).setCmd c.ticket (s.matWork st c px).2 := by
  rw [State.runMat_eq h, ← State.matWork_command.1]
  exact State.setStand_stand_same _ st _

theorem State.runMat_stage {tkt : Nat} (hc : (s.stand st).cmd tkt = some c)
    (h : s.standCluster st (matArgs c.bytes).cluster = some px) : (s.runMat st c).stageOf st tkt = some .running := by
  obtain ⟨ticket, stage⟩ := s.matWork_command (st := st) (c := c) (px := px)
  have inflight : ((s.matWork st c px).1.stand st).cmd tkt = some c := by rw [s.matWork_worked.steps]; exact hc
  have own := StandSt.cmd_ticket hc
  rw [State.stageOf, State.runMat_stand h, own, StandSt.cmd_setCmd inflight (ticket.trans own), Option.map_some, stage]

theorem State.runMat_outputs (h : s.standCluster st (matArgs c.bytes).cluster = some px) :
    ((s.runMat st c).stand st).outputs = (s.stand st).outputs := by
  rw [State.runMat_stand h, s.matWork_worked.steps]
  rfl

/-- Outside its stand, the selected cores and their cells, a product changes nothing that holds data. -/
theorem State.runMat_keeps (h : s.standCluster st (matArgs c.bytes).cluster = some px) :
    s.cellsOnly (s.runMat st c) (s.matSelected c px) ∧ s.standOnly (s.runMat st c) st ∧ (s.runMat st c).hbm = s.hbm := by
  have work := s.matWork_worked (st := st) (c := c) (px := px)
  rw [State.runMat_eq h]
  exact ⟨work.cells, fun k hk => (State.setStand_stand_ne _ hk _).trans (work.others k hk), work.hbm⟩

theorem exec_product {tkt op : Nat} (hop : op = 1 ∨ op = 2) (h : s.canRun st tkt op = some c) :
    exec (if op = 1 then .matmul st tkt else .matmulPlane st tkt) s =
      .next (if (s.stand st).outHeld c then s else s.runMat st c) := by
  rcases hop with rfl | rfl
  · rw [if_pos rfl]
    change execMatmul st tkt s = _
    rw [execMatmul, h]
  · rw [if_neg (by decide)]
    change execMatmulPlane st tkt s = _
    rw [execMatmulPlane, h]

theorem exec_product_frame {tkt op : Nat} {t : State}
    (h : exec (if op = 1 then .matmul st tkt else .matmulPlane st tkt) s = .next t) : t.frame = s.frame := by
  split at h
  · exact exec_frame _ rfl h
  · exact exec_frame _ rfl h

end

/-- Settles O28: each selected core is left with its own product (`State.runMat_core`), whose values are those of R73 to R77. -/
theorem products : Obligations.Products := by
  unfold Obligations.Products
  refine ⟨fun s st tkt op c hop hrun held => ?_, fun s st tkt op px c hop hrun hf hk free hpx => ?_⟩
  · rw [exec_product hop hrun, if_pos held]
  obtain ⟨cmd, queued⟩ := State.canRun_some hrun
  have runs : exec (if op = 1 then .matmul st tkt else .matmulPlane st tkt) s = .next (s.runMat st c) := by
    rw [exec_product hop hrun, free]; rfl
  obtain ⟨cells, others, hbm⟩ := State.runMat_keeps hpx
  refine ⟨s.runMat st c, runs, by rw [State.stageOf, cmd, Option.map_some, queued], State.runMat_stage cmd hpx, ?_, cells,
    State.runMat_outputs hpx, others, hbm, exec_product_frame runs⟩
  intro r pc hr selected hpc
  rw [State.runMat_core hf hk hpx hr selected hpc]
  generalize matArgs c.bytes = a
  have element {i j : Nat} (hi : i < a.m) (hj : j < a.n) := a.productVals_getD (s.core pc) (s.freeCtr + 16384 * r) hi hj
  refine ⟨fun i j => (a.productVals (s.core pc) (s.freeCtr + 16384 * r)).getD (a.n * i + j) Val.zero,
    fun i j hi hj => ⟨?fresh, ?kept⟩, CoreSt.withProduct_writes _ a _ _ _ _, ?keeps,
    CoreSt.withProduct_kept_other _ a _ _ _ _, CoreSt.withProduct_batten _ a _ _ _ _⟩
  case fresh =>
    intro fresh
    exact (element hi hj).trans (MatArgs.productVal_fresh _ _ _ _ fresh)
  case kept =>
    rintro x rfl kept rows cols
    exact (element hi hj).trans (MatArgs.productVal_kept _ kept (rows ▸ hi) (cols ▸ hj))
  case keeps =>
    intro keeps
    obtain ⟨spad, set⟩ := CoreSt.withProduct_keeps (s.core pc) a c.context (s.recipe a.descC.fmt) (c.sr a.descC.fmt)
      (a.productVals (s.core pc) (s.freeCtr + 16384 * r)) keeps
    exact ⟨spad, _, set, fun i j hi hj => (a.productVals_codes _ _ hi hj).trans (congrArg Val.codeAcc (element hi hj).symm)⟩

end Sys2Proof.Machine
end
section
/-! A statement that fails outside the numbering of the stands, 0 to 63 (spec/00 Table 0-6): by the places of spec/11 Table 11-9 the
counters of a stand 72, were there one, would lie among those of the cores. -/

namespace Sys2Proof.Machine

/-- A VECOP on logical core 3 of its stand's cluster 0. -/
def vecOnCore3 : Cmd := StandSt.reset.newCmd ([8, 0, 1, 0] ++ List.replicate 12 0 ++ [0, 8] ++ List.replicate 46 0) .h0 (some 0) 0

/-- Cluster 3, whose logical core 3 is core 18, belongs to a stand of number 72, and the VECOP is that stand's. -/
def standBeyond : State :=
  { runningModule [(72, standOwning 3)] with stands := [(72, { StandSt.reset with inflight := [vecOnCore3], nextTicket := 1 })] }

theorem standBeyond_lane : (standBeyond.stand 72).cmd vecOnCore3.ticket = some vecOnCore3 ∧
    standBeyond.laneAt (.vector 18) 72 vecOnCore3 = true := by decide +kernel

/-- The confirmed lane fault counts for the stand and for the core, and both counters have the same place. -/
theorem standBeyond_counts (t : State)
    (h : exec (.laneReexecution (.vector 18) 0 (some (.elem 0, 0)) 72 vecOnCore3.ticket) standBeyond = .next t) :
    kStand 72 cIntFaultConfirmed = kCore 18 cIntCoreConfirmed ∧ standBeyond.counters.get (kStand 72 cIntFaultConfirmed) = 0 ∧
      t.counters.get (kStand 72 cIntFaultConfirmed) = 2 := by
  obtain rfl := Host.Outcome.next.inj h
  decide +kernel

/-- Refutes O53: nothing in the statement says that the stand is one of 0 to 63, and the counter of confirmed faults of a stand 72 is that
of core 18, so that a lane fault confirmed there counts twice. -/
theorem not_integrityChecks : ¬ Obligations.IntegrityChecks := by
  unfold Obligations.IntegrityChecks
  intro h
  obtain ⟨-, -, -, -, -, lanes, -⟩ := h
  obtain ⟨cmd, atWork⟩ := standBeyond_lane
  obtain ⟨-, again⟩ := (lanes standBeyond (.vector 18) 0 72 vecOnCore3.ticket vecOnCore3 cmd).2 atWork
  obtain ⟨t, runs, -, once, -⟩ := again (.elem 0) 0
  obtain ⟨-, none, two⟩ := standBeyond_counts t runs
  rw [none, two] at once
  exact absurd once (by decide)

end Sys2Proof.Machine
end
section
/-! The engines of the selected cores (spec/05 R111, R118, R128; spec/11 R296): what work on cores may touch, what each core is left
with, and the end of the command. -/

namespace Sys2Proof.Machine

/-! ### Work on cores that leaves the arrays -/

/-- From `s` to `t` work on the cores of `p` for stand `st`, and no array's registers. -/
structure State.coreWork (s t : State) (st : Nat) (p : Nat → Prop) : Prop extends s.worked t st p where
  arrays : t.comp.arrays = s.comp.arrays

theorem State.coreWork.trans {s t u : State} {st : Nat} {p : Nat → Prop} (h : s.coreWork t st p) (k : t.coreWork u st p) :
    s.coreWork u st p :=
  ⟨h.toworked.trans k.toworked, k.arrays.trans h.arrays⟩

theorem State.coreWork.mono {s t : State} {st : Nat} {p q : Nat → Prop} (h : s.coreWork t st p) (hpq : ∀ k, p k → q k) :
    s.coreWork t st q :=
  ⟨h.toworked.mono hpq, h.arrays⟩

theorem State.coreWork.physCore {s t : State} {st : Nat} {p : Nat → Prop} (h : s.coreWork t st p) (px r : Nat) :
    t.physCore px r = s.physCore px r :=
  h.toworked.physCore px r

theorem State.coreWork.core {s t : State} {st : Nat} {p : Nat → Prop} (h : s.coreWork t st p) {k : Nat} (hk : ¬ p k) :
    t.core k = s.core k := by
  obtain ⟨cores, -⟩ := h.cells
  exact cores k hk

theorem State.coreWork.coresOnly {s t : State} {st : Nat} {p : Nat → Prop} (h : s.coreWork t st p) : s.coresOnly t p := by
  obtain ⟨cores, clusters, -⟩ := h.cells
  exact ⟨cores, clusters, h.arrays⟩

theorem State.coreWork.cmd {s t : State} {st : Nat} {p : Nat → Prop} (h : s.coreWork t st p) (tkt : Nat) :
    (t.stand st).cmd tkt = (s.stand st).cmd tkt := by
  rw [h.steps]; rfl

theorem State.coreWork.outputs {s t : State} {st : Nat} {p : Nat → Prop} (h : s.coreWork t st p) :
    (t.stand st).outputs = (s.stand st).outputs := by
  rw [h.steps]; rfl

section
variable (s : State) (st : Nat) (p : Nat → Prop)

theorem State.coreWork.refl : s.coreWork s st p := ⟨State.worked.refl s st p, rfl⟩

theorem State.worked.coreWork {s t : State} {st : Nat} {p : Nat → Prop} (h : s.worked t st p) (hc : t.comp = s.comp) :
    s.coreWork t st p :=
  ⟨h, congrArg Compute.arrays hc⟩

theorem State.setCore_coreWork {k : Nat} {x : CoreSt} (hk : p k) (hx : x.logical = (s.core k).logical) :
    s.coreWork (s.setCore k x) st p :=
  ⟨s.setCore_worked st p hk hx, rfl⟩

theorem State.count_coreWork (k n : Nat) : s.coreWork (s.count k n) st p := (s.count_worked st p k n).coreWork rfl

theorem State.countFmt_comp (w : WrCount) : (s.countFmt st w).comp = s.comp := by
  simp [State.countFmt, State.count]

theorem State.countFmt_coreWork (w : WrCount) : s.coreWork (s.countFmt st w) st p :=
  (s.countFmt_worked st p w).coreWork (s.countFmt_comp st w)

theorem State.setSpad_coreWork (pc : Nat) (m : Mem) : s.coreWork (s.setSpad pc m) st (fun k => k = pc) :=
  s.setCore_coreWork st (fun k => k = pc) rfl rfl

theorem State.setSpad_core (pc : Nat) (m : Mem) : (s.setSpad pc m).core pc = (s.core pc).withSpad m :=
  s.setCore_core_same pc _

end

/-! ### What reading operands notes -/

section
variable (s : State) (st : Nat) (c : Cmd) (pc : Nat) (ds : List Desc)

theorem State.poisonNoted_coreWork (bad : Nat) (p : Nat → Prop) : s.coreWork (s.poisonNoted st c bad).1 st p :=
  (s.poisonNoted_worked st c bad p).coreWork (s.poisonNoted_comp st c bad)

/-- The words of the operands that a read corrects, and that fail correction. -/
def State.operandsFaults : Nat × Nat :=
  let f := ds.map (fun d => d.spadFaults (s.core pc).spad)
  ((f.map Prod.fst).sum, (f.map Prod.snd).sum)

/-- The counts that reading the operands makes. -/
def State.countOperands : State :=
  (s.noteSpad pc (s.operandsFaults pc ds).1 (s.operandsFaults pc ds).2).count (kStand st cFmtDecodeOverflow)
    (ds.map (fun d => d.decodeOverflows (s.core pc).spad)).sum

theorem State.noteOperands_eq : s.noteOperands st c pc ds =
    (s.countOperands st pc ds).poisonNoted st c (s.operandsFaults pc ds).2 := rfl

theorem State.noteOperands_comp : (s.noteOperands st c pc ds).1.comp = s.comp := by
  rw [s.noteOperands_eq, State.poisonNoted_comp]; rfl

theorem State.noteOperands_coreWork (p : Nat → Prop) : s.coreWork (s.noteOperands st c pc ds).1 st p := by
  have counted : s.worked (s.countOperands st pc ds) st p :=
    (s.noteSpad_worked st p pc _ _).trans (State.count_worked _ st p _ _)
  exact (counted.trans (State.poisonNoted_worked _ st c _ p)).coreWork (s.noteOperands_comp st c pc ds)

theorem State.noteOperands_carries : c.carries (s.noteOperands st c pc ds).2 :=
  State.poisonNoted_carries _ st c _

theorem State.noteOperands_core (k : Nat) : (s.noteOperands st c pc ds).1.core k = s.core k :=
  State.core_of_comp (s.noteOperands_comp st c pc ds) k

theorem State.noteOperands_img : (s.noteOperands st c pc ds).1.img = s.img :=
  (s.noteOperands_coreWork st c pc ds fun _ => True).img

end

/-- Formats are written by the recipes of the image. -/
theorem State.recipe_of_img {s t : State} (h : t.img = s.img) (f : FmtWord) : t.recipe f = s.recipe f := by
  rw [State.recipe, h]; rfl

/-! ### The selected cores in turn -/

section
variable {c d : Cmd} (h : c.carries d)
include h

theorem Cmd.carries.ticket : d.ticket = c.ticket := by rw [h]
theorem Cmd.carries.seeds : d.seeds = c.seeds := by rw [h]
theorem Cmd.carries.sr (w : FmtWord) : d.sr w = c.sr w := by rw [h]; rfl
theorem Cmd.carries.laneVal (pc : Nat) (p : LanePlace) (v : Val) : d.laneVal pc p v = c.laneVal pc p v := by rw [h]; rfl

end

/-- The work `f` touches one core at a time, and while the image of `s` is in force and the command is `c` with what other cores noted,
it leaves core `pc`, which held `x`, as `left pc x`. -/
structure State.coreTask (s : State) (st : Nat) (c : Cmd) (f : State → Cmd → Nat → State × Cmd)
    (left : Nat → CoreSt → CoreSt) : Prop where
  work : ∀ (u : State) (d : Cmd) (pc : Nat), u.coreWork (f u d pc).1 st (fun k => k = pc)
  carry : ∀ (u : State) (d : Cmd) (pc : Nat), d.carries (f u d pc).2
  core : ∀ (u : State) (d : Cmd) (pc : Nat), u.img = s.img → c.carries d → (f u d pc).1.core pc = left pc (u.core pc)

/-- The turn of one selected core; one without a physical core does nothing. -/
def State.coreTurn (s : State) (st : Nat) (c : Cmd) (px : Nat) (f : State → Cmd → Nat → State × Cmd) (r : Nat) : State × Cmd :=
  match s.physCore px r with
  | some pc => f s c pc
  | none => if c.statuses.contains 0x01f3 then (s, c) else s.unavailable st c

section
variable (s : State) (st : Nat) (c : Cmd) (px r : Nat) (f : State → Cmd → Nat → State × Cmd)

theorem State.onCores_cons (rs : List Nat) : s.onCores st c px f (r :: rs) =
    (s.coreTurn st c px f r).1.onCores st (s.coreTurn st c px f r).2 px f rs := by
  cases h : s.physCore px r <;> simp only [State.onCores, State.coreTurn, h]

theorem State.coreTurn_some {pc : Nat} (h : s.physCore px r = some pc) : s.coreTurn st c px f r = f s c pc := by
  simp only [State.coreTurn, h]

theorem State.unavailable_coreWork (p : Nat → Prop) : s.coreWork (s.unavailable st c).1 st p :=
  (s.unavailable_worked st c p).coreWork (State.markCmd_comp _ st c 9)

end

section
variable {s : State} {st : Nat} {c : Cmd} {f : State → Cmd → Nat → State × Cmd} {left : Nat → CoreSt → CoreSt}
variable (task : s.coreTask st c f left) (u : State) (d : Cmd) (px r : Nat)
include task

theorem State.coreTask.turn_work : u.coreWork (u.coreTurn st d px f r).1 st (fun pc => u.physCore px r = some pc) := by
  cases h : u.physCore px r with
  | some pc =>
    rw [u.coreTurn_some st d px r f h]
    exact (task.work u d pc).mono fun k hk => congrArg some hk.symm
  | none =>
    simp only [State.coreTurn, h]
    split
    · exact State.coreWork.refl u st _
    · exact u.unavailable_coreWork st d _

theorem State.coreTask.turn_carries : d.carries (u.coreTurn st d px f r).2 := by
  unfold State.coreTurn
  split
  · exact task.carry u d _
  · split <;> rfl

theorem State.coreTask.onCores_work (rs : List Nat) :
    u.coreWork (u.onCores st d px f rs).1 st (fun pc => ∃ r, r ∈ rs ∧ u.physCore px r = some pc) := by
  induction rs generalizing u d with
  | nil => exact State.coreWork.refl u st _
  | cons r rs ih =>
    rw [u.onCores_cons]
    have turn := task.turn_work u d px r
    refine (turn.mono fun pc h => ⟨r, List.mem_cons_self, h⟩).trans ((ih _ _).mono ?_)
    rintro pc ⟨k, hk, h⟩
    exact ⟨k, List.mem_cons_of_mem r hk, turn.physCore px k ▸ h⟩

theorem State.coreTask.onCores_carries (rs : List Nat) : d.carries (u.onCores st d px f rs).2 := by
  induction rs generalizing u d with
  | nil => rfl
  | cons r rs ih =>
    rw [u.onCores_cons]
    exact (task.turn_carries u d px r).trans (ih _ _)

/-- Whatever cores took their turn before or take it after, a selected core is left as the work on it alone leaves it. -/
theorem State.coreTask.onCores_core {u : State} {d : Cmd} {px r pc : Nat} {rs : List Nat} (distinct : rs.Nodup)
    (img : u.img = s.img) (hd : c.carries d) (hr : r ∈ rs) (hpc : u.physCore px r = some pc) :
    (u.onCores st d px f rs).1.core pc = left pc (u.core pc) := by
  induction rs generalizing u d with
  | nil => exact absurd hr List.not_mem_nil
  | cons k rs ih =>
    obtain ⟨hk, distinct⟩ := List.nodup_cons.mp distinct
    have turn := task.turn_work u d px k
    rw [u.onCores_cons]
    by_cases first : r = k
    · subst first
      have rest := task.onCores_work (u.coreTurn st d px f r).1 (u.coreTurn st d px f r).2 px rs
      have untouched : ¬ ∃ k, k ∈ rs ∧ (u.coreTurn st d px f r).1.physCore px k = some pc := by
        rintro ⟨k, hkrs, h⟩
        rw [turn.physCore] at h
        exact hk (u.physCore_inj hpc h ▸ hkrs)
      rw [rest.core untouched, u.coreTurn_some st d px r f hpc]
      exact task.core u d pc img hd
    · have before : (u.coreTurn st d px f k).1.core pc = u.core pc := turn.core fun h => first (u.physCore_inj hpc h)
      have later := ih distinct (turn.img.trans img) (hd.trans (task.turn_carries u d px k))
        ((List.mem_cons.mp hr).resolve_left first) ((turn.physCore px r).trans hpc)
      rw [later, before]

end

/-! ### The command -/

theorem coresOf_nodup (m : Nat) : (coresOf m).Nodup := List.nodup_range.filter _

/-- The command as its work begins. -/
def Cmd.startedAt (c : Cmd) (now : W64) (stream : Nat) : Cmd := { c with tStart := now, stream := stream }

/-- The work on the selected cores, and the command ended. -/
def State.engineRun (s : State) (st : Nat) (c : Cmd) (px : Nat) (f : State → Cmd → Nat → State × Cmd) (rs : List Nat) : State :=
  let q := s.onCores st c px f rs
  q.1.engineDone st q.2

section
variable {s : State} {st tkt : Nat} {c d : Cmd} {f : State → Cmd → Nat → State × Cmd} {left : Nat → CoreSt → CoreSt}

theorem State.engineDone_cmd (h : (s.stand st).cmd d.ticket = some c) :
    ((s.engineDone st d).stand st).cmd d.ticket = some { d with stage := .done } := by
  rw [State.engineDone, State.setCmd, State.setStand_stand_same]
  exact StandSt.cmd_setCmd h rfl

theorem State.engineDone_outputs : ((s.engineDone st d).stand st).outputs = (s.stand st).outputs := by
  rw [State.engineDone, State.setCmd, State.setStand_stand_same]; rfl

theorem State.engineDone_standOnly : s.standOnly (s.engineDone st d) st := fun _ hk => s.setStand_stand_ne hk _

variable (task : s.coreTask st c f left) (px : Nat) (rs : List Nat)
include task

theorem State.coreTask.run_stage (h : (s.stand st).cmd c.ticket = some d) :
    (s.engineRun st c px f rs).stageOf st c.ticket = some .done := by
  have ticket : (s.onCores st c px f rs).2.ticket = c.ticket := (task.onCores_carries s c px rs).ticket
  have inflight := ((task.onCores_work s c px rs).cmd c.ticket).trans h
  rw [← ticket] at inflight ⊢
  rw [State.stageOf, State.engineRun, State.engineDone_cmd inflight]; rfl

theorem State.coreTask.run_outputs : ((s.engineRun st c px f rs).stand st).outputs = (s.stand st).outputs :=
  State.engineDone_outputs.trans (task.onCores_work s c px rs).outputs

theorem State.coreTask.run_standOnly : s.standOnly (s.engineRun st c px f rs) st := fun k hk =>
  (State.engineDone_standOnly k hk).trans ((task.onCores_work s c px rs).others k hk)

theorem State.coreTask.run_hbm : (s.engineRun st c px f rs).hbm = s.hbm := (task.onCores_work s c px rs).hbm

theorem State.coreTask.run_coresOnly :
    s.coresOnly (s.engineRun st c px f rs) (fun pc => ∃ r, r ∈ rs ∧ s.physCore px r = some pc) :=
  (task.onCores_work s c px rs).coresOnly

theorem State.coreTask.run_core {px r pc : Nat} {rs : List Nat} (distinct : rs.Nodup) (hr : r ∈ rs)
    (hpc : s.physCore px r = some pc) : (s.engineRun st c px f rs).core pc = left pc (s.core pc) :=
  task.onCores_core distinct rfl rfl hr hpc

end

end Sys2Proof.Machine
end
section
/-! VECOP (spec/05 R111 to R116): the value of every element, and what the command leaves on each selected core. -/

namespace Sys2Proof.Machine

/-- Element (i, j) of a VECOP, from what the scratchpad holds: a broadcast operand is read in row 0. -/
def VecArgs.elemVal (a : VecArgs) (seeds : W64 × W64 × W64) (m : Mem) (i j : Nat) : Val :=
  vecElem seeds a (i * a.cols + j) (a.descA.engineVal m i j).1
    (if a.usesB then (a.descB.engineVal m (if a.bcastB then 0 else i) j).1 else Val.zero)
    (if a.usesC then (a.descC.engineVal m (if a.bcastC then 0 else i) j).1 else Val.zero)

theorem VecArgs.result_getD (a : VecArgs) (seeds : W64 × W64 × W64) (m : Mem) {i j : Nat} (hi : i < a.rows) (hj : j < a.cols) :
    (a.result seeds m).getD (a.cols * i + j) Val.zero = a.elemVal seeds m i j := by
  rw [VecArgs.result, Array.getD_eq_getD_getElem?, List.getElem?_toArray]
  exact congrArg (Option.getD · Val.zero) (getElem?_rowMajor (a.elemVal seeds m) a.cols hi hj)

/-- What a core's VECOP stores: its result, each element as its lane leaves it (R128), in FMT_Y. -/
def VecArgs.stored (a : VecArgs) (c : Cmd) (rec : Recipe) (pc : Nat) (m : Mem) : Stored :=
  a.descY.store rec (c.sr a.descY.fmt) (fun e0 e1 _ _ =>
    c.laneVal pc (.elem (a.cols * e1 + e0)) ((a.result c.seeds m).getD (a.cols * e1 + e0) Val.zero)) a.descY.lin

/-- What a VECOP leaves of core `pc`, which held `x`. -/
def VecArgs.leaves (a : VecArgs) (c : Cmd) (rec : Recipe) (pc : Nat) (x : CoreSt) : CoreSt :=
  x.withSpad (a.descY.putStored x.spad (a.stored c rec pc x.spad).bytes)

theorem VecArgs.leaves_of_carries {c d : Cmd} (h : c.carries d) (a : VecArgs) (rec : Recipe) (pc : Nat) (x : CoreSt) :
    a.leaves d rec pc x = a.leaves c rec pc x := by
  simp only [VecArgs.leaves, VecArgs.stored, h.sr, h.laneVal, h.seeds]

section
variable (s : State) (st : Nat) (c : Cmd) (a : VecArgs) (pc : Nat)

theorem State.vecCore_eq : s.vecCore st c a pc =
    let o := a.stored c (s.recipe a.descY.fmt) pc (s.core pc).spad
    let q := s.noteOperands st c pc a.inputs
    ((q.1.setSpad pc (a.descY.putStored (s.core pc).spad o.bytes)).countFmt st o.cnt, q.2) := rfl

theorem State.vecCore_coreWork : s.coreWork (s.vecCore st c a pc).1 st (fun k => k = pc) := by
  rw [s.vecCore_eq]
  exact ((s.noteOperands_coreWork st c pc a.inputs _).trans (State.setSpad_coreWork _ st pc _)).trans
    (State.countFmt_coreWork _ st _ _)

theorem State.vecCore_carries : c.carries (s.vecCore st c a pc).2 := by
  rw [s.vecCore_eq]
  exact s.noteOperands_carries st c pc a.inputs

theorem State.vecCore_core : (s.vecCore st c a pc).1.core pc = a.leaves c (s.recipe a.descY.fmt) pc (s.core pc) := by
  rw [s.vecCore_eq]
  refine (State.countFmt_core _ st _ pc).trans ?_
  rw [State.setSpad_core, s.noteOperands_core]; rfl

end

/-- VECOP is work on the selected cores one at a time. -/
theorem State.vecCore_task (s : State) (st : Nat) (c : Cmd) (a : VecArgs) :
    s.coreTask st c (fun u d pc => u.vecCore st d a pc) (a.leaves c (s.recipe a.descY.fmt)) where
  work u d pc := u.vecCore_coreWork st d a pc
  carry u d pc := u.vecCore_carries st d a pc
  core u d pc img carried := by
    rw [u.vecCore_core, State.recipe_of_img img, VecArgs.leaves_of_carries carried]

section
variable {s : State} {st tkt px : Nat} {c : Cmd}

/-- A write into a range that a product holds has to wait. -/
def State.vecHeld (s : State) (st : Nat) (a : VecArgs) : Bool :=
  (coresOf a.cores).any (fun r => (s.stand st).matHolds a.cluster r a.descY.span)

/-- The command as its work begins. -/
def State.begunVec (s : State) (c : Cmd) (a : VecArgs) : Cmd :=
  c.startedAt s.clock.now (64 * ceilDiv a.rows 64 * ceilDiv a.cols 64 + 32)

/-- The command on its cores. -/
def State.runVec (s : State) (st px : Nat) (c : Cmd) (a : VecArgs) : State :=
  s.engineRun st (s.begunVec c a) px (fun u d pc => u.vecCore st d a pc) (coresOf a.cores)

theorem exec_vecop {a : VecArgs} (ha : vecArgs c.bytes = a) (h : s.canRun st tkt 0x08 = some c)
    (hpx : s.standCluster st a.cluster = some px) :
    exec (.vecop st tkt) s = .next (if s.vecHeld st a then s else s.runVec st px c a) := by
  subst ha
  change execVecop st tkt s = _
  simp only [execVecop, h, hpx]
  rfl

end

/-- Settles O29: each selected core is left with its own result (`State.vecCore_core`), whose elements are the operation's
(`VecArgs.result_getD`). -/
theorem vectorOperations : Obligations.VectorOperations := by
  unfold Obligations.VectorOperations
  intro s st tkt px c hrun hpx
  obtain ⟨cmd, -⟩ := State.canRun_some hrun
  obtain rfl := StandSt.cmd_ticket cmd
  generalize ha : vecArgs c.bytes = a at hpx ⊢
  have runs := exec_vecop ha hrun hpx
  have task := s.vecCore_task st (s.begunVec c a) a
  refine ⟨fun held => ?_, fun free => ?_⟩
  · rw [runs, State.vecHeld, held]; rfl
  rw [State.vecHeld, free] at runs
  refine ⟨s.runVec st px c a, runs, task.run_stage px _ cmd, fun r pc hr hpc => ?_, task.run_coresOnly px _,
    task.run_outputs px _, task.run_standOnly px _, task.run_hbm px _, exec_frame _ rfl runs⟩
  exact ⟨fun i j => (a.result c.seeds (s.core pc).spad).getD (a.cols * i + j) Val.zero,
    fun i j hi hj => a.result_getD c.seeds (s.core pc).spad hi hj, task.run_core (coresOf_nodup _) hr hpc⟩

end Sys2Proof.Machine
end
section
/-! ROWOP (spec/05 R117 to R125): the rows' entries, Y and the sums of dgamma and dbeta, and what the command leaves on each selected
core. -/

namespace Sys2Proof.Machine

/-! ### Rows -/

/-- What each row of a core gives, with its entry as the lanes leave it (R128). -/
def RowArgs.outs (a : RowArgs) (c : Cmd) (pc : Nat) (x : CoreSt) : List RowOut :=
  (List.range a.rows).map (fun r => (a.row (a.rowIn x r) r).lanes c pc r)

/-- The entries that the rows give. -/
def RowArgs.newEntries (a : RowArgs) (c : Cmd) (pc : Nat) (x : CoreSt) : List (Val × Val) :=
  (a.outs c pc x).filterMap (·.entry)

theorem RowArgs.row_entry_isSome {a : RowArgs} (h : a.op = 2 ∨ a.op = 4 ∨ a.op = 8 ∨ a.op = 9) (i : RowIn) (r : Nat) :
    (a.row i r).entry.isSome = true := by
  rcases h with h | h | h | h <;> simp [RowArgs.row, h]

theorem RowArgs.row_entry_none {a : RowArgs} (h : a.op = 3 ∨ a.op = 5 ∨ a.op = 10 ∨ a.op = 11) (i : RowIn) (r : Nat) :
    (a.row i r).entry = none := by
  rcases h with h | h | h | h <;> simp [RowArgs.row, h]

/-- Operations that write entries give one for each row. -/
theorem RowArgs.newEntries_rows {a : RowArgs} (h : a.op = 2 ∨ a.op = 4 ∨ a.op = 8 ∨ a.op = 9) (c : Cmd) (pc : Nat) (x : CoreSt) :
    a.newEntries c pc x =
      (List.range a.rows).map (fun r => ((a.row (a.rowIn x r) r).lanes c pc r).entry.getD (Val.zero, Val.zero)) := by
  rw [RowArgs.newEntries, RowArgs.outs, List.filterMap_map, ← List.filterMap_eq_map]
  refine List.filterMap_congr fun r _ => ?_
  obtain ⟨e, he⟩ := Option.isSome_iff_exists.mp (a.row_entry_isSome h (a.rowIn x r) r)
  simp [RowOut.lanes, he]

theorem RowArgs.newEntries_nil {a : RowArgs} (h : a.op = 3 ∨ a.op = 5 ∨ a.op = 10 ∨ a.op = 11) (c : Cmd) (pc : Nat) (x : CoreSt) :
    a.newEntries c pc x = [] := by
  simp [RowArgs.newEntries, RowArgs.outs, RowOut.lanes, RowArgs.row_entry_none h]

/-- Element (i, j) of Y before its lane, +0 beyond the rows. -/
theorem RowArgs.outs_getD (a : RowArgs) (c : Cmd) (pc : Nat) (x : CoreSt) (i j : Nat) :
    (((a.outs c pc x).toArray.getD i ⟨none, []⟩).y).getD j Val.zero =
      if i < a.rows then (((a.row (a.rowIn x i) i).lanes c pc i).y).getD j Val.zero else Val.zero := by
  rw [Array.getD_eq_getD_getElem?, List.getElem?_toArray, RowArgs.outs, List.getElem?_map]
  by_cases hi : i < a.rows
  · rw [List.getElem?_range hi, if_pos hi]; rfl
  · rw [List.getElem?_eq_none (by simpa using hi), if_neg hi]; rfl

/-! ### What one core is left with -/

/-- Entries written from entry `e` of a store, if there are any. -/
def Mem.withEntries (m : Mem) (e : Nat) (l : List (Val × Val)) : Mem :=
  if l.isEmpty then m else m.writeRange (8 * e) (entryBytes l)

/-- The rows of sums after the command's, in a scratchpad. -/
def RowArgs.withSums (a : RowArgs) (c : Cmd) (pc : Nat) (x : CoreSt) (m : Mem) : Mem :=
  let m := if [10, 11].contains a.op then a.dgamma.putRow m (c.laneRow pc false (a.sums x a.dgamma true)) else m
  if a.op = 10 then a.dbeta.putRow m (c.laneRow pc true (a.sums x a.dbeta false)) else m

/-- Y as it is stored: each element as its lane leaves it (R128), in FMT_Y. -/
def RowArgs.stored (a : RowArgs) (c : Cmd) (rec : Recipe) (pc : Nat) (x : CoreSt) : Stored :=
  a.descY.store rec (c.sr a.descY.fmt) (fun e0 e1 _ _ =>
    c.laneVal pc (.elem (a.cols * e1 + e0)) ((((a.outs c pc x).toArray.getD e1 ⟨none, []⟩).y).getD e0 Val.zero)) a.descY.lin

theorem RowArgs.stored_eq (a : RowArgs) (c : Cmd) (rec : Recipe) (pc : Nat) (x : CoreSt) : a.stored c rec pc x =
    a.descY.store rec (c.sr a.descY.fmt) (fun e0 e1 _ _ => c.laneVal pc (.elem (a.cols * e1 + e0))
      (if e1 < a.rows then ((a.row (a.rowIn x e1) e1).lanes c pc e1).y.getD e0 Val.zero else Val.zero)) a.descY.lin := by
  simp only [RowArgs.stored, RowArgs.outs_getD]

/-- The scratchpad with Y, where the operation has one. -/
def RowArgs.withY (a : RowArgs) (m : Mem) (o : Stored) : Mem := if a.writesY then a.descY.putStored m o.bytes else m

/-- A core's Batten store replaced. -/
def CoreSt.withBatten (x : CoreSt) (m : Mem) : CoreSt := { x with batten := m }

/-- What a ROWOP other than a tap leaves of core `pc`, which held `x`. -/
def RowArgs.leaves (a : RowArgs) (c : Cmd) (rec : Recipe) (pc : Nat) (x : CoreSt) : CoreSt :=
  if a.op = 14 then
    x.withSpad (x.spad.writeRange (512 * a.aY) (entryBytes ((List.range a.rows).map (fun r => entryAt x.batten (a.entry + r)))))
  else if a.op = 15 then
    x.withBatten (x.batten.writeRange (8 * a.entry)
      (entryBytes ((List.range a.rows).map (fun r => entryAt x.spad (64 * a.aX + r)))))
  else
    (x.withBatten (x.batten.withEntries a.entry (a.newEntries c pc x))).withSpad
      (a.withSums c pc x (a.withY x.spad (a.stored c rec pc x)))

section
variable (a : RowArgs) (c : Cmd) (rec : Recipe) (pc : Nat) (x : CoreSt)

theorem RowArgs.leaves_keeps : a.leaves c rec pc x =
    { x with spad := (a.leaves c rec pc x).spad, batten := (a.leaves c rec pc x).batten } := by
  unfold RowArgs.leaves; split_ifs <;> rfl

theorem RowArgs.leaves_of_carries {c d : Cmd} (h : c.carries d) : a.leaves d rec pc x = a.leaves c rec pc x := by
  simp only [RowArgs.leaves, RowArgs.stored, RowArgs.newEntries, RowArgs.outs, RowArgs.withSums, RowOut.lanes, Cmd.laneRow, h.sr,
    h.laneVal]

end

section
variable {a : RowArgs} (c : Cmd) (rec : Recipe) (pc : Nat) (x : CoreSt)

theorem RowArgs.leaves_copyOut (h : a.op = 14) : a.leaves c rec pc x = x.withSpad (x.spad.writeRange (512 * a.aY)
    (entryBytes ((List.range a.rows).map (fun r => entryAt x.batten (a.entry + r))))) := by
  rw [RowArgs.leaves, if_pos h]

theorem RowArgs.leaves_copyIn (h : a.op = 15) : a.leaves c rec pc x = x.withBatten (x.batten.writeRange (8 * a.entry)
    (entryBytes ((List.range a.rows).map (fun r => entryAt x.spad (64 * a.aX + r))))) := by
  rw [RowArgs.leaves, if_neg (by omega), if_pos h]

theorem RowArgs.leaves_rows (h : a.op ≠ 14) (k : a.op ≠ 15) : a.leaves c rec pc x =
    (x.withBatten (x.batten.withEntries a.entry (a.newEntries c pc x))).withSpad
      (a.withSums c pc x (a.withY x.spad (a.stored c rec pc x))) := by
  rw [RowArgs.leaves, if_neg h, if_neg k]

theorem RowArgs.leaves_batten_entries (h : a.op = 2 ∨ a.op = 4 ∨ a.op = 8 ∨ a.op = 9) (rows : 0 < a.rows) :
    (a.leaves c rec pc x).batten = x.batten.writeRange (8 * a.entry) (entryBytes
      ((List.range a.rows).map (fun r => ((a.row (a.rowIn x r) r).lanes c pc r).entry.getD (Val.zero, Val.zero)))) := by
  rw [RowArgs.leaves_rows c rec pc x (by omega) (by omega), ← RowArgs.newEntries_rows h]
  have nonempty : (a.newEntries c pc x).isEmpty = false := by
    rw [RowArgs.newEntries_rows h]; simpa using rows.ne'
  change x.batten.withEntries a.entry (a.newEntries c pc x) = _
  rw [Mem.withEntries, nonempty]; rfl

theorem RowArgs.leaves_batten_kept (h : a.op = 3 ∨ a.op = 5 ∨ a.op = 10 ∨ a.op = 11 ∨ a.op = 14) :
    (a.leaves c rec pc x).batten = x.batten := by
  by_cases copies : a.op = 14
  · rw [RowArgs.leaves_copyOut c rec pc x copies]; rfl
  · rw [RowArgs.leaves_rows c rec pc x copies (by omega), RowArgs.newEntries_nil (by omega)]; rfl

theorem RowArgs.leaves_spad_rows (h : a.op ≠ 14) (k : a.op ≠ 15) :
    (a.leaves c rec pc x).spad = a.withSums c pc x (a.withY x.spad (a.stored c rec pc x)) := by
  rw [RowArgs.leaves_rows c rec pc x h k]; rfl

theorem RowArgs.withY_writes (h : a.op = 3 ∨ a.op = 4 ∨ a.op = 5 ∨ a.op = 8 ∨ a.op = 9 ∨ a.op = 10 ∨ a.op = 11) (m : Mem)
    (o : Stored) : a.withY m o = a.descY.putStored m o.bytes := by
  rcases h with h | h | h | h | h | h | h <;> simp [RowArgs.withY, RowArgs.writesY, h]

theorem RowArgs.withSums_none (h : a.op ≠ 10) (k : a.op ≠ 11) (m : Mem) : a.withSums c pc x m = m := by
  simp [RowArgs.withSums, h, k]

theorem RowArgs.leaves_spad_y (h : a.op = 3 ∨ a.op = 4 ∨ a.op = 5 ∨ a.op = 8 ∨ a.op = 9) :
    (a.leaves c rec pc x).spad = a.descY.putStored x.spad (a.stored c rec pc x).bytes := by
  rw [RowArgs.leaves_spad_rows c rec pc x (by omega) (by omega), RowArgs.withSums_none c pc x (by omega) (by omega),
    RowArgs.withY_writes (by omega)]

theorem RowArgs.leaves_spad_dgamma (h : a.op = 11) : (a.leaves c rec pc x).spad =
    a.dgamma.putRow (a.descY.putStored x.spad (a.stored c rec pc x).bytes) (c.laneRow pc false (a.sums x a.dgamma true)) := by
  rw [RowArgs.leaves_spad_rows c rec pc x (by omega) (by omega), RowArgs.withY_writes (by omega)]
  simp [RowArgs.withSums, h]

theorem RowArgs.leaves_spad_dbeta (h : a.op = 10) : (a.leaves c rec pc x).spad =
    a.dbeta.putRow (a.dgamma.putRow (a.descY.putStored x.spad (a.stored c rec pc x).bytes)
      (c.laneRow pc false (a.sums x a.dgamma true))) (c.laneRow pc true (a.sums x a.dbeta false)) := by
  rw [RowArgs.leaves_spad_rows c rec pc x (by omega) (by omega), RowArgs.withY_writes (by omega)]
  simp [RowArgs.withSums, h]

theorem RowArgs.leaves_spad_kept (h : a.op = 2 ∨ a.op = 15) : (a.leaves c rec pc x).spad = x.spad := by
  rcases h with h | h
  · rw [RowArgs.leaves_spad_rows c rec pc x (by omega) (by omega), RowArgs.withSums_none c pc x (by omega) (by omega)]
    simp [RowArgs.withY, RowArgs.writesY, h]
  · rw [RowArgs.leaves_copyIn c rec pc x h]; rfl

end

/-! ### One core's ROWOP -/

section
variable (s : State) (st : Nat) (c : Cmd) (a : RowArgs) (pc : Nat)

theorem State.putEntries_coreWork (e : Nat) (l : List (Val × Val)) : s.coreWork (s.putEntries pc e l) st (fun k => k = pc) :=
  s.setCore_coreWork st (fun k => k = pc) rfl rfl

theorem State.putEntries_core (e : Nat) (l : List (Val × Val)) : (s.putEntries pc e l).core pc =
    (s.core pc).withBatten ((s.core pc).batten.writeRange (8 * e) (entryBytes l)) :=
  s.setCore_core_same pc _

/-- The rows' entries written, where they give any. -/
def State.putNewEntries (l : List (Val × Val)) : State := if l.isEmpty then s else s.putEntries pc a.entry l

theorem State.putNewEntries_coreWork (l : List (Val × Val)) : s.coreWork (s.putNewEntries a pc l) st (fun k => k = pc) := by
  unfold State.putNewEntries
  split
  · exact State.coreWork.refl s st _
  · exact s.putEntries_coreWork st pc a.entry l

theorem State.putNewEntries_core (l : List (Val × Val)) : (s.putNewEntries a pc l).core pc =
    (s.core pc).withBatten ((s.core pc).batten.withEntries a.entry l) := by
  unfold State.putNewEntries Mem.withEntries
  split
  · rfl
  · exact s.putEntries_core pc a.entry l

/-- Y written, where the operation has one. -/
def State.putY (m : Mem) (o : Stored) : State :=
  if a.writesY then (s.setSpad pc (a.descY.putStored m o.bytes)).countFmt st o.cnt else s

theorem State.putY_coreWork (m : Mem) (o : Stored) : s.coreWork (s.putY st a pc m o) st (fun k => k = pc) := by
  unfold State.putY
  split
  · exact (s.setSpad_coreWork st pc _).trans (State.countFmt_coreWork _ st _ _)
  · exact State.coreWork.refl s st _

theorem State.putY_core (o : Stored) : (s.putY st a pc (s.core pc).spad o).core pc =
    (s.core pc).withSpad (a.withY (s.core pc).spad o) := by
  unfold State.putY RowArgs.withY
  split
  · rw [State.countFmt_core, State.setSpad_core]
  · rfl

/-- The rows of sums written, from what the core held at first. -/
def State.putSums (x : CoreSt) : State :=
  let t := if [10, 11].contains a.op then
    s.setSpad pc (a.dgamma.putRow (s.core pc).spad (c.laneRow pc false (a.sums x a.dgamma true))) else s
  if a.op = 10 then t.setSpad pc (a.dbeta.putRow (t.core pc).spad (c.laneRow pc true (a.sums x a.dbeta false))) else t

theorem State.putSums_coreWork (x : CoreSt) : s.coreWork (s.putSums c a pc x) st (fun k => k = pc) := by
  unfold State.putSums
  split_ifs
  · exact (s.setSpad_coreWork st pc _).trans (State.setSpad_coreWork _ st pc _)
  · exact s.setSpad_coreWork st pc _
  · exact s.setSpad_coreWork st pc _
  · exact State.coreWork.refl s st _

theorem State.putSums_core (x : CoreSt) : (s.putSums c a pc x).core pc =
    (s.core pc).withSpad (a.withSums c pc x (s.core pc).spad) := by
  unfold State.putSums RowArgs.withSums
  split_ifs <;> simp only [State.setSpad_core] <;> rfl

/-- What the reads of operands and entries note. -/
def State.rowNoted : State × Cmd :=
  let x := s.core pc
  let ef := if a.readsEntries then entryFaults x.batten a.entry a.rows else (0, 0)
  let lf := if a.op = 15 then ((x.spad.correctedIn (512 * a.aX) (8 * a.rows)).length, (x.spad.badIn (512 * a.aX) (8 * a.rows)).length)
    else (0, 0)
  let q := s.noteOperands st c pc a.inputs
  (q.1.noteSpad pc (ef.1 + lf.1) (ef.2 + lf.2)).poisonNoted st q.2 (ef.2 + lf.2)

theorem State.rowNoted_comp : (s.rowNoted st c a pc).1.comp = s.comp := by
  unfold State.rowNoted
  rw [State.poisonNoted_comp]
  exact s.noteOperands_comp st c pc a.inputs

theorem State.rowNoted_core (k : Nat) : (s.rowNoted st c a pc).1.core k = s.core k :=
  State.core_of_comp (s.rowNoted_comp st c a pc) k

theorem State.rowNoted_coreWork (p : Nat → Prop) : s.coreWork (s.rowNoted st c a pc).1 st p := by
  refine State.worked.coreWork ?_ (s.rowNoted_comp st c a pc)
  exact ((s.noteOperands_coreWork st c pc a.inputs p).toworked.trans (State.noteSpad_worked _ st p pc _ _)).trans
    (State.poisonNoted_worked _ st _ _ p)

theorem State.rowNoted_carries : c.carries (s.rowNoted st c a pc).2 :=
  (s.noteOperands_carries st c pc a.inputs).trans (State.poisonNoted_carries _ st _ _)

/-- What the rows write: their entries, Y, and the sums. -/
def State.rowStored (x : CoreSt) : State :=
  let t := s.putNewEntries a pc (a.newEntries c pc x)
  (t.putY st a pc x.spad (a.stored c (t.recipe a.descY.fmt) pc x)).putSums c a pc x

theorem State.rowCore_copyOut (h : a.op = 14) : s.rowCore st c a pc =
    ((s.rowNoted st c a pc).1.setSpad pc ((s.core pc).spad.writeRange (512 * a.aY)
      (entryBytes ((List.range a.rows).map (fun r => entryAt (s.core pc).batten (a.entry + r))))), (s.rowNoted st c a pc).2) :=
  if_pos h

theorem State.rowCore_copyIn (h : a.op = 15) : s.rowCore st c a pc =
    ((s.rowNoted st c a pc).1.putEntries pc a.entry ((List.range a.rows).map (fun r => entryAt (s.core pc).spad (64 * a.aX + r))),
      (s.rowNoted st c a pc).2) :=
  (if_neg (by omega)).trans (if_pos h)

theorem State.rowCore_rows (h : a.op ≠ 14) (k : a.op ≠ 15) : s.rowCore st c a pc =
    (((s.rowNoted st c a pc).1.rowStored st (s.rowNoted st c a pc).2 a pc (s.core pc)).count (kStand st cBatRowMasked)
      (if a.softmax then ((List.range a.rows).filter a.rowMasked).length else 0), (s.rowNoted st c a pc).2) :=
  (if_neg h).trans (if_neg k)

theorem State.rowStored_coreWork (x : CoreSt) : s.coreWork (s.rowStored st c a pc x) st (fun k => k = pc) :=
  ((s.putNewEntries_coreWork st a pc _).trans (State.putY_coreWork _ st a pc _ _)).trans (State.putSums_coreWork _ st _ a pc x)

theorem State.rowStored_core (h : a.op ≠ 14) (k : a.op ≠ 15) : (s.rowStored st c a pc (s.core pc)).core pc =
    a.leaves c (s.recipe a.descY.fmt) pc (s.core pc) := by
  have entries := s.putNewEntries_core a pc (a.newEntries c pc (s.core pc))
  have spad : (s.core pc).spad = ((s.putNewEntries a pc (a.newEntries c pc (s.core pc))).core pc).spad := by rw [entries]; rfl
  rw [a.leaves_rows c _ pc _ h k, State.rowStored, State.putSums_core,
    State.recipe_of_img (s.putNewEntries_coreWork st a pc _).img]
  conv_lhs => rw [spad]
  rw [State.putY_core, entries]; rfl

theorem State.rowCore_carries : c.carries (s.rowCore st c a pc).2 := by
  by_cases out : a.op = 14
  · rw [s.rowCore_copyOut st c a pc out]; exact s.rowNoted_carries st c a pc
  by_cases into : a.op = 15
  · rw [s.rowCore_copyIn st c a pc into]; exact s.rowNoted_carries st c a pc
  · rw [s.rowCore_rows st c a pc out into]; exact s.rowNoted_carries st c a pc

theorem State.rowCore_coreWork : s.coreWork (s.rowCore st c a pc).1 st (fun k => k = pc) := by
  have noted := s.rowNoted_coreWork st c a pc (fun k => k = pc)
  by_cases out : a.op = 14
  · rw [s.rowCore_copyOut st c a pc out]; exact noted.trans (State.setSpad_coreWork _ st pc _)
  by_cases into : a.op = 15
  · rw [s.rowCore_copyIn st c a pc into]; exact noted.trans (State.putEntries_coreWork _ st pc _ _)
  · rw [s.rowCore_rows st c a pc out into]
    exact (noted.trans (State.rowStored_coreWork _ st _ a pc _)).trans (State.count_coreWork _ st _ _ _)

theorem State.rowCore_core : (s.rowCore st c a pc).1.core pc = a.leaves c (s.recipe a.descY.fmt) pc (s.core pc) := by
  have noted := s.rowNoted_core st c a pc pc
  by_cases out : a.op = 14
  · rw [s.rowCore_copyOut st c a pc out, State.setSpad_core, noted, RowArgs.leaves_copyOut _ _ _ _ out]
  by_cases into : a.op = 15
  · rw [s.rowCore_copyIn st c a pc into, State.putEntries_core, noted, RowArgs.leaves_copyIn _ _ _ _ into]
  · rw [s.rowCore_rows st c a pc out into, ← a.leaves_of_carries _ pc _ (s.rowNoted_carries st c a pc),
      ← State.recipe_of_img (s.rowNoted_coreWork st c a pc fun _ => True).img, ← noted]
    exact State.rowStored_core _ st _ a pc out into

end

/-- ROWOP is work on the selected cores one at a time. -/
theorem State.rowCore_task (s : State) (st : Nat) (c : Cmd) (a : RowArgs) :
    s.coreTask st c (fun u d pc => u.rowCore st d a pc) (a.leaves c (s.recipe a.descY.fmt)) where
  work u d pc := u.rowCore_coreWork st d a pc
  carry u d pc := u.rowCore_carries st d a pc
  core u d pc img carried := by
    rw [u.rowCore_core, State.recipe_of_img img, RowArgs.leaves_of_carries _ _ _ _ carried]

/-! ### Taps, where the stand has none -/

/-- No core holds a tap of the stand. -/
def State.tapless (s : State) (st : Nat) : Prop := ∀ pc, ∀ x ∈ (s.core pc).taps, x.stand ≠ st

theorem State.tapless.of_taps {s t : State} {st : Nat} (h : s.tapless st) (k : ∀ pc, (t.core pc).taps = (s.core pc).taps) :
    t.tapless st := fun pc x hx => h pc x (k pc ▸ hx)

/-- A tap of the stand is complete and nothing holds it back. -/
def State.tapReady (s : State) (st : Nat) (t : Tap) : Bool :=
  decide (t.stand = st) && (match (s.stand st).cmd t.ticket with
    | some c => t.full (rowArgs c.bytes).tiles && !(s.stand st).entryHeld c
    | none => false)

section
variable {s : State} {st : Nat}

theorem State.tapless.not_ready (h : s.tapless st) {pc : Nat} {x : Tap} (hx : x ∈ (s.core pc).taps) : s.tapReady st x = false := by
  simp [State.tapReady, h pc x hx]

theorem State.tapless.settleTaps_cons (h : s.tapless st) (pc : Nat) (pcs : List Nat) :
    s.settleTaps st (pc :: pcs) = (s.setCore pc (s.core pc)).settleTaps st pcs := by
  have noneReady : (s.core pc).taps.filter (s.tapReady st) = [] :=
    List.filter_eq_nil_iff.mpr fun x hx => by simp [h.not_ready hx]
  have allStay : (s.core pc).taps.filter (fun x => !s.tapReady st x) = (s.core pc).taps :=
    List.filter_eq_self.mpr fun x hx => by simp [h.not_ready hx]
  change (((s.core pc).taps.filter (s.tapReady st)).foldl _ (s.setCore pc { s.core pc with
    taps := (s.core pc).taps.filter (fun x => !s.tapReady st x) })).settleTaps st pcs = _
  rw [noneReady, allStay]; rfl

theorem State.setCore_self_core (pc k : Nat) : (s.setCore pc (s.core pc)).core k = s.core k := by
  by_cases hk : k = pc
  · subst hk; exact s.setCore_core_same k _
  · exact s.setCore_core_ne hk _

theorem State.setCore_self_coreWork (pc : Nat) : s.coreWork (s.setCore pc (s.core pc)) st (fun _ => False) where
  cells := ⟨fun k _ => s.setCore_self_core pc k, rfl, fun _ => rfl, fun _ _ => rfl⟩
  logical k := by rw [s.setCore_self_core]
  steps := rfl
  others _ _ := rfl
  img := rfl
  hbm := rfl
  freeCtr := rfl
  arrays := rfl

/-- Where a stand has no taps, settling them changes no core. -/
theorem State.tapless.settleTaps_coreWork (h : s.tapless st) (pcs : List Nat) :
    s.coreWork (s.settleTaps st pcs) st (fun _ => False) := by
  induction pcs generalizing s with
  | nil => exact State.coreWork.refl s st _
  | cons pc pcs ih =>
    rw [h.settleTaps_cons]
    exact (State.setCore_self_coreWork pc).trans (ih (h.of_taps fun k => by rw [State.setCore_self_core]))

/-- The cores whose taps a stand settles. -/
def State.tapCores (s : State) (st : Nat) : List Nat := (s.standClusters st).flatMap (fun px => (List.range 5).map (5 * px + ·))

/-- A STATS_TAP whose taps have all gone is at its end. -/
def State.afterTaps (s : State) (st : Nat) (c : Cmd) : Cmd :=
  if c.isTap && decide (c.stage = .running) && (s.rowCores st (rowArgs c.bytes)).all (fun pc =>
    (s.core pc).taps.all (fun t => !(decide (t.stand = st) && decide (t.ticket = c.ticket)))) then { c with stage := .done } else c

theorem State.endTaps_stand : (s.endTaps st).stand st = { s.stand st with inflight := (s.stand st).inflight.map (s.afterTaps st) } :=
  s.setStand_stand_same st _

theorem State.afterTaps_ticket (c : Cmd) : (s.afterTaps st c).ticket = c.ticket := by
  unfold State.afterTaps; split <;> rfl

theorem State.afterTaps_done {c : Cmd} (h : c.stage = .done) : (s.afterTaps st c).stage = .done := by
  unfold State.afterTaps; split
  · rfl
  · exact h

theorem StandSt.cmd_map {x : StandSt} {g : Cmd → Cmd} (h : ∀ c, (g c).ticket = c.ticket) (t : Nat) :
    ({ x with inflight := x.inflight.map g } : StandSt).cmd t = (x.cmd t).map g := by
  have same : (fun c : Cmd => decide (c.ticket = t)) ∘ g = fun c => decide (c.ticket = t) := by funext c; simp [h]
  rw [StandSt.cmd, List.find?_map, same]; rfl

theorem State.endTaps_done {tkt : Nat} (h : s.stageOf st tkt = some .done) : (s.endTaps st).stageOf st tkt = some .done := by
  obtain ⟨d, cmd, done⟩ := Option.map_eq_some_iff.mp h
  rw [State.stageOf, State.endTaps_stand, StandSt.cmd_map State.afterTaps_ticket, cmd]
  exact congrArg some (State.afterTaps_done done)

variable (idle : s.tapless st)
include idle

theorem State.tapless.settled : s.coreWork (s.settleTaps st (s.tapCores st)) st (fun _ => False) := idle.settleTaps_coreWork _

theorem State.tapless.settleStand_core (k : Nat) : (s.settleStand st).core k = s.core k := idle.settled.core not_false

theorem State.tapless.settleStand_coresOnly {p : Nat → Prop} {r : State} (h : r.coresOnly s p) : r.coresOnly (s.settleStand st) p := by
  obtain ⟨cores, clusters, arrays⟩ := h
  obtain ⟨-, kept, -⟩ := idle.settled.coresOnly
  exact ⟨fun k hk => (idle.settleStand_core k).trans (cores k hk), kept.trans clusters, idle.settled.arrays.trans arrays⟩

theorem State.tapless.settleStand_done {tkt : Nat} (h : s.stageOf st tkt = some .done) :
    (s.settleStand st).stageOf st tkt = some .done := by
  refine State.endTaps_done ?_
  rw [State.stageOf]
  exact (congrArg (Option.map Cmd.stage) (idle.settled.cmd tkt)).trans h

theorem State.tapless.settleStand_outputs : ((s.settleStand st).stand st).outputs = (s.stand st).outputs := by
  rw [State.settleStand, State.endTaps_stand]
  exact idle.settled.outputs

theorem State.tapless.settleStand_standOnly : s.standOnly (s.settleStand st) st := fun k hk =>
  (State.setStand_stand_ne _ hk _).trans (idle.settled.others k hk)

theorem State.tapless.settleStand_hbm : (s.settleStand st).hbm = s.hbm := idle.settled.hbm

end

/-! ### The command -/

section
variable {s : State} {st tkt px : Nat} {c : Cmd} {a : RowArgs}

/-- A write into a range that a product holds has to wait. -/
def State.rowHeld (s : State) (st : Nat) (a : RowArgs) : Bool :=
  (coresOf a.cores).any (fun r => (a.ySpans ++ a.sumSpans).any ((s.stand st).matHolds a.cluster r))

theorem State.rowHeld_iff : s.rowHeld st a = true ↔
    ∃ r ∈ coresOf a.cores, ∃ y ∈ a.ySpans ++ a.sumSpans, (s.stand st).matHolds a.cluster r y = true := by
  simp only [State.rowHeld, List.any_eq_true]

theorem State.rowHeld_false (h : ∀ r ∈ coresOf a.cores, ∀ y ∈ a.ySpans ++ a.sumSpans, (s.stand st).matHolds a.cluster r y = false) :
    s.rowHeld st a = false := by
  rw [Bool.eq_false_iff, Ne, State.rowHeld_iff]
  rintro ⟨r, hr, y, hy, held⟩
  rw [h r hr y hy] at held
  exact Bool.false_ne_true held

/-- The command as its work begins. -/
def State.begunRow (s : State) (c : Cmd) (a : RowArgs) : Cmd :=
  c.startedAt s.clock.now
    ((if a.op = 8 then 3 else if [4, 5, 9, 10, 11].contains a.op then 2 else 1) * 16 * ceilDiv a.rows 64 * a.tiles + 40)

/-- The command on its cores. -/
def State.runRow (s : State) (st px : Nat) (c : Cmd) (a : RowArgs) : State :=
  s.engineRun st (s.begunRow c a) px (fun u d pc => u.rowCore st d a pc) (coresOf a.cores)

theorem exec_rowop_waits (ha : a = rowArgs c.bytes) (h : s.canRun st tkt 0x09 = some c)
    (waits : c.isTap = true ∨ (s.stand st).entryHeld c = true ∨ s.rowHeld st a = true) : exec (.rowop st tkt) s = .next s := by
  subst ha
  change execRowop st tkt s = _
  have held : (c.isTap || (s.stand st).entryHeld c || s.rowHeld st (rowArgs c.bytes)) = true := by
    simpa [or_assoc] using waits
  rw [State.rowHeld] at held
  simp only [execRowop, h, held, if_true]

theorem exec_rowop_runs (ha : a = rowArgs c.bytes) (h : s.canRun st tkt 0x09 = some c) (tap : c.isTap = false)
    (entry : (s.stand st).entryHeld c = false) (free : s.rowHeld st a = false) (hpx : s.standCluster st a.cluster = some px) :
    exec (.rowop st tkt) s = .next ((s.runRow st px c a).settleStand st) := by
  subst ha
  change execRowop st tkt s = _
  have held : (c.isTap || (s.stand st).entryHeld c || s.rowHeld st (rowArgs c.bytes)) = false := by
    rw [tap, entry, free]; rfl
  rw [State.rowHeld] at held
  simp only [execRowop, h, held, hpx]
  rfl

theorem State.runRow_task : s.coreTask st (s.begunRow c a) (fun u d pc => u.rowCore st d a pc)
    (a.leaves (s.begunRow c a) (s.recipe a.descY.fmt)) := s.rowCore_task st _ a

theorem State.runRow_core {r pc : Nat} (hr : r ∈ coresOf a.cores) (hpc : s.physCore px r = some pc) :
    (s.runRow st px c a).core pc = a.leaves c (s.recipe a.descY.fmt) pc (s.core pc) :=
  State.runRow_task.run_core (coresOf_nodup _) hr hpc

theorem State.runRow_tapless (h : s.tapless st) : (s.runRow st px c a).tapless st := by
  refine h.of_taps fun pc => ?_
  by_cases selected : ∃ r, r ∈ coresOf a.cores ∧ s.physCore px r = some pc
  · obtain ⟨r, hr, hpc⟩ := selected
    rw [State.runRow_core hr hpc, RowArgs.leaves_keeps]
  · obtain ⟨others, -⟩ := State.runRow_task.run_coresOnly px (coresOf a.cores)
    exact congrArg CoreSt.taps (others pc selected)

end

/-- Settles O30: each selected core is left as its operation leaves it (`State.rowCore_core`), and settling the taps of a stand that
has none changes nothing. -/
theorem rowOperations : Obligations.RowOperations := by
  unfold Obligations.RowOperations
  intro s st tkt c a hrun ha
  obtain ⟨cmd, -⟩ := State.canRun_some hrun
  obtain rfl := StandSt.cmd_ticket cmd
  refine ⟨fun waits => ?_, fun px tap entry free hpx rows idle => ?_⟩
  · exact exec_rowop_waits ha hrun (waits.imp_right (Or.imp_right State.rowHeld_iff.mpr))
  have runs := exec_rowop_runs ha hrun tap entry (State.rowHeld_false free) hpx
  have task := s.runRow_task (st := st) (c := c) (a := a)
  have quiet := State.runRow_tapless (px := px) (c := c) (a := a) idle
  refine ⟨(s.runRow st px c a).settleStand st, runs, quiet.settleStand_done (task.run_stage px _ cmd), fun r pc hr hpc => ?_,
    quiet.settleStand_coresOnly (task.run_coresOnly px _), quiet.settleStand_outputs.trans (task.run_outputs px _),
    fun k hk => (quiet.settleStand_standOnly k hk).trans (task.run_standOnly px _ k hk),
    quiet.settleStand_hbm.trans (task.run_hbm px _), exec_frame _ rfl runs⟩
  rw [quiet.settleStand_core, State.runRow_core hr hpc]
  refine ⟨a.leaves_keeps _ _ _ _, fun out y hout hy => ?_⟩
  obtain rfl : out = fun i => (a.row (a.rowIn (s.core pc) i) i).lanes c pc i := funext hout
  rw [← RowArgs.stored_eq] at hy
  subst hy
  exact ⟨fun h => RowArgs.leaves_batten_entries _ _ _ _ h rows, fun h => by rw [RowArgs.leaves_copyIn _ _ _ _ h]; rfl,
    RowArgs.leaves_batten_kept _ _ _ _, RowArgs.leaves_spad_y _ _ _ _, RowArgs.leaves_spad_dgamma _ _ _ _,
    RowArgs.leaves_spad_dbeta _ _ _ _, fun h => by rw [RowArgs.leaves_copyOut _ _ _ _ h]; rfl,
    RowArgs.leaves_spad_kept _ _ _ _⟩

end Sys2Proof.Machine
end
section
/-! A statement that fails: it asks of a transfer that each operand lie within the stand, and of a GATHER whose FILL bit is set, which
spec/06 Table 6-5 refuses at issue, the source is no operand (`SkidArgs.operands`). -/

namespace Sys2Proof.Machine

/-- A tensor of one FP32 element: SPACE, LAYOUT and ROWAX as one byte, and its address (spec/06 Table 6-1). -/
def oneElement (place addr : Nat) : List Byte :=
  natLe 4 0 ++ natLe 4 place ++ natLe 8 addr ++ natLe 4 1 ++ natLe 4 1 ++ natLe 4 1 ++ natLe 4 1

/-- GATHER with FILL set: SRC in owner space, the index list and DST linear in the scratch of cluster 0. -/
def filledGather : Cmd :=
  StandSt.reset.newCmd ([0x11, 0, 2, 0] ++ List.replicate 13 0 ++ [1] ++ List.replicate 14 0 ++ oneElement 0x23 0 ++
    oneElement 0x19 512 ++ oneElement 0x19 0) .h0 (some 0) 0

/-- Nobody serves the one block of owner table 0, and the scratch of cluster 0 holds a 1 where DST lies. -/
def gatherUnserved : State :=
  { runningModule [(0, standOwning 0)] with
    comp := { Compute.reset with clusters := [(0, { ClusterSt.reset with scratch := ⟨[(0, 1)], []⟩ })] }
    stands := [(0, { StandSt.reset with
      inflight := [filledGather], nextTicket := 1
      owners := [(0, { OwnerTab.reset with loaded := true, entries := [⟨0, 0, 0, 0⟩] })] })] }

/-- What the GATHER's bytes say. -/
def filledArgs : SkidArgs := gatherUnserved.skidArgs 0 filledGather.step filledGather.bytes

/-- The transfer that the statement asks for. -/
def filledXfer : Xfer := ⟨filledArgs.src, filledArgs.dst, Val.zero, filledArgs.raw⟩

/-- The source position that the index list gives a destination position (spec/06 R151, R152). -/
def filledPick (e : Coord) : Option Coord :=
  ((gatherUnserved.readIndex 0 filledGather filledArgs.idx filledArgs.src.rows).rows.getD (filledArgs.dst.rowOf e) none).map
    (fun r => filledArgs.src.rowAt r e.1)

theorem gatherUnserved_begins : gatherUnserved.skidCmd 0 0 0x11 = some filledGather ∧ filledGather.stage = .queued ∧
    gatherUnserved.standCluster 0 filledArgs.cluster = some 0 ∧ gatherUnserved.clusterFenced (.skidder 0) = false := by
  decide +kernel

/-- The index list and DST lie in the cluster scratch, whose words all check, and the source is not among the operands. -/
theorem gatherUnserved_operands : (∀ d ∈ filledArgs.operands, d.space ≤ 2 ∧ gatherUnserved.memWaits 0 filledGather d = false ∧
      gatherUnserved.storeOf 0 d = some (.scratch 0)) ∧ (gatherUnserved.store (.scratch 0)).diff = [] ∧
    gatherUnserved.storeOf 0 filledArgs.dst = some (.scratch 0) ∧ filledArgs.dst ∈ filledArgs.operands ∧
    filledArgs.dst.space = 1 ∧ gatherUnserved.srcHeld 0 filledGather.ticket filledArgs.dst = false := by
  decide +kernel

/-- The destination's unit rests on the block that nobody serves and is left alone (spec/06 R142), where the statement has it take the
zero that such a block reads as. -/
theorem gatherUnserved_kept (t : State) (h : exec (.gather 0 0) gatherUnserved = .next t) : t.store (.scratch 0) ≠
    (gatherUnserved.store (.scratch 0)).put (heldIn (.scratch 0) ((gatherUnserved.xferStored 0 filledGather filledXfer filledPick).bytes.map
      (fun p => (gatherUnserved.spot 0 filledGather filledArgs.dst p.1, p.2)))) := by
  obtain rfl := Host.Outcome.next.inj h
  decide +kernel

/-- Refutes O31: the statement takes any GATHER in flight, one with FILL set too. Its source is no operand there, so that nothing keeps
it from lying in blocks that nobody serves, and what rests on them is not written. -/
theorem not_transfers : ¬ Obligations.Transfers := by
  unfold Obligations.Transfers
  rintro ⟨-, moves⟩
  obtain ⟨cmd, queued, cluster, free⟩ := gatherUnserved_begins
  obtain ⟨places, clean, store, operand, scratch, unheld⟩ := gatherUnserved_operands
  obtain ⟨t, runs, -, written, -⟩ := moves gatherUnserved 0 0 0x11 0 filledGather (.gather 0 0) filledArgs filledXfer filledPick
    (.scratch 0) cmd queued rfl (.inr (.inl ⟨rfl, rfl, rfl, rfl⟩)) cluster free
    (fun d hd => by
      obtain ⟨near, waits, lies⟩ := places d hd
      exact ⟨near, waits, .scratch 0, lies, clean⟩)
    store operand (fun pad => absurd (scratch.symm.trans pad) (by decide)) unheld (fun _ _ => rfl)
  exact gatherUnserved_kept t runs written

end Sys2Proof.Machine
end
section
/-! SCATTER_ADD within the stand (spec/06 R153, R154): operands in clean stores, one store written, the Skidder's bookkeeping, and the
sums. -/

namespace Sys2Proof.Machine

/-! ### Operands in stores of the stand whose words all check -/

/-- Operand `d` lies within the stand, in store `q`, all words of which check. -/
structure State.liesIn (s : State) (st : Nat) (d : Desc) (q : StoreId) : Prop where
  near : d.space ≤ 2
  store : s.storeOf st d = some q
  clean : (s.store q).diff = []

section
variable {s : State} {st : Nat} {d : Desc} {q : StoreId} (h : s.liesIn st d q) (c : Cmd) (o : Nat)
include h

theorem State.liesIn.not_owner : d.space ≠ 3 := fun far => by have := h.near; omega

/-- A byte of the operand lies in its store, or, in memory, nowhere. -/
theorem State.liesIn.spot : (∃ b, s.spot st c d o = .held q b) ∨ s.spot st c d o = .nowhere := by
  simp only [State.spot, if_neg h.not_owner, h.store]
  cases q with
  | hbm => simp only [State.memSpot]; split <;> simp
  | scratch px => exact .inl ⟨_, rfl⟩
  | spad pc => exact .inl ⟨_, rfl⟩

theorem State.liesIn.spot_store {j : StoreId} {b : Nat} (e : s.spot st c d o = .held j b) : j = q := by
  rcases h.spot c o with ⟨k, held⟩ | none
  · exact (Spot.held.inj (e.symm.trans held)).1
  · exact absurd (e.symm.trans none) (by simp)

theorem State.liesIn.spotBad : s.spotBad st c d o = false := by
  rcases h.spot c o with ⟨b, e⟩ | e <;> simp [State.spotBad, State.spotWord, e, Mem.bad_of_diff_nil h.clean]

theorem State.liesIn.spotGone : s.spotGone st c d o = false := by
  rcases h.spot c o with ⟨b, e⟩ | e <;> simp [State.spotGone, e]

theorem State.liesIn.storeClean : s.storeClean st d = true := by
  simp [State.storeClean, h.not_owner, h.store, h.clean]

theorem State.liesIn.blocksOf (os : List Nat) : s.blocksOf st d os = [] := by
  simp [State.blocksOf, h.not_owner]

/-- No word of an index list fails. -/
theorem State.liesIn.readIndex_failed (limit : Nat) : (s.readIndex st c d limit).failed = [] := by
  simp [State.readIndex, h.spotBad]

end

/-! ### One store written -/

/-- From `s` to `t` the bytes of store `id` become `m`, and nothing else that a command reads or counts changes. -/
structure State.storeSet (s t : State) (id : StoreId) (m : Mem) : Prop where
  same : t.store id = m
  others : ∀ j, j ≠ id → t.store j = s.store j
  cores : ∀ pc, t.core pc = { s.core pc with spad := t.store (.spad pc) }
  stands : t.stands = s.stands
  counters : t.counters = s.counters

theorem State.storeSet.stand {s t : State} {id : StoreId} {m : Mem} (h : s.storeSet t id m) (k : Nat) : t.stand k = s.stand k := by
  rw [State.stand, h.stands]; rfl

theorem State.storeSet.setFreeCtr {s t : State} {id : StoreId} {m : Mem} (h : s.storeSet t id m) (n : Nat) :
    s.storeSet (t.setFreeCtr n) id m := by
  obtain ⟨same, others, cores, stands, counters⟩ := h
  exact ⟨same, others, cores, stands, counters⟩

section
variable (s : State) (id : StoreId)

theorem State.storeSet.refl : s.storeSet s id (s.store id) := ⟨rfl, fun _ _ => rfl, fun _ => rfl, rfl, rfl⟩

theorem State.setStore_storeSet (m : Mem) : s.storeSet (s.setStore id m) id m := by
  cases id with
  | hbm => exact ⟨rfl, fun j hj => by cases j <;> [exact absurd rfl hj; rfl; rfl], fun _ => rfl, rfl, rfl⟩
  | scratch px =>
    refine ⟨by simp [State.store, State.setStore, State.cluster, State.setCluster], fun j hj => ?_, fun _ => rfl, rfl, rfl⟩
    cases j with
    | hbm => rfl
    | scratch k =>
      have other : px ≠ k := fun e => hj (e ▸ rfl)
      simp [State.store, State.setStore, State.cluster, State.setCluster, Tab.get_set_ne _ _ _ _ _ other]
    | spad _ => rfl
  | spad pc =>
    refine ⟨by simp [State.store, State.setStore, State.setSpad], fun j hj => ?_, fun k => ?_, rfl, rfl⟩
    · cases j with
      | hbm => rfl
      | scratch _ => rfl
      | spad k =>
        have other : k ≠ pc := fun e => hj (e ▸ rfl)
        simp [State.store, State.setStore, State.setSpad, State.setCore_core_ne _ other]
    · by_cases hk : k = pc
      · subst hk; simp [State.store, State.setStore, State.setSpad]
      · simp [State.store, State.setStore, State.setSpad, State.setCore_core_ne _ hk]

/-- Where no word of memory has a check difference, a merge notes nothing. -/
theorem State.noteMerge_clean (ks : List Nat) (h : s.hbm.diff = []) : s.noteMerge ks = s := by simp [State.noteMerge, h]

variable {ws : List (Spot × Byte)} (only : ∀ p ∈ ws, ∀ j b, p.1 = .held j b → j = id)
include only

/-- Such a write names that store, or no store at all and has then no byte for it. -/
theorem storesOf_only : storesOf (ws.map Prod.fst) = [id] ∨ storesOf (ws.map Prod.fst) = [] ∧ heldIn id ws = [] := by
  induction ws with
  | nil => exact .inr ⟨rfl, rfl⟩
  | cons p ws ih =>
    have later := ih fun q hq => only q (List.mem_cons_of_mem p hq)
    cases hp : p.1 with
    | held j b =>
      obtain rfl := only p List.mem_cons_self j b hp
      left
      simp only [storesOf, List.map_cons, hp, List.filterMap_cons] at later ⊢
      rcases later with one | ⟨none, -⟩
      · rw [List.dedup_cons_of_mem (List.mem_dedup.mp (one ▸ List.mem_singleton_self j)), one]
      · rw [List.dedup_cons_of_notMem (fun h => List.not_mem_nil (none ▸ List.mem_dedup.mpr h)), none]
    | remote k o => simpa [storesOf, heldIn, hp] using later
    | gone k => simpa [storesOf, heldIn, hp] using later
    | nowhere => simpa [storesOf, heldIn, hp] using later

/-- A write whose bytes lie in one clean store. -/
theorem State.putSpots_storeSet (clean : (s.store id).diff = []) :
    s.storeSet (s.putSpots ws []) id ((s.store id).put (heldIn id ws)) := by
  have merged : (if id = .hbm then s.noteMerge ((heldIn id ws).map Prod.fst) else s) = s := by
    split
    · next e => subst e; exact s.noteMerge_clean _ clean
    · rfl
  rcases storesOf_only id only with one | ⟨none, empty⟩
  · rw [State.putSpots, one, List.foldl_cons, List.foldl_nil]
    simp only [merged]
    exact (s.setStore_storeSet id _).setFreeCtr _
  · rw [State.putSpots, none, empty, Mem.put_nil]
    exact State.storeSet.refl s id

end

/-! ### The Skidder's bookkeeping -/

theorem State.skidCmd_some {s : State} {st tkt op : Nat} {c : Cmd} (h : s.skidCmd st tkt op = some c) :
    (s.stand st).cmd tkt = some c := by
  unfold State.skidCmd at h
  split at h
  · exact absurd h (by simp)
  · split at h
    · next d hd =>
      split at h
      · exact hd.trans h
      · exact absurd h (by simp)
    · exact absurd h (by simp)

section
variable (s : State) (st : Nat) (c : Cmd)

theorem State.markCmd_onlyStand (cause : Nat) : s.onlyStand (s.markCmd st c cause) st := by
  unfold State.markCmd State.mark
  split
  · exact State.onlyStand.refl s st
  · exact (s.setStand_onlyStand st _).trans (State.count_onlyStand _ st _ _)

theorem State.unavailable_onlyStand : s.onlyStand (s.unavailable st c).1 st :=
  (s.count_onlyStand st _ 1).trans (State.markCmd_onlyStand _ st c 9)

/-- Entries out of range are counted and noted in the command, and nothing else. -/
theorem State.indexRange_eq (n : Nat) : s.indexRange st c n = (s.count (kStand st cSkdIndexRange) n,
    { c with statuses := if n = 0 then c.statuses else c.statuses ++ [0x0109] }) := by
  by_cases h : n = 0 <;> simp [State.indexRange, h, State.count, Counters.add, Cmd.withStatus, State.setCounters]

variable (lines bad coll first : Nat)

theorem State.skidDone_onlyStand : s.onlyStand (s.skidDone st c lines bad coll first) st :=
  (State.setStand_onlyStand _ st _).trans (State.onlyStand.refl _ st)

theorem State.skidDone_counters :
    (s.skidDone st c lines bad coll first).counters = s.counters.addUnits (kStand st cSkdLines4k) 4096 lines := rfl

theorem State.skidDone_outputs : ((s.skidDone st c lines bad coll first).stand st).outputs = (s.stand st).outputs :=
  State.engineDone_outputs

theorem State.skidDone_cmd {d : Cmd} (h : (s.stand st).cmd c.ticket = some d) :
    ((s.skidDone st c lines bad coll first).stand st).cmd c.ticket =
      some { c with pay := skidPayload lines bad coll first, stage := .done } :=
  State.engineDone_cmd (d := { c with pay := skidPayload lines bad coll first }) h

end

/-- The command with the status of a unit that is missing. -/
def Cmd.unserved (c : Cmd) (now : W64) : Cmd := { c.withStatus 0x01f3 with tStart := now }

theorem State.skidAbsent_eq (s : State) (st : Nat) (c : Cmd) :
    s.skidAbsent st c = (s.unavailable st c).1.skidDone st (c.unserved s.clock.now) 0 0 0 0xffffffff := rfl

/-- A command that no unit can serve ends with 0x01F3 and moves nothing (spec/11 R296). -/
theorem State.skidAbsent_ends {s : State} {st tkt : Nat} {c : Cmd} (h : (s.stand st).cmd tkt = some c) :
    (s.skidAbsent st c).stageOf st tkt = some .done ∧
      (∃ d, ((s.skidAbsent st c).stand st).cmd tkt = some d ∧ 0x01f3 ∈ d.statuses) ∧ s.memoryKept (s.skidAbsent st c) ∧
      ((s.skidAbsent st c).stand st).outputs = (s.stand st).outputs ∧ s.standOnly (s.skidAbsent st c) st := by
  obtain rfl := StandSt.cmd_ticket h
  have noted := s.unavailable_coreWork st c fun _ => True
  have ended := State.skidDone_cmd _ st (c.unserved s.clock.now) 0 0 0 0xffffffff ((noted.cmd c.ticket).trans h)
  obtain ⟨others, memory, -⟩ := (s.unavailable_onlyStand st c).trans (State.skidDone_onlyStand _ st (c.unserved s.clock.now) 0 0 0
    0xffffffff)
  rw [s.skidAbsent_eq]
  exact ⟨congrArg (Option.map Cmd.stage) ended, ⟨_, ended, by simp [Cmd.unserved, Cmd.withStatus]⟩, memory,
    (State.skidDone_outputs _ st _ 0 0 0 _).trans noted.outputs, others⟩

/-! ### Counters apart -/

section
variable (s : Counters) {k j : Nat} (h : k ≠ j) (n : Nat)
include h

theorem Counters.get_add_ne : (s.add k n).get j = s.get j := by
  unfold Counters.add
  split
  · rfl
  · exact Tab.get_upd_ne (0 : W48) s.vals k j (· + BitVec.ofNat 48 n) h

theorem Counters.get_addUnits_ne (unit : Nat) : (s.addUnits k unit n).get j = s.get j := Counters.get_add_ne _ h _

end

theorem State.count_counters (s : State) (k n : Nat) : (s.count k n).counters = s.counters.add k n := rfl

theorem State.count_stand (s : State) (k n j : Nat) : (s.count k n).stand j = s.stand j := rfl

theorem kStand_ne (st : Nat) {i j : Nat} (h : i ≠ j) : kStand st i ≠ kStand st j := fun e => h (Nat.add_left_cancel e)

/-! ### The sums -/

section
variable (s : State) (st : Nat) (c : Cmd) (a : SkidArgs)

/-- The sums of a SCATTER_ADD: row, element, the value written, and how often decoding left binary32's range. -/
def State.scatterSums : List (Nat × Nat × Val × Nat) :=
  let rows := (s.readIndex st c a.idx a.dst.rows).rows
  ((rows.filterMap id).dedup.map (fun r => (r, positionsOf rows r))).flatMap fun p =>
    (List.range a.dst.e0).map fun e => (p.1, e, s.scatterItem st c a p.2 e p.1)

/-- The bytes of an element of a destination row with their places. -/
def State.scatterPut (x : Nat × Nat × Val × Nat) : List (Spot × Byte) :=
  (a.dst.bytesAt (a.dst.rowAt x.1 x.2.1)).zipIdx.map (fun q =>
    (s.spot st c a.dst q.1, BitVec.ofNat 8 (fFP32.encode x.2.2.1 / 256 ^ q.2)))

/-- The sum of an element of a destination row over the list positions that name the row (spec/06 R153). -/
def State.scatterAdded (r e : Nat) : Val :=
  (positionsOf (s.readIndex st c a.idx a.dst.rows).rows r).foldl
    (fun acc j => add32 acc (toConsumer32 (a.src.value (s.spotByte st c a.src) (a.src.rowAt j e).1
      (a.src.rowAt j e).2.1 (a.src.rowAt j e).2.2.1 (a.src.rowAt j e).2.2.2)).1)
    (a.dst.value (s.spotByte st c a.dst) (a.dst.rowAt r e).1 (a.dst.rowAt r e).2.1 (a.dst.rowAt r e).2.2.1
      (a.dst.rowAt r e).2.2.2)

theorem State.scatterItem_fst (r e : Nat) :
    (s.scatterItem st c a (positionsOf (s.readIndex st c a.idx a.dst.rows).rows r) e r).1 =
      c.landVal (.item r e) (s.scatterAdded st c a r e) :=
  congrArg (c.landVal (.item r e)) (List.foldl_hom Prod.fst fun _ _ => rfl).symm

/-- The bytes that a SCATTER_ADD writes, row by row and element by element. -/
def State.scatterWrites : List (Spot × Byte) :=
  ((s.readIndex st c a.idx a.dst.rows).rows.filterMap (fun r => r)).dedup.flatMap fun r => (List.range a.dst.e0).flatMap fun e =>
    (a.dst.bytesAt (a.dst.rowAt r e)).zipIdx.map fun q =>
      (s.spot st c a.dst q.1, BitVec.ofNat 8 (fFP32.encode (c.landVal (.item r e) (s.scatterAdded st c a r e)) / 256 ^ q.2))

theorem State.scatterSums_put : (s.scatterSums st c a).flatMap (s.scatterPut st c a) = s.scatterWrites st c a := by
  simp only [State.scatterSums, List.flatMap_assoc, List.flatMap_map, State.scatterPut, State.scatterItem_fst]
  rfl

/-- The state with the sums written. -/
def State.scatterStored : State := s.putSpots (s.scatterWrites st c a) []

/-- The same with what a SCATTER_ADD counts: values out of binary32's range, entries out of range, rows named again. -/
def State.scatterCounted : State :=
  let ix := s.readIndex st c a.idx a.dst.rows
  (((s.scatterStored st c a).count (kStand st cFmtDecodeOverflow) ((s.scatterSums st c a).map (fun x => x.2.2.2)).sum).count
    (kStand st cSkdIndexRange) ix.bad.length).count (kStand st cSkdScatterCollisions) (collisions ix.rows [])

/-- The command with its start and its status: 0x0109 where an entry is out of range (spec/06 R152). -/
def State.scatterNoted : Cmd :=
  { c with
    tStart := s.clock.now
    statuses := if (s.readIndex st c a.idx a.dst.rows).bad.length = 0 then c.statuses else c.statuses ++ [0x0109] }

/-- What a SCATTER_ADD leaves that reads no failing word and asks no other device. -/
def State.scattered : State :=
  let ix := s.readIndex st c a.idx a.dst.rows
  (s.scatterCounted st c a).skidDone st (s.scatterNoted st c a) (s.scatterLines st a ix) ix.bad.length
    (collisions ix.rows []) (ix.bad.headD 0xffffffff)

theorem flatMap_zip_range {α β : Type} (l : List α) (f : α → List β) :
    (l.zip (List.range l.length)).flatMap (fun q => f q.1) = l.flatMap f := by
  rw [← List.flatMap_map Prod.fst f, List.map_fst_zip (by simp)]

/-- With every operand in clean stores of the stand, nothing is kept back, noted as bad or asked elsewhere. -/
theorem State.scatter_of_liesIn {p q r : StoreId} (src : s.liesIn st a.src p) (dst : s.liesIn st a.dst q) (idx : s.liesIn st a.idx r)
    (unstaged : ∀ die b, s.wantStage die b = []) (queued : c.stage = .queued) : s.scatter st c a = some (s.scattered st c a) := by
  have once := (flatMap_zip_range (s.scatterSums st c a) (s.scatterPut st c a)).trans (s.scatterSums_put st c a)
  have served (os : List Nat) : os.any (s.spotGone st c a.src) = false := by simp [src.spotGone]
  have kept (l : List (Nat × List Nat)) : l.flatMap (fun _ => ([] : List Nat)) = [] := by simp
  unfold State.scatter
  simp only [State.stageFor_of_unwanted unstaged, src.storeClean, dst.storeClean, idx.readIndex_failed, src.blocksOf, served, kept,
    if_pos queued, Bool.and_self, if_true, List.filter_false, List.map_nil, List.contains_nil, Bool.false_eq_true, if_false,
    State.indexRange_eq]
  rw [State.scattered, State.scatterCounted, State.scatterStored, ← once]
  rfl

variable {s st c a}

theorem State.scatterWrites_only {q : StoreId} (dst : s.liesIn st a.dst q) :
    ∀ p ∈ s.scatterWrites st c a, ∀ j b, p.1 = .held j b → j = q := by
  intro p hp j b e
  obtain ⟨r, -, hr⟩ := List.mem_flatMap.mp hp
  obtain ⟨i, -, hi⟩ := List.mem_flatMap.mp hr
  obtain ⟨k, -, rfl⟩ := List.mem_map.mp hi
  exact dst.spot_store c k.1 e

theorem State.scatterStored_storeSet {q : StoreId} (dst : s.liesIn st a.dst q) :
    s.storeSet (s.scatterStored st c a) q ((s.store q).put (heldIn q (s.scatterWrites st c a))) :=
  s.putSpots_storeSet q (State.scatterWrites_only dst) dst.clean

/-- After the writes only the command and the counters change. -/
theorem State.scattered_onlyStand : (s.scatterStored st c a).onlyStand (s.scattered st c a) st := by
  have counted : (s.scatterStored st c a).onlyStand (s.scatterCounted st c a) st :=
    ((State.count_onlyStand _ st _ _).trans (State.count_onlyStand _ st _ _)).trans (State.count_onlyStand _ st _ _)
  exact counted.trans (State.skidDone_onlyStand _ st _ _ _ _ _)

theorem State.scattered_collisions {q : StoreId} (dst : s.liesIn st a.dst q) :
    (s.scattered st c a).counters.get (kStand st cSkdScatterCollisions) = s.counters.get (kStand st cSkdScatterCollisions) +
      BitVec.ofNat 48 (collisions (s.readIndex st c a.idx a.dst.rows).rows []) := by
  have lines : kStand st cSkdLines4k ≠ kStand st cSkdScatterCollisions := kStand_ne st (by decide)
  have range : kStand st cSkdIndexRange ≠ kStand st cSkdScatterCollisions := kStand_ne st (by decide)
  have decode : kStand st cFmtDecodeOverflow ≠ kStand st cSkdScatterCollisions := kStand_ne st (by decide)
  rw [State.scattered, State.skidDone_counters, Counters.get_addUnits_ne _ lines, State.scatterCounted, State.count_counters,
    Counters.get_add_same, State.count_counters, Counters.get_add_ne _ range, State.count_counters, Counters.get_add_ne _ decode,
    (State.scatterStored_storeSet dst).counters]

theorem State.scatterCounted_stand {q : StoreId} (dst : s.liesIn st a.dst q) (k : Nat) :
    (s.scatterCounted st c a).stand k = s.stand k := by
  rw [State.scatterCounted, State.count_stand, State.count_stand, State.count_stand, (State.scatterStored_storeSet dst).stand]

theorem State.scattered_done {q : StoreId} (dst : s.liesIn st a.dst q) (h : (s.stand st).cmd c.ticket = some c) :
    (s.scattered st c a).stageOf st c.ticket = some .done := by
  have cmd : ((s.scatterCounted st c a).stand st).cmd (s.scatterNoted st c a).ticket = some c := by
    rw [State.scatterCounted_stand dst]; exact h
  exact congrArg (Option.map Cmd.stage) (State.skidDone_cmd _ st _ _ _ _ _ cmd)

theorem State.scattered_outputs {q : StoreId} (dst : s.liesIn st a.dst q) :
    ((s.scattered st c a).stand st).outputs = (s.stand st).outputs := by
  rw [State.scattered, State.skidDone_outputs, State.scatterCounted_stand dst]

theorem State.scattered_standOnly {q : StoreId} (dst : s.liesIn st a.dst q) : s.standOnly (s.scattered st c a) st := by
  obtain ⟨others, -⟩ := s.scattered_onlyStand (st := st) (c := c) (a := a)
  exact fun k hk => (others k hk).trans ((State.scatterStored_storeSet dst).stand k)

end

theorem State.onlyStand.store {s t : State} {st : Nat} (h : s.onlyStand t st) (j : StoreId) : t.store j = s.store j := by
  obtain ⟨-, ⟨hbm, comp, -⟩, -⟩ := h
  cases j with
  | hbm => exact hbm
  | scratch px => rw [State.store, State.cluster, comp]; rfl
  | spad pc => rw [State.store, State.core_of_comp comp]; rfl

theorem State.onlyStand.core {s t : State} {st : Nat} (h : s.onlyStand t st) (pc : Nat) : t.core pc = s.core pc := by
  obtain ⟨-, ⟨-, comp, -⟩, -⟩ := h
  exact State.core_of_comp comp pc

/-! ### The command -/

theorem SkidArgs.mem_operands {a : SkidArgs} {d : Desc} (h : d ∈ a.operands) : d = a.src ∨ d = a.dst ∨ d = a.idx := by
  unfold SkidArgs.operands at h
  split_ifs at h <;> simp at h <;> tauto

section
variable {s : State} {st px : Nat} {c : Cmd} {a : SkidArgs}

/-- The Skidder is there, and so is every store that an operand names. -/
theorem State.skidMissing_of_liesIn (free : s.clusterFenced (.skidder px) = false) (lies : ∀ d ∈ a.operands, ∃ q, s.liesIn st d q) :
    s.skidMissing st px a = false := by
  have served : ∀ d ∈ a.operands, s.storeOf st d ≠ none := fun d hd => by
    obtain ⟨q, h⟩ := lies d hd
    simp [h.store]
  simpa [State.skidMissing, free] using fun d hd _ => served d hd

theorem State.scatterWaits_of_liesIn {p : StoreId} (src : s.liesIn st a.src p) (calm : ∀ d ∈ a.operands, s.memWaits st c d = false)
    (delivered : s.deliveryInto st c a.dst = false)
    (kept : a.dst.space = 2 → (s.stand st).matHolds a.dst.cluster a.dst.core a.dst.span = false)
    (held : s.srcHeld st c.ticket a.dst = false) : s.scatterWaits st c a = false := by
  simpa [State.scatterWaits, State.scatterMoving, State.scatterNeed, src.blocksOf, delivered, State.matHolding, held] using
    ⟨calm, kept⟩

variable (hpx : s.standCluster st a.cluster = some px)
include hpx

theorem State.runScatter_missing (missing : s.skidMissing st px a = true) : s.runScatter st c a = s.skidAbsent st c := by
  simp [State.runScatter, hpx, missing]

theorem State.runScatter_waits (present : s.skidMissing st px a = false) (waits : s.scatterWaits st c a = true) :
    s.runScatter st c a = s := by
  simp [State.runScatter, hpx, present, waits]

theorem State.runScatter_of_liesIn {p q r : StoreId} (src : s.liesIn st a.src p) (dst : s.liesIn st a.dst q)
    (idx : s.liesIn st a.idx r) (unstaged : ∀ die b, s.wantStage die b = []) (queued : c.stage = .queued)
    (present : s.skidMissing st px a = false) (ready : s.scatterWaits st c a = false) :
    s.runScatter st c a = s.scattered st c a := by
  simp [State.runScatter, hpx, present, ready, State.scatterNeed, src.blocksOf,
    State.scatter_of_liesIn s st c a src dst idx unstaged queued]

end

/-- The row runs the command that stands in flight. -/
theorem exec_scatterAdd {s : State} {st tkt : Nat} {c : Cmd} {a : SkidArgs} (hc : s.skidCmd st tkt 0x12 = some c)
    (ha : a = s.skidArgs st c.step c.bytes) : exec (.scatterAdd st tkt) s = .next (s.runScatter st c a) := by
  change execScatterAdd st tkt s = _
  rw [execScatterAdd, hc, ha]

/-- Settles O32: the bytes written are those of `State.scatterWrites`, all in the destination's store, and what follows the writes is
counts and the command's end. -/
theorem scatterAdd : Obligations.ScatterAdd := by
  unfold Obligations.ScatterAdd
  refine ⟨fun s st tkt px c a hc ha hpx => ⟨fun missing => ?_, fun present waits => ?_⟩, ?effect⟩
  · have ends : exec (.scatterAdd st tkt) s = .next (s.skidAbsent st c) := by
      rw [exec_scatterAdd hc ha, State.runScatter_missing hpx missing]
    obtain ⟨stage, status, memory, outputs, others⟩ := State.skidAbsent_ends (State.skidCmd_some hc)
    exact ⟨_, ends, stage, status, memory, outputs, others, exec_frame _ rfl ends⟩
  · rw [exec_scatterAdd hc ha, State.runScatter_waits hpx present waits]
  case effect =>
    intro s st tkt px c a id hc queued ha hpx free operands store kept held delivered unstaged
    have cmd := State.skidCmd_some hc
    obtain rfl := StandSt.cmd_ticket cmd
    have lies (d : Desc) (hd : d = a.src ∨ d = a.dst ∨ d = a.idx) : ∃ q, s.liesIn st d q := by
      obtain ⟨near, -, q, hq, clean⟩ := operands d hd
      exact ⟨q, near, hq, clean⟩
    obtain ⟨p, src⟩ := lies a.src (.inl rfl)
    obtain ⟨q, dst⟩ := lies a.dst (.inr (.inl rfl))
    obtain ⟨r, idx⟩ := lies a.idx (.inr (.inr rfl))
    obtain rfl : q = id := Option.some.inj (dst.store.symm.trans store)
    have present := State.skidMissing_of_liesIn free fun d hd => lies d (SkidArgs.mem_operands hd)
    have calm : ∀ d ∈ a.operands, s.memWaits st c d = false := fun d hd => by
      obtain ⟨-, calm, -⟩ := operands d (SkidArgs.mem_operands hd)
      exact calm
    have ready := State.scatterWaits_of_liesIn src calm delivered kept held
    have runs : exec (.scatterAdd st c.ticket) s = .next (s.scattered st c a) := by
      rw [exec_scatterAdd hc ha, State.runScatter_of_liesIn hpx src dst idx unstaged queued present ready]
    have stored := s.scatterStored_storeSet (c := c) dst
    have rest := s.scattered_onlyStand (st := st) (c := c) (a := a)
    exact ⟨_, runs, State.scattered_done dst cmd, (rest.store _).trans stored.same, fun j hj => (rest.store j).trans (stored.others j hj),
      fun pc => by rw [rest.core, rest.store]; exact stored.cores pc, State.scattered_collisions dst, State.scattered_outputs dst,
      State.scattered_standOnly dst, exec_frame _ rfl runs⟩

end Sys2Proof.Machine
end
section
/-! The canonical form of the stored bytes (spec/07 R165, R166): what each shared operation and each command does to the stacked memory
and the flash's bytes. An operation that writes neither has a lemma `_memory`, that it keeps both; one that writes has a lemma `_form`,
that it keeps their form. -/

namespace Sys2Proof.Machine

/-- The stored bytes whose canonical form every step keeps: the stacked memory, and the flash. -/
def State.memory (s : State) : Mem × Cells := (s.hbm, s.flash.cells)

/-- Their canonical form. -/
def MemForm (m : Mem × Cells) : Prop := m.1.wf = true ∧ cellsWf 0 m.2 = true

theorem MemForm.of_eq {m k : Mem × Cells} (h : MemForm m) (e : k = m) : MemForm k := e ▸ h

/-- Where a command has a next state, that state's stored bytes are in canonical form. -/
def Formed (o : Host.Outcome State Fault Refusal) : Prop := ∀ t, o = .next t → MemForm t.memory

@[simp] theorem formed_next {t : State} : Formed (.next t) ↔ MemForm t.memory :=
  ⟨fun h => h t rfl, fun h _ e => Host.Outcome.next.inj e ▸ h⟩

@[simp] theorem formed_fault (r : Fault) : Formed (.fault r) := fun _ e => nomatch e

/-! ### Folds over states -/

section
variable {α β : Type}

theorem foldl_memory (f : State → α → State) (keeps : ∀ u a, (f u a).memory = u.memory) (l : List α) (s : State) :
    (l.foldl f s).memory = s.memory := by
  induction l generalizing s with
  | nil => rfl
  | cons a l ih => rw [List.foldl_cons, ih, keeps]

theorem foldl_memory_fst (f : State × β → α → State × β) (keeps : ∀ p a, (f p a).1.memory = p.1.memory) (l : List α) (p : State × β) :
    (l.foldl f p).1.memory = p.1.memory := by
  induction l generalizing p with
  | nil => rfl
  | cons a l ih => rw [List.foldl_cons, ih, keeps]

theorem foldl_form {f : State → α → State} (keeps : ∀ u a, MemForm u.memory → MemForm (f u a).memory) (l : List α) {s : State}
    (h : MemForm s.memory) : MemForm (l.foldl f s).memory := by
  induction l generalizing s with
  | nil => exact h
  | cons a l ih => exact ih (keeps s a h)

theorem foldl_form_fst {f : State × β → α → State × β} (keeps : ∀ p a, MemForm p.1.memory → MemForm (f p a).1.memory) (l : List α)
    {p : State × β} (h : MemForm p.1.memory) : MemForm (l.foldl f p).1.memory := by
  induction l generalizing p with
  | nil => exact h
  | cons a l ih => exact ih (keeps p a h)

theorem foldl_form_snd {f : β × State → α → β × State} (keeps : ∀ p a, MemForm p.2.memory → MemForm (f p a).2.memory) (l : List α)
    {p : β × State} (h : MemForm p.2.memory) : MemForm (l.foldl f p).2.memory := by
  induction l generalizing p with
  | nil => exact h
  | cons a l ih => exact ih (keeps p a h)

end

/-! ### The form of filtered and of written cells -/

theorem cellsWf_filter (q : Nat × Byte → Bool) {t : Cells} {lo : Nat} (h : cellsWf lo t = true) : cellsWf lo (t.filter q) = true := by
  induction t generalizing lo with
  | nil => rfl
  | cons p t ih =>
    simp only [cellsWf, Bool.and_eq_true, decide_eq_true_eq] at h
    obtain ⟨⟨low, nonzero⟩, rest⟩ := h
    rw [List.filter_cons]
    split
    · simp only [cellsWf, Bool.and_eq_true, decide_eq_true_eq]
      exact ⟨⟨low, nonzero⟩, ih rest⟩
    · exact cellsWf_mono (by omega) (ih rest)

theorem Flash.write_form {f : Flash} (h : cellsWf 0 f.cells = true) (a : Nat) (bs : List Byte) : cellsWf 0 (f.write a bs).cells = true := by
  simp only [Flash.write]
  generalize f.cells = c at h
  induction bs.zipIdx generalizing c with
  | nil => exact h
  | cons p ps ih => exact ih _ (cellSet_wf _ _ _ _ (Nat.zero_le _) h)

theorem State.setFlash_form {s : State} (h : MemForm s.memory) {f : Flash} (hf : cellsWf 0 f.cells = true) :
    MemForm (s.setFlash f).memory := ⟨h.1, hf⟩

section
variable {s : State}

/-! ### Setters -/

@[simp] theorem State.setSent_memory (v : List Output) : (s.setSent v).memory = s.memory := by rfl
@[simp] theorem State.setFreeCtr_memory (v : Nat) : (s.setFreeCtr v).memory = s.memory := by rfl
@[simp] theorem State.setPower_memory (v : PowerSt) : (s.setPower v).memory = s.memory := by rfl
@[simp] theorem State.setDies_memory (v : Tab DieSt) : (s.setDies v).memory = s.memory := by rfl
@[simp] theorem State.setClock_memory (v : ClockSt) : (s.setClock v).memory = s.memory := by rfl

@[simp] theorem State.setFlash_memory {v : Flash} (kept : v.cells = s.flash.cells) : (s.setFlash v).memory = s.memory :=
  congrArg (Prod.mk s.hbm) kept

@[simp] theorem State.setWarden_memory (v : Warden) : (s.setWarden v).memory = s.memory := by rfl
@[simp] theorem State.setBoot_memory (v : BootRegs) : (s.setBoot v).memory = s.memory := by rfl
@[simp] theorem State.setImg_memory (v : ImageCfg) : (s.setImg v).memory = s.memory := by rfl
@[simp] theorem State.setLink0_memory (v : HostLink) : (s.setLink0 v).memory = s.memory := by rfl
@[simp] theorem State.setLink1_memory (v : HostLink) : (s.setLink1 v).memory = s.memory := by rfl
@[simp] theorem State.setCounters_memory (v : Counters) : (s.setCounters v).memory = s.memory := by rfl
@[simp] theorem State.setStands_memory (v : Tab StandSt) : (s.setStands v).memory = s.memory := by rfl
@[simp] theorem State.setComp_memory (v : Compute) : (s.setComp v).memory = s.memory := by rfl

theorem State.hbm_wf (h : MemForm s.memory) : s.hbm.wf = true := h.1

theorem State.setHbm_form (h : MemForm s.memory) {m : Mem} (hm : m.wf = true) : MemForm (s.setHbm m).memory := ⟨hm, h.2⟩

@[simp] theorem State.setMem_memory (v : MemSys) : (s.setMem v).memory = s.memory := by rfl
@[simp] theorem State.setFabric_memory (v : Fabric) : (s.setFabric v).memory = s.memory := by rfl
@[simp] theorem State.setInteg_memory (v : Integ) : (s.setInteg v).memory = s.memory := by rfl
@[simp] theorem State.setRst_memory (v : RstMod) : (s.setRst v).memory = s.memory := by rfl

/-! ### Shared operations -/

@[simp] theorem State.setStand_memory (i : Nat) (x : StandSt) : (s.setStand i x).memory = s.memory := by rfl
@[simp] theorem State.setDie_memory (d : Nat) (x : DieSt) : (s.setDie d x).memory = s.memory := by rfl
@[simp] theorem State.setCore_memory (c : Nat) (x : CoreSt) : (s.setCore c x).memory = s.memory := by rfl
@[simp] theorem State.setArray_memory (g : Nat) (x : ArraySt) : (s.setArray g x).memory = s.memory := by rfl
@[simp] theorem State.setCluster_memory (x : Nat) (v : ClusterSt) : (s.setCluster x v).memory = s.memory := by rfl
@[simp] theorem State.setStack_memory (n : Nat) (x : StackSt) : (s.setStack n x).memory = s.memory := by rfl
@[simp] theorem State.setLand_memory (n : Nat) (x : LandDie) : (s.setLand n x).memory = s.memory := by rfl
@[simp] theorem State.setUgroup_memory (k : Nat) (x : UGroup) : (s.setUgroup k x).memory = s.memory := by rfl
@[simp] theorem State.setPort_memory (p : Nat) (x : PortSt) : (s.setPort p x).memory = s.memory := by rfl
@[simp] theorem State.setBond_memory (b : Nat) (x : BondSt) : (s.setBond b x).memory = s.memory := by rfl
@[simp] theorem State.setDomain_memory (pd : Nat) (x : Domain) : (s.setDomain pd x).memory = s.memory := by rfl
@[simp] theorem State.setZone_memory (z : Nat) (x : Zone) : (s.setZone z x).memory = s.memory := by rfl

@[simp] theorem State.setLink_memory (l : LinkId) (x : HostLink) : (s.setLink l x).memory = s.memory := by
  unfold State.setLink; (repeat' split) <;> simp

@[simp] theorem State.setMbox_memory (m : Nat) (x : Mbox) : (s.setMbox m x).memory = s.memory := by rfl
@[simp] theorem State.count_memory (k n : Nat) : (s.count k n).memory = s.memory := by rfl
@[simp] theorem State.countStand_memory (st c : Nat) : (s.countStand st c).memory = s.memory := by rfl
@[simp] theorem State.countModule_memory (c : Nat) : (s.countModule c).memory = s.memory := by rfl
@[simp] theorem State.send_memory (o : Output) : (s.send o).memory = s.memory := by rfl
@[simp] theorem State.tookFree_memory : s.tookFree.memory = s.memory := by rfl
@[simp] theorem State.event_memory (code unit data : Nat) : (s.event code unit data).memory = s.memory := by rfl
@[simp] theorem State.wear_memory (kind cause unit detail : Nat) : (s.wear kind cause unit detail).memory = s.memory := by rfl

@[simp] theorem State.mark_memory (st : Nat) (step : Option W64) (cause : Nat) : (s.mark st step cause).memory = s.memory := by
  unfold State.mark; (repeat' split) <;> simp

@[simp] theorem State.openWindow_memory (st : Nat) : (s.openWindow st).memory = s.memory := by rfl

@[simp] theorem State.monitorMarks_memory (l : List Nat) : (s.monitorMarks l).memory = s.memory := by
  induction l generalizing s with
  | nil => rfl
  | cons st l ih => simp [State.monitorMarks, ih, foldl_memory]

/-! ### Die links -/

@[simp] theorem State.setDieLink_memory (d port : Nat) (x : DieLink) : (s.setDieLink d port x).memory = s.memory := by rfl

/-! ### Power and wear -/

@[simp] theorem State.dark_form (h : MemForm s.memory) (p : PowerSt) : MemForm (s.dark p).memory := ⟨Mem.empty_wf, h.2⟩
@[simp] theorem State.powerOff_form (h : MemForm s.memory) (c : OffCause) : MemForm (s.powerOff c).memory := ⟨Mem.empty_wf, h.2⟩
@[simp] theorem State.substitute_memory (d sp : Nat) : (s.substitute d sp).memory = s.memory := by rfl

@[simp] theorem State.restoreEntry_memory (e : WearEntry) : (s.restoreEntry e).memory = s.memory := by
  unfold State.restoreEntry; dsimp only; (repeat' split) <;> simp

@[simp] theorem State.restoreWear_memory : s.restoreWear.memory = s.memory := by simp [State.restoreWear, foldl_memory]

@[simp] theorem State.powerOn_form (h : MemForm s.memory) (p : PowerSt) : MemForm (s.powerOn p).memory := by
  simp [State.powerOn, h]

@[simp] theorem State.flushFlash_memory : s.flushFlash.memory = s.memory := by rfl

@[simp] theorem State.decideChipReset_memory (cause : Nat) : (s.decideChipReset cause).memory = s.memory := by
  simp [State.decideChipReset, apply_ite State.memory]

@[simp] theorem State.wardenReset_memory (cause : Nat) : (s.wardenReset cause).memory = s.memory := by
  simp [State.wardenReset, apply_ite State.memory]

@[simp] theorem State.journalled_memory : s.journalled.memory = s.memory := by
  refine (foldl_memory _ (fun u d => ?_) _ _).trans rfl
  split <;> simp

@[simp] theorem State.startFault_memory (code : Nat) : (s.startFault code).memory = s.memory := by
  simp [State.startFault, apply_ite State.memory]

@[simp] theorem State.missingUnits_memory (units : List Nat) : (s.missingUnits units).memory = s.memory := by
  unfold State.missingUnits; dsimp only; (repeat' split) <;> simp [foldl_memory]

@[simp] theorem State.domainFails_memory (pd : Nat) : (s.domainFails pd).memory = s.memory := by
  simp [State.domainFails, apply_ite State.memory]

@[simp] theorem State.onDies_memory (ds : List Nat) (f : DieSt → DieSt) : (s.onDies ds f).memory = s.memory := by rfl

@[simp] theorem State.excursion_memory (ds : List Nat) (kind c : Nat) : (s.excursion ds kind c).memory = s.memory := by
  simp [State.excursion]

/-! ### Chutes and result slots -/

@[simp] theorem State.msix_memory (l : LinkId) (v : Nat) : (s.msix l v).memory = s.memory := by simp [State.msix, apply_ite State.memory]
@[simp] theorem State.msixFlush_memory (l : LinkId) : (s.msixFlush l).memory = s.memory := by simp [State.msixFlush, apply_ite State.memory]

@[simp] theorem State.writeSlot_memory (st n : Nat) (link : LinkId) (bytes : List Byte) (status : W16) (payload : List Byte) :
    (s.writeSlot st n link bytes status payload).memory = s.memory := by
  simp [State.writeSlot]

@[simp] theorem State.setChute_memory (st : Nat) (c : Chute) : (s.setChute st c).memory = s.memory := by rfl

@[simp] theorem State.chuteWrite_memory (link : LinkId) (st offset : Nat) (data : List Byte) :
    (s.chuteWrite link st offset data).memory = s.memory := by
  simp [State.chuteWrite, apply_ite State.memory]

@[simp] theorem State.drop_memory (st : Nat) : (s.drop st).memory = s.memory := by simp [State.drop, apply_ite State.memory]

@[simp] theorem State.release_memory (st slot : Nat) (gen : W16) : (s.release st slot gen).memory = s.memory := by
  simp [State.release, apply_ite State.memory]

@[simp] theorem State.reportSlot_memory (st : Nat) (c : Cmd) (payload : List Byte) : (s.reportSlot st c payload).memory = s.memory := by
  unfold State.reportSlot; (repeat' split) <;> simp

@[simp] theorem State.applySignal_memory (st : Nat) (c : Cmd) : (s.applySignal st c).memory = s.memory := by
  unfold State.applySignal; dsimp only; (repeat' split) <;> simp

@[simp] theorem State.finish_memory (st : Nat) (c : Cmd) (payload : List Byte) : (s.finish st c payload).memory = s.memory := by
  simp [State.finish]

/-! ### Accesses of stacked memory -/

@[simp] theorem State.addFault_memory (w : Nat) (pos : Option Nat) : (s.addFault w pos).memory = s.memory := by rfl

@[simp] theorem State.noteWord_form (h : MemForm s.memory) (w : Nat) : MemForm (s.noteWord w).memory := by
  unfold State.noteWord
  split
  · exact h
  · simpa using h
  · dsimp only
    split
    · simpa using h
    · simp only [State.addFault_memory, State.count_memory]
      exact State.setHbm_form (by simpa using h) (Mem.poison_wf h.1 w)

@[simp] theorem State.noteWords_form (h : MemForm s.memory) (ws : List Nat) : MemForm (s.noteWords ws).memory := by
  unfold State.noteWords
  split
  · exact h
  · exact foldl_form (fun _ _ hu => State.noteWord_form hu _) _ h

@[simp] theorem State.noteSoft_form (h : MemForm s.memory) (a n : Nat) : MemForm (s.noteSoft a n).memory := State.noteWords_form h _

@[simp] theorem State.noteMerge_form (h : MemForm s.memory) (ks : List Nat) : MemForm (s.noteMerge ks).memory := by
  unfold State.noteMerge
  split
  · exact h
  · exact State.noteWords_form h _

@[simp] theorem State.writeKey_form (h : MemForm s.memory) (k : Nat) (bs : List Byte) : MemForm (s.writeKey k bs).memory :=
  have merged := State.noteMerge_form h _
  State.setHbm_form merged (Mem.writeRange_wf merged.1 _ _)

theorem State.writeSoftN_form (h : MemForm s.memory) (n a : Nat) (bs : List Byte) : MemForm (s.writeSoftN n a bs).memory := by
  induction n generalizing s a bs with
  | zero => exact h
  | succ n ih => cases bs with
    | nil => exact h
    | cons b bs => exact ih (by split <;> simp [h]) _ _

@[simp] theorem State.writeSoft_form (h : MemForm s.memory) (a : Nat) (bs : List Byte) : MemForm (s.writeSoft a bs).memory :=
  State.writeSoftN_form h _ _ _

/-! ### Engines and regions -/

@[simp] theorem State.setCmd_memory (st : Nat) (c : Cmd) : (s.setCmd st c).memory = s.memory := by rfl
@[simp] theorem State.engineDone_memory (st : Nat) (c : Cmd) : (s.engineDone st c).memory = s.memory := by rfl

@[simp] theorem State.countFmt_memory (st : Nat) (w : WrCount) : (s.countFmt st w).memory = s.memory := by
  simp [State.countFmt]

@[simp] theorem State.markCmd_memory (st : Nat) (c : Cmd) (cause : Nat) : (s.markCmd st c cause).memory = s.memory := by
  simp [State.markCmd]

@[simp] theorem State.countDone_memory (st op : Nat) : (s.countDone st op).memory = s.memory := by simp [State.countDone, foldl_memory]

theorem State.writeRegionN_form (h : MemForm s.memory) (r n off : Nat) (bs : List Byte) :
    MemForm (s.writeRegionN r n off bs).memory := by
  induction n generalizing s off bs with
  | zero => exact h
  | succ n ih => cases bs with
    | nil => exact h
    | cons b bs => exact ih (State.writeKey_form h _ _) _ _

@[simp] theorem State.writeRegion_form (h : MemForm s.memory) (r off : Nat) (bs : List Byte) : MemForm (s.writeRegion r off bs).memory :=
  State.writeRegionN_form h _ _ _ _

@[simp] theorem State.copyRegion_form (h : MemForm s.memory) (src dst off n : Nat) : MemForm (s.copyRegion src dst off n).memory :=
  State.setHbm_form h (Mem.foldl_wf (fun _ hm => Mem.copyWord_wf hm _ _) _ h.1)

@[simp] theorem State.poisonWords_form (h : MemForm s.memory) (ws : List Nat) : MemForm (s.poisonWords ws).memory := by
  rw [State.poisonWords, State.setFreeCtr_memory]
  exact State.setHbm_form h (Mem.foldl_wf (fun _ hm => Mem.setDiff_wf (Mem.writeRawN_wf _ _ hm) _ _) _ h.1)

/-! ### Staging for background copies -/

@[simp] theorem State.onGroups_memory (ks : List Nat) (f : UGroup → UGroup) : (s.onGroups ks f).memory = s.memory := by
  simp [State.onGroups, foldl_memory]

@[simp] theorem State.damage_memory (st k : Nat) : (s.damage st k).memory = s.memory := by rfl
@[simp] theorem State.stage_memory (st die block : Nat) : (s.stage st die block).memory = s.memory := by rfl

theorem State.stageFor_memory {l : List (Nat × Nat)} {u : State} (h : s.stageFor l = some u) : u.memory = s.memory := by
  induction l generalizing s with
  | nil => cases h; rfl
  | cons b l ih =>
    simp only [State.stageFor] at h
    split at h
    · cases h
    · rw [ih h]; exact foldl_memory _ (by simp) _ _

/-! ### Integrity -/

@[simp] theorem State.handover_memory (src dst : Nat) : (s.handover src dst).memory = s.memory := by rfl

@[simp] theorem State.markDie_memory (d : Nat) : (s.markDie d).memory = s.memory := by
  unfold State.markDie; dsimp only; (repeat' split) <;> simp

@[simp] theorem State.orphanCore_memory (c : Nat) : (s.orphanCore c).memory = s.memory := by simp [State.orphanCore]
@[simp] theorem State.coppice_memory (px : Nat) : (s.coppice px).memory = s.memory := by unfold State.coppice; (repeat' split) <;> simp

@[simp] theorem State.cruiseBack_memory (px : Nat) : (s.cruiseBack px).memory = s.memory := by
  unfold State.cruiseBack; (repeat' split) <;> simp

@[simp] theorem State.cruiseEnds_memory (px k : Nat) : (s.cruiseEnds px k).memory = s.memory := by
  simp [State.cruiseEnds, apply_ite State.memory]

@[simp] theorem State.cruiseGivesWay_memory (c : Nat) : (s.cruiseGivesWay c).1.memory = s.memory := by
  unfold State.cruiseGivesWay; dsimp only; (repeat' split) <;> simp

@[simp] theorem State.replaceCore_memory (c : Nat) : (s.replaceCore c).memory = s.memory := by
  simp [State.replaceCore, apply_ite State.memory]

@[simp] theorem State.retireCore_memory (c cause : Nat) : (s.retireCore c cause).memory = s.memory := by
  simp [State.retireCore, apply_ite State.memory]

@[simp] theorem State.retireDecided_memory : s.retireDecided.memory = s.memory := by simp [State.retireDecided, foldl_memory]
@[simp] theorem State.retireAfter_memory (st ticket c cause : Nat) : (s.retireAfter st ticket c cause).memory = s.memory := by rfl

@[simp] theorem State.retireNow_memory (st ticket : Nat) : (s.retireNow st ticket).memory = s.memory := by
  simp [State.retireNow, foldl_memory]

@[simp] theorem State.judgeCore_memory (st ticket c cause : Nat) : (s.judgeCore st ticket c cause).memory = s.memory := by
  simp [State.judgeCore, apply_ite State.memory]

@[simp] theorem State.capture_memory (c : Nat) (x : Capture) : (s.capture c x).memory = s.memory := by
  simp [State.capture, apply_ite State.memory]

@[simp] theorem State.confirmArray_memory (st ticket g : Nat) (col : Option Nat) (note : Nat) :
    (s.confirmArray st ticket g col note).memory = s.memory := by
  simp [State.confirmArray]

@[simp] theorem State.confirmCaptured_memory (st ticket g : Nat) (col : Option Nat) (x : Capture) :
    (s.confirmCaptured st ticket g col x).memory = s.memory := by
  simp [State.confirmCaptured]

@[simp] theorem State.alarmArray_memory (st ticket g : Nat) (cap : Capture) : (s.alarmArray st ticket g cap).memory = s.memory := by
  simp [State.alarmArray, apply_ite State.memory]

@[simp] theorem State.confirmShared_memory (st ticket c : Nat) : (s.confirmShared st ticket c).memory = s.memory := by rfl

@[simp] theorem State.confirmLane_memory (st ticket c lane : Nat) : (s.confirmLane st ticket c lane).memory = s.memory := by
  simp [State.confirmLane]

@[simp] theorem State.noteSpad_memory (c corrected bad : Nat) : (s.noteSpad c corrected bad).memory = s.memory := by rfl

/-! ### Scratchpads -/

@[simp] theorem State.setSpad_memory (c : Nat) (m : Mem) : (s.setSpad c m).memory = s.memory := by rfl
@[simp] theorem State.unavailable_memory (st : Nat) (c : Cmd) : (s.unavailable st c).1.memory = s.memory := by simp [State.unavailable]

@[simp] theorem State.operandPoison_memory (st : Nat) (c : Cmd) (bad : Nat) : (s.operandPoison st c bad).1.memory = s.memory := by
  unfold State.operandPoison; (repeat' split) <;> simp

/-! ### Matrix products -/

@[simp] theorem State.putProduct_memory (st : Nat) (c : Cmd) (a : MatArgs) (r pc : Nat) (res : Array Val) (cnt : Bool) :
    (s.putProduct st c a r pc res cnt).memory = s.memory := by
  simp [State.putProduct, apply_ite State.memory]

@[simp] theorem State.leaveCells_memory (c : Cmd) (a : MatArgs) (r pc : Nat) (m : Mem) : (s.leaveCells c a r pc m).memory = s.memory := by
  rfl

@[simp] theorem State.matCore_memory (st : Nat) (c : Cmd) (a : MatArgs) (r pc : Nat) : (s.matCore st c a r pc).1.memory = s.memory := by
  unfold State.matCore; dsimp only; (repeat' split) <;> simp

@[simp] theorem State.matCores_memory (st : Nat) (c : Cmd) (a : MatArgs) (px : Nat) (l : List Nat) :
    (s.matCores st c a px l).1.memory = s.memory := by
  induction l generalizing s c with
  | nil => rfl
  | cons r l ih => unfold State.matCores; dsimp only; (repeat' split) <;> simp [ih]

@[simp] theorem State.runMat_memory (st : Nat) (c : Cmd) : (s.runMat st c).memory = s.memory := by
  unfold State.runMat
  dsimp only
  split <;> simp

/-! ### Vector operations -/

@[simp] theorem State.noteOperands_memory (st : Nat) (c : Cmd) (pc : Nat) (ds : List Desc) :
    (s.noteOperands st c pc ds).1.memory = s.memory := by
  unfold State.noteOperands; (repeat' split) <;> simp

@[simp] theorem State.vecCore_memory (st : Nat) (c : Cmd) (a : VecArgs) (pc : Nat) : (s.vecCore st c a pc).1.memory = s.memory := by
  simp [State.vecCore]

theorem State.onCores_memory (st px : Nat) {f : State → Cmd → Nat → State × Cmd} (keeps : ∀ u c pc, (f u c pc).1.memory = u.memory)
    (l : List Nat) (c : Cmd) : (s.onCores st c px f l).1.memory = s.memory := by
  induction l generalizing s c with
  | nil => rfl
  | cons r l ih => unfold State.onCores; dsimp only; (repeat' split) <;> simp [ih, keeps]

/-! ### Row operations -/

@[simp] theorem State.putEntries_memory (pc e : Nat) (l : List (Val × Val)) : (s.putEntries pc e l).memory = s.memory := by rfl

@[simp] theorem State.rowCore_memory (st : Nat) (c : Cmd) (a : RowArgs) (pc : Nat) : (s.rowCore st c a pc).1.memory = s.memory := by
  simp [State.rowCore, apply_ite Prod.fst, apply_ite State.memory]

@[simp] theorem State.settleTaps_memory (st : Nat) (l : List Nat) : (s.settleTaps st l).memory = s.memory := by
  induction l generalizing s with
  | nil => rfl
  | cons pc l ih =>
    simp only [State.settleTaps, ih]
    refine (foldl_memory _ (fun u t => ?_) _ _).trans (by simp)
    split <;> simp

@[simp] theorem State.endTaps_memory (st : Nat) : (s.endTaps st).memory = s.memory := by rfl
@[simp] theorem State.settleStand_memory (st : Nat) : (s.settleStand st).memory = s.memory := by simp [State.settleStand]
@[simp] theorem State.armOn_memory (st : Nat) (c : Cmd) (pc : Nat) : (s.armOn st c pc).memory = s.memory := by rfl

@[simp] theorem State.armTap_memory (st : Nat) (c : Cmd) : (s.armTap st c).memory = s.memory := by
  unfold State.armTap; dsimp only; (repeat' split) <;> simp [foldl_memory]

@[simp] theorem State.tapOrder_memory (st pc : Nat) (t : Tap) : (s.tapOrder st pc t).memory = s.memory := by simp [State.tapOrder]

/-! ### Host links -/

@[simp] theorem State.linkLost_memory (l : LinkId) (why : LinkEnd) : (s.linkLost l why).memory = s.memory := by simp [State.linkLost]

@[simp] theorem State.configure_memory (l : LinkId) (q : CfgReq) : (s.configure l q).memory = s.memory := by
  cases q <;> simp [State.configure]

/-! ### Landing engines -/

@[simp] theorem State.putRegion_form (h : MemForm s.memory) (r off n : Nat) (bs : List (Nat × Byte)) :
    MemForm (s.putRegion r off n bs).memory :=
  State.setHbm_form h
    (Mem.foldl_wf (fun _ hm => Mem.writeRaw_wf hm _ _) _ (Mem.foldl_wf (fun _ hm => Mem.setDiff_wf hm _ _) _ h.1))

theorem State.optWrite_form {t : State} (h : MemForm t.memory) (k : Nat) (twin : Bool) (x : Nat × FmtWord) (w : RoleWr) (bad : List Nat) :
    MemForm (s.optWrite t k twin x w bad).memory := by
  apply State.poisonWords_form
  split <;> simp [h]

@[simp] theorem State.optim_form (h : MemForm s.memory) (st : Nat) (c : Cmd) (k : Nat) : MemForm (s.optim st c k).memory := by
  unfold State.optim
  extract_lets _ _ _ _ _ _ _ moved read
  split
  extract_lets _ _ _ _ _ _ _ written _ grouped counted marked pay
  have moved_form : MemForm moved.memory := by
    simp only [moved]
    split
    · exact h
    · exact foldl_form (fun _ _ hu => State.copyRegion_form hu _ _ _ _) _ h
  have written_form : MemForm written.memory :=
    foldl_form (fun _ _ hu => State.optWrite_form hu _ _ _ _ _) _ (State.noteWords_form moved_form _)
  have marked_form : MemForm marked.memory := by
    simp only [marked, counted, grouped]
    split <;> simpa using written_form
  simpa using marked_form

@[simp] theorem State.accum_form (h : MemForm s.memory) (st : Nat) (c : Cmd) (k : Nat) : MemForm (s.accum st c k).memory := by
  have read := fun ws r off n bs => State.putRegion_form (State.noteWords_form h ws) r off n bs
  unfold State.accum; dsimp only; (repeat' split) <;> simp [read]

@[simp] theorem State.sealGroups_memory (ks : List Nat) : (s.sealGroups ks).memory = s.memory := by simp [State.sealGroups]

@[simp] theorem State.digest_form (h : MemForm s.memory) (st : Nat) (c : Cmd) : MemForm (s.digest st c).memory := by
  unfold State.digest; dsimp only; (repeat' split) <;> simp [h]

@[simp] theorem State.zeroRegion_form (h : MemForm s.memory) (r : Nat) : MemForm (s.zeroRegion r).memory := by
  obtain ⟨bytes, diff⟩ := (Mem.wf_iff _).1 h.1
  exact State.setHbm_form h ((Mem.wf_iff _).2 ⟨cellsWf_filter _ bytes, diffWf_filter _ diff⟩)

@[simp] theorem State.sweepRegion_form (h : MemForm s.memory) (r : Nat) : MemForm (s.sweepRegion r).memory := by
  unfold State.sweepRegion; split <;> simp [h]

@[simp] theorem State.sweep_form (h : MemForm s.memory) (st : Nat) (c : Cmd) : MemForm (s.sweep st c).memory := by
  simp only [State.sweep, State.engineDone_memory]
  rw [foldl_memory _ (by simp)]
  exact foldl_form (fun _ _ hu => State.sweepRegion_form hu _) _ h

/-! ### Fabric requests -/

@[simp] theorem State.emit_memory (e vc part : Nat) (t : Txn) (owner : Nat × Nat) : (s.emit e vc part t owner).memory = s.memory := by
  simp [State.emit, apply_ite State.memory]

@[simp] theorem State.emitTime_memory (e : Nat) (t : Txn) (stamp : Stamp) : (s.emitTime e t stamp).memory = s.memory := by rfl
@[simp] theorem State.sendReq_memory (st e : Nat) (h : HeldReq) : (s.sendReq st e h).memory = s.memory := by simp [State.sendReq]

@[simp] theorem State.ask_memory (st : Nat) (h : HeldReq) : (s.ask st h).1.memory = s.memory := by
  unfold State.ask; dsimp only; (repeat' split) <;> simp

@[simp] theorem State.requestWith_memory (st ttype : Nat) (dst : W16) (dstand addr : Nat) (meta_ payload : List Byte)
    (diffs : Tab (Byte × Byte)) (coll : Bool) (what : ReqFor) :
    (s.requestWith st ttype dst dstand addr meta_ payload diffs coll what).1.memory = s.memory := by
  simp [State.requestWith]

@[simp] theorem State.request_memory (st ttype : Nat) (dst : W16) (dstand addr : Nat) (meta_ payload : List Byte) (coll : Bool)
    (what : ReqFor) :
    (s.request st ttype dst dstand addr meta_ payload coll what).1.memory = s.memory := by
  simp [State.request]

@[simp] theorem State.sendOnly_memory (ttype : Nat) (dst : W16) (payload : List Byte) :
    (s.sendOnly ttype dst payload).memory = s.memory := by
  unfold State.sendOnly; (repeat' split) <;> simp

@[simp] theorem State.respondWith_memory (q : Txn) (status : Nat) (payload : List Byte) (diffs : Tab (Byte × Byte)) :
    (s.respondWith q status payload diffs).memory = s.memory := by
  unfold State.respondWith; (repeat' split) <;> simp

@[simp] theorem State.respond_memory (q : Txn) (status : Nat) (payload : List Byte) : (s.respond q status payload).memory = s.memory := by
  simp [State.respond]

@[simp] theorem State.endReq_memory (st tag : Nat) : (s.endReq st tag).memory = s.memory := by rfl
@[simp] theorem State.oweCredit_memory (p vc : Nat) : (s.oweCredit p vc).memory = s.memory := by rfl

@[simp] theorem State.freeFlits_memory (vc : Nat) (rs : List (Nat × Nat)) : (s.freeFlits vc rs).memory = s.memory :=
  foldl_memory _ (fun u r => by split <;> simp) _ _

theorem State.takeRx_memory {p : Nat} {t : Txn} {u : State} (h : s.takeRx p t = some u) : u.memory = s.memory := by
  simp only [State.takeRx, Option.map_eq_some_iff] at h
  obtain ⟨y, -, rfl⟩ := h
  simp

theorem State.takeRequest_memory {p : Nat} {t : Txn} {ttype : Nat} {u : State} (h : s.takeRequest p t ttype = some u) :
    u.memory = s.memory := by
  unfold State.takeRequest at h
  split at h
  · exact State.takeRx_memory h
  · cases h

/-! ### Stores and spots -/

theorem State.setStore_form (h : MemForm s.memory) (id : StoreId) {m : Mem} (hm : id = .hbm → m.wf = true) :
    MemForm (s.setStore id m).memory := by
  cases id with
  | hbm => exact State.setHbm_form h (hm rfl)
  | scratch px => simpa [State.setStore] using h
  | spad c => simpa [State.setStore] using h

@[simp] theorem State.noteStored_form (h : MemForm s.memory) (ws : List (StoreId × Nat)) : MemForm (s.noteStored ws).memory :=
  foldl_form (fun u x hu => by split <;> simp [hu]) _ h

@[simp] theorem State.putSpots_form (h : MemForm s.memory) (ws : List (Spot × Byte)) (bad : List BadWord) :
    MemForm (s.putSpots ws bad).memory := by
  rw [State.putSpots, State.setFreeCtr_memory]
  refine foldl_form (fun u id hu => ?_) _ h
  have merged : MemForm (if id = .hbm then u.noteMerge ((heldIn id ws).map Prod.fst) else u).memory := by split <;> simp [hu]
  refine State.setStore_form merged id (fun hid => ?_)
  subst hid
  exact Mem.spoil_wf (Mem.put_wf merged.1 _) _ _

@[simp] theorem State.mixSpots_form (h : MemForm s.memory) (ws : List (Spot × Byte)) (bad : List BadWord) :
    MemForm (s.mixSpots ws bad).memory :=
  State.putSpots_form (by simpa using h) _ _

/-! ### Step records -/

@[simp] theorem State.onRec_memory (st : Nat) (step : W64) (f : StepRec → StepRec) : (s.onRec st step f).memory = s.memory := by rfl

@[simp] theorem State.overflowRec_memory (st : Nat) (step : W64) : (s.overflowRec st step).memory = s.memory := by
  unfold State.overflowRec; (repeat' split) <;> simp

@[simp] theorem State.recordItem_memory (st : Nat) (step : W64) (n : Nat) (f : StepRec → StepRec) :
    (s.recordItem st step n f).memory = s.memory := by
  unfold State.recordItem; (repeat' split) <;> simp

@[simp] theorem State.recordCmd_memory (st : Nat) (step : W64) (c : LoggedCmd) : (s.recordCmd st step c).memory = s.memory := by
  simp [State.recordCmd]

@[simp] theorem State.recordEntry_memory (st : Nat) (step : Option W64) : (s.recordEntry st step).memory = s.memory := by
  unfold State.recordEntry; (repeat' split) <;> simp

@[simp] theorem State.recordKept_memory (st : Nat) (step : W64) (k : KeptResult) : (s.recordKept st step k).memory = s.memory := by
  unfold State.recordKept; dsimp only; (repeat' split) <;> simp

@[simp] theorem State.settle_memory (st : Nat) (p : LateEntry → Bool) (d : LateDisp) : (s.settle st p d).memory = s.memory := by rfl

@[simp] theorem State.endStep_memory (st : Nat) (r : StepRec) (status : List W16) : (s.endStep st r status).memory = s.memory := by
  unfold State.endStep; (repeat' split) <;> simp

@[simp] theorem State.applySteps_memory (st : Nat) : (s.applySteps st).memory = s.memory := by simp [State.applySteps, foldl_memory]

@[simp] theorem State.discardRecords_memory (st : Nat) : (s.discardRecords st).memory = s.memory := by
  simp [State.discardRecords, foldl_memory]

/-! ### Reductions: messages and results -/

@[simp] theorem State.setColl_memory (st : Nat) (y : Coll) : (s.setColl st y).memory = s.memory := by rfl

@[simp] theorem State.askColl_memory (st ttype : Nat) (y : Coll) (dev : W16) (ds addr k r : Nat) (meta_ payload : List Byte) :
    (s.askColl st ttype y dev ds addr k r meta_ payload).1.memory = s.memory := by
  simp [State.askColl]

@[simp] theorem State.keepUnsent_memory (st ticket k owner : Nat) : (s.keepUnsent st ticket k owner).memory = s.memory := by
  unfold State.keepUnsent; (repeat' split) <;> simp

@[simp] theorem State.sendContrib_memory (st : Nat) (y : Coll) (my k owner : Nat) : (s.sendContrib st y my k owner).memory = s.memory := by
  unfold State.sendContrib
  dsimp only
  split
  · rfl
  · next dev ds _ =>
    refine foldl_memory _ (fun u p => ?_) _ _
    have sent (m payload : List Byte) := State.askColl_memory (s := u) st 3 y dev ds (4096 * p.2) k owner m payload
    split <;> next asked => simpa using (congrArg (·.1.memory) asked).symm.trans (sent _ _)

@[simp] theorem State.sendResult_memory (st : Nat) (y : Coll) (k : Nat) (vs : List W32) (taint : Bool) (es : List LateEntry) (r : Nat) :
    (s.sendResult st y k vs taint es r).memory = s.memory := by
  unfold State.sendResult
  split
  · rfl
  · exact foldl_memory _ (by simp) _ _

@[simp] theorem State.resultWhole_memory (st : Nat) (y : Coll) (taint : Bool) : (s.resultWhole st y taint).memory = s.memory := by
  unfold State.resultWhole; (repeat' split) <;> simp

@[simp] theorem State.putPart_memory (st : Nat) (y : Coll) (k o : Nat) (vs : List W32) (taint : Bool) :
    (s.putPart st y k o vs taint).memory = s.memory := by
  simp [State.putPart, apply_ite State.memory]

@[simp] theorem State.lateSample_memory (st coll ns : Nat) : (s.lateSample st coll ns).memory = s.memory := by rfl
@[simp] theorem State.matchStaged_memory (st : Nat) (y : Coll) : (s.matchStaged st y).memory = s.memory := by rfl

@[simp] theorem State.addEntry_memory (st : Nat) (e : LateEntry) : (s.addEntry st e).memory = s.memory := by
  simp [State.addEntry]

@[simp] theorem State.settleLate_memory (st : Nat) (c : Contrib) (e : LateEntry) : (s.settleLate st c e).memory = s.memory := by rfl

theorem State.putResult_form (h : MemForm s.memory) {st : Nat} {c : Cmd} {d : Desc} {val : Nat → Option W32} {p : State × Cmd}
    (hp : s.putResult st c d val = some p) : MemForm p.1.memory := by
  unfold State.putResult at hp
  split at hp
  · cases hp
    split <;> simp [h]
  · split at hp
    · cases hp
    · simp only [Option.map_eq_some_iff] at hp
      obtain ⟨t, ht, rfl⟩ := hp
      simp [State.stageFor_memory ht, h]

/-! ### Skidders -/

@[simp] theorem State.putRemote_memory (st : Nat) (c : Cmd) (d : Desc) (ws : List (Spot × Byte)) (bad : List Spot) (k : Nat) :
    (s.putRemote st c d ws bad k).1.memory = s.memory :=
  foldl_memory_fst _ (by simp) _ _

@[simp] theorem State.getRemote_memory (st : Nat) (c : Cmd) (d : Desc) (k : Nat) : (s.getRemote st c d k).1.memory = s.memory :=
  foldl_memory_fst _ (by simp) _ _

@[simp] theorem State.ownerGone_memory (st : Nat) (c : Cmd) (n : Nat) : (s.ownerGone st c n).1.memory = s.memory := by
  unfold State.ownerGone; (repeat' split) <;> simp

@[simp] theorem State.poisonMoved_memory (st : Nat) (c : Cmd) (n : Nat) : (s.poisonMoved st c n).1.memory = s.memory := by
  unfold State.poisonMoved; (repeat' split) <;> simp

@[simp] theorem State.indexRange_memory (st : Nat) (c : Cmd) (n : Nat) : (s.indexRange st c n).1.memory = s.memory := by
  unfold State.indexRange; (repeat' split) <;> simp

@[simp] theorem State.skidDone_memory (st : Nat) (c : Cmd) (lines bad coll first : Nat) :
    (s.skidDone st c lines bad coll first).memory = s.memory := by
  rfl

@[simp] theorem State.skidAbsent_memory (st : Nat) (c : Cmd) : (s.skidAbsent st c).memory = s.memory := by simp [State.skidAbsent]

theorem State.transfer_form (h : MemForm s.memory) {st : Nat} {c : Cmd} {x : Xfer} {pick : Coord → Option Coord} {fill : Bool}
    {ix : IndexList} {lines : Nat} {u : State} (hu : s.transfer st c x pick fill ix lines = some u) : MemForm u.memory := by
  unfold State.transfer at hu
  dsimp only at hu
  split at hu
  · cases hu
  · next t ht =>
    have staged := h.of_eq (State.stageFor_memory ht)
    (repeat' split at hu) <;> cases hu <;> simp [foldl_memory_fst, staged]

@[simp] theorem State.putsOver_memory (st : Nat) (c : Cmd) (d : Desc) : (s.putsOver st c d).memory = s.memory := by simp [State.putsOver]

@[simp] theorem State.runXfer_form (h : MemForm s.memory) (st : Nat) (c : Cmd) (p : Plan) : MemForm (s.runXfer st c p).memory := by
  have moved : MemForm ((s.transfer st c p.x p.pick p.args.fill p.ix p.lines).getD s).memory := by
    cases ran : s.transfer st c p.x p.pick p.args.fill p.ix p.lines with
    | none => exact h
    | some u => exact State.transfer_form h ran
  unfold State.runXfer
  dsimp only
  (repeat' split) <;> simp [foldl_memory_fst, h, moved]

theorem State.scatter_form (h : MemForm s.memory) {st : Nat} {c : Cmd} {a : SkidArgs} {u : State} (hu : s.scatter st c a = some u) :
    MemForm u.memory := by
  unfold State.scatter at hu
  dsimp only at hu
  split at hu
  · cases hu
  · next t ht =>
    have staged := h.of_eq (State.stageFor_memory ht)
    cases hu
    simp [staged]

@[simp] theorem State.runScatter_form (h : MemForm s.memory) (st : Nat) (c : Cmd) (a : SkidArgs) :
    MemForm (s.runScatter st c a).memory := by
  have added : MemForm ((s.scatter st c a).getD s).memory := by
    cases ran : s.scatter st c a with
    | none => exact h
    | some u => exact State.scatter_form h ran
  unfold State.runScatter
  dsimp only
  (repeat' split) <;> simp [foldl_memory_fst, h, added]

/-! ### Reductions -/

@[simp] theorem State.redSources_form (h : MemForm s.memory) (st : Nat) (c : Cmd) (a : RedArgs) :
    MemForm (s.redSources st c a).1.memory := by
  unfold State.redSources; dsimp only; split <;> simp [h]

@[simp] theorem State.matchNow_memory (st ticket : Nat) : (s.matchNow st ticket).memory = s.memory := by
  unfold State.matchNow; (repeat' split) <;> simp

@[simp] theorem State.moduleDone_memory (st : Nat) (c : Cmd) (a : RedArgs) (y : Coll) : (s.moduleDone st c a y).memory = s.memory := by
  unfold State.moduleDone
  dsimp only
  split
  · simp
  split
  · simp
  split
  · simp [foldl_memory]
  split
  · simp [foldl_memory]
  split
  · split
    · simp
    · refine (foldl_memory _ (fun u k => ?_) _ _).trans (by simp)
      split <;> simp [foldl_memory]
  · rw [State.matchNow_memory]
    refine (foldl_memory _ (fun u k => ?_) _ _).trans (by simp)
    (repeat' split) <;> simp

@[simp] theorem State.startRed_form (h : MemForm s.memory) (st : Nat) (c : Cmd) : MemForm (s.startRed st c).memory := by
  unfold State.startRed; dsimp only; (repeat' split) <;> simp [h]

@[simp] theorem State.piece_memory (st : Nat) (c : Cmd) (y : Coll) : (s.piece st c y).memory = s.memory := by
  unfold State.piece; (repeat' split) <;> simp

@[simp] theorem State.holdTruss_memory (st : Nat) (c : Cmd) : (s.holdTruss st c).memory = s.memory := by
  simp [State.holdTruss, apply_ite State.memory]

@[simp] theorem State.closeWindow_memory (st : Nat) (c : Cmd) (y : Coll) (k : Nat) (late : List Nat) :
    (s.closeWindow st c y k late).memory = s.memory := by
  refine (foldl_memory _ (fun u r => ?_) _ _).trans ((foldl_memory _ (by simp) _ _).trans (by simp))
  (repeat' split) <;> simp

@[simp] theorem State.formSegment_memory (st : Nat) (c : Cmd) (y : Coll) (my k : Nat) (ls : List Leaf) :
    (s.formSegment st c y my k ls).memory = s.memory := by
  unfold State.formSegment; dsimp only; (repeat' split) <;> simp [foldl_memory]

@[simp] theorem State.passOn_memory (st : Nat) (y : Coll) (my k : Nat) : (s.passOn st y my k).memory = s.memory := by
  simp [State.passOn, foldl_memory]

@[simp] theorem State.stageContrib_memory (st : Nat) (m : Meta) (k o : Nat) (vs : List W32) :
    (s.stageContrib st m k o vs).memory = s.memory := by
  unfold State.stageContrib; dsimp only; (repeat' split) <;> simp

theorem State.takeContrib_memory {st : Nat} {t : Txn} {u : State} (h : s.takeContrib st t = some u) : u.memory = s.memory := by
  unfold State.takeContrib at h
  dsimp only at h
  (repeat' split at h) <;> cases h <;> simp

@[simp] theorem State.takeEntries_memory (st : Nat) (m : Meta) (payload : List Byte) (step : Option W64) :
    (s.takeEntries st m payload step).memory = s.memory := by
  simp [State.takeEntries, foldl_memory]

theorem State.takeResult_memory {st : Nat} {t : Txn} {u : State} (h : s.takeResult st t = some u) : u.memory = s.memory := by
  unfold State.takeResult at h
  dsimp only at h
  (repeat' split at h) <;> cases h <;> simp

@[simp] theorem State.keepResults_memory (st : Nat) (c : Cmd) (a : RedArgs) (y : Coll) : (s.keepResults st c a y).memory = s.memory := by
  unfold State.keepResults
  (repeat' split) <;> simp [foldl_memory]

@[simp] theorem State.redDone_memory (st : Nat) (c : Cmd) (a : RedArgs) (y : Coll) : (s.redDone st c a y).memory = s.memory := by
  simp [State.redDone]

@[simp] theorem State.endRed_form (h : MemForm s.memory) (st : Nat) (c : Cmd) (y : Coll) : MemForm (s.endRed st c y).memory := by
  unfold State.endRed
  dsimp only
  split
  · exact h
  split
  · simpa using h
  split
  · next put => simpa using State.putResult_form h put
  · exact h

@[simp] theorem State.retryUnsent_memory (st : Nat) (y : Coll) : (s.retryUnsent st y).memory = s.memory := by
  simp [State.retryUnsent, foldl_memory]

@[simp] theorem State.runRed_form (h : MemForm s.memory) (st t op : Nat) : MemForm (s.runRed st t op).memory := by
  unfold State.runRed; (repeat' split) <;> simp [h]

@[simp] theorem State.deliver_form (h : MemForm s.memory) (st : Nat) (c : Cmd) (a : RedArgs) (y : Coll) :
    MemForm (s.deliver st c a y).memory := by
  unfold State.deliver
  extract_lets _ g _ _ _ read bad ks noted put counted marked
  have noted_form : MemForm noted.memory := by simp only [noted]; split <;> simp [h]
  have put_form : MemForm put.memory := State.setHbm_form noted_form (Mem.put_wf noted_form.1 _)
  have marked_form : MemForm marked.memory := by simp only [marked, counted]; split <;> simp [put_form]
  simpa using marked_form

/-! ### Watches -/

@[simp] theorem State.rewatch_memory (st : Nat) : (s.rewatch st).memory = s.memory := by rfl

/-! ### Owner tables and PERMUTE -/

@[simp] theorem State.loadMembers_memory (st : Nat) (a : LoadArgs) (ms : List (W16 × Nat)) : (s.loadMembers st a ms).memory = s.memory := by
  rfl

@[simp] theorem State.ownerLoad_form (h : MemForm s.memory) (st : Nat) (c : Cmd) : MemForm (s.ownerLoad st c).memory := by
  unfold State.ownerLoad; dsimp only; (repeat' split) <;> simp [h]

@[simp] theorem State.permTell_memory (st : Nat) (c : Cmd) (a : PermArgs) (w : List Byte) : (s.permTell st c a w).memory = s.memory := by
  refine foldl_memory _ (fun u r => ?_) _ _
  (repeat' split) <;> simp

@[simp] theorem State.permSend_memory (st : Nat) (c : Cmd) (a : PermArgs) (kind : Nat) : (s.permSend st c a kind).memory = s.memory := by
  simp [State.permSend]

@[simp] theorem State.setPerm_memory (st : Nat) (p : Perm) : (s.setPerm st p).memory = s.memory := by rfl

theorem State.takePerm_memory {st : Nat} {t : Txn} {u : State} (h : s.takePerm st t = some u) : u.memory = s.memory := by
  unfold State.takePerm at h
  dsimp only at h
  (repeat' split at h) <;> cases h <;> simp

@[simp] theorem State.copyBlock_form (h : MemForm s.memory) (src dst n : Nat) : MemForm (s.copyBlock src dst n).memory := by
  have noted := State.noteWords_form h
    ((List.range (n / 16)).filterMap (fun i => (s.committedKey (src + 16 * i)).map (· / 16)))
  refine State.setHbm_form noted (Mem.foldl_wf (fun i hm => ?_) _ noted.1)
  split
  · exact Mem.copyWord_wf hm _ _
  · exact hm

@[simp] theorem State.pullFrom_form (h : MemForm s.memory) (st : Nat) (c : Cmd) (a : PermArgs) (p : Perm) (k : Nat) (src : OwnerEntry)
    (size : Nat) : MemForm (s.pullFrom st c a p k src size).1.memory := by
  unfold State.pullFrom; dsimp only; (repeat' split) <;> simp [foldl_memory_fst, h]

@[simp] theorem State.permPull_form (h : MemForm s.memory) (st : Nat) (c : Cmd) (a : PermArgs) (p : Perm) :
    MemForm (s.permPull st c a p).memory := by
  simp only [State.permPull, State.setPerm_memory]
  refine foldl_form_fst (fun q k hq => ?_) _ h
  split <;> simp [hq]

@[simp] theorem State.permRetry_form (h : MemForm s.memory) (st : Nat) (c : Cmd) (a : PermArgs) (p : Perm) :
    MemForm (s.permRetry st c a p).memory := by
  simp only [State.permRetry, State.setPerm_memory]
  refine foldl_form_fst (fun q k hq => ?_) _ h
  split <;> simp [hq]

@[simp] theorem State.permLand_form (h : MemForm s.memory) (st : Nat) (p : Perm) : MemForm (s.permLand st p).memory := by
  simp only [State.permLand, State.setPerm_memory]
  refine foldl_form_fst (fun q x hq => ?_) _ h
  split
  · exact hq
  split
  · next u hu => exact State.writeSoft_form (hq.of_eq (State.stageFor_memory hu)) _ _
  · exact hq

@[simp] theorem State.permPulled_memory (st : Nat) (c : Cmd) (a : PermArgs) (p : Perm) : (s.permPulled st c a p).memory = s.memory := by
  simp [State.permPulled, foldl_memory]

@[simp] theorem State.setStates_memory (st n : Nat) (f : Nat → OwnerEntry → Nat) : (s.setStates st n f).memory = s.memory := by rfl

@[simp] theorem State.permDone_memory (st : Nat) (c : Cmd) (p : Perm) (status : List W16) :
    (s.permDone st c p status).memory = s.memory := by
  rfl

@[simp] theorem State.permOpen_memory (st : Nat) (c : Cmd) (a : PermArgs) : (s.permOpen st c a).memory = s.memory := by
  unfold State.permOpen; dsimp only; (repeat' split) <;> simp

/-! ### Sources -/

@[simp] theorem State.takeKeys_memory (m : Mem) (ks : List Nat) : (s.takeKeys m ks).2.memory = s.memory := by
  simp [State.takeKeys, apply_ite State.memory]

/-! ### Background copies -/

@[simp] theorem State.keepDiffs_form (h : MemForm s.memory) (a : Nat) (fs : Tab (Byte × Byte)) : MemForm (s.keepDiffs a fs).memory := by
  refine State.setHbm_form h (Mem.foldl_wf (fun f hm => ?_) _ h.1)
  split
  · exact Mem.setDiff_wf hm _ _
  · exact hm

@[simp] theorem State.copyOut_form (h : MemForm s.memory) (st : Nat) (b : BgCopy) (off : Nat) (bs : List Byte) (fs : Tab (Byte × Byte)) :
    MemForm (s.copyOut st b off bs fs).memory := by
  unfold State.copyOut
  split
  · simp [h]
  · refine foldl_form (fun u p hu => ?_) _ h
    dsimp only
    (repeat' split) <;> simp [hu]

@[simp] theorem State.setCopy_memory (st : Nat) (b : Option BgCopy) : (s.setCopy st b).memory = s.memory := by rfl

@[simp] theorem State.beginCopy_form (h : MemForm s.memory) (st : Nat) (b : BgCopy) : MemForm (s.beginCopy st b).memory :=
  State.copyOut_form (by simpa using h) _ _ _ _ _

@[simp] theorem State.copyPiece_form (h : MemForm s.memory) (st : Nat) (m : Mem) (offs : List Nat) (b : BgCopy) (p : CopyPiece) :
    MemForm (s.copyPiece st m offs b p).1.memory := by
  simp [State.copyPiece, h]

@[simp] theorem State.readBlock_form (h : MemForm s.memory) (st : Nat) (b : BgCopy) (die block : Nat) :
    MemForm (s.readBlock st b die block).memory := by
  simp only [State.readBlock, State.setCopy_memory, State.setLand_memory]
  exact foldl_form_fst (fun q p hq => State.copyPiece_form hq _ _ _ _ _) _ (by split <;> simp [h])

@[simp] theorem State.copyHeads_form (h : MemForm s.memory) (st : Nat) (b : BgCopy) : MemForm (s.copyHeads st b).memory :=
  State.copyOut_form (foldl_form (fun _ _ hu => State.copyOut_form hu _ _ _ _ _) _ h) _ _ _ _ _

/-! ### CHECKPOINT and RESTORE -/

@[simp] theorem State.endCopy_form (h : MemForm s.memory) (st : Nat) : MemForm (s.endCopy st).memory := by
  unfold State.endCopy; dsimp only; split <;> simp [foldl_memory, h]

@[simp] theorem State.ckptDone_form (h : MemForm s.memory) (st : Nat) (c : Cmd) (status : List W16) :
    MemForm (s.ckptDone st c status).memory := by
  unfold State.ckptDone; dsimp only; split <;> simp [h]

@[simp] theorem State.ckptPoll_form (h : MemForm s.memory) (st ticket : Nat) : MemForm (s.ckptPoll st ticket).memory := by
  unfold State.ckptPoll; (repeat' split) <;> simp [h]

@[simp] theorem State.copyRead_form (h : MemForm s.memory) (st : Nat) (b : BgCopy) : MemForm (s.copyRead st b).memory := by
  unfold State.copyRead; dsimp only; (repeat' split) <;> simp [h]

@[simp] theorem State.copyStep_form (h : MemForm s.memory) (st : Nat) (b : BgCopy) : MemForm (s.copyStep st b).memory := by
  unfold State.copyStep
  dsimp only
  split
  · simp [h]
  split
  · exact h
  · next staged => simp [State.stageFor_memory staged, h]

@[simp] theorem State.restGet_memory (st : Nat) (c : Cmd) (a : RestArgs) (addr n : Nat) : (s.restGet st c a addr n).1.memory = s.memory :=
  foldl_memory_fst _ (by simp) _ _

@[simp] theorem State.restBytes_form (h : MemForm s.memory) (c : Cmd) (a : RestArgs) (addr n : Nat) :
    MemForm (s.restBytes c a addr n).2.memory := by
  unfold State.restBytes; split <;> simp [h]

@[simp] theorem State.restFail_memory (st : Nat) (c : Cmd) (status : List W16) (m : List Byte) (firstBad bytes : Nat) :
    (s.restFail st c status m firstBad bytes).memory = s.memory := by
  rfl

@[simp] theorem State.install_form (h : MemForm s.memory) (k : Nat) (b : List Byte) : MemForm (s.install k b).memory := by
  simp only [State.install, State.setUgroup_memory]
  exact foldl_form_fst (fun q p hq => State.writeRegion_form hq _ _ _) _ h

theorem State.restRun_form (h : MemForm s.memory) {st : Nat} {c : Cmd} {a : RestArgs} {u : State} (hu : s.restRun st c a = some u) :
    MemForm u.memory := by
  unfold State.restRun at hu
  dsimp only at hu
  split at hu
  · cases hu
  split at hu
  · cases hu
    simp [h]
  split at hu
  · cases hu
    simp only [State.countStand_memory, State.restFail_memory]
    exact foldl_form_snd (fun _ _ hq => by exact State.restBytes_form hq _ _ _ _) _ (State.restBytes_form h _ _ _ _)
  split at hu
  · cases hu
  · simp only [Option.map_eq_some_iff] at hu
    obtain ⟨t, staged, rfl⟩ := hu
    simp only [State.countStand_memory, State.engineDone_memory, State.setStand_memory]
    refine foldl_form (fun _ _ hv => State.install_form hv _ _) _ ?_
    rw [State.stageFor_memory staged]
    exact foldl_form_snd (fun _ _ hq => by exact State.restBytes_form hq _ _ _ _) _ (State.restBytes_form h _ _ _ _)

@[simp] theorem State.restShards_memory (st : Nat) (c : Cmd) (a : RestArgs) : (s.restShards st c a).memory = s.memory :=
  foldl_memory_fst _ (by simp) _ _

@[simp] theorem State.restNext_form (h : MemForm s.memory) (st : Nat) (c : Cmd) (a : RestArgs) : MemForm (s.restNext st c a).memory := by
  have run : MemForm ((s.restRun st c a).getD s).memory := by
    cases ran : s.restRun st c a with
    | none => exact h
    | some u => exact State.restRun_form h ran
  unfold State.restNext
  dsimp only
  (repeat' split) <;> simp [h, run]

/-! ### Fences -/

@[simp] theorem State.sendFence_memory (st : Nat) (m named : W16 × Nat) : (s.sendFence st m named).memory = s.memory := by
  simp [State.sendFence]

@[simp] theorem State.relayFence_memory (st m : Nat) (d : W16) : (s.relayFence st m d).memory = s.memory :=
  foldl_memory _ (fun u x => by split <;> simp) _ _

@[simp] theorem State.setPeer_memory (st : Nat) (d : W16) (f : Peer → Peer) : (s.setPeer st d f).memory = s.memory := by
  simp [State.setPeer, apply_ite State.memory]

@[simp] theorem State.resend_memory (t : State) (st : Nat) (y : Coll) : (State.resend s t st y).memory = t.memory := by
  unfold State.resend
  dsimp only
  split
  · rfl
  · refine foldl_memory _ (fun u k => ?_) _ _
    (repeat' split) <;> simp

@[simp] theorem State.fenceDev_memory (st : Nat) (d : W16) (source : Nat) : (s.fenceDev st d source).memory = s.memory := by
  unfold State.fenceDev
  split
  · rfl
  · refine (foldl_memory _ (fun u y => ?_) _ _).trans (by simp)
    split <;> simp

@[simp] theorem State.failSapling_memory (st : Nat) (d : W16) : (s.failSapling st d).memory = s.memory := by simp [State.failSapling]

/-! ### Steps -/

@[simp] theorem State.stepBegin_memory (st : Nat) (p : List Byte) : (s.stepBegin st p).memory = s.memory := by
  simp [State.stepBegin, apply_ite State.memory]

@[simp] theorem State.stepEnd_memory (st ticket : Nat) : (s.stepEnd st ticket).memory = s.memory := by
  unfold State.stepEnd; (repeat' split) <;> simp

/-! ### COMMIT -/

@[simp] theorem State.setSteps_memory (st : Nat) (f : StepSt → StepSt) : (s.setSteps st f).memory = s.memory := by rfl

@[simp] theorem State.commitDone_memory (st : Nat) (j : CommitSt) (c : Cmd) (status : List W16) (blaze : List Byte) (rounds : Nat)
    (n : List Byte) :
    (s.commitDone st j c status blaze rounds n).memory = s.memory := by
  rfl

@[simp] theorem State.wantRollback_memory (st : Nat) (why : RollbackFor) : (s.wantRollback st why).memory = s.memory := by rfl

@[simp] theorem State.commitDigest_form (h : MemForm s.memory) (st : Nat) (j : CommitSt) (a : CommitArgs) :
    MemForm (s.commitDigest st j a).memory := by
  unfold State.commitDigest; dsimp only; (repeat' split) <;> simp [h]

@[simp] theorem State.sendCommit_memory (st : Nat) (j : CommitSt) : (s.sendCommit st j).memory = s.memory := by
  refine foldl_memory _ (fun u r => ?_) _ _
  (repeat' split) <;> simp

@[simp] theorem State.commitStand_memory (st : Nat) (j : CommitSt) : (s.commitStand st j).memory = s.memory := by
  simp [State.commitStand, apply_ite State.memory]

@[simp] theorem State.startMirror_form (h : MemForm s.memory) (st ctx : Nat) (a : CommitArgs) :
    MemForm (s.startMirror st ctx a).memory := by
  unfold State.startMirror; dsimp only; (repeat' split) <;> simp [h]

@[simp] theorem State.judgeSapling_memory (st : Nat) (blaze : BitVec 128) (steps : Nat) (d : W16) (m : Option CommitMsg) :
    (s.judgeSapling st blaze steps d m).memory = s.memory := by
  unfold State.judgeSapling; dsimp only; (repeat' split) <;> simp

@[simp] theorem State.judgeSaplings_memory (st : Nat) (j : CommitSt) (steps : Nat) (ms : List (Nat × Option CommitMsg)) :
    (s.judgeSaplings st j steps ms).memory = s.memory := by
  refine foldl_memory _ (fun u q => ?_) _ _
  (repeat' split) <;> simp

@[simp] theorem State.expel_memory (st : Nat) (j : CommitSt) (ranks : List Nat) : (s.expel st j ranks).memory = s.memory := by
  refine (foldl_memory _ (by simp) _ _).trans (foldl_memory _ (fun u m => foldl_memory _ (fun v r => ?_) _ _) _ _)
  split <;> simp

@[simp] theorem State.commitFlip_form (h : MemForm s.memory) (st : Nat) (j : CommitSt) (c : Cmd) (d : CommitDecision) :
    MemForm (s.commitFlip st j c d).memory := by
  unfold State.commitFlip; dsimp only; split <;> simp [h]

@[simp] theorem State.settleCommit_form (h : MemForm s.memory) (st : Nat) (now : Bool) : MemForm (s.settleCommit st now).memory := by
  unfold State.settleCommit; (repeat' split) <;> simp [h]

@[simp] theorem State.commitOk_form (h : MemForm s.memory) (st : Nat) (j : CommitSt) (c : Cmd) (n expelled : Nat)
    (ms : List (Nat × Option CommitMsg)) : MemForm (s.commitOk st j c n expelled ms).memory := by
  unfold State.commitOk; dsimp only; split <;> simp [h]

@[simp] theorem State.decideCommit_form (h : MemForm s.memory) (st : Nat) (j : CommitSt) (c : Cmd) :
    MemForm (s.decideCommit st j c).memory := by
  unfold State.decideCommit; dsimp only; (repeat' split) <;> simp [h]

@[simp] theorem State.tryDecide_form (h : MemForm s.memory) (st : Nat) : MemForm (s.tryDecide st).memory := by
  unfold State.tryDecide; (repeat' split) <;> simp [h]

@[simp] theorem State.takeCommitMsg_form (h : MemForm s.memory) (st : Nat) (m : CommitMsg) : MemForm (s.takeCommitMsg st m).memory :=
  State.tryDecide_form (by simpa using h) _

@[simp] theorem State.rollBack_memory (st : Nat) : (s.rollBack st).memory = s.memory := by
  unfold State.rollBack; dsimp only; (repeat' split) <;> simp

@[simp] theorem State.rollbackOver_memory (st : Nat) (halt : Bool) : (s.rollbackOver st halt).memory = s.memory := by
  simp [State.rollbackOver]

@[simp] theorem State.rollbackEnds_memory (st : Nat) (status : W16) (rounds : Nat) :
    (s.rollbackEnds st status rounds).memory = s.memory := by
  unfold State.rollbackEnds; (repeat' split) <;> simp

@[simp] theorem State.startReplay_memory (st : Nat) (firstLive : W64) : (s.startReplay st firstLive).memory = s.memory := by rfl

@[simp] theorem State.doRollback_memory (st : Nat) (why : RollbackFor) : (s.doRollback st why).memory = s.memory := by
  unfold State.doRollback; dsimp only; (repeat' split) <;> simp

/-! ### Lookout -/

@[simp] theorem State.fencePeer_form (h : MemForm s.memory) (st : Nat) (c : Cmd) : MemForm (s.fencePeer st c).memory := by
  unfold State.fencePeer; dsimp only; split <;> simp [h]

@[simp] theorem State.readmit_memory (st : Nat) (c : Cmd) : (s.readmit st c).memory = s.memory := by simp [State.readmit]

@[simp] theorem State.selfExpelled_memory (st : Nat) (sender : W16) : (s.selfExpelled st sender).memory = s.memory := by
  unfold State.selfExpelled; dsimp only; (repeat' split) <;> simp

@[simp] theorem State.takeFence_form (h : MemForm s.memory) (st : Nat) (src named : W16 × Nat) :
    MemForm (s.takeFence st src named).memory := by
  unfold State.takeFence; (repeat' split) <;> simp [h]

@[simp] theorem State.hear_memory (st : Nat) (d : W16) (mask : Nat) : (s.hear st d mask).memory = s.memory := by rfl

theorem State.takeLink_memory {p : Nat} {t : Txn} {ttype : Nat} {rsp : Bool} {u : State} (h : s.takeLink p t ttype rsp = some u) :
    u.memory = s.memory := by
  unfold State.takeLink at h
  split at h
  · exact State.takeRx_memory h
  · cases h

@[simp] theorem State.silent_form (h : MemForm s.memory) (st : Nat) (p : Peer) : MemForm (s.silent st p).memory := by
  unfold State.silent; dsimp only; (repeat' split) <;> simp [foldl_memory, h]

/-! ### Transactions received -/

theorem State.takeCollective_form (h : MemForm s.memory) {st : Nat} {t : Txn} {u : State} (hu : s.takeCollective st t = some u) :
    MemForm u.memory := by
  unfold State.takeCollective at hu
  split at hu
  · cases hu
    exact State.takeCommitMsg_form h _ _
  · exact h.of_eq (State.takeResult_memory hu)

theorem State.takePut_form (h : MemForm s.memory) {st : Nat} {t : Txn} {p : State × Nat} (hp : s.takePut st t = some p) :
    MemForm p.1.memory := by
  unfold State.takePut at hp
  dsimp only at hp
  split at hp
  · cases hp
    simpa using h
  split at hp
  · cases hp
  · simp only [Option.map_eq_some_iff] at hp
    obtain ⟨u, staged, rfl⟩ := hp
    exact State.writeSoft_form (h.of_eq (State.stageFor_memory staged)) _ _

@[simp] theorem State.serveGet_form (h : MemForm s.memory) (st : Nat) (t : Txn) : MemForm (s.serveGet st t).1.memory := by
  unfold State.serveGet; dsimp only; (repeat' split) <;> simp [h]

@[simp] theorem State.skidEnded_memory (st ticket : Nat) (q : HeldReq) (status : Nat) (data : List Byte) :
    (s.skidEnded st ticket q status data).memory = s.memory := by
  unfold State.skidEnded; (repeat' split) <;> simp

@[simp] theorem State.ckptEnded_form (h : MemForm s.memory) (st ticket : Nat) (q : HeldReq) (status : Nat) (data : List Byte) :
    MemForm (s.ckptEnded st ticket q status data).memory := by
  unfold State.ckptEnded; dsimp only; (repeat' split) <;> simp [h]

@[simp] theorem State.permEnded_form (h : MemForm s.memory) (st ticket block : Nat) (q : HeldReq) (status : Nat) (data : List Byte) :
    MemForm (s.permEnded st ticket block q status data).memory := by
  unfold State.permEnded; dsimp only; (repeat' split) <;> simp [h]

@[simp] theorem State.reqEnded_form (h : MemForm s.memory) (st : Nat) (q : HeldReq) (status : Nat) (data : List Byte) :
    MemForm (s.reqEnded st q status data).memory := by
  unfold State.reqEnded
  extract_lets t
  have counted : MemForm t.memory := by simp only [t]; split <;> simp [h]
  (repeat' split) <;> simp [counted]

@[simp] theorem State.pumpOne_form (h : MemForm s.memory) (st : Nat) (q : HeldReq) : MemForm (s.pumpOne st q).memory := by
  unfold State.pumpOne; dsimp only; (repeat' split) <;> simp [h]

@[simp] theorem State.pump_form (h : MemForm s.memory) (st : Nat) : MemForm (s.pump st).memory :=
  foldl_form (fun _ _ hu => State.pumpOne_form hu _ _) _ (by simpa using h)

@[simp] theorem State.finishReq_form (h : MemForm s.memory) (st : Nat) (r : Req) (status : Nat) (data : List Byte) :
    MemForm (s.finishReq st r status data).memory := by
  simp [State.finishReq, h]

@[simp] theorem State.lostReq_form (h : MemForm s.memory) (st : Nat) (r : Req) : MemForm (s.lostReq st r).memory :=
  State.finishReq_form h _ _ _ _

@[simp] theorem State.crossWay_memory (w : List Nat) : (s.crossWay w).memory = s.memory := by rfl

@[simp] theorem State.dropTransit_memory (t : Txn) : (s.dropTransit t).memory = s.memory := by
  unfold State.dropTransit; (repeat' split) <;> simp

@[simp] theorem State.timeSample_memory (t1 t2 t3 t4 : Nat) : (s.timeSample t1 t2 t3 t4).memory = s.memory := by
  simp [State.timeSample, apply_ite State.memory]

/-! ### Ports and bonds -/

@[simp] theorem State.bondResend_memory (p : Nat) : (s.bondResend p).memory = s.memory := by
  unfold State.bondResend; (repeat' split) <;> simp

@[simp] theorem State.retrain_memory (p : Nat) : (s.retrain p).memory = s.memory := by simp [State.retrain]

@[simp] theorem State.replay_memory (p : Nat) : (s.replay p).memory = s.memory := by
  unfold State.replay; dsimp only; (repeat' split) <;> simp

@[simp] theorem State.degrade_memory (p : Nat) : (s.degrade p).memory = s.memory := by rfl
@[simp] theorem State.forgetFlits_memory (p : Nat) : (s.forgetFlits p).memory = s.memory := foldl_memory _ (by simp) _ _

@[simp] theorem State.loseOwners_form (h : MemForm s.memory) (os : List (Nat × Nat)) : MemForm (s.loseOwners os).memory :=
  foldl_form (fun u o hu => by split <;> simp [hu]) _ h

@[simp] theorem State.portDown_form (h : MemForm s.memory) (p : Nat) : MemForm (s.portDown p).memory := by
  unfold State.portDown; dsimp only; (repeat' split) <;> simp [h]

@[simp] theorem State.fabricCheck_memory : s.fabricCheck.memory = s.memory := by simp [State.fabricCheck, apply_ite State.memory]

/-! ### BAR4 -/

@[simp] theorem State.makeRoom_form (h : MemForm s.memory) (bs : List (Nat × Nat)) (n : Nat) : MemForm (s.makeRoom bs n).memory := by
  induction n generalizing s with
  | zero => exact h
  | succ n ih =>
    unfold State.makeRoom
    split
    · next staged => exact h.of_eq (State.stageFor_memory staged)
    · refine ih (foldl_form (fun u p hu => ?_) _ h)
      (repeat' split) <;> simp [hu]

@[simp] theorem State.hostStore_form (h : MemForm s.memory) (ws : List (Nat × Byte)) : MemForm (s.hostStore ws).memory :=
  have merged := State.noteMerge_form h _
  State.setHbm_form merged (Mem.put_wf merged.1 _)

/-! ### Discarded commands -/

@[simp] theorem State.mixScatter_form (h : MemForm s.memory) (st : Nat) (c : Cmd) (a : SkidArgs) : MemForm (s.mixScatter st c a).memory :=
  State.putSpots_form (by simpa using h) _ _

@[simp] theorem State.mixSkid_form (h : MemForm s.memory) (st : Nat) (c : Cmd) : MemForm (s.mixSkid st c).memory := by
  have mixed {t : State} {l : List (Nat × Nat)} (staged : s.stageFor l = some t) : MemForm t.memory :=
    h.of_eq (State.stageFor_memory staged)
  unfold State.mixSkid
  split
  · exact h
  split
  · exact h
  split
  · split
    · exact h
    dsimp only
    split
    · exact h
    · next staged => exact State.mixSpots_form (mixed staged) _ _
  · dsimp only
    split
    · exact h
    split
    · exact h
    · next staged => exact State.mixScatter_form (mixed staged) _ _ _

@[simp] theorem State.scrambleCore_memory (core : Nat) (d : Desc) : (s.scrambleCore core d).memory = s.memory := by rfl

@[simp] theorem State.scramble_form (h : MemForm s.memory) (st : Nat) (c : Cmd) : MemForm (s.scramble st c).memory := by
  unfold State.scramble
  split
  · split
    · exact h
    split
    · exact h
    · exact h.of_eq (foldl_memory _ (fun u r => by split <;> simp) _ _)
  · split <;> simp [h]

@[simp] theorem State.damageBy_memory (st : Nat) (c : Cmd) : (s.damageBy st c).memory = s.memory := by
  unfold State.damageBy; dsimp only; (repeat' split) <;> simp [foldl_memory]

@[simp] theorem State.forget_form (h : MemForm s.memory) (st : Nat) (c : Cmd) : MemForm (s.forget st c).memory := by
  unfold State.forget; dsimp only; (repeat' split) <;> simp [foldl_memory, h]

@[simp] theorem State.discardCmd_form (h : MemForm s.memory) (st : Nat) (c : Cmd) (status : W16) :
    MemForm (s.discardCmd st c status).memory := by
  unfold State.discardCmd; dsimp only; split <;> simp [h]

@[simp] theorem State.discardAll_form (h : MemForm s.memory) (st : Nat) (cs : List Cmd) (status : W16) :
    MemForm (s.discardAll st cs status).memory :=
  foldl_form (fun _ _ hu => State.discardCmd_form hu _ _ _) _ h

@[simp] theorem State.cutReplay_memory (st : Nat) : (s.cutReplay st).memory = s.memory := by
  unfold State.cutReplay; dsimp only; (repeat' split) <;> simp [foldl_memory]

@[simp] theorem State.afterDiscard_memory (st : Nat) (cut : Bool) : (s.afterDiscard st cut).memory = s.memory := by
  simp [State.afterDiscard, apply_ite State.memory]

/-! ### Resets -/

@[simp] theorem State.setRstStand_memory (st : Nat) (f : RstStand → RstStand) : (s.setRstStand st f).memory = s.memory := by rfl
@[simp] theorem State.rearm_memory : s.rearm.memory = s.memory := by rfl

@[simp] theorem State.takeSample_memory (st rung : Nat) (cause : RungCause) (e : Option EngineId) :
    (s.takeSample st rung cause e).1.memory = s.memory := by
  unfold State.takeSample; (repeat' split) <;> simp

@[simp] theorem State.freeKept_memory (px ctx : Nat) : (s.freeKept px ctx).memory = s.memory := foldl_memory _ (by simp) _ _

@[simp] theorem State.contextReset_form (h : MemForm s.memory) (st ctx : Nat) (cause : RungCause) (e : Option EngineId)
    (stuck : List Nat) : MemForm (s.contextReset st ctx cause e stuck).memory := by
  unfold State.contextReset; dsimp only; split <;> simp [foldl_memory, h]

@[simp] theorem State.abandon_form (h : MemForm s.memory) (st ticket : Nat) : MemForm (s.abandon st ticket).memory := by
  unfold State.abandon; dsimp only; split <;> simp [foldl_memory, h]

@[simp] theorem State.fenceSelf_memory (st : Nat) : (s.fenceSelf st).memory = s.memory :=
  foldl_memory _ (fun u m => by split <;> simp) _ _

@[simp] theorem State.startStandReset_memory (st : Nat) (cause : RungCause) (e : Option EngineId) :
    (s.startStandReset st cause e).memory = s.memory := by
  simp [State.startStandReset, apply_ite State.memory]

@[simp] theorem State.requestContext_form (h : MemForm s.memory) (l : LinkId) (st ctx : Nat) :
    MemForm (s.requestContext l st ctx).memory := by
  unfold State.requestContext; (repeat' split) <;> simp [h]

@[simp] theorem State.requestStand_memory (l : LinkId) (st : Nat) : (s.requestStand l st).memory = s.memory := by
  simp [State.requestStand, apply_ite State.memory]

@[simp] theorem State.popHead_memory (st : Nat) : (s.popHead st).memory = s.memory := by
  unfold State.popHead; dsimp only; (repeat' split) <;> simp

@[simp] theorem State.engineCleared_memory (e : EngineId) : (s.engineCleared e).memory = s.memory := by
  unfold State.engineCleared; (repeat' split) <;> simp

@[simp] theorem State.engineReset_form (h : MemForm s.memory) (st : Nat) (e : EngineId) : MemForm (s.engineReset st e).memory := by
  simp only [State.engineReset, State.engineCleared_memory]
  split
  · exact foldl_form (fun u k hu => by split <;> simp [hu]) _ h
  · exact foldl_form (fun u k hu => by simp [hu]) _ h

@[simp] theorem State.startEngineReset_form (h : MemForm s.memory) (st : Nat) (a : Rung) (e : EngineId) :
    MemForm (s.startEngineReset st a e).memory := by
  unfold State.startEngineReset; dsimp only; (repeat' split) <;> simp [h]

@[simp] theorem State.fenceEngine_memory (st : Nat) (e : EngineId) : (s.fenceEngine st e).memory = s.memory := by
  unfold State.fenceEngine; (repeat' split) <;> simp

@[simp] theorem State.engineResetDone_memory (st : Nat) (a : Rung) : (s.engineResetDone st a).memory = s.memory := by rfl
@[simp] theorem State.zeroCluster_memory (px : Nat) : (s.zeroCluster px).memory = s.memory := foldl_memory _ (by simp) _ _
@[simp] theorem State.seedGate_memory (l g : Nat) : (s.seedGate l g).memory = s.memory := by rfl

@[simp] theorem State.emptyStand_form (h : MemForm s.memory) (st : Nat) : MemForm (s.emptyStand st).memory := by
  simp [State.emptyStand, h]

@[simp] theorem State.clearTables_memory (st : Nat) : (s.clearTables st).memory = s.memory := by rfl
@[simp] theorem State.haltStand_memory (st : Nat) : (s.haltStand st).memory = s.memory := by simp [State.haltStand]

@[simp] theorem State.resetStand_form (h : MemForm s.memory) (st : Nat) (cause : RungCause) : MemForm (s.resetStand st cause).memory := by
  simp [State.resetStand, foldl_memory, h]

/-! ### Start-up -/

@[simp] theorem State.requestCycle_memory (why : Nat) : (s.requestCycle why).memory = s.memory := by
  simp [State.requestCycle, apply_ite State.memory]

@[simp] theorem State.tryspares_memory (scan : List (Nat × Bool)) (d : Nat) (l : List Nat) :
    (s.tryspares scan d l).1.memory = s.memory := by
  induction l generalizing s with
  | nil => rfl
  | cons sp l ih => unfold State.tryspares; split <;> simp [ih]

@[simp] theorem State.diePhase_memory (scan : List (Nat × Bool)) (d : Nat) : (s.diePhase scan d).memory = s.memory := by
  simp [State.diePhase, apply_ite State.memory]

@[simp] theorem State.replaceDies_memory (scan : List (Nat × Bool)) : (s.replaceDies scan).memory = s.memory :=
  foldl_memory _ (by simp) _ _

@[simp] theorem State.logicReset_memory (cause : Nat) : (s.logicReset cause).memory = s.memory := by
  simp only [State.logicReset, State.setMem_memory, State.restoreWear_memory]
  rfl

@[simp] theorem State.discardStands_form (h : MemForm s.memory) : MemForm s.discardStands.memory :=
  foldl_form (fun u st hu => by split <;> simp [hu]) _ h

@[simp] theorem State.updateBoot_memory (f : BootState → BootState) : (s.updateBoot f).memory = s.memory := by
  simp [State.updateBoot, apply_ite State.memory]

@[simp] theorem State.clearMagic_form (h : MemForm s.memory) (base : Nat) : MemForm (s.clearMagic base).memory :=
  State.setFlash_form h (Flash.write_form h.2 _ _)

@[simp] theorem State.tryFw_form (h : MemForm s.memory) (slot : Nat) (sig : Bool) : MemForm (s.tryFw slot sig).1.memory := by
  unfold State.tryFw; dsimp only; (repeat' split) <;> simp [h]

@[simp] theorem State.startWarden_memory (slot : Nat) (fallback : Bool) : (s.startWarden slot fallback).memory = s.memory := by rfl
@[simp] theorem State.chooseWarden_memory : s.chooseWarden.memory = s.memory := by rfl

@[simp] theorem State.reconstruct_memory (puf : Nat) : (s.reconstruct puf).memory = s.memory := by
  simp [State.reconstruct, apply_ite State.memory]

@[simp] theorem State.tryImage_form (h : MemForm s.memory) (slot : Nat) (read sig : Bool) :
    MemForm (s.tryImage slot read sig).1.memory := by
  unfold State.tryImage; dsimp only; (repeat' split) <;> simp [h]

@[simp] theorem State.seedZones_memory : s.seedZones.memory = s.memory := by simp [State.seedZones, foldl_memory]
@[simp] theorem State.applyImage_memory (slot : Nat) : (s.applyImage slot).memory = s.memory := by simp [State.applyImage]

@[simp] theorem State.startStands_memory : s.startStands.memory = s.memory := by
  refine (foldl_memory _ (fun u st => by split <;> simp) _ _).trans ((foldl_memory _ (by simp) _ _).trans (foldl_memory _ (by simp) _ _))

@[simp] theorem State.portsReady_memory : s.portsReady.memory = s.memory := by rfl

/-! ### Checked tiles -/

@[simp] theorem State.storeFaults_memory (st : Nat) (c : Cmd) (r : Nat) : (s.storeFaults st c r).memory = s.memory := by
  unfold State.storeFaults; dsimp only; (repeat' split) <;> simp

@[simp] theorem State.judgeTile_memory (c : Cmd) (f : TileFault) (orig rec : List Deviation) (own : Bool) :
    (s.judgeTile c f orig rec own).memory = s.memory := by
  simp [State.judgeTile, apply_ite State.memory]

/-! ### Cruise -/

@[simp] theorem State.laneCleared_memory (u : LaneUnit) (lane st : Nat) : (s.laneCleared u lane st).memory = s.memory := by
  unfold State.laneCleared; (repeat' split) <;> simp

@[simp] theorem State.laneConfirmed_memory (u : LaneUnit) (lane st : Nat) (c : Cmd) : (s.laneConfirmed u lane st c).memory = s.memory := by
  unfold State.laneConfirmed; (repeat' split) <;> simp

@[simp] theorem State.tryHandover_memory (px r : Nat) (toSpare : Bool) : (s.tryHandover px r toSpare).memory = s.memory := by
  unfold State.tryHandover; dsimp only; (repeat' split) <;> simp

@[simp] theorem State.setSram_memory (x : SramStore) (m : Mem) : (s.setSram x m).memory = s.memory := by
  unfold State.setSram; (repeat' split) <;> simp

@[simp] theorem State.setSramRows_memory (p : Nat × Nat) (r : SramRows) : (s.setSramRows p r).memory = s.memory := by rfl

@[simp] theorem State.copyRow_memory (x : SramStore) (macro_ row w : Nat) : (s.copyRow x macro_ row w).memory = s.memory := by
  simp [State.copyRow]

@[simp] theorem State.rowFault_memory (x : SramStore) (p : Nat × Nat) (macro_ row w : Nat) :
    (s.rowFault x p macro_ row w).memory = s.memory := by
  unfold State.rowFault; dsimp only; (repeat' split) <;> simp

@[simp] theorem State.scrubWord_memory (x : SramStore) (w macro_ row : Nat) : (s.scrubWord x w macro_ row).memory = s.memory := by
  unfold State.scrubWord; dsimp only; (repeat' split) <;> simp

/-! ### Flits -/

@[simp] theorem State.accept_memory (p : Nat) (y : RxTxn) (fenced : Bool) : (s.accept p y fenced).memory = s.memory := by
  simp [State.accept, apply_ite State.memory]

@[simp] theorem State.takeBody_memory (p q vc start : Nat) (body : List (List Byte)) (num : Nat) (time : W64) :
    (s.takeBody p q vc start body num time).memory = s.memory := by
  simp [State.takeBody, foldl_memory]

@[simp] theorem State.drainBond_memory (b n : Nat) : (s.drainBond b n).memory = s.memory := by
  induction n generalizing s with
  | zero => rfl
  | succ n ih => unfold State.drainBond; dsimp only; split <;> simp [ih]

@[simp] theorem State.takeData_memory (p : Nat) (hd : FlitHead) (body : List (List Byte)) : (s.takeData p hd body).memory = s.memory := by
  unfold State.takeData
  dsimp only
  (repeat' split) <;> simp

@[simp] theorem State.putFlit_memory (p : Nat) (h : FlitHead) (body : List (List Byte)) : (s.putFlit p h body).memory = s.memory := by rfl
@[simp] theorem State.badFlit_memory (p : Nat) : (s.badFlit p).memory = s.memory := by simp [State.badFlit, apply_ite State.memory]
@[simp] theorem State.sendFlit_memory (p : Nat) (f : RetryFlit) : (s.sendFlit p f).memory = s.memory := by rfl

@[simp] theorem State.sendAgain_memory (p seq : Nat) : (s.sendAgain p seq).memory = s.memory := by
  unfold State.sendAgain; dsimp only; (repeat' split) <;> simp

theorem State.resendOne_memory {p : Nat} {u : State} (h : s.resendOne p = some u) : u.memory = s.memory := by
  unfold State.resendOne at h
  dsimp only at h
  (repeat' split at h) <;> cases h
  simp

@[simp] theorem State.sendData_memory (p q vc k : Nat) : (s.sendData p q vc k).memory = s.memory := by
  unfold State.sendData; dsimp only; (repeat' split) <;> simp

@[simp] theorem State.sendNext_memory (p : Nat) : (s.sendNext p).memory = s.memory := by
  unfold State.sendNext
  dsimp only
  split
  · simp
  split
  · simp
  split
  · simp
  split
  · next resent => exact State.resendOne_memory resent
  · (repeat' split) <;> simp

/-! ### Die-link flits -/

@[simp] theorem State.takeFlit_memory (die port : Nat) (f : DieFlit) : (s.takeFlit die port f).memory = s.memory := by
  unfold State.takeFlit; (repeat' split) <;> simp

/-! ### Issue -/

@[simp] theorem State.refuseHead_memory (st n : Nat) (p : Packet) (v : W16) : (s.refuseHead st n p v).memory = s.memory := by
  simp [State.refuseHead, foldl_memory]

@[simp] theorem State.issue_memory (st : Nat) (p : Packet) (slot : Option Nat) : (s.issue st p slot).1.memory = s.memory := by
  unfold State.issue
  dsimp only
  (repeat' split) <;> simp

@[simp] theorem State.afterIssue_memory (st : Nat) (c : Cmd) : (s.afterIssue st c).memory = s.memory := by
  unfold State.afterIssue; (repeat' split) <;> simp

@[simp] theorem State.issueHead_memory (st : Nat) (p : Packet) : (s.issueHead st p).memory = s.memory := by
  unfold State.issueHead; dsimp only; (repeat' split) <;> simp

@[simp] theorem State.tryIssue_memory (st : Nat) (row : Nat → Bool) : (s.tryIssue st row).memory = s.memory := by
  unfold State.tryIssue; (repeat' split) <;> simp

@[simp] theorem State.countEnd_memory (st : Nat) (c : Cmd) : (s.countEnd st c).memory = s.memory := by simp [State.countEnd, foldl_memory]
@[simp] theorem State.complete_memory (st : Nat) (c : Cmd) : (s.complete st c).memory = s.memory := by simp [State.complete]

@[simp] theorem State.replaySeek_memory (st : Nat) (r : Replay) (l : List W64) (i : Nat) : (s.replaySeek st r l i).memory = s.memory := by
  induction l generalizing s i with
  | nil => simp [State.replaySeek]
  | cons n l ih => unfold State.replaySeek; (repeat' split) <;> simp [ih]

@[simp] theorem State.reissue_memory (st : Nat) (q : StepRec) (k : LoggedCmd) : (s.reissue st q k).memory = s.memory := by
  simp [State.reissue]

@[simp] theorem State.replayNext_memory (st : Nat) (r : Replay) (q : StepRec) (k : LoggedCmd) :
    (s.replayNext st r q k).memory = s.memory := by
  simp [State.replayNext, apply_ite State.memory]

/-! ### Wardens and management -/

@[simp] theorem State.endUpdate_form (h : MemForm s.memory) : MemForm s.endUpdate.memory := by
  unfold State.endUpdate; dsimp only; split <;> simp [h]

@[simp] theorem State.showJunction_memory (d : Nat) : (s.showJunction d).memory = s.memory := by
  unfold State.showJunction; (repeat' split) <;> simp

@[simp] theorem State.spdmReply_memory (via : Nat) (error : Bool) (data : List Byte) : (s.spdmReply via error data).memory = s.memory := by
  rfl

@[simp] theorem State.setSpdm_memory (via n : Nat) : (s.setSpdm via n).memory = s.memory := by rfl

theorem State.spdm_memory (via need : Nat) {f : State → State} (keeps : ∀ u, (f u).memory = u.memory) :
    (s.spdm via need f).memory = s.memory := by
  simp [State.spdm, apply_ite State.memory, keeps]

@[simp] theorem State.markTrial_memory (c : Nat) : (s.markTrial c).memory = s.memory := by simp [State.markTrial, apply_ite State.memory]
@[simp] theorem State.leaveRecovery_memory : s.leaveRecovery.memory = s.memory := by simp [State.leaveRecovery]

/-! ### Mailboxes -/

@[simp] theorem State.mboxIgnore_memory (m : Nat) : (s.mboxIgnore m).memory = s.memory := by rfl

@[simp] theorem State.serve_memory (via : ReqVia) (op : Nat) (f : List Byte → W16 × List Byte) : (s.serve via op f).memory = s.memory := by
  unfold State.serve; dsimp only; (repeat' split) <;> simp

/-! ### Scrub, repair and the flume -/

@[simp] theorem State.poolExhausted_memory (n : Nat) : (s.poolExhausted n).memory = s.memory := by rfl

@[simp] theorem State.moveWords_form (h : MemForm s.memory) (ws : List Nat) : MemForm (s.moveWords ws).memory :=
  foldl_form (fun _ _ hu => State.setHbm_form (State.noteWord_form hu _) (Mem.correctWord_wf (State.noteWord_form hu _).1 _)) _ h

@[simp] theorem State.remapChannel_memory (n pc : Nat) : (s.remapChannel n pc).memory = s.memory := by
  simp [State.remapChannel, apply_ite State.memory]

@[simp] theorem State.remapBank_memory (n b : Nat) : (s.remapBank n b).memory = s.memory := by
  simp [State.remapBank, apply_ite State.memory]

@[simp] theorem State.repairRow_form (h : MemForm s.memory) (n b r : Nat) (how : RowRepair) : MemForm (s.repairRow n b r how).memory := by
  unfold State.repairRow; cases how <;> simp [h]

@[simp] theorem State.hbmRowFault_form (h : MemForm s.memory) (k : Nat) : MemForm (s.hbmRowFault k).memory := by
  unfold State.hbmRowFault; dsimp only; (repeat' split) <;> simp [h]

@[simp] theorem State.noteSymbol_memory (k pos : Nat) : (s.noteSymbol k pos).memory = s.memory := by
  simp [State.noteSymbol, apply_ite State.memory]

@[simp] theorem State.writeBack_form (h : MemForm s.memory) (b : WriteBack) : MemForm (s.writeBack b).memory := by
  have corrected := State.setHbm_form h (Mem.correctWord_wf (State.hbm_wf h) b.word)
  have poisoned := State.setHbm_form h (Mem.poison_wf (State.hbm_wf h) b.word)
  unfold State.writeBack
  dsimp only
  (repeat' split) <;> simp [corrected, poisoned, h]

@[simp] theorem State.wordFault_form (h : MemForm s.memory) (w : Nat) : MemForm (s.wordFault w).memory :=
  State.hbmRowFault_form (by simpa using h) _

@[simp] theorem State.controllersTurn_form (h : MemForm s.memory) : MemForm s.controllersTurn.memory := by
  unfold State.controllersTurn
  split
  · exact h
  · refine foldl_form (fun _ _ hu => State.wordFault_form hu _) _ ?_
    rw [foldl_memory _ (fun u f => by split <;> simp)]
    exact foldl_form (fun _ _ hu => State.writeBack_form hu _) _ (by simpa using h)

@[simp] theorem State.scrubHbmWord_memory (w : Nat) : (s.scrubHbmWord w).memory = s.memory := by
  unfold State.scrubHbmWord; (repeat' split) <;> simp

@[simp] theorem State.scrubProgress_memory (n : Nat) : (s.scrubProgress n).memory = s.memory := by
  simp [State.scrubProgress, apply_ite State.memory]

@[simp] theorem State.repairMove_form (h : MemForm s.memory) (n words : Nat) : MemForm (s.repairMove n words).memory := by
  unfold State.repairMove; dsimp only; (repeat' split) <;> simp [h]

@[simp] theorem State.setGate_memory (l g : Nat) (x : Gate) : (s.setGate l g x).memory = s.memory := by rfl
@[simp] theorem State.refill_memory (l g : Nat) : (s.refill l g).memory = s.memory := by simp [State.refill, apply_ite State.memory]

@[simp] theorem State.flumeTake_memory (l : Nat) (r : FlumeReq) (cls : Nat) : (s.flumeTake l r cls).memory = s.memory := by
  simp [State.flumeTake, apply_ite State.memory]

@[simp] theorem State.flumeArrive_memory (l : Nat) (rs : List FlumeReq) : (s.flumeArrive l rs).memory = s.memory := by rfl
@[simp] theorem State.refillGates_memory : s.refillGates.memory = s.memory := foldl_memory _ (fun u p => by split <;> simp) _ _

/-! ### Register writes -/

@[simp] theorem State.writeRstReq_form (h : MemForm s.memory) (l : LinkId) (v : W64) : MemForm (s.writeRstReq l v).memory := by
  unfold State.writeRstReq; dsimp only; (repeat' split) <;> simp [h]

@[simp] theorem State.writeMsix_memory (l : LinkId) (i : Nat) (m v : W64) : (s.writeMsix l i m v).memory = s.memory := by
  simp [State.writeMsix]

@[simp] theorem State.writeMboxCtrl_memory (k : Nat) (v : W64) : (s.writeMboxCtrl k v).memory = s.memory := by rfl

@[simp] theorem State.writeChu_memory (st o : Nat) (v : W64) : (s.writeChu st o v).memory = s.memory := by
  simp [State.writeChu, apply_ite State.memory]

@[simp] theorem State.writeBar0_form (h : MemForm s.memory) (l : LinkId) (o : Nat) (m v : W64) :
    MemForm (s.writeBar0 l o m v).memory := by
  unfold State.writeBar0; dsimp only; (repeat' split) <;> simp [h]

/-! ### Temperatures -/

@[simp] theorem State.settleZone_memory (z : Nat) : (s.settleZone z).memory = s.memory := by simp [State.settleZone, apply_ite State.memory]

/-! ### The tick -/

@[simp] theorem State.countCycles_memory (st : Nat) : (s.countCycles st).memory = s.memory := by simp [State.countCycles, foldl_memory]
@[simp] theorem State.zoneCycle_memory (z : Nat) : (s.zoneCycle z).memory = s.memory := by unfold State.zoneCycle; (repeat' split) <;> simp
@[simp] theorem State.portCycle_memory (p : Nat) : (s.portCycle p).memory = s.memory := by simp [State.portCycle, apply_ite State.memory]
@[simp] theorem State.finishResets_memory (st : Nat) : (s.finishResets st).memory = s.memory := by simp [State.finishResets, foldl_memory]

theorem tick_form (h : MemForm s.memory) : MemForm (tick s).memory := by
  unfold tick
  split
  · exact h
  · simp only [State.setClock_memory, State.refillGates_memory]
    refine State.controllersTurn_form ?_
    rw [foldl_memory _ (by simp), foldl_memory _ (by simp)]
    exact foldl_form (fun u st hu => by simp [hu]) _ h

end

end Sys2Proof.Machine
end

section
/-! MEMORY_FORM_KEPT: every command and the tick keep the canonical form of the stored bytes (spec/07 R165, R166). -/

namespace Sys2Proof.Machine

section
variable {s : State} (h : MemForm s.memory)
include h

/-! ### Chutes and result slots -/

@[simp] theorem execChuteWrite_formed (link : LinkId) (stand offset : Nat) (data : List Byte) :
    Formed (execChuteWrite link stand offset data s) := by
  simp [execChuteWrite, apply_ite State.memory, h]

@[simp] theorem execChutePtrMismatch_formed (stand : Nat) : Formed (execChutePtrMismatch stand s) := by
  simp [execChutePtrMismatch, apply_ite State.memory, h]

@[simp] theorem execDrop_formed (link : LinkId) (stand : Nat) : Formed (execDrop link stand s) := by
  simp [execDrop, apply_ite State.memory, h]

@[simp] theorem execResRelease_formed (link : LinkId) (stand slot : Nat) (gen : W16) : Formed (execResRelease link stand slot gen s) := by
  simp [execResRelease, apply_ite State.memory, h]

/-! ### Staging for background copies -/

@[simp] theorem execCopyAhead_formed (die stand block : Nat) : Formed (execCopyAhead die stand block s) := by
  simp [execCopyAhead, apply_ite State.memory, h]

/-! ### Matrix products -/

@[simp] theorem execMatmul_formed (stand ticket : Nat) : Formed (execMatmul stand ticket s) := by
  simp only [execMatmul, formed_next]
  (repeat' split) <;> simp [h]

@[simp] theorem execMatmulPlane_formed (stand ticket : Nat) : Formed (execMatmulPlane stand ticket s) := by
  simp only [execMatmulPlane, formed_next]
  (repeat' split) <;> simp [h]

/-! ### Vector operations -/

@[simp] theorem execVecop_formed (stand ticket : Nat) : Formed (execVecop stand ticket s) := by
  simp only [execVecop, formed_next]
  (repeat' split) <;> simp [State.onCores_memory, h]

/-! ### Row operations -/

@[simp] theorem execRowop_formed (stand ticket : Nat) : Formed (execRowop stand ticket s) := by
  simp only [execRowop, formed_next]
  (repeat' split) <;> simp [State.onCores_memory, h]

@[simp] theorem execTapTile_formed (stand ticket core tile : Nat) : Formed (execTapTile stand ticket core tile s) := by
  simp only [execTapTile, formed_next]
  (repeat' split) <;> simp [h]

/-! ### Host links -/

@[simp] theorem execPerstDeassert_formed (link : LinkId) : Formed (execPerstDeassert link s) := by
  simp [execPerstDeassert, apply_ite State.memory, h]

@[simp] theorem execHostLinkUp_formed (link : LinkId) : Formed (execHostLinkUp link s) := by
  simp [execHostLinkUp, apply_ite State.memory, h]

@[simp] theorem execHostLinkReset_formed (link : LinkId) (why : LinkEnd) : Formed (execHostLinkReset link why s) := by
  simp [execHostLinkReset, apply_ite State.memory, h]

@[simp] theorem execConfigRequest_formed (link : LinkId) (req : CfgReq) : Formed (execConfigRequest link req s) := by
  simp [execConfigRequest, apply_ite State.memory, h]

/-! ### Landing engines -/

@[simp] theorem execOptim_formed (stand ticket : Nat) : Formed (execOptim stand ticket s) := by
  simp only [execOptim, formed_next]
  split
  · exact h
  split
  · exact h
  split
  · next staged => exact State.optim_form (h.of_eq (State.stageFor_memory staged)) _ _ _
  · exact h

@[simp] theorem execAccum_formed (stand ticket : Nat) : Formed (execAccum stand ticket s) := by
  simp only [execAccum, formed_next]
  (repeat' split) <;> simp [h]

@[simp] theorem execDigest_formed (stand ticket : Nat) : Formed (execDigest stand ticket s) := by
  simp only [execDigest, formed_next]
  (repeat' split) <;> simp [h]

@[simp] theorem execSweep_formed (stand ticket : Nat) : Formed (execSweep stand ticket s) := by
  simp only [execSweep, formed_next]
  (repeat' split) <;> simp [h]

/-! ### Skidders -/

@[simp] theorem execMove_formed (stand ticket : Nat) : Formed (execMove stand ticket s) := by
  simp only [execMove, formed_next]
  (repeat' split) <;> simp [h]

@[simp] theorem execGather_formed (stand ticket : Nat) : Formed (execGather stand ticket s) := by
  simp only [execGather, formed_next]
  (repeat' split) <;> simp [h]

@[simp] theorem execWindow_formed (stand ticket : Nat) : Formed (execWindow stand ticket s) := by
  simp only [execWindow, formed_next]
  (repeat' split) <;> simp [h]

@[simp] theorem execScatterAdd_formed (stand ticket : Nat) : Formed (execScatterAdd stand ticket s) := by
  simp only [execScatterAdd, formed_next]
  (repeat' split) <;> simp [h]

/-! ### Reductions -/

@[simp] theorem execReductionPiece_formed (stand ticket : Nat) : Formed (execReductionPiece stand ticket s) := by
  simp only [execReductionPiece, formed_next]
  (repeat' split) <;> simp [h]

@[simp] theorem execLateWindowExpire_formed (stand ticket segment : Nat) : Formed (execLateWindowExpire stand ticket segment s) := by
  simp only [execLateWindowExpire, formed_next]
  (repeat' split) <;> simp [h]

@[simp] theorem execSegmentForm_formed (stand ticket segment : Nat) : Formed (execSegmentForm stand ticket segment s) := by
  simp only [execSegmentForm, formed_next]
  (repeat' split) <;> simp [h]

@[simp] theorem execReducePut_formed (port : Nat) (txn : Txn) : Formed (execReducePut port txn s) := by
  simp only [execReducePut, formed_next]
  split
  · exact h
  · next taken =>
    have kept := h.of_eq (State.takeRequest_memory taken)
    split
    · simpa using kept
    split
    · next staged => simpa using kept.of_eq (State.takeContrib_memory staged)
    · exact h

@[simp] theorem execReduce_formed (stand ticket : Nat) : Formed (execReduce stand ticket s) := by simp [execReduce, h]
@[simp] theorem execCollective_formed (stand ticket : Nat) : Formed (execCollective stand ticket s) := by simp [execCollective, h]

@[simp] theorem execDeliveryIntoG_formed (stand ticket : Nat) : Formed (execDeliveryIntoG stand ticket s) := by
  simp only [execDeliveryIntoG, formed_next]
  (repeat' split) <;> simp [h]

/-! ### Owner tables and PERMUTE -/

@[simp] theorem execOwnerLoad_formed (stand ticket : Nat) : Formed (execOwnerLoad stand ticket s) := by
  simp only [execOwnerLoad, formed_next]
  (repeat' split) <;> simp [h]

@[simp] theorem execPermuteMessage_formed (port : Nat) (txn : Txn) : Formed (execPermuteMessage port txn s) := by
  simp only [execPermuteMessage, formed_next]
  split
  · exact h
  · next taken =>
    have kept := h.of_eq (State.takeRequest_memory taken)
    split
    · simpa using kept
    split
    · next heard => simpa using kept.of_eq (State.takePerm_memory heard)
    · exact h

@[simp] theorem execPermute_formed (stand ticket : Nat) : Formed (execPermute stand ticket s) := by
  simp only [execPermute, formed_next]
  (repeat' split) <;> simp [h]

@[simp] theorem execPermuteClose_formed (stand ticket : Nat) : Formed (execPermuteClose stand ticket s) := by
  simp only [execPermuteClose, formed_next]
  (repeat' split) <;> simp [h]

/-! ### CHECKPOINT and RESTORE -/

@[simp] theorem execCheckpoint_formed (stand ticket : Nat) : Formed (execCheckpoint stand ticket s) := by
  simp only [execCheckpoint, formed_next]
  (repeat' split) <;> simp [h]

@[simp] theorem execBackgroundCopyRead_formed (stand : Nat) : Formed (execBackgroundCopyRead stand s) := by
  simp only [execBackgroundCopyRead, formed_next]
  (repeat' split) <;> simp [h]

@[simp] theorem execRestore_formed (stand ticket : Nat) : Formed (execRestore stand ticket s) := by
  simp only [execRestore, formed_next]
  split
  · next c _ =>
    split
    · simp [h]
    · cases ran : s.restRun stand { c with tStart := s.clock.now } (restArgs c.bytes) with
      | none => exact h
      | some u => exact State.restRun_form h ran
  · (repeat' split) <;> simp [h]

/-! ### COMMIT -/

@[simp] theorem execCommit_formed (stand ticket : Nat) : Formed (execCommit stand ticket s) := by
  simp only [execCommit, formed_next]
  (repeat' split) <;> simp [h]

@[simp] theorem execCommitPhase1End_formed (stand ticket : Nat) : Formed (execCommitPhase1End stand ticket s) := by
  simp only [execCommitPhase1End, formed_next]
  (repeat' split) <;> simp [h]

@[simp] theorem execLedgerSettled_formed (stand ticket : Nat) : Formed (execLedgerSettled stand ticket s) := by
  simp only [execLedgerSettled, formed_next]
  (repeat' split) <;> simp [h]

@[simp] theorem execCommitMessage_formed (stand : Nat) (msg : CommitMsg) : Formed (execCommitMessage stand msg s) := by
  simp only [execCommitMessage, formed_next]
  (repeat' split) <;> simp [h]

@[simp] theorem execCommitWaitExpire_formed (stand ticket : Nat) : Formed (execCommitWaitExpire stand ticket s) := by
  simp only [execCommitWaitExpire, formed_next]
  (repeat' split) <;> simp [foldl_memory, h]

@[simp] theorem execRollback_formed (due : RollbackDue) : Formed (execRollback due s) := by
  simp only [execRollback, formed_next]
  (repeat' split) <;> simp [foldl_memory, h]

/-! ### Lookout -/

@[simp] theorem execFencePeer_formed (stand ticket : Nat) : Formed (execFencePeer stand ticket s) := by
  simp only [execFencePeer, formed_next]
  (repeat' split) <;> simp [h]

@[simp] theorem execReadmit_formed (stand ticket : Nat) : Formed (execReadmit stand ticket s) := by
  simp only [execReadmit, formed_next]
  (repeat' split) <;> simp [h]

@[simp] theorem execFence_formed (port : Nat) (txn : Txn) : Formed (execFence port txn s) := by
  simp only [execFence, formed_next]
  split
  · exact h
  · next taken => split <;> simp [h.of_eq (State.takeRequest_memory taken)]

@[simp] theorem execHeartbeat_formed (port : Nat) (txn : Txn) : Formed (execHeartbeat port txn s) := by
  simp only [execHeartbeat, formed_next]
  split
  · exact h
  · next taken => simp [foldl_memory, h.of_eq (State.takeLink_memory taken)]

@[simp] theorem execHeartbeatSend_formed : Formed (execHeartbeatSend s) := by
  simp only [execHeartbeatSend, formed_next]
  (repeat' split) <;> simp [foldl_memory, h]

@[simp] theorem execPeerSilent_formed (stand : Nat) (device : W16) : Formed (execPeerSilent stand device s) := by
  simp only [execPeerSilent, formed_next]
  (repeat' split) <;> simp [h]

/-! ### Transactions received -/

@[simp] theorem execPut_formed (port : Nat) (txn : Txn) : Formed (execPut port txn s) := by
  simp only [execPut, formed_next]
  split
  · exact h
  · next taken =>
    have kept := h.of_eq (State.takeRequest_memory taken)
    split
    · simpa using kept
    split
    · split
      · next heard => simpa using State.takeCollective_form kept heard
      · exact h
    · split
      · next put => simpa using State.takePut_form kept put
      · exact h

@[simp] theorem execGet_formed (port : Nat) (txn : Txn) : Formed (execGet port txn s) := by
  simp only [execGet, formed_next]
  split
  · exact h
  · next taken => (repeat' split) <;> simp [h, h.of_eq (State.takeRequest_memory taken)]

@[simp] theorem execTxnResponse_formed (port : Nat) (txn : Txn) : Formed (execTxnResponse port txn s) := by
  simp only [execTxnResponse, formed_next]
  split
  · split
    · exact h
    · next taken => split <;> simp [h.of_eq (State.takeRx_memory taken)]
  · exact h

@[simp] theorem execTxnTimeout_formed (stand tag : Nat) : Formed (execTxnTimeout stand tag s) := by
  simp only [execTxnTimeout, formed_next]
  (repeat' split) <;> simp [h]

@[simp] theorem execTransitForward_formed (port : Nat) (txn : Txn) : Formed (execTransitForward port txn s) := by
  simp only [execTransitForward, formed_next]
  split
  · split
    · next taken => (repeat' split) <;> simp [h, h.of_eq (State.takeRx_memory taken)]
    · exact h
  · exact h

@[simp] theorem execTime_formed (port : Nat) (txn : Txn) : Formed (execTime port txn s) := by
  simp only [execTime, formed_next]
  split
  · exact h
  · next taken => simp [h.of_eq (State.takeLink_memory taken)]

@[simp] theorem execTimeExchange_formed : Formed (execTimeExchange s) := by simp [execTimeExchange, apply_ite State.memory, h]

@[simp] theorem execTimeResponse_formed (port : Nat) (txn : Txn) : Formed (execTimeResponse port txn s) := by
  simp only [execTimeResponse, formed_next]
  split
  · exact h
  · next taken => split <;> simp [h.of_eq (State.takeLink_memory taken)]

@[simp] theorem execTimeSlew_formed : Formed (execTimeSlew s) := by simp [execTimeSlew, apply_ite State.memory, h]

/-! ### Ports and bonds -/

@[simp] theorem execNak_formed (port ack : Nat) : Formed (execNak port ack s) := by simp [execNak, apply_ite State.memory, h]

@[simp] theorem execRetryTimeout_formed (port : Nat) : Formed (execRetryTimeout port s) := by
  simp [execRetryTimeout, apply_ite State.memory, h]

@[simp] theorem execSubst_formed (port lane : Nat) : Formed (execSubst port lane s) := by simp [execSubst, apply_ite State.memory, h]

@[simp] theorem execLaneMarkerReceive_formed (port lane : Nat) : Formed (execLaneMarkerReceive port lane s) := by
  simp [execLaneMarkerReceive, apply_ite State.memory, h]

@[simp] theorem execDegrade_formed (request : DegradeReq) : Formed (execDegrade request s) := by
  simp [execDegrade, apply_ite State.memory, h]

@[simp] theorem execPortDown_formed (port : Nat) : Formed (execPortDown port s) := by
  simp only [execPortDown, formed_next]
  (repeat' split) <;> simp [h]

@[simp] theorem execLaneFailing_formed (port lane : Nat) (codewords : Bool) : Formed (execLaneFailing port lane codewords s) := by
  simp only [execLaneFailing, formed_next]
  (repeat' split) <;> simp [h]

@[simp] theorem execPortTrainingStart_formed (port : Nat) : Formed (execPortTrainingStart port s) := by
  simp [execPortTrainingStart, apply_ite State.memory, h]

@[simp] theorem execPortTrained_formed (port healthy : Nat) : Formed (execPortTrained port healthy s) := by
  simp only [execPortTrained, formed_next]
  (repeat' split) <;> simp [h]

@[simp] theorem execTrainingTimeout_formed (port : Nat) : Formed (execTrainingTimeout port s) := by
  simp only [execTrainingTimeout, formed_next]
  (repeat' split) <;> simp [h]

@[simp] theorem execHello_formed (port : Nat) (device : W16) (peerPort : Nat) : Formed (execHello port device peerPort s) := by
  simp [execHello, apply_ite State.memory, h]

@[simp] theorem execReady_formed (port : Nat) : Formed (execReady port s) := by simp [execReady, apply_ite State.memory, h]

@[simp] theorem execRampDoubling_formed (port : Nat) : Formed (execRampDoubling port s) := by
  simp [execRampDoubling, apply_ite State.memory, h]

@[simp] theorem execLock_formed (bond : Nat) (lags : List (Nat × Nat)) : Formed (execLock bond lags s) := by
  simp [execLock, apply_ite State.memory, h]

@[simp] theorem execLockRemeasure_formed (bond : Nat) : Formed (execLockRemeasure bond s) := by
  simp only [execLockRemeasure, formed_next]
  (repeat' split) <;> simp [foldl_memory, h]

/-! ### BAR4 -/

@[simp] theorem execBar4Read_formed (link : LinkId) (offset count : Nat) : Formed (execBar4Read link offset count s) := by
  simp only [execBar4Read, formed_next]
  (repeat' split) <;> simp [h]

@[simp] theorem execBar4Write_formed (link : LinkId) (offset : Nat) (data : List Byte) : Formed (execBar4Write link offset data s) := by
  simp only [execBar4Write, formed_next]
  (repeat' split) <;> simp [h]

/-! ### Power -/

@[simp] theorem execPowerGood_formed : Formed (execPowerGood s) := by
  simp only [execPowerGood, formed_next]
  (repeat' split) <;> simp [h]

@[simp] theorem execInputOutOfRange_formed (millivolts : Int) : Formed (execInputOutOfRange millivolts s) := by
  unfold execInputOutOfRange
  split
  · simp
  · rw [formed_next]
    split <;> simp [h]

@[simp] theorem execDomainSwitchOn_formed (pd : Nat) : Formed (execDomainSwitchOn pd s) := by
  simp [execDomainSwitchOn, apply_ite State.memory, h]

@[simp] theorem execDomainRegulationTimeout_formed (pd : Nat) : Formed (execDomainRegulationTimeout pd s) := by
  simp [execDomainRegulationTimeout, apply_ite State.memory, h]

@[simp] theorem execPhaseFault_formed (pd phase : Nat) : Formed (execPhaseFault pd phase s) := by
  simp [execPhaseFault, apply_ite State.memory, h]

@[simp] theorem execLimiterWindow_formed (watts : Nat) (amps : List (Nat × Nat)) : Formed (execLimiterWindow watts amps s) := by
  simp [execLimiterWindow, apply_ite State.memory, h]

@[simp] theorem execFastLimit_formed (amps : Nat) : Formed (execFastLimit amps s) := by simp [execFastLimit, apply_ite State.memory, h]

@[simp] theorem execThermtrip_formed (isStack : Bool) (_unit : Nat) (celsius : ℤ) : Formed (execThermtrip isStack _unit celsius s) := by
  simp only [execThermtrip, formed_next]
  (repeat' split) <;> simp [h]

@[simp] theorem execPwrCycleReqTimeout_formed : Formed (execPwrCycleReqTimeout s) := by
  simp only [execPwrCycleReqTimeout, formed_next]
  (repeat' split) <;> simp [h]

@[simp] theorem execSleep_formed : Formed (execSleep s) := by
  simp only [execSleep, formed_next]
  (repeat' split) <;> simp [h]

@[simp] theorem execWake_formed (sleepN : Bool) : Formed (execWake sleepN s) := by
  simp only [execWake, formed_next]
  (repeat' split) <;> simp [h]

@[simp] theorem execStandbyPowerLoss_formed : Formed (execStandbyPowerLoss s) := by simp [execStandbyPowerLoss, h]

@[simp] theorem execClockMonitorExcursion_formed (die : Option Nat) : Formed (execClockMonitorExcursion die s) := by
  simp [execClockMonitorExcursion, apply_ite State.memory, h]

@[simp] theorem execClockRecovered_formed : Formed (execClockRecovered s) := by simp [execClockRecovered, apply_ite State.memory, h]

@[simp] theorem execVoltageMonitorExcursion_formed (pd : Nat) (lasted : Bool) : Formed (execVoltageMonitorExcursion pd lasted s) := by
  simp [execVoltageMonitorExcursion, apply_ite State.memory, h]

@[simp] theorem execTempMonitorExcursion_formed (die : Nat) (celsius : ℤ) : Formed (execTempMonitorExcursion die celsius s) := by
  simp [execTempMonitorExcursion, apply_ite State.memory, h]

/-! ### Resets -/

@[simp] theorem execSampleBoxExpire_formed (stand sampled : Nat) : Formed (execSampleBoxExpire stand sampled s) := by
  simp [execSampleBoxExpire, apply_ite State.memory, h]

@[simp] theorem execContextResetRequest_formed (link : LinkId) (stand context : Nat) :
    Formed (execContextResetRequest link stand context s) := by
  simp only [execContextResetRequest, formed_next]
  (repeat' split) <;> simp [h]

@[simp] theorem execStandResetRequest_formed (link : LinkId) (stand : Nat) : Formed (execStandResetRequest link stand s) := by
  simp [execStandResetRequest, apply_ite State.memory, h]

@[simp] theorem execHeadDiscard_formed (stand : Nat) : Formed (execHeadDiscard stand s) := by
  simp only [execHeadDiscard, formed_next]
  (repeat' split) <;> simp [h]

@[simp] theorem execRungTimeout_formed (stand : Nat) : Formed (execRungTimeout stand s) := by
  simp only [execRungTimeout, formed_next]
  (repeat' split) <;> simp [h]

@[simp] theorem execStandReset_formed (stand : Nat) : Formed (execStandReset stand s) := by
  simp only [execStandReset, formed_next]
  (repeat' split) <;> simp [h]

/-! ### Start-up -/

@[simp] theorem execChipResetTimer_formed : Formed (execChipResetTimer s) := by simp [execChipResetTimer, apply_ite State.memory, h]
@[simp] theorem execDeadlineTimer_formed : Formed (execDeadlineTimer s) := by simp [execDeadlineTimer, apply_ite State.memory, h]
@[simp] theorem execDeadlineRearm_formed : Formed (execDeadlineRearm s) := by simp [execDeadlineRearm, apply_ite State.memory, h]

@[simp] theorem execChipReset_formed (scan : List (Nat × Bool)) : Formed (execChipReset scan s) := by
  simp only [execChipReset, formed_next]
  (repeat' split) <;> simp [h]

@[simp] theorem execMaskRomBoot_formed (puf : Nat) (sigA sigB : SigRead) : Formed (execMaskRomBoot puf sigA sigB s) := by
  simp only [execMaskRomBoot, formed_next]
  (repeat' split) <;> simp [h]

@[simp] theorem execImageVerify_formed (readA readB : Bool) (sigA sigB : SigRead) (missing : List Nat) (scan : List (Nat × Bool))
    (library : SigRead) :
    Formed (execImageVerify readA readB sigA sigB missing scan library s) := by
  simp only [execImageVerify, formed_next]
  (repeat' split) <;> simp [h]

@[simp] theorem execHbmTrained_formed (failed : List Nat) : Formed (execHbmTrained failed s) := by
  have zeroed := fun u : State => fun hu : MemForm u.memory => State.setHbm_form hu Mem.empty_wf
  simp only [execHbmTrained, formed_next]
  (repeat' split) <;> simp [foldl_memory, zeroed, h]

@[simp] theorem execStandsReady_formed : Formed (execStandsReady s) := by simp [execStandsReady, apply_ite State.memory, h]

/-! ### Checked tiles -/

@[simp] theorem execScalerCheck_formed (stand ticket : Nat) (tile : TileCheck) : Formed (execScalerCheck stand ticket tile s) := by
  simp only [execScalerCheck, formed_next]
  (repeat' split) <;> simp [h]

@[simp] theorem execRecompute_formed (stand ticket : Nat) (devs : List Deviation) : Formed (execRecompute stand ticket devs s) := by
  simp only [execRecompute, formed_next]
  (repeat' split) <;> simp [h]

@[simp] theorem execColumnRemap_formed (array column : Nat) : Formed (execColumnRemap array column s) := by
  simp [execColumnRemap, apply_ite State.memory, h]

/-! ### Cruise -/

@[simp] theorem execLaneReexecution_formed (unit : LaneUnit) (lane : Nat) (again : Option (LanePlace × BitVec 128)) (stand ticket : Nat) :
    Formed (execLaneReexecution unit lane again stand ticket s) := by
  simp only [execLaneReexecution, formed_next]
  (repeat' split) <;> simp [h]

@[simp] theorem execCoreHandover_formed (cluster logical : Nat) (toSpare : Bool) : Formed (execCoreHandover cluster logical toSpare s) := by
  simp [execCoreHandover, apply_ite State.memory, h]

@[simp] theorem execCruiseStep_formed (cluster : Nat) : Formed (execCruiseStep cluster s) := by
  simp [execCruiseStep, apply_ite State.memory, h]

@[simp] theorem execCruiseRunEnd_formed (passed : Bool) : Formed (execCruiseRunEnd passed s) := by
  simp only [execCruiseRunEnd, formed_next]
  (repeat' split) <;> simp [h]

@[simp] theorem execCruiseOverdue_formed (core : Nat) : Formed (execCruiseOverdue core s) := by
  simp [execCruiseOverdue, apply_ite State.memory, h]

@[simp] theorem execLandingCruise_formed (die engine : Nat) (passed : Option Bool) : Formed (execLandingCruise die engine passed s) := by
  simp only [execLandingCruise, formed_next]
  (repeat' split) <;> simp [h]

@[simp] theorem execSramScrub_formed (store : SramStore) (word macro_ row : Nat) : Formed (execSramScrub store word macro_ row s) := by
  simp [execSramScrub, apply_ite State.memory, h]

@[simp] theorem execCaptureCopy_formed (index : Nat) : Formed (execCaptureCopy index s) := by
  simp only [execCaptureCopy, formed_next]
  (repeat' split) <;> simp [h]

@[simp] theorem execWearLedgerWrite_formed : Formed (execWearLedgerWrite s) := by
  simp only [execWearLedgerWrite, formed_next]
  (repeat' split) <;> exact h

@[simp] theorem execLedgerCompact_formed : Formed (execLedgerCompact s) := by simp [execLedgerCompact, apply_ite State.memory, h]

/-! ### Flits -/

@[simp] theorem execFlitReceive_formed (port : Nat) (flit : RxFlit) : Formed (execFlitReceive port flit s) := by
  simp only [execFlitReceive, formed_next]
  (repeat' split) <;> simp [h]

@[simp] theorem execEgressArbitrate_formed (port : Nat) : Formed (execEgressArbitrate port s) := by
  simp [execEgressArbitrate, apply_ite State.memory, h]

/-! ### Die-link flits -/

@[simp] theorem execDieLinkFlit_formed (die port : Nat) (waiting : List DieFlit) (checkOk : Bool) :
    Formed (execDieLinkFlit die port waiting checkOk s) := by
  simp only [execDieLinkFlit, formed_next]
  (repeat' split) <;> simp [h]

@[simp] theorem execDieLinkLaneFail_formed (die port lane : Nat) : Formed (execDieLinkLaneFail die port lane s) := by
  simp only [execDieLinkLaneFail, formed_next]
  (repeat' split) <;> simp [h]

/-! ### Issue -/

@[simp] theorem execHeaderRefusal_formed (stand : Nat) : Formed (execHeaderRefusal stand s) := by
  simp only [execHeaderRefusal, formed_next]
  (repeat' split) <;> simp [h]

@[simp] theorem execCommandIssue_formed (stand : Nat) : Formed (execCommandIssue stand s) := by simp [execCommandIssue, h]
@[simp] theorem execStepBegin_formed (stand : Nat) : Formed (execStepBegin stand s) := by simp [execStepBegin, h]
@[simp] theorem execStepEnd_formed (stand : Nat) : Formed (execStepEnd stand s) := by simp [execStepEnd, h]
@[simp] theorem execEvent_formed (stand : Nat) : Formed (execEvent stand s) := by simp [execEvent, h]
@[simp] theorem execResult_formed (stand : Nat) : Formed (execResult stand s) := by simp [execResult, h]
@[simp] theorem execNop_formed (stand : Nat) : Formed (execNop stand s) := by simp [execNop, h]

@[simp] theorem execCommandComplete_formed (stand ticket : Nat) : Formed (execCommandComplete stand ticket s) := by
  simp only [execCommandComplete, formed_next]
  (repeat' split) <;> simp [h]

@[simp] theorem execReplayIssue_formed (stand : Nat) : Formed (execReplayIssue stand s) := by
  simp only [execReplayIssue, formed_next]
  (repeat' split) <;> simp [h]

/-! ### Wardens and management -/

@[simp] theorem execLockstepMismatch_formed : Formed (execLockstepMismatch s) := by simp [execLockstepMismatch, apply_ite State.memory, h]

@[simp] theorem execWardenTakeover_formed : Formed (execWardenTakeover s) := by
  simp only [execWardenTakeover, formed_next]
  (repeat' split) <;> simp [h]

@[simp] theorem execStandbyFault_formed : Formed (execStandbyFault s) := by simp [execStandbyFault, apply_ite State.memory, h]

@[simp] theorem execEventLogCopy_formed : Formed (execEventLogCopy s) := by
  simp only [execEventLogCopy, formed_next]
  (repeat' split) <;> simp [h]

@[simp] theorem execSensorSample_formed (sensor : Nat) (reading : ℤ) : Formed (execSensorSample sensor reading s) := by
  simp [execSensorSample, apply_ite State.memory, h]

@[simp] theorem execEntdaa_formed (address : Nat) : Formed (execEntdaa address s) := by simp [execEntdaa, apply_ite State.memory, h]

@[simp] theorem execMctpControlMessage_formed (code : Nat) (data : List Byte) : Formed (execMctpControlMessage code data s) := by
  simp [execMctpControlMessage, apply_ite State.memory, h]

@[simp] theorem execGetCertificate_formed (via slot offset length : Nat) : Formed (execGetCertificate via slot offset length s) := by
  simp only [execGetCertificate, formed_next]
  rw [State.spdm_memory via 3 (fun u => by (repeat' split) <;> simp)]
  exact h

@[simp] theorem execChallenge_formed (via : Nat) (nonce : List Byte) : Formed (execChallenge via nonce s) := by
  simp only [execChallenge, formed_next]
  rw [State.spdm_memory via 3 (fun u => by (repeat' split) <;> simp)]
  exact h

@[simp] theorem execGetMeasurements_formed (via index : Nat) (signed : Bool) (nonce : List Byte) :
    Formed (execGetMeasurements via index signed nonce s) := by
  simp only [execGetMeasurements, formed_next]
  rw [State.spdm_memory via 3 (fun u => by (repeat' split) <;> simp)]
  exact h

@[simp] theorem execSpdmNegotiation_formed (via code : Nat) (data : List Byte) : Formed (execSpdmNegotiation via code data s) := by
  simp only [execSpdmNegotiation, formed_next]
  (repeat' split) <;> rw [State.spdm_memory _ _ (fun u => by simp)] <;> exact h

@[simp] theorem execRequestUpdate_formed (via : Nat) : Formed (execRequestUpdate via s) := by
  simp [execRequestUpdate, apply_ite State.memory, h]

@[simp] theorem execUpdateTransfer_formed (via component offset : Nat) (data : List Byte) :
    Formed (execUpdateTransfer via component offset data s) := by
  have flushed : MemForm (s.flushFlash.markTrial component).memory := by simpa using h
  simp only [execUpdateTransfer, formed_next]
  split
  · simpa using State.setFlash_form flushed (Flash.write_form flushed.2 _ _)
  · exact h

@[simp] theorem execVerifyComplete_formed (via component : Nat) (sig : SigRead) : Formed (execVerifyComplete via component sig s) := by
  simp [execVerifyComplete, apply_ite State.memory, h]

@[simp] theorem execActivateFirmware_formed (via : Nat) : Formed (execActivateFirmware via s) := by
  simp only [execActivateFirmware, formed_next]
  (repeat' split) <;> simp [foldl_memory, h]

/-! ### Mailboxes -/

@[simp] theorem execMailboxWrite_formed (link : LinkId) (mbox offset : Nat) (data : List Byte) :
    Formed (execMailboxWrite link mbox offset data s) := by
  simp [execMailboxWrite, apply_ite State.memory, h]

@[simp] theorem execMailboxAbort_formed (link : LinkId) (mbox : Nat) : Formed (execMailboxAbort link mbox s) := by
  simp [execMailboxAbort, apply_ite State.memory, h]

@[simp] theorem execMailboxRelease_formed (link : LinkId) (mbox : Nat) (gen : W16) : Formed (execMailboxRelease link mbox gen s) := by
  simp [execMailboxRelease, apply_ite State.memory, h]

@[simp] theorem execLogRead_formed (via : ReqVia) : Formed (execLogRead via s) := by simp [execLogRead, h]
@[simp] theorem execLedgerRead_formed (via : ReqVia) : Formed (execLedgerRead via s) := by simp [execLedgerRead, h]
@[simp] theorem execSampleRead_formed (via : ReqVia) : Formed (execSampleRead via s) := by simp [execSampleRead, h]
@[simp] theorem execCaptureRead_formed (via : ReqVia) : Formed (execCaptureRead via s) := by simp [execCaptureRead, h]
@[simp] theorem execRouteRead_formed (via : ReqVia) : Formed (execRouteRead via s) := by simp [execRouteRead, h]
@[simp] theorem execSensorRead_formed (via : ReqVia) : Formed (execSensorRead via s) := by simp [execSensorRead, h]
@[simp] theorem execCertRead_formed (via : ReqVia) : Formed (execCertRead via s) := by simp [execCertRead, h]
@[simp] theorem execPldm_formed (via : ReqVia) : Formed (execPldm via s) := by simp [execPldm, h]
@[simp] theorem execVariantRead_formed (via : ReqVia) : Formed (execVariantRead via s) := by simp [execVariantRead, h]

/-! ### Scrub, repair and the flume -/

@[simp] theorem execHbmScrub_formed (die block : Nat) : Formed (execHbmScrub die block s) := by
  simp only [execHbmScrub, formed_next]
  (repeat' split) <;> simp [foldl_memory, h]

@[simp] theorem execRepairMove_formed (stack words : Nat) : Formed (execRepairMove stack words s) := by
  simp only [execRepairMove, formed_next]
  (repeat' split) <;> simp [h]

@[simp] theorem execFlumeGrant_formed (die : Nat) (turn : FlumeSlot) : Formed (execFlumeGrant die turn s) := by
  simp only [execFlumeGrant, formed_next]
  (repeat' split) <;> simp [h]

@[simp] theorem execFlumeBurstSample_formed (die gate burstBytes : Nat) (busy : Bool) :
    Formed (execFlumeBurstSample die gate burstBytes busy s) := by
  simp [execFlumeBurstSample, apply_ite State.memory, h]

/-! ### Register writes -/

@[simp] theorem execRegisterWrite_formed (link : LinkId) (offset width : Nat) (value : W64) :
    Formed (execRegisterWrite link offset width value s) := by
  simp only [execRegisterWrite, formed_next]
  (repeat' split) <;> simp [h]

/-! ### Temperatures -/

@[simp] theorem execStackTempSample_formed (stack celsius : Nat) : Formed (execStackTempSample stack celsius s) := by
  simp [execStackTempSample, apply_ite State.memory, h]

@[simp] theorem execThrottleStepLeave_formed (stack : Nat) : Formed (execThrottleStepLeave stack s) := by
  simp [execThrottleStepLeave, apply_ite State.memory, h]

@[simp] theorem execRefreshRateRestore_formed (stack : Nat) : Formed (execRefreshRateRestore stack s) := by
  simp [execRefreshRateRestore, apply_ite State.memory, h]

@[simp] theorem execThermalPredictorSample_formed (zone : Nat) : Formed (execThermalPredictorSample zone s) := by
  simp only [execThermalPredictorSample, formed_next]
  (repeat' split) <;> simp [h]

@[simp] theorem execJunctionHoldRelease_formed (die : Nat) : Formed (execJunctionHoldRelease die s) := by
  simp [execJunctionHoldRelease, apply_ite State.memory, h]

@[simp] theorem execMonitorBackInRange_formed (kind unit : Nat) : Formed (execMonitorBackInRange kind unit s) := by
  simp [execMonitorBackInRange, apply_ite State.memory, h]

@[simp] theorem execHbmRefresh_formed (stack : Nat) : Formed (execHbmRefresh stack s) := by simp [execHbmRefresh, apply_ite State.memory, h]

@[simp] theorem execLinkRecalibration_formed (_kind _unit : Nat) : Formed (execLinkRecalibration _kind _unit s) := by
  simp [execLinkRecalibration, h]

/-! ### Watchdogs -/

@[simp] theorem execEngineWatchdog_formed (stand : Nat) (engine : EngineId) : Formed (execEngineWatchdog stand engine s) := by
  simp only [execEngineWatchdog, formed_next]
  (repeat' split) <;> simp [h]

@[simp] theorem execWaitWatchdog_formed (stand : Nat) : Formed (execWaitWatchdog stand s) := by
  simp only [execWaitWatchdog, formed_next]
  (repeat' split) <;> simp [h]

end

/-- Every command keeps the form: `exec` is the command's own meaning, and each has its lemma. -/
theorem exec_formed {s : State} (h : MemForm s.memory) (c : Instr) : Formed (exec c s) := by
  cases c <;> simp [exec, h]

/-- Settles O6: the front command acts on a state with the same stored bytes, and an empty queue is a tick. -/
theorem memoryFormKept : Obligations.MemoryFormKept := by
  unfold Obligations.MemoryFormKept
  refine ⟨fun s t hbm flash ran => ?_, rfl, rfl⟩
  have h : MemForm s.memory := ⟨hbm, flash⟩
  unfold step at ran
  split at ran
  · obtain rfl := Host.Outcome.next.inj ran
    exact tick_form h
  · next c cs _ => exact exec_formed (s := s.setPending cs) h c t ran

end Sys2Proof.Machine
end

section
/-! Stack temperatures, refresh and the thermal predictor (spec/07 R180, R184, spec/16 R405): a zone's step is settled from its stacks'
steps and its landing die's hold, and the predictor's sample is `Zone.sample`. -/

namespace Sys2Proof.Machine

/-! ### Stacks and zones -/

section
variable (s : State)

@[simp] theorem State.setZone_zone (z : Nat) (x : Zone) : (s.setZone z x).zone z = x := Tab.get_set_same _ _ _ _

@[simp] theorem State.setStack_stack (n : Nat) (x : StackSt) : (s.setStack n x).stack n = x := Tab.get_set_same _ _ _ _

@[simp] theorem State.event_zone (code unit data z : Nat) : (s.event code unit data).zone z = s.zone z := rfl

@[simp] theorem State.countModule_zone (c z : Nat) : (s.countModule c).zone z = s.zone z := rfl

theorem State.stack_congr {t : State} (h : t.mem = s.mem) (n : Nat) : t.stack n = s.stack n := by rw [State.stack, State.stack, h]

theorem State.hottest_congr {t : State} (h : t.mem = s.mem) (z : Nat) : t.hottest z = s.hottest z := by
  simp only [State.hottest, State.stack_congr s h]

theorem State.zoneBase_congr {t : State} (h : t.mem = s.mem) (hd : t.dies = s.dies) (z : Nat) : t.zoneBase z = s.zoneBase z := by
  have hold : t.die (18 + z) = s.die (18 + z) := by rw [State.die, State.die, hd]
  simp only [State.zoneBase, State.stack_congr s h, hold]

/-! ### A zone settled anew -/

/-- The zone alone changes, with an event or none: it shows its hottest stack, and its step is what its stacks and hold ask for, or an
early step above that. -/
theorem State.settleZone_cases (z : Nat) : ∃ y : Zone, y.tz = s.hottest z ∧ s.zoneBase z ≤ y.step ∧
    (s.settleZone z = s.setZone z y ∨ s.settleZone z = (s.setZone z y).event 0x0030 z y.step) := by
  unfold State.settleZone
  extract_lets x b keep y t
  refine ⟨y, rfl, ?_, ?_⟩
  · change b ≤ if keep then x.step else b
    split
    · next early => exact (of_decide_eq_true (Bool.and_eq_true_iff.1 early).2).le
    · exact le_rfl
  · split
    · exact .inl rfl
    · exact .inr rfl

@[simp] theorem State.settleZone_mem (z : Nat) : (s.settleZone z).mem = s.mem := by
  obtain ⟨y, -, -, e | e⟩ := s.settleZone_cases z <;> rw [e] <;> rfl

@[simp] theorem State.settleZone_dies (z : Nat) : (s.settleZone z).dies = s.dies := by
  obtain ⟨y, -, -, e | e⟩ := s.settleZone_cases z <;> rw [e] <;> rfl

@[simp] theorem State.settleZone_stands (z : Nat) : (s.settleZone z).stands = s.stands := by
  obtain ⟨y, -, -, e | e⟩ := s.settleZone_cases z <;> rw [e] <;> rfl

@[simp] theorem State.settleZone_hbm (z : Nat) : (s.settleZone z).hbm = s.hbm := congrArg Prod.fst (State.settleZone_memory (s := s) z)

@[simp] theorem State.settleZone_stack (z n : Nat) : (s.settleZone z).stack n = s.stack n := State.stack_congr s (s.settleZone_mem z) n

theorem State.settleZone_zone (z : Nat) : ((s.settleZone z).zone z).tz = s.hottest z ∧ s.zoneBase z ≤ ((s.settleZone z).zone z).step := by
  obtain ⟨y, tz, step, e | e⟩ := s.settleZone_cases z <;> rw [e] <;> simp [tz, step]

end

/-! ### The predictor -/

section
variable (x : Zone) (tz : Nat)

@[simp] theorem Zone.sample_step : (x.sample tz).step = x.step := by
  unfold Zone.sample
  split <;> rfl

theorem Zone.sample_samples_le : (x.sample tz).samples ≤ max 32 x.samples := by
  unfold Zone.sample
  split
  · exact le_max_right _ _
  · exact (min_le_left _ _).trans (le_max_left _ _)

/-- A predictor that has fewer than 32 samples enters no step early (spec/16 R405). -/
theorem Zone.predicts_unseasoned (h : x.samples < 32) : x.predicts = none := by
  simp [Zone.predicts, h]

/-- A step entered early is one of 1 to 3, and above the zone's. -/
theorem Zone.predicts_some {k : Nat} (h : x.predicts = some k) : x.step < k ∧ k ≤ 3 := by
  unfold Zone.predicts at h
  split at h
  · cases h
  split at h
  · next early =>
    split at h
    · next near =>
      cases h
      unfold earlyStep at early
      simp only at early
      split at early
      · next range =>
        cases early
        exact ⟨near.2, range.1⟩
      · cases early
    · cases h
  · cases h

end

/-! ### The commands -/

section
variable {s : State}

/-- A readout of a stack that the module has (spec/07 R184, R180). -/
theorem exec_stackTempSample {n c : Nat} (hn : n < s.variant.stacks) (alive : s.alive = true) (hc : c < 256) :
    exec (.stackTempSample n c) s = .next ((s.setStack n { s.stack n with
      temp := c
      step := max (s.stack n).step (tempStep c)
      refresh2x := (s.stack n).refresh2x || decide (95 ≤ c) }).settleZone (n / 4)) := by
  simp [exec, execStackTempSample, hn, alive, Nat.mod_eq_of_lt hc]

/-- Whatever becomes of its zone's early step, a stack that leaves its step is one lower, and no memory, stand or die changes. -/
theorem exec_throttleStepLeave {n : Nat} (above : 0 < (s.stack n).step) (cool : (s.stack n).temp + 3 ≤ stepThreshold (s.stack n).step) :
    ∃ t, exec (.throttleStepLeave n) s = .next t ∧ (t.stack n).step = (s.stack n).step - 1 ∧ t.hbm = s.hbm ∧ t.stands = s.stands ∧
      t.dies = s.dies := by
  refine ⟨_, rfl, ?_⟩
  simp only [above, cool, decide_true, Bool.and_self, if_true, State.settleZone_stack, State.settleZone_hbm, State.settleZone_stands,
    State.settleZone_dies]
  split
  · exact ⟨congrArg StackSt.step (State.setStack_stack s n _), rfl, rfl, rfl⟩
  · exact ⟨congrArg StackSt.step (State.setStack_stack s n _), rfl, rfl, rfl⟩

variable {z : Nat} (hz : z < s.variant.zones) (alive : s.alive = true)
include hz alive

/-- A sample after which the predictor expects no threshold only moves the predictor. -/
theorem exec_thermalPredictorSample_none (none : ((s.zone z).sample (s.hottest z)).predicts = none) :
    exec (.thermalPredictorSample z) s = .next (s.setZone z ((s.zone z).sample (s.hottest z))) := by
  simp [exec, execThermalPredictorSample, hz, alive, none]

theorem exec_thermalPredictorSample_some {k : Nat} (some : ((s.zone z).sample (s.hottest z)).predicts = some k) :
    exec (.thermalPredictorSample z) s = .next (((s.setZone z
      { (s.zone z).sample (s.hottest z) with step := k, early := true }).countModule cThmEarlyStep).event 0x0030 z k) := by
  simp [exec, execThermalPredictorSample, hz, alive, some]

end

/-- Settles O14: the zone is what `State.settleZone` leaves, and a step is entered early only as `Zone.predicts` says. -/
theorem stackTemperatures : Obligations.StackTemperatures := by
  unfold Obligations.StackTemperatures
  refine ⟨fun s n c hn alive hc => ?_, fun s n above cool => exec_throttleStepLeave above cool, fun s n cool => ?_, fun s n trained => ?_,
    fun s k u => rfl, fun s z o hz alive last fewer => ?_, fun s z hz alive => ?_⟩
  · refine ⟨_, exec_stackTempSample hn alive hc, ?_⟩
    generalize hu : s.setStack n _ = u
    have settled := u.settleZone_zone (n / 4)
    rw [State.hottest_congr u (u.settleZone_mem _), State.zoneBase_congr u (u.settleZone_mem _) (u.settleZone_dies _),
      State.settleZone_stack, State.settleZone_hbm, State.settleZone_stands, State.settleZone_dies]
    subst hu
    rw [State.setStack_stack]
    exact ⟨rfl, rfl, rfl, settled.1, settled.2, rfl, rfl, rfl⟩
  · simp [exec, execRefreshRateRestore, cool]
  · simp [exec, execHbmRefresh, trained]
  · have sampled : ((s.zone z).sample (s.hottest z)).samples = (s.zone z).samples + 1 := by
      simp only [Zone.sample, last]
      omega
    refine ⟨_, exec_thermalPredictorSample_none hz alive (Zone.predicts_unseasoned _ (by omega)), ?_⟩
    simp only [State.setZone_zone]
    exact ⟨by simp only [Zone.sample, last], sampled, by simp, by simp only [Zone.sample, last], by simp only [Zone.sample, last],
      rfl, rfl, rfl, rfl⟩
  · have most := (s.zone z).sample_samples_le (s.hottest z)
    cases hp : ((s.zone z).sample (s.hottest z)).predicts with
    | none =>
      refine ⟨_, exec_thermalPredictorSample_none hz alive hp, ?_⟩
      simp only [State.setZone_zone, Zone.sample_step]
      exact ⟨most, le_rfl, le_max_right _ _⟩
    | some k =>
      obtain ⟨above, within⟩ := Zone.predicts_some _ hp
      rw [Zone.sample_step] at above
      refine ⟨_, exec_thermalPredictorSample_some hz alive hp, ?_⟩
      simp only [State.event_zone, State.countModule_zone, State.setZone_zone]
      exact ⟨most, above.le, within.trans (le_max_left _ _)⟩

end Sys2Proof.Machine
end

section
/-! Scrub of the SRAM (spec/11 R295): a word corrected in place, and a row's words taken to a spare row with their corrections. -/

namespace Sys2Proof.Machine

/-! ### Stores and rows read back -/

section
variable (s : State) (x : SramStore)

@[simp] theorem State.setSram_sram (m : Mem) : (s.setSram x m).sram x = m := by
  cases x <;> simp [State.setSram, State.sram, State.setSpad, State.setCluster, State.cluster]

@[simp] theorem State.setSram_sramRows (m : Mem) (p : Nat × Nat) : (s.setSram x m).sramRows p = s.sramRows p := by
  cases x with
  | scratchpad c => rfl
  | batten c => rfl
  | cluster px =>
    by_cases h : px = p.1
    · subst h
      simp [State.setSram, State.sramRows, State.setCluster, State.cluster]
    · simp [State.setSram, State.sramRows, State.setCluster, State.cluster, Tab.get_set_ne _ _ _ _ _ h]

@[simp] theorem State.setSram_mem (m : Mem) : (s.setSram x m).mem = s.mem := by cases x <;> rfl
@[simp] theorem State.setSram_stands (m : Mem) : (s.setSram x m).stands = s.stands := by cases x <;> rfl
@[simp] theorem State.setSram_integ (m : Mem) : (s.setSram x m).integ = s.integ := by cases x <;> rfl
@[simp] theorem State.setSram_warden (m : Mem) : (s.setSram x m).warden = s.warden := by cases x <;> rfl

@[simp] theorem State.setSramRows_sramRows (p : Nat × Nat) (r : SramRows) : (s.setSramRows p r).sramRows p = r := by
  simp [State.setSramRows, State.sramRows, State.setCluster, State.cluster]

@[simp] theorem State.setSramRows_sram (p : Nat × Nat) (r : SramRows) : (s.setSramRows p r).sram x = s.sram x := by
  cases x with
  | scratchpad c => rfl
  | batten c => rfl
  | cluster px =>
    by_cases h : p.1 = px
    · subst h
      simp [State.setSramRows, State.sram, State.setCluster, State.cluster]
    · simp [State.setSramRows, State.sram, State.setCluster, State.cluster, Tab.get_set_ne _ _ _ _ _ h]

@[simp] theorem State.setSramRows_mem (p : Nat × Nat) (r : SramRows) : (s.setSramRows p r).mem = s.mem := rfl
@[simp] theorem State.setSramRows_stands (p : Nat × Nat) (r : SramRows) : (s.setSramRows p r).stands = s.stands := rfl
@[simp] theorem State.setSramRows_integ (p : Nat × Nat) (r : SramRows) : (s.setSramRows p r).integ = s.integ := rfl

@[simp] theorem State.count_sram (k n : Nat) : (s.count k n).sram x = s.sram x := rfl
@[simp] theorem State.count_sramRows (k n : Nat) (p : Nat × Nat) : (s.count k n).sramRows p = s.sramRows p := rfl
@[simp] theorem State.count_mem (k n : Nat) : (s.count k n).mem = s.mem := rfl
@[simp] theorem State.count_stands (k n : Nat) : (s.count k n).stands = s.stands := rfl
@[simp] theorem State.count_integ (k n : Nat) : (s.count k n).integ = s.integ := rfl
@[simp] theorem State.count_warden (k n : Nat) : (s.count k n).warden = s.warden := rfl

@[simp] theorem State.wear_sram (kind cause unit detail : Nat) : (s.wear kind cause unit detail).sram x = s.sram x := rfl
@[simp] theorem State.wear_sramRows (kind cause unit detail : Nat) (p : Nat × Nat) :
    (s.wear kind cause unit detail).sramRows p = s.sramRows p := rfl
@[simp] theorem State.wear_mem (kind cause unit detail : Nat) : (s.wear kind cause unit detail).mem = s.mem := rfl
@[simp] theorem State.wear_stands (kind cause unit detail : Nat) : (s.wear kind cause unit detail).stands = s.stands := rfl
@[simp] theorem State.wear_pending (kind cause unit detail : Nat) :
    (s.wear kind cause unit detail).integ.pending.length = s.integ.pending.length + 1 := by
  simp [State.wear]

end

/-! ### The words of a row -/

/-- A word's own check difference is no part of what its row holds beside it. -/
theorem diffSet_filter_ne (q : Nat → Bool) (w : Nat) (d : Byte × Byte) (t : Tab (Byte × Byte)) :
    ((diffSet t w d).map Prod.fst).filter (fun v => decide (v ≠ w) && q v) = (t.map Prod.fst).filter (fun v => decide (v ≠ w) && q v) := by
  induction t with
  | nil => unfold diffSet; split <;> simp
  | cons p t ih =>
    obtain ⟨i, e⟩ := p
    unfold diffSet
    split
    · next same => subst same; split <;> simp
    split
    · split <;> simp
    · simp only [List.map_cons, List.filter_cons, ih]

theorem Mem.correctWord_diff {m : Mem} {w i : Nat} {v : Byte} (h : m.check w = .corrected i v) :
    (m.correctWord w).diff = diffSet m.diff w (0, 0) := by
  unfold Mem.correctWord
  rw [h]
  dsimp only
  split <;> rfl

theorem State.rowWords_of_diffSet {s t : State} {x : SramStore} {w : Nat} {d : Byte × Byte}
    (h : (t.sram x).diff = diffSet (s.sram x).diff w d) (m row : Nat) : t.rowWords x m row w = s.rowWords x m row w := by
  rw [State.rowWords, State.rowWords, h]
  exact diffSet_filter_ne _ w d _

/-! ### A faulty row -/

section
variable {s : State} {x : SramStore} {p : Nat × Nat} (m row w : Nat)

/-- What a row moved to a spare row leaves: its words corrected, the row among the spared ones, and one entry for the wear ledger. -/
structure State.rowMoved (s t : State) (x : SramStore) (p : Nat × Nat) (m row w : Nat) : Prop where
  words : t.sram x = (s.rowWords x m row w).foldl Mem.correctWord (s.sram x)
  rows : t.sramRows p = { s.sramRows p with spared := (s.sramRows p).spared ++ [row % 65536] }
  entry : t.integ.pending.length = s.integ.pending.length + 1
  mem : t.mem = s.mem
  stands : t.stands = s.stands

theorem State.rowFault_moves (room : (s.sramRows p).spared.length < 4) : s.rowMoved (s.rowFault x p m row w) x p m row w := by
  unfold State.rowFault
  simp only [room, if_true, State.copyRow]
  split <;> constructor <;> simp

/-- With no spare row left, a core's store retires its core. -/
theorem State.rowFault_retires {c : Nat} (full : 4 ≤ (s.sramRows p).spared.length) (hc : x.core? = some c) :
    s.rowFault x p m row w = s.retireCore c 3 := by
  simp only [State.rowFault, full.not_gt, if_false, hc]

/-- With no spare row left, a cluster's store marks its die. -/
theorem State.rowFault_marks (full : 4 ≤ (s.sramRows p).spared.length) (hc : x.core? = none) :
    s.rowFault x p m row w = s.markDie (dieOfCluster p.1) := by
  simp only [State.rowFault, full.not_gt, if_false, hc]

end

/-! ### A core retired and a die marked -/

section
variable (s : State)

@[simp] theorem State.wardenReset_comp (cause : Nat) : (s.wardenReset cause).comp = s.comp := by
  unfold State.wardenReset State.decideChipReset
  (repeat' split) <;> rfl

@[simp] theorem State.wardenReset_mem (cause : Nat) : (s.wardenReset cause).mem = s.mem := by
  unfold State.wardenReset State.decideChipReset
  (repeat' split) <;> rfl

@[simp] theorem State.wardenReset_dies (cause : Nat) : (s.wardenReset cause).dies = s.dies := by
  unfold State.wardenReset State.decideChipReset
  (repeat' split) <;> rfl

theorem State.markDie_marked (d : Nat) : ((s.markDie d).die d).marked = true := by
  unfold State.markDie
  split
  · assumption
  · dsimp only
    split <;> simp [State.die, State.setDie, State.wear, State.countModule, State.count]

@[simp] theorem State.markDie_comp (d : Nat) : (s.markDie d).comp = s.comp := by
  unfold State.markDie
  dsimp only
  (repeat' split) <;> simp [State.setDie, State.wear, State.countModule, State.count]

@[simp] theorem State.markDie_mem (d : Nat) : (s.markDie d).mem = s.mem := by
  unfold State.markDie
  dsimp only
  (repeat' split) <;> simp [State.setDie, State.wear, State.countModule, State.count]

@[simp] theorem State.coppice_mem (px : Nat) : (s.coppice px).mem = s.mem := by
  unfold State.coppice
  dsimp only
  split <;> rfl

@[simp] theorem State.coppice_core (px c : Nat) : (s.coppice px).core c = s.core c := by
  unfold State.coppice
  dsimp only
  split <;> rfl

theorem State.replaceCore_retired (c : Nat) : ((s.replaceCore c).core c).retired = (s.core c).retired := by
  have orphaned : ((s.orphanCore c).core c).retired = (s.core c).retired := by
    simp [State.orphanCore, State.core, State.setCore]
  unfold State.replaceCore
  (repeat' split) <;> simp [orphaned]

@[simp] theorem State.replaceCore_mem (c : Nat) : (s.replaceCore c).mem = s.mem := by
  unfold State.replaceCore
  (repeat' split) <;> simp [State.orphanCore, State.setCore]

@[simp] theorem State.cruiseGivesWay_mem (c : Nat) : (s.cruiseGivesWay c).1.mem = s.mem := by
  unfold State.cruiseGivesWay State.cruiseEnds
  dsimp only
  (repeat' split) <;> rfl

theorem State.retireCore_retired (c cause : Nat) (active : s.warden.halted = false) : ((s.retireCore c cause).core c).retired = true := by
  unfold State.retireCore
  split
  · assumption
  · simp only [active, Bool.false_eq_true, if_false]
    split
    · rw [State.coppice_core]
      simp [State.core, State.setCore, State.wear, State.countModule, State.count]
    · rw [State.replaceCore_retired]
      simp [State.core, State.setCore, State.wear, State.countModule, State.count]

@[simp] theorem State.retireCore_mem (c cause : Nat) : (s.retireCore c cause).mem = s.mem := by
  unfold State.retireCore
  dsimp only
  (repeat' split) <;> simp [State.setCore, State.countModule]

end

/-! ### A word scrubbed -/

section
variable {s : State} {x : SramStore} {w : Nat} (m row : Nat)

theorem State.scrubWord_clean (h : (s.sram x).check w = .clean) : s.scrubWord x w m row = s := by
  simp [State.scrubWord, h]

variable {i : Nat} {v : Byte} (corrected : (s.sram x).check w = .corrected i v)
include corrected

/-- A word that scrub has not corrected before is written back, and remembered. -/
theorem State.scrubWord_first (new : w ∉ (s.sramRows (x.place m)).scrubbed) : ∃ k, s.scrubWord x w m row =
    ((s.setSram x ((s.sram x).correctWord w)).count k 1).setSramRows (x.place m)
      { s.sramRows (x.place m) with scrubbed := w :: (s.sramRows (x.place m)).scrubbed } := by
  cases hc : x.core? with
  | some c => exact ⟨kCore c cIntSramCorrected, by simp only [State.scrubWord, corrected, List.contains_iff_mem, hc, new, if_false]⟩
  | none =>
    exact ⟨kDie (dieOfCluster (x.place m).1) cDieScratchCorrected, by
      simp only [State.scrubWord, corrected, List.contains_iff_mem, hc, new, if_false]⟩

/-- One that it has corrected before is a fault of its row. -/
theorem State.scrubWord_again (old : w ∈ (s.sramRows (x.place m)).scrubbed) : ∃ k, s.scrubWord x w m row =
    (((s.setSram x ((s.sram x).correctWord w)).count k 1).setSramRows (x.place m)
      { s.sramRows (x.place m) with scrubbed := (s.sramRows (x.place m)).scrubbed.erase w }).rowFault x (x.place m) m row w := by
  cases hc : x.core? with
  | some c => exact ⟨kCore c cIntSramCorrected, by simp only [State.scrubWord, corrected, List.contains_iff_mem, hc, old, if_true]⟩
  | none =>
    exact ⟨kDie (dieOfCluster (x.place m).1) cDieScratchCorrected, by
      simp only [State.scrubWord, corrected, List.contains_iff_mem, hc, old, if_true]⟩

end

/-- An uncorrectable word takes its poison code, and is a fault of its row while the row has no spare. -/
theorem State.scrubWord_uncorrectable {s : State} {x : SramStore} {w : Nat} (m row : Nat) (bad : (s.sram x).check w = .uncorrectable)
    (new : row % 65536 ∉ (s.sramRows (x.place m)).spared) : ∃ u : State, u.sram x = s.sram x ∧ u.sramRows (x.place m) = s.sramRows (x.place m) ∧
      u.integ = s.integ ∧ u.warden = s.warden ∧ u.mem = s.mem ∧ u.stands = s.stands ∧
      s.scrubWord x w m row = (u.setSram x ((s.sram x).poison w)).rowFault x (x.place m) m row w := by
  simp only [State.scrubWord, bad, List.contains_iff_mem, new, and_false, if_false]
  cases hc : x.core? with
  | some c => exact ⟨s.count (kCore c cIntSramUncorrectable) 1, rfl, rfl, rfl, rfl, rfl, rfl, rfl⟩
  | none => exact ⟨s, rfl, rfl, rfl, rfl, rfl, rfl, rfl⟩

theorem exec_sramScrub {s : State} {x : SramStore} {w : Nat} (m row : Nat) (alive : s.alive = true) (hw : w < x.words)
    (hp : (x.place m).1 < 72) : exec (.sramScrub x w m row) s = .next (s.scrubWord x w m row) := by
  simp [exec, execSramScrub, alive, hw, hp]

/-- No command of scrub reaches the stacked memory from an SRAM. -/
theorem State.scrubWord_hbm (s : State) (x : SramStore) (w m row : Nat) : (s.scrubWord x w m row).hbm = s.hbm :=
  congrArg Prod.fst (State.scrubWord_memory (s := s) x w m row)

/-! ### The statement's clauses -/

section
variable {s : State} {x : SramStore} {w : Nat} (m row : Nat)

theorem State.scrubWord_writesBack {i : Nat} {v : Byte} (corrected : (s.sram x).check w = .corrected i v)
    (new : w ∉ (s.sramRows (x.place m)).scrubbed) : (s.scrubWord x w m row).sram x = (s.sram x).correctWord w ∧
      ((s.scrubWord x w m row).sramRows (x.place m)).scrubbed = w :: (s.sramRows (x.place m)).scrubbed ∧
      ((s.scrubWord x w m row).sramRows (x.place m)).spared = (s.sramRows (x.place m)).spared ∧
      (s.scrubWord x w m row).mem = s.mem ∧ (s.scrubWord x w m row).stands = s.stands := by
  obtain ⟨k, e⟩ := State.scrubWord_first m row corrected new
  rw [e]
  simp

theorem State.scrubWord_againMoves {i : Nat} {v : Byte} (corrected : (s.sram x).check w = .corrected i v)
    (old : w ∈ (s.sramRows (x.place m)).scrubbed) (room : (s.sramRows (x.place m)).spared.length < 4) :
    (s.scrubWord x w m row).sram x = (s.rowWords x m row w).foldl Mem.correctWord ((s.sram x).correctWord w) ∧
      ((s.scrubWord x w m row).sramRows (x.place m)).scrubbed = (s.sramRows (x.place m)).scrubbed.erase w ∧
      ((s.scrubWord x w m row).sramRows (x.place m)).spared = (s.sramRows (x.place m)).spared ++ [row % 65536] ∧
      (s.scrubWord x w m row).integ.pending.length = s.integ.pending.length + 1 ∧
      (s.scrubWord x w m row).mem = s.mem ∧ (s.scrubWord x w m row).stands = s.stands := by
  obtain ⟨k, e⟩ := State.scrubWord_again m row corrected old
  rw [e]
  generalize hu : State.setSramRows _ _ _ = u
  have sram : u.sram x = (s.sram x).correctWord w := by simp [← hu]
  have rows : u.sramRows (x.place m) = { s.sramRows (x.place m) with scrubbed := (s.sramRows (x.place m)).scrubbed.erase w } := by
    simp [← hu]
  have beside : u.rowWords x m row w = s.rowWords x m row w :=
    State.rowWords_of_diffSet (by rw [sram, Mem.correctWord_diff corrected]) m row
  have moved := State.rowFault_moves (s := u) (x := x) (p := x.place m) m row w (by rw [rows]; exact room)
  rw [moved.words, moved.rows, moved.entry, moved.mem, moved.stands, beside, sram, rows]
  simp [← hu]

theorem State.scrubWord_poisonMoves (bad : (s.sram x).check w = .uncorrectable) (room : (s.sramRows (x.place m)).spared.length < 4)
    (new : row % 65536 ∉ (s.sramRows (x.place m)).spared) :
    (s.scrubWord x w m row).sram x = (s.rowWords x m row w).foldl Mem.correctWord ((s.sram x).poison w) ∧
      ((s.scrubWord x w m row).sramRows (x.place m)).spared = (s.sramRows (x.place m)).spared ++ [row % 65536] ∧
      (s.scrubWord x w m row).integ.pending.length = s.integ.pending.length + 1 ∧
      (s.scrubWord x w m row).mem = s.mem ∧ (s.scrubWord x w m row).stands = s.stands := by
  obtain ⟨u, sram, rows, integ, -, mem, stands, e⟩ := State.scrubWord_uncorrectable m row bad new
  rw [e]
  have beside : (u.setSram x ((s.sram x).poison w)).rowWords x m row w = s.rowWords x m row w :=
    State.rowWords_of_diffSet (d := poisonDiff) (by rw [State.setSram_sram]; rfl) m row
  have moved := State.rowFault_moves (s := u.setSram x ((s.sram x).poison w)) (x := x) (p := x.place m) m row w
    (by rw [State.setSram_sramRows, rows]; exact room)
  rw [moved.words, moved.rows, moved.entry, moved.mem, moved.stands, beside]
  simp [rows, integ, mem, stands]

theorem State.scrubWord_poisonFull (bad : (s.sram x).check w = .uncorrectable) (full : 4 ≤ (s.sramRows (x.place m)).spared.length)
    (new : row % 65536 ∉ (s.sramRows (x.place m)).spared) (active : s.warden.halted = false) :
    (∀ c, x.core? = some c → ((s.scrubWord x w m row).core c).retired = true) ∧
      (x.core? = none → ((s.scrubWord x w m row).die (dieOfCluster (x.place m).1)).marked = true) ∧
      (s.scrubWord x w m row).mem = s.mem := by
  obtain ⟨u, -, rows, -, warden, mem, -, e⟩ := State.scrubWord_uncorrectable m row bad new
  have left : 4 ≤ ((u.setSram x ((s.sram x).poison w)).sramRows (x.place m)).spared.length := by
    rw [State.setSram_sramRows, rows]
    exact full
  cases hc : x.core? with
  | some c =>
    rw [e, State.rowFault_retires m row w left hc]
    refine ⟨fun k hk => ?_, fun absent => (nomatch absent), by simp [mem]⟩
    cases hk
    exact State.retireCore_retired _ c 3 (by rw [State.setSram_warden, warden]; exact active)
  | none =>
    rw [e, State.rowFault_marks m row w left hc]
    exact ⟨fun k hk => (nomatch hk), fun _ => State.markDie_marked _ _, by simp [mem]⟩

/-- What a scrubbed word leaves of the rest, whatever it was. -/
theorem exec_sramScrub_kept (alive : s.alive = true) (hw : w < x.words) (hp : (x.place m).1 < 72) :
    exec (.sramScrub x w m row) s = .next (s.scrubWord x w m row) ∧ (s.scrubWord x w m row).hbm = s.hbm ∧
      (s.scrubWord x w m row).frame = s.frame :=
  have run := exec_sramScrub m row alive hw hp
  ⟨run, s.scrubWord_hbm x w m row, exec_frame _ rfl run⟩

end

end Sys2Proof.Machine
end

section
/-! Scrub of the stacked memory (spec/07 R176, R178): the words of a block read, and the write-backs made before the next one. -/

namespace Sys2Proof.Machine

/-! ### Words of a store -/

theorem diffSet_get_ne (t : Tab (Byte × Byte)) {w k : Nat} (d : Byte × Byte) (h : k ≠ w) :
    Tab.get (0, 0) (diffSet t w d) k = t.get (0, 0) k := by
  induction t with
  | nil => unfold diffSet; split <;> simp [Tab.get, h.symm]
  | cons p t ih =>
    obtain ⟨i, e⟩ := p
    unfold diffSet
    split
    · next same => subst same; split <;> simp [Tab.get, h.symm]
    split
    · split <;> simp [Tab.get, h.symm]
    · simp only [Tab.get, ih]

/-- A word corrected is no other word's matter. -/
theorem Mem.correctWord_check_ne {m : Mem} {w k i : Nat} {v : Byte} (corrected : m.check w = .corrected i v) (h : k ≠ w) :
    (m.correctWord w).check k = m.check k := by
  simp only [Mem.check, Mem.diffAt, Mem.correctWord_diff corrected, diffSet_get_ne _ _ h]

/-! ### A symbol's error noted -/

/-- What the repair of a pseudo-channel leaves: the bytes, what scrub has still to do, the dies and the stands. -/
structure State.scrubKept (s t : State) : Prop where
  hbm : t.hbm = s.hbm
  faults : t.mem.faults = s.mem.faults
  writeBacks : t.mem.writeBacks = s.mem.writeBacks
  spans : t.mem.scrubbed = s.mem.scrubbed
  comp : t.comp = s.comp
  stands : t.stands = s.stands
  words : ∀ n, (t.stack n).scrubbed = (s.stack n).scrubbed
  dropped : ∀ n, t.counters.get (kStack n cMemScrubDropped) = s.counters.get (kStack n cMemScrubDropped)

theorem State.scrubKept.trans {s t u : State} (h : s.scrubKept t) (k : t.scrubKept u) : s.scrubKept u where
  hbm := k.hbm.trans h.hbm
  faults := k.faults.trans h.faults
  writeBacks := k.writeBacks.trans h.writeBacks
  spans := k.spans.trans h.spans
  comp := k.comp.trans h.comp
  stands := k.stands.trans h.stands
  words n := (k.words n).trans (h.words n)
  dropped n := (k.dropped n).trans (h.dropped n)

theorem kStack_remaps_ne_dropped (n j : Nat) : kStack n cMemPcRemaps ≠ kStack j cMemScrubDropped := by
  simp only [kStack, cMemPcRemaps, cMemScrubDropped]
  omega

theorem kLand_pool_ne_dropped (l j : Nat) : kLand l cMemPoolExhausted ≠ kStack j cMemScrubDropped := by
  simp only [kLand, kStack, cMemPoolExhausted, cMemScrubDropped]
  omega

section
variable (s : State)

theorem State.setStack_stack_ne {n j : Nat} (h : n ≠ j) (x : StackSt) : (s.setStack n x).stack j = s.stack j :=
  Tab.get_set_ne _ _ _ _ _ h

/-- A stack changed elsewhere than in the words scrub has corrected. -/
theorem State.setStack_scrubKept (n : Nat) (x : StackSt) (h : x.scrubbed = (s.stack n).scrubbed) : s.scrubKept (s.setStack n x) where
  hbm := rfl
  faults := rfl
  writeBacks := rfl
  spans := rfl
  comp := rfl
  stands := rfl
  words j := by
    by_cases e : n = j
    · subst e; rw [State.setStack_stack, h]
    · rw [State.setStack_stack_ne s e]
  dropped _ := rfl

theorem State.count_scrubKept {k : Nat} (h : ∀ n, k ≠ kStack n cMemScrubDropped) : s.scrubKept (s.count k 1) :=
  ⟨rfl, rfl, rfl, rfl, rfl, rfl, fun _ => rfl, fun n => Counters.get_add_ne _ (h n) 1⟩

theorem State.wear_scrubKept (kind cause unit detail : Nat) : s.scrubKept (s.wear kind cause unit detail) :=
  ⟨rfl, rfl, rfl, rfl, rfl, rfl, fun _ => rfl, fun _ => rfl⟩

theorem State.poolExhausted_scrubKept (n : Nat) : s.scrubKept (s.poolExhausted n) :=
  (s.setStack_scrubKept n _ (by rfl)).trans (State.count_scrubKept _ (kLand_pool_ne_dropped _))

theorem State.remapChannel_scrubKept (n pc : Nat) : s.scrubKept (s.remapChannel n pc) := by
  have here : s.scrubKept s := ⟨rfl, rfl, rfl, rfl, rfl, rfl, fun _ => rfl, fun _ => rfl⟩
  unfold State.remapChannel
  dsimp only
  split
  · exact here
  split
  · exact ((s.setStack_scrubKept n _ (by rfl)).trans (State.count_scrubKept _ (kStack_remaps_ne_dropped n))).trans
      (State.wear_scrubKept _ _ _ _ _)
  · exact s.poolExhausted_scrubKept n

theorem State.noteSymbol_scrubKept (k pos : Nat) : s.scrubKept (s.noteSymbol k pos) := by
  unfold State.noteSymbol
  dsimp only
  generalize (if (s.stack (keyStack k)).pcSymbols.contains _ then _ else _) = l
  split
  · exact (s.setStack_scrubKept _ _ (by rfl)).trans (State.remapChannel_scrubKept _ _ _)
  · exact s.setStack_scrubKept _ _ (by rfl)

end

/-! ### What the controllers do before the next block -/

/-- The controllers with their lists taken. -/
def State.controllersTaken (s : State) : State := s.setMem { s.mem with faults := [], writeBacks := [] }

section
variable {s : State}

theorem State.controllersTurn_idle (faults : s.mem.faults = []) (backs : s.mem.writeBacks = []) : s.controllersTurn = s := by
  simp [State.controllersTurn, faults, backs]

/-- One corrected word that scrub had not corrected before: its write-back, and its symbol noted. -/
theorem State.controllersTurn_one {w i : Nat} {x : WriteBack} (faults : s.mem.faults = [(w, some i)]) (backs : s.mem.writeBacks = [x])
    (new : w ∉ (s.stack (keyStack (16 * w))).scrubbed) :
    s.controllersTurn = (s.controllersTaken.writeBack x).noteSymbol (16 * w) i := by
  simp [State.controllersTurn, State.controllersTaken, faults, backs, State.isRowFault, new]

theorem State.writeBack_same {x : WriteBack} {i : Nat} {v : Byte} (data : x.data = s.hbm.rawWord x.word)
    (diff : x.diff = s.hbm.diffAt x.word) (corrected : s.hbm.check x.word = .corrected i v) : s.writeBack x =
    (s.setHbm (s.hbm.correctWord x.word)).setStack (keyStack (16 * x.word))
      { s.stack (keyStack (16 * x.word)) with scrubbed := x.word :: (s.stack (keyStack (16 * x.word))).scrubbed.erase x.word } := by
  simp [State.writeBack, data, diff, corrected]

theorem State.writeBack_newer {x : WriteBack} (data : x.data ≠ s.hbm.rawWord x.word) :
    s.writeBack x = s.count (kStack (keyStack (16 * x.word)) cMemScrubDropped) 1 := by
  simp [State.writeBack, data.symm]

end

/-! ### The words of a block -/

section
variable {s : State} {w : Nat}

theorem State.scrubHbmWord_clean (h : s.hbm.check w = .clean) : s.scrubHbmWord w = s := by
  simp [State.scrubHbmWord, h]

theorem State.scrubHbmWord_corrected {i : Nat} {v : Byte} (h : s.hbm.check w = .corrected i v) : s.scrubHbmWord w =
    (s.count (kStack (keyStack (16 * w)) cMemCorrected) 1).setMem { s.mem with
      faults     := s.mem.faults ++ [(w, some i)]
      writeBacks := s.mem.writeBacks ++ [⟨w, s.hbm.rawWord w, s.hbm.diffAt w⟩] } := by
  simp only [State.scrubHbmWord, h]
  rfl

theorem State.scrubHbmWord_hbm : (s.scrubHbmWord w).hbm = s.hbm := congrArg Prod.fst (State.scrubHbmWord_memory (s := s) w)

theorem State.scrubHbmWords_clean {ws : List Nat} (h : ∀ w ∈ ws, s.hbm.check w = .clean) : ws.foldl State.scrubHbmWord s = s := by
  induction ws with
  | nil => rfl
  | cons w ws ih =>
    rw [List.foldl_cons, State.scrubHbmWord_clean (h w List.mem_cons_self)]
    exact ih fun v hv => h v (List.mem_cons_of_mem w hv)

/-- Of a block whose other words are clean, scrub sees the one word. -/
theorem State.scrubHbmWords_one {ws : List Nat} (nodup : ws.Nodup) (mem : w ∈ ws) (others : ∀ v ∈ ws, v ≠ w → s.hbm.check v = .clean) :
    ws.foldl State.scrubHbmWord s = s.scrubHbmWord w := by
  induction ws with
  | nil => cases mem
  | cons u ws ih =>
    obtain ⟨notin, nodup⟩ := List.nodup_cons.mp nodup
    rw [List.foldl_cons]
    obtain rfl | later := List.mem_cons.mp mem
    · refine State.scrubHbmWords_clean fun v hv => ?_
      rw [State.scrubHbmWord_hbm]
      exact others v (List.mem_cons_of_mem _ hv) (ne_of_mem_of_not_mem hv notin)
    · rw [State.scrubHbmWord_clean (others u List.mem_cons_self (ne_of_mem_of_not_mem later notin).symm)]
      exact ih nodup later fun v hv => others v (List.mem_cons_of_mem u hv)

end

/-! ### The pass -/

section
variable {s : State} (n : Nat)

theorem State.scrubProgress_goesOn (h : spanCount (addSpan s.mem.scrubbed n) < scrubBlocks s.variant) :
    s.scrubProgress n = s.setMem { s.mem with scrubbed := addSpan s.mem.scrubbed n } := by
  simp [State.scrubProgress, h]

theorem State.scrubProgress_ends (h : scrubBlocks s.variant ≤ spanCount (addSpan s.mem.scrubbed n)) :
    (s.scrubProgress n).mem.passes = s.mem.passes + 1 ∧ (s.scrubProgress n).mem.scrubbed = [] := by
  simp [State.scrubProgress, h.not_gt, State.setMem]

variable (s)

/-- Either way, a block counted in the pass changes only the pass and the stacks' symbols. -/
theorem State.scrubProgress_setMem : ∃ l p k, s.scrubProgress n = s.setMem { s.mem with scrubbed := l, passes := p, stk := k } ∧
    ∀ j, (Tab.get StackSt.reset k j).scrubbed = (s.stack j).scrubbed := by
  obtain more | last := lt_or_ge (spanCount (addSpan s.mem.scrubbed n)) (scrubBlocks s.variant)
  · exact ⟨_, _, _, State.scrubProgress_goesOn n more, fun _ => rfl⟩
  · exact ⟨_, _, _, by simp only [State.scrubProgress, last.not_gt, if_false]; rfl,
      fun j => (congrArg StackSt.scrubbed (Tab.get_map StackSt.reset (fun x => { x with pcSymbols := [] }) rfl j s.mem.stk) :)⟩

@[simp] theorem State.scrubProgress_hbm : (s.scrubProgress n).hbm = s.hbm := by
  obtain ⟨_, _, _, e, -⟩ := s.scrubProgress_setMem n
  rw [e]
  rfl

@[simp] theorem State.scrubProgress_comp : (s.scrubProgress n).comp = s.comp := by
  obtain ⟨_, _, _, e, -⟩ := s.scrubProgress_setMem n
  rw [e]
  rfl

@[simp] theorem State.scrubProgress_stands : (s.scrubProgress n).stands = s.stands := by
  obtain ⟨_, _, _, e, -⟩ := s.scrubProgress_setMem n
  rw [e]
  rfl

@[simp] theorem State.scrubProgress_counters : (s.scrubProgress n).counters = s.counters := by
  obtain ⟨_, _, _, e, -⟩ := s.scrubProgress_setMem n
  rw [e]
  rfl

@[simp] theorem State.scrubProgress_faults : (s.scrubProgress n).mem.faults = s.mem.faults := by
  obtain ⟨_, _, _, e, -⟩ := s.scrubProgress_setMem n
  rw [e]
  rfl

@[simp] theorem State.scrubProgress_writeBacks : (s.scrubProgress n).mem.writeBacks = s.mem.writeBacks := by
  obtain ⟨_, _, _, e, -⟩ := s.scrubProgress_setMem n
  rw [e]
  rfl

@[simp] theorem State.scrubProgress_words (j : Nat) : ((s.scrubProgress n).stack j).scrubbed = (s.stack j).scrubbed := by
  obtain ⟨_, _, _, e, words⟩ := s.scrubProgress_setMem n
  rw [e]
  exact words j

end

/-! ### The statement's clauses -/

/-- The first word of a block. -/
def scrubWord0 (d b : Nat) : Nat := hbmKey d (512 * b) / 16

/-- The words of a block. -/
def scrubWords (d b : Nat) : List Nat := (List.range 32).map (scrubWord0 d b + ·)

theorem mem_scrubWords {d b w : Nat} : w ∈ scrubWords d b ↔ ∃ i < 32, scrubWord0 d b + i = w := by
  simp [scrubWords]

theorem scrubWords_nodup (d b : Nat) : (scrubWords d b).Nodup :=
  List.nodup_range.map fun _ _ h => Nat.add_left_cancel h

section
variable {s : State} {d b : Nat} (alive : s.alive = true) (trained : s.boot.hbmTrained = true) (hd : d < s.variant.landDies)
  (hb : b < 2 ^ 28)

theorem exec_hbmScrub_again (done : inSpans s.mem.scrubbed (2 ^ 28 * d + b) = true) : exec (.hbmScrub d b) s = .next s := by
  simp only [exec, execHbmScrub, done, Bool.true_eq_false, and_false, if_false]

variable (todo : inSpans s.mem.scrubbed (2 ^ 28 * d + b) = false)
include alive trained hd hb todo

theorem exec_hbmScrub : exec (.hbmScrub d b) s =
    .next (((scrubWords d b).foldl State.scrubHbmWord s.controllersTurn).scrubProgress (2 ^ 28 * d + b)) := by
  simp only [exec, execHbmScrub, alive, trained, hd, hb, todo, and_self, if_true, scrubWords, scrubWord0]

theorem exec_hbmScrub_clean (faults : s.mem.faults = []) (backs : s.mem.writeBacks = [])
    (clean : ∀ i, i < 32 → s.hbm.check (scrubWord0 d b + i) = .clean) :
    exec (.hbmScrub d b) s = .next (s.scrubProgress (2 ^ 28 * d + b)) := by
  rw [exec_hbmScrub alive trained hd hb todo, State.controllersTurn_idle faults backs, State.scrubHbmWords_clean]
  intro w hw
  obtain ⟨i, hi, rfl⟩ := mem_scrubWords.mp hw
  exact clean i hi

/-- A pass that ends begins again. -/
theorem exec_hbmScrub_passEnds (faults : s.mem.faults = []) (backs : s.mem.writeBacks = [])
    (clean : ∀ i, i < 32 → s.hbm.check (scrubWord0 d b + i) = .clean)
    (last : scrubBlocks s.variant ≤ spanCount (addSpan s.mem.scrubbed (2 ^ 28 * d + b))) :
    ∃ t, exec (.hbmScrub d b) s = .next t ∧ t.hbm = s.hbm ∧ t.mem.passes = s.mem.passes + 1 ∧ t.mem.scrubbed = [] ∧
      t.comp = s.comp ∧ t.stands = s.stands ∧ t.frame = s.frame := by
  obtain ⟨passes, spans⟩ := State.scrubProgress_ends _ last
  exact ⟨_, exec_hbmScrub_clean alive trained hd hb todo faults backs clean, s.scrubProgress_hbm _, passes, spans,
    s.scrubProgress_comp _, s.scrubProgress_stands _, State.scrubProgress_frame _ _⟩

/-- A word corrected as it is read waits for the controllers: its fault, and its write-back. -/
theorem exec_hbmScrub_corrects {j i w : Nat} {v : Byte} (hj : j < 32) (hw : w = scrubWord0 d b + j) (faults : s.mem.faults = [])
    (backs : s.mem.writeBacks = []) (corrected : s.hbm.check w = .corrected i v)
    (clean : ∀ k, k < 32 → k ≠ j → s.hbm.check (scrubWord0 d b + k) = .clean) :
    ∃ t, exec (.hbmScrub d b) s = .next t ∧ t.hbm = s.hbm ∧ t.mem.faults = [(w, some i)] ∧
      t.mem.writeBacks = [⟨w, s.hbm.rawWord w, s.hbm.diffAt w⟩] ∧
      t.counters.get (kStack (keyStack (16 * w)) cMemCorrected) = s.counters.get (kStack (keyStack (16 * w)) cMemCorrected) + 1 ∧
      t.comp = s.comp ∧ t.stands = s.stands ∧ t.frame = s.frame := by
  have one : (scrubWords d b).foldl State.scrubHbmWord s = s.scrubHbmWord w := by
    refine State.scrubHbmWords_one (scrubWords_nodup d b) (mem_scrubWords.mpr ⟨j, hj, hw.symm⟩) fun u hu ne => ?_
    obtain ⟨k, hk, rfl⟩ := mem_scrubWords.mp hu
    exact clean k hk fun e => ne (by rw [e, hw])
  have run := exec_hbmScrub alive trained hd hb todo
  rw [State.controllersTurn_idle faults backs, one] at run
  refine ⟨_, run, ?_, ?_, ?_, ?_, ?_, ?_, exec_frame _ rfl run⟩
  · rw [State.scrubProgress_hbm, State.scrubHbmWord_hbm]
  · rw [State.scrubProgress_faults, State.scrubHbmWord_corrected corrected, faults]; rfl
  · rw [State.scrubProgress_writeBacks, State.scrubHbmWord_corrected corrected, backs]; rfl
  · rw [State.scrubProgress_counters, State.scrubHbmWord_corrected corrected]; exact State.count_one s _
  · rw [State.scrubProgress_comp, State.scrubHbmWord_corrected corrected]; rfl
  · rw [State.scrubProgress_stands, State.scrubHbmWord_corrected corrected]; rfl

/-- The controllers' turn, then a block whose words are clean. -/
theorem exec_hbmScrub_afterTurn (clean : ∀ i, i < 32 → s.controllersTurn.hbm.check (scrubWord0 d b + i) = .clean) :
    exec (.hbmScrub d b) s = .next (s.controllersTurn.scrubProgress (2 ^ 28 * d + b)) := by
  rw [exec_hbmScrub alive trained hd hb todo, State.scrubHbmWords_clean]
  intro w hw
  obtain ⟨i, hi, rfl⟩ := mem_scrubWords.mp hw
  exact clean i hi

section
variable {w i : Nat} {v : Byte} {x : WriteBack} (faults : s.mem.faults = [(w, some i)]) (backs : s.mem.writeBacks = [x])
  (hx : x.word = w) (new : w ∉ (s.stack (keyStack (16 * w))).scrubbed)
  (clean : ∀ k, k < 32 → s.hbm.check (scrubWord0 d b + k) = .clean)
include faults backs hx new clean

theorem exec_hbmScrub_writesBack (corrected : s.hbm.check w = .corrected i v) (data : x.data = s.hbm.rawWord w)
    (diff : x.diff = s.hbm.diffAt w) :
    ∃ t, exec (.hbmScrub d b) s = .next t ∧ t.hbm = s.hbm.correctWord w ∧ t.mem.writeBacks = [] ∧ t.mem.faults = [] ∧
      w ∈ (t.stack (keyStack (16 * w))).scrubbed ∧ t.comp = s.comp ∧ t.stands = s.stands ∧ t.frame = s.frame := by
  subst hx
  have turn := State.controllersTurn_one faults backs new
  rw [State.writeBack_same (s := s.controllersTaken) data diff corrected] at turn
  have kept := State.noteSymbol_scrubKept ((s.controllersTaken.setHbm (s.hbm.correctWord x.word)).setStack (keyStack (16 * x.word))
      { s.stack (keyStack (16 * x.word)) with scrubbed := x.word :: (s.stack (keyStack (16 * x.word))).scrubbed.erase x.word })
    (16 * x.word) i
  have kept : State.scrubKept _ s.controllersTurn := turn ▸ kept
  have hbm : s.controllersTurn.hbm = s.hbm.correctWord x.word := kept.hbm
  have run := exec_hbmScrub_afterTurn alive trained hd hb todo fun k hk => by
    have other : scrubWord0 d b + k ≠ x.word := fun e => by
      have := clean k hk
      rw [e, corrected] at this
      cases this
    rw [hbm, Mem.correctWord_check_ne corrected other, clean k hk]
  refine ⟨_, run, ?_, ?_, ?_, ?_, ?_, ?_, exec_frame _ rfl run⟩
  · rw [State.scrubProgress_hbm, hbm]
  · rw [State.scrubProgress_writeBacks, kept.writeBacks]; rfl
  · rw [State.scrubProgress_faults, kept.faults]; rfl
  · rw [State.scrubProgress_words, kept.words, State.setStack_stack]; exact List.mem_cons_self
  · rw [State.scrubProgress_comp, kept.comp]; rfl
  · rw [State.scrubProgress_stands, kept.stands]; rfl

/-- A word written since is not written back. -/
theorem exec_hbmScrub_drops (data : x.data ≠ s.hbm.rawWord w) :
    ∃ t, exec (.hbmScrub d b) s = .next t ∧ t.hbm = s.hbm ∧ t.mem.writeBacks = [] ∧ t.mem.faults = [] ∧
      w ∉ (t.stack (keyStack (16 * w))).scrubbed ∧
      t.counters.get (kStack (keyStack (16 * w)) cMemScrubDropped) = s.counters.get (kStack (keyStack (16 * w)) cMemScrubDropped) + 1 ∧
      t.comp = s.comp ∧ t.stands = s.stands ∧ t.frame = s.frame := by
  subst hx
  have turn := State.controllersTurn_one faults backs new
  rw [State.writeBack_newer (s := s.controllersTaken) data] at turn
  have kept := turn ▸ State.noteSymbol_scrubKept (s.controllersTaken.count (kStack (keyStack (16 * x.word)) cMemScrubDropped) 1)
    (16 * x.word) i
  have hbm : s.controllersTurn.hbm = s.hbm := kept.hbm
  have run := exec_hbmScrub_afterTurn alive trained hd hb todo fun k hk => by rw [hbm, clean k hk]
  refine ⟨_, run, ?_, ?_, ?_, ?_, ?_, ?_, ?_, exec_frame _ rfl run⟩
  · rw [State.scrubProgress_hbm, hbm]
  · rw [State.scrubProgress_writeBacks, kept.writeBacks]; rfl
  · rw [State.scrubProgress_faults, kept.faults]; rfl
  · rw [State.scrubProgress_words, kept.words]; exact new
  · rw [State.scrubProgress_counters, kept.dropped]; exact State.count_one _ _
  · rw [State.scrubProgress_comp, kept.comp]; rfl
  · rw [State.scrubProgress_stands, kept.stands]; rfl

end

end

/-! ### A repair move (spec/07 R183) -/

section
variable {s : State} {n : Nat} (alive : s.alive = true) (hn : n < s.variant.stacks)

theorem State.movedWords_nil (h : s.hbm.diff = []) (p : Nat → Bool) : s.movedWords n p = [] := by
  simp [State.movedWords, h]

theorem State.repairMove_none (words : Nat) (h : (s.stack n).moves = []) : s.repairMove n words = s := by
  simp [State.repairMove, h]

section
variable {kind id done words : Nat} {ms : List (Nat × Nat × Nat)} (h : (s.stack n).moves = (kind, id, done) :: ms)
include h

theorem State.repairMove_goesOn (more : done + words < moveSize kind) :
    s.repairMove n words = s.setStack n { s.stack n with moves := (kind, id, done + words) :: ms } := by
  simp [State.repairMove, h, more]

/-- A move over a store with no check difference ends with no word to correct. -/
theorem State.repairMove_ends (all : moveSize kind ≤ done + words) (clean : s.hbm.diff = []) :
    s.repairMove n words = s.setStack n { s.stack n with moves := ms } := by
  simp only [State.repairMove, h, all.not_gt, if_false]
  rw [State.movedWords_nil (s := s.setStack n _) clean]
  rfl

end

include alive hn in
theorem exec_repairMove (words : Nat) : exec (.repairMove n words) s = .next (s.repairMove n words) := by
  simp [exec, execRepairMove, alive, hn]

end

end Sys2Proof.Machine
end

section
/-! A tick refills every gate's buckets (spec/07 R182): nothing that a tick does before it reaches a landing die. An operation that leaves
the landing dies has a lemma `_lands`. -/

namespace Sys2Proof.Machine

/-- The landing dies' state: their gates' buckets, the requests that wait, the staged blocks. -/
def State.lands (s : State) : Tab LandDie := s.mem.lands

theorem foldl_lands {α : Type} (f : State → α → State) (keeps : ∀ u a, (f u a).lands = u.lands) (l : List α) (s : State) :
    (l.foldl f s).lands = s.lands := by
  induction l generalizing s with
  | nil => rfl
  | cons a l ih => rw [List.foldl_cons, ih, keeps]

section
variable {s : State}

/-! ### Shared operations -/

@[simp] theorem State.count_lands (k n : Nat) : (s.count k n).lands = s.lands := by rfl
@[simp] theorem State.countModule_lands (c : Nat) : (s.countModule c).lands = s.lands := by rfl
@[simp] theorem State.countStand_lands (st c : Nat) : (s.countStand st c).lands = s.lands := by rfl
@[simp] theorem State.setStand_lands (i : Nat) (x : StandSt) : (s.setStand i x).lands = s.lands := by rfl
@[simp] theorem State.setCounters_lands (v : Counters) : (s.setCounters v).lands = s.lands := by rfl
@[simp] theorem State.setFabric_lands (v : Fabric) : (s.setFabric v).lands = s.lands := by rfl
@[simp] theorem State.setFreeCtr_lands (v : Nat) : (s.setFreeCtr v).lands = s.lands := by rfl
@[simp] theorem State.setPort_lands (p : Nat) (x : PortSt) : (s.setPort p x).lands = s.lands := by rfl
@[simp] theorem State.setSteps_lands (st : Nat) (f : StepSt → StepSt) : (s.setSteps st f).lands = s.lands := by rfl
@[simp] theorem State.setStack_lands (n : Nat) (x : StackSt) : (s.setStack n x).lands = s.lands := by rfl
@[simp] theorem State.setUgroup_lands (k : Nat) (x : UGroup) : (s.setUgroup k x).lands = s.lands := by rfl
@[simp] theorem State.setRstStand_lands (st : Nat) (f : RstStand → RstStand) : (s.setRstStand st f).lands = s.lands := by rfl
@[simp] theorem State.wear_lands (kind cause unit detail : Nat) : (s.wear kind cause unit detail).lands = s.lands := by rfl
@[simp] theorem State.addFault_lands (w : Nat) (pos : Option Nat) : (s.addFault w pos).lands = s.lands := by rfl
@[simp] theorem State.rearm_lands : s.rearm.lands = s.lands := by rfl
@[simp] theorem State.setHbm_lands (v : Mem) : (s.setHbm v).lands = s.lands := by rfl

/-! ### Words read and written -/

@[simp] theorem State.noteWord_lands (w : Nat) : (s.noteWord w).lands = s.lands := by
  unfold State.noteWord; dsimp only; (repeat' split) <;> simp

@[simp] theorem State.noteWords_lands (ws : List Nat) : (s.noteWords ws).lands = s.lands := by
  simp [State.noteWords, apply_ite State.lands, foldl_lands]

@[simp] theorem State.noteMerge_lands (ks : List Nat) : (s.noteMerge ks).lands = s.lands := by
  simp [State.noteMerge, apply_ite State.lands]

@[simp] theorem State.writeKey_lands (k : Nat) (bs : List Byte) : (s.writeKey k bs).lands = s.lands := by simp [State.writeKey]

theorem State.writeSoftN_lands (n a : Nat) (bs : List Byte) : (s.writeSoftN n a bs).lands = s.lands := by
  induction n generalizing s a bs with
  | zero => rfl
  | succ n ih => cases bs with
    | nil => rfl
    | cons b bs => exact (ih _ _).trans (by split <;> simp)

@[simp] theorem State.writeSoft_lands (a : Nat) (bs : List Byte) : (s.writeSoft a bs).lands = s.lands := State.writeSoftN_lands _ _ _

@[simp] theorem State.keepDiffs_lands (a : Nat) (fs : Tab (Byte × Byte)) : (s.keepDiffs a fs).lands = s.lands := by rfl

/-! ### Requests and commits -/

@[simp] theorem State.emit_lands (e vc part : Nat) (t : Txn) (owner : Nat × Nat) : (s.emit e vc part t owner).lands = s.lands := by
  simp [State.emit, apply_ite State.lands]
@[simp] theorem State.sendReq_lands (st e : Nat) (h : HeldReq) : (s.sendReq st e h).lands = s.lands := by simp [State.sendReq]
@[simp] theorem State.ask_lands (st : Nat) (h : HeldReq) : (s.ask st h).1.lands = s.lands := by
  unfold State.ask; dsimp only; (repeat' split) <;> simp
@[simp] theorem State.askColl_lands (st ttype : Nat) (y : Coll) (dev : W16) (ds addr k r : Nat) (meta_ payload : List Byte) :
    (s.askColl st ttype y dev ds addr k r meta_ payload).1.lands = s.lands := by
  simp [State.askColl]
@[simp] theorem State.requestWith_lands (st ttype : Nat) (dst : W16) (dstand addr : Nat) (meta_ payload : List Byte)
    (diffs : Tab (Byte × Byte)) (coll : Bool) (what : ReqFor) :
    (s.requestWith st ttype dst dstand addr meta_ payload diffs coll what).1.lands = s.lands := by
  simp [State.requestWith]
@[simp] theorem State.onGroups_lands (ks : List Nat) (f : UGroup → UGroup) : (s.onGroups ks f).lands = s.lands := by
  simp [State.onGroups, foldl_lands]
@[simp] theorem State.commitStand_lands (st : Nat) (j : CommitSt) : (s.commitStand st j).lands = s.lands := by
  simp [State.commitStand, apply_ite State.lands]
@[simp] theorem State.setPeer_lands (st : Nat) (d : W16) (f : Peer → Peer) : (s.setPeer st d f).lands = s.lands := by
  simp [State.setPeer, apply_ite State.lands]
@[simp] theorem State.setColl_lands (st : Nat) (y : Coll) : (s.setColl st y).lands = s.lands := by rfl
@[simp] theorem State.setCmd_lands (st : Nat) (c : Cmd) : (s.setCmd st c).lands = s.lands := by rfl
@[simp] theorem State.setCopy_lands (st : Nat) (b : Option BgCopy) : (s.setCopy st b).lands = s.lands := by rfl
@[simp] theorem State.settle_lands (st : Nat) (p : LateEntry → Bool) (d : LateDisp) : (s.settle st p d).lands = s.lands := by rfl
@[simp] theorem State.engineDone_lands (st : Nat) (c : Cmd) : (s.engineDone st c).lands = s.lands := by rfl
@[simp] theorem State.commitDone_lands (st : Nat) (j : CommitSt) (c : Cmd) (status : List W16) (blaze : List Byte) (rounds : Nat)
    (n : List Byte) :
    (s.commitDone st j c status blaze rounds n).lands = s.lands := by
  rfl
@[simp] theorem State.keepUnsent_lands (st ticket k owner : Nat) : (s.keepUnsent st ticket k owner).lands = s.lands := by
  unfold State.keepUnsent; (repeat' split) <;> simp

@[simp] theorem State.sendContrib_lands (st : Nat) (y : Coll) (my k owner : Nat) : (s.sendContrib st y my k owner).lands = s.lands := by
  unfold State.sendContrib
  dsimp only
  split
  · rfl
  · next dev ds _ =>
    refine foldl_lands _ (fun u p => ?_) _ _
    have sent (m payload : List Byte) := State.askColl_lands (s := u) st 3 y dev ds (4096 * p.2) k owner m payload
    split <;> next asked => simpa using (congrArg (·.1.lands) asked).symm.trans (sent _ _)

@[simp] theorem State.resend_lands (t : State) (st : Nat) (y : Coll) : (State.resend s t st y).lands = t.lands := by
  unfold State.resend
  dsimp only
  split
  · rfl
  · refine foldl_lands _ (fun u k => ?_) _ _
    (repeat' split) <;> simp

@[simp] theorem State.fenceDev_lands (st : Nat) (d : W16) (source : Nat) : (s.fenceDev st d source).lands = s.lands := by
  unfold State.fenceDev
  split
  · rfl
  · refine (foldl_lands _ (fun u y => ?_) _ _).trans (by simp)
    split <;> simp

@[simp] theorem State.failSapling_lands (st : Nat) (d : W16) : (s.failSapling st d).lands = s.lands := by simp [State.failSapling]
@[simp] theorem State.judgeSapling_lands (st : Nat) (blaze : BitVec 128) (steps : Nat) (d : W16) (m : Option CommitMsg) :
    (s.judgeSapling st blaze steps d m).lands = s.lands := by
  unfold State.judgeSapling; dsimp only; (repeat' split) <;> simp
@[simp] theorem State.judgeSaplings_lands (st : Nat) (j : CommitSt) (steps : Nat) (ms : List (Nat × Option CommitMsg)) :
    (s.judgeSaplings st j steps ms).lands = s.lands := by
  refine foldl_lands _ (fun u q => ?_) _ _
  (repeat' split) <;> simp

@[simp] theorem State.copyOut_lands (st : Nat) (b : BgCopy) (off : Nat) (bs : List Byte) (fs : Tab (Byte × Byte)) :
    (s.copyOut st b off bs fs).lands = s.lands := by
  unfold State.copyOut
  split
  · simp
  · refine foldl_lands _ (fun u p => ?_) _ _
    dsimp only
    (repeat' split) <;> simp

@[simp] theorem State.beginCopy_lands (st : Nat) (b : BgCopy) : (s.beginCopy st b).lands = s.lands := by simp [State.beginCopy]

@[simp] theorem State.startMirror_lands (st ctx : Nat) (a : CommitArgs) : (s.startMirror st ctx a).lands = s.lands := by
  unfold State.startMirror; dsimp only; (repeat' split) <;> simp

@[simp] theorem State.commitFlip_lands (st : Nat) (j : CommitSt) (c : Cmd) (d : CommitDecision) :
    (s.commitFlip st j c d).lands = s.lands := by
  simp [State.commitFlip, apply_ite State.lands]

@[simp] theorem State.settleCommit_lands (st : Nat) (now : Bool) : (s.settleCommit st now).lands = s.lands := by
  unfold State.settleCommit; (repeat' split) <;> simp

@[simp] theorem State.engineResetDone_lands (st : Nat) (a : Rung) : (s.engineResetDone st a).lands = s.lands := by rfl
@[simp] theorem State.finishResets_lands (st : Nat) : (s.finishResets st).lands = s.lands := by simp [State.finishResets, foldl_lands]
@[simp] theorem State.countCycles_lands (st : Nat) : (s.countCycles st).lands = s.lands := by simp [State.countCycles, foldl_lands]
@[simp] theorem State.portCycle_lands (p : Nat) : (s.portCycle p).lands = s.lands := by simp [State.portCycle, apply_ite State.lands]
@[simp] theorem State.zoneCycle_lands (z : Nat) : (s.zoneCycle z).lands = s.lands := by unfold State.zoneCycle; (repeat' split) <;> simp

/-! ### The controllers' turn -/

@[simp] theorem State.poolExhausted_lands (n : Nat) : (s.poolExhausted n).lands = s.lands := by rfl
@[simp] theorem State.remapChannel_lands (n pc : Nat) : (s.remapChannel n pc).lands = s.lands := by
  simp [State.remapChannel, apply_ite State.lands]
@[simp] theorem State.remapBank_lands (n b : Nat) : (s.remapBank n b).lands = s.lands := by
  simp [State.remapBank, apply_ite State.lands]
@[simp] theorem State.noteSymbol_lands (k pos : Nat) : (s.noteSymbol k pos).lands = s.lands := by
  simp [State.noteSymbol, apply_ite State.lands]

@[simp] theorem State.moveWords_lands (ws : List Nat) : (s.moveWords ws).lands = s.lands := by simp [State.moveWords, foldl_lands]

@[simp] theorem State.repairRow_lands (n b r : Nat) (how : RowRepair) : (s.repairRow n b r how).lands = s.lands := by
  unfold State.repairRow; cases how <;> simp

@[simp] theorem State.hbmRowFault_lands (k : Nat) : (s.hbmRowFault k).lands = s.lands := by
  unfold State.hbmRowFault; dsimp only; (repeat' split) <;> simp

@[simp] theorem State.wordFault_lands (w : Nat) : (s.wordFault w).lands = s.lands := by simp [State.wordFault]

@[simp] theorem State.writeBack_lands (b : WriteBack) : (s.writeBack b).lands = s.lands := by
  unfold State.writeBack; dsimp only; (repeat' split) <;> simp

@[simp] theorem State.controllersTurn_lands : s.controllersTurn.lands = s.lands := by
  unfold State.controllersTurn
  split
  · rfl
  · rw [foldl_lands _ fun u f => State.wordFault_lands _, foldl_lands _ fun u f => by split <;> simp,
      foldl_lands _ fun u b => State.writeBack_lands b]
    rfl

/-- Before the gates refill. -/
def State.tickWork (s : State) : State :=
  ((List.range s.variant.ports).foldl State.portCycle ((List.range s.variant.zones).foldl State.zoneCycle
    (s.inUse.foldl (fun u st => ((u.countCycles st).settleCommit st false).finishResets st) s))).controllersTurn

theorem tick_alive (alive : s.alive = true) : tick s = s.tickWork.refillGates.setClock (s.tickWork.refillGates.clock.tick
    s.tickWork.refillGates.power.osc) := by
  simp [tick, alive, State.tickWork]

@[simp] theorem State.tickWork_lands : s.tickWork.lands = s.lands := by simp [State.tickWork, foldl_lands]

@[simp] theorem State.tickWork_frame : s.tickWork.frame = s.frame := by simp [State.tickWork, foldl_frame]

end

/-! ### A gate refilled -/

section
variable {s t : State} {d g : Nat}

theorem State.gateCfg_of_frame (frame : t.frame = s.frame) : t.gateCfg d g = s.gateCfg d g := by
  rw [State.gateCfg, State.gateCfg, img_of_frame frame]

theorem State.zone_of_frame (frame : t.frame = s.frame) : t.zone d = s.zone d := by
  rw [State.zone, State.zone, show t.power = s.power from congrArg (·.2.2.2.2.1) frame]

theorem State.gate_of_lands (lands : t.lands = s.lands) (frame : t.frame = s.frame) : t.gate d g = s.gate d g := by
  have land : t.land d = s.land d := congrArg (Tab.get LandDie.reset · d) lands
  rw [State.gate, State.gate, land, State.gateCfg_of_frame frame]

/-- A gate's buckets at the next NCLK. -/
def State.refilled (s : State) (d g : Nat) : Gate :=
  { s.gate d g with
    rate  := min ((s.gate d g).rate + (s.gateCfg d g).rate * stepQuarters (s.zone d).step) ((s.gateDepth d g * 4096).floor.toNat)
    floor := min ((s.gate d g).floor + (s.gateCfg d g).floor * stepQuarters (s.zone d).step) 16384 }

theorem State.refilled_of_gate (gate : t.gate d g = s.gate d g) (frame : t.frame = s.frame) : t.refilled d g = s.refilled d g := by
  rw [State.refilled, State.refilled, State.gateDepth, State.gateDepth, gate, State.gateCfg_of_frame frame, State.zone_of_frame frame]

variable (s)

@[simp] theorem State.setGate_gate (d g : Nat) (x : Gate) : (s.setGate d g x).gate d g = x := by
  simp [State.gate, State.setGate, State.setLand, State.land, State.setMem]

theorem State.setGate_gate_ne {l k d g : Nat} (h : l = d → k ≠ g) (x : Gate) : (s.setGate l k x).gate d g = s.gate d g := by
  by_cases die : l = d
  · subst die
    simp [State.gate, State.setGate, State.setLand, State.land, State.setMem, Tab.get_set_ne _ _ _ _ _ (h rfl), State.gateCfg]
  · simp [State.gate, State.setGate, State.setLand, State.land, State.setMem, Tab.get_set_ne _ _ _ _ _ die, State.gateCfg]

theorem State.refill_gate {d g : Nat} (enabled : (s.gateCfg d g).enabled = true) : (s.refill d g).gate d g = s.refilled d g := by
  simp [State.refill, enabled, State.refilled]

theorem State.refill_gate_ne {l k d g : Nat} (h : l = d → k ≠ g) : (s.refill l k).gate d g = s.gate d g := by
  unfold State.refill
  dsimp only
  split
  · rfl
  · exact s.setGate_gate_ne h _

end

/-! ### All gates refilled -/

/-- An image's gate setting, served. -/
def State.refillOne (n : Nat) (s : State) (p : Nat × GateCfg) : State := if p.1 / 66 < n then s.refill (p.1 / 66) (p.1 % 66) else s

theorem State.refillGates_eq (s : State) : s.refillGates = s.img.gates.foldl (State.refillOne s.variant.landDies) s := rfl

section
variable {s : State} {d g n : Nat} (hg : g < 66)

@[simp] theorem State.refillOne_frame (p : Nat × GateCfg) : (s.refillOne n p).frame = s.frame := by
  simp [State.refillOne, apply_ite State.frame]

theorem State.refillOne_gate_ne {p : Nat × GateCfg} (h : p.1 ≠ 66 * d + g) : (s.refillOne n p).gate d g = s.gate d g := by
  unfold State.refillOne
  split
  · exact s.refill_gate_ne fun die k => h (by omega)
  · rfl

theorem State.refillList_gate_ne {l : Tab GateCfg} (h : 66 * d + g ∉ l.map Prod.fst) :
    (l.foldl (State.refillOne n) s).gate d g = s.gate d g := by
  induction l generalizing s with
  | nil => rfl
  | cons p l ih =>
    rw [List.foldl_cons, ih (List.not_mem_of_not_mem_cons h), State.refillOne_gate_ne (List.ne_of_not_mem_cons h).symm]

include hg in
/-- A gate whose setting stands once in the image is refilled once. -/
theorem State.refillList_gate {l : Tab GateCfg} (hd : d < n) (enabled : (s.gateCfg d g).enabled = true) (nodup : (l.map Prod.fst).Nodup)
    (present : 66 * d + g ∈ l.map Prod.fst) : (l.foldl (State.refillOne n) s).gate d g = s.refilled d g := by
  induction l generalizing s with
  | nil => cases present
  | cons p l ih =>
    obtain ⟨once, nodup⟩ := List.nodup_cons.mp nodup
    rw [List.foldl_cons]
    by_cases here : p.1 = 66 * d + g
    · have one : s.refillOne n p = s.refill d g := by
        rw [State.refillOne, show p.1 / 66 = d by omega, show p.1 % 66 = g by omega, if_pos hd]
      rw [State.refillList_gate_ne (here ▸ once), one, s.refill_gate enabled]
    · have later : 66 * d + g ∈ l.map Prod.fst := (List.mem_cons.mp present).resolve_left (Ne.symm here)
      rw [ih (by rw [State.gateCfg_of_frame (State.refillOne_frame p)]; exact enabled) nodup later]
      exact State.refilled_of_gate (State.refillOne_gate_ne here) (State.refillOne_frame p)

end

/-- A setting that is not the default stands in the image. -/
theorem Tab.mem_of_get_ne {α : Type} {d : α} {k : Nat} : ∀ {t : Tab α}, t.get d k ≠ d → k ∈ t.map Prod.fst
  | [], h => absurd rfl h
  | (i, v) :: t, h => by
    by_cases e : i = k
    · exact e ▸ List.mem_cons_self
    · exact List.mem_cons_of_mem _ (Tab.mem_of_get_ne (t := t) (d := d) (by simpa [Tab.get, e] using h))

theorem State.gateCfg_listed {s : State} {d g : Nat} (enabled : (s.gateCfg d g).enabled = true) :
    66 * d + g ∈ s.img.gates.map Prod.fst := by
  refine Tab.mem_of_get_ne (d := GateCfg.unused) fun unused => ?_
  rw [State.gateCfg, unused] at enabled
  cases enabled

/-- A tick refills every gate that the image enables. -/
theorem tick_gate {s : State} {d g : Nat} (alive : s.alive = true) (hd : d < s.variant.landDies) (hg : g < 66)
    (enabled : (s.gateCfg d g).enabled = true) (nodup : (s.img.gates.map Prod.fst).Nodup) : (tick s).gate d g = s.refilled d g := by
  have work := s.tickWork_frame
  have gate : s.tickWork.gate d g = s.gate d g := State.gate_of_lands s.tickWork_lands work
  have img := img_of_frame work
  have variant : s.tickWork.variant = s.variant := congrArg (·.2.1) work
  have filled : s.tickWork.refillGates.gate d g = s.tickWork.refilled d g := by
    rw [State.refillGates_eq]
    exact State.refillList_gate hg (by rw [variant]; exact hd) (by rw [State.gateCfg_of_frame work]; exact enabled) (by rw [img]; exact nodup)
      (by rw [img]; exact State.gateCfg_listed enabled)
  rw [tick_alive alive]
  exact filled.trans (State.refilled_of_gate gate work)

end Sys2Proof.Machine
end

section
/-! The flume's grants and samples (spec/07 R182, R185), and blocks staged for a background copy (spec/08 R209). -/

namespace Sys2Proof.Machine

/-! ### The request a class serves -/

theorem nextReq_sound {last : Nat} {p : FlumeReq → Bool} {rs : List FlumeReq} {r : FlumeReq} (h : nextReq last p rs = some r) :
    r ∈ rs ∧ p r = true := by
  obtain ⟨g, -, found⟩ := List.exists_of_findSome?_eq_some h
  have serves := List.find?_some found
  simp only [Bool.and_eq_true] at serves
  exact ⟨List.mem_of_find?_eq_some found, serves.2⟩

/-- The request picked waits, and its class serves it. -/
theorem State.flumePick_sound {s : State} {l cls : Nat} {rs : List FlumeReq} {r : FlumeReq} (h : s.flumePick l rs = some (r, cls)) :
    r ∈ rs ∧ cls ≤ 2 ∧ (cls = 0 → r.user.isCopyAhead = true ∨ 4 * r.bytes ≤ (s.gate l r.gate).floor) ∧
      (cls = 1 → 4 * r.bytes ≤ (s.gate l r.gate).rate) := by
  unfold State.flumePick at h
  dsimp only at h
  split at h
  · next x first =>
    obtain ⟨rfl, rfl⟩ := Prod.mk.inj (Option.some.inj h)
    obtain ⟨waits, serves⟩ := nextReq_sound first
    exact ⟨waits, by omega, fun _ => by simpa using serves, by omega⟩
  · split at h
    · next x second =>
      obtain ⟨rfl, rfl⟩ := Prod.mk.inj (Option.some.inj h)
      obtain ⟨waits, serves⟩ := nextReq_sound second
      exact ⟨waits, by omega, by omega, fun _ => by simpa using serves⟩
    · obtain ⟨x, third, e⟩ := Option.map_eq_some_iff.mp h
      obtain ⟨rfl, rfl⟩ := Prod.mk.inj e
      exact ⟨(nextReq_sound third).1, le_rfl, by omega, by omega⟩

/-! ### A request taken -/

section
variable (s : State) (l : Nat)

/-- A die changed elsewhere than in its gates. -/
theorem State.setLand_gate {x : LandDie} (h : x.gates = (s.land l).gates) (g : Nat) : (s.setLand l x).gate l g = s.gate l g := by
  simp [State.gate, State.land, State.setLand, State.setMem, h, State.gateCfg]

@[simp] theorem State.setLand_land (x : LandDie) : (s.setLand l x).land l = x := Tab.get_set_same _ _ _ _

theorem State.flumeArrive_gate (rs : List FlumeReq) (g : Nat) : (s.flumeArrive l rs).gate l g = s.gate l g :=
  s.setLand_gate l (by rfl) g

/-- What serving a request takes from its gate. -/
def Gate.taken (x : Gate) (bytes cls : Nat) : Gate :=
  { x with rate  := if cls ≤ 1 then x.rate - 4 * bytes else x.rate
           floor := if cls = 0 then x.floor - 4 * bytes else x.floor }

theorem Gate.taken_rate (x : Gate) (bytes cls : Nat) : (x.taken bytes cls).rate = x.rate - (if cls ≤ 1 then 4 * bytes else 0) := by
  by_cases h : cls ≤ 1 <;> simp [Gate.taken, h]

theorem Gate.taken_floor (x : Gate) (bytes cls : Nat) : (x.taken bytes cls).floor = x.floor - (if cls = 0 then 4 * bytes else 0) := by
  by_cases h : cls = 0 <;> simp [Gate.taken, h]

/-- A grant changes its own gate's buckets, and the die's queue, and counts. -/
theorem State.flumeTake_eq (r : FlumeReq) (cls : Nat) : ∃ x c, s.flumeTake l r cls =
      ((s.setGate l r.gate ((s.gate l r.gate).taken r.bytes cls)).setLand l x).setCounters c ∧
    x.gates = ((s.setGate l r.gate ((s.gate l r.gate).taken r.bytes cls)).land l).gates ∧ x.waiting = (s.land l).waiting.erase r := by
  have waits : ((s.setGate l r.gate ((s.gate l r.gate).taken r.bytes cls)).land l).waiting = (s.land l).waiting := by
    rw [State.setGate, State.setLand_land]
  unfold State.flumeTake
  dsimp only
  split
  · exact ⟨_, _, rfl, rfl, congrArg (List.erase · r) waits⟩
  · exact ⟨_, s.counters, rfl, rfl, congrArg (List.erase · r) waits⟩

theorem State.flumeTake_gate (r : FlumeReq) (cls : Nat) : (s.flumeTake l r cls).gate l r.gate = (s.gate l r.gate).taken r.bytes cls := by
  obtain ⟨x, c, e, gates, -⟩ := s.flumeTake_eq l r cls
  rw [e]
  exact (State.setLand_gate _ l gates _).trans (State.setGate_gate s l _ _)

theorem State.flumeTake_gate_ne (r : FlumeReq) (cls : Nat) {g : Nat} (h : g ≠ r.gate) :
    (s.flumeTake l r cls).gate l g = s.gate l g := by
  obtain ⟨x, c, e, gates, -⟩ := s.flumeTake_eq l r cls
  rw [e]
  exact (State.setLand_gate _ l gates _).trans (State.setGate_gate_ne s (fun _ => h.symm) _)

theorem State.flumeTake_waiting (r : FlumeReq) (cls : Nat) : ((s.flumeTake l r cls).land l).waiting = (s.land l).waiting.erase r := by
  obtain ⟨x, c, e, -, waits⟩ := s.flumeTake_eq l r cls
  rw [e]
  exact (congrArg LandDie.waiting (State.setLand_land _ l x)).trans waits

/-- The stacked memory, the dies' stores and the stands are no part of a grant. -/
theorem State.flumeTake_kept (r : FlumeReq) (cls : Nat) :
    (s.flumeTake l r cls).hbm = s.hbm ∧ (s.flumeTake l r cls).comp = s.comp ∧ (s.flumeTake l r cls).stands = s.stands := by
  obtain ⟨x, c, e, -⟩ := s.flumeTake_eq l r cls
  rw [e]
  exact ⟨rfl, rfl, rfl⟩

end

/-! ### The statement's clauses -/

section
variable {s : State} {d slot : Nat} {rs : List FlumeReq} (alive : s.alive = true) (hd : d < s.variant.landDies)
include alive hd

theorem exec_flumeGrant_closed (closed : slotOpen (s.zone d).step slot = false) :
    exec (.flumeGrant d ⟨slot, rs⟩) s = .next (s.flumeArrive d rs) := by
  simp [exec, execFlumeGrant, alive, hd.not_ge, closed]

theorem exec_flumeGrant_none (none : (s.flumeArrive d rs).flumePick d ((s.flumeArrive d rs).land d).waiting = none) :
    exec (.flumeGrant d ⟨slot, rs⟩) s = .next (s.flumeArrive d rs) := by
  simp [exec, execFlumeGrant, alive, hd.not_ge, none]

theorem exec_flumeGrant_some {r : FlumeReq} {cls : Nat} (opened : slotOpen (s.zone d).step slot = true)
    (picked : (s.flumeArrive d rs).flumePick d ((s.flumeArrive d rs).land d).waiting = some (r, cls)) :
    exec (.flumeGrant d ⟨slot, rs⟩) s = .next ((s.flumeArrive d rs).flumeTake d r cls) := by
  simp [exec, execFlumeGrant, alive, hd.not_ge, opened, picked]

theorem exec_flumeGrant_takes {r : FlumeReq} {cls : Nat} (opened : slotOpen (s.zone d).step slot = true)
    (picked : (s.flumeArrive d rs).flumePick d ((s.flumeArrive d rs).land d).waiting = some (r, cls)) :
    ∃ t, exec (.flumeGrant d ⟨slot, rs⟩) s = .next t ∧ r ∈ ((s.flumeArrive d rs).land d).waiting ∧ cls ≤ 2 ∧
      (cls = 0 → r.user.isCopyAhead = true ∨ 4 * r.bytes ≤ (s.gate d r.gate).floor) ∧
      (cls = 1 → 4 * r.bytes ≤ (s.gate d r.gate).rate) ∧
      (t.gate d r.gate).rate = (s.gate d r.gate).rate - (if cls ≤ 1 then 4 * r.bytes else 0) ∧
      (t.gate d r.gate).floor = (s.gate d r.gate).floor - (if cls = 0 then 4 * r.bytes else 0) ∧
      (∀ g, g ≠ r.gate → t.gate d g = s.gate d g) ∧ (t.land d).waiting = ((s.flumeArrive d rs).land d).waiting.erase r ∧
      t.hbm = s.hbm ∧ t.comp = s.comp ∧ t.stands = s.stands ∧ t.frame = s.frame := by
  have run := exec_flumeGrant_some alive hd opened picked
  have gates := s.flumeArrive_gate d rs
  obtain ⟨waits, three, first, second⟩ := State.flumePick_sound picked
  obtain ⟨hbm, comp, stands⟩ := (s.flumeArrive d rs).flumeTake_kept d r cls
  rw [gates] at first second
  refine ⟨_, run, waits, three, first, second, ?_, ?_, fun g hg => ?_, State.flumeTake_waiting _ d r cls, hbm, comp, stands,
    exec_frame _ rfl run⟩
  · rw [State.flumeTake_gate, Gate.taken_rate, gates]
  · rw [State.flumeTake_gate, Gate.taken_floor, gates]
  · rw [State.flumeTake_gate_ne _ d r cls hg, gates]

theorem exec_flumeBurstSample_busy {g bytes : Nat} (hg : g < 66) (enabled : (s.gateCfg d g).enabled = true) :
    exec (.flumeBurstSample d g bytes true) s = .next (s.setGate d g { s.gate d g with
      est     := (s.gate d g).est + ((bytes : Rat) / 1024 - (s.gate d g).est) / 8
      samples := min 32 ((s.gate d g).samples + 1) }) := by
  simp [exec, execFlumeBurstSample, alive, hd, hg, enabled]

end

theorem exec_flumeBurstSample_idle (s : State) (d g bytes : Nat) : exec (.flumeBurstSample d g bytes false) s = .next s := by
  simp [exec, execFlumeBurstSample]

/-! ### A block staged -/

theorem cellGet_filter {q : Nat → Bool} {k : Nat} (h : q k = true) (t : Cells) : cellGet (t.filter fun p => q p.1) k = cellGet t k := by
  induction t with
  | nil => rfl
  | cons p t ih =>
    by_cases here : p.1 = k
    · simp [here, h, cellGet]
    · rw [List.filter_cons]
      split <;> simp [cellGet, here, ih]

theorem Tab.get_filter {α : Type} (d : α) {q : Nat → Bool} {k : Nat} (h : q k = true) (t : Tab α) :
    Tab.get d (t.filter fun p => q p.1) k = t.get d k := by
  induction t with
  | nil => rfl
  | cons p t ih =>
    by_cases here : p.1 = k
    · simp [here, h, Tab.get]
    · rw [List.filter_cons]
      split <;> simp [Tab.get, here, ih]

/-- The bytes between two addresses read as they do in the whole store. -/
theorem Mem.read_within {m : Mem} {lo hi k : Nat} (aligned : 16 ∣ lo) (low : lo ≤ k) (high : k < hi) :
    Mem.read ⟨cellsIn m lo hi, diffsIn m lo hi⟩ k = m.read k := by
  have bytes : cellGet (cellsIn m lo hi) k = cellGet m.bytes k :=
    cellGet_filter (q := fun a => decide (lo ≤ a) && decide (a < hi)) (by simp [low, high]) m.bytes
  have word : lo ≤ 16 * (k / 16) ∧ 16 * (k / 16) < hi := by omega
  have diff : Tab.get (0, 0) (diffsIn m lo hi) (k / 16) = m.diff.get (0, 0) (k / 16) :=
    Tab.get_filter (0, 0) (q := fun w => decide (lo ≤ 16 * w) && decide (16 * w < hi)) (by simp [word]) m.diff
  simp only [Mem.read, Mem.check, Mem.diffAt, Mem.raw, bytes, diff]

section
variable {s : State} {d st b : Nat}

theorem State.wantStage_unstaged (h : (s.wantStage d b).contains st = true) : (s.land d).isStaged st b = false := by
  obtain ⟨p, hp, rfl⟩ := List.mem_map.mp (List.contains_iff_mem.mp h)
  obtain ⟨-, both⟩ := List.mem_filter.mp hp
  simpa using (Bool.and_eq_true_iff.mp both).2

theorem State.stage_staged : ((s.stage st d b).land d).staged = (s.land d).staged ++ [⟨st, b,
    cellsIn s.hbm (hbmKey d (65536 * b)) (hbmKey d (65536 * b) + 65536),
    diffsIn s.hbm (hbmKey d (65536 * b)) (hbmKey d (65536 * b) + 65536)⟩] := congrArg LandDie.staged (s.setLand_land d _)

/-- The block staged is the one found. -/
theorem State.stage_stagedMem (new : (s.land d).isStaged st b = false) : ((s.stage st d b).land d).stagedMem st b =
    some ⟨cellsIn s.hbm (hbmKey d (65536 * b)) (hbmKey d (65536 * b) + 65536),
      diffsIn s.hbm (hbmKey d (65536 * b)) (hbmKey d (65536 * b) + 65536)⟩ := by
  have absent : (s.land d).staged.find? (fun x => decide (x.stand = st) && decide (x.block = b)) = none := by
    rw [List.find?_eq_none]
    exact fun x hx holds => Bool.false_ne_true (new.symm.trans (List.any_eq_true.mpr ⟨x, hx, holds⟩))
  rw [LandDie.stagedMem, State.stage_staged, List.find?_append, absent]
  simp

theorem exec_copyAhead_idle (h : (s.wantStage d b).contains st = false ∨ 4096 ≤ (s.land d).staged.length) :
    exec (.copyAhead d st b) s = .next s := by
  have idle : ¬((s.wantStage d b).contains st = true ∧ (s.land d).staged.length < 4096) := by
    rintro ⟨wanted, room⟩
    obtain absent | full := h
    · exact Bool.false_ne_true (absent.symm.trans wanted)
    · omega
  simp only [exec, execCopyAhead, idle, if_false]

theorem exec_copyAhead_stages (wanted : (s.wantStage d b).contains st = true) (room : (s.land d).staged.length < 4096) :
    ∃ t m, exec (.copyAhead d st b) s = .next t ∧ t.hbm = s.hbm ∧ (t.land d).stagedMem st b = some m ∧
      (∀ k, hbmKey d (65536 * b) ≤ k → k < hbmKey d (65536 * b) + 65536 → m.read k = s.hbm.read k) ∧
      (t.land d).staged.length = (s.land d).staged.length + 1 ∧
      t.counters.get (kStand st cLndCopyahead) = s.counters.get (kStand st cLndCopyahead) + 1 ∧
      t.comp = s.comp ∧ t.stands = s.stands ∧ t.frame = s.frame := by
  have run : exec (.copyAhead d st b) s = .next (s.stage st d b) := by
    simp only [exec, execCopyAhead, wanted, room, and_self, if_true]
  have aligned : 16 ∣ hbmKey d (65536 * b) := by unfold hbmKey; omega
  refine ⟨_, _, run, rfl, State.stage_stagedMem (State.wantStage_unstaged wanted), fun k low high => Mem.read_within aligned low high,
    ?_, State.count_one _ _, rfl, rfl, exec_frame _ rfl run⟩
  rw [State.stage_staged, List.length_append, List.length_singleton]

end

/-! ### Everything assembled -/

/-- Settles O55: each clause by the lemma about its command. -/
theorem memoryMaintenance : Obligations.MemoryMaintenance := by
  unfold Obligations.MemoryMaintenance
  refine ⟨fun s x w m row alive hw hp => ?_, fun s d b alive trained hd hb => ⟨exec_hbmScrub_again, fun todo => ⟨fun faults backs clean => ?_,
      fun j i v w n hj hw hn faults backs corrected clean => ?_, fun w i n v x faults backs hx corrected hn new clean => ?_⟩⟩,
    fun s n words alive hn none => ?_, fun s n words kind id done ms alive hn moves => ?_,
    fun s d g idle alive hd hg enabled nodup => ?_, fun s t0 d slot rs alive hd ht => ?_,
    fun s d g bytes alive hd hg enabled => ⟨exec_flumeBurstSample_busy alive hd hg enabled, exec_flumeBurstSample_idle s d g bytes⟩,
    fun s d st b => ⟨exec_copyAhead_idle, exec_copyAhead_stages⟩⟩
  · obtain ⟨run, hbm, frame⟩ := exec_sramScrub_kept m row alive hw hp
    refine ⟨fun clean => by rw [run, State.scrubWord_clean m row clean], fun i v corrected new => ?_, fun i v corrected old room => ?_,
      fun bad room new => ?_, fun bad full new active => ?_⟩
    · obtain ⟨sram, scrubbed, spared, mem, stands⟩ := State.scrubWord_writesBack m row corrected new
      exact ⟨_, run, sram, scrubbed, spared, hbm, mem, stands, frame⟩
    · obtain ⟨sram, scrubbed, spared, entry, mem, stands⟩ := State.scrubWord_againMoves m row corrected old room
      exact ⟨_, run, sram, scrubbed, spared, entry, hbm, mem, stands, frame⟩
    · obtain ⟨sram, spared, entry, mem, stands⟩ := State.scrubWord_poisonMoves m row bad room new
      exact ⟨_, run, sram, spared, entry, hbm, mem, stands, frame⟩
    · obtain ⟨retired, marked, mem⟩ := State.scrubWord_poisonFull m row bad full new active
      exact ⟨_, run, retired, marked, hbm, mem, frame⟩
  · exact ⟨fun more => by rw [exec_hbmScrub_clean alive trained hd hb todo faults backs clean, State.scrubProgress_goesOn _ more],
      exec_hbmScrub_passEnds alive trained hd hb todo faults backs clean⟩
  · subst hn
    exact exec_hbmScrub_corrects alive trained hd hb todo hj hw faults backs corrected clean
  · subst hn
    exact ⟨exec_hbmScrub_writesBack alive trained hd hb todo faults backs hx new clean corrected,
      fun data _ => exec_hbmScrub_drops alive trained hd hb todo faults backs hx new clean data⟩
  · rw [exec_repairMove alive hn, State.repairMove_none words none]
  · exact ⟨fun more => by rw [exec_repairMove alive hn, State.repairMove_goesOn moves more],
      fun all clean => by rw [exec_repairMove alive hn, State.repairMove_ends moves all clean]⟩
  · have filled := tick_gate alive hd hg enabled nodup
    exact ⟨tick s, by rw [step, idle], congrArg Gate.rate filled, congrArg Gate.floor filled⟩
  · subst ht
    exact ⟨exec_flumeGrant_closed alive hd, fun _ none => exec_flumeGrant_none alive hd none,
      fun r cls opened picked => exec_flumeGrant_takes alive hd opened picked⟩

end Sys2Proof.Machine
end

section
/-! The landing engines (spec/08): what their work touches besides memory, how it ends, and what is written to memory whose words all
check. -/

namespace Sys2Proof.Machine

/-! ### What the work touches -/

/-- From `s` to `t` nothing changes but memory, update groups, what is to be classified, counters, free values, and the steps of stand
`st`. -/
structure State.landAside (s t : State) (st : Nat) : Prop where
  steps : s.stepsOnly t st
  others : s.standOnly t st
  comp : t.comp = s.comp
  frame : t.frame = s.frame

/-- The same, and no update group changes. -/
structure State.landWork (s t : State) (st : Nat) : Prop extends s.landAside t st where
  groups : t.mem.groups = s.mem.groups

section
variable {s t u : State} {st : Nat}

theorem State.landAside.trans (h : s.landAside t st) (k : t.landAside u st) : s.landAside u st :=
  ⟨h.steps.trans k.steps, fun j hj => (k.others j hj).trans (h.others j hj), k.comp.trans h.comp, k.frame.trans h.frame⟩

theorem State.landWork.trans (h : s.landWork t st) (k : t.landWork u st) : s.landWork u st :=
  ⟨h.tolandAside.trans k.tolandAside, k.groups.trans h.groups⟩

theorem State.landAside.of_stands (stands : t.stands = s.stands) (comp : t.comp = s.comp) (frame : t.frame = s.frame) :
    s.landAside t st := by
  have same : ∀ k, t.stand k = s.stand k := fun k => by rw [State.stand, stands]; rfl
  exact ⟨by rw [State.stepsOnly, same], fun k _ => same k, comp, frame⟩

theorem State.landWork.ugroup (h : s.landWork t st) (k : Nat) : t.ugroup k = s.ugroup k := by
  rw [State.ugroup, h.groups, State.udef, img_of_frame h.frame]; rfl

theorem State.landAside.cmd (h : s.landAside t st) (tkt : Nat) : (t.stand st).cmd tkt = (s.stand st).cmd tkt := by
  rw [h.steps]; rfl

/-- Work begun for a command in flight ends with that command: what the stand shows of it. -/
theorem State.landAside.ends {tkt : Nat} {c d : Cmd} (h : s.landAside t st) (hc : (s.stand st).cmd tkt = some c) (hd : d.ticket = tkt) :
    (t.engineDone st d).stageOf st tkt = some .done ∧ (t.engineDone st d).comp = s.comp ∧
      ((t.engineDone st d).stand st).outputs = (s.stand st).outputs ∧ s.standOnly (t.engineDone st d) st := by
  subst hd
  have inflight := (h.cmd d.ticket).trans hc
  have outputs : (t.stand st).outputs = (s.stand st).outputs := by rw [h.steps]; rfl
  refine ⟨by rw [State.stageOf, State.engineDone_cmd inflight]; rfl, h.comp, State.engineDone_outputs.trans outputs, fun k hk => ?_⟩
  exact (State.engineDone_standOnly k hk).trans (h.others k hk)

end

/-! ### Counts and the command's end, and memory -/

section
variable (s : State) (st : Nat)

@[simp] theorem State.count_hbm (k n : Nat) : (s.count k n).hbm = s.hbm := by rfl
@[simp] theorem State.countFmt_hbm (w : WrCount) : (s.countFmt st w).hbm = s.hbm := by simp [State.countFmt]
@[simp] theorem State.countFmt_mem (w : WrCount) : (s.countFmt st w).mem = s.mem := by simp [State.countFmt]
@[simp] theorem State.engineDone_hbm (c : Cmd) : (s.engineDone st c).hbm = s.hbm := by rfl
@[simp] theorem State.engineDone_mem (c : Cmd) : (s.engineDone st c).mem = s.mem := by rfl
@[simp] theorem State.engineDone_ugroup (c : Cmd) (k : Nat) : (s.engineDone st c).ugroup k = s.ugroup k := by rfl
@[simp] theorem State.setUgroup_hbm (k : Nat) (x : UGroup) : (s.setUgroup k x).hbm = s.hbm := by rfl

@[simp] theorem State.setUgroup_ugroup_same (k : Nat) (x : UGroup) : (s.setUgroup k x).ugroup k = x := by
  simp [State.ugroup, State.setUgroup]

theorem State.setUgroup_ugroup_ne {k j : Nat} (h : j ≠ k) (x : UGroup) : (s.setUgroup k x).ugroup j = s.ugroup j := by
  exact Tab.get_set_ne _ s.mem.groups k j x (Ne.symm h)

end

/-! ### Operations that keep to it -/

section
variable (s : State) (st : Nat)

theorem State.landWork.refl : s.landWork s st := ⟨.of_stands rfl rfl rfl, rfl⟩
theorem State.setHbm_landWork (m : Mem) : s.landWork (s.setHbm m) st := ⟨.of_stands rfl rfl rfl, rfl⟩
theorem State.count_landWork (k n : Nat) : s.landWork (s.count k n) st := ⟨.of_stands rfl rfl rfl, rfl⟩
theorem State.setFreeCtr_landWork (n : Nat) : s.landWork (s.setFreeCtr n) st := ⟨.of_stands rfl rfl rfl, rfl⟩
theorem State.addFault_landWork (w : Nat) (pos : Option Nat) : s.landWork (s.addFault w pos) st := ⟨.of_stands rfl rfl rfl, rfl⟩
theorem State.setUgroup_landAside (k : Nat) (x : UGroup) : s.landAside (s.setUgroup k x) st := .of_stands rfl rfl rfl

theorem State.countFmt_landWork (w : WrCount) : s.landWork (s.countFmt st w) st :=
  ((((s.count_landWork st _ _).trans (State.count_landWork _ st _ _)).trans (State.count_landWork _ st _ _)).trans
    (State.count_landWork _ st _ _)).trans (State.count_landWork _ st _ _)

theorem State.markCmd_landWork (c : Cmd) (cause : Nat) : s.landWork (s.markCmd st c cause) st := by
  obtain ⟨others, ⟨-, comp, mem⟩, -, -, -, -, -, -, -, frame⟩ := s.markCmd_onlyStand st c cause
  exact ⟨⟨(s.markCmd_worked st (fun _ => True) c cause).steps, others, comp, frame⟩, congrArg MemSys.groups mem⟩

theorem State.foldl_landWork {α : Type} {f : State → α → State} (h : ∀ (u : State) a, u.landWork (f u a) st) (l : List α) :
    s.landWork (l.foldl f s) st := by
  induction l generalizing s with
  | nil => exact State.landWork.refl s st
  | cons a l ih => exact (h s a).trans (ih (f s a))

theorem State.foldl_landAside {α : Type} {f : State → α → State} (h : ∀ (u : State) a, u.landAside (f u a) st) (l : List α) :
    s.landAside (l.foldl f s) st := by
  induction l generalizing s with
  | nil => exact (State.landWork.refl s st).tolandAside
  | cons a l ih => exact (h s a).trans (ih (f s a))

theorem State.noteWord_landWork (w : Nat) : s.landWork (s.noteWord w) st := by
  unfold State.noteWord
  split
  · exact State.landWork.refl s st
  · exact (s.count_landWork st _ _).trans (State.addFault_landWork _ st _ _)
  · dsimp only
    split
    · exact s.count_landWork st _ _
    · exact (((s.count_landWork st _ _).trans (State.setHbm_landWork _ st _)).trans (State.count_landWork _ st _ _)).trans
        (State.addFault_landWork _ st _ _)

theorem State.noteWords_landWork (ws : List Nat) : s.landWork (s.noteWords ws) st := by
  unfold State.noteWords
  split
  · exact State.landWork.refl s st
  · exact s.foldl_landWork st (fun u w => u.noteWord_landWork st w) ws

theorem State.putRegion_landWork (r off n : Nat) (bs : List (Nat × Byte)) : s.landWork (s.putRegion r off n bs) st :=
  s.setHbm_landWork st _

theorem State.copyRegion_landWork (src dst off n : Nat) : s.landWork (s.copyRegion src dst off n) st := s.setHbm_landWork st _

theorem State.poisonWords_landWork (ws : List Nat) : s.landWork (s.poisonWords ws) st :=
  (s.setHbm_landWork st _).trans (State.setFreeCtr_landWork _ st _)

/-- The step of the command marked where words failed correction. -/
def State.markBad (c : Cmd) (bad : List Nat) : State := if bad = [] then s else s.markCmd st c 6

theorem State.markBad_landWork (c : Cmd) (bad : List Nat) : s.landWork (s.markBad st c bad) st := by
  unfold State.markBad
  split
  · exact State.landWork.refl s st
  · exact s.markCmd_landWork st c 6

@[simp] theorem State.markBad_nil (c : Cmd) : s.markBad st c [] = s := rfl

end

/-- The words of a list that fail correction; none where no word has a check difference. -/
def State.badOf (s : State) (ws : List Nat) : List Nat := if s.hbm.diff = [] then [] else ws.filter s.hbm.bad

theorem State.badOf_clean {s : State} (h : s.hbm.diff = []) (ws : List Nat) : s.badOf ws = [] := if_pos h

theorem State.badOf_eq_nil (s : State) (ws : List Nat) : s.badOf ws = [] ↔ ws.any s.hbm.bad = false := by
  unfold State.badOf
  split
  · next clean => simp [Mem.bad_of_diff_nil clean]
  · simp [List.filter_eq_nil_iff]

/-! ### Memory whose words all check -/

section
variable {m : Mem}

theorem Mem.check_of_diff_nil (h : m.diff = []) (w : Nat) : m.check w = .clean := by
  simp only [Mem.check, Mem.diffAt, h, Tab.get_nil]; decide

theorem Mem.setDiff_zero (h : m.diff = []) (w : Nat) : m.setDiff w (0, 0) = m := by
  obtain ⟨bytes, diff⟩ := m
  obtain rfl : diff = [] := h
  rfl

/-- Bytes written to places, each by its key. -/
def Mem.writePlaces {α : Type} (m : Mem) (key : α → Nat) (ws : List (α × Byte)) : Mem :=
  ws.foldl (fun m p => m.writeRaw (key p.1) p.2) m

section
variable {α β : Type} (key : α → Nat)

theorem Mem.writePlaces_append (m : Mem) (l₁ l₂ : List (α × Byte)) :
    m.writePlaces key (l₁ ++ l₂) = (m.writePlaces key l₁).writePlaces key l₂ := List.foldl_append

theorem Mem.writePlaces_map (m : Mem) (f : β → α) (ws : List (β × Byte)) :
    m.writePlaces key (ws.map fun p => (f p.1, p.2)) = m.writePlaces (fun b => key (f b)) ws := List.foldl_map

theorem Mem.writePlaces_diff (m : Mem) (ws : List (α × Byte)) : (m.writePlaces key ws).diff = m.diff := by
  induction ws generalizing m with
  | nil => rfl
  | cons p ws ih => exact ih (m.writeRaw (key p.1) p.2)

theorem Mem.writePlaces_wf {m : Mem} (h : m.wf = true) (ws : List (α × Byte)) : (m.writePlaces key ws).wf = true :=
  Mem.foldl_wf (fun _ h => Mem.writeRaw_wf h _ _) ws h

theorem Mem.writePlaces_read_ne (m : Mem) {k : Nat} {ws : List (α × Byte)} (h : ∀ p ∈ ws, key p.1 ≠ k) :
    (m.writePlaces key ws).read k = m.read k := by
  induction ws generalizing m with
  | nil => rfl
  | cons p ws ih =>
    refine (ih _ fun q hq => h q (List.mem_cons_of_mem p hq)).trans ?_
    exact Mem.read_writeRaw_ne m (h p List.mem_cons_self).symm p.2

/-- A byte written to a place whose key no other place has, and that takes no other byte, is read there. -/
theorem Mem.writePlaces_read {a : α} {b : Byte} {ws : List (α × Byte)} (clean : m.diff = []) (form : m.wf = true) (h : (a, b) ∈ ws)
    (apart : ∀ p ∈ ws, key p.1 = key a → p = (a, b)) : (m.writePlaces key ws).read (key a) = b := by
  induction ws generalizing m with
  | nil => exact absurd h List.not_mem_nil
  | cons p ws ih =>
    have rest : ∀ q ∈ ws, key q.1 = key a → q = (a, b) := fun q hq => apart q (List.mem_cons_of_mem p hq)
    by_cases later : (a, b) ∈ ws
    · exact ih clean (Mem.writeRaw_wf form _ _) later rest
    · obtain rfl : (a, b) = p := (List.mem_cons.mp h).resolve_right later
      refine (Mem.writePlaces_read_ne key _ fun q hq e => later (rest q hq e ▸ hq)).trans ?_
      exact Mem.read_writeRaw_same (Mem.check_of_diff_nil clean _) form b

end

theorem Mem.foldl_setDiff_zero {α : Type} (h : m.diff = []) (f : α → Nat) (l : List α) :
    l.foldl (fun m a => m.setDiff (f a) (0, 0)) m = m := by
  induction l with
  | nil => rfl
  | cons a l ih => rw [List.foldl_cons, Mem.setDiff_zero h, ih]

theorem Mem.writeRawN_diff (a : Nat) (bs : List Byte) : (m.writeRawN a bs).diff = m.diff := by
  induction bs generalizing m a with
  | nil => rfl
  | cons b bs ih => exact ih (a + 1)

theorem Mem.writeRawN_read_ne {a k : Nat} {bs : List Byte} (h : k < a ∨ a + bs.length ≤ k) :
    (m.writeRawN a bs).read k = m.read k := by
  induction bs generalizing m a with
  | nil => rfl
  | cons b bs ih =>
    rw [List.length_cons] at h
    exact (ih (by omega)).trans (Mem.read_writeRaw_ne m (by omega) b)

section
variable (h : m.diff = []) (src dst : Nat)
include h

theorem Mem.copyWord_eq : m.copyWord src dst = m.writeRawN (16 * dst) ((List.range 16).map fun i => m.raw (16 * src + i)) := by
  have word : m.diffAt src = (0, 0) := by rw [Mem.diffAt, h]; rfl
  rw [Mem.copyWord, word, Mem.setDiff_zero ((Mem.writeRawN_diff _ _).trans h)]

theorem Mem.copyWord_diff : (m.copyWord src dst).diff = [] := by
  rw [Mem.copyWord_eq h]; exact (Mem.writeRawN_diff _ _).trans h

theorem Mem.copyWord_read_ne {k : Nat} (hk : dst ≠ k / 16) : (m.copyWord src dst).read k = m.read k := by
  rw [Mem.copyWord_eq h]
  exact Mem.writeRawN_read_ne (by rw [List.length_map, List.length_range]; omega)

end

/-- What each step keeps, all of them keep. -/
theorem Mem.foldl_keeps {α : Type} {f : Mem → α → Mem} {l : List α} {P : Mem → Prop} (h : P m) (step : ∀ m, P m → ∀ a ∈ l, P (f m a)) :
    P (l.foldl f m) := by
  induction l generalizing m with
  | nil => exact h
  | cons a l ih => exact ih (step m h a List.mem_cons_self) fun m hm b hb => step m hm b (List.mem_cons_of_mem a hb)

section
variable (h : m.diff = []) (src dst : Nat → Nat)
include h

theorem Mem.foldl_copyWord_diff (l : List Nat) : (l.foldl (fun m o => m.copyWord (src o) (dst o)) m).diff = [] :=
  Mem.foldl_keeps (P := fun m => m.diff = []) h fun _ hm o _ => Mem.copyWord_diff hm (src o) (dst o)

theorem Mem.foldl_copyWord_read_ne {k : Nat} {l : List Nat} (hk : ∀ o ∈ l, dst o ≠ k / 16) :
    (l.foldl (fun m o => m.copyWord (src o) (dst o)) m).read k = m.read k := by
  obtain ⟨-, same⟩ := Mem.foldl_keeps (f := fun m o => m.copyWord (src o) (dst o)) (l := l)
    (P := fun u => u.diff = [] ∧ u.read k = m.read k) ⟨h, rfl⟩ fun u hu o ho =>
      ⟨Mem.copyWord_diff hu.1 (src o) (dst o), (Mem.copyWord_read_ne hu.1 (src o) (dst o) (hk o ho)).trans hu.2⟩
  exact same

end

end

/-! ### Writes of a region -/

theorem State.regionKey_of_frame {s t : State} (h : t.frame = s.frame) : t.regionKey = s.regionKey := by
  have variant : t.variant = s.variant := congrArg (fun f => f.2.1) h
  funext r off
  simp only [State.regionKey, State.region, State.placeBase, img_of_frame h, variant]

section
variable {s : State} (clean : s.hbm.diff = [])
include clean

theorem State.noteWords_clean (ws : List Nat) : s.noteWords ws = s := if_pos clean

theorem State.putRegion_clean (r off n : Nat) (bs : List (Nat × Byte)) :
    (s.putRegion r off n bs).hbm = s.hbm.writePlaces (s.regionKey r) bs := by
  rw [State.putRegion, Mem.foldl_setDiff_zero clean fun w => w]; rfl

theorem State.copyRegion_diff (src dst off n : Nat) : (s.copyRegion src dst off n).hbm.diff = [] :=
  Mem.foldl_copyWord_diff clean _ _ _

theorem State.copyRegion_read_ne {src dst off n k : Nat} (h : ∀ o ∈ wordAddrs off n, s.regionKey dst o / 16 ≠ k / 16) :
    (s.copyRegion src dst off n).hbm.read k = s.hbm.read k :=
  Mem.foldl_copyWord_read_ne clean _ _ h

end

/-- Regions copied one after another where every word checks. -/
theorem State.copyRegions_clean {α : Type} {s t : State} (frame : t.frame = s.frame) (clean : t.hbm.diff = []) (src dst : α → Nat)
    (range : α → Nat × Nat) (l : List α) :
    (l.foldl (fun t a => t.copyRegion (src a) (dst a) (range a).1 (range a).2) t).hbm.diff = [] ∧
    (t.hbm.wf = true → (l.foldl (fun t a => t.copyRegion (src a) (dst a) (range a).1 (range a).2) t).hbm.wf = true) ∧
    ∀ key, (∀ a ∈ l, ∀ o ∈ wordAddrs (range a).1 (range a).2, s.regionKey (dst a) o / 16 ≠ key / 16) →
      (l.foldl (fun t a => t.copyRegion (src a) (dst a) (range a).1 (range a).2) t).hbm.read key = t.hbm.read key := by
  induction l generalizing t with
  | nil => exact ⟨clean, id, fun _ _ => rfl⟩
  | cons a l ih =>
    obtain ⟨cleared, formed, kept⟩ := ih (t := t.copyRegion (src a) (dst a) (range a).1 (range a).2) frame
      (State.copyRegion_diff clean _ _ _ _)
    refine ⟨cleared, fun form => formed (Mem.foldl_wf (fun _ hm => Mem.copyWord_wf hm _ _) _ form), fun key apart => ?_⟩
    refine (kept key fun b hb => apart b (List.mem_cons_of_mem a hb)).trans (State.copyRegion_read_ne clean ?_)
    rw [State.regionKey_of_frame frame]
    exact apart a List.mem_cons_self

/-- No word to poison: memory stays. -/
theorem State.poisonWords_nil (s : State) : (s.poisonWords []).hbm = s.hbm := rfl

end Sys2Proof.Machine
end

section
/-! A role written under its format word (spec/08 R193, R201, spec/06 R135): the blocks and the offsets, and the bytes by offset. -/

namespace Sys2Proof.Machine

/-! ### Codes by offset -/

theorem mem_putCode {o w code : Nat} {p : Nat × Byte} :
    p ∈ putCode o w code ↔ ∃ k, k < w ∧ p = (o + k, BitVec.ofNat 8 (code / 256 ^ k)) := by
  simp only [putCode, List.mem_map, List.mem_range, eq_comm]

/-- The bytes of elements of one width, by offset. -/
def elemBytes (w : Nat) (codes : List (Nat × Nat)) : List (Nat × Byte) := codes.flatMap fun p => putCode (p.1 * w) w p.2

theorem mem_elemBytes {w : Nat} {codes : List (Nat × Nat)} {p : Nat × Byte} :
    p ∈ elemBytes w codes ↔ ∃ e c k, (e, c) ∈ codes ∧ k < w ∧ p = (e * w + k, BitVec.ofNat 8 (c / 256 ^ k)) := by
  simp only [elemBytes, List.mem_flatMap, mem_putCode, Prod.exists]
  exact ⟨fun ⟨e, c, h, k, r⟩ => ⟨e, c, k, h, r⟩, fun ⟨e, c, k, h, r⟩ => ⟨e, c, h, k, r⟩⟩

/-- An offset belongs to one byte of one element. -/
theorem offset_inj {w e e' k k' : Nat} (hk : k < w) (hk' : k' < w) (h : e * w + k = e' * w + k') : e = e' ∧ k = k' := by
  have element {x i : Nat} (hi : i < w) : (x * w + i) / w = x := by
    rw [Nat.mul_comm, Nat.mul_add_div (by omega), Nat.div_eq_of_lt hi, Nat.add_zero]
  have same : e = e' := by rw [← element (x := e) hk, h, element hk']
  subst same
  exact ⟨rfl, by omega⟩

/-- Where each element has one code, each offset has one byte. -/
theorem elemBytes_one {w o : Nat} {codes : List (Nat × Nat)} {b b' : Byte} (once : ∀ e c c', (e, c) ∈ codes → (e, c') ∈ codes → c = c')
    (h : (o, b) ∈ elemBytes w codes) (h' : (o, b') ∈ elemBytes w codes) : b = b' := by
  obtain ⟨e, c, k, hc, hk, he⟩ := mem_elemBytes.mp h
  obtain ⟨e', c', k', hc', hk', he'⟩ := mem_elemBytes.mp h'
  obtain ⟨rfl, rfl⟩ := Prod.mk.inj he
  obtain ⟨ho, rfl⟩ := Prod.mk.inj he'
  obtain ⟨rfl, rfl⟩ := offset_inj hk hk' ho
  rw [once e c c' hc hc']

/-- Entries listed once have one partner each in a zip. -/
theorem zip_one {α β : Type} {l : List α} {k : List β} (once : l.Nodup) {a : α} {b b' : β} (h : (a, b) ∈ l.zip k)
    (h' : (a, b') ∈ l.zip k) : b = b' := by
  obtain ⟨i, hi, e⟩ := List.mem_iff_getElem.mp h
  obtain ⟨j, hj, e'⟩ := List.mem_iff_getElem.mp h'
  rw [List.getElem_zip] at e e'
  obtain ⟨ea, rfl⟩ := Prod.mk.inj e
  obtain ⟨ea', rfl⟩ := Prod.mk.inj e'
  obtain rfl := (once.getElem_inj_iff).mp (ea.trans ea'.symm)
  rfl

/-! ### Blocks -/

/-- A block of 128 elements: row `r` of two neighbouring units of 4,096 elements, the `p`-th such pair. -/
def pairBlock (first p r : Nat) : List Nat :=
  ((List.range 64).map fun c => first + 8192 * p + 64 * r + c) ++ ((List.range 64).map fun c => first + 8192 * p + 4096 + 64 * r + c)

theorem mem_pairBlock {first p r e : Nat} :
    e ∈ pairBlock first p r ↔ ∃ h c, h < 2 ∧ c < 64 ∧ e = first + 8192 * p + 4096 * h + 64 * r + c := by
  simp only [pairBlock, List.mem_append, List.mem_map, List.mem_range]
  constructor
  · rintro (⟨c, hc, rfl⟩ | ⟨c, hc, rfl⟩)
    · exact ⟨0, c, by omega, hc, by omega⟩
    · exact ⟨1, c, by omega, hc, by omega⟩
  · rintro ⟨h, c, hh, hc, rfl⟩
    obtain rfl | rfl : h = 0 ∨ h = 1 := by omega
    · exact .inl ⟨c, hc, by omega⟩
    · exact .inr ⟨c, hc, by omega⟩

theorem pairBlock_nodup (first p r : Nat) : (pairBlock first p r).Nodup := by
  refine List.Nodup.append ?_ ?_ ?_
  · exact List.nodup_range.map fun _ _ h => by omega
  · exact List.nodup_range.map fun _ _ h => by omega
  · intro e h h'
    obtain ⟨c, hc, rfl⟩ := List.mem_map.mp h
    obtain ⟨c', hc', e⟩ := List.mem_map.mp h'
    have := List.mem_range.mp hc
    omega

/-- A block of `b` elements that lie together, the `i`-th. -/
def runBlock (b first i : Nat) : List Nat := (List.range b).map fun c => first + b * i + c

theorem mem_runBlock {b first i e : Nat} : e ∈ runBlock b first i ↔ ∃ c, c < b ∧ e = first + b * i + c := by
  simp only [runBlock, List.mem_map, List.mem_range, eq_comm]

theorem runBlock_nodup (b first i : Nat) : (runBlock b first i).Nodup := List.nodup_range.map fun _ _ h => by omega

/-- The block sizes of spec/03 Table 3-3. -/
def isBlockSize (b : Nat) : Prop := b = 16 ∨ b = 32 ∨ b = 64 ∨ b = 128

theorem fmtWordOf_block (w : W32) : isBlockSize (fmtWordOf w).block := by
  have code : w.toNat / 16 % 4 < 4 := Nat.mod_lt _ (by decide)
  show isBlockSize (16 * 2 ^ (w.toNat / 16 % 4))
  unfold isBlockSize
  interval_cases w.toNat / 16 % 4 <;> decide

theorem mem_roleBlocks_pair {first n : Nat} {es : List Nat} :
    es ∈ roleBlocks 128 first n ↔ ∃ p r, p < n / 8192 ∧ r < 64 ∧ es = pairBlock first p r := by
  simp only [roleBlocks, if_true, List.mem_flatMap, List.mem_map, List.mem_range]
  exact ⟨fun ⟨p, hp, r, hr, e⟩ => ⟨p, r, hp, hr, e.symm⟩, fun ⟨p, r, hp, hr, e⟩ => ⟨p, hp, r, hr, e.symm⟩⟩

theorem mem_roleBlocks_run {b first n : Nat} {es : List Nat} (hb : b ≠ 128) :
    es ∈ roleBlocks b first n ↔ ∃ i, i < n / b ∧ es = runBlock b first i := by
  simp only [roleBlocks, if_neg hb, List.mem_map, List.mem_range, eq_comm]
  rfl

theorem roleBlocks_cases {b first n : Nat} {es : List Nat} (hb : isBlockSize b) (h : es ∈ roleBlocks b first n) :
    (∃ p r, b = 128 ∧ p < n / 8192 ∧ r < 64 ∧ es = pairBlock first p r) ∨
      ∃ i, (b = 16 ∨ b = 32 ∨ b = 64) ∧ i < n / b ∧ es = runBlock b first i := by
  by_cases pair : b = 128
  · subst pair
    obtain ⟨p, r, hp, hr, e⟩ := mem_roleBlocks_pair.mp h
    exact .inl ⟨p, r, rfl, hp, hr, e⟩
  · obtain ⟨i, hi, e⟩ := (mem_roleBlocks_run pair).mp h
    exact .inr ⟨i, by unfold isBlockSize at hb; omega, hi, e⟩

section
variable {b first n : Nat} {es es' : List Nat} (hb : isBlockSize b) (h : es ∈ roleBlocks b first n)
include hb h

/-- A block lies among the elements. -/
theorem roleBlocks_within {e : Nat} (he : e ∈ es) : first ≤ e ∧ e < first + n := by
  rcases roleBlocks_cases hb h with ⟨p, r, -, hp, hr, rfl⟩ | ⟨i, sizes, hi, rfl⟩
  · obtain ⟨h, c, hh, hc, rfl⟩ := mem_pairBlock.mp he
    omega
  · obtain ⟨c, hc, rfl⟩ := mem_runBlock.mp he
    rcases sizes with rfl | rfl | rfl <;> omega

theorem roleBlocks_once : es.Nodup := by
  rcases roleBlocks_cases hb h with ⟨p, r, -, -, -, rfl⟩ | ⟨i, -, -, rfl⟩
  · exact pairBlock_nodup first p r
  · exact runBlock_nodup b first i

/-- The element whose scale byte is the block's. -/
theorem roleBlocks_head : es.headD 0 ∈ es := by
  rcases roleBlocks_cases hb h with ⟨p, r, -, -, -, rfl⟩ | ⟨i, sizes, -, rfl⟩
  · exact mem_pairBlock.mpr ⟨0, 0, by omega, by omega, rfl⟩
  · rcases sizes with rfl | rfl | rfl <;> exact mem_runBlock.mpr ⟨0, by omega, rfl⟩

variable (h' : es' ∈ roleBlocks b first n)
include h'

/-- An element lies in one block. -/
theorem roleBlocks_disjoint {e : Nat} (he : e ∈ es) (he' : e ∈ es') : es = es' := by
  rcases roleBlocks_cases hb h with ⟨p, r, rfl, -, hr, rfl⟩ | ⟨i, sizes, -, rfl⟩
  · obtain ⟨p', r', -, hr', rfl⟩ := mem_roleBlocks_pair.mp h'
    obtain ⟨u, c, hu, hc, rfl⟩ := mem_pairBlock.mp he
    obtain ⟨u', c', hu', hc', e⟩ := mem_pairBlock.mp he'
    obtain ⟨rfl, rfl⟩ : p = p' ∧ r = r' := by omega
    rfl
  · obtain ⟨i', -, rfl⟩ := (mem_roleBlocks_run (by omega)).mp h'
    obtain ⟨c, hc, rfl⟩ := mem_runBlock.mp he
    obtain ⟨c', hc', e⟩ := mem_runBlock.mp he'
    obtain rfl : i = i' := by rcases sizes with rfl | rfl | rfl <;> omega
    rfl

/-- Blocks have scale bytes at offsets of their own, where the elements begin with a whole unit. -/
theorem roleScaleOff_inj (unit : 4096 ∣ first) (same : roleScaleOff b (es.headD 0) = roleScaleOff b (es'.headD 0)) : es = es' := by
  obtain ⟨q, rfl⟩ := unit
  rcases roleBlocks_cases hb h with ⟨p, r, rfl, -, hr, rfl⟩ | ⟨i, sizes, -, rfl⟩
  · obtain ⟨p', r', -, hr', rfl⟩ := mem_roleBlocks_pair.mp h'
    have head (p r : Nat) : (pairBlock (4096 * q) p r).headD 0 = 4096 * q + 8192 * p + 64 * r := rfl
    simp only [head, roleScaleOff, if_true] at same
    obtain ⟨rfl, rfl⟩ : p = p' ∧ r = r' := by omega
    rfl
  · obtain ⟨i', -, rfl⟩ := (mem_roleBlocks_run (by omega)).mp h'
    obtain rfl : i = i' := by
      rcases sizes with rfl | rfl | rfl
      all_goals
        have head (b i : Nat) (hb : 0 < b) : (runBlock b (4096 * q) i).headD 0 = 4096 * q + b * i := by
          obtain ⟨k, rfl⟩ := Nat.exists_eq_succ_of_ne_zero hb.ne'
          simp [runBlock, List.range_succ_eq_map]
        rw [head _ _ (by omega), head _ _ (by omega)] at same
        simp only [roleScaleOff, Nat.reduceEqDiff, if_false, Nat.reduceDiv] at same
        omega
    rfl

end

/-! ### What a role's write stores -/

theorem foldl_collects {α β ω : Type} {f : ω → α → ω} {part : ω → List β} {g : α → List β}
    (h : ∀ w a, part (f w a) = part w ++ g a) (l : List α) (w : ω) : part (l.foldl f w) = part w ++ l.flatMap g := by
  induction l generalizing w with
  | nil => simp
  | cons a l ih => rw [List.foldl_cons, ih, h, List.flatMap_cons, List.append_assoc]

section
variable (f : FmtWord) (rc : Recipe) (sr : SrCtx) (first n : Nat) (v : Nat → Val)

/-- The scale byte and the codes of a block (spec/03 R68). -/
def blockCodes (es : List Nat) : Nat × List Nat × WrCount :=
  writeBlock f.fmt.flt f.sat rc (es.map fun i => (v i, drawOf f sr (i - first)))

/-- The elements of a role with their codes. -/
def roleCodes : List (Nat × Nat) :=
  if f.scaled then (roleBlocks f.block first n).flatMap fun es => es.zip (blockCodes f rc sr first v es).2.1
  else (List.range n).map fun i => (first + i, (writeElem f.fmt.flt f.sat (drawOf f sr i) (v (first + i))).1)

theorem roleWrite_data : (roleWrite f rc sr first n v).data = elemBytes f.bytes (roleCodes f rc sr first n v) := by
  unfold roleWrite roleCodes elemBytes
  split
  · rw [List.flatMap_assoc]
    exact foldl_collects (part := RoleWr.data) (fun _ _ => rfl) _ _
  · rw [List.flatMap_map]
    exact foldl_collects (part := RoleWr.data) (fun _ _ => rfl) _ _

theorem roleWrite_scale : (roleWrite f rc sr first n v).scale = if f.scaled then (roleBlocks f.block first n).map fun es =>
    (roleScaleOff f.block (es.headD 0), BitVec.ofNat 8 (blockCodes f rc sr first v es).1) else [] := by
  unfold roleWrite
  split
  · rw [← List.flatMap_pure_eq_map]
    exact foldl_collects (part := RoleWr.scale) (fun _ _ => rfl) _ _
  · refine (foldl_collects (part := RoleWr.scale) (g := fun _ => []) (fun _ _ => by simp) _ _).trans ?_
    exact List.flatMap_eq_nil_iff.mpr fun _ _ => rfl

variable {f first n}

theorem mem_roleWrite_scale {p : Nat × Byte} (h : p ∈ (roleWrite f rc sr first n v).scale) : f.scaled = true ∧
    ∃ es, es ∈ roleBlocks f.block first n ∧
      p = (roleScaleOff f.block (es.headD 0), BitVec.ofNat 8 (blockCodes f rc sr first v es).1) := by
  rw [roleWrite_scale] at h
  split at h
  · next scaled =>
    obtain ⟨es, block, rfl⟩ := List.mem_map.mp h
    exact ⟨scaled, es, block, rfl⟩
  · exact absurd h List.not_mem_nil

variable {o : Nat} {b b' : Byte} (hb : isBlockSize f.block)
include hb

theorem roleCodes_within {p : Nat × Nat} (h : p ∈ roleCodes f rc sr first n v) : first ≤ p.1 ∧ p.1 < first + n := by
  unfold roleCodes at h
  split at h
  · obtain ⟨es, block, he⟩ := List.mem_flatMap.mp h
    exact roleBlocks_within hb block (List.of_mem_zip he).1
  · obtain ⟨i, hi, rfl⟩ := List.mem_map.mp h
    have := List.mem_range.mp hi
    exact ⟨by omega, by omega⟩

/-- Each element has one code. -/
theorem roleCodes_one {e c c' : Nat} (h : (e, c) ∈ roleCodes f rc sr first n v) (h' : (e, c') ∈ roleCodes f rc sr first n v) :
    c = c' := by
  unfold roleCodes at h h'
  split at h
  · next scaled =>
    rw [if_pos scaled] at h'
    obtain ⟨es, block, he⟩ := List.mem_flatMap.mp h
    obtain ⟨es', block', he'⟩ := List.mem_flatMap.mp h'
    obtain rfl := roleBlocks_disjoint hb block block' (List.of_mem_zip he).1 (List.of_mem_zip he').1
    exact zip_one (roleBlocks_once hb block) he he'
  · next plain =>
    rw [if_neg plain] at h'
    obtain ⟨i, -, hi⟩ := List.mem_map.mp h
    obtain ⟨j, -, hj⟩ := List.mem_map.mp h'
    obtain ⟨ei, rfl⟩ := Prod.mk.inj hi
    obtain ⟨ej, rfl⟩ := Prod.mk.inj hj
    obtain rfl : i = j := by omega
    rfl

/-- Each offset of the data region takes one byte, and it is that of an element. -/
theorem roleWrite_data_one (h : (o, b) ∈ (roleWrite f rc sr first n v).data) (h' : (o, b') ∈ (roleWrite f rc sr first n v).data) :
    b = b' := by
  rw [roleWrite_data] at h h'
  exact elemBytes_one (fun _ _ _ => roleCodes_one rc sr v hb) h h'

theorem roleWrite_data_within {p : Nat × Byte} (h : p ∈ (roleWrite f rc sr first n v).data) :
    ∃ i k, i < n ∧ k < f.bytes ∧ p.1 = (first + i) * f.bytes + k := by
  rw [roleWrite_data] at h
  obtain ⟨e, c, k, he, hk, rfl⟩ := mem_elemBytes.mp h
  obtain ⟨low, high⟩ := roleCodes_within rc sr v hb he
  exact ⟨e - first, k, by omega, hk, by simp only [Nat.add_sub_cancel' low]⟩

/-- The same for the scale region, where the elements begin with a whole unit of 4,096. -/
theorem roleWrite_scale_one (unit : 4096 ∣ first) (h : (o, b) ∈ (roleWrite f rc sr first n v).scale)
    (h' : (o, b') ∈ (roleWrite f rc sr first n v).scale) : b = b' := by
  obtain ⟨-, es, block, e⟩ := mem_roleWrite_scale rc sr v h
  obtain ⟨-, es', block', e'⟩ := mem_roleWrite_scale rc sr v h'
  obtain ⟨ho, rfl⟩ := Prod.mk.inj e
  obtain ⟨ho', rfl⟩ := Prod.mk.inj e'
  obtain rfl := roleScaleOff_inj hb block block' unit (ho.symm.trans ho')
  rfl

theorem roleWrite_scale_within {p : Nat × Byte} (h : p ∈ (roleWrite f rc sr first n v).scale) :
    f.scaled = true ∧ ∃ i, i < n ∧ p.1 = roleScaleOff f.block (first + i) := by
  obtain ⟨scaled, es, block, rfl⟩ := mem_roleWrite_scale rc sr v h
  obtain ⟨low, high⟩ := roleBlocks_within hb block (roleBlocks_head hb block)
  exact ⟨scaled, es.headD 0 - first, by omega, by simp only [Nat.add_sub_cancel' low]⟩

/-- A role's write takes the values of its elements alone. -/
theorem roleWrite_congr {v' : Nat → Val} (h : ∀ i, i < n → v (first + i) = v' (first + i)) :
    roleWrite f rc sr first n v = roleWrite f rc sr first n v' := by
  have same : ∀ e, first ≤ e → e < first + n → v e = v' e := fun e low high => by
    have := h (e - first) (by omega)
    rwa [Nat.add_sub_cancel' low] at this
  unfold roleWrite
  split
  · refine List.foldl_ext _ _ _ fun acc es block => ?_
    have values : (es.map fun i => (v i, drawOf f sr (i - first))) = es.map fun i => (v' i, drawOf f sr (i - first)) :=
      List.map_congr_left fun e he => by
        obtain ⟨low, high⟩ := roleBlocks_within hb block he
        rw [same e low high]
    rw [values]
  · refine List.foldl_ext _ _ _ fun acc i hi => ?_
    rw [h i (List.mem_range.mp hi)]

end

end Sys2Proof.Machine
end

section
/-! ACCUM, DIGEST and SWEEP (spec/08 R203, R205 to R207). -/

namespace Sys2Proof.Machine

/-! ### ACCUM -/

section
variable (s : State) (st : Nat) (c : Cmd) (k : Nat)

/-- What ACCUM adds or sets for an element: the scaled source, and the gradient's own value unless FIRST is set (spec/08 R203). -/
def State.accumVal (e : Nat) : Val :=
  if bit (fld c.bytes 16 1) 0 then mul32 (f32At c.bytes 28) (s.roleVal (s.accumSrc k c.bytes) e).1
  else fma32 (f32At c.bytes 28) (s.roleVal (s.accumSrc k c.bytes) e).1 (s.roleVal (s.gRd k) e).1

/-- The gradient as ACCUM writes it. -/
def State.accumWr : RoleWr :=
  roleWrite fmtFp32 Recipe.standard (c.sr fmtFp32) (s.groupElems k).1 (s.groupElems k).2
    (fun e => c.landVal (.role 0 e) (s.accumVal c k e))

/-- The roles that ACCUM reads, and the words of the group in them. -/
def State.accumRds : List RoleRd :=
  if bit (fld c.bytes 16 1) 0 then [s.accumSrc k c.bytes] else [s.accumSrc k c.bytes, s.gRd k]

def State.accumReads : List Nat :=
  ((s.accumRds c k).flatMap fun x => (List.range (s.groupElems k).2).flatMap fun i => s.roleWords x ((s.groupElems k).1 + i)).dedup

/-- The gradient written, its poisoned words last. -/
def State.accumStored : State :=
  ((s.noteWords (s.accumReads c k)).putRegion (s.gRd k).data (4 * (s.groupElems k).1) (4 * (s.groupElems k).2) (s.accumWr c k).data)
    |>.poisonWords
      (((poisonedElems s (s.accumRds c k) (s.groupElems k).1 (s.groupElems k).2 fmtFp32).flatMap (s.roleWords (s.gRd k))).dedup)

theorem State.accum_eq : ∃ cnt d, d.ticket = c.ticket ∧ s.accum st c k =
    ((((s.accumStored c k).countFmt st cnt).count (kStand st cLndPoisonRead) (s.badOf (s.accumReads c k)).length).markBad st c
      (s.badOf (s.accumReads c k))).engineDone st d :=
  ⟨_, _, by rfl, rfl⟩

theorem State.accumStored_landWork : s.landWork (s.accumStored c k) st :=
  ((s.noteWords_landWork st _).trans (State.putRegion_landWork _ st _ _ _ _)).trans (State.poisonWords_landWork _ st _)

/-- Where every word checks, the gradient is written and no more. -/
theorem State.accumStored_clean (clean : s.hbm.diff = []) : (s.accumStored c k).mem = s.mem ∧
    (s.accumStored c k).hbm = s.hbm.writePlaces (s.regionKey (s.tgroup (s.udef k).tgrp).g) (s.accumWr c k).data := by
  have unspoiled : poisonedElems s (s.accumRds c k) (s.groupElems k).1 (s.groupElems k).2 fmtFp32 = [] := if_pos clean
  rw [State.accumStored, unspoiled, State.noteWords_clean clean]
  exact ⟨rfl, (State.poisonWords_nil _).trans (State.putRegion_clean clean _ _ _ _)⟩

theorem fmtFp32_block : isBlockSize fmtFp32.block := fmtWordOf_block 0

/-- The gradient's bytes: four of each element. -/
theorem State.accumWr_within {p : Nat × Byte} (h : p ∈ (s.accumWr c k).data) :
    16384 * (s.udef k).first4k ≤ p.1 ∧ p.1 < 16384 * ((s.udef k).first4k + (s.udef k).count4k) := by
  obtain ⟨i, b, hi, hb, e⟩ := roleWrite_data_within _ _ _ fmtFp32_block h
  change i < 4096 * (s.udef k).count4k at hi
  change b < 4 at hb
  change p.1 = (4096 * (s.udef k).first4k + i) * 4 + b at e
  omega

/-- Byte `b` of element `i` of the group. -/
def State.accumByte (i b : Nat) : Byte :=
  BitVec.ofNat 8 ((writeElem fmtFp32.fmt.flt fmtFp32.sat (drawOf fmtFp32 (c.sr fmtFp32) i)
    (c.landVal (.role 0 (4096 * (s.udef k).first4k + i)) (s.accumVal c k (4096 * (s.udef k).first4k + i)))).1 / 256 ^ b)

theorem State.accumWr_byte {i b : Nat} (hi : i < 4096 * (s.udef k).count4k) (hb : b < 4) :
    (4 * (4096 * (s.udef k).first4k + i) + b, s.accumByte c k i b) ∈ (s.accumWr c k).data := by
  rw [State.accumWr, roleWrite_data]
  exact mem_elemBytes.mpr ⟨_, _, b, List.mem_map.mpr ⟨i, List.mem_range.mpr hi, rfl⟩, hb,
    congrArg (·, s.accumByte c k i b) (congrArg (· + b) (Nat.mul_comm 4 _))⟩

/-- Where the gradient's bytes lie apart, each is read as it was written. -/
theorem State.accumWr_read {i b : Nat} (clean : s.hbm.diff = []) (form : s.hbm.wf = true)
    (apart : s.apart (s.tgroup (s.udef k).tgrp).g (16384 * (s.udef k).first4k) (16384 * ((s.udef k).first4k + (s.udef k).count4k)))
    (hi : i < 4096 * (s.udef k).count4k) (hb : b < 4) :
    (s.hbm.writePlaces (s.regionKey (s.tgroup (s.udef k).tgrp).g) (s.accumWr c k).data).read
      (s.regionKey (s.tgroup (s.udef k).tgrp).g (4 * (4096 * (s.udef k).first4k + i) + b)) = s.accumByte c k i b := by
  have byte := s.accumWr_byte c k hi hb
  obtain ⟨low, high⟩ := s.accumWr_within c k byte
  generalize 4 * (4096 * (s.udef k).first4k + i) + b = o at byte low high ⊢
  refine Mem.writePlaces_read _ clean form byte fun p hp same => ?_
  obtain ⟨plow, phigh⟩ := s.accumWr_within c k hp
  obtain ⟨q, v⟩ := p
  obtain rfl : q = o := apart q o plow phigh low high same
  rw [roleWrite_data_one _ _ _ fmtFp32_block hp byte]

end

section
variable {s : State} {st tkt : Nat} {c : Cmd} (h : s.canRun st tkt 0x21 = some c)
include h

theorem exec_accum_waits (waits : (s.stand st).deliveryAhead c (ugrpOf c.bytes) = true ∨
      s.groupHeld st c.ticket (ugrpOf c.bytes) (s.tgroup (s.udef (ugrpOf c.bytes)).tgrp).g = true) :
    exec (.accum st tkt) s = .next s := by
  change execAccum st tkt s = _
  rw [execAccum, h]
  exact congrArg Host.Outcome.next (if_pos (by simpa using waits))

theorem exec_accum_runs (delivered : (s.stand st).deliveryAhead c (ugrpOf c.bytes) = false)
    (free : s.groupHeld st c.ticket (ugrpOf c.bytes) (s.tgroup (s.udef (ugrpOf c.bytes)).tgrp).g = false) :
    exec (.accum st tkt) s = .next (s.accum st c (ugrpOf c.bytes)) := by
  change execAccum st tkt s = _
  rw [execAccum, h]
  exact congrArg Host.Outcome.next (if_neg (by simp [delivered, free]))

end

/-- The work of ACCUM: the command ends, and where every word checks memory takes the gradient. -/
theorem State.accum_works {s : State} {st tkt : Nat} {c : Cmd} (hc : (s.stand st).cmd tkt = some c) (k : Nat) :
    (s.accum st c k).stageOf st tkt = some .done ∧ (s.accum st c k).comp = s.comp ∧
      ((s.accum st c k).stand st).outputs = (s.stand st).outputs ∧ s.standOnly (s.accum st c k) st ∧
      (s.hbm.diff = [] → (s.accum st c k).mem = s.mem ∧
        (s.accum st c k).hbm = s.hbm.writePlaces (s.regionKey (s.tgroup (s.udef k).tgrp).g) (s.accumWr c k).data) := by
  obtain ⟨cnt, d, ticket, eq⟩ := s.accum_eq st c k
  have work := ((s.accumStored_landWork st c k).trans (State.countFmt_landWork _ st cnt)).trans (State.count_landWork _ st
    (kStand st cLndPoisonRead) (s.badOf (s.accumReads c k)).length)
  obtain ⟨stage, comp, outputs, others⟩ := (work.trans (State.markBad_landWork _ st c _)).ends hc
    (ticket.trans (StandSt.cmd_ticket hc))
  rw [eq]
  refine ⟨stage, comp, outputs, others, fun clean => ?_⟩
  obtain ⟨mem, hbm⟩ := s.accumStored_clean c k clean
  simp only [State.badOf_clean clean, State.markBad_nil, State.engineDone_mem, State.engineDone_hbm, State.count_mem, State.count_hbm,
    State.countFmt_mem, State.countFmt_hbm]
  exact ⟨mem, hbm⟩

/-! ### DIGEST -/

theorem natLe_length (n v : Nat) : (natLe n v).length = n := by
  induction n generalizing v with
  | zero => rfl
  | succ n ih => rw [natLe, List.length_cons, ih]

section
variable (s : State) (st : Nat) (c : Cmd)

/-- The groups that a DIGEST names. -/
def digestGroups : List Nat := groupSpan (ugrpOf c.bytes) (bits (fld c.bytes 20 2) 13 0)

/-- The words that it reads. -/
def State.digestReads : List Nat := s.digestWords (digestGroups c) (s.digestCopy (bit (fld c.bytes 16 1) 0))

/-- The Blaze as a DIGEST leaves it: what its lane gave where the re-execution disagreed again (spec/08 R189). -/
def State.digestBlaze : BitVec 128 :=
  match c.laneFaults.find? (fun f => decide (f.place = .digest)) with
  | some f => f.code
  | none => s.blaze (BitVec.ofNat 64 (fld c.bytes 24 8)) (digestGroups c) (s.digestCopy (bit (fld c.bytes 16 1) 0))

/-- The groups sealed where SEAL is set. -/
def State.digestSealed : State :=
  if bit (fld c.bytes 16 1) 1 then (s.noteWords (s.digestReads c)).sealGroups (digestGroups c) else s.noteWords (s.digestReads c)

theorem State.digest_eq : ∃ d, d.ticket = c.ticket ∧ d.pay.take 16 = natLe 16 (s.digestBlaze c).toNat ∧
    d.statuses = c.statuses ++ (if s.badOf (s.digestReads c) = [] then [] else [0x010a]) ∧
    s.digest st c = (((s.digestSealed c).count (kStand st cLndPoisonRead) (s.badOf (s.digestReads c)).length).markBad st c
      (s.badOf (s.digestReads c))).engineDone st d := by
  refine ⟨_, ?ticket, ?pay, ?statuses, rfl⟩
  case pay =>
    simp only [List.append_assoc]
    exact List.take_left' (natLe_length 16 _)
  all_goals rfl

theorem State.sealGroups_ugroup (ks : List Nat) (j : Nat) : (s.sealGroups ks).ugroup j = { s.ugroup j with
    isSealed := (s.ugroup j).isSealed || (ks.contains j && (s.ugroup j).tent) } := by
  induction ks generalizing s with
  | nil => simp [State.sealGroups, State.onGroups]
  | cons k ks ih =>
    have first : s.sealGroups (k :: ks) = (s.setUgroup k (s.ugroup k).sealUp).sealGroups ks := rfl
    rw [first, ih]
    by_cases here : j = k
    · subst here
      rw [State.setUgroup_ugroup_same]
      cases tent : (s.ugroup j).tent <;> simp [UGroup.sealUp, tent]
    · rw [State.setUgroup_ugroup_ne _ here]
      simp [here]

theorem State.sealGroups_hbm (ks : List Nat) : (s.sealGroups ks).hbm = s.hbm :=
  congrArg Prod.fst (State.onGroups_memory (s := s) ks UGroup.sealUp)

theorem State.sealGroups_landAside (ks : List Nat) : s.landAside (s.sealGroups ks) st :=
  s.foldl_landAside st (fun u k => u.setUgroup_landAside st k _) ks

theorem State.digestSealed_landAside : s.landAside (s.digestSealed c) st := by
  have noted := (s.noteWords_landWork st (s.digestReads c)).tolandAside
  unfold State.digestSealed
  split
  · exact noted.trans (State.sealGroups_landAside _ st _)
  · exact noted

theorem State.digestSealed_ugroup (k : Nat) : (s.digestSealed c).ugroup k = { s.ugroup k with
    isSealed := (s.ugroup k).isSealed || (bit (fld c.bytes 16 1) 1 && (digestGroups c).contains k && (s.ugroup k).tent) } := by
  have noted := (s.noteWords_landWork 0 (s.digestReads c)).ugroup k
  unfold State.digestSealed
  split
  · next isSeal => rw [State.sealGroups_ugroup, noted, isSeal, Bool.true_and]
  · next notSeal => rw [noted]; simp [notSeal]

theorem State.digestSealed_clean (clean : s.hbm.diff = []) : (s.digestSealed c).hbm = s.hbm := by
  unfold State.digestSealed
  rw [State.noteWords_clean clean]
  split
  · exact s.sealGroups_hbm _
  · rfl

end

theorem exec_digest {s : State} {st tkt : Nat} {c : Cmd} (h : s.canRun st tkt 0x23 = some c) :
    exec (.digest st tkt) s = .next (s.digest st c) := by
  change execDigest st tkt s = _
  rw [execDigest, h]

/-- The work of DIGEST: the command ends with the Blaze in its payload, and with SEAL its groups are sealed. -/
theorem State.digest_works {s : State} {st tkt : Nat} {c : Cmd} (hc : (s.stand st).cmd tkt = some c) :
    ((s.digest st c).stageOf st tkt = some .done ∧ (s.digest st c).comp = s.comp ∧
      ((s.digest st c).stand st).outputs = (s.stand st).outputs ∧ s.standOnly (s.digest st c) st) ∧
    (∃ d, ((s.digest st c).stand st).cmd tkt = some d ∧ d.pay.take 16 = natLe 16 (s.digestBlaze c).toNat ∧
      (s.hbm.diff = [] → d.statuses = c.statuses)) ∧
    (s.hbm.diff = [] → (s.digest st c).hbm = s.hbm) ∧ ∀ k, (s.digest st c).ugroup k = (s.digestSealed c).ugroup k := by
  obtain ⟨d, ticket, pay, statuses, eq⟩ := s.digest_eq st c
  have marked : (s.digestSealed c).landWork _ st := (State.count_landWork _ st (kStand st cLndPoisonRead)
    (s.badOf (s.digestReads c)).length).trans (State.markBad_landWork _ st c (s.badOf (s.digestReads c)))
  have work := (s.digestSealed_landAside st c).trans marked.tolandAside
  have same := ticket.trans (StandSt.cmd_ticket hc)
  rw [eq]
  refine ⟨work.ends hc same, ⟨{ d with stage := .done }, ?_, pay, fun clean => ?_⟩, fun clean => ?_, marked.ugroup⟩
  · subst same
    exact State.engineDone_cmd ((work.cmd d.ticket).trans hc)
  · rw [statuses, State.badOf_clean clean]
    exact List.append_nil _
  · rw [State.badOf_clean clean, State.markBad_nil, State.engineDone_hbm, State.count_hbm, s.digestSealed_clean c clean]

/-! ### SWEEP -/

theorem cellGet_filter_out {q : Nat → Bool} {k : Nat} (h : q k = false) (t : Cells) : cellGet (t.filter fun p => q p.1) k = 0 := by
  induction t with
  | nil => rfl
  | cons p t ih =>
    rw [List.filter_cons]
    split
    · next kept =>
      have other : p.1 ≠ k := fun e => by rw [e, h] at kept; exact Bool.false_ne_true kept
      rw [cellGet, if_neg other, ih]
    · exact ih

theorem State.inRegion_of_frame {s t : State} (h : t.frame = s.frame) : t.inRegion = s.inRegion := by
  have variant : t.variant = s.variant := congrArg (fun f => f.2.1) h
  have region (r : Nat) : t.region r = s.region r := by rw [State.region, img_of_frame h]; rfl
  have place (r l : Nat) : t.placeBase r l = s.placeBase r l := by rw [State.placeBase, img_of_frame h, variant]; rfl
  funext r key
  simp only [State.inRegion]
  rw [region, place, variant]

/-- A key lies in a region or in its twin. -/
def State.sweepsKey (s : State) (key r : Nat) : Bool :=
  s.inRegion r key || ((s.twinOf r).valid && s.inRegion (s.twinOf r).twin key)

theorem State.sweepsKey_of_frame {s t : State} (h : t.frame = s.frame) : t.sweepsKey = s.sweepsKey := by
  funext key r
  simp only [State.sweepsKey, State.inRegion_of_frame h, State.twinOf, img_of_frame h]

section
variable (s : State) (st : Nat) (c : Cmd) (key : Nat)

theorem State.zeroRegion_raw (r : Nat) : (s.zeroRegion r).hbm.raw key = if s.inRegion r key then 0 else s.hbm.raw key := by
  cases h : s.inRegion r key
  · exact cellGet_filter (q := fun a => !s.inRegion r a) (by simp [h]) _
  · exact cellGet_filter_out (q := fun a => !s.inRegion r a) (by simp [h]) _

theorem State.sweepRegion_raw (r : Nat) : (s.sweepRegion r).hbm.raw key = if s.sweepsKey key r then 0 else s.hbm.raw key := by
  unfold State.sweepRegion State.sweepsKey
  cases valid : (s.twinOf r).valid
  · simpa using s.zeroRegion_raw key r
  · rw [if_pos rfl, State.zeroRegion_raw, State.zeroRegion_raw, State.inRegion_of_frame (s.zeroRegion_frame r)]
    cases s.inRegion r key <;> simp

/-- A byte that lies in none of the regions stays, and any other becomes zero. -/
theorem State.sweepRegions_raw (rs : List Nat) :
    (rs.foldl State.sweepRegion s).hbm.raw key = if rs.any (s.sweepsKey key) then 0 else s.hbm.raw key := by
  induction rs generalizing s with
  | nil => rfl
  | cons r rs ih =>
    rw [List.foldl_cons, ih, State.sweepRegion_raw, State.sweepsKey_of_frame (s.sweepRegion_frame r), List.any_cons]
    cases s.sweepsKey key r <;> simp

theorem State.sweepRegions_landWork (rs : List Nat) : s.landWork (rs.foldl State.sweepRegion s) st := by
  refine s.foldl_landWork st (fun u r => ?_) rs
  unfold State.sweepRegion
  split
  · exact (u.setHbm_landWork st _).trans (State.setHbm_landWork _ st _)
  · exact u.setHbm_landWork st _

/-- Groups set one after another to values of their own. -/
theorem State.setUgroups_ugroup (f : Nat → UGroup) (ks : List Nat) (j : Nat) :
    (ks.foldl (fun t k => t.setUgroup k (f k)) s).ugroup j = if j ∈ ks then f j else s.ugroup j := by
  induction ks generalizing s with
  | nil => simp
  | cons k ks ih =>
    rw [List.foldl_cons, ih]
    by_cases here : j = k
    · subst here; simp
    · rw [State.setUgroup_ugroup_ne _ here]; simp [here]

/-- The regions swept. -/
def State.sweptMem : State := (s.sweptRegions st c.bytes).foldl State.sweepRegion s

/-- The regions swept, and the groups whose P region is among them put back to their seeds. -/
def State.sweptAll : State :=
  (s.sweptGroups st (s.sweptRegions st c.bytes)).foldl (fun t k => t.setUgroup k (UGroup.reset (s.udef k).seedU)) (s.sweptMem st c)

theorem State.sweep_eq : ∃ d, d.ticket = c.ticket ∧ s.sweep st c = (s.sweptAll st c).engineDone st d := ⟨_, by rfl, rfl⟩

theorem State.sweptAll_landAside : s.landAside (s.sweptAll st c) st :=
  (s.sweepRegions_landWork st _).tolandAside.trans
    (State.foldl_landAside _ st (fun u k => u.setUgroup_landAside st k _) _)

theorem State.sweptAll_hbm : (s.sweptAll st c).hbm = (s.sweptMem st c).hbm :=
  congrArg Prod.fst (foldl_memory (fun t k => t.setUgroup k (UGroup.reset (s.udef k).seedU)) (fun _ _ => rfl) _ (s.sweptMem st c))

theorem State.sweptAll_ugroup (k : Nat) : (s.sweptAll st c).ugroup k =
    if k ∈ s.sweptGroups st (s.sweptRegions st c.bytes) then UGroup.reset (s.udef k).seedU else s.ugroup k := by
  rw [State.sweptAll, State.setUgroups_ugroup, State.sweptMem, (s.sweepRegions_landWork st _).ugroup]

end

section
variable {s : State} {st tkt : Nat} {c : Cmd} (h : s.canRun st tkt 0x22 = some c)
include h

theorem exec_sweep_waits (waits : s.sweepPinned st = true ∨ s.sweepHeld st c = true) : exec (.sweep st tkt) s = .next s := by
  change execSweep st tkt s = _
  rw [execSweep, h]
  exact congrArg Host.Outcome.next (if_pos (by simpa using waits))

theorem exec_sweep_runs (unpinned : s.sweepPinned st = false) (free : s.sweepHeld st c = false) :
    exec (.sweep st tkt) s = .next (s.sweep st c) := by
  change execSweep st tkt s = _
  rw [execSweep, h]
  exact congrArg Host.Outcome.next (if_neg (by simp [unpinned, free]))

end

/-- The work of SWEEP: the command ends, memory is swept, and so are the groups. -/
theorem State.sweep_works {s : State} {st tkt : Nat} {c : Cmd} (hc : (s.stand st).cmd tkt = some c) :
    ((s.sweep st c).stageOf st tkt = some .done ∧ (s.sweep st c).comp = s.comp ∧
      ((s.sweep st c).stand st).outputs = (s.stand st).outputs ∧ s.standOnly (s.sweep st c) st) ∧
    (∀ key, (s.sweep st c).hbm.raw key = if (s.sweptRegions st c.bytes).any (s.sweepsKey key) then 0 else s.hbm.raw key) ∧
    ∀ k, (s.sweep st c).ugroup k =
      if k ∈ s.sweptGroups st (s.sweptRegions st c.bytes) then UGroup.reset (s.udef k).seedU else s.ugroup k := by
  obtain ⟨d, ticket, eq⟩ := s.sweep_eq st c
  rw [eq]
  refine ⟨(s.sweptAll_landAside st c).ends hc (ticket.trans (StandSt.cmd_ticket hc)), fun key => ?_, s.sweptAll_ugroup st c⟩
  rw [State.engineDone_hbm, State.sweptAll_hbm]
  exact s.sweepRegions_raw key _

/-- Settles O34: each command by the lemma about its work. -/
theorem accumDigestSweep : Obligations.AccumDigestSweep := by
  unfold Obligations.AccumDigestSweep
  refine ⟨?accum, ?digest, ?sweep⟩
  case accum =>
    rintro s st tkt _ c h rfl
    refine ⟨exec_accum_waits h, fun delivered free => ?_⟩
    have runs := exec_accum_runs h delivered free
    obtain ⟨stage, comp, outputs, others, memory⟩ := State.accum_works (State.canRun_some h).1 (ugrpOf c.bytes)
    refine ⟨_, runs, stage, fun clean form => ?_, comp, outputs, others, exec_frame _ rfl runs⟩
    obtain ⟨mem, hbm⟩ := memory clean
    rw [hbm]
    refine ⟨fun apart i b hi hb => s.accumWr_read c _ clean form apart hi hb, fun key elsewhere => ?_, mem⟩
    refine Mem.writePlaces_read_ne _ _ fun p hp => ?_
    obtain ⟨low, high⟩ := s.accumWr_within c _ hp
    exact elsewhere p.1 low high
  case digest =>
    rintro s st tkt c _ h rfl
    obtain ⟨⟨stage, comp, outputs, others⟩, cmd, memory, groups⟩ := State.digest_works (State.canRun_some h).1
    exact ⟨_, exec_digest h, stage, cmd, memory, fun k => (groups k).trans (s.digestSealed_ugroup c k), comp, outputs, others,
      exec_frame _ rfl (exec_digest h)⟩
  case sweep =>
    intro s st tkt c h
    refine ⟨exec_sweep_waits h, fun unpinned free => ?_⟩
    have runs := exec_sweep_runs h unpinned free
    obtain ⟨⟨stage, comp, outputs, others⟩, memory, groups⟩ := State.sweep_works (State.canRun_some h).1
    refine ⟨_, runs, stage, fun key hit => ?_, fun key missed => ?_, fun k hk => ?_, fun k hk => ?_, comp, outputs, others,
      exec_frame _ rfl runs⟩
    · rw [memory, if_pos]
      obtain ⟨r, hr, inside⟩ := hit
      exact List.any_eq_true.mpr ⟨r, hr, by simpa [State.sweepsKey] using inside⟩
    · rw [memory, if_neg]
      rw [Bool.not_eq_true, List.any_eq_false]
      intro r hr
      obtain ⟨outside, twin⟩ := missed r hr
      simpa [State.sweepsKey, outside] using twin
    · rw [groups, if_pos hk]
    · rw [groups, if_neg hk]

end Sys2Proof.Machine
end

section
/-! OPTIM (spec/08 R196, R200, R201). -/

namespace Sys2Proof.Machine

/-! ### Room in the copy-ahead buffers -/

/-- The state with other copy-ahead buffers and counters. -/
def State.roomed (s : State) (lands : Tab LandDie) (counters : Counters) : State :=
  (s.setMem { s.mem with lands := lands }).setCounters counters

/-- Staging blocks changes nothing but the landing dies' buffers and counters. -/
theorem State.stageFor_roomed {s t : State} {bs : List (Nat × Nat)} (h : s.stageFor bs = some t) : ∃ l n, t = s.roomed l n := by
  have staged (ws : List Nat) (die block : Nat) : ∀ u : State, ∃ l n, ws.foldl (fun t st => t.stage st die block) u = u.roomed l n := by
    induction ws with
    | nil => exact fun u => ⟨u.mem.lands, u.counters, rfl⟩
    | cons st ws ih =>
      intro u
      obtain ⟨l, n, e⟩ := ih (u.stage st die block)
      exact ⟨l, n, e⟩
  induction bs generalizing s with
  | nil => exact ⟨s.mem.lands, s.counters, (Option.some.inj h).symm⟩
  | cons b bs ih =>
    obtain ⟨die, block⟩ := b
    simp only [State.stageFor] at h
    split at h
    · exact absurd h (by simp)
    · obtain ⟨l, n, e⟩ := staged (s.wantStage die block) die block s
      rw [e] at h
      obtain ⟨l', n', rfl⟩ := ih h
      exact ⟨l', n', rfl⟩

section
variable (s : State) (l : Tab LandDie) (n : Counters) (c : Cmd) (k : Nat)

@[simp] theorem State.roomed_hbm : (s.roomed l n).hbm = s.hbm := by rfl
@[simp] theorem State.roomed_comp : (s.roomed l n).comp = s.comp := by rfl
@[simp] theorem State.roomed_stand (st : Nat) : (s.roomed l n).stand st = s.stand st := by rfl
@[simp] theorem State.roomed_standOnly (t : State) (st : Nat) : (s.roomed l n).standOnly t st = s.standOnly t st := by rfl
@[simp] theorem State.roomed_udef : (s.roomed l n).udef k = s.udef k := by rfl
@[simp] theorem State.roomed_ugroup : (s.roomed l n).ugroup k = s.ugroup k := by rfl
@[simp] theorem State.roomed_tgroup : (s.roomed l n).tgroup k = s.tgroup k := by rfl
@[simp] theorem State.roomed_regionKey (r o : Nat) : (s.roomed l n).regionKey r o = s.regionKey r o := by rfl
@[simp] theorem State.roomed_copyOf (r : Nat) (twin : Bool) : (s.roomed l n).copyOf r twin = s.copyOf r twin := by rfl
@[simp] theorem State.roomed_rolesOf : (s.roomed l n).rolesOf k = s.rolesOf k := by rfl
@[simp] theorem State.roomed_groupRange (r : Nat) : (s.roomed l n).groupRange k r = s.groupRange k r := by rfl
@[simp] theorem State.roomed_groupElems : (s.roomed l n).groupElems k = s.groupElems k := by rfl
@[simp] theorem State.roomed_optU : (s.roomed l n).optU c k = s.optU c k := by rfl
@[simp] theorem State.roomed_optOut (e : Nat) : (s.roomed l n).optOut c k e = s.optOut c k e := by rfl
@[simp] theorem State.roomed_optRole (j : Nat) (x : Nat × FmtWord) (out : Nat → OptOut) :
    (s.roomed l n).optRole c k j x out = s.optRole c k j x out := by rfl
@[simp] theorem State.roomed_optReads : (s.roomed l n).optReads c k = s.optReads c k := by rfl
@[simp] theorem State.roomed_optPlaces : (s.roomed l n).optPlaces c k = s.optPlaces c k := by rfl

end

/-! ### The work in parts -/

section
variable (s : State) (st : Nat) (c : Cmd) (k : Nat)

/-- What OPTIM computes for the group's elements, in order. -/
def State.optOuts : Array OptOut :=
  ((List.range (s.groupElems k).2).map fun i => s.optOut c k ((s.groupElems k).1 + i)).toArray

/-- The roles' writes as OPTIM makes them from what it computed, with the elements that rest on failing words. -/
def State.optWrs : List ((Nat × FmtWord) × RoleWr × List Nat) :=
  (optRoles c.bytes).zipIdx.map fun p =>
    (p.1, s.optRole c k p.2 p.1 (fun e => (s.optOuts c k).getD (e - (s.groupElems k).1) OptOut.zero),
      poisonedElems s (s.optRds c k) (s.groupElems k).1 (s.groupElems k).2 p.1.2)

/-- The roles that OPTIM does not compute moved over with a new tentative version. -/
def State.optMoved : State :=
  if (s.ugroup k).tent then s
  else ((s.rolesOf k).filter fun p => !((optRoles c.bytes).any fun x => decide (x.1 = p.1) || decide (x.1 + 1 = p.1))).foldl
    (fun t p => t.copyRegion (s.copyOf p.2 (s.ugroup k).sel) (s.copyOf p.2 (!(s.ugroup k).sel)) (s.groupRange k p.2).1
      (s.groupRange k p.2).2) s

/-- Every role written. -/
def State.optStored : State :=
  (s.optWrs c k).foldl (fun t p => s.optWrite t k (!(s.ugroup k).sel) p.1 p.2.1 p.2.2)
    ((s.optMoved c k).noteWords (s.optReads c k))

/-- The group's new tentative version, which replaces any that it has (spec/08 R196, spec/03 R84). -/
def State.optGroup (g : UGroup) : UGroup :=
  { g with
    tent := true
    uTent := nextU (dMax ((List.range (s.groupElems k).2).map fun i => (s.optOut c k ((s.groupElems k).1 + i)).step)) (s.optU c k)
    optims := min 32 ((s.ugroup k).optims + 1)
    tstep := BitVec.ofNat 32 c.seeds.2.2.toNat }

/-- Every role and the group's new version written. -/
def State.optVersion : State :=
  (s.optStored c k).setUgroup k (s.optGroup c k ((s.optStored c k).ugroup k))

/-- The group damaged where a word read failed correction (spec/08 R199). -/
def State.optDamaged (t : State) : State :=
  if s.badOf (s.optReads c k) = [] then t else (t.damage st k).markCmd st c 6

theorem State.optim_eq : ∃ cnt nonf clamped d, d.ticket = c.ticket ∧ s.optim st c k =
    (s.optDamaged st c k (((((s.optVersion c k).countFmt st cnt).count (kStand st cLndNonfinite) nonf).count
      (kStand st cLndPoisonRead) (s.badOf (s.optReads c k)).length).count (kStand st cUpdexpClamped) clamped)).engineDone st d := by
  have steps : (s.optOuts c k).toList.map (·.step) =
      (List.range (s.groupElems k).2).map fun i => (s.optOut c k ((s.groupElems k).1 + i)).step := by
    rw [State.optOuts, List.map_map]; rfl
  unfold State.optVersion State.optGroup
  rw [← steps]
  exact ⟨_, _, _, _, by rfl, rfl⟩

/-! ### What stands and groups show of it -/

theorem State.optMoved_landWork : s.landWork (s.optMoved c k) st := by
  unfold State.optMoved
  split
  · exact State.landWork.refl s st
  · exact s.foldl_landWork st (fun u p => u.copyRegion_landWork st _ _ _ _) _

theorem State.optWrite_landWork (t : State) (twin : Bool) (x : Nat × FmtWord) (w : RoleWr) (bad : List Nat) :
    t.landWork (s.optWrite t k twin x w bad) st := by
  unfold State.optWrite
  dsimp only
  split
  · exact ((t.putRegion_landWork st _ _ _ _).trans (State.putRegion_landWork _ st _ _ _ _)).trans (State.poisonWords_landWork _ st _)
  · exact (t.putRegion_landWork st _ _ _ _).trans (State.poisonWords_landWork _ st _)

theorem State.optStored_landWork : s.landWork (s.optStored c k) st :=
  ((s.optMoved_landWork st c k).trans (State.noteWords_landWork _ st _)).trans
    (State.foldl_landWork _ st (fun u (p : (Nat × FmtWord) × RoleWr × List Nat) => s.optWrite_landWork st k u _ p.1 p.2.1 p.2.2) _)

theorem State.optVersion_landAside : s.landAside (s.optVersion c k) st :=
  (s.optStored_landWork st c k).tolandAside.trans (State.setUgroup_landAside _ st k _)

theorem State.optVersion_ugroup_same : (s.optVersion c k).ugroup k = s.optGroup c k (s.ugroup k) := by
  rw [State.optVersion, State.setUgroup_ugroup_same, (s.optStored_landWork 0 c k).ugroup]

theorem State.optVersion_ugroup_ne {j : Nat} (h : j ≠ k) : (s.optVersion c k).ugroup j = s.ugroup j := by
  rw [State.optVersion, State.setUgroup_ugroup_ne _ h, (s.optStored_landWork 0 c k).ugroup]

theorem State.optDamaged_landAside (t : State) : t.landAside (s.optDamaged st c k t) st := by
  unfold State.optDamaged
  split
  · exact (State.landWork.refl t st).tolandAside
  · exact ((t.setUgroup_landAside st k _).trans (State.count_landWork _ st _ _).tolandAside).trans
      (State.markCmd_landWork _ st c 6).tolandAside

theorem State.optDamaged_ugroup_same (t : State) : (s.optDamaged st c k t).ugroup k =
    { t.ugroup k with damaged := (t.ugroup k).damaged || (s.optReads c k).any s.hbm.bad } := by
  have checks := s.badOf_eq_nil (s.optReads c k)
  unfold State.optDamaged
  split
  · next none => rw [checks.mp none, Bool.or_false]
  · next some =>
    rw [(State.markCmd_landWork _ st c 6).ugroup, Bool.eq_true_of_not_eq_false (mt checks.mpr some), Bool.or_true]
    exact t.setUgroup_ugroup_same k _

theorem State.optDamaged_ugroup_ne (t : State) {j : Nat} (h : j ≠ k) : (s.optDamaged st c k t).ugroup j = t.ugroup j := by
  unfold State.optDamaged
  split
  · rfl
  · rw [(State.markCmd_landWork _ st c 6).ugroup]
    exact t.setUgroup_ugroup_ne h _

theorem State.optDamaged_clean (t : State) (clean : s.hbm.diff = []) : s.optDamaged st c k t = t :=
  if_pos (State.badOf_clean clean _)

/-! ### What it writes -/

/-- The key of a place: the role's code, the region, the offset. -/
def State.placeKey (p : Nat × Nat × Nat) : Nat := s.regionKey p.2.1 p.2.2

/-- The region of a role's tentative copy. -/
def State.tentCopy (code : Nat) : Nat := s.copyOf ((s.tgroup (s.udef k).tgrp).role code) (!(s.ugroup k).sel)

/-- A role's bytes with their places in the tentative copy. -/
def State.rolePlaced (x : Nat × FmtWord) (w : RoleWr) : List ((Nat × Nat × Nat) × Byte) :=
  w.data.map (fun p => ((x.1, s.tentCopy k x.1, p.1), p.2)) ++
    if x.2.scaled then w.scale.map (fun p => ((x.1 + 1, s.tentCopy k (x.1 + 1), p.1), p.2)) else []

/-- The bytes of every role that OPTIM computes. -/
def State.optPlaced : List ((Nat × Nat × Nat) × Byte) :=
  (optRoles c.bytes).zipIdx.flatMap fun p => s.rolePlaced k p.1 (s.optRole c k p.2 p.1 (s.optOut c k))

variable {s} in
theorem State.optWrite_clean {t : State} (frame : t.frame = s.frame) (clean : t.hbm.diff = []) (x : Nat × FmtWord) (w : RoleWr) :
    (s.optWrite t k (!(s.ugroup k).sel) x w []).hbm = t.hbm.writePlaces s.placeKey (s.rolePlaced k x w) := by
  have key := State.regionKey_of_frame frame
  have data := State.putRegion_clean clean (s.tentCopy k x.1) ((s.groupElems k).1 * x.2.bytes) ((s.groupElems k).2 * x.2.bytes) w.data
  rw [key] at data
  have placed (code : Nat) (l : List (Nat × Byte)) (m : Mem) :
      m.writePlaces s.placeKey (l.map fun p => ((code, s.tentCopy k code, p.1), p.2)) = m.writePlaces (s.regionKey (s.tentCopy k code)) l :=
    Mem.writePlaces_map s.placeKey m (fun o => (code, s.tentCopy k code, o)) l
  rw [State.rolePlaced, Mem.writePlaces_append, placed, ← data]
  cases scaled : x.2.scaled
  · simp only [State.optWrite, State.roleRd, scaled, Bool.false_eq_true, if_false]
    rfl
  · have cleared := (congrArg Mem.diff data).trans ((Mem.writePlaces_diff _ _ _).trans clean)
    have scale := State.putRegion_clean cleared (s.tentCopy k (x.1 + 1)) ((s.groupElems k).1 / x.2.block)
      ((s.groupElems k).2 / x.2.block) w.scale
    rw [State.regionKey_of_frame (State.putRegion_frame _ _ _ _ _), key] at scale
    rw [if_pos rfl, placed, ← scale]
    simp only [State.optWrite, State.roleRd, scaled, if_true]
    rfl

variable {s} in
theorem State.optWrites_clean {t : State} (frame : t.frame = s.frame) (clean : t.hbm.diff = [])
    (l : List ((Nat × FmtWord) × RoleWr × List Nat)) (whole : ∀ p ∈ l, p.2.2 = []) :
    (l.foldl (fun t p => s.optWrite t k (!(s.ugroup k).sel) p.1 p.2.1 p.2.2) t).hbm =
      t.hbm.writePlaces s.placeKey (l.flatMap fun p => s.rolePlaced k p.1 p.2.1) := by
  induction l generalizing t with
  | nil => rfl
  | cons p l ih =>
    have first := State.optWrite_clean k frame clean p.1 p.2.1
    have framed := (s.optWrite_frame t k (!(s.ugroup k).sel) p.1 p.2.1 []).trans frame
    have cleared := (congrArg Mem.diff first).trans ((Mem.writePlaces_diff _ _ _).trans clean)
    rw [List.foldl_cons, whole p List.mem_cons_self, ih framed cleared fun q hq => whole q (List.mem_cons_of_mem p hq), first,
      List.flatMap_cons, Mem.writePlaces_append]

/-! ### The roles computed -/

theorem optRoles_some {p : List Byte} {j : Nat} {x : Nat × FmtWord} (h : (optRoles p)[j]? = some x) :
    x.1 = 2 * j ∧ isBlockSize x.2.block := by
  unfold optRoles at h
  match j, h with
  | 0, h => obtain rfl := Option.some.inj h; exact ⟨rfl, fmtWordOf_block _⟩
  | 1, h => obtain rfl := Option.some.inj h; exact ⟨rfl, fmtWordOf_block _⟩
  | j + 2, h =>
    split at h
    · simp at h
    · match j, h with
      | 0, h => obtain rfl := Option.some.inj h; exact ⟨rfl, fmtWordOf_block _⟩
      | j + 1, h => simp at h

/-- A role is written from what R201 gives for the group's elements. -/
theorem State.optRole_optOuts (j : Nat) {x : Nat × FmtWord} (hb : isBlockSize x.2.block) :
    s.optRole c k j x (fun e => (s.optOuts c k).getD (e - (s.groupElems k).1) OptOut.zero) = s.optRole c k j x (s.optOut c k) := by
  refine roleWrite_congr _ _ _ hb fun i hi => ?_
  change i < (s.groupElems k).2 at hi
  have out : (s.optOuts c k).getD ((s.groupElems k).1 + i - (s.groupElems k).1) OptOut.zero =
      s.optOut c k ((s.groupElems k).1 + i) := by
    simp [State.optOuts, hi]
  exact congrArg (fun o : OptOut => c.landVal (.role j ((s.groupElems k).1 + i)) (if j = 0 then o.w else if j = 1 then o.m else o.v)) out

/-- Where every word checks, the roles' bytes are written and no more. -/
theorem State.optStored_clean (clean : s.hbm.diff = []) (moved : (s.optMoved c k).hbm.diff = []) :
    (s.optStored c k).hbm = (s.optMoved c k).hbm.writePlaces s.placeKey (s.optPlaced c k) := by
  have whole : ∀ p ∈ s.optWrs c k, p.2.2 = [] := fun p hp => by
    obtain ⟨q, -, rfl⟩ := List.mem_map.mp hp
    exact if_pos clean
  have same : (s.optWrs c k).flatMap (fun p => s.rolePlaced k p.1 p.2.1) = s.optPlaced c k := by
    rw [State.optWrs, List.flatMap_map]
    refine List.flatMap_congr fun p hp => ?_
    obtain ⟨-, block⟩ := optRoles_some (List.mk_mem_zipIdx_iff_getElem?.mp hp)
    rw [s.optRole_optOuts c k p.2 block]
  rw [State.optStored, State.noteWords_clean moved, State.optWrites_clean k (s.optMoved_landWork 0 c k).frame moved _ whole, same]

/-- Roles moved over: where every word checks, the form stays, and bytes stay that lie in none of their tentative copies' words. -/
theorem State.optMoved_clean (clean : s.hbm.diff = []) : (s.optMoved c k).hbm.diff = [] ∧
    (s.hbm.wf = true → (s.optMoved c k).hbm.wf = true) ∧
    ∀ key, ((s.ugroup k).tent = false → ∀ p ∈ s.rolesOf k, ∀ o ∈ wordAddrs (s.groupRange k p.2).1 (s.groupRange k p.2).2,
      s.regionKey (s.copyOf p.2 (!(s.ugroup k).sel)) o / 16 ≠ key / 16) → (s.optMoved c k).hbm.read key = s.hbm.read key := by
  unfold State.optMoved
  split
  · exact ⟨clean, id, fun _ _ => rfl⟩
  · next fresh =>
    obtain ⟨cleared, formed, kept⟩ := State.copyRegions_clean rfl clean (fun p : Nat × Nat => s.copyOf p.2 (s.ugroup k).sel)
      (fun p => s.copyOf p.2 (!(s.ugroup k).sel)) (fun p => s.groupRange k p.2)
      ((s.rolesOf k).filter fun p => !((optRoles c.bytes).any fun x => decide (x.1 = p.1) || decide (x.1 + 1 = p.1)))
    exact ⟨cleared, formed, fun key apart => kept key fun p hp =>
      apart (Bool.eq_false_of_not_eq_true fresh) p (List.mem_of_mem_filter hp)⟩

/-! ### Where it writes -/

variable {s c k}

theorem State.mem_optPlaced {a : Nat × Nat × Nat} {b : Byte} (h : (a, b) ∈ s.optPlaced c k) :
    ∃ j x, (optRoles c.bytes)[j]? = some x ∧
    ((a.1 = x.1 ∧ a.2.1 = s.tentCopy k x.1 ∧ (a.2.2, b) ∈ (s.optRole c k j x (s.optOut c k)).data) ∨
      (a.1 = x.1 + 1 ∧ a.2.1 = s.tentCopy k (x.1 + 1) ∧ (a.2.2, b) ∈ (s.optRole c k j x (s.optOut c k)).scale)) := by
  obtain ⟨⟨x, j⟩, hx, hq⟩ := List.mem_flatMap.mp h
  refine ⟨j, x, List.mk_mem_zipIdx_iff_getElem?.mp hx, ?_⟩
  rcases List.mem_append.mp hq with data | scale
  · obtain ⟨p, hp, e⟩ := List.mem_map.mp data
    obtain ⟨rfl, rfl⟩ := Prod.mk.inj e
    exact .inl ⟨rfl, rfl, hp⟩
  · split at scale
    · obtain ⟨p, hp, e⟩ := List.mem_map.mp scale
      obtain ⟨rfl, rfl⟩ := Prod.mk.inj e
      exact .inr ⟨rfl, rfl, hp⟩
    · exact absurd scale List.not_mem_nil

section
variable {j o : Nat} {x : Nat × FmtWord} {b : Byte} (hx : (optRoles c.bytes)[j]? = some x)
include hx

theorem State.optPlaced_data (h : (o, b) ∈ (s.optRole c k j x (s.optOut c k)).data) :
    ((x.1, s.tentCopy k x.1, o), b) ∈ s.optPlaced c k :=
  List.mem_flatMap.mpr ⟨(x, j), List.mk_mem_zipIdx_iff_getElem?.mpr hx,
    List.mem_append_left _ (List.mem_map.mpr ⟨(o, b), h, rfl⟩)⟩

theorem State.optPlaced_scale (h : (o, b) ∈ (s.optRole c k j x (s.optOut c k)).scale) :
    ((x.1 + 1, s.tentCopy k (x.1 + 1), o), b) ∈ s.optPlaced c k := by
  obtain ⟨scaled, -⟩ := roleWrite_scale_within _ _ _ (optRoles_some hx).2 h
  refine List.mem_flatMap.mpr ⟨(x, j), List.mk_mem_zipIdx_iff_getElem?.mpr hx, List.mem_append_right _ ?_⟩
  rw [if_pos scaled]
  exact List.mem_map.mpr ⟨(o, b), h, rfl⟩

end

theorem State.optPlaced_within {q : (Nat × Nat × Nat) × Byte} (h : q ∈ s.optPlaced c k) : q.1 ∈ s.optPlaces c k := by
  obtain ⟨⟨code, region, o⟩, b⟩ := q
  obtain ⟨j, x, hx, ⟨code, region, h⟩ | ⟨code, region, h⟩⟩ := State.mem_optPlaced h
  all_goals
    obtain rfl := code
    obtain rfl := region
    have block := (optRoles_some hx).2
    refine List.mem_flatMap.mpr ⟨x, List.mem_of_getElem? hx, ?_⟩
  · obtain ⟨i, n, hi, hn, e⟩ := roleWrite_data_within _ _ _ block h
    obtain rfl := e
    exact List.mem_flatMap.mpr ⟨i, List.mem_range.mpr hi, List.mem_append_left _ (List.mem_map.mpr ⟨n, List.mem_range.mpr hn, rfl⟩)⟩
  · obtain ⟨scaled, i, hi, e⟩ := roleWrite_scale_within _ _ _ block h
    obtain rfl := e
    refine List.mem_flatMap.mpr ⟨i, List.mem_range.mpr hi, List.mem_append_right _ ?_⟩
    rw [if_pos scaled]
    exact List.mem_singleton.mpr rfl

/-- Each place takes one byte: a code names one role, and its data or its scale bytes. -/
theorem State.optPlaced_one {a : Nat × Nat × Nat} {b b' : Byte} (h : (a, b) ∈ s.optPlaced c k) (h' : (a, b') ∈ s.optPlaced c k) :
    b = b' := by
  have unit : 4096 ∣ (s.groupElems k).1 := ⟨(s.udef k).first4k, rfl⟩
  obtain ⟨j, x, hx, h⟩ := State.mem_optPlaced h
  obtain ⟨j', x', hx', h'⟩ := State.mem_optPlaced h'
  obtain ⟨code, block⟩ := optRoles_some hx
  obtain ⟨code', -⟩ := optRoles_some hx'
  have role : j = j' := by rcases h with ⟨h, -⟩ | ⟨h, -⟩ <;> rcases h' with ⟨h', -⟩ | ⟨h', -⟩ <;> omega
  subst role
  obtain rfl := Option.some.inj (hx.symm.trans hx')
  rcases h with ⟨data, -, h⟩ | ⟨scale, -, h⟩ <;> rcases h' with ⟨data', -, h'⟩ | ⟨scale', -, h'⟩
  · exact roleWrite_data_one _ _ _ block h h'
  · omega
  · omega
  · exact roleWrite_scale_one _ _ _ block unit h h'

/-- Where the places do not meet, each byte is read as it was written. -/
theorem State.optPlaced_read {m : Mem} (clean : m.diff = []) (form : m.wf = true)
    (apart : ∀ p ∈ s.optPlaces c k, ∀ q ∈ s.optPlaces c k, s.placeKey p = s.placeKey q → p = q)
    {a : Nat × Nat × Nat} {b : Byte} (h : (a, b) ∈ s.optPlaced c k) :
    (m.writePlaces s.placeKey (s.optPlaced c k)).read (s.placeKey a) = b := by
  refine Mem.writePlaces_read _ clean form h fun p hp same => ?_
  obtain ⟨place, v⟩ := p
  obtain rfl : place = a := apart place (State.optPlaced_within hp) a (State.optPlaced_within h) same
  rw [State.optPlaced_one hp h]

/-! ### The work as a whole -/

/-- The group after the work: a tentative version, and damaged where a word read failed correction. -/
def State.optGroupDone (s : State) (c : Cmd) (k : Nat) : UGroup :=
  { s.optGroup c k (s.ugroup k) with damaged := (s.ugroup k).damaged || (s.optReads c k).any s.hbm.bad }

/-- The work of OPTIM: the command ends, the group has its tentative version, and where every word checks memory takes the roles. -/
theorem State.optim_works {st tkt : Nat} (hc : (s.stand st).cmd tkt = some c) (k : Nat) :
    ((s.optim st c k).stageOf st tkt = some .done ∧ (s.optim st c k).comp = s.comp ∧
      ((s.optim st c k).stand st).outputs = (s.stand st).outputs ∧ s.standOnly (s.optim st c k) st) ∧
    (s.optim st c k).ugroup k = s.optGroupDone c k ∧ (∀ j, j ≠ k → (s.optim st c k).ugroup j = s.ugroup j) ∧
    (s.hbm.diff = [] → (s.optim st c k).hbm = (s.optMoved c k).hbm.writePlaces s.placeKey (s.optPlaced c k)) := by
  obtain ⟨cnt, nonf, clamped, d, ticket, eq⟩ := s.optim_eq st c k
  rw [eq]
  generalize counted : (((((s.optVersion c k).countFmt st cnt).count (kStand st cLndNonfinite) nonf).count
      (kStand st cLndPoisonRead) (s.badOf (s.optReads c k)).length).count (kStand st cUpdexpClamped) clamped) = t
  have counts : (s.optVersion c k).landWork t st := by
    subst counted
    exact (((State.countFmt_landWork _ st cnt).trans (State.count_landWork _ st _ _)).trans (State.count_landWork _ st _ _)).trans
      (State.count_landWork _ st _ _)
  have memory : t.hbm = (s.optStored c k).hbm := by
    subst counted
    simp only [State.count_hbm, State.countFmt_hbm, State.optVersion, State.setUgroup_hbm]
  have work := ((s.optVersion_landAside st c k).trans counts.tolandAside).trans (s.optDamaged_landAside st c k t)
  refine ⟨work.ends hc (ticket.trans (StandSt.cmd_ticket hc)), ?_, fun j hj => ?_, fun clean => ?_⟩
  · rw [State.engineDone_ugroup, State.optDamaged_ugroup_same, counts.ugroup, State.optVersion_ugroup_same]
    rfl
  · rw [State.engineDone_ugroup, State.optDamaged_ugroup_ne _ _ _ _ _ hj, counts.ugroup, State.optVersion_ugroup_ne _ _ _ hj]
  · obtain ⟨cleared, -, -⟩ := s.optMoved_clean c k clean
    rw [State.engineDone_hbm, State.optDamaged_clean _ _ _ _ _ clean, memory, s.optStored_clean c k clean cleared]

end

/-! ### The command -/

section
variable {s t : State} {st tkt : Nat} {c : Cmd} (h : s.canRun st tkt 0x20 = some c)
include h

theorem exec_optim_waits (waits : (s.ugroup (ugrpOf c.bytes)).isSealed = true ∨ s.optimHeld st c = true ∨
      s.stageFor (s.tentBlocks (ugrpOf c.bytes)) = none) : exec (.optim st tkt) s = .next s := by
  change execOptim st tkt s = _
  rw [execOptim, h]
  rcases waits with isSealed | held | full
  · simp [isSealed]
  · simp [held]
  · simp [full]

theorem exec_optim_runs (unsealed : (s.ugroup (ugrpOf c.bytes)).isSealed = false) (free : s.optimHeld st c = false)
    (room : s.stageFor (s.tentBlocks (ugrpOf c.bytes)) = some t) :
    exec (.optim st tkt) s = .next (t.optim st c (ugrpOf c.bytes)) := by
  change execOptim st tkt s = _
  rw [execOptim, h]
  simp [unsealed, free, room]

end

section
variable (s : State) (l : Tab LandDie) (n : Counters) (c : Cmd) (k : Nat)

theorem State.roomed_optGroupDone : (s.roomed l n).optGroupDone c k = s.optGroupDone c k := by
  simp [State.optGroupDone, State.optGroup]

theorem State.roomed_placeKey : (s.roomed l n).placeKey = s.placeKey := by rfl

theorem State.roomed_optPlaced : (s.roomed l n).optPlaced c k = s.optPlaced c k := by
  have outs : (s.roomed l n).optOut c k = s.optOut c k := funext (s.roomed_optOut l n c k)
  simp only [State.optPlaced, outs, State.roomed_optRole]
  rfl

end

/-- Settles O33: the work begins on a state that differs in the copy-ahead buffers and counters alone, so that it reads the same. -/
theorem optimizerStep : Obligations.OptimizerStep := by
  unfold Obligations.OptimizerStep
  rintro s st tkt _ c h rfl
  refine ⟨exec_optim_waits h, fun unsealed free room => ?_⟩
  obtain ⟨u, room⟩ := Option.isSome_iff_exists.mp room
  have runs := exec_optim_runs h unsealed free room
  obtain ⟨l, n, rfl⟩ := State.stageFor_roomed room
  obtain ⟨⟨stage, comp, outputs, others⟩, group, groups, memory⟩ :=
    (s.roomed l n).optim_works (State.canRun_some h).1 (ugrpOf c.bytes)
  refine ⟨_, runs, stage, group.trans (s.roomed_optGroupDone l n c _), groups, fun clean form => ?_, outputs, others, comp,
    exec_frame _ rfl runs⟩
  obtain ⟨cleared, formed, kept⟩ := (s.roomed l n).optMoved_clean c (ugrpOf c.bytes) clean
  rw [memory clean, State.roomed_optPlaced, State.roomed_placeKey]
  refine ⟨fun key away unmoved => ?_, fun apart j x hx => ⟨fun o b h => ?_, fun o b h => ?_⟩⟩
  · refine (Mem.writePlaces_read_ne _ _ fun p hp => away p.1 (State.optPlaced_within hp)).trans (kept key ?_)
    simpa using unmoved
  · exact (State.optPlaced_read cleared (formed form) apart (State.optPlaced_data hx h) :)
  · exact (State.optPlaced_read cleared (formed form) apart (State.optPlaced_scale hx h) :)

end Sys2Proof.Machine
end

section
/-! A stand's bookkeeping (spec/09 R225 to R231, spec/10 R265, spec/12 R306): requests, step records, staging, the ledger and carries. It
touches no command in flight, nothing that software is shown, and no memory. -/

namespace Sys2Proof.Machine

/-! ### Commands in flight -/

/-- Of the items with a key the first one is found; replaced, its replacement is. -/
theorem find?_replaced {α : Type} {key : α → Nat} {l : List α} {k : Nat} {x y : α} (h : l.find? (fun a => decide (key a = k)) = some x)
    (hy : key y = k) : (l.map fun a => if key a = k then y else a).find? (fun a => decide (key a = k)) = some y := by
  have same : ((fun a => decide (key a = k)) ∘ fun a => if key a = k then y else a) = fun a => decide (key a = k) := by
    funext a
    by_cases ha : key a = k <;> simp [ha, hy]
  have found : key x = k := by simpa using List.find?_some h
  rw [List.find?_map, same, h, Option.map_some, if_pos found]

/-- A command whose engine has begun is not begun again. -/
theorem State.canRun_none {s : State} {st tkt op : Nat} {c : Cmd} (hc : (s.stand st).cmd tkt = some c) (begun : c.stage ≠ .queued) :
    s.canRun st tkt op = none := by
  cases h : s.canRun st tkt op with
  | none => rfl
  | some d =>
    obtain ⟨hd, queued⟩ := State.canRun_some h
    obtain rfl := Option.some.inj (hc.symm.trans hd)
    exact absurd queued begun

/-! ### Work behind a stand's commands -/

/-- From `s` to `t` stand `st` keeps its commands in flight and what it shows, and the other stands and the compute dies stay. -/
structure State.quiet (s t : State) (st : Nat) : Prop where
  others : s.standOnly t st
  comp : t.comp = s.comp
  inflight : (t.stand st).inflight = (s.stand st).inflight
  outputs : (t.stand st).outputs = (s.stand st).outputs

section
variable {s t u : State} {st : Nat}

theorem State.standOnly.trans (h : s.standOnly t st) (k : t.standOnly u st) : s.standOnly u st :=
  fun j hj => (k j hj).trans (h j hj)

theorem State.memoryKept.trans (h : s.memoryKept t) (k : t.memoryKept u) : s.memoryKept u := by
  obtain ⟨hbm, comp, mem⟩ := h
  obtain ⟨hbm', comp', mem'⟩ := k
  exact ⟨hbm'.trans hbm, comp'.trans comp, mem'.trans mem⟩

theorem State.quiet.refl (s : State) (st : Nat) : s.quiet s st := ⟨fun _ _ => rfl, rfl, rfl, rfl⟩

theorem State.quiet.trans (h : s.quiet t st) (k : t.quiet u st) : s.quiet u st :=
  ⟨h.others.trans k.others, k.comp.trans h.comp, k.inflight.trans h.inflight, k.outputs.trans h.outputs⟩

theorem State.quiet.cmd (h : s.quiet t st) (tkt : Nat) : (t.stand st).cmd tkt = (s.stand st).cmd tkt := by
  rw [StandSt.cmd, h.inflight]; rfl

theorem State.landAside.quiet (h : s.landAside t st) : s.quiet t st :=
  ⟨h.others, h.comp, by rw [h.steps], by rw [h.steps]; rfl⟩

theorem State.setStand_quiet {x : StandSt} (inflight : x.inflight = (s.stand st).inflight)
    (outputs : x.outputs = (s.stand st).outputs) : s.quiet (s.setStand st x) st := by
  refine ⟨fun _ hk => s.setStand_stand_ne hk x, rfl, ?_, ?_⟩ <;> rw [s.setStand_stand_same] <;> assumption

theorem State.count_quiet (s : State) (st k n : Nat) : s.quiet (s.count k n) st :=
  ⟨fun _ _ => rfl, rfl, rfl, rfl⟩

theorem State.count_memoryKept (s : State) (k n : Nat) : s.memoryKept (s.count k n) := ⟨rfl, rfl, rfl⟩
theorem State.setStand_memoryKept (s : State) (st : Nat) (x : StandSt) : s.memoryKept (s.setStand st x) := ⟨rfl, rfl, rfl⟩

/-- A command of the stand replaced: which command, and what stays. -/
theorem State.setCmd_cmd {tkt : Nat} {c d : Cmd} (h : (s.stand st).cmd tkt = some c) (hd : d.ticket = tkt) :
    ((s.setCmd st d).stand st).cmd tkt = some d := by
  rw [State.setCmd, s.setStand_stand_same, hd]
  exact StandSt.cmd_setCmd h hd

theorem State.setCmd_others (d : Cmd) : s.standOnly (s.setCmd st d) st := fun _ hk => s.setStand_stand_ne hk _

theorem State.setCmd_outputs (d : Cmd) : ((s.setCmd st d).stand st).outputs = (s.stand st).outputs := by
  rw [State.setCmd, s.setStand_stand_same]; rfl

theorem State.setCmd_memoryKept (s : State) (st : Nat) (d : Cmd) : s.memoryKept (s.setCmd st d) := s.setStand_memoryKept st _

theorem State.setCmd_owner (s : State) (st : Nat) (d : Cmd) (k : Nat) : (s.setCmd st d).owner st k = s.owner st k := by
  rw [State.owner, State.setCmd, s.setStand_stand_same]; rfl

theorem State.setCmd_perms (s : State) (st : Nat) (d : Cmd) : ((s.setCmd st d).stand st).perms = (s.stand st).perms := by
  rw [State.setCmd, s.setStand_stand_same]; rfl

/-- Work for a command in flight ends with that command: what the stand shows of it. -/
theorem State.quiet.ends {tkt : Nat} {c d : Cmd} (h : s.quiet t st) (hc : (s.stand st).cmd tkt = some c) (hd : d.ticket = tkt) :
    ((t.engineDone st d).stand st).cmd tkt = some { d with stage := .done } ∧ (t.engineDone st d).stageOf st tkt = some .done ∧
      (t.engineDone st d).comp = s.comp ∧ ((t.engineDone st d).stand st).outputs = (s.stand st).outputs ∧
      s.standOnly (t.engineDone st d) st := by
  subst hd
  have ended := State.engineDone_cmd ((h.cmd d.ticket).trans hc)
  exact ⟨ended, congrArg (Option.map Cmd.stage) ended, h.comp, State.engineDone_outputs.trans h.outputs,
    h.others.trans State.engineDone_standOnly⟩

end

/-! ### Requests, records, staging and the ledger -/

/-- `y` is the stand `x` but for its requests, step records, late estimators, ledger, carries and staged contributions. -/
def StandSt.booked (x y : StandSt) : Prop :=
  y = { x with steps := y.steps, lates := y.lates, ledger := y.ledger, carries := y.carries, contribs := y.contribs, reqs := y.reqs
               nextTag := y.nextTag, held := y.held }

/-- From `s` to `t` stand `st` keeps its books, and no memory and no other stand changes. -/
structure State.bookWork (s t : State) (st : Nat) : Prop where
  stand : (s.stand st).booked (t.stand st)
  others : s.standOnly t st
  memory : s.memoryKept t

section
variable {s t u : State} {st : Nat}

theorem State.bookWork.refl (s : State) (st : Nat) : s.bookWork s st := ⟨rfl, fun _ _ => rfl, rfl, rfl, rfl⟩

theorem StandSt.booked.trans {x y z : StandSt} (h : x.booked y) (k : y.booked z) : x.booked z := by
  unfold StandSt.booked at h k ⊢
  rw [h] at k
  exact k

theorem State.bookWork.trans (h : s.bookWork t st) (k : t.bookWork u st) : s.bookWork u st :=
  ⟨h.stand.trans k.stand, h.others.trans k.others, h.memory.trans k.memory⟩

theorem State.bookWork.quiet (h : s.bookWork t st) : s.quiet t st := by
  obtain ⟨-, comp, -⟩ := h.memory
  exact ⟨h.others, comp, by rw [h.stand], by rw [h.stand]; rfl⟩

theorem State.bookWork.colls (h : s.bookWork t st) : (t.stand st).colls = (s.stand st).colls := by rw [h.stand]
theorem State.bookWork.perms (h : s.bookWork t st) : (t.stand st).perms = (s.stand st).perms := by rw [h.stand]

theorem State.bookWork.coll (h : s.bookWork t st) (tkt : Nat) : (t.stand st).coll tkt = (s.stand st).coll tkt := by
  rw [StandSt.coll, h.colls]; rfl

theorem State.bookWork.perm (h : s.bookWork t st) (tkt : Nat) : (t.stand st).perm tkt = (s.stand st).perm tkt := by
  rw [StandSt.perm, h.perms]; rfl

theorem State.bookWork.owner (h : s.bookWork t st) (k : Nat) : t.owner st k = s.owner st k := by
  rw [State.owner, h.stand]; rfl

theorem State.bookWork.of_stands (stands : t.stands = s.stands) (memory : s.memoryKept t) : s.bookWork t st := by
  have same : ∀ k, t.stand k = s.stand k := fun k => by rw [State.stand, stands]; rfl
  exact ⟨by rw [StandSt.booked, same], fun k _ => same k, memory⟩

theorem State.setStand_bookWork {x : StandSt} (h : (s.stand st).booked x) : s.bookWork (s.setStand st x) st :=
  ⟨by rw [s.setStand_stand_same]; exact h, fun _ hk => s.setStand_stand_ne hk x, s.setStand_memoryKept st x⟩

/-- Work that touches the stand's steps alone, and counters. -/
theorem State.onlyStand.bookWork (h : s.onlyStand t st) (steps : s.stepsOnly t st) : s.bookWork t st := by
  obtain ⟨others, memory, -⟩ := h
  exact ⟨by rw [StandSt.booked, steps], others, memory⟩

end

section
variable (s : State) (st : Nat)

theorem State.count_bookWork (k n : Nat) : s.bookWork (s.count k n) st := .of_stands rfl (s.count_memoryKept k n)

theorem State.foldl_bookWork {α : Type} {f : State → α → State} (h : ∀ (u : State) a, u.bookWork (f u a) st) (l : List α) :
    s.bookWork (l.foldl f s) st := by
  induction l generalizing s with
  | nil => exact State.bookWork.refl s st
  | cons a l ih => exact (h s a).trans (ih (f s a))

/-- A request in the queue of a port, or of this device itself. -/
theorem State.emit_bookWork (e vc part : Nat) (t : Txn) (owner : Nat × Nat) : s.bookWork (s.emit e vc part t owner) st := by
  unfold State.emit
  split
  · exact .of_stands rfl ⟨rfl, rfl, rfl⟩
  · exact .of_stands rfl ⟨rfl, rfl, rfl⟩

theorem State.sendReq_bookWork (e : Nat) (h : HeldReq) : s.bookWork (s.sendReq st e h) st :=
  (State.setStand_bookWork (by rfl)).trans (State.emit_bookWork _ st _ _ _ _ _)

theorem State.ask_bookWork (h : HeldReq) : s.bookWork (s.ask st h).1 st := by
  unfold State.ask
  split
  · exact s.count_bookWork st _ 1
  · split
    · exact (s.count_bookWork st _ 1).trans (State.count_bookWork _ st _ 1)
    · dsimp only
      split
      · exact State.setStand_bookWork (by rfl)
      · exact s.sendReq_bookWork st _ h

theorem State.request_bookWork (ttype : Nat) (dst : W16) (dstand addr : Nat) (meta_ payload : List Byte) (coll : Bool) (what : ReqFor) :
    s.bookWork (s.request st ttype dst dstand addr meta_ payload coll what).1 st := s.ask_bookWork st _

theorem State.markCmd_bookWork (c : Cmd) (cause : Nat) : s.bookWork (s.markCmd st c cause) st :=
  (s.markCmd_onlyStand st c cause).bookWork (s.markCmd_worked st (fun _ => True) c cause).steps

theorem State.unavailable_bookWork (c : Cmd) : s.bookWork (s.unavailable st c).1 st :=
  (s.count_bookWork st _ 1).trans (State.markCmd_bookWork _ st c 9)

theorem State.onRec_bookWork (step : W64) (f : StepRec → StepRec) : s.bookWork (s.onRec st step f) st := State.setStand_bookWork (by rfl)

theorem State.recordItem_bookWork (step : W64) (n : Nat) (f : StepRec → StepRec) : s.bookWork (s.recordItem st step n f) st :=
  (s.recordItem_onlyStand st step n f).bookWork (s.recordItem_stepsOnly st step n f)

theorem State.recordEntry_bookWork (step : Option W64) : s.bookWork (s.recordEntry st step) st := by
  cases step with
  | none => exact State.bookWork.refl s st
  | some n => exact s.recordItem_bookWork st n 16 _

theorem State.recordKept_bookWork (step : W64) (k : KeptResult) : s.bookWork (s.recordKept st step k) st := by
  unfold State.recordKept
  dsimp only
  split
  · exact s.onRec_bookWork st step _
  · split_ifs
    · exact s.onRec_bookWork st step _
    · exact (s.onRec_bookWork st step _).trans (State.onRec_bookWork _ st step _)
    · exact (s.onRec_bookWork st step _).trans (State.count_bookWork _ st _ 1)

theorem State.lateSample_bookWork (coll ns : Nat) : s.bookWork (s.lateSample st coll ns) st := State.setStand_bookWork (by rfl)

theorem State.addEntry_bookWork (e : LateEntry) : s.bookWork (s.addEntry st e) st :=
  (State.setStand_bookWork (by rfl)).trans (State.recordEntry_bookWork _ st _)

theorem State.settle_bookWork (p : LateEntry → Bool) (d : LateDisp) : s.bookWork (s.settle st p d) st :=
  (State.setStand_bookWork (by rfl)).trans (State.count_bookWork _ st _ _)

theorem State.settleLate_bookWork (c : Contrib) (e : LateEntry) : s.bookWork (s.settleLate st c e) st :=
  (State.setStand_bookWork (by rfl)).trans (State.settle_bookWork _ st _ _)

end

end Sys2Proof.Machine
end

section
/-! PERMUTE and PERMUTE_CLOSE (spec/09 R235, R237): the states of NEW's entries, the messages to the members, and the command's end. -/

namespace Sys2Proof.Machine

/-! ### Messages -/

section
variable (s : State) (st : Nat) (c : Cmd) (a : PermArgs)

theorem State.permTell_bookWork (w : List Byte) : s.bookWork (s.permTell st c a w) st := by
  refine s.foldl_bookWork st (fun u r => ?_) _
  split
  · split
    · exact State.bookWork.refl u st
    · exact u.request_bookWork st _ _ _ _ _ _ _ _
  · exact State.bookWork.refl u st

theorem State.permSend_bookWork (kind : Nat) : s.bookWork (s.permSend st c a kind) st := s.permTell_bookWork st c a _

end

/-! ### The states of NEW's entries, and the PERMUTE itself -/

section
variable (s : State) (st n : Nat) (f : Nat → OwnerEntry → Nat)

theorem State.setStates_owner_same :
    ((s.setStates st n f).owner st n).entries = (s.owner st n).entries.zipIdx.map fun x => { x.1 with state := f x.2 x.1 } := by
  simp [State.setStates, State.owner]

theorem State.setStates_owner_ne {k : Nat} (h : k ≠ n) : (s.setStates st n f).owner st k = s.owner st k := by
  simp [State.setStates, State.owner, Tab.get_set_ne _ _ _ _ _ (Ne.symm h)]

theorem State.setStates_perms : ((s.setStates st n f).stand st).perms = (s.stand st).perms := by simp [State.setStates]

theorem State.setStates_quiet : s.quiet (s.setStates st n f) st := State.setStand_quiet rfl rfl

theorem State.setStates_memoryKept : s.memoryKept (s.setStates st n f) := s.setStand_memoryKept st _

theorem StandSt.perm_ticket {x : StandSt} {tkt : Nat} {p : Perm} (h : x.perm tkt = some p) : p.ticket = tkt := by
  simpa using List.find?_some h

theorem State.setPerm_perm {tkt : Nat} {p q : Perm} (h : (s.stand st).perm tkt = some p) (hq : q.ticket = tkt) :
    ((s.setPerm st q).stand st).perm tkt = some q := by
  subst hq
  rw [State.setPerm, s.setStand_stand_same]
  exact find?_replaced h rfl

theorem State.setPerm_quiet (p : Perm) : s.quiet (s.setPerm st p) st := State.setStand_quiet rfl rfl

theorem State.setPerm_owner (p : Perm) (k : Nat) : (s.setPerm st p).owner st k = s.owner st k := by simp [State.setPerm, State.owner]

end

/-- A PERMUTE's end: its command is done with its status, and it is in hand no longer. -/
theorem State.permDone_ends {s t : State} {st tkt : Nat} {c : Cmd} {p : Perm} (work : s.quiet t st)
    (hc : (s.stand st).cmd tkt = some c) (hp : p.ticket = tkt) (status : List W16) :
    (t.permDone st c p status).stageOf st tkt = some .done ∧ ((t.permDone st c p status).stand st).perm tkt = none ∧
      (((t.permDone st c p status).stand st).cmd tkt).map (·.statuses) = some (c.statuses ++ status) ∧
      (∀ k, (t.permDone st c p status).owner st k = t.owner st k) ∧ t.memoryKept (t.permDone st c p status) ∧
      ((t.permDone st c p status).stand st).outputs = (s.stand st).outputs ∧ s.standOnly (t.permDone st c p status) st := by
  subst hp
  have removed : s.quiet (t.setStand st { t.stand st with perms := (t.stand st).perms.filter fun q => decide (q.ticket ≠ p.ticket) }) st :=
    work.trans (State.setStand_quiet rfl rfl)
  obtain ⟨cmd, stage, -, outputs, others⟩ := removed.ends (c := c) (d := { c with pay := p.payload, statuses := c.statuses ++ status }) hc
    (StandSt.cmd_ticket hc :)
  refine ⟨stage, ?_, congrArg (Option.map Cmd.statuses) cmd, fun k => ?_, ⟨rfl, rfl, rfl⟩, outputs, others⟩
  · simp [State.permDone, State.engineDone, State.setCmd, StandSt.perm, StandSt.setCmd]
  · simp [State.permDone, State.engineDone, State.setCmd, State.owner, StandSt.setCmd]

/-! ### Opening -/

section
variable (s : State) (st : Nat) (c : Cmd) (a : PermArgs)

/-- A PERMUTE as it opens. -/
def State.permBegun : Perm :=
  { ticket := c.ticket, mtab := a.mtab, inst := c.inst, phase := 1, opened := [], pulledBy := [], todo := [], alted := [], failed := []
    hard := [], arrived := [], pulled := 0, copied := 0, absent := [], stepAbsent := []
    loaded := (s.owner st a.new).entries.map (·.state), mismatch := false, memberFenced := false }

/-- The stand with the PERMUTE in hand. -/
def State.permEntered : State :=
  s.setStand st { s.stand st with perms := (s.stand st).perms ++ [s.permBegun st c a] }

/-- Whether the cluster's Skidder is there or not, NEW's entries move, the command runs and the members are told. -/
theorem State.permOpen_eq : ∃ t d, (s.permEntered st c a).bookWork t st ∧ d.ticket = c.ticket ∧
    s.permOpen st c a = ((t.setStates st a.new fun _ _ => 2).setCmd st { d with stage := .running, tStart := s.clock.now }).permSend
      st d a 1 := by
  unfold State.permOpen
  extract_lets _ _ _ lost
  clear_value lost
  cases lost with
  | false => exact ⟨s.permEntered st c a, c, .refl _ st, rfl, rfl⟩
  | true => exact ⟨_, c.withStatus 0x01f3, State.unavailable_bookWork (s.permEntered st c a) st c, rfl, rfl⟩

end


theorem State.permOpen_works {s : State} {st tkt : Nat} {c : Cmd} (hc : (s.stand st).cmd tkt = some c) (a : PermArgs) :
    (s.permOpen st c a).stageOf st tkt = some .running ∧
      ((s.permOpen st c a).stand st).perms = (s.stand st).perms ++ [s.permBegun st c a] ∧
      ((s.permOpen st c a).owner st a.new).entries = (s.owner st a.new).entries.map (fun e => { e with state := 2 }) ∧
      (∀ k, k ≠ a.new → (s.permOpen st c a).owner st k = s.owner st k) ∧ s.memoryKept (s.permOpen st c a) ∧
      ((s.permOpen st c a).stand st).outputs = (s.stand st).outputs ∧ s.standOnly (s.permOpen st c a) st := by
  obtain rfl := StandSt.cmd_ticket hc
  obtain ⟨t, d, noted, ticket, eq⟩ := s.permOpen_eq st c a
  have entered : s.quiet (s.permEntered st c a) st := State.setStand_quiet rfl rfl
  have moving := (entered.trans noted.quiet).trans (t.setStates_quiet st a.new fun _ _ => 2)
  have begun := State.setCmd_cmd (d := { d with stage := .running, tStart := s.clock.now }) ((moving.cmd c.ticket).trans hc) ticket
  have perms : (t.stand st).perms = (s.stand st).perms ++ [s.permBegun st c a] := by
    rw [noted.perms, State.permEntered, State.setStand_stand_same]
  have owner (k : Nat) : t.owner st k = s.owner st k := by
    rw [noted.owner, State.permEntered, State.owner, State.setStand_stand_same]; rfl
  rw [eq]
  generalize told : State.permSend _ st d a 1 = u
  have sent := told ▸ State.permSend_bookWork _ st d a 1
  have kept (k : Nat) : u.owner st k = (t.setStates st a.new fun _ _ => 2).owner st k :=
    (sent.owner k).trans (State.setCmd_owner _ st _ k)
  refine ⟨congrArg (Option.map Cmd.stage) ((sent.quiet.cmd c.ticket).trans begun), ?_, ?_, fun k hk => ?_, ?_, ?_, ?_⟩
  · rw [sent.perms, State.setCmd_perms, State.setStates_perms, perms]
  · rw [kept, State.setStates_owner_same, owner]
    exact List.map_map.symm.trans (congrArg (List.map fun e : OwnerEntry => { e with state := 2 }) (List.zipIdx_map_fst 0 _))
  · rw [kept, State.setStates_owner_ne _ _ _ _ hk, owner]
  · exact ((noted.memory.trans (t.setStates_memoryKept st a.new _)).trans (State.setCmd_memoryKept _ st _)).trans sent.memory
  · exact sent.quiet.outputs.trans ((State.setCmd_outputs _).trans moving.outputs)
  · exact (moving.others.trans (State.setCmd_others _)).trans sent.others

/-! ### Pulling, and closing -/

section
variable {s : State} {st tkt : Nat} {c : Cmd} {p : Perm} (hc : (s.stand st).cmd tkt = some c) (hp : (s.stand st).perm tkt = some p)
include hc hp

theorem exec_permute_mismatch (alive : s.alive = true) (running : c.stage = .running) (opening : p.phase = 1)
    (all : s.allRanks st (permArgs c.bytes).mtab p.opened = true) (mismatch : p.mismatch = true) :
    exec (.permute st tkt) s =
      .next ((s.setStates st (permArgs c.bytes).new fun k _ => p.loaded.getD k 0).permDone st c p [0x0113]) := by
  change execPermute st tkt s = _
  simp [execPermute, State.canRun_none hc (by simp [running]), hc, hp, alive, running, opening, all, mismatch]

theorem exec_permute_pulled (alive : s.alive = true) (running : c.stage = .running) (phase : p.phase = 2) (landed : p.arrived = [])
    (served : p.failed = []) (answered : (s.stand st).pulling tkt = false) :
    exec (.permute st tkt) s = .next (s.permPulled st c (permArgs c.bytes) p) := by
  change execPermute st tkt s = _
  simp [execPermute, State.canRun_none hc (by simp [running]), hc, hp, alive, running, phase, landed, served, answered]

theorem exec_permuteClose_waits (waits : p.phase ≠ 3 ∨ s.allRanks st (permArgs c.bytes).mtab p.pulledBy = false) :
    exec (.permuteClose st tkt) s = .next s := by
  change execPermuteClose st tkt s = _
  rw [execPermuteClose, hc, hp]
  refine congrArg Host.Outcome.next (if_neg ?_)
  rintro ⟨-, phase, all⟩
  rcases waits with other | missing
  · exact other phase
  · exact absurd (all.symm.trans missing) (by simp)

end

section
variable (s : State) (st : Nat) (c : Cmd) (a : PermArgs) (p : Perm)

/-- The PERMUTE as its member has finished pulling. -/
def State.permFinished : Perm :=
  let own := p.absent.dedup.filter fun k => ((s.owner st a.new).entries[k]?).any (s.mine st)
  { p with phase := 3, pulled := p.pulled + (p.todo.dedup.filter fun k => !own.contains k).length, todo := [] }

theorem State.permPulled_bookWork : (s.setPerm st (s.permFinished st a p)).bookWork (s.permPulled st c a p) st :=
  (State.foldl_bookWork _ st (fun u _ => u.permTell_bookWork st c a _) _).trans (State.permSend_bookWork _ st c a 2)

/-- A block that is absent as the PERMUTE closes: no source supplied it, or its member takes no part (spec/09 R237). -/
def State.permGone (k : Nat) (e : OwnerEntry) : Bool :=
  p.absent.contains k ||
    (!s.mine st e && (!((s.mtab st a.mtab).members.contains (e.device, e.stand)) || s.fenced st e.device))

/-- NEW as the PERMUTE closes. -/
def State.permSettled : State := s.setStates st a.new fun k e => if s.permGone st a p k e then 0 else 1

/-- What closing leaves before the command ends: the blocks settled and counted, and the members told. -/
theorem exec_permuteClose {s : State} {st tkt : Nat} {c : Cmd} {p : Perm} (hc : (s.stand st).cmd tkt = some c)
    (hp : (s.stand st).perm tkt = some p) (alive : s.alive = true) (phase : p.phase = 3)
    (all : s.allRanks st (permArgs c.bytes).mtab p.pulledBy = true) :
    ∃ t q status, (s.permSettled st (permArgs c.bytes) p).bookWork t st ∧ q.ticket = p.ticket ∧
      exec (.permuteClose st tkt) s = .next (t.permDone st c q status) := by
  change ∃ t q status, _ ∧ _ ∧ execPermuteClose st tkt s = _
  rw [execPermuteClose, hc, hp]
  refine ⟨_, _, _, ?_, ?_, congrArg Host.Outcome.next (if_pos ⟨alive, phase, all⟩)⟩
  · exact (State.count_bookWork _ st _ _).trans (State.permSend_bookWork _ st c _ 3)
  · rfl

end

/-- Settles O39: each clause by the lemma about its phase; the messages to the members change nothing that the clause names. -/
theorem permutes : Obligations.Permutes := by
  unfold Obligations.Permutes
  refine ⟨fun s st tkt c h => ?opens, fun s st tkt c p alive hc hp running => ⟨fun opening all mismatch => ?mismatch, ?pulled⟩,
    fun s st tkt c p alive hc hp => ⟨exec_permuteClose_waits hc hp, ?closes⟩⟩
  case opens =>
    obtain ⟨hc, -⟩ := State.canRun_some h
    have runs : exec (.permute st tkt) s = .next (s.permOpen st c (permArgs c.bytes)) := by
      change execPermute st tkt s = _
      rw [execPermute, h]
    obtain ⟨stage, perms, moving, owners, memory, outputs, others⟩ := State.permOpen_works hc (permArgs c.bytes)
    exact ⟨_, _, runs, stage, perms, StandSt.cmd_ticket hc, rfl, rfl, moving, owners, memory, outputs, others, exec_frame _ rfl runs⟩
  case mismatch =>
    have runs := exec_permute_mismatch hc hp alive running opening all mismatch
    have restored := s.setStates_quiet st (permArgs c.bytes).new fun k _ => p.loaded.getD k 0
    obtain ⟨stage, perm, statuses, owner, memory, outputs, others⟩ :=
      State.permDone_ends restored hc (StandSt.perm_ticket hp) [0x0113]
    refine ⟨_, runs, stage, perm, ?_, statuses, (s.setStates_memoryKept st _ _).trans memory, outputs, others, exec_frame _ rfl runs⟩
    rw [owner, State.setStates_owner_same]
  case pulled =>
    intro phase landed served answered
    have runs := exec_permute_pulled hc hp alive running phase landed served answered
    have told := s.permPulled_bookWork st c (permArgs c.bytes) p
    have work := (s.setPerm_quiet st (s.permFinished st (permArgs c.bytes) p)).trans told.quiet
    have perm := (told.perm tkt).trans (s.setPerm_perm st hp (StandSt.perm_ticket hp :))
    refine ⟨_, _, runs, ?_, perm, rfl, rfl, fun k => ?_, told.memory, work.outputs, work.others, exec_frame _ rfl runs⟩
    · rw [State.stageOf, work.cmd, hc, Option.map_some, running]
    · rw [told.owner, State.setPerm_owner]
  case closes =>
    intro phase all
    obtain ⟨t, q, status, told, ticket, runs⟩ := exec_permuteClose hc hp alive phase all
    have work := (s.setStates_quiet st (permArgs c.bytes).new _).trans told.quiet
    obtain ⟨stage, perm, -, owner, memory, outputs, others⟩ :=
      State.permDone_ends work hc (ticket.trans (StandSt.perm_ticket hp)) status
    refine ⟨_, runs, stage, perm, ?_, fun k hk => ?_, told.memory.trans memory, outputs, others, exec_frame _ rfl runs⟩
    · rw [owner, told.owner, State.permSettled, State.setStates_owner_same]
      rfl
    · rw [owner, told.owner, State.permSettled, State.setStates_owner_ne _ _ _ _ hk]

end Sys2Proof.Machine
end

section
/-! OWNER_LOAD (spec/09 R222, R233, R239, R241): the entries read, the reasons to refuse them, and the tables that they replace. -/

namespace Sys2Proof.Machine

/-! ### What a load reads -/

section
variable (s : State) (st : Nat) (a : LoadArgs)

/-- The entries that a load reads from memory (spec/06 Table 6-2). -/
def State.loadRows : List OwnerEntry :=
  ((List.range a.entries).map fun k => ((s.readSoft a.addr (16 * a.entries)).drop (16 * k)).take 16).map ownerEntryOf

/-- The same as members. -/
def State.loadMems : List (W16 × Nat) := (s.loadRows a).map fun e => (e.device, e.stand)

/-- The same as an owner table. -/
def State.loadTab : OwnerTab := ⟨true, a.blockLog2, s.loadRows a, a.version, a.blockKib⟩

/-- The status that refuses a load, where what it has read does (spec/09 Table 9-10). -/
def State.loadRefusal : Option W16 :=
  firstFail [
    (!(s.badSoft a.addr (16 * a.entries)).isEmpty || (if a.kind then decide ((s.loadMems a).dedup.length < (s.loadMems a).length)
      else (s.loadRows a).any (fun e => decide (2 ≤ e.state))), 0x0104),
    (!a.kind && s.overBudget st a.table (s.loadTab a), 0x0107),
    (a.kind && a.tg && s.tgBad st (s.loadMems a), 0x010a)]

/-- The reading noted. -/
def State.loadNoted : State := s.noteSoft a.addr (16 * a.entries)

/-- The table replaced. -/
def State.loadTaken : State :=
  if a.kind then (s.loadNoted a).loadMembers st a (s.loadMems a)
  else (s.loadNoted a).setStand st
    { (s.loadNoted a).stand st with owners := ((s.loadNoted a).stand st).owners.set a.table (s.loadTab a) }

variable {s st}

theorem State.ownerLoad_refused {c : Cmd} {v : W16} (h : s.loadRefusal st (loadArgs c.bytes) = some v) :
    s.ownerLoad st c = (s.loadNoted (loadArgs c.bytes)).engineDone st
      { c with tStart := s.clock.now, statuses := c.statuses ++ [v], pay := [] } := by
  unfold State.ownerLoad
  extract_lets a raw rows es ms tab t bad d
  have refused : bad = some v := h
  rw [refused]
  rfl

theorem State.ownerLoad_taken {c : Cmd} (h : s.loadRefusal st (loadArgs c.bytes) = none) :
    s.ownerLoad st c = (s.loadTaken st (loadArgs c.bytes)).engineDone st
      { c with tStart := s.clock.now, pay := natLe 4 (loadArgs c.bytes).version.toNat } := by
  unfold State.ownerLoad
  extract_lets a raw rows es ms tab t bad d
  have taken : bad = none := h
  rw [taken]
  rfl

end

/-! ### The reasons to refuse -/

section
variable {s : State} {st : Nat} {a : LoadArgs} (clean : s.hbm.diff = [])
include clean

theorem State.badSoft_clean (o n : Nat) : s.badSoft o n = [] := if_pos clean

theorem State.loadNoted_clean : s.loadNoted a = s := State.noteWords_clean clean _

end

/-- A list without its repetitions is shorter where there are any. -/
theorem dedup_shorter_iff {α : Type} [DecidableEq α] (l : List α) : l.dedup.length < l.length ↔ ¬ l.Nodup := by
  refine ⟨fun shorter once => ?_, fun repeats => ?_⟩
  · rw [once.dedup] at shorter
    exact absurd shorter (Nat.lt_irrefl _)
  · refine lt_of_le_of_ne l.dedup_sublist.length_le fun same => repeats ?_
    exact List.dedup_eq_self.mp (l.dedup_sublist.eq_of_length same)

section
variable {s : State} {st : Nat} {a : LoadArgs} (clean : s.hbm.diff = [])
include clean

/-- An owner table is refused for an entry in a reserved state, and else for the budget (spec/09 R239). -/
theorem State.loadRefusal_owner (kind : a.kind = false) : s.loadRefusal st a =
    if ∃ e ∈ s.loadRows a, 2 ≤ e.state then some 0x0104 else if s.overBudget st a.table (s.loadTab a) = true then some 0x0107 else none := by
  simp [State.loadRefusal, State.badSoft_clean clean, kind, firstFail]

/-- A member table is refused for a member that repeats, and else for a tensor group that is not allowed (spec/09 R233). -/
theorem State.loadRefusal_member (kind : a.kind = true) : s.loadRefusal st a =
    if ¬ (s.loadMems a).Nodup then some 0x0104 else if a.tg = true ∧ s.tgBad st (s.loadMems a) = true then some 0x010a else none := by
  simp only [State.loadRefusal, State.badSoft_clean clean, kind, firstFail, List.isEmpty_nil, Bool.not_true, Bool.false_or, if_true,
    dedup_shorter_iff, Bool.false_and, Bool.false_eq_true, if_false, Bool.true_and, Bool.and_eq_true, decide_eq_true_eq]

end

/-! ### What a load leaves -/

section
variable (s : State) (st : Nat) (a : LoadArgs) (ms : List (W16 × Nat))

/-- Of the stand a new member table changes that table, its carries and who is watched. -/
theorem State.loadMembers_stand : (s.loadMembers st a ms).stand st =
    { s.stand st with
      mtabs := (s.stand st).mtabs.set a.table ⟨true, a.tg, ms, a.version, 0⟩
      carries := ((s.loadMembers st a ms).stand st).carries, peers := ((s.loadMembers st a ms).stand st).peers } := by
  simp [State.loadMembers, State.rewatch, State.count_stand]

theorem State.loadMembers_quiet : s.quiet (s.loadMembers st a ms) st := by
  refine ⟨fun k hk => ?_, rfl, by rw [State.loadMembers_stand], by rw [State.loadMembers_stand]; rfl⟩
  simp only [State.loadMembers, State.rewatch, State.count_stand, State.setStand_stand_ne _ hk]

theorem State.loadMembers_owner (k : Nat) : (s.loadMembers st a ms).owner st k = s.owner st k := by
  rw [State.owner, State.loadMembers_stand]; rfl

theorem State.loadMembers_mtab (k : Nat) : (s.loadMembers st a ms).mtab st k =
    if a.table = k then ⟨true, a.tg, ms, a.version, 0⟩ else s.mtab st k := by
  rw [State.mtab, State.loadMembers_stand]
  exact Tab.get_set MemberTab.reset _ _ _ _

theorem State.loadNoted_landWork : s.landWork (s.loadNoted a) st := s.noteWords_landWork st _

theorem State.loadNoted_owner (k : Nat) : (s.loadNoted a).owner st k = s.owner st k := by
  rw [State.owner, (s.loadNoted_landWork st a).steps]; rfl

theorem State.loadNoted_mtab (k : Nat) : (s.loadNoted a).mtab st k = s.mtab st k := by
  rw [State.mtab, (s.loadNoted_landWork st a).steps]; rfl

theorem State.loadTaken_quiet : s.quiet (s.loadTaken st a) st := by
  have noted := (s.loadNoted_landWork st a).quiet
  unfold State.loadTaken
  split
  · exact noted.trans (State.loadMembers_quiet _ st a _)
  · exact noted.trans (State.setStand_quiet rfl rfl)

theorem State.loadTaken_owner (k : Nat) : (s.loadTaken st a).owner st k =
    if a.kind = false ∧ a.table = k then s.loadTab a else s.owner st k := by
  unfold State.loadTaken
  split
  · next kind => simp [kind, State.loadMembers_owner, State.loadNoted_owner]
  · next kind =>
    rw [State.owner, State.setStand_stand_same]
    simp only [Tab.get_set, kind, true_and]
    exact congrArg (ite _ _) (s.loadNoted_owner st a k)

theorem State.loadTaken_mtab (k : Nat) : (s.loadTaken st a).mtab st k =
    if a.kind = true ∧ a.table = k then ⟨true, a.tg, s.loadMems a, a.version, 0⟩ else s.mtab st k := by
  unfold State.loadTaken
  split
  · next kind => simp only [State.loadMembers_mtab, State.loadNoted_mtab, kind, true_and]
  · next kind =>
    rw [State.mtab, State.setStand_stand_same, if_neg (fun h => kind h.1)]
    exact s.loadNoted_mtab st a k

theorem State.loadTaken_memoryKept (clean : s.hbm.diff = []) : s.memoryKept (s.loadTaken st a) := by
  unfold State.loadTaken
  rw [State.loadNoted_clean clean]
  split <;> exact ⟨rfl, rfl, rfl⟩

theorem State.engineDone_owner (c : Cmd) (k : Nat) : (s.engineDone st c).owner st k = s.owner st k := s.setCmd_owner st _ k

theorem State.engineDone_mtab (c : Cmd) (k : Nat) : (s.engineDone st c).mtab st k = s.mtab st k := by
  rw [State.mtab, State.engineDone, State.setCmd, s.setStand_stand_same]; rfl

end

section
variable {s : State} {st tkt : Nat} {c : Cmd} (hc : (s.stand st).cmd tkt = some c)
include hc

/-- However a load ends, it ends; and no table but its own changes. -/
theorem State.ownerLoad_ends : (s.ownerLoad st c).stageOf st tkt = some .done ∧ (s.ownerLoad st c).comp = s.comp ∧
    ((s.ownerLoad st c).stand st).outputs = (s.stand st).outputs ∧ s.standOnly (s.ownerLoad st c) st ∧
    ∀ k, k ≠ (loadArgs c.bytes).table →
      (s.ownerLoad st c).owner st k = s.owner st k ∧ (s.ownerLoad st c).mtab st k = s.mtab st k := by
  have ticket := StandSt.cmd_ticket hc
  cases h : s.loadRefusal st (loadArgs c.bytes) with
  | some v =>
    obtain ⟨-, stage, comp, outputs, others⟩ := (s.loadNoted_landWork st (loadArgs c.bytes)).quiet.ends
      (d := { c with tStart := s.clock.now, statuses := c.statuses ++ [v], pay := [] }) hc ticket
    rw [State.ownerLoad_refused h]
    refine ⟨stage, comp, outputs, others, fun k _ => ?_⟩
    rw [State.engineDone_owner, State.engineDone_mtab, State.loadNoted_owner, State.loadNoted_mtab]
    exact ⟨rfl, rfl⟩
  | none =>
    obtain ⟨-, stage, comp, outputs, others⟩ := (s.loadTaken_quiet st (loadArgs c.bytes)).ends
      (d := { c with tStart := s.clock.now, pay := natLe 4 (loadArgs c.bytes).version.toNat }) hc ticket
    rw [State.ownerLoad_taken h]
    refine ⟨stage, comp, outputs, others, fun k hk => ?_⟩
    rw [State.engineDone_owner, State.engineDone_mtab, State.loadTaken_owner, State.loadTaken_mtab, if_neg fun h => hk h.2.symm,
      if_neg fun h => hk h.2.symm]
    exact ⟨rfl, rfl⟩

/-- A load that is taken keeps its command's statuses, and its table is as it was read. -/
theorem State.ownerLoad_takes (h : s.loadRefusal st (loadArgs c.bytes) = none) :
    (((s.ownerLoad st c).stand st).cmd tkt).map (·.statuses) = some c.statuses ∧
      (∀ k, (s.ownerLoad st c).owner st k = (s.loadTaken st (loadArgs c.bytes)).owner st k) ∧
      (∀ k, (s.ownerLoad st c).mtab st k = (s.loadTaken st (loadArgs c.bytes)).mtab st k) := by
  obtain ⟨cmd, -⟩ := (s.loadTaken_quiet st (loadArgs c.bytes)).ends
    (d := { c with tStart := s.clock.now, pay := natLe 4 (loadArgs c.bytes).version.toNat }) hc (StandSt.cmd_ticket hc :)
  rw [State.ownerLoad_taken h]
  exact ⟨congrArg (Option.map Cmd.statuses) cmd, State.engineDone_owner _ st _, State.engineDone_mtab _ st _⟩

/-- A load that is refused has its status, and no table changes. -/
theorem State.ownerLoad_refuses {v : W16} (h : s.loadRefusal st (loadArgs c.bytes) = some v) :
    (((s.ownerLoad st c).stand st).cmd tkt).map (·.statuses) = some (c.statuses ++ [v]) ∧
      (∀ k, (s.ownerLoad st c).owner st k = s.owner st k) ∧ (∀ k, (s.ownerLoad st c).mtab st k = s.mtab st k) := by
  obtain ⟨cmd, -⟩ := (s.loadNoted_landWork st (loadArgs c.bytes)).quiet.ends
    (d := { c with tStart := s.clock.now, statuses := c.statuses ++ [v], pay := [] }) hc (StandSt.cmd_ticket hc :)
  rw [State.ownerLoad_refused h]
  refine ⟨congrArg (Option.map Cmd.statuses) cmd, fun k => ?_, fun k => ?_⟩
  · rw [State.engineDone_owner, State.loadNoted_owner]
  · rw [State.engineDone_mtab, State.loadNoted_mtab]

end

/-- Where every word checks, a load leaves memory as it is. -/
theorem State.ownerLoad_memoryKept {s : State} (clean : s.hbm.diff = []) (st : Nat) (c : Cmd) : s.memoryKept (s.ownerLoad st c) := by
  cases h : s.loadRefusal st (loadArgs c.bytes) with
  | some v =>
    rw [State.ownerLoad_refused h, State.loadNoted_clean clean]
    exact ⟨rfl, rfl, rfl⟩
  | none =>
    rw [State.ownerLoad_taken h]
    exact (s.loadTaken_memoryKept st _ clean).trans ⟨rfl, rfl, rfl⟩

/-- Settles O38: what the entries say settles whether the load is refused, and each outcome has its lemma. -/
theorem tableLoads : Obligations.TableLoads := by
  unfold Obligations.TableLoads
  rintro s st tkt c _ h rfl
  have run : exec (.ownerLoad st tkt) s = .next (if s.loadWaits st c then s else s.ownerLoad st c) := by
    change execOwnerLoad st tkt s = _
    rw [execOwnerLoad, h]
  obtain ⟨hc, -⟩ := State.canRun_some h
  refine ⟨fun waits => by rw [run, if_pos waits], fun ready => ?_⟩
  have runs : exec (.ownerLoad st tkt) s = .next (s.ownerLoad st c) := by rw [run, if_neg (by simp [ready])]
  obtain ⟨stage, comp, outputs, others, tables⟩ := State.ownerLoad_ends hc
  refine ⟨_, runs, stage, comp, outputs, others, exec_frame _ rfl runs, tables, fun clean es ms tab hes hms htab => ?_⟩
  obtain rfl : es = s.loadRows (loadArgs c.bytes) := by rw [hes, State.loadRows, List.map_map]; rfl
  obtain rfl : ms = s.loadMems (loadArgs c.bytes) := hms
  obtain rfl : tab = s.loadTab (loadArgs c.bytes) := htab
  refine ⟨State.ownerLoad_memoryKept clean st c, fun kind valid fits => ?_, fun kind once allowed => ?_, fun v reason => ?_⟩
  · have taken : s.loadRefusal st (loadArgs c.bytes) = none := by
      rw [State.loadRefusal_owner clean kind, if_neg (fun ⟨e, he, reserved⟩ => absurd (valid e he) (by omega)), if_neg (by simp [fits])]
    obtain ⟨statuses, owner, mtab⟩ := State.ownerLoad_takes hc taken
    rw [owner, mtab, State.loadTaken_owner, State.loadTaken_mtab]
    exact ⟨if_pos ⟨kind, rfl⟩, if_neg (by simp [kind]), statuses⟩
  · have taken : s.loadRefusal st (loadArgs c.bytes) = none := by
      rw [State.loadRefusal_member clean kind, if_neg (not_not.mpr once), if_neg (fun ⟨tg, bad⟩ => by simp [allowed tg] at bad)]
    obtain ⟨statuses, owner, mtab⟩ := State.ownerLoad_takes hc taken
    rw [owner, mtab, State.loadTaken_owner, State.loadTaken_mtab]
    exact ⟨if_pos ⟨kind, rfl⟩, if_neg (by simp [kind]), statuses⟩
  · have refused : s.loadRefusal st (loadArgs c.bytes) = some v := by
      rcases reason with ⟨kind, reserved, rfl⟩ | ⟨kind, valid, passed, rfl⟩ | ⟨kind, repeats, rfl⟩ | ⟨kind, once, tg, bad, rfl⟩
      · rw [State.loadRefusal_owner clean kind, if_pos reserved]
      · rw [State.loadRefusal_owner clean kind, if_neg (fun ⟨e, he, reserved⟩ => absurd (valid e he) (by omega)), if_pos passed]
      · rw [State.loadRefusal_member clean kind, if_pos repeats]
      · rw [State.loadRefusal_member clean kind, if_neg (not_not.mpr once), if_pos ⟨tg, bad⟩]
    obtain ⟨statuses, owner, mtab⟩ := State.ownerLoad_refuses hc refused
    exact ⟨statuses, owner _, mtab _⟩

end Sys2Proof.Machine
end

section
/-! REDUCE and COLLECTIVE under way (spec/09 R216, R219 to R226): the reduction of a ticket, and what sending and receiving may note in
it. -/

namespace Sys2Proof.Machine

/-! ### The reduction of a ticket -/

/-- `z` is the reduction `y` with more noted: contributions discarded, results, and contributions still to be sent. -/
def Coll.noted (y z : Coll) : Prop := z = { y with mism := z.mism, results := z.results, unsent := z.unsent }

theorem Coll.noted.trans {x y z : Coll} (h : x.noted y) (k : y.noted z) : x.noted z := by
  unfold Coll.noted at h k ⊢
  rw [h] at k
  exact k

theorem Coll.noted.vals {y z : Coll} (h : y.noted z) : z.vals = y.vals := by rw [h]
theorem Coll.noted.ownAt {y z : Coll} (h : y.noted z) : z.ownAt = y.ownAt := by rw [h]

theorem StandSt.coll_ticket {x : StandSt} {tkt : Nat} {y : Coll} (h : x.coll tkt = some y) : y.ticket = tkt := by
  simpa using List.find?_some h

/-- From `s` to `t` stand `st` keeps its books and notes more in the reduction of a ticket, and no memory changes. -/
structure State.collWork (s t : State) (st tkt : Nat) : Prop extends s.quiet t st where
  memory : s.memoryKept t
  coll : ∀ y, (s.stand st).coll tkt = some y → ∃ z, (t.stand st).coll tkt = some z ∧ y.noted z

section
variable {s t u : State} {st tkt : Nat}

theorem State.collWork.trans (h : s.collWork t st tkt) (k : t.collWork u st tkt) : s.collWork u st tkt := by
  refine ⟨h.toquiet.trans k.toquiet, h.memory.trans k.memory, fun x hx => ?_⟩
  obtain ⟨y, hy, xy⟩ := h.coll x hx
  obtain ⟨z, hz, yz⟩ := k.coll y hy
  exact ⟨z, hz, xy.trans yz⟩

theorem State.bookWork.collWork (h : s.bookWork t st) (tkt : Nat) : s.collWork t st tkt :=
  ⟨h.quiet, h.memory, fun y hy => ⟨y, (h.coll tkt).trans hy, rfl⟩⟩

theorem State.collWork.refl (s : State) (st tkt : Nat) : s.collWork s st tkt := (State.bookWork.refl s st).collWork tkt

theorem State.foldl_collWork {α : Type} {f : State → α → State} (s : State) (h : ∀ (u : State) a, u.collWork (f u a) st tkt)
    (l : List α) : s.collWork (l.foldl f s) st tkt := by
  induction l generalizing s with
  | nil => exact State.collWork.refl s st tkt
  | cons a l ih => exact (h s a).trans (ih (f s a))

theorem State.setColl_coll {x y : Coll} (h : (s.stand st).coll tkt = some x) (hy : y.ticket = tkt) :
    ((s.setColl st y).stand st).coll tkt = some y := by
  subst hy
  rw [State.setColl, s.setStand_stand_same]
  exact find?_replaced h rfl

theorem State.setColl_quiet (s : State) (st : Nat) (y : Coll) : s.quiet (s.setColl st y) st := State.setStand_quiet rfl rfl

theorem State.setColl_memoryKept (s : State) (st : Nat) (y : Coll) : s.memoryKept (s.setColl st y) := s.setStand_memoryKept st _

/-- The reduction of a ticket replaced by itself with more noted. -/
theorem State.setColl_collWork {x y : Coll} (h : (s.stand st).coll tkt = some x) (more : x.noted y) :
    s.collWork (s.setColl st y) st tkt := by
  have ticket : y.ticket = tkt := by
    rw [more]
    exact (StandSt.coll_ticket h :)
  refine ⟨s.setColl_quiet st y, s.setColl_memoryKept st y, fun z hz => ⟨y, State.setColl_coll h ticket, ?_⟩⟩
  obtain rfl := Option.some.inj (h.symm.trans hz)
  exact more

end

/-! ### What travels -/

section
variable (s : State) (st : Nat) (y : Coll)

theorem State.askColl_bookWork (ttype : Nat) (dev : W16) (ds addr k r : Nat) (meta_ payload : List Byte) :
    s.bookWork (s.askColl st ttype y dev ds addr k r meta_ payload).1 st := s.ask_bookWork st _

theorem State.sendResult_bookWork (k : Nat) (vs : List W32) (taint : Bool) (es : List LateEntry) (r : Nat) :
    s.bookWork (s.sendResult st y k vs taint es r) st := by
  unfold State.sendResult
  split
  · exact State.bookWork.refl s st
  · exact s.foldl_bookWork st (fun u p => u.askColl_bookWork st y _ _ _ _ _ _ _ _) _

theorem State.keepUnsent_collWork (tkt k owner : Nat) : s.collWork (s.keepUnsent st tkt k owner) st tkt := by
  unfold State.keepUnsent
  split
  · next z hz => exact State.setColl_collWork hz rfl
  · exact State.collWork.refl s st tkt

theorem State.sendContrib_collWork (my k owner : Nat) : s.collWork (s.sendContrib st y my k owner) st y.ticket := by
  unfold State.sendContrib
  dsimp only
  split
  · exact State.collWork.refl s st _
  · next dev ds _ =>
    refine State.foldl_collWork s (fun u p => ?_) _
    have asked (m payload : List Byte) := (u.askColl_bookWork st y 3 dev ds (4096 * p.2) k owner m payload).collWork y.ticket
    split
    · next v h =>
      exact ((congrArg Prod.fst h).subst (motive := (u.collWork · st y.ticket)) (asked _ _)).trans
        (v.keepUnsent_collWork st y.ticket k owner)
    · next v _ _ h => exact (congrArg Prod.fst h).subst (motive := (u.collWork · st y.ticket)) (asked _ _)

theorem State.resultWhole_bookWork (taint : Bool) : s.bookWork (s.resultWhole st y taint) st := by
  unfold State.resultWhole
  split
  · exact (s.count_bookWork st _ 1).trans (State.markCmd_bookWork _ st _ 7)
  · exact State.bookWork.refl s st

/-- The reduction with part of a segment's result recorded. -/
def Coll.withPart (y : Coll) (k o : Nat) (vs : List W32) (taint : Bool) : Coll :=
  { y with results := (y.results.filter (fun r => decide (r.1 ≠ k))) ++
      [(k, placeAt ((y.result k).getD ([], false)).1 o vs, ((y.result k).getD ([], false)).2 || taint)] }

theorem State.putPart_bookWork (k o : Nat) (vs : List W32) (taint : Bool) :
    (s.setColl st (y.withPart k o vs taint)).bookWork (s.putPart st y k o vs taint) st := by
  unfold State.putPart
  dsimp only
  split
  · exact State.resultWhole_bookWork _ st _ _
  · exact State.bookWork.refl _ st

variable {s st y}

theorem State.putPart_coll {x : Coll} (h : (s.stand st).coll y.ticket = some x) (k o : Nat) (vs : List W32) (taint : Bool) :
    ((s.putPart st y k o vs taint).stand st).coll y.ticket = some (y.withPart k o vs taint) :=
  ((s.putPart_bookWork st y k o vs taint).coll _).trans (State.setColl_coll h rfl)

theorem State.putPart_collWork (h : (s.stand st).coll y.ticket = some y) (k o : Nat) (vs : List W32) (taint : Bool) :
    s.collWork (s.putPart st y k o vs taint) st y.ticket :=
  (State.setColl_collWork h (by rfl)).trans ((s.putPart_bookWork st y k o vs taint).collWork _)

variable (s st)

theorem State.matchNow_collWork (tkt : Nat) : s.collWork (s.matchNow st tkt) st tkt := by
  unfold State.matchNow
  split
  · next y hy =>
    have dropped : s.bookWork _ st := (State.setStand_bookWork (by rfl)).trans (State.count_bookWork
      (s.setStand st { s.stand st with contribs := (s.stand st).contribs.filter fun c => !(c.of y) || c.matches_ y }) st
      (kStand st cTrsMismatch) ((s.stand st).contribs.filter fun c => c.of y && !c.matches_ y).length)
    exact (dropped.collWork tkt).trans (State.setColl_collWork ((dropped.coll tkt).trans hy) (by rfl))
  · exact State.collWork.refl s st tkt

end

/-! ### The module result complete -/

section
variable (s : State) (st : Nat) (c : Cmd) (a : RedArgs) (y : Coll)

/-- The reduction as its module result is complete. -/
def State.collWhole : Coll := { y with ownAt := some s.clock.now, taint := s.stepTainted st c }

/-- The state before anything is sent of it. -/
def State.moduleWhole : State := (s.setColl st (s.collWhole st c y)).setCmd st { c with stage := .phase 2, todo := [] }

variable {s st y}

theorem State.moduleWhole_coll {x : Coll} (h : (s.stand st).coll y.ticket = some x) :
    ((s.moduleWhole st c y).stand st).coll y.ticket = some (s.collWhole st c y) := by
  rw [State.moduleWhole, State.setCmd, State.setStand_stand_same]
  exact (State.setColl_coll h rfl : ((s.setColl st (s.collWhole st c y)).stand st).coll y.ticket = _)

/-- What a complete module result sends notes more in its reduction, and nothing else of it. -/
theorem State.moduleDone_collWork {x : Coll} (h : (s.stand st).coll y.ticket = some x) :
    (s.moduleWhole st c y).collWork (s.moduleDone st c a y) st y.ticket := by
  have whole := State.moduleWhole_coll c h
  unfold State.moduleDone
  extract_lets z t my ks
  change t.collWork _ st z.ticket
  replace whole : (t.stand st).coll z.ticket = some z := whole
  clear_value t
  split_ifs
  · exact State.collWork.refl t st _
  · exact State.setColl_collWork whole (by rfl)
  · exact (State.foldl_collWork t (fun u r => u.sendContrib_collWork st z my r r) _).trans (State.matchNow_collWork _ st _)
  · exact (State.putPart_collWork whole _ _ _ _).trans
      (State.foldl_collWork _ (fun u r => (u.sendResult_bookWork st z _ _ _ _ r).collWork _) _)
  · exact State.collWork.refl t st _
  · refine State.foldl_collWork t (fun u k => ?_) _
    split
    · next w hw =>
      have ticket := StandSt.coll_ticket hw
      have put := State.putPart_collWork (ticket.symm ▸ hw) k 0 (s.partOf st z k) z.taint
      rw [ticket] at put
      exact put.trans (State.foldl_collWork _ (fun v r => (v.sendResult_bookWork st z _ _ _ _ r).collWork _) _)
    · exact State.collWork.refl u st _
  · refine (State.foldl_collWork t (fun u k => ?_) _).trans (State.matchNow_collWork _ st _)
    split
    · split
      · exact State.collWork.refl u st _
      · exact u.sendContrib_collWork st z my k _
    · exact State.collWork.refl u st _

/-- A REDUCE's result is its module result, and the command's one segment (spec/09 R220). -/
theorem State.moduleDone_reduce {x : Coll} (h : (s.stand st).coll y.ticket = some x) (fresh : y.fromRecord = false)
    (op : c.opcode = 0x30) : ((s.moduleDone st c a y).stand st).coll y.ticket =
      some { s.collWhole st c y with results := [(0, y.vals, false)] } := by
  have whole := State.moduleWhole_coll c h
  unfold State.moduleDone
  extract_lets z t my ks
  rw [if_neg (by simp [z, fresh]), if_pos op]
  exact State.setColl_coll (whole : (t.stand st).coll z.ticket = some z) rfl

/-- A complete module result: the command waits for what is still to come. -/
theorem State.moduleDone_works {tkt : Nat} {d : Cmd} {x : Coll} (hc : (s.stand st).cmd tkt = some d) (hd : c.ticket = tkt)
    (hx : (s.stand st).coll tkt = some x) (hy : y.ticket = tkt) :
    (s.moduleDone st c a y).stageOf st tkt = some (.phase 2) ∧
      (∃ z, ((s.moduleDone st c a y).stand st).coll tkt = some z ∧ (s.collWhole st c y).noted z ∧
        (y.fromRecord = false → c.opcode = 0x30 → z.results = [(0, z.vals, false)])) ∧
      s.memoryKept (s.moduleDone st c a y) ∧ ((s.moduleDone st c a y).stand st).outputs = (s.stand st).outputs ∧
      s.standOnly (s.moduleDone st c a y) st := by
  subst hy
  have sent := State.moduleDone_collWork c a hx
  have whole := s.setColl_quiet st (s.collWhole st c y)
  have cmd : ((s.moduleWhole st c y).stand st).cmd y.ticket = some { c with stage := .phase 2, todo := [] } :=
    State.setCmd_cmd ((whole.cmd y.ticket).trans hc) hd
  obtain ⟨z, hz, noted⟩ := sent.coll _ (State.moduleWhole_coll c hx)
  refine ⟨congrArg (Option.map Cmd.stage) ((sent.cmd y.ticket).trans cmd), ⟨z, hz, noted, fun fresh op => ?_⟩, ?_,
    sent.outputs.trans ((State.setCmd_outputs _).trans whole.outputs), (whole.others.trans (State.setCmd_others _)).trans sent.others⟩
  · obtain rfl := Option.some.inj ((State.moduleDone_reduce c a hx fresh op).symm.trans hz)
    rfl
  · exact ((s.setColl_memoryKept st _).trans (State.setCmd_memoryKept _ st _)).trans sent.memory

end

end Sys2Proof.Machine
end

section
/-! REDUCE, COLLECTIVE and REDUCTION_PIECE (spec/09 R216, R217, R219, R220): beginning, pieces, end. -/

namespace Sys2Proof.Machine

/-- The row of a reduction's opcode. -/
theorem exec_red {op : Nat} (h : op = 0x30 ∨ op = 0x31) (s : State) (st tkt : Nat) :
    exec (if op = 0x30 then .reduce st tkt else .collective st tkt) s = .next (s.runRed st tkt op) := by
  rcases h with rfl | rfl <;> rfl

theorem red_setsFrame {op : Nat} (h : op = 0x30 ∨ op = 0x31) (st tkt : Nat) :
    (if op = 0x30 then Instr.reduce st tkt else .collective st tkt).setsFrame = false := by
  rcases h with rfl | rfl <;> rfl

/-! ### Pieces -/

section
variable (s : State) (st : Nat) (c : Cmd) (a : RedArgs) (y : Coll) (n : Nat) (rest : List Nat)

/-- The module's values of a piece of 16,384 elements. -/
def State.pieceVals : List (Val × Nat) :=
  (List.range (min 16384 (a.src.count - 16384 * n))).map fun i => s.moduleVal st c a (16384 * n + i)

/-- The reduction with a piece appended. -/
def State.collPiece : Coll := { y with vals := y.vals ++ (s.pieceVals st c a n).map fun v => code32 v.1 }

/-- The piece taken, and counted. -/
def State.pieced : State :=
  (((s.setColl st (s.collPiece st c a y n)).setCmd st { c with todo := rest }).countStand st cTrsPieces).count
    (kStand st cFmtDecodeOverflow) ((s.pieceVals st c a n).map Prod.snd).sum

variable {s st c a y n rest}

theorem State.pieceVals_codes : (s.pieceVals st c a n).map (fun v => code32 v.1) =
    (List.range (min 16384 (a.src.count - 16384 * n))).map fun i => code32 (s.moduleVal st c a (16384 * n + i)).1 :=
  List.map_map

theorem State.piece_more (h : c.todo = n :: rest) (more : rest ≠ []) :
    s.piece st c y = s.pieced st c (redArgs c.bytes) y n rest := by
  unfold State.piece
  rw [h]
  exact if_neg (by simpa using more)

theorem State.piece_last (h : c.todo = [n]) : s.piece st c y =
    (s.pieced st c (redArgs c.bytes) y n []).moduleDone st { c with todo := [] } (redArgs c.bytes)
      (s.collPiece st c (redArgs c.bytes) y n) := by
  unfold State.piece
  rw [h]
  rfl

theorem State.pieced_cmd {tkt : Nat} (hc : (s.stand st).cmd tkt = some c) :
    ((s.pieced st c a y n rest).stand st).cmd tkt = some { c with todo := rest } :=
  State.setCmd_cmd (((s.setColl_quiet st _).cmd tkt).trans hc) (StandSt.cmd_ticket hc :)

theorem State.pieced_coll {tkt : Nat} (hy : (s.stand st).coll tkt = some y) :
    ((s.pieced st c a y n rest).stand st).coll tkt = some (s.collPiece st c a y n) := by
  have set : ((s.setColl st (s.collPiece st c a y n)).stand st).coll tkt = _ := State.setColl_coll hy (StandSt.coll_ticket hy :)
  rw [State.pieced, State.count_stand, State.countStand_stand, State.setCmd, State.setStand_stand_same]
  exact set

theorem State.pieced_counter :
    (s.pieced st c a y n rest).counters.get (kStand st cTrsPieces) = s.counters.get (kStand st cTrsPieces) + 1 := by
  have decode : kStand st cFmtDecodeOverflow ≠ kStand st cTrsPieces := kStand_ne st (by decide)
  rw [State.pieced, State.count_counters, Counters.get_add_ne _ decode]
  exact State.count_one _ _

theorem State.pieced_memoryKept : s.memoryKept (s.pieced st c a y n rest) := ⟨rfl, rfl, rfl⟩

theorem State.pieced_outputs : ((s.pieced st c a y n rest).stand st).outputs = (s.stand st).outputs :=
  (State.setCmd_outputs _).trans (s.setColl_quiet st _).outputs

theorem State.pieced_others : s.standOnly (s.pieced st c a y n rest) st :=
  (s.setColl_quiet st (s.collPiece st c a y n)).others.trans (State.setCmd_others _)

end

/-! ### The link-die level of the Truss tree (spec/01 R22) -/

section
variable (s : State) (st : Nat) (c : Cmd)

theorem State.holdTruss_bookWork : s.bookWork (s.holdTruss st c) st := by
  unfold State.holdTruss
  split
  · exact .of_stands rfl ⟨rfl, rfl, rfl⟩
  · exact State.bookWork.refl s st

theorem State.holdTruss_collPiece (a : RedArgs) (y : Coll) (n : Nat) :
    (s.holdTruss st c).collPiece st c a y n = s.collPiece st c a y n := by
  unfold State.holdTruss
  split <;> rfl

theorem State.holdTruss_counters : (s.holdTruss st c).counters = s.counters := by
  unfold State.holdTruss
  split <;> rfl

theorem State.holdTruss_clock : (s.holdTruss st c).clock = s.clock := by
  unfold State.holdTruss
  split <;> rfl

end

section
variable {s : State} {st tkt n : Nat} {rest : List Nat} {c : Cmd} {y : Coll} (hc : (s.stand st).cmd tkt = some c)
  (hy : (s.stand st).coll tkt = some y)
include hc hy

theorem exec_reductionPiece_waits (link : s.onLinkTruss st c = true) (other : s.trussTurn ≠ some (st, tkt)) :
    exec (.reductionPiece st tkt) s = .next s := by
  change execReductionPiece st tkt s = _
  rw [execReductionPiece, hc, hy]
  exact congrArg Host.Outcome.next (if_neg fun ⟨_, _, turn⟩ => other (turn link))

theorem exec_reductionPiece (alive : s.alive = true) (running : c.stage = .running)
    (turn : s.onLinkTruss st c = true → s.trussTurn = some (st, tkt)) :
    exec (.reductionPiece st tkt) s = .next ((s.holdTruss st c).piece st c y) := by
  change execReductionPiece st tkt s = _
  rw [execReductionPiece, hc, hy]
  exact congrArg Host.Outcome.next (if_pos ⟨alive, running, turn⟩)

/-- A piece that is not the last: the values appended, and the piece counted. -/
theorem State.piece_more_works (todo : c.todo = n :: rest) (more : rest ≠ [])
    {t : State} (ht : t = (s.holdTruss st c).piece st c y) : ((t.stand st).cmd tkt).map (·.todo) = some rest ∧
      (t.stand st).coll tkt = some (s.collPiece st c (redArgs c.bytes) y n) ∧
      t.counters.get (kStand st cTrsPieces) = s.counters.get (kStand st cTrsPieces) + 1 ∧ s.memoryKept t ∧
      (t.stand st).outputs = (s.stand st).outputs ∧ s.standOnly t st := by
  have held := s.holdTruss_bookWork st c
  have cmd := (held.quiet.cmd tkt).trans hc
  have coll := (held.coll tkt).trans hy
  rw [ht, State.piece_more todo more]
  refine ⟨congrArg (Option.map Cmd.todo) (State.pieced_cmd cmd), ?_, ?_, held.memory.trans State.pieced_memoryKept,
    State.pieced_outputs.trans held.quiet.outputs, held.others.trans State.pieced_others⟩
  · rw [State.pieced_coll coll, State.holdTruss_collPiece]
  · rw [State.pieced_counter, State.holdTruss_counters]

/-- The last piece: this module's result is whole. -/
theorem State.piece_last_works (todo : c.todo = [n]) (fresh : y.fromRecord = false)
    {t : State} (ht : t = (s.holdTruss st c).piece st c y) : t.stageOf st tkt = some (.phase 2) ∧
      (∃ z, (t.stand st).coll tkt = some z ∧ z.ownAt = some s.clock.now ∧ z.vals = (s.collPiece st c (redArgs c.bytes) y n).vals ∧
        (c.opcode = 0x30 → z.results = [(0, z.vals, false)])) ∧
      s.memoryKept t ∧ (t.stand st).outputs = (s.stand st).outputs ∧ s.standOnly t st := by
  have held := s.holdTruss_bookWork st c
  have cmd := State.pieced_cmd (a := redArgs c.bytes) (y := y) (n := n) (rest := []) ((held.quiet.cmd tkt).trans hc)
  have coll := State.pieced_coll (c := c) (a := redArgs c.bytes) (n := n) (rest := []) ((held.coll tkt).trans hy)
  rw [State.holdTruss_collPiece] at coll
  obtain ⟨stage, ⟨z, hz, noted, results⟩, memory, outputs, others⟩ := State.moduleDone_works { c with todo := [] } (redArgs c.bytes)
    (y := s.collPiece st c (redArgs c.bytes) y n) cmd (StandSt.cmd_ticket hc :) coll (StandSt.coll_ticket hy :)
  rw [ht, State.piece_last todo, State.holdTruss_collPiece]
  have now : z.ownAt = some s.clock.now := by rw [noted.ownAt, State.collWhole, ← s.holdTruss_clock st c]; rfl
  exact ⟨stage, ⟨z, hz, now, noted.vals, results fresh⟩, (held.memory.trans State.pieced_memoryKept).trans memory,
    outputs.trans (State.pieced_outputs.trans held.quiet.outputs), (held.others.trans State.pieced_others).trans others⟩

end

end Sys2Proof.Machine
end

section
/-! How a REDUCE or COLLECTIVE begins (spec/09 R219, R220): what reading its source notes, and the reduction in hand. -/

namespace Sys2Proof.Machine

/-! ### What reading the source notes -/

/-- `y` keeps of `x` what a replay is at and which results its records keep (spec/09 R232). -/
def StepSt.keptSame (x y : StepSt) : Prop := y.replay = x.replay ∧ ∀ n, (y.rec_ n).map (·.kept) = (x.rec_ n).map (·.kept)

theorem StepSt.keptSame.refl (x : StepSt) : x.keptSame x := ⟨rfl, fun _ => rfl⟩

theorem StepSt.keptSame.trans {x y z : StepSt} (h : x.keptSame y) (k : y.keptSame z) : x.keptSame z := by
  obtain ⟨replay, kept⟩ := h
  obtain ⟨replay', kept'⟩ := k
  exact ⟨replay'.trans replay, fun n => (kept' n).trans (kept n)⟩

theorem StepSt.marked_keptSame (x : StepSt) (step : W64) (cause : Nat) : x.keptSame (x.marked step cause) := by
  refine ⟨rfl, fun n => ?_⟩
  have mark (r : StepRec) : (r.withMark cause).step = r.step ∧ (r.withMark cause).kept = r.kept := by
    unfold StepRec.withMark
    split <;> exact ⟨rfl, rfl⟩
  have same (r : StepRec) : (if r.step = step then r.withMark cause else r).step = r.step ∧
      (if r.step = step then r.withMark cause else r).kept = r.kept := by
    split
    · exact mark r
    · exact ⟨rfl, rfl⟩
  simp only [StepSt.rec_, StepSt.marked, List.find?_map, Option.map_map]
  congr 1
  · exact funext fun r => (same r).2
  · congr 1
    exact funext fun r => congrArg (fun m => decide (m = n)) (same r).1

section
variable (s : State) (st : Nat) (c : Cmd) (a : RedArgs)

theorem State.markCmd_keptSame (cause : Nat) : (s.stand st).steps.keptSame ((s.markCmd st c cause).stand st).steps := by
  unfold State.markCmd State.mark
  split
  · exact StepSt.keptSame.refl _
  · rw [State.count_stand, s.setStand_stand_same]
    exact StepSt.marked_keptSame _ _ _

theorem State.noteWord_stand (w k : Nat) : (s.noteWord w).stand k = s.stand k := by
  unfold State.noteWord
  split
  · rfl
  · rfl
  · dsimp only
    split <;> rfl

theorem State.noteStored_stand (ws : List (StoreId × Nat)) (k : Nat) : (s.noteStored ws).stand k = s.stand k := by
  unfold State.noteStored
  induction ws generalizing s with
  | nil => rfl
  | cons x ws ih =>
    rw [List.foldl_cons, ih]
    split
    · exact s.noteWord_stand _ k
    · rfl
    · rfl

theorem State.noteStored_landWork (ws : List (StoreId × Nat)) : s.landWork (s.noteStored ws) st := by
  refine s.foldl_landWork st (fun u x => ?_) ws
  split
  · exact u.noteWord_landWork st _
  · exact u.count_landWork st _ _
  · exact (u.count_landWork st _ _).trans (State.count_landWork _ st _ _)

theorem State.operandPoison_landWork (bad : Nat) : s.landWork (s.operandPoison st c bad).1 st := by
  unfold State.operandPoison
  split
  · exact State.landWork.refl s st
  · exact (s.count_landWork st _ _).trans (State.markCmd_landWork _ st c 6)

theorem State.operandPoison_keptSame (bad : Nat) : (s.stand st).steps.keptSame ((s.operandPoison st c bad).1.stand st).steps := by
  unfold State.operandPoison
  split
  · exact StepSt.keptSame.refl _
  · exact State.markCmd_keptSame _ st c 6

theorem State.unavailable_landWork : s.landWork (s.unavailable st c).1 st :=
  (s.count_landWork st _ 1).trans (State.markCmd_landWork _ st c 9)

theorem State.redSources_landWork : s.landWork (s.redSources st c a).1 st := by
  have read := (s.noteStored_landWork st (s.redReads st c a)).trans (State.operandPoison_landWork _ st c
    ((s.redReads st c a).filter fun w => (s.store w.1).bad w.2).length)
  unfold State.redSources
  dsimp only
  split
  · exact read
  · exact read.trans (State.unavailable_landWork _ st _)

theorem State.redSources_carries : c.carries (s.redSources st c a).2 := by
  have read := State.operandPoison_carries (s := s.noteStored (s.redReads st c a)) st c
    ((s.redReads st c a).filter fun w => (s.store w.1).bad w.2).length
  unfold State.redSources
  dsimp only
  split
  · exact read
  · exact read.trans rfl

theorem State.redSources_keptSame : (s.stand st).steps.keptSame ((s.redSources st c a).1.stand st).steps := by
  have read := State.operandPoison_keptSame (s.noteStored (s.redReads st c a)) st c
    ((s.redReads st c a).filter fun w => (s.store w.1).bad w.2).length
  rw [State.noteStored_stand] at read
  unfold State.redSources
  dsimp only
  split
  · exact read
  · exact read.trans (State.markCmd_keptSame _ st _ 9)

/-- A source that reads nothing of a store notes nothing in memory. -/
theorem State.redSources_memoryKept (none : s.redReads st c a = []) : s.memoryKept (s.redSources st c a).1 := by
  unfold State.redSources
  rw [none]
  dsimp only
  split
  · exact ⟨rfl, rfl, rfl⟩
  · exact (State.unavailable_bookWork _ st _).memory

variable {s st c a}

theorem State.keptResults_of_carries {d : Cmd} (h : c.carries d) : s.keptResults st d a = s.keptResults st c a := by
  rw [h]; rfl

/-- Results that no record keeps are not kept after the source has been read. -/
theorem State.keptResults_none {t : State} (steps : (s.stand st).steps.keptSame (t.stand st).steps)
    (h : s.keptResults st c a = none) : t.keptResults st c a = none := by
  obtain ⟨replay, kept⟩ := steps
  unfold State.keptResults at h ⊢
  rw [replay]
  split
  · next n r hn hr =>
    rw [hn, hr] at h
    dsimp only at h
    split
    · next again =>
      rw [if_pos again] at h
      have same := kept n
      split
      · next x hx =>
        rw [hx, Option.map_some] at same
        obtain ⟨w, hw, eq⟩ := Option.map_eq_some_iff.mp same.symm
        rw [hw] at h
        rw [← eq]
        exact h
      · rfl
    · rfl
  · rfl

end

/-! ### The reduction in hand -/

section
variable (s : State) (st : Nat) (c : Cmd) (a : RedArgs) (y : Coll) (todo : List Nat) (now : W64)

/-- The state with a reduction in hand, its command under way. -/
def State.collBegun : State :=
  (s.setStand st { s.stand st with colls := (s.stand st).colls ++ [y] }).setCmd st
    { c with stage := .running, todo := todo, tStart := now }

theorem State.collBegun_colls : ((s.collBegun st c y todo now).stand st).colls = (s.stand st).colls ++ [y] := by
  rw [State.collBegun, State.setCmd, State.setStand_stand_same, State.setStand_stand_same]; rfl

theorem State.collBegun_memoryKept : s.memoryKept (s.collBegun st c y todo now) := ⟨rfl, rfl, rfl⟩

theorem State.collBegun_outputs : ((s.collBegun st c y todo now).stand st).outputs = (s.stand st).outputs := by
  rw [State.collBegun, State.setCmd_outputs, State.setStand_stand_same]; rfl

theorem State.collBegun_others : s.standOnly (s.collBegun st c y todo now) st :=
  fun _ hk => (State.setCmd_others _ _ hk).trans (s.setStand_stand_ne hk _)

variable {s st c a y todo now}

theorem State.collBegun_cmd {tkt : Nat} {d : Cmd} (hd : (s.stand st).cmd tkt = some d) (hc : c.ticket = tkt) :
    ((s.collBegun st c y todo now).stand st).cmd tkt = some { c with stage := .running, todo := todo, tStart := now } := by
  refine State.setCmd_cmd (c := d) ?_ hc
  rw [State.setStand_stand_same]
  exact hd

/-- A ticket has a reduction in hand once one is entered for it. -/
theorem State.collBegun_coll : ∃ x, ((s.collBegun st c y todo now).stand st).coll y.ticket = some x := by
  refine Option.isSome_iff_exists.mp ?_
  rw [StandSt.coll, State.collBegun_colls, List.find?_isSome]
  exact ⟨y, List.mem_append_right _ (List.mem_singleton_self y), by simp⟩

theorem State.startRed_waits (tensor : (redArgs c.bytes).op ≠ 5) (waits : s.memWaits st c (redArgs c.bytes).src = true) :
    s.startRed st c = s := by
  unfold State.startRed
  exact if_pos ⟨tensor, waits⟩

/-- A reduction of a tensor that no record keeps begins with its pieces still to do (spec/09 R219). -/
theorem State.startRed_tensor (tensor : (redArgs c.bytes).op ≠ 5) (ready : s.memWaits st c (redArgs c.bytes).src = false)
    (fresh : s.keptResults st c (redArgs c.bytes) = none) (some_ : 0 < (redArgs c.bytes).src.count) : s.startRed st c =
      (s.redSources st c (redArgs c.bytes)).1.collBegun st (s.redSources st c (redArgs c.bytes)).2
        ((s.redSources st c (redArgs c.bytes)).1.newColl st (s.redSources st c (redArgs c.bytes)).2 (redArgs c.bytes))
        (List.range (ceilDiv (redArgs c.bytes).src.count 16384)) s.clock.now := by
  have pieces : ceilDiv (redArgs c.bytes).src.count 16384 ≠ 0 := by unfold ceilDiv; omega
  have kept : (s.redSources st c (redArgs c.bytes)).1.keptResults st (s.redSources st c (redArgs c.bytes)).2 (redArgs c.bytes) = none :=
    (State.keptResults_of_carries (s.redSources_carries st c _)).trans (State.keptResults_none (s.redSources_keptSame st c _) fresh)
  unfold State.startRed
  simp [tensor, ready, State.newColl, kept, pieces]
  rfl

/-- A BARRIER has nothing to reduce: its module result is complete as it begins. -/
theorem State.startRed_barrier (barrier : (redArgs c.bytes).op = 5) : s.startRed st c =
    (s.collBegun st c (s.newColl st c (redArgs c.bytes)) [] s.clock.now).moduleDone st
      { c with stage := .running, todo := [], tStart := s.clock.now } (redArgs c.bytes) (s.newColl st c (redArgs c.bytes)) := by
  unfold State.startRed
  simp [barrier]
  rfl

end

end Sys2Proof.Machine
end

section
/-! The end of a REDUCE or COLLECTIVE (spec/09 R220): its results written into its destination, and the command done. -/

namespace Sys2Proof.Machine

/-! ### The command done -/

section
variable (s : State) (st : Nat) (c : Cmd) (a : RedArgs) (y : Coll)

theorem State.keepResults_bookWork : s.bookWork (s.keepResults st c a y) st := by
  unfold State.keepResults
  split
  · split
    · exact s.foldl_bookWork st (fun u r => u.recordKept_bookWork st _ _) _
    · exact State.bookWork.refl s st
  · exact State.bookWork.refl s st

variable {s st c y}

/-- A reduction's end: its command is done and it is in hand no longer. -/
theorem State.redDone_ends {tkt : Nat} {d : Cmd} (hd : (s.stand st).cmd tkt = some d) (hc : c.ticket = tkt) (hy : y.ticket = tkt) :
    (s.redDone st c a y).stageOf st tkt = some .done ∧ ((s.redDone st c a y).stand st).coll tkt = none ∧
      s.memoryKept (s.redDone st c a y) ∧ ((s.redDone st c a y).stand st).outputs = (s.stand st).outputs ∧
      s.standOnly (s.redDone st c a y) st := by
  subst hy
  have kept := s.keepResults_bookWork st c a y
  unfold State.redDone
  extract_lets t x
  have removed : s.quiet (t.setStand st { x with
      colls := x.colls.filter fun z => decide (z.ticket ≠ y.ticket)
      contribs := x.contribs.filter fun q => !q.of y || (x.openFor q).isSome }) st :=
    kept.quiet.trans (State.setStand_quiet rfl rfl)
  obtain ⟨-, stage, -, outputs, others⟩ := removed.ends hd (d := { c with
    pay := s.redPayload st c y
    statuses := c.statuses ++ (if y.results.any (·.2.2) then [0x0110] else []) ++ (if y.memberFenced then [0x0111] else []) }) hc
  refine ⟨stage, ?_, kept.memory.trans ⟨rfl, rfl, rfl⟩, outputs, others⟩
  simp [State.engineDone, State.setCmd, StandSt.coll, StandSt.setCmd]

end

/-! ### What a phase-2 row does -/

section
variable {s : State} {st tkt op : Nat} {c : Cmd} {y : Coll} (which : op = 0x30 ∨ op = 0x31) (alive : s.alive = true)
  (hc : (s.stand st).cmd tkt = some c) (hy : (s.stand st).coll tkt = some y) (opcode : c.opcode = op) (phase : c.stage = .phase 2)
  (sent : y.unsent = [])
include which alive hc hy opcode phase sent

/-- With everything sent, the row of a command whose module result is whole tries its end. -/
theorem exec_red_end : exec (if op = 0x30 then .reduce st tkt else .collective st tkt) s = .next (s.endRed st c y) := by
  rw [exec_red which, State.runRed, State.canRun_none hc (by simp [phase]), hc, hy]
  simp [alive, opcode, phase, sent]

end

section
variable {s : State} {st : Nat} {c : Cmd} {y : Coll}

theorem State.endRed_waits (h : s.redReady st c (redArgs c.bytes) y = false ∨ (redArgs c.bytes).dgrp = true) : s.endRed st c y = s := by
  unfold State.endRed
  exact if_pos (by rcases h with h | h <;> simp [h])

variable (here : (redArgs c.bytes).dgrp = false) (ready : s.redReady st c (redArgs c.bytes) y = true)
include here ready

/-- A BARRIER, and a BROADCAST whose root is fenced, have nothing to write. -/
theorem State.endRed_nothing (h : (redArgs c.bytes).op = 5 ∨ s.rootLost st (redArgs c.bytes) = true) :
    s.endRed st c y = s.redDone st c (redArgs c.bytes) y := by
  unfold State.endRed
  simp only [here, ready, Bool.not_true, Bool.or_self, Bool.false_eq_true, if_false]
  exact if_pos h

theorem State.endRed_writes (tensor : (redArgs c.bytes).op ≠ 5) (root : s.rootLost st (redArgs c.bytes) = false) {t : State} {d : Cmd}
    (put : s.putResult st c (redArgs c.bytes).dst (s.resultAt st c (redArgs c.bytes) y) = some (t, d)) :
    s.endRed st c y = t.redDone st d (redArgs c.bytes) y := by
  unfold State.endRed
  simp [here, ready, tensor, root, put]

end

/-! ### The destination -/

section
variable {s : State} {st : Nat} {c : Cmd} {d : Desc} {val : Nat → Option W32}

/-- A destination on a core that cannot be used is not written, and the command says so. -/
theorem State.putResult_absent (space : d.space = 2) (absent : s.storeOf st d = none) :
    ∃ t e, s.putResult st c d val = some (t, e) ∧ s.bookWork t st ∧ e.ticket = c.ticket := by
  unfold State.putResult
  rw [if_pos ⟨space, by simp [absent]⟩]
  split
  · exact ⟨s, c, rfl, State.bookWork.refl s st, rfl⟩
  · exact ⟨_, _, rfl, s.unavailable_bookWork st c, rfl⟩

/-- What writing DST stores: each element's code, or for one without a code what its bytes hold. -/
def State.resultStored (s : State) (st : Nat) (c : Cmd) (d : Desc) (val : Nat → Option W32) : Stored :=
  d.store (s.recipe d.fmt) (c.sr d.fmt) (fun e0 e1 e2 e3 => match val (d.lin e0 e1 e2 e3) with
    | some w => val32 w
    | none => d.value (s.spotByte st c d) e0 e1 e2 e3) d.lin

/-- The bytes of it with their places. -/
def State.resultWrites (s : State) (st : Nat) (c : Cmd) (d : Desc) (val : Nat → Option W32) : List (Spot × Byte) :=
  (s.resultStored st c d val).bytes.map fun p => (s.spot st c d p.1, p.2)

/-- With every element's code at hand and nothing to wait for, all of DST is written. -/
theorem State.putResult_whole {id : StoreId} (store : s.storeOf st d = some id) (all : ∀ i, i < d.count → (val i).isSome = true)
    (mat : d.space = 2 → ((s.stand st).others c.ticket).matHolds d.cluster d.core d.span = false)
    (unheld : s.srcHeld st c.ticket d = false) (swept : (s.memParts st d).any (s.sweepAhead st c.ticket) = false)
    (unstaged : ∀ die b, s.wantStage die b = []) : s.putResult st c d val =
      some ((s.putSpots (s.resultWrites st c d val) []).countFmt st (s.resultStored st c d val).cnt, c) := by
  have present : (d.space = 2 ∧ (s.storeOf st d).isNone) = False := by simp [store]
  have free : (decide (d.space = 2) && ((s.stand st).others c.ticket).matHolds d.cluster d.core d.span) = false := by
    by_cases h : d.space = 2 <;> simp [h, mat]
  have every : ((List.range d.count).all fun i => (val i).isSome) = true := by simpa using all
  unfold State.putResult
  simp only [present, if_false, free, unheld, swept, every, if_true, Bool.or_self, Bool.false_eq_true, List.isEmpty_nil, Bool.true_or,
    List.filter_true, State.stageFor_of_unwanted unstaged, Option.map_some]
  rfl

/-- The bytes of an operand of the stand lie in its store. -/
theorem State.spot_storeOf {id j : StoreId} {o b : Nat} (near : d.space ≤ 2) (store : s.storeOf st d = some id)
    (e : s.spot st c d o = .held j b) : j = id := by
  have here : d.space ≠ 3 := by omega
  rw [State.spot, if_neg here, store] at e
  cases id with
  | hbm =>
    simp only [State.memSpot] at e
    split at e <;> simp_all
  | scratch px => exact (Spot.held.inj e).1.symm
  | spad pc => exact (Spot.held.inj e).1.symm

/-- A write whose bytes lie in one store, memory's words checking where it is memory. -/
theorem State.putSpots_oneStore {id : StoreId} {ws : List (Spot × Byte)} (only : ∀ p ∈ ws, ∀ j b, p.1 = .held j b → j = id)
    (clean : id = .hbm → s.hbm.diff = []) : s.storeSet (s.putSpots ws []) id ((s.store id).put (heldIn id ws)) := by
  have merged : (if id = .hbm then s.noteMerge ((heldIn id ws).map Prod.fst) else s) = s := by
    split
    · next e => exact s.noteMerge_clean _ (clean e)
    · rfl
  rcases storesOf_only id only with one | ⟨none, empty⟩
  · rw [State.putSpots, one, List.foldl_cons, List.foldl_nil]
    simp only [merged]
    exact (s.setStore_storeSet id _).setFreeCtr _
  · rw [State.putSpots, none, empty, Mem.put_nil]
    exact State.storeSet.refl s id

theorem State.memoryKept.store {t : State} (h : s.memoryKept t) (j : StoreId) : t.store j = s.store j := by
  obtain ⟨hbm, comp, -⟩ := h
  cases j with
  | hbm => exact hbm
  | scratch px => rw [State.store, State.cluster, comp]; rfl
  | spad pc => rw [State.store, State.core_of_comp comp]; rfl

theorem State.countFmt_memoryKept (w : WrCount) : s.memoryKept (s.countFmt st w) :=
  ⟨State.countFmt_hbm .., State.countFmt_comp .., State.countFmt_mem ..⟩

end

end Sys2Proof.Machine
end

section
/-! REDUCE, COLLECTIVE and REDUCTION_PIECE settled: each part of the statement by the lemmas about its phase. -/

namespace Sys2Proof.Machine

/-! ### Beginning -/

section
variable {s : State} {st tkt op : Nat} {c : Cmd} (which : op = 0x30 ∨ op = 0x31) (can : s.canRun st tkt op = some c)
include which can

theorem exec_red_begin : exec (if op = 0x30 then .reduce st tkt else .collective st tkt) s = .next (s.startRed st c) := by
  rw [exec_red which, State.runRed, can]

/-- A reduction of a tensor begins with its pieces to do and nothing reduced. -/
theorem exec_red_tensor (tensor : (redArgs c.bytes).op ≠ 5) (ready : s.memWaits st c (redArgs c.bytes).src = false)
    (fresh : s.keptResults st c (redArgs c.bytes) = none) (some_ : 0 < (redArgs c.bytes).src.count) :
    ∃ t y, exec (if op = 0x30 then .reduce st tkt else .collective st tkt) s = .next t ∧ t.stageOf st tkt = some .running ∧
      ((t.stand st).cmd tkt).map (·.todo) = some (List.range (ceilDiv (redArgs c.bytes).src.count 16384)) ∧
      (t.stand st).colls = (s.stand st).colls ++ [y] ∧ y.ticket = tkt ∧ y.inst = c.inst ∧ y.vals = [] ∧ y.ownAt = none ∧
      y.op = (redArgs c.bytes).op ∧ y.collId = (redArgs c.bytes).collId ∧
      (s.redReads st c (redArgs c.bytes) = [] → s.memoryKept t) ∧
      (t.stand st).outputs = (s.stand st).outputs ∧ s.standOnly t st ∧ t.frame = s.frame := by
  obtain ⟨hc, -⟩ := State.canRun_some can
  have runs := exec_red_begin which can
  have landed := s.redSources_landWork st c (redArgs c.bytes)
  have read := landed.tolandAside.quiet
  have same := s.redSources_carries st c (redArgs c.bytes)
  have ticket : (s.redSources st c (redArgs c.bytes)).2.ticket = tkt := same.ticket.trans (StandSt.cmd_ticket hc)
  have inst : (s.redSources st c (redArgs c.bytes)).2.inst = c.inst := by rw [same]
  rw [State.startRed_tensor tensor ready fresh some_] at runs
  have cmd := State.collBegun_cmd (y := (s.redSources st c (redArgs c.bytes)).1.newColl st (s.redSources st c (redArgs c.bytes)).2
      (redArgs c.bytes)) (todo := List.range (ceilDiv (redArgs c.bytes).src.count 16384)) (now := s.clock.now)
    ((read.cmd tkt).trans hc) ticket
  refine ⟨_, (s.redSources st c (redArgs c.bytes)).1.newColl st (s.redSources st c (redArgs c.bytes)).2 (redArgs c.bytes), runs,
    congrArg (Option.map Cmd.stage) cmd, congrArg (Option.map Cmd.todo) cmd, ?_, ticket, inst, rfl, rfl, rfl, rfl,
    fun none => (s.redSources_memoryKept st c _ none).trans (State.collBegun_memoryKept ..),
    (State.collBegun_outputs ..).trans read.outputs, read.others.trans (State.collBegun_others _ st _ _ _ _),
    exec_frame _ (red_setsFrame which st tkt) runs⟩
  rw [State.collBegun_colls, landed.steps]

/-- A BARRIER begins with its module result complete. -/
theorem exec_red_barrier (barrier : (redArgs c.bytes).op = 5) :
    ∃ t, exec (if op = 0x30 then .reduce st tkt else .collective st tkt) s = .next t ∧ t.stageOf st tkt = some (.phase 2) ∧
      s.memoryKept t ∧ (t.stand st).outputs = (s.stand st).outputs ∧ s.standOnly t st ∧ t.frame = s.frame := by
  obtain ⟨hc, -⟩ := State.canRun_some can
  have ticket := StandSt.cmd_ticket hc
  have runs := exec_red_begin which can
  rw [State.startRed_barrier barrier] at runs
  obtain ⟨x, hx⟩ := State.collBegun_coll (s := s) (st := st) (c := c) (y := s.newColl st c (redArgs c.bytes)) (todo := [])
    (now := s.clock.now)
  have hx : ((s.collBegun st c (s.newColl st c (redArgs c.bytes)) [] s.clock.now).stand st).coll tkt = some x := by
    rw [← ticket]; exact hx
  obtain ⟨stage, -, memory, outputs, others⟩ := State.moduleDone_works { c with stage := .running, todo := [], tStart := s.clock.now }
    (redArgs c.bytes) (y := s.newColl st c (redArgs c.bytes)) (State.collBegun_cmd hc ticket) (ticket :) hx (ticket :)
  exact ⟨_, runs, stage, (State.collBegun_memoryKept ..).trans memory, outputs.trans (State.collBegun_outputs ..),
    State.standOnly.trans (State.collBegun_others _ st _ _ _ _) others, exec_frame _ (red_setsFrame which st tkt) runs⟩

end

/-! ### Ending -/

section
variable {s : State} {st tkt : Nat} {c : Cmd} {y : Coll} (hc : (s.stand st).cmd tkt = some c) (hy : (s.stand st).coll tkt = some y)
  (here : (redArgs c.bytes).dgrp = false) (ready : s.redReady st c (redArgs c.bytes) y = true)
include hc hy here ready

/-- A command with nothing to write, or nowhere to write it, ends. -/
theorem State.endRed_unwritten (h : (redArgs c.bytes).op = 5 ∨ s.rootLost st (redArgs c.bytes) = true ∨
      (redArgs c.bytes).dst.space = 2 ∧ s.storeOf st (redArgs c.bytes).dst = none) :
    (s.endRed st c y).stageOf st tkt = some .done ∧ ((s.endRed st c y).stand st).coll tkt = none ∧ s.memoryKept (s.endRed st c y) ∧
      ((s.endRed st c y).stand st).outputs = (s.stand st).outputs ∧ s.standOnly (s.endRed st c y) st := by
  by_cases nothing : (redArgs c.bytes).op = 5 ∨ s.rootLost st (redArgs c.bytes) = true
  · rw [State.endRed_nothing here ready nothing]
    exact State.redDone_ends _ hc (StandSt.cmd_ticket hc) (StandSt.coll_ticket hy)
  · obtain ⟨tensor, root⟩ := not_or.mp nothing
    obtain ⟨space, absent⟩ := (h.resolve_left tensor).resolve_left root
    obtain ⟨t, d, put, work, ticket⟩ := State.putResult_absent (c := c) (val := s.resultAt st c (redArgs c.bytes) y) space absent
    rw [State.endRed_writes here ready tensor (by simpa using root) put]
    obtain ⟨stage, coll, memory, outputs, others⟩ := State.redDone_ends (redArgs c.bytes) ((work.quiet.cmd tkt).trans hc)
      (ticket.trans (StandSt.cmd_ticket hc)) (StandSt.coll_ticket hy)
    exact ⟨stage, coll, work.memory.trans memory, outputs.trans work.quiet.outputs, work.others.trans others⟩

/-- A command whose results have all come writes them into its destination, and ends. -/
theorem State.endRed_written {id : StoreId} (tensor : (redArgs c.bytes).op ≠ 5) (root : s.rootLost st (redArgs c.bytes) = false)
    (all : ∀ i, i < (redArgs c.bytes).dst.count → (s.resultAt st c (redArgs c.bytes) y i).isSome = true)
    (near : (redArgs c.bytes).dst.space ≤ 2) (store : s.storeOf st (redArgs c.bytes).dst = some id)
    (mat : (redArgs c.bytes).dst.space = 2 → ((s.stand st).others c.ticket).matHolds (redArgs c.bytes).dst.cluster
      (redArgs c.bytes).dst.core (redArgs c.bytes).dst.span = false)
    (unheld : s.srcHeld st c.ticket (redArgs c.bytes).dst = false)
    (swept : (s.memParts st (redArgs c.bytes).dst).any (s.sweepAhead st c.ticket) = false) (clean : id = .hbm → s.hbm.diff = [])
    (unstaged : ∀ die b, s.wantStage die b = []) :
    (s.endRed st c y).stageOf st tkt = some .done ∧ ((s.endRed st c y).stand st).coll tkt = none ∧
      (s.endRed st c y).store id = (s.store id).put
        (heldIn id (s.resultWrites st c (redArgs c.bytes).dst (s.resultAt st c (redArgs c.bytes) y))) ∧
      (∀ j, j ≠ id → (s.endRed st c y).store j = s.store j) ∧
      ((s.endRed st c y).stand st).outputs = (s.stand st).outputs ∧ s.standOnly (s.endRed st c y) st := by
  have put := State.putResult_whole store all mat unheld swept unstaged
  have only : ∀ p ∈ s.resultWrites st c (redArgs c.bytes).dst (s.resultAt st c (redArgs c.bytes) y),
      ∀ j b, p.1 = .held j b → j = id := by
    intro p hp j b e
    obtain ⟨q, -, rfl⟩ := List.mem_map.mp hp
    exact State.spot_storeOf near store e
  have wrote := State.putSpots_oneStore only clean
  have counted := State.countFmt_landWork (s.putSpots (s.resultWrites st c (redArgs c.bytes).dst
    (s.resultAt st c (redArgs c.bytes) y)) []) st (s.resultStored st c (redArgs c.bytes).dst (s.resultAt st c (redArgs c.bytes) y)).cnt
  have cmd := (counted.tolandAside.quiet.cmd tkt).trans ((congrArg (StandSt.cmd · tkt) (wrote.stand st)).trans hc)
  rw [State.endRed_writes here ready tensor root put]
  obtain ⟨stage, coll, memory, outputs, others⟩ := State.redDone_ends (redArgs c.bytes) cmd (StandSt.cmd_ticket hc)
    (StandSt.coll_ticket hy)
  have stores (j : StoreId) := (memory.store j).trans ((State.countFmt_memoryKept _).store j)
  refine ⟨stage, coll, (stores id).trans wrote.same, fun j hj => (stores j).trans (wrote.others j hj), ?_, fun k hk => ?_⟩
  · rw [outputs, counted.tolandAside.quiet.outputs, wrote.stand]
  · rw [others k hk, counted.others k hk, wrote.stand]

end

/-- Settles O35: beginning, pieces and end, each clause by the lemma about that phase of the command. -/
theorem reductions : Obligations.Reductions := by
  unfold Obligations.Reductions
  refine ⟨fun s st tkt op c a which can ha => ?begins, fun s st tkt n rest c y a alive hc hy running todo ha => ?pieces,
    fun s st tkt op c y a which alive hc hy opcode phase sent ha => ?ends⟩
  all_goals subst ha
  case begins =>
    refine ⟨fun tensor waits => ?_, exec_red_tensor which can, fun barrier op31 => ?_⟩
    · rw [exec_red_begin which can, State.startRed_waits tensor waits]
    · subst op31
      exact exec_red_barrier which can barrier
  case pieces =>
    refine ⟨exec_reductionPiece_waits hc hy, fun turn => ?_⟩
    have runs := exec_reductionPiece hc hy alive running turn
    refine ⟨fun more => ?_, fun last fresh _ => ?_⟩
    · obtain ⟨left, coll, counted, memory, outputs, others⟩ := State.piece_more_works hc hy todo more rfl
      rw [State.collPiece, State.pieceVals_codes] at coll
      exact ⟨_, runs, left, coll, counted, memory, outputs, others, exec_frame _ rfl runs⟩
    · subst last
      obtain ⟨stage, ⟨z, hz, own, vals, results⟩, memory, outputs, others⟩ := State.piece_last_works hc hy todo fresh rfl
      rw [State.collPiece, State.pieceVals_codes] at vals
      exact ⟨_, z, runs, stage, hz, own, vals, results, memory, outputs, others, exec_frame _ rfl runs⟩
  case ends =>
    have runs := exec_red_end which alive hc hy opcode phase sent
    refine ⟨fun waits => ?_, fun here ready unwritten => ?_,
      fun id tensor here ready root all near store mat unheld swept clean unstaged => ?_⟩
    · rw [runs, State.endRed_waits waits]
    · obtain ⟨stage, coll, memory, outputs, others⟩ := State.endRed_unwritten hc hy here ready unwritten
      exact ⟨_, runs, stage, coll, memory, outputs, others, exec_frame _ (red_setsFrame which st tkt) runs⟩
    · obtain ⟨stage, coll, same, rest, outputs, others⟩ :=
        State.endRed_written hc hy here ready tensor root all near store mat unheld swept clean unstaged
      exact ⟨_, runs, stage, coll, same, rest, outputs, others, exec_frame _ (red_setsFrame which st tkt) runs⟩

end Sys2Proof.Machine
end

section
/-! SEGMENT_FORM (spec/09 R217, R218, R224): the result of a segment, recorded once by its owner and sent to the other ranks. -/

namespace Sys2Proof.Machine

/-! ### Results recorded -/

section
variable (y : Coll) (k : Nat) (vs : List W32) (taint : Bool)

/-- A whole result recorded over less of it. -/
theorem Coll.withPart_result (short : ((y.result k).getD ([], false)).1.length ≤ vs.length) :
    (y.withPart k 0 vs taint).result k = some (vs, ((y.result k).getD ([], false)).2 || taint) := by
  have others : (y.results.filter fun r => decide (r.1 ≠ k)).find? (fun r => decide (r.1 = k)) = none := by simp
  have placed : placeAt ((y.result k).getD ([], false)).1 0 vs = vs := by simp [placeAt, short]
  rw [Coll.withPart, placed, Coll.result, List.find?_append, others]
  simp

theorem State.short_of_hasResult {s : State} {st : Nat} {y : Coll} {k : Nat} (h : s.hasResult st y k = false) :
    ((y.result k).getD ([], false)).1.length ≤ s.lenOf st y k := by
  unfold State.hasResult at h
  split at h
  · next r hr =>
    rw [hr]
    exact (not_le.mp (of_decide_eq_false h)).le
  · next hr => simp [hr]

theorem formVals_length (ls : List Leaf) (ks : List Carry) (n : Nat) : (formVals ls ks n).length = n := by simp [formVals]

/-- An element of a segment's result (spec/09 R217, R218). -/
theorem formVals_getD (ls : List Leaf) (ks : List Carry) {n j : Nat} (h : j < n) : (formVals ls ks n).getD j 0 =
    code32 (if ks = [] then tree32 (ls.map fun l => l.at_ j) else add32 (tree32 (ls.map fun l => l.at_ j)) (carryVal ks ls.length j)) := by
  simp [formVals, h]

end

/-! ### What a segment's row does -/

section
variable {s : State} {st tkt k my : Nat} {c : Cmd} {y : Coll}

/-- A segment is formed once. -/
theorem exec_segmentForm_formed (hy : (s.stand st).coll tkt = some y) (formed : y.formed.contains k = true) :
    exec (.segmentForm st tkt k) s = .next s := by
  change execSegmentForm st tkt k s = _
  rw [execSegmentForm, hy]
  split
  · next hz =>
    obtain rfl := Option.some.inj hz
    split
    · exact congrArg Host.Outcome.next (if_pos (by rw [formed]; simp))
    · rfl
  · rfl

variable (alive : s.alive = true) (hc : (s.stand st).cmd tkt = some c) (hy : (s.stand st).coll tkt = some y)
  (rank : s.rankIn st y.mtab = some my) (op : y.op = 1 ∨ y.op = 2) (own : y.ownAt.isSome = true) (fresh : y.fromRecord = false)
  (some_ : 0 < s.lenOf st y k) (owner : s.ownerOf st y k = some my) (unformed : y.formed.contains k = false)

/-- What ranks give to a segment. -/
def State.leaves (s : State) (st : Nat) (c : Cmd) (y : Coll) (my k : Nat) : List Leaf :=
  (List.range (s.mtab st y.mtab).members.length).map (s.leafOf st c y my k)

include alive hc hy rank op own fresh some_ owner unformed

/-- The owner of a segment that is not formed yet sends on the result it was given, waits, or forms it. -/
theorem exec_segmentForm : exec (.segmentForm st tkt k) s = .next (
    if s.hasResult st y k then s.passOn st y my k
    else if s.windowFirst st c y my k ∨ (s.leaves st c y my k).any (fun l => decide (l = .awaited)) then s
    else s.formSegment st c y my k (s.leaves st c y my k)) := by
  have mine : (!(s.alive && (decide (y.op = 1) || decide (y.op = 2)) && y.ownAt.isSome && !y.fromRecord &&
      decide (0 < s.lenOf st y k) && decide (s.ownerOf st y k = some my) && !y.formed.contains k)) = false := by
    have sums : (decide (y.op = 1) || decide (y.op = 2)) = true := by simpa using op
    rw [alive, sums, own, fresh, decide_eq_true some_, decide_eq_true owner, unformed]
    rfl
  change execSegmentForm st tkt k s = _
  rw [execSegmentForm, hc, hy]
  simp only [rank, mine, Bool.false_eq_true, if_false]
  rfl

end

/-! ### Sending on -/

section
variable (s : State) (st : Nat) (c : Cmd) (y : Coll) (my k : Nat)

theorem State.passOn_bookWork : (s.setColl st { y with formed := y.formed ++ [k] }).bookWork (s.passOn st y my k) st :=
  State.foldl_bookWork _ st (fun u q => u.sendResult_bookWork st y _ _ _ _ q) _

/-- Carries used and contributions dropped are a stand's bookkeeping. -/
theorem StandSt.useCarries_booked (x : StandSt) (ks : List Carry) : x.booked ((x.useCarries c y ks).dropUsed y k) := by rfl

/-- Forming a segment keeps books, enters the reduction as formed, records the result where it is needed here, and sends it. -/
theorem State.formSegment_steps (ls : List Leaf) : ∃ u z taint, s.bookWork u st ∧
    z = { y with formed := y.formed ++ [k], lateCount := z.lateCount, carriedCount := z.carriedCount, windowUs := z.windowUs } ∧
    (if (s.needed st y).contains k then
      (u.setColl st z).putPart st z k 0 (formVals ls ((s.stand st).carriesFor y k c.replay) (s.lenOf st y k)) taint
    else u.setColl st z).bookWork (s.formSegment st c y my k ls) st := by
  unfold State.formSegment
  extract_lets x ks vs taint made t1 late times t2 t3 z es t4 t5
  have entered : s.bookWork t1 st := (s.foldl_bookWork st (fun u e => u.addEntry_bookWork st e) made).trans (State.count_bookWork _ st _ _)
  have sampled : t1.bookWork t2 st := by
    dsimp only [t2]
    split
    · exact State.bookWork.refl t1 st
    · split
      · exact t1.lateSample_bookWork st _ _
      · exact State.bookWork.refl t1 st
  have used : t2.bookWork t3 st := State.setStand_bookWork (StandSt.useCarries_booked c y k _ ks)
  exact ⟨t3, z, taint, (entered.trans sampled).trans used, rfl,
    State.foldl_bookWork _ st (fun u r => u.sendResult_bookWork st y k _ _ _ r) _⟩

end

/-! ### Forming -/

section
variable {s : State} {st tkt my k : Nat} {c : Cmd} {y : Coll} (hy : (s.stand st).coll tkt = some y)
include hy

/-- A result from the owner before this one: the segment counts as formed. -/
theorem State.passOn_works : ((s.passOn st y my k).stand st).coll tkt = some { y with formed := y.formed ++ [k] } ∧
    s.memoryKept (s.passOn st y my k) ∧ ((s.passOn st y my k).stand st).outputs = (s.stand st).outputs ∧
    s.standOnly (s.passOn st y my k) st := by
  have sent := s.passOn_bookWork st y my k
  have set := s.setColl_quiet st { y with formed := y.formed ++ [k] }
  have ticket := StandSt.coll_ticket hy
  exact ⟨(sent.coll tkt).trans (State.setColl_coll hy ticket), (s.setColl_memoryKept st _).trans sent.memory,
    sent.quiet.outputs.trans set.outputs, set.others.trans sent.others⟩

/-- A segment formed: its reduction holds the result, where this module needs it. -/
theorem State.formSegment_works (missing : s.hasResult st y k = false) (ls : List Leaf) {t : State} (ht : t = s.formSegment st c y my k ls) :
    (∃ z, (t.stand st).coll tkt = some z ∧ z.formed = y.formed ++ [k] ∧ z.vals = y.vals ∧
      ((s.needed st y).contains k = true → ∃ b, z.result k =
        some (formVals ls ((s.stand st).carriesFor y k c.replay) (s.lenOf st y k), b))) ∧
    s.memoryKept t ∧ (t.stand st).outputs = (s.stand st).outputs ∧ s.standOnly t st := by
  obtain ⟨u, z, taint, booked, hz, sent⟩ := s.formSegment_steps st c y my k ls
  rw [← ht] at sent
  have ticket : z.ticket = tkt := by rw [hz]; exact (StandSt.coll_ticket hy :)
  have formed : z.formed = y.formed ++ [k] := by rw [hz]
  have vals : z.vals = y.vals := by rw [hz]
  have result : z.result k = y.result k := by rw [hz]; rfl
  have set := u.setColl_quiet st z
  have coll : ((u.setColl st z).stand st).coll tkt = some z := State.setColl_coll ((booked.coll tkt).trans hy) ticket
  have memory := booked.memory.trans (u.setColl_memoryKept st z)
  split at sent
  · have put := State.putPart_collWork (ticket.symm ▸ coll) k 0 (formVals ls ((s.stand st).carriesFor y k c.replay) (s.lenOf st y k)) taint
    have here := State.putPart_coll (ticket.symm ▸ coll) k 0 (formVals ls ((s.stand st).carriesFor y k c.replay) (s.lenOf st y k)) taint
    rw [ticket] at here
    refine ⟨⟨_, (sent.coll tkt).trans here, formed, vals, fun _ => ⟨_, Coll.withPart_result z k _ taint ?_⟩⟩,
      (memory.trans put.memory).trans sent.memory, ((sent.quiet.outputs.trans put.outputs).trans set.outputs).trans booked.quiet.outputs,
      ((booked.others.trans set.others).trans put.others).trans sent.others⟩
    rw [formVals_length, result]
    exact State.short_of_hasResult missing
  · next unneeded =>
    exact ⟨⟨z, (sent.coll tkt).trans coll, formed, vals, fun needed => absurd needed unneeded⟩, memory.trans sent.memory,
      (sent.quiet.outputs.trans set.outputs).trans booked.quiet.outputs, (booked.others.trans set.others).trans sent.others⟩

end

end Sys2Proof.Machine
end

section
/-! LATE_WINDOW_EXPIRE (spec/09 R227, R229, R230): a window that closes counts the contributions that have not come and names them in the
ledger. -/

namespace Sys2Proof.Machine

/-! ### Entries and the count of late contributions -/

/-- Bookkeeping that keeps every ledger entry, up to its disposition, and counts no late contribution. -/
structure State.lateWork (s t : State) (st : Nat) : Prop extends s.bookWork t st where
  entries : ∀ e ∈ (s.stand st).ledger, ∃ d, { e with disp := d } ∈ (t.stand st).ledger
  count : t.counters.get (kStand st cTrsLate) = s.counters.get (kStand st cTrsLate)

section
variable {s t u : State} {st : Nat}

theorem State.lateWork.refl (s : State) (st : Nat) : s.lateWork s st := ⟨State.bookWork.refl s st, fun e he => ⟨e.disp, he⟩, rfl⟩

theorem State.lateWork.trans (h : s.lateWork t st) (k : t.lateWork u st) : s.lateWork u st := by
  refine ⟨h.tobookWork.trans k.tobookWork, fun e he => ?_, k.count.trans h.count⟩
  obtain ⟨d, hd⟩ := h.entries e he
  obtain ⟨d', hd'⟩ := k.entries _ hd
  exact ⟨d', hd'⟩

theorem State.foldl_lateWork {α : Type} {f : State → α → State} (h : ∀ (u : State) a, u.lateWork (f u a) st) (l : List α) (s : State) :
    s.lateWork (l.foldl f s) st := by
  induction l generalizing s with
  | nil => exact State.lateWork.refl s st
  | cons a l ih => exact (h s a).trans (ih (f s a))

/-- Where each item makes its entry, the ledger holds all of them at the end. -/
theorem State.foldl_enters {α : Type} {f : State → α → State} {g : α → LateEntry} (h : ∀ (u : State) a, u.lateWork (f u a) st)
    (made : ∀ (u : State) a, g a ∈ ((f u a).stand st).ledger) (l : List α) (s : State) :
    ∀ a ∈ l, ∃ d, { g a with disp := d } ∈ ((l.foldl f s).stand st).ledger := by
  induction l generalizing s with
  | nil => simp
  | cons b l ih =>
    intro a ha
    rcases List.mem_cons.mp ha with rfl | later
    · exact (State.foldl_lateWork h l (f s a)).entries _ (made s a)
    · exact ih (f s b) a later

end

section
variable (s : State) (st : Nat)

/-- What records an item of a step touches neither the ledger nor the count of late contributions. -/
theorem State.recordItem_late (step : W64) (n : Nat) (f : StepRec → StepRec) :
    ((s.recordItem st step n f).stand st).ledger = (s.stand st).ledger ∧
      (s.recordItem st step n f).counters.get (kStand st cTrsLate) = s.counters.get (kStand st cTrsLate) := by
  have changed (g : StepRec → StepRec) : ((s.onRec st step g).stand st).ledger = (s.stand st).ledger := by
    rw [State.onRec, s.setStand_stand_same]
  have overflow : kStand st cDckOverflow ≠ kStand st cTrsLate := kStand_ne st (by decide)
  unfold State.recordItem
  split
  · exact ⟨rfl, rfl⟩
  · split_ifs
    · exact ⟨rfl, rfl⟩
    · exact ⟨changed f, rfl⟩
    · unfold State.overflowRec
      split
      · split
        · exact ⟨rfl, rfl⟩
        · exact ⟨changed _, Counters.get_add_ne _ overflow 1⟩
      · exact ⟨rfl, rfl⟩

theorem State.recordEntry_late (step : Option W64) : ((s.recordEntry st step).stand st).ledger = (s.stand st).ledger ∧
    (s.recordEntry st step).counters.get (kStand st cTrsLate) = s.counters.get (kStand st cTrsLate) := by
  cases step with
  | none => exact ⟨rfl, rfl⟩
  | some n => exact s.recordItem_late st n 16 _

theorem State.addEntry_ledger (e : LateEntry) : ((s.addEntry st e).stand st).ledger = (s.stand st).ledger ++ [e] := by
  rw [State.addEntry, (State.recordEntry_late _ st e.step).1, s.setStand_stand_same]

theorem State.addEntry_lateWork (e : LateEntry) : s.lateWork (s.addEntry st e) st := by
  refine ⟨s.addEntry_bookWork st e, fun x hx => ⟨x.disp, ?_⟩, (State.recordEntry_late _ st e.step).2⟩
  rw [s.addEntry_ledger]
  exact List.mem_append_left _ hx

theorem State.settle_lateWork (p : LateEntry → Bool) (d : LateDisp) : s.lateWork (s.settle st p d) st := by
  have other : kStand st (if d = .carried then cTrsCarried else cTrsDropped) ≠ kStand st cTrsLate := by
    split
    · exact kStand_ne st (by decide)
    · exact kStand_ne st (by decide)
  refine ⟨s.settle_bookWork st p d, fun e he => ?_, Counters.get_add_ne _ other _⟩
  rw [State.settle, State.count_stand, s.setStand_stand_same]
  by_cases settled : e.disp = .isOpen ∧ p e
  · exact ⟨d, List.mem_map.mpr ⟨e, he, if_pos settled⟩⟩
  · exact ⟨e.disp, List.mem_map.mpr ⟨e, he, if_neg settled⟩⟩

theorem State.settleLate_lateWork (q : Contrib) (e : LateEntry) : s.lateWork (s.settleLate st q e) st := by
  unfold State.settleLate
  extract_lets x same fits t
  have staged : s.lateWork t st := ⟨State.setStand_bookWork (by rfl), fun e he => ⟨e.disp, by rw [s.setStand_stand_same]; exact he⟩, rfl⟩
  exact staged.trans (t.settle_lateWork st same _)

end

/-! ### The window closes -/

section
variable (s : State) (st : Nat) (c : Cmd) (y : Coll) (k : Nat) (late : List Nat)

/-- The reduction with the window of a segment closed. -/
def State.collClosed : Coll :=
  { y with closed := y.closed ++ [k], lateCount := y.lateCount + late.length, windowUs := (s.windowUs st y.collId).floor.toNat }

/-- The ledger entry of a rank whose contribution is late. -/
def State.lateEntry (r : Nat) : LateEntry :=
  { step := c.step, collId := y.collId, mtab := y.mtab, version := y.version, reason := .late, disp := .isOpen, rank := r, segment := k
    inst := y.inst, carryInst := 0, own := true, mayCarry := decide (y.policy = 1) || decide ((s.late st y.collId).samples < 32) }

/-- The state with the window closed and the late contributions counted. -/
def State.windowClosed : State := (s.setColl st (s.collClosed st y k late)).count (kStand st cTrsLate) late.length

/-- A rank's late contribution that has come since settles its entry. -/
def State.settleCame (y : Coll) (k : Nat) (u : State) (r : Nat) : State :=
  match (u.stand st).contrib y.mtab y.inst k r with
  | some q => (match q.doneAt, (u.stand st).openFor q with
    | some _, some e => u.settleLate st q e
    | _, _ => u)
  | none => u

theorem State.closeWindow_eq : s.closeWindow st c y k late = late.foldl (State.settleCame st y k)
    (late.foldl (fun u r => u.addEntry st (s.lateEntry st c y k r)) (s.windowClosed st y k late)) := by rfl

theorem State.settleCame_lateWork (u : State) (r : Nat) : u.lateWork (State.settleCame st y k u r) st := by
  unfold State.settleCame
  split
  · split
    · exact u.settleLate_lateWork st _ _
    · exact State.lateWork.refl u st
  · exact State.lateWork.refl u st

variable {s st c y k late}

/-- The late contributions are counted and named in the ledger. -/
theorem State.closeWindow_works {tkt : Nat} (hy : (s.stand st).coll tkt = some y) {t : State} (ht : t = s.closeWindow st c y k late) :
    (t.stand st).coll tkt = some (s.collClosed st y k late) ∧
      (∀ r ∈ late, ∃ d, { s.lateEntry st c y k r with disp := d } ∈ (t.stand st).ledger) ∧
      t.counters.get (kStand st cTrsLate) = s.counters.get (kStand st cTrsLate) + BitVec.ofNat 48 late.length ∧
      s.memoryKept t ∧ (t.stand st).outputs = (s.stand st).outputs ∧ s.standOnly t st := by
  have set := s.setColl_quiet st (s.collClosed st y k late)
  have coll : ((s.windowClosed st y k late).stand st).coll tkt = some (s.collClosed st y k late) :=
    State.setColl_coll hy (StandSt.coll_ticket hy :)
  have enters (u : State) (r : Nat) := u.addEntry_lateWork st (s.lateEntry st c y k r)
  have entered := State.foldl_lateWork enters late (s.windowClosed st y k late)
  have settled := State.foldl_lateWork (State.settleCame_lateWork st y k) late
    (late.foldl (fun u r => u.addEntry st (s.lateEntry st c y k r)) (s.windowClosed st y k late))
  have work := entered.trans settled
  rw [← s.closeWindow_eq, ← ht] at settled work
  refine ⟨(work.coll tkt).trans coll, fun r hr => ?_, work.count.trans (Counters.get_add_same _ _ _),
    (s.setColl_memoryKept st (s.collClosed st y k late)).trans work.memory, work.quiet.outputs.trans set.outputs, set.others.trans work.others⟩
  obtain ⟨d, hd⟩ := State.foldl_enters (g := s.lateEntry st c y k) enters
    (fun u r => by rw [u.addEntry_ledger]; simp) late (s.windowClosed st y k late) r hr
  obtain ⟨d', hd'⟩ := settled.entries _ hd
  exact ⟨d', hd'⟩

end

section
variable {s : State} {st tkt k my e : Nat} {c : Cmd} {y : Coll} (alive : s.alive = true) (hc : (s.stand st).cmd tkt = some c)
  (hy : (s.stand st).coll tkt = some y) (rank : s.rankIn st y.mtab = some my) (ends : s.windowEnd st y k = some e)
include alive hc hy rank ends

/-- A window that is due closes, unless none is late or the ledger has no room. -/
theorem exec_lateWindowExpire : exec (.lateWindowExpire st tkt k) s = .next (
    if s.windowDue st c y k = false then s
    else if s.lateRanks st y my k e = [] ∨ 4096 < (s.stand st).openOwn.length + (s.lateRanks st y my k e).length then s
    else s.closeWindow st c y k (s.lateRanks st y my k e)) := by
  change execLateWindowExpire st tkt k s = _
  rw [execLateWindowExpire, hc, hy, alive]
  simp only [rank, ends, Bool.not_eq_true', List.isEmpty_iff]

end

/-- Settles O36: forming a segment and closing a window, each clause by the lemma about that branch of its row. -/
theorem segmentsAndLateness : Obligations.SegmentsAndLateness := by
  unfold Obligations.SegmentsAndLateness
  refine ⟨fun s st tkt k my c y ls alive hc hy rank op own fresh some_ owner unformed hls => ?forms,
    fun s st tkt k my e c y late alive hc hy rank ends hlate => ?closes⟩
  case forms =>
    have runs := exec_segmentForm alive hc hy rank op own fresh some_ owner unformed
    rw [State.leaves, ← hls] at runs
    refine ⟨fun has => ?_, fun missing waits => ?_, fun missing early came => ?_⟩
    · rw [if_pos has] at runs
      obtain ⟨coll, memory, outputs, others⟩ := State.passOn_works (my := my) (k := k) hy
      exact ⟨_, _, runs, coll, rfl, memory, outputs, others, exec_frame _ rfl runs⟩
    · rw [runs, if_neg (by simp [missing]), if_pos (waits.imp_right fun h => by simpa using h)]
    · have ready : ¬(s.windowFirst st c y my k = true ∨ ls.any (fun l => decide (l = .awaited)) = true) := by
        rintro (h | h)
        · simp [early] at h
        · obtain ⟨l, hl, awaited⟩ := List.any_eq_true.mp h
          exact came l hl (of_decide_eq_true awaited)
      rw [if_neg (by simp [missing]), if_neg ready] at runs
      obtain ⟨⟨z, hz, formed, vals, result⟩, memory, outputs, others⟩ := State.formSegment_works hy missing ls rfl
      refine ⟨_, z, runs, hz, formed, vals, fun needed => ?_, exec_segmentForm_formed hz (by simp [formed]), memory, outputs, others,
        exec_frame _ rfl runs⟩
      obtain ⟨b, whole⟩ := result needed
      exact ⟨_, b, whole, formVals_length .., fun j hj => formVals_getD _ _ hj⟩
  case closes =>
    have runs := exec_lateWindowExpire alive hc hy rank ends
    rw [← hlate] at runs
    refine ⟨fun due some_ room => ?_, fun waits => ?_⟩
    · rw [if_neg (by simp [due]), if_neg (by rintro (h | h) <;> [exact some_ h; omega])] at runs
      obtain ⟨coll, named, counted, memory, outputs, others⟩ := State.closeWindow_works (c := c) (late := late) (k := k) hy rfl
      refine ⟨_, _, runs, coll, rfl, rfl, fun r hr => ?_, counted, memory, outputs, others, exec_frame _ rfl runs⟩
      obtain ⟨d, entry⟩ := named r hr
      exact ⟨_, entry, rfl, rfl, rfl, rfl, rfl, rfl⟩
    · rw [runs]
      by_cases due : s.windowDue st c y k = false
      · rw [if_pos due]
      · rw [if_neg due, if_pos (waits.resolve_left due)]

end Sys2Proof.Machine
end

section
/-! DELIVERY_INTO_G (spec/09 R221): the received elements written into the group's gradient, or added to it. -/

namespace Sys2Proof.Machine

section
variable (s : State) (st : Nat) (c : Cmd) (a : RedArgs) (y : Coll)

/-- The gradient's first element of the group. -/
def State.gFirst (k : Nat) : Nat := 4096 * (s.udef k).first4k

/-- What a delivered element leaves in the gradient: its value, added in binary32 to the gradient's own unless FIRST is set. -/
def State.deliverVal (j : Nat) (w : W32) : Val :=
  if a.first then val32 w else add32 (s.roleVal (s.gRd a.ugrp) (s.gFirst a.ugrp + j)).1 (val32 w)

/-- The bytes delivered, by their offset in the gradient's region. -/
def State.deliverBytes : List (Nat × Byte) :=
  (s.delivered st c a y).flatMap fun p => putCode (4 * (s.gFirst a.ugrp + p.1)) 4 (fFP32.encode (s.deliverVal a p.1 p.2))

/-- The same by the places that they reach. -/
def State.deliverPuts : List (Nat × Byte) :=
  (s.deliverBytes st c a y).map fun p => (s.regionKey (s.gRd a.ugrp).data p.1, p.2)

/-- The words of the gradient that a delivery adds to. -/
def State.deliverRead : List Nat :=
  if a.first then [] else ((s.delivered st c a y).flatMap fun p => s.roleWords (s.gRd a.ugrp) (s.gFirst a.ugrp + p.1)).dedup

/-- Those of them that fail correction. -/
def State.deliverBad : List Nat := if s.hbm.diff = [] then [] else (s.deliverRead st c a y).filter s.hbm.bad

/-- The words read or merged with noted. -/
def State.deliverNoted : State :=
  if a.first then s.noteMerge ((s.deliverPuts st c a y).map Prod.fst) else s.noteWords (s.deliverRead st c a y)

/-- The gradient written, its poisoned words counted. -/
def State.deliverStored : State :=
  (((s.deliverNoted st c a y).setHbm ((s.deliverNoted st c a y).hbm.put (s.deliverPuts st c a y))).poisonWords
    (s.deliverBad st c a y)).count (kStand st cLndPoisonRead) (s.deliverBad st c a y).length

/-- The state before the command ends: a step whose delivery read a failing word is marked. -/
def State.deliverMarked : State :=
  if (s.deliverBad st c a y).isEmpty then s.deliverStored st c a y else (s.deliverStored st c a y).markCmd st c 6

theorem State.deliver_eq : s.deliver st c a y = (s.deliverMarked st c a y).redDone st c a y := by rfl

theorem State.noteMerge_landWork (ks : List Nat) : s.landWork (s.noteMerge ks) st := by
  unfold State.noteMerge
  split
  · exact State.landWork.refl s st
  · exact s.noteWords_landWork st _

theorem State.deliverMarked_landWork : s.landWork (s.deliverMarked st c a y) st := by
  have noted : s.landWork (s.deliverNoted st c a y) st := by
    unfold State.deliverNoted
    split
    · exact s.noteMerge_landWork st _
    · exact s.noteWords_landWork st _
  have stored : s.landWork (s.deliverStored st c a y) st :=
    ((noted.trans (State.setHbm_landWork _ st _)).trans (State.poisonWords_landWork _ st _)).trans (State.count_landWork _ st _ _)
  unfold State.deliverMarked
  split
  · exact stored
  · exact stored.trans (State.markCmd_landWork _ st c 6)

/-- Bytes put where every word checks. -/
theorem Mem.put_clean {m : Mem} (clean : m.diff = []) (bs : List (Nat × Byte)) : m.put bs = m.writePlaces (fun k => k) bs := by
  have raw (ps : List (Nat × Byte)) (n : Mem) (h : n.diff = []) :
      ps.foldl (fun m p => m.writeByte p.1 p.2) n = n.writePlaces (fun k => k) ps := by
    induction ps generalizing n with
    | nil => rfl
    | cons p ps ih =>
      rw [List.foldl_cons, Mem.writeByte_of_clean (Mem.check_of_diff_nil h _)]
      exact ih (n.writeRaw p.1 p.2) h
  rw [Mem.put, Mem.foldl_setDiff_zero clean fun w => w]
  exact raw bs m clean

theorem State.poisonWords_mem (ws : List Nat) : (s.poisonWords ws).mem = s.mem := rfl

/-- Where every word checks, the gradient's bytes are written and no more. -/
theorem State.deliverMarked_clean (clean : s.hbm.diff = []) : (s.deliverMarked st c a y).mem = s.mem ∧
    (s.deliverMarked st c a y).hbm = s.hbm.writePlaces (s.regionKey (s.gRd a.ugrp).data) (s.deliverBytes st c a y) := by
  have noted : s.deliverNoted st c a y = s := by
    unfold State.deliverNoted
    split
    · exact s.noteMerge_clean _ clean
    · exact State.noteWords_clean clean _
  have sound : s.deliverBad st c a y = [] := if_pos clean
  have put : s.hbm.put (s.deliverPuts st c a y) = s.hbm.writePlaces (s.regionKey (s.gRd a.ugrp).data) (s.deliverBytes st c a y) :=
    (Mem.put_clean clean _).trans (Mem.writePlaces_map _ _ _ _)
  rw [State.deliverMarked, State.deliverStored, sound, noted, put]
  simp only [List.isEmpty_nil, if_true, State.count_mem, State.count_hbm, State.poisonWords_nil, State.poisonWords_mem, State.setHbm_mem]
  exact ⟨trivial, rfl⟩

/-! ### The gradient read back -/

/-- An element is delivered once, and lies within the count received. -/
theorem State.mem_delivered {j : Nat} {w : W32} : (j, w) ∈ s.delivered st c a y ↔
    j < a.received (decide (c.opcode = 0x31)) (if c.opcode = 0x31 then (s.mtab st y.mtab).members.length else 1)
        ((s.rankIn st y.mtab).getD 0) ∧ s.resultAt st c a y j = some w := by
  simp only [State.delivered, List.mem_filterMap, List.mem_range, Option.map_eq_some_iff, Prod.mk.injEq]
  constructor
  · rintro ⟨i, hi, v, hv, rfl, rfl⟩
    exact ⟨hi, hv⟩
  · rintro ⟨hj, hw⟩
    exact ⟨j, hj, w, hw, rfl, rfl⟩

theorem State.mem_deliverBytes {p : Nat × Byte} : p ∈ s.deliverBytes st c a y ↔ ∃ j w b, (j, w) ∈ s.delivered st c a y ∧ b < 4 ∧
    p = (4 * (s.gFirst a.ugrp + j) + b, BitVec.ofNat 8 (fFP32.encode (s.deliverVal a j w) / 256 ^ b)) := by
  simp only [State.deliverBytes, List.mem_flatMap, mem_putCode, Prod.exists]
  exact ⟨fun ⟨j, w, h, b, r⟩ => ⟨j, w, b, h, r⟩, fun ⟨j, w, b, h, r⟩ => ⟨j, w, h, b, r⟩⟩

/-- Each offset takes one byte. -/
theorem State.deliverBytes_one {o : Nat} {v v' : Byte} (h : (o, v) ∈ s.deliverBytes st c a y) (h' : (o, v') ∈ s.deliverBytes st c a y) :
    v = v' := by
  obtain ⟨j, w, b, hw, hb, e⟩ := (s.mem_deliverBytes st c a y).mp h
  obtain ⟨j', w', b', hw', hb', e'⟩ := (s.mem_deliverBytes st c a y).mp h'
  obtain ⟨ho, rfl⟩ := Prod.mk.inj e
  obtain ⟨ho', rfl⟩ := Prod.mk.inj e'
  obtain ⟨rfl, rfl⟩ : j = j' ∧ b = b' := by omega
  obtain ⟨-, result⟩ := (s.mem_delivered st c a y).mp hw
  obtain ⟨-, result'⟩ := (s.mem_delivered st c a y).mp hw'
  obtain rfl := Option.some.inj (result.symm.trans result')
  rfl

variable {s st c a y}

/-- Where the gradient's bytes lie apart, each is read as it was delivered. -/
theorem State.deliverBytes_read {n j b : Nat} {w : W32}
    (hn : n = a.received (decide (c.opcode = 0x31)) (if c.opcode = 0x31 then (s.mtab st y.mtab).members.length else 1)
      ((s.rankIn st y.mtab).getD 0)) (clean : s.hbm.diff = []) (form : s.hbm.wf = true)
    (apart : s.apart (s.gRd a.ugrp).data (16384 * (s.udef a.ugrp).first4k) (16384 * (s.udef a.ugrp).first4k + 4 * n))
    (hw : (j, w) ∈ s.delivered st c a y) (hb : b < 4) :
    (s.hbm.writePlaces (s.regionKey (s.gRd a.ugrp).data) (s.deliverBytes st c a y)).read
      (s.regionKey (s.gRd a.ugrp).data (4 * (s.gFirst a.ugrp + j) + b)) =
      BitVec.ofNat 8 (fFP32.encode (s.deliverVal a j w) / 256 ^ b) := by
  have within {p : Nat × Byte} (hp : p ∈ s.deliverBytes st c a y) :
      16384 * (s.udef a.ugrp).first4k ≤ p.1 ∧ p.1 < 16384 * (s.udef a.ugrp).first4k + 4 * n := by
    obtain ⟨i, v, d, hv, hd, rfl⟩ := (s.mem_deliverBytes st c a y).mp hp
    obtain ⟨hi, -⟩ := (s.mem_delivered st c a y).mp hv
    rw [← hn] at hi
    simp only [State.gFirst]
    omega
  have byte := (s.mem_deliverBytes st c a y).mpr ⟨j, w, b, hw, hb, rfl⟩
  obtain ⟨low, high⟩ := within byte
  generalize 4 * (s.gFirst a.ugrp + j) + b = o at byte low high ⊢
  refine Mem.writePlaces_read _ clean form byte fun p hp same => ?_
  obtain ⟨plow, phigh⟩ := within hp
  obtain ⟨q, v⟩ := p
  obtain rfl : q = o := apart q o plow phigh low high same
  rw [s.deliverBytes_one st c a y hp byte]

/-- No other byte of memory changes. -/
theorem State.deliverBytes_read_ne {key : Nat} (h : ∀ j w b, (j, w) ∈ s.delivered st c a y → b < 4 →
      s.regionKey (s.gRd a.ugrp).data (4 * (s.gFirst a.ugrp + j) + b) ≠ key) :
    (s.hbm.writePlaces (s.regionKey (s.gRd a.ugrp).data) (s.deliverBytes st c a y)).read key = s.hbm.read key := by
  refine Mem.writePlaces_read_ne _ _ fun p hp => ?_
  obtain ⟨j, w, b, hw, hb, rfl⟩ := (s.mem_deliverBytes st c a y).mp hp
  exact h j w b hw hb

/-- A delivery: the command ends, and where every word checks memory takes the gradient. -/
theorem State.deliver_works {tkt : Nat} (hc : (s.stand st).cmd tkt = some c) (hy : (s.stand st).coll tkt = some y) :
    (s.deliver st c a y).stageOf st tkt = some .done ∧ (s.deliver st c a y).comp = s.comp ∧
      ((s.deliver st c a y).stand st).outputs = (s.stand st).outputs ∧ s.standOnly (s.deliver st c a y) st ∧
      (s.hbm.diff = [] → (s.deliver st c a y).mem = s.mem ∧
        (s.deliver st c a y).hbm = s.hbm.writePlaces (s.regionKey (s.gRd a.ugrp).data) (s.deliverBytes st c a y)) := by
  have landed := s.deliverMarked_landWork st c a y
  have work := landed.tolandAside.quiet
  obtain ⟨stage, -, ⟨hbm, comp, mem⟩, outputs, others⟩ :=
    State.redDone_ends a ((work.cmd tkt).trans hc) (StandSt.cmd_ticket hc) (StandSt.coll_ticket hy)
  rw [s.deliver_eq]
  refine ⟨stage, comp.trans work.comp, outputs.trans work.outputs, work.others.trans others, fun clean => ?_⟩
  obtain ⟨mem', hbm'⟩ := s.deliverMarked_clean st c a y clean
  exact ⟨mem.trans mem', hbm.trans hbm'⟩

end

section
variable {s : State} {st tkt n : Nat} {c : Cmd} {y : Coll} (hc : (s.stand st).cmd tkt = some c) (hy : (s.stand st).coll tkt = some y)
  (hn : n = (redArgs c.bytes).received (decide (c.opcode = 0x31)) (if c.opcode = 0x31 then (s.mtab st y.mtab).members.length else 1)
    ((s.rankIn st y.mtab).getD 0))
include hc hy hn

theorem exec_deliveryIntoG_waits (h : s.redReady st c (redArgs c.bytes) y = false ∨
      s.landingAhead st c (redArgs c.bytes).ugrp (s.deliverySpan (redArgs c.bytes).ugrp n) = true ∨
      s.memHeld st c.ticket (s.deliverySpan (redArgs c.bytes).ugrp n) = true) :
    exec (.deliveryIntoG st tkt) s = .next s := by
  subst hn
  change execDeliveryIntoG st tkt s = _
  rw [execDeliveryIntoG, hc, hy]
  refine congrArg Host.Outcome.next (if_neg ?_)
  rintro ⟨-, -, -, ready, free, unheld⟩
  rcases h with h | h | h
  · simp [h] at ready
  · simp [h] at free
  · simp [h] at unheld

theorem exec_deliveryIntoG (alive : s.alive = true) (phase : c.stage = .phase 2) (dgrp : (redArgs c.bytes).dgrp = true)
    (ready : s.redReady st c (redArgs c.bytes) y = true)
    (free : s.landingAhead st c (redArgs c.bytes).ugrp (s.deliverySpan (redArgs c.bytes).ugrp n) = false)
    (unheld : s.memHeld st c.ticket (s.deliverySpan (redArgs c.bytes).ugrp n) = false) :
    exec (.deliveryIntoG st tkt) s = .next (s.deliver st c (redArgs c.bytes) y) := by
  subst hn
  change execDeliveryIntoG st tkt s = _
  rw [execDeliveryIntoG, hc, hy]
  exact congrArg Host.Outcome.next (if_pos ⟨alive, phase, dgrp, ready, by simpa using free, by simpa using unheld⟩)

end

/-- Settles O37: what a delivery waits for, and the gradient read back byte by byte. -/
theorem deliveryIntoG : Obligations.DeliveryIntoG := by
  unfold Obligations.DeliveryIntoG
  intro s st tkt n c y a alive hc hy phase ha dgrp hn
  subst ha
  refine ⟨exec_deliveryIntoG_waits hc hy hn, fun ready free unheld => ?_⟩
  have runs := exec_deliveryIntoG hc hy hn alive phase dgrp ready free unheld
  obtain ⟨stage, comp, outputs, others, memory⟩ := State.deliver_works (a := redArgs c.bytes) hc hy
  refine ⟨_, runs, stage, fun clean form => ?_, comp, outputs, others, exec_frame _ rfl runs⟩
  obtain ⟨mem, hbm⟩ := memory clean
  rw [hbm]
  exact ⟨fun apart j w b hw hb => State.deliverBytes_read hn clean form apart hw hb, fun key other => State.deliverBytes_read_ne other, mem⟩

end Sys2Proof.Machine
end

section
/-! What a port has received (spec/10 R258, R263): a unit that takes it changes the fabric alone, and who may access
memory does not depend on it. -/

namespace Sys2Proof.Machine

section
variable {s t : State} {p : Nat} {x : Txn}

theorem State.freeFlits_fabric (vc : Nat) (rs : List (Nat × Nat)) : ∃ f, s.freeFlits vc rs = s.setFabric f := by
  induction rs generalizing s with
  | nil => exact ⟨s.fabric, rfl⟩
  | cons r rs ih =>
    obtain ⟨f, hf⟩ : ∃ f, (if s.flitHeld r then s else s.oweCredit r.1 vc) = s.setFabric f := by
      split
      · exact ⟨s.fabric, rfl⟩
      · exact ⟨_, rfl⟩
    obtain ⟨g, hg⟩ := ih (s := s.setFabric f)
    refine ⟨g, ?_⟩
    rw [State.freeFlits, List.foldl_cons, hf]
    exact hg

theorem State.takeRx_fabric (h : s.takeRx p x = some t) : ∃ f, t = s.setFabric f := by
  obtain ⟨y, -, rfl⟩ := Option.map_eq_some_iff.mp h
  exact State.freeFlits_fabric (s := s.setPort p _) _ _

theorem State.takeRequest_fabric {ttype : Nat} (h : s.takeRequest p x ttype = some t) : ∃ f, t = s.setFabric f := by
  unfold State.takeRequest at h
  split at h
  · exact State.takeRx_fabric h
  · cases h

theorem State.takeLink_fabric {ttype : Nat} {rsp : Bool} (h : s.takeLink p x ttype rsp = some t) : ∃ f, t = s.setFabric f := by
  unfold State.takeLink at h
  split at h
  · exact State.takeRx_fabric h
  · cases h

end

/-! ### What does not read the fabric -/

section
variable (s : State) (f : Fabric)

theorem State.setFabric_rangeIn (q : Nat → Bool) (n a k : Nat) : (s.setFabric f).rangeIn q n a k = s.rangeIn q n a k := by
  induction n generalizing a k with
  | zero => cases k <;> rfl
  | succ n ih =>
    cases k with
    | zero => rfl
    | succ k =>
      have region : (s.setFabric f).regionAt a = s.regionAt a := rfl
      simp only [State.rangeIn, region, ih]

@[simp] theorem State.setFabric_mayRemote (st a n : Nat) (write : Bool) :
    (s.setFabric f).mayRemote st a n write = s.mayRemote st a n write := s.setFabric_rangeIn f _ _ _ _

end

end Sys2Proof.Machine
end

section
/-! Bytes written at consecutive places of a memory whose words all check (spec/07 R166, R168). -/

namespace Sys2Proof.Machine

section
variable {m : Mem} (clean : m.diff = [])
include clean

theorem Mem.freshWords_clean (w n : Nat) : m.freshWords w n = m := by
  induction n generalizing w with
  | zero => rfl
  | succ n ih => rw [Mem.freshWords, Mem.setDiff_zero clean, ih]

theorem Mem.writeBytes_clean (a : Nat) (bs : List Byte) : m.writeBytes a bs = m.writeRawN a bs := by
  induction bs generalizing m a with
  | nil => rfl
  | cons b bs ih =>
    rw [Mem.writeBytes, Mem.writeByte_of_clean (Mem.check_of_diff_nil clean _)]
    exact ih (m := m.writeRaw a b) clean (a + 1)

theorem Mem.writeRange_clean (a : Nat) (bs : List Byte) : m.writeRange a bs = m.writeRawN a bs := by
  rw [Mem.writeRange, Mem.freshWords_clean clean, Mem.writeBytes_clean clean]

theorem Mem.writeRawN_read {a i : Nat} {b : Byte} {bs : List Byte} (form : m.wf = true) (h : bs[i]? = some b) :
    (m.writeRawN a bs).read (a + i) = b := by
  induction bs generalizing m a i with
  | nil => cases h
  | cons c bs ih =>
    cases i with
    | zero =>
      obtain rfl : c = b := by simpa using h
      have later : ((m.writeRaw a c).writeRawN (a + 1) bs).read a = (m.writeRaw a c).read a := Mem.writeRawN_read_ne (by omega)
      exact later.trans (Mem.read_writeRaw_same (Mem.check_of_diff_nil clean _) form c)
    | succ i =>
      have next : (m.writeRaw a c).wf = true := Mem.writeRaw_wf form a c
      rw [show a + (i + 1) = a + 1 + i by omega]
      exact ih (m := m.writeRaw a c) clean next (by simpa using h)

end

theorem Mem.writeRawN_append (m : Mem) (a : Nat) (bs cs : List Byte) :
    m.writeRawN a (bs ++ cs) = (m.writeRawN a bs).writeRawN (a + bs.length) cs := by
  induction bs generalizing m a with
  | nil => rfl
  | cons b bs ih =>
    rw [List.length_cons, show a + (bs.length + 1) = a + 1 + bs.length by omega]
    exact ih (m.writeRaw a b) (a + 1)

/-! ### Software-visible addresses whose keys follow one another -/

section
variable {s : State}

theorem State.writeKey_clean (clean : s.hbm.diff = []) (k : Nat) (bs : List Byte) :
    s.writeKey k bs = s.setHbm (s.hbm.writeRawN k bs) := by
  simp only [State.writeKey, State.noteMerge_clean _ _ clean, Mem.writeRange_clean clean]

/-- The pieces of a write join: each ends at a 64-byte boundary, so that `f` of them are enough. -/
theorem State.writeSoftN_clean {f a k : Nat} {bs : List Byte} (clean : s.hbm.diff = []) (enough : 0 < bs.length → a % 64 + bs.length ≤ 64 * f)
    (keys : ∀ i, i < bs.length → s.visKey (a + i) = some (k + i)) : s.writeSoftN f a bs = s.setHbm (s.hbm.writeRawN k bs) := by
  induction f generalizing s a k bs with
  | zero =>
    obtain rfl : bs = [] := List.length_eq_zero_iff.mp (by omega)
    rfl
  | succ f ih =>
    cases hbs : bs with
    | nil => rfl
    | cons b cs =>
      rw [← hbs]
      have first : s.visKey a = some k := keys 0 (by simp [hbs])
      obtain ⟨n, hn⟩ : ∃ n, n = min bs.length (64 - a % 64) := ⟨_, rfl⟩
      have piece : s.writeSoftN (f + 1) a bs = (s.writeKey k (bs.take n)).writeSoftN f (a + n) (bs.drop n) := by
        simp only [State.writeSoftN, hbs, first, hn]
      have taken : (bs.take n).length = n := by rw [List.length_take, hn]; omega
      have pos : 0 < bs.length := by simp [hbs]
      have bound := enough pos
      rw [piece, State.writeKey_clean clean, ih (k := k + n)]
      · conv_rhs => rw [← List.take_append_drop n bs, Mem.writeRawN_append, taken]
        rfl
      · exact (Mem.writeRawN_diff _ _).trans clean
      · rw [List.length_drop]
        omega
      · intro i hi
        rw [List.length_drop] at hi
        rw [Nat.add_assoc, Nat.add_assoc]
        exact keys (n + i) (by omega)

theorem State.writeSoft_clean {a k : Nat} {bs : List Byte} (clean : s.hbm.diff = [])
    (keys : ∀ i, i < bs.length → s.visKey (a + i) = some (k + i)) : s.writeSoft a bs = s.setHbm (s.hbm.writeRawN k bs) :=
  State.writeSoftN_clean clean (fun _ => by omega) keys

end

end Sys2Proof.Machine
end

section
/-! Requests at a stand (spec/10 R263, R266, spec/07 R173, spec/09 R225, R235, R236): what each access comes to, and its answer. -/

namespace Sys2Proof.Machine

theorem State.setHbm_respond (s : State) (m : Mem) (q : Txn) (status : Nat) (payload : List Byte) :
    (s.setHbm m).respond q status payload = (s.respond q status payload).setHbm m := by
  have route : (s.setHbm m).routeTo q.src = s.routeTo q.src := rfl
  simp only [State.respond, State.respondWith, route]
  cases s.routeTo q.src with
  | none => rfl
  | some e =>
    simp only [State.emit]
    split <;> rfl

/-! ### PUT -/

section
variable {s : State} {st : Nat} {x : Txn}

theorem State.takePut_refused (barred : s.mayRemote st x.addr x.payload.length true = false) :
    s.takePut st x = some (s.countStand st cMemRemoteRefused, 1) := by
  simp [State.takePut, barred]

variable (allowed : s.mayRemote st x.addr x.payload.length true = true)
include allowed

theorem State.takePut_waits (h : s.memHeld st (s.stand st).nextTicket (x.addr, x.addr + x.payload.length) = true ∨
    s.sweepBefore st x.addr x.payload.length = true) : s.takePut st x = none := by
  simp [State.takePut, allowed, h]

theorem State.takePut_stores {k : Nat} (unheld : s.memHeld st (s.stand st).nextTicket (x.addr, x.addr + x.payload.length) = false)
    (swept : s.sweepBefore st x.addr x.payload.length = false) (room : ∀ d b, s.wantStage d b = []) (clean : s.hbm.diff = [])
    (keys : ∀ i, i < x.payload.length → s.visKey (x.addr + i) = some (k + i)) :
    s.takePut st x = some (s.setHbm (s.hbm.writeRawN k x.payload), 0) := by
  simp [State.takePut, allowed, unheld, swept, State.stageFor_of_unwanted room, State.writeSoft_clean clean keys]

end

section
variable {s t : State} {p : Nat} {x : Txn} (took : s.takeRequest p x 1 = some t)
include took

theorem exec_put_unused (off : (s.cfg x.dstand).enabled = false) :
    exec (.put p x) s = .next ((t.countStand x.dstand cMemRemoteRefused).respond x 1 []) := by
  change execPut p x s = _
  simp [execPut, took, off]

variable (on : (s.cfg x.dstand).enabled = true) (memory : x.addr < resultBase)
include on memory

theorem exec_put_answers {u : State} {status : Nat} (h : t.takePut x.dstand x = some (u, status)) :
    exec (.put p x) s = .next (u.respond x status []) := by
  change execPut p x s = _
  simp [execPut, took, on, Nat.not_le.mpr memory, h]

theorem exec_put_waits (h : t.takePut x.dstand x = none) : exec (.put p x) s = .next s := by
  change execPut p x s = _
  simp [execPut, took, on, Nat.not_le.mpr memory, h]

end

/-! ### GET -/

section
variable {s : State} {st n : Nat} {x : Txn} (hn : n = fld x.payload 0 4)
include hn

theorem State.serveGet_malformed (h : x.len ≠ 1 ∨ 4096 < x.addr % 4096 + n) : s.serveGet st x = (s, ⟨4, [], []⟩) := by
  subst hn
  simp only [State.serveGet]
  rw [if_pos h]

variable (word : x.len = 1) (page : x.addr % 4096 + n ≤ 4096)
include word page

theorem State.serveGet_refused (barred : s.mayRemote st x.addr n false = false) :
    s.serveGet st x = (s.countStand st cMemRemoteRefused, ⟨1, [], []⟩) := by
  subst hn
  simp [State.serveGet, word, Nat.not_lt.mpr page, barred]

variable (allowed : s.mayRemote st x.addr n false = true)
include allowed

theorem State.serveGet_unserved (perm : bit (fld x.payload 4 1) 0 = true)
    (behind : (s.stand st).steps.serves (bit (fld x.payload 4 1) 1) (BitVec.ofNat 32 (fld x.payload 8 4)) = false) :
    s.serveGet st x = (s, ⟨1, [], []⟩) := by
  subst hn
  simp [State.serveGet, word, Nat.not_lt.mpr page, allowed, perm, behind]

theorem State.serveGet_delivers (plain : bit (fld x.payload 4 1) 0 = false) (clean : s.hbm.diff = [])
    (keys : ∀ i, i < n → (s.visKey (x.addr + i)).isSome = true) : s.serveGet st x = (s, ⟨0, s.readSoft x.addr n, []⟩) := by
  have data : ((List.range n).filterMap fun i => s.visKey (x.addr + i)).map s.hbm.read = s.readSoft x.addr n := by
    rw [State.readSoft, List.map_filterMap, ← List.filterMap_eq_map]
    refine List.filterMap_congr fun i hi => ?_
    obtain ⟨k, hk⟩ := Option.isSome_iff_exists.mp (keys i (List.mem_range.mp hi))
    simp [State.readByte, hk]
  subst hn
  simp [State.serveGet, word, Nat.not_lt.mpr page, allowed, plain, State.noteWords_clean clean, Mem.bad_of_diff_nil clean, data]

end

section
variable {s t : State} {p n : Nat} {x : Txn} (took : s.takeRequest p x 2 = some t)
include took

theorem exec_get_unused (off : (s.cfg x.dstand).enabled = false) :
    exec (.get p x) s = .next ((t.countStand x.dstand cMemRemoteRefused).respond x 1 []) := by
  change execGet p x s = _
  simp [execGet, took, off]

variable (on : (s.cfg x.dstand).enabled = true) (hn : n = fld x.payload 0 4)
include on hn

theorem exec_get_waits (ahead : t.sweepBefore x.dstand x.addr n = true) : exec (.get p x) s = .next s := by
  subst hn
  change execGet p x s = _
  simp [execGet, took, on, ahead]

theorem exec_get_answers {u : State} {status : Nat} {data : List Byte} (swept : t.sweepBefore x.dstand x.addr n = false)
    (h : t.serveGet x.dstand x = (u, ⟨status, data, []⟩)) : exec (.get p x) s = .next (u.respond x status data) := by
  subst hn
  change execGet p x s = _
  simp [execGet, took, on, swept, h, State.respond]

end

/-! ### REDUCE_PUT -/

/-- A contribution that came whole, in staging. -/
def Meta.staged (m : Meta) (k : Nat) (vs : List W32) (doneAt : Option W64) : Contrib :=
  ⟨m.mtab, m.inst, m.version, m.op, m.collId, m.count, m.rank, k, m.taint, vs, doneAt⟩

section
variable {s : State} {st k d : Nat} {m : Meta} {vs : List W32} (new : (s.stand st).contrib m.mtab m.inst k m.rank = none)
  (settled : (s.stand st).openOwn = [])
include new settled

/-- The first part of a contribution, with no late entry open: it joins those in staging. -/
theorem State.stageContrib_first (hd : d = (s.mtab st m.mtab).members.length) :
    s.stageContrib st m k 0 vs = s.setStand st { s.stand st with
      contribs := (s.stand st).contribs ++
        [m.staged k vs (if segLen m.count d k ≤ vs.length ∨ m.op = 5 then some s.clock.now else none)] } := by
  subst hd
  have absent : ∀ c ∈ (s.stand st).contribs, c ≠ m.staged k [] none := by
    rintro c hc rfl
    exact absurd (List.find?_eq_none.mp new _ hc) (by simp [Meta.staged])
  have kept : ((s.stand st).contribs.filter fun c => decide (c ≠ m.staged k [] none)) = (s.stand st).contribs :=
    List.filter_eq_self.mpr fun c hc => decide_eq_true (absent c hc)
  have none_open : ∀ (t : State) (c : Contrib), (t.stand st).ledger = (s.stand st).ledger → (t.stand st).openFor c = none := by
    intro t c h
    have own : (t.stand st).openOwn = [] := by rw [StandSt.openOwn, h]; exact settled
    rw [StandSt.openFor, own, List.find?_nil]
  simp only [State.stageContrib, new, Option.getD_none]
  split
  · next h => rw [none_open _ _ (by simp)] at h; cases h
  · change s.setStand st { s.stand st with
      contribs := ((s.stand st).contribs.filter fun c => decide (c ≠ m.staged k [] none)) ++ [_] } = _
    rw [kept]
    simp [placeAt, Meta.staged]

end

section
variable {s : State} {st : Nat} {x : Txn} {m : Meta} (hm : m = metaOf x.meta_)
include hm

theorem State.takeContrib_unloaded (h : s.rankIn st m.mtab = none) : s.takeContrib st x = none := by
  subst hm
  simp [State.takeContrib, h]

variable {my k d : Nat} {vs : List W32} (rank : s.rankIn st m.mtab = some my) (hd : d = (s.mtab st m.mtab).members.length)
  (hk : k = (if m.op = 5 then my else (my + d - bits (leNat (x.meta_.take 16)) 127 121 % d) % d)) (first : x.addr = 0)
  (hvs : vs = (codesOf x.payload).take (segLen m.count d k))
  (early : ∀ y ∈ (s.stand st).colls, ¬ (y.mtab = m.mtab ∧ y.inst = m.inst))
  (open_ : s.instPast st m.mtab m.inst = false)
include rank hd hk first hvs early open_

/-- A contribution to an instance that this device has not begun is staged where there is room. -/
theorem State.takeContrib_early : s.takeContrib st x =
    if (s.cfg st).reduceStageMib * 2 ^ 20 < (s.stand st).staged + 4 * vs.length then none else some (s.stageContrib st m k 0 vs) := by
  subst hm hd
  have none_of : ∀ c : Contrib, c.mtab = (metaOf x.meta_).mtab → c.inst = (metaOf x.meta_).inst →
      (s.stand st).colls.find? (fun y => c.of y) = none := by
    intro c h1 h2
    refine List.find?_eq_none.mpr fun y hy => ?_
    simp only [Contrib.of, h1, h2, Bool.and_eq_true, decide_eq_true_eq]
    rintro ⟨h3, h4⟩
    exact early y hy ⟨h3.symm, h4.symm⟩
  simp only [State.takeContrib, rank, first, Nat.zero_div, Nat.sub_zero, ← hk, ← hvs, open_, Bool.and_false, Bool.false_eq_true, if_false]
  rw [none_of _ rfl rfl]

end

section
variable {s t : State} {p : Nat} {x : Txn} (took : s.takeRequest p x 3 = some t)
include took

theorem exec_reducePut_unused (off : (s.cfg x.dstand).enabled = false) :
    exec (.reducePut p x) s = .next ((t.countStand x.dstand cMemRemoteRefused).respond x 1 []) := by
  change execReducePut p x s = _
  simp [execReducePut, took, off]

variable (on : (s.cfg x.dstand).enabled = true)
include on

theorem exec_reducePut_waits (h : t.takeContrib x.dstand x = none) : exec (.reducePut p x) s = .next s := by
  change execReducePut p x s = _
  simp [execReducePut, took, on, h]

theorem exec_reducePut_answers {u : State} (h : t.takeContrib x.dstand x = some u) :
    exec (.reducePut p x) s = .next (u.respond x 0 []) := by
  change execReducePut p x s = _
  simp [execReducePut, took, on, h]

end

/-! ### PERMUTE_MESSAGE -/

section
variable {s : State} {st r : Nat} {x : Txn} {q : Perm} {c : Cmd}
  (begun : (s.stand st).perms.find? (fun y => decide (y.mtab = x.addr / 2 ^ 36) &&
    decide (y.inst = BitVec.ofNat 32 (x.addr / 16))) = some q)
  (member : (s.mtab st (x.addr / 2 ^ 36)).rank x.src x.sstand = some r) (cmd : (s.stand st).cmd q.ticket = some c)
include begun member cmd

theorem State.takePerm_opening (kind : fld x.payload 15 1 = 1) : s.takePerm st x = some (s.setPerm st { q with
    opened := r :: q.opened
    mismatch := q.mismatch || decide (x.payload.take 16 ≠ s.permWord st (permArgs c.bytes) 1) }) := by
  simp [-Nat.reducePow, State.takePerm, begun, member, cmd, kind]

theorem State.takePerm_pulled (kind : fld x.payload 15 1 = 2) :
    s.takePerm st x = some (s.setPerm st { q with pulledBy := r :: q.pulledBy }) := by
  simp [-Nat.reducePow, State.takePerm, begun, member, cmd, kind]

theorem State.takePerm_absent (kind : fld x.payload 15 1 = 4 ∨ fld x.payload 15 1 = 5) :
    s.takePerm st x = some (s.setPerm st { q with
      absent := fld x.payload 0 8 :: q.absent
      stepAbsent := if fld x.payload 15 1 = 5 then fld x.payload 0 8 :: q.stepAbsent else q.stepAbsent }) := by
  rcases kind with kind | kind <;> simp [-Nat.reducePow, State.takePerm, begun, member, cmd, kind]

end

theorem exec_permuteMessage {s t u : State} {p : Nat} {x : Txn} (took : s.takeRequest p x 4 = some t)
    (on : (s.cfg x.dstand).enabled = true) (h : t.takePerm x.dstand x = some u) :
    exec (.permuteMessage p x) s = .next (u.respond x 0 []) := by
  change execPermuteMessage p x s = _
  simp [execPermuteMessage, took, on, h]

/-- Settles O46: taking the request changes the fabric alone, and what an access then comes to has its lemma. -/
theorem fabricRequests : Obligations.FabricRequests := by
  unfold Obligations.FabricRequests
  refine ⟨?put, ?get, ?reduce, ?permute⟩
  case put =>
    intro s t p x took
    obtain ⟨f, rfl⟩ := State.takeRequest_fabric took
    refine ⟨exec_put_unused took, fun on memory barred => ?_, fun on memory allowed waits => ?_,
      fun k on memory allowed unheld swept keys clean form room => ⟨s.hbm.writeRawN k x.payload, ?_, fun i b hb => ?_, fun j hj => ?_⟩⟩
    · exact exec_put_answers took on memory (State.takePut_refused ((s.setFabric_mayRemote f _ _ _ _).trans barred))
    · exact exec_put_waits took on memory (State.takePut_waits ((s.setFabric_mayRemote f _ _ _ _).trans allowed) waits)
    · rw [exec_put_answers took on memory
        (State.takePut_stores ((s.setFabric_mayRemote f _ _ _ _).trans allowed) unheld swept room clean keys), State.setHbm_respond]
      rfl
    · exact Mem.writeRawN_read clean form hb
    · exact Mem.writeRawN_read_ne hj
  case get =>
    intro s t p n x took hn
    obtain ⟨f, rfl⟩ := State.takeRequest_fabric took
    have access : (s.setFabric f).mayRemote x.dstand x.addr n false = s.mayRemote x.dstand x.addr n false :=
      s.setFabric_mayRemote f _ _ _ _
    refine ⟨exec_get_unused took, fun on ahead => exec_get_waits took on hn ahead, fun on swept bad => ?_,
      fun on swept word page barred => ?_, fun on swept word page allowed plain clean keys => ?_,
      fun on swept word page allowed perm behind => ?_⟩
    · exact exec_get_answers took on hn swept (State.serveGet_malformed hn bad)
    · exact exec_get_answers took on hn swept (State.serveGet_refused hn word page (access.trans barred))
    · exact exec_get_answers took on hn swept (State.serveGet_delivers hn word page (access.trans allowed) plain clean keys)
    · exact exec_get_answers took on hn swept (State.serveGet_unserved hn word page (access.trans allowed) perm behind)
  case reduce =>
    intro s t p x m took hm
    obtain ⟨f, rfl⟩ := State.takeRequest_fabric took
    refine ⟨exec_reducePut_unused took, fun on unloaded => ?_, fun my k d vs on rank hd hk first hvs early settled open_ new => ?_⟩
    · exact exec_reducePut_waits took on (State.takeContrib_unloaded hm unloaded)
    · have takes := State.takeContrib_early (s := s.setFabric f) hm rank hd hk first hvs early open_
      refine ⟨fun full => exec_reducePut_waits took on (takes.trans (if_pos full)), fun room => ?_⟩
      rw [exec_reducePut_answers took on (takes.trans (if_neg (Nat.not_lt.mpr room))),
        State.stageContrib_first (s := s.setFabric f) new settled hd]
      rfl
  case permute =>
    intro s t p r x q c took on begun member cmd
    obtain ⟨f, rfl⟩ := State.takeRequest_fabric took
    refine ⟨fun kind => ?_, fun kind => ?_, fun kind => ?_⟩
    · exact exec_permuteMessage took on (State.takePerm_pulled (s := s.setFabric f) begun member cmd kind)
    · exact exec_permuteMessage took on (State.takePerm_opening (s := s.setFabric f) begun member cmd kind)
    · exact exec_permuteMessage took on (State.takePerm_absent (s := s.setFabric f) begun member cmd kind)

end Sys2Proof.Machine
end

section
/-! Time alignment (spec/10 R270, R271): the stamp in a response, the sample of the smallest delay, and what a sample does to the time base. -/

namespace Sys2Proof.Machine

/-- The bytes of a number are worth the number, as far as they go. -/
theorem leNat_natLe (n v : Nat) : leNat (natLe n v) = v % 256 ^ n := by
  induction n generalizing v with
  | zero => simp [natLe, leNat, Nat.mod_one]
  | succ n ih =>
    rw [natLe, leNat, ih, BitVec.toNat_ofNat, pow_succ' 256 n]
    exact Nat.mod_mul.symm

theorem fld_natLe_append {n v : Nat} (bs : List Byte) (fits : v < 256 ^ n) : fld (natLe n v ++ bs) 0 n = v := by
  rw [fld, List.drop_zero, List.take_left' (natLe_length n v), leNat_natLe, Nat.mod_eq_of_lt fits]

theorem State.rxTime_lt (s : State) (p : Nat) (x : Txn) : s.rxTime p x < 256 ^ 8 := by
  unfold State.rxTime
  cases (s.port p).rxOf x with
  | none => decide
  | some y => exact y.time.isLt

theorem bestSample_least (x : Int × Int) (xs : List (Int × Int)) :
    bestSample (x :: xs) ∈ x :: xs ∧ ∀ q ∈ x :: xs, (bestSample (x :: xs)).2 ≤ q.2 := by
  induction xs using List.reverseRecOn with
  | nil => simp [bestSample]
  | append_singleton xs y ih =>
    obtain ⟨member, least⟩ := ih
    simp only [bestSample, List.foldl_append, List.foldl_cons, List.foldl_nil] at member least ⊢
    split
    · next less =>
      refine ⟨by simp, fun q hq => ?_⟩
      rw [← List.cons_append, List.mem_append, List.mem_singleton] at hq
      rcases hq with hq | rfl
      · exact less.le.trans (least q hq)
      · exact le_rfl
    · next less =>
      refine ⟨by rw [← List.cons_append]; exact List.mem_append_left _ member, fun q hq => ?_⟩
      rw [← List.cons_append, List.mem_append, List.mem_singleton] at hq
      rcases hq with hq | rfl
      · exact least q hq
      · exact not_lt.mp less

/-! ### One exchange -/

section
variable {s : State} {t1 t2 t3 t4 : Nat} {off : Int} (hoff : off = (((t2 : Int) - t1) - ((t4 : Int) - t3)) / 2)

theorem State.timeSample_ready (ready : s.boot.standsReady = true) :
    ∃ c : ClockSt, s.timeSample t1 t2 t3 t4 = s.setClock c ∧ c.now = s.clock.now ∧ c.sync.slew = c.sync.offset ∧
      (c.sync.offset, c.sync.delay) ∈ c.sync.samples ∧ (∀ q ∈ c.sync.samples, c.sync.delay ≤ q.2) ∧ c.sync.samples.length ≤ 8 := by
  simp only [State.timeSample, ready, if_true]
  obtain ⟨member, least⟩ := bestSample_least _ (s.clock.sync.samples.take 7)
  exact ⟨_, rfl, rfl, rfl, member, least, by simp⟩

include hoff

theorem State.timeSample_forward (early : s.boot.standsReady = false) (first : s.clock.sync.stepped = false) (ahead : 0 < off) :
    ∃ c : ClockSt, s.timeSample t1 t2 t3 t4 = (s.setClock c).countModule cCskTimeStep ∧
      c.now = s.clock.now + BitVec.ofNat 64 off.toNat ∧ c.sync.stepped = true := by
  subst hoff
  simp only [State.timeSample, early, first, if_pos ahead, Bool.false_eq_true, if_false]
  exact ⟨_, rfl, by simp [ClockSt.firstStep, ahead], rfl⟩

theorem State.timeSample_back (early : s.boot.standsReady = false) (first : s.clock.sync.stepped = false) (behind : off ≤ 0) :
    ∃ c : ClockSt, s.timeSample t1 t2 t3 t4 = s.setClock c ∧ c.now = s.clock.now ∧ c.sync.stepped = true ∧
      (off < 0 → c.sync.hold = (-off).toNat) := by
  subst hoff
  simp only [State.timeSample, early, first, if_neg (not_lt.mpr behind), Bool.false_eq_true, if_false]
  exact ⟨_, rfl, by simp [ClockSt.firstStep, not_lt.mpr behind], rfl, fun less => by simp [ClockSt.firstStep, less]⟩

end

/-- A response to an exchange that is outstanding gives a sample; what it leaves of the fabric is not looked at. -/
theorem exec_timeResponse {s t : State} {p : Nat} {x : Txn} {t1 : W64} (took : s.takeLink p x 5 true = some t)
    (asked : s.fabric.timeReqs.find? (fun q => decide (q.1 = x.tag)) = some (x.tag, t1)) :
    ∃ f, exec (.timeResponse p x) s =
      .next ((s.setFabric f).timeSample t1.toNat (fld x.payload 0 8) (fld x.payload 8 8) (s.rxTime p x)) := by
  obtain ⟨f, rfl⟩ := State.takeLink_fabric took
  refine ⟨{ f with timeReqs := f.timeReqs.filter (fun q => decide (q.1 ≠ x.tag)) }, ?_⟩
  change execTimeResponse p x s = _
  simp only [execTimeResponse, took, asked]
  rfl

/-- The answer to a TIME request, before the time of its sending is stamped. -/
def State.timeAnswer (s : State) (p : Nat) (x : Txn) : Txn where
  ttype := 5
  rsp := true
  status := 0
  dst := x.src
  src := s.img.deviceId
  dstand := x.sstand
  sstand := x.dstand
  tag := x.tag
  addr := 0
  len := 1
  ttl := 16
  meta_ := []
  payload := natLe 8 (s.rxTime p x) ++ natLe 8 0

theorem exec_time {s t : State} {p : Nat} {x : Txn} (took : s.takeLink p x 5 false = some t) :
    exec (.time p x) s = .next (t.emitTime (s.egressOf p) (s.timeAnswer p x) .t3) := by
  change execTime p x s = _
  simp only [execTime, took]
  rfl

/-- The request of a time exchange, before its time is stamped. -/
def State.timeRequest (s : State) : Txn where
  ttype := 5
  rsp := false
  status := 0
  dst := (s.port s.img.parentPort).peerDevice
  src := s.img.deviceId
  dstand := 0
  sstand := 0
  tag := s.fabric.nextTag
  addr := 0
  len := 1
  ttl := 16
  meta_ := []
  payload := natLe 16 0

theorem exec_timeExchange {s : State} (on : s.alive = true) (verified : s.boot.imageVerified = true) (root : s.img.timeRoot = false)
    (parent : s.img.parentPort < 28) (up : (s.port s.img.parentPort).up = true) :
    exec .timeExchange s = .next ((s.setFabric { s.fabric with
      nextTag := (s.fabric.nextTag + 1) % 4096
      timeReqs := s.fabric.timeReqs.filter (fun q => decide (q.1 ≠ s.fabric.nextTag)) }).emitTime
        (s.egressOf s.img.parentPort) s.timeRequest (.t1 s.fabric.nextTag)) := by
  change execTimeExchange s = _
  simp only [execTimeExchange]
  rw [if_pos ⟨on, verified, by simp [root], parent, up⟩]
  rfl

/-- Settles O47: a response is one sample, and the sample of the smallest delay counts. -/
theorem timeAlignment : Obligations.TimeAlignment := by
  unfold Obligations.TimeAlignment
  refine ⟨fun s t p x took => ?request, fun s on verified root parent up => ?exchange, fun s t p x t1 off took asked hoff => ?response,
    fun s on ready ahead => ?add, fun s on ready behind => ?skip⟩
  case request =>
    exact ⟨s.timeAnswer p x, exec_time took, rfl, rfl, rfl, rfl, rfl, rfl, fld_natLe_append (natLe 8 0) (s.rxTime_lt p x)⟩
  case exchange =>
    exact ⟨_, s.timeRequest, exec_timeExchange on verified root parent up, rfl, rfl, rfl, rfl, rfl, rfl⟩
  case response =>
    obtain ⟨f, runs⟩ := exec_timeResponse took asked
    refine ⟨fun early first ahead => ?_, fun early first behind => ?_, fun ready => ?_⟩
    · obtain ⟨c, sample, now, stepped⟩ := State.timeSample_forward (s := s.setFabric f) hoff early first ahead
      rw [sample] at runs
      exact ⟨_, runs, now, stepped, State.count_one _ _, rfl, ⟨rfl, rfl, rfl⟩, rfl⟩
    · obtain ⟨c, sample, now, stepped, hold⟩ := State.timeSample_back (s := s.setFabric f) hoff early first behind
      rw [sample] at runs
      exact ⟨_, runs, now, stepped, hold, rfl, ⟨rfl, rfl, rfl⟩, rfl⟩
    · obtain ⟨c, sample, now, slew, best⟩ := State.timeSample_ready (s := s.setFabric f) ready
      obtain ⟨member, least, few⟩ := best
      rw [sample] at runs
      exact ⟨_, runs, now, slew, member, least, few, rfl, ⟨rfl, rfl, rfl⟩, rfl⟩
  case add =>
    change execTimeSlew s = _
    simp [execTimeSlew, on, ready, ahead, ahead.ne']
  case skip =>
    change execTimeSlew s = _
    simp [execTimeSlew, on, ready, behind.ne, not_lt.mpr behind.le]

end Sys2Proof.Machine
end

section
/-! Requests that end without a response (spec/10 R257, R266): they touch what the ports have queued, and no other part of a port, nor
the count of a port's losses. -/

namespace Sys2Proof.Machine

/-- A port without what it has queued and received. -/
def PortSt.bare (x : PortSt) : PortSt := { x with txq := [], rxq := [], rxPart := [] }

/-- Every port without its queues, and how often each was lost. -/
def State.links (s : State) : (Nat → PortSt) × (Nat → W48) :=
  (fun q => (s.port q).bare, fun q => s.counters.get (kPort q cCskPortDown))

theorem foldl_links {α : Type} (f : State → α → State) (keeps : ∀ u a, (f u a).links = u.links) (l : List α) (s : State) :
    (l.foldl f s).links = s.links := by
  induction l generalizing s with
  | nil => rfl
  | cons a l ih => rw [List.foldl_cons, ih, keeps]

section
variable (s : State)

@[simp] theorem State.setStand_links (st : Nat) (x : StandSt) : (s.setStand st x).links = s.links := rfl
@[simp] theorem State.setCmd_links (st : Nat) (c : Cmd) : (s.setCmd st c).links = s.links := rfl
@[simp] theorem State.setColl_links (st : Nat) (y : Coll) : (s.setColl st y).links = s.links := rfl
@[simp] theorem State.setPerm_links (st : Nat) (y : Perm) : (s.setPerm st y).links = s.links := rfl
@[simp] theorem State.setCopy_links (st : Nat) (b : Option BgCopy) : (s.setCopy st b).links = s.links := rfl
@[simp] theorem State.endReq_links (st tag : Nat) : (s.endReq st tag).links = s.links := rfl
@[simp] theorem State.engineDone_links (st : Nat) (c : Cmd) : (s.engineDone st c).links = s.links := rfl
@[simp] theorem State.setHbm_links (m : Mem) : (s.setHbm m).links = s.links := rfl
@[simp] theorem State.setLand_links (n : Nat) (x : LandDie) : (s.setLand n x).links = s.links := rfl
@[simp] theorem State.addFault_links (w : Nat) (pos : Option Nat) : (s.addFault w pos).links = s.links := rfl
@[simp] theorem State.keepDiffs_links (a : Nat) (fs : Tab (Byte × Byte)) : (s.keepDiffs a fs).links = s.links := rfl

theorem State.count_links {k n : Nat} (other : ∀ q, k ≠ kPort q cCskPortDown) : (s.count k n).links = s.links := by
  simp only [State.links, State.count]
  exact congrArg _ (funext fun q => Counters.get_add_ne _ (other q) n)

@[simp] theorem State.countStand_links {st c : Nat} (inUse : st < 64) (hc : c < 512) : (s.countStand st c).links = s.links :=
  s.count_links fun q => by simp only [kStand, kPort]; omega

@[simp] theorem State.countNoRoute_links : (s.countModule cCskNoRoute).links = s.links :=
  s.count_links fun q => by simp only [kModule, kPort, cCskNoRoute, cCskPortDown]; omega

theorem State.countStack_links {n c : Nat} (hc : c < 10) : (s.count (kStack n c) 1).links = s.links :=
  s.count_links fun q => by simp only [kStack, kPort, cCskPortDown]; omega

theorem State.setPort_links {p : Nat} {x : PortSt} (h : x.bare = (s.port p).bare) : (s.setPort p x).links = s.links := by
  refine Prod.ext (funext fun q => ?_) rfl
  by_cases same : p = q
  · subst same
    simpa [State.links, State.port, State.setPort] using h
  · simp [State.links, State.port, State.setPort, Tab.get_set_ne _ _ _ _ _ same]

@[simp] theorem State.emit_links (e vc part : Nat) (t : Txn) (owner : Nat × Nat) : (s.emit e vc part t owner).links = s.links := by
  unfold State.emit
  split
  · exact s.setPort_links rfl
  · exact s.setPort_links rfl

@[simp] theorem State.sendReq_links (st e : Nat) (h : HeldReq) : (s.sendReq st e h).links = s.links := by simp [State.sendReq]

@[simp] theorem State.keepUnsent_links (st ticket k owner : Nat) : (s.keepUnsent st ticket k owner).links = s.links := by
  unfold State.keepUnsent
  split <;> simp

@[simp] theorem State.skidEnded_links (st ticket : Nat) (q : HeldReq) (status : Nat) (data : List Byte) :
    (s.skidEnded st ticket q status data).links = s.links := by
  unfold State.skidEnded
  (repeat' split) <;> simp

theorem State.permEnded_links {status : Nat} (st ticket block : Nat) (q : HeldReq) (data : List Byte) (failed : status ≠ 0) :
    (s.permEnded st ticket block q status data).links = s.links := by
  unfold State.permEnded
  split
  · simp [failed]
  · rfl

/-! ### Memory -/

@[simp] theorem State.noteWord_links (w : Nat) : (s.noteWord w).links = s.links := by
  have corrected : cMemCorrected < 10 := by decide
  have uncorrectable : cMemUncorrectable < 10 := by decide
  have poison : cMemPoisonWritten < 10 := by decide
  unfold State.noteWord
  split
  · rfl
  · simp [State.countStack_links _ corrected]
  · dsimp only
    split <;> simp [State.countStack_links _ uncorrectable, State.countStack_links _ poison]

@[simp] theorem State.noteMerge_links (ks : List Nat) : (s.noteMerge ks).links = s.links := by
  unfold State.noteMerge State.noteWords
  (repeat' split) <;> simp [foldl_links]

@[simp] theorem State.writeSoftN_links (n a : Nat) (bs : List Byte) : (s.writeSoftN n a bs).links = s.links := by
  induction n generalizing s a bs with
  | zero => rfl
  | succ n ih =>
    cases bs with
    | nil => rfl
    | cons b bs =>
      simp only [State.writeSoftN, ih]
      split <;> simp [State.writeKey]

@[simp] theorem State.writeSoft_links (a : Nat) (bs : List Byte) : (s.writeSoft a bs).links = s.links := by simp [State.writeSoft]

/-! ### Requests of a stand -/

section
variable {st : Nat} (inUse : st < 64)
include inUse

@[simp] theorem State.ask_links (h : HeldReq) : (s.ask st h).1.links = s.links := by
  have out : cCskFenceOut < 512 := by decide
  have lost : cCskUnreachable < 512 := by decide
  unfold State.ask
  dsimp only
  (repeat' split) <;> simp [inUse, out, lost]

@[simp] theorem State.copyOut_links (b : BgCopy) (off : Nat) (bs : List Byte) (fs : Tab (Byte × Byte)) :
    (s.copyOut st b off bs fs).links = s.links := by
  unfold State.copyOut
  split
  · simp
  · refine foldl_links _ (fun u p => ?_) _ _
    dsimp only [State.requestWith]
    (repeat' split) <;> simp [inUse]

@[simp] theorem State.endCopy_links : (s.endCopy st).links = s.links := by
  have freed : ∀ ds : List Nat, (ds.foldl (fun u l =>
      u.setLand l { u.land l with staged := (u.land l).staged.filter (fun b => decide (b.stand ≠ st)) }) (s.setCopy st none)).links =
        s.links := fun ds => (foldl_links _ (fun u l => u.setLand_links l _) ds _).trans rfl
  unfold State.endCopy
  dsimp only
  split
  · exact freed _
  · exact (State.copyOut_links _ inUse _ _ _ _).trans (freed _)

@[simp] theorem State.ckptDone_links (c : Cmd) (status : List W16) : (s.ckptDone st c status).links = s.links := by
  have checkpoints : cDckCheckpoints < 512 := by decide
  unfold State.ckptDone
  dsimp only
  split <;> simp [inUse, checkpoints]

@[simp] theorem State.ckptPoll_links (ticket : Nat) : (s.ckptPoll st ticket).links = s.links := by
  unfold State.ckptPoll
  (repeat' split) <;> simp [inUse]

@[simp] theorem State.ckptEnded_links (ticket : Nat) (q : HeldReq) (status : Nat) (data : List Byte) :
    (s.ckptEnded st ticket q status data).links = s.links := by
  unfold State.ckptEnded
  (repeat' split) <;> simp [inUse]

theorem State.reqEnded_links {status : Nat} (q : HeldReq) (data : List Byte) (failed : status ≠ 0) :
    (s.reqEnded st q status data).links = s.links := by
  have refused : cCskRefusedRx < 512 := by decide
  have out : cCskFenceOut < 512 := by decide
  have lost : cCskUnreachable < 512 := by decide
  have counted : ∀ t : State, t.links = s.links → (match q.what with
      | .skidder k => t.skidEnded st k q status data
      | .checkpoint k => t.ckptEnded st k q status data
      | .permute k b => t.permEnded st k b q status data
      | .collective k seg r => if q.ttype = 3 ∧ (status = 1 ∨ status = 3) then t.keepUnsent st k seg r else t
      | _ => t).links = s.links := by
    intro t ht
    split
    · simp [ht]
    · simp [ht, inUse]
    · simp [ht, State.permEnded_links _ _ _ _ _ _ failed]
    · split <;> simp [ht]
    · exact ht
  unfold State.reqEnded
  refine counted _ ?_
  split <;> simp [inUse, refused, out, lost]

theorem State.pump_links : (s.pump st).links = s.links := by
  refine (foldl_links _ (fun u q => ?_) _ _).trans rfl
  unfold State.pumpOne
  dsimp only
  (repeat' split) <;> simp [State.reqEnded_links _ inUse]

theorem State.lostReq_links (r : Req) : (s.lostReq st r).links = s.links :=
  (State.pump_links _ inUse).trans (State.reqEnded_links _ inUse _ _ (by decide))

end

theorem State.loseOwners_links {os : List (Nat × Nat)} (stands : ∀ o ∈ os, o.1 < 64) : (s.loseOwners os).links = s.links := by
  unfold State.loseOwners
  induction os generalizing s with
  | nil => rfl
  | cons o os ih =>
    rw [List.foldl_cons, ih _ fun o' h => stands o' (List.mem_cons_of_mem _ h)]
    split
    · exact State.lostReq_links _ (stands o List.mem_cons_self) _
    · rfl

end

end Sys2Proof.Machine
end

section
/-! Ports, their lanes and their loss (spec/10 R247 to R249, R257), and die links (spec/01 R18). -/

namespace Sys2Proof.Machine

section
variable (s : State) (p : Nat)

@[simp] theorem State.port_setPort_same (x : PortSt) : (s.setPort p x).port p = x := by simp [State.port, State.setPort]

theorem State.port_setPort_ne {q : Nat} (x : PortSt) (other : q ≠ p) : (s.setPort p x).port q = s.port q := by
  simp [State.port, State.setPort, Tab.get_set_ne _ _ _ _ _ other.symm]

@[simp] theorem State.count_port (k n : Nat) : (s.count k n).port p = s.port p := rfl

/-! ### A port lost -/

theorem State.forgetFlits_fabric : ∃ f, s.forgetFlits p = s.setFabric f := by
  unfold State.forgetFlits
  induction List.range 28 generalizing s with
  | nil => exact ⟨s.fabric, rfl⟩
  | cons q qs ih =>
    obtain ⟨f, hf⟩ := ih (s.setPort q ((s.port q).forget p))
    exact ⟨f, hf⟩

theorem State.bondResend_fabric : ∃ f, s.bondResend p = s.setFabric f := by
  unfold State.bondResend
  split
  · exact ⟨s.fabric, rfl⟩
  · exact ⟨_, rfl⟩

@[simp] theorem State.forgetFlits_links : (s.forgetFlits p).links = s.links := by
  unfold State.forgetFlits
  refine foldl_links _ (fun u q => ?_) _ _
  exact u.setPort_links rfl

/-- What a port loses as it goes down, and what it keeps. -/
def PortSt.LostAs (z x : PortSt) (now : W64) : Prop :=
  z.mode = .down ∧ z.retry = [] ∧ z.credits = [] ∧ z.failed = x.failed ∧ z.since = now

theorem PortSt.LostAs.of_bare {z y x : PortSt} {now : W64} (h : z.bare = y.bare) (lost : y.LostAs x now) : z.LostAs x now := by
  obtain ⟨mode, retry, credits, failed, since⟩ := lost
  exact ⟨(congrArg PortSt.mode h).trans mode, (congrArg PortSt.retry h).trans retry, (congrArg PortSt.credits h).trans credits,
    (congrArg PortSt.failed h).trans failed, (congrArg PortSt.since h).trans since⟩

theorem State.port_bare_of_links {s t : State} (h : t.links = s.links) (q : Nat) : (t.port q).bare = (s.port q).bare :=
  congrFun (congrArg Prod.fst h) q

theorem State.lost_of_links {s t : State} (h : t.links = s.links) (q : Nat) :
    t.counters.get (kPort q cCskPortDown) = s.counters.get (kPort q cCskPortDown) :=
  congrFun (congrArg Prod.snd h) q

theorem PortSt.owners_lt (x : PortSt) : ∀ o ∈ x.owners, o.1 < 64 := by
  intro o h
  simp only [PortSt.owners, List.mem_dedup, List.mem_filter, decide_eq_true_eq] at h
  exact h.2

/-- A port goes down, and its loss is counted. -/
theorem State.portDown_lost : ((s.portDown p).port p).LostAs (s.port p) s.clock.now ∧
    (s.portDown p).counters.get (kPort p cCskPortDown) = s.counters.get (kPort p cCskPortDown) + 1 := by
  have falls : ∀ (u : State) (y : PortSt), u.counters = s.counters → y.LostAs (s.port p) s.clock.now →
      ((((u.setPort p y).forgetFlits p).count (kPort p cCskPortDown) 1).port p).LostAs (s.port p) s.clock.now ∧
        (((u.setPort p y).forgetFlits p).count (kPort p cCskPortDown) 1).counters.get (kPort p cCskPortDown) =
          s.counters.get (kPort p cCskPortDown) + 1 := by
    intro u y hu lost
    have forgotten := (u.setPort p y).forgetFlits_links p
    have bare := State.port_bare_of_links forgotten p
    rw [State.port_setPort_same] at bare
    rw [State.count_port, State.count_one, State.lost_of_links forgotten p, ← hu]
    exact ⟨lost.of_bare bare, rfl⟩
  unfold State.portDown
  dsimp only
  split
  · have ended := State.loseOwners_links
      (((s.setPort p ((s.port p).fallen s.clock.now)).forgetFlits p).count (kPort p cCskPortDown) 1) (s.port p).owners_lt
    obtain ⟨lost, counted⟩ := falls s ((s.port p).fallen s.clock.now) rfl ⟨rfl, rfl, rfl, rfl, rfl⟩
    exact ⟨lost.of_bare (State.port_bare_of_links ended p), (State.lost_of_links ended p).trans counted⟩
  · refine falls _ _ ?_ ?_
    · obtain ⟨f, hf⟩ := s.bondResend_fabric p
      split
      · rfl
      · rw [hf]; rfl
    · split <;> exact ⟨rfl, rfl, rfl, rfl, rfl⟩

/-- A port that carried no request: its loss is the fabric's alone. -/
theorem State.portDown_fabric (alone : (s.port p).owners = []) :
    ∃ f, s.portDown p = (s.setFabric f).count (kPort p cCskPortDown) 1 := by
  have falls : ∀ (f : Fabric) (y : PortSt), ∃ g, (((s.setFabric f).setPort p y).forgetFlits p) = s.setFabric g := by
    intro f y
    obtain ⟨g, hg⟩ := ((s.setFabric f).setPort p y).forgetFlits_fabric p
    exact ⟨g, hg⟩
  unfold State.portDown
  dsimp only
  split
  · obtain ⟨g, hg⟩ := falls s.fabric ((s.port p).fallen s.clock.now)
    rw [alone]
    exact ⟨g, congrArg (fun u => State.count u (kPort p cCskPortDown) 1) hg⟩
  · obtain ⟨f, hf⟩ : ∃ f, (if (s.port p).mode = .retrain then s else s.bondResend p) = s.setFabric f := by
      split
      · exact ⟨s.fabric, rfl⟩
      · exact s.bondResend_fabric p
    rw [hf]
    obtain ⟨g, hg⟩ := falls f _
    exact ⟨g, congrArg (fun u => State.count u (kPort p cCskPortDown) 1) hg⟩

end

/-! ### Lanes -/

theorem bit_lor_two_pow (m l : Nat) : bit (Nat.lor m (2 ^ l)) l = true := by
  have set : (m ||| 2 ^ l).testBit l = true := by simp
  rw [Nat.testBit_eq_decide_div_mod_eq, decide_eq_true_eq] at set
  exact beq_iff_eq.mpr set

section
variable {s : State} {p n : Nat}

theorem exec_laneFailing_past (cw : Bool) (h : s.alive = false ∨ (s.port p).up = false ∨ (if (s.port p).degraded then 4 else 8) ≤ n) :
    exec (.laneFailing p n cw) s = .next s := by
  change execLaneFailing p n cw s = _
  simp only [execLaneFailing]
  rw [if_neg]
  rintro ⟨on, up, lane⟩
  rcases h with h | h | h
  · simp [h] at on
  · simp [h] at up
  · omega

/-- The state after a lane that fails is recorded, before anything is asked for. -/
def State.laneNoted (s : State) (p l : Nat) (cw : Bool) : State :=
  ((s.setPort p ((s.port p).failLane l)).count (kPort p cCskFecUncorrectableCw) (if cw then 4 else 0)).wear 0x0a 4 p l

section
variable (on : s.alive = true) (up : (s.port p).up = true) (lane : n < (if (s.port p).degraded then 4 else 8)) {l : Nat} {y : PortSt}
  (hl : l = (s.port p).rxLane (s.portCfg p) n) (hy : y = (s.port p).failLane l) (cw : Bool)
include on up lane hl hy

theorem exec_laneFailing_down (few : (y.healthy (s.portCfg p)).length < 4) :
    exec (.laneFailing p n cw) s = .next ((s.laneNoted p l cw).portDown p) := by
  subst hy hl
  change execLaneFailing p n cw s = _
  simp only [execLaneFailing]
  rw [if_pos ⟨on, up, lane⟩, if_pos few]
  rfl

variable (enough : 4 ≤ (y.healthy (s.portCfg p)).length)
include enough

theorem exec_laneFailing_spare (spare : (s.port p).spareIdle (s.portCfg p) = true) :
    exec (.laneFailing p n cw) s = .next ((s.laneNoted p l cw).setPort p { y with ctrlq := y.ctrlq ++ [.subst n] }) := by
  subst hy hl
  change execLaneFailing p n cw s = _
  simp only [execLaneFailing]
  rw [if_pos ⟨on, up, lane⟩, if_neg (Nat.not_lt.mpr enough), if_pos spare]
  rfl

theorem exec_laneFailing_degrade (spare : (s.port p).spareIdle (s.portCfg p) = false) :
    exec (.laneFailing p n cw) s =
      .next (((s.laneNoted p l cw).setPort p { y with ctrlq := y.ctrlq ++ [.degrade y.failed] }).degrade p) := by
  subst hy hl
  change execLaneFailing p n cw s = _
  simp only [execLaneFailing]
  rw [if_pos ⟨on, up, lane⟩, if_neg (Nat.not_lt.mpr enough), if_neg (by simp [spare])]
  rfl

end

end

end Sys2Proof.Machine
end

section
/-! Lanes that fail (spec/10 R247 to R249, spec/01 R18): each request obeyed, and the obligation. -/

namespace Sys2Proof.Machine

section
variable {s : State} {p n : Nat}

theorem exec_subst (on : s.alive = true) (up : (s.port p).up = true) (spare : (s.portCfg p).iface = 2) (lane : n < 8)
    (idle : (s.port p).spareFor = none) (full : (s.port p).degraded = false) :
    exec (.subst p n) s = .next (((s.setPort p { s.port p with
      spareFor := some n, substPending := true, txFailed := Nat.lor (s.port p).txFailed (2 ^ n)
      replayq := (s.port p).retry.map RetryFlit.seq }).count (kPort p cCskLaneSubst) 1).send (.marker p n)) := by
  change execSubst p n s = _
  simp only [execSubst]
  rw [if_pos ⟨on, up, spare, by simp [idle], by simp [full], lane⟩]
  rfl

theorem exec_laneMarkerReceive (on : s.alive = true) (up : (s.port p).up = true) (spare : (s.portCfg p).iface = 2) (lane : n < 8)
    (idle : (s.port p).rxSpareFor = none) :
    exec (.laneMarkerReceive p n) s = .next ((s.setPort p { s.port p with rxSpareFor := some n }).count (kPort p cCskLaneSubst) 1) := by
  change execLaneMarkerReceive p n s = _
  simp only [execLaneMarkerReceive]
  rw [if_pos ⟨on, up, spare, by simp [idle], lane⟩]

/-- An interface without a ninth lane, and a logical lane that there is not, are never moved. -/
theorem exec_noSpare (h : (s.portCfg p).iface ≠ 2 ∨ 8 ≤ n) :
    exec (.subst p n) s = .next s ∧ exec (.laneMarkerReceive p n) s = .next s := by
  constructor
  · change execSubst p n s = _
    simp only [execSubst]
    rw [if_neg fun ⟨_, _, spare, _, _, lane⟩ => h.elim (· spare) (Nat.not_le.mpr lane)]
  · change execLaneMarkerReceive p n s = _
    simp only [execLaneMarkerReceive]
    rw [if_neg fun ⟨_, _, spare, _, lane⟩ => h.elim (· spare) (Nat.not_le.mpr lane)]

theorem State.degrade_port : (s.degrade p).port p = { s.port p with degraded := true, width := 4, substPending := true } := by
  simp [State.degrade]

/-- Degraded width is counted as the port enters it. -/
theorem State.degrade_counted : (s.degrade p).counters.get (kPort p cCskDegraded) =
    s.counters.get (kPort p cCskDegraded) + (if (s.port p).degraded then 0 else 1) := by
  rw [State.degrade, State.count, State.setCounters_counters, Counters.get_add_same]
  cases (s.port p).degraded <;> rfl

theorem exec_degrade {m : Nat} (on : s.alive = true) (up : (s.port p).up = true) :
    exec (.degrade ⟨p, m⟩) s = .next ((s.degrade p).setPort p { s.port p with
      degraded := true, width := 4, substPending := true, replayq := (s.port p).retry.map RetryFlit.seq
      txFailed := Nat.lor (s.port p).txFailed m }) := by
  change execDegrade ⟨p, m⟩ s = _
  simp only [execDegrade]
  rw [if_pos ⟨on, up⟩, State.degrade_port]
  rfl

end

/-! ### What is recorded of a lane -/

section
variable (s : State) (p l : Nat) (cw : Bool)

theorem State.laneNoted_pending :
    (s.laneNoted p l cw).integ.pending = s.integ.pending ++ [⟨s.opsec, 0x0a, 4, p, BitVec.ofNat 32 l, s.flash.wearNext⟩] := rfl

theorem State.laneNoted_kept : (s.laneNoted p l cw).stands = s.stands ∧ s.memoryKept (s.laneNoted p l cw) := ⟨rfl, rfl, rfl, rfl⟩

theorem State.laneNoted_codewords : (s.laneNoted p l cw).counters.get (kPort p cCskFecUncorrectableCw) =
    s.counters.get (kPort p cCskFecUncorrectableCw) + (if cw then 4 else 0) := by
  refine (Counters.get_add_same _ _ _).trans ?_
  cases cw <;> rfl

theorem State.laneNoted_counter {k : Nat} (other : kPort p cCskFecUncorrectableCw ≠ k) :
    (s.laneNoted p l cw).counters.get k = s.counters.get k := Counters.get_add_ne _ other _

theorem State.laneNoted_port : (s.laneNoted p l cw).port p = (s.port p).failLane l :=
  s.port_setPort_same p _

end

/-! ### Die links -/

section
variable {s : State} {d p n : Nat}

theorem DieLink.failLane_fresh {x : DieLink} (fresh : n ∉ x.failedLanes) :
    x.failLane n = { x with failedLanes := x.failedLanes ++ [n] } := by simp [DieLink.failLane, fresh]

/-- The state after a die link's lane that fails is recorded. -/
def State.dieLaneNoted (s : State) (d p n : Nat) : State :=
  (s.setDieLink d p { s.dieLink d p with
    failedLanes := (s.dieLink d p).failedLanes ++ [n]
    reduced := (s.dieLink d p).reduced || decide (2 ≤ (s.dieLink d p).failedLanes.length) }).wear 0x0b 4 (32 * d + p) n

theorem State.dieLaneNoted_dieLink : (s.dieLaneNoted d p n).dieLink d p = { s.dieLink d p with
    failedLanes := (s.dieLink d p).failedLanes ++ [n]
    reduced := (s.dieLink d p).reduced || decide (2 ≤ (s.dieLink d p).failedLanes.length) } := Tab.get_set_same _ _ _ _

theorem State.dieLaneNoted_pending :
    (⟨s.opsec, 0x0b, 4, 32 * d + p, BitVec.ofNat 32 n, s.flash.wearNext⟩ : WearEntry) ∈ (s.dieLaneNoted d p n).integ.pending :=
  List.mem_append_right _ List.mem_cons_self

/-- A die marked: its mark goes to the wear ledger and may have the chip reset, and nothing else of what is listed here changes. -/
theorem State.markDie_keeps (s : State) (c : Nat) : (s.markDie c).fabric = s.fabric ∧ (s.markDie c).stands = s.stands ∧
    s.memoryKept (s.markDie c) ∧ s.integ.pending <+: (s.markDie c).integ.pending := by
  have resets : ∀ t : State, (t.wardenReset 2).fabric = t.fabric ∧ (t.wardenReset 2).stands = t.stands ∧
      t.memoryKept (t.wardenReset 2) ∧ (t.wardenReset 2).integ = t.integ := by
    intro t
    unfold State.wardenReset State.decideChipReset
    (repeat' split) <;> exact ⟨rfl, rfl, ⟨rfl, rfl, rfl⟩, rfl⟩
  unfold State.markDie
  split
  · exact ⟨rfl, rfl, ⟨rfl, rfl, rfl⟩, List.prefix_rfl⟩
  · dsimp only
    split
    · obtain ⟨fabric, stands, ⟨hbm, comp, mem⟩, integ⟩ := resets
        (((s.setDie c { s.die c with marked := true }).countModule cIntDiePending).wear 0x06 (Config.wearCause 6) c 0)
      exact ⟨fabric, stands, ⟨hbm, comp, mem⟩, integ ▸ List.prefix_append _ _⟩
    · exact ⟨rfl, rfl, ⟨rfl, rfl, rfl⟩, List.prefix_append _ _⟩

theorem exec_dieLinkLaneFail_past
    (h : s.alive = false ∨ s.dieLinkOn d p = false ∨ 34 ≤ n ∨ n ∈ (s.dieLink d p).failedLanes) :
    exec (.dieLinkLaneFail d p n) s = .next s := by
  change execDieLinkLaneFail d p n s = _
  simp only [execDieLinkLaneFail]
  rw [if_neg]
  rintro ⟨on, works, lane, fresh⟩
  rcases h with h | h | h | h
  · simp [h] at on
  · simp [h] at works
  · omega
  · simp [h] at fresh

section
variable (on : s.alive = true) (works : s.dieLinkOn d p = true) (lane : n < 34) (fresh : n ∉ (s.dieLink d p).failedLanes)
include on works lane fresh

theorem exec_dieLinkLaneFail_spare (spare : (s.dieLink d p).failedLanes.length ≤ 1) :
    exec (.dieLinkLaneFail d p n) s = .next ((s.dieLaneNoted d p n).count (kDie d cDlkLaneSubst) 1) := by
  have few : (s.dieLink d p).failedLanes.length + 1 ≤ 2 := by omega
  change execDieLinkLaneFail d p n s = _
  simp only [execDieLinkLaneFail, DieLink.failLane_fresh fresh, List.length_append, List.length_singleton]
  rw [if_pos ⟨on, works, lane, by simp [fresh]⟩, if_pos few]
  simp [State.dieLaneNoted]

/-- From the third lane on no spare lane is left, and the third marks the compute die at the link's end. -/
theorem exec_dieLinkLaneFail_third {c : Nat} (third : (s.dieLink d p).failedLanes.length = 2) (comp : computeEnd d p = some c) :
    exec (.dieLinkLaneFail d p n) s = .next ((s.dieLaneNoted d p n).markDie c) := by
  change execDieLinkLaneFail d p n s = _
  simp only [execDieLinkLaneFail, DieLink.failLane_fresh fresh, List.length_append, List.length_singleton, third, comp]
  rw [if_pos ⟨on, works, lane, by simp [fresh]⟩]
  simp [State.dieLaneNoted, third]

theorem exec_dieLinkLaneFail_later (spent : 2 ≤ (s.dieLink d p).failedLanes.length)
    (later : ∀ c, computeEnd d p = some c → (s.dieLink d p).failedLanes.length ≠ 2) :
    exec (.dieLinkLaneFail d p n) s = .next (s.dieLaneNoted d p n) := by
  have many : ¬ (s.dieLink d p).failedLanes.length + 1 ≤ 2 := by omega
  change execDieLinkLaneFail d p n s = _
  simp only [execDieLinkLaneFail, DieLink.failLane_fresh fresh, List.length_append, List.length_singleton]
  rw [if_pos ⟨on, works, lane, by simp [fresh]⟩, if_neg many]
  cases comp : computeEnd d p with
  | none => simp [State.dieLaneNoted]
  | some c => simp [State.dieLaneNoted, later c comp]

end

end

/-- Settles O52: what is recorded of a lane, then the three answers to it; a die link's lane the same way. -/
theorem laneFailures : Obligations.LaneFailures := by
  unfold Obligations.LaneFailures
  refine ⟨fun s p n cw past => exec_laneFailing_past cw past, fun s p n l cw y on up lane hl hy => ?failing,
    fun s p n on up => ⟨fun spare lane => ⟨exec_subst on up spare lane, exec_laneMarkerReceive on up spare lane⟩, exec_noSpare⟩,
    fun s p m on up => ?degrade, fun s d p n => ⟨exec_dieLinkLaneFail_past, fun on works lane fresh => ?dieLink⟩⟩
  case failing =>
    have failed : bit y.failed l = true := hy ▸ bit_lor_two_pow _ _
    have noted := s.laneNoted_port p l cw
    rw [← hy] at noted
    by_cases few : (y.healthy (s.portCfg p)).length < 4
    · have runs := exec_laneFailing_down on up lane hl hy cw few
      obtain ⟨⟨mode, -, -, failed', -⟩, -⟩ := (s.laneNoted p l cw).portDown_lost p
      rw [noted] at failed'
      refine ⟨_, runs, failed'.symm ▸ failed, fun h => ?_, fun h => absurd few (Nat.not_lt.mpr h),
        fun h => absurd few (Nat.not_lt.mpr h), fun _ => mode, exec_frame _ rfl runs⟩
      have alone : ((s.laneNoted p l cw).port p).owners = [] := by
        rw [noted, hy]
        exact h.resolve_left (Nat.not_le.mpr few)
      obtain ⟨f, down⟩ := (s.laneNoted p l cw).portDown_fabric p alone
      rw [down]
      exact ⟨s.laneNoted_pending p l cw, (Counters.get_add_ne _ (by simp [kPort, cCskPortDown, cCskFecUncorrectableCw]) _).trans
        (s.laneNoted_codewords p l cw), s.laneNoted_kept p l cw⟩
    · cases spare : (s.port p).spareIdle (s.portCfg p) with
      | true =>
        have runs := exec_laneFailing_spare on up lane hl hy cw (Nat.not_lt.mp few) spare
        refine ⟨_, runs, by simpa using failed, fun _ => ⟨s.laneNoted_pending p l cw, s.laneNoted_codewords p l cw, s.laneNoted_kept p l cw⟩,
          fun _ _ => State.port_setPort_same _ _ _, fun _ h => absurd h (by simp), fun h => absurd h few, exec_frame _ rfl runs⟩
      | false =>
        have runs := exec_laneFailing_degrade on up lane hl hy cw (Nat.not_lt.mp few) spare
        refine ⟨_, runs, ?_, fun _ => ⟨s.laneNoted_pending p l cw, ?_, s.laneNoted_kept p l cw⟩, fun _ h => absurd h (by simp),
          fun _ _ => ⟨?_, ?_⟩, fun h => absurd h few, exec_frame _ rfl runs⟩
        · rw [State.degrade_port, State.port_setPort_same]
          exact failed
        · exact (Counters.get_add_ne _ (by simp [kPort, cCskDegraded, cCskFecUncorrectableCw]) _).trans (s.laneNoted_codewords p l cw)
        · rw [State.degrade_port, State.port_setPort_same]
        · rw [State.degrade_counted, State.port_setPort_same, hy]
          exact congrArg (· + _) (s.laneNoted_counter p l cw (by simp [kPort, cCskDegraded, cCskFecUncorrectableCw]))
  case degrade =>
    have runs := exec_degrade (m := m) on up
    refine ⟨_, runs, State.port_setPort_same _ _ _, fun q other => ?_, State.degrade_counted, rfl, ⟨rfl, rfl, rfl⟩, exec_frame _ rfl runs⟩
    rw [State.port_setPort_ne _ _ _ other]
    exact State.port_setPort_ne _ _ _ other
  case dieLink =>
    by_cases spare : (s.dieLink d p).failedLanes.length ≤ 1
    · have runs := exec_dieLinkLaneFail_spare on works lane fresh spare
      exact ⟨_, runs, State.dieLaneNoted_dieLink, State.dieLaneNoted_pending, fun _ => State.count_one _ _, fun c h => by omega, rfl,
        ⟨rfl, rfl, rfl⟩, exec_frame _ rfl runs⟩
    · by_cases third : (s.dieLink d p).failedLanes.length = 2 ∧ ∃ c, computeEnd d p = some c
      · obtain ⟨three, c, comp⟩ := third
        have runs := exec_dieLinkLaneFail_third on works lane fresh three comp
        obtain ⟨fabric, stands, memory, pending⟩ := (s.dieLaneNoted d p n).markDie_keeps c
        refine ⟨_, runs, ?_, pending.subset State.dieLaneNoted_pending, fun h => absurd h spare, fun c' _ other => ?_, stands, memory,
          exec_frame _ rfl runs⟩
        · rw [State.dieLink, fabric]
          exact State.dieLaneNoted_dieLink
        · cases comp.symm.trans other
          exact State.markDie_marked _ _
      · have runs := exec_dieLinkLaneFail_later on works lane fresh (by omega) fun c comp h => third ⟨h, c, comp⟩
        exact ⟨_, runs, State.dieLaneNoted_dieLink, State.dieLaneNoted_pending, fun h => absurd h spare,
          fun c h comp => absurd ⟨h, c, comp⟩ third, rfl, ⟨rfl, rfl, rfl⟩, exec_frame _ rfl runs⟩

end Sys2Proof.Machine
end

section
/-! Ports from DOWN to ACTIVE (spec/10 R250 to R253, R261, spec/14 R359): the lanes that training leaves, the buffers that a ramp
advertises, and a bond's LOCK. -/

namespace Sys2Proof.Machine

/-! ### Lanes as training leaves them -/

section
variable (x : PortSt) (c : PortCfg) (healthy : Nat)

theorem PortSt.laned_kept : (x.laned c healthy).retry = x.retry ∧ (x.laned c healthy).owed = x.owed ∧
    (x.laned c healthy).readySent = x.readySent ∧ (x.laned c healthy).readyRecv = x.readyRecv ∧
    (x.laned c healthy).rampStep = x.rampStep := by
  unfold PortSt.laned
  dsimp only
  (repeat' split) <;> exact ⟨rfl, rfl, rfl, rfl, rfl⟩

/-- The lanes that trained, by what is missing of the eight: lane 8 may stand in for one. -/
theorem PortCfg.trained_length : (c.lanes.filter (fun n => bit healthy n)).length +
      ((List.range 8).filter (fun n => !(c.lanes.filter (fun n => bit healthy n)).contains n)).length =
    8 + (if (c.lanes.filter (fun n => bit healthy n)).contains 8 then 1 else 0) := by
  have eight : ∀ q : Nat → Bool, ((List.range 8).filter q).length + ((List.range 8).filter (fun n => !q n)).length = 8 :=
    fun q => (List.length_eq_length_filter_add q).symm.trans List.length_range
  have missing : ((List.range 8).filter (fun n => !(c.lanes.filter (fun n => bit healthy n)).contains n)) =
      (List.range 8).filter (fun n => !bit healthy n) := by
    refine List.filter_congr fun n hn => ?_
    have lane : n ∈ c.lanes := by
      have := List.mem_range.mp hn
      simp only [PortCfg.lanes, List.mem_range]
      split <;> omega
    cases h : bit healthy n <;> simp [h, lane]
  rw [missing]
  have all := eight (fun n => bit healthy n)
  by_cases plain : c.iface = 1
  · simp only [PortCfg.lanes, plain, if_true]
    rw [if_neg (by simp)]
    exact all
  · have nine : List.range 9 = List.range 8 ++ [8] := List.range_succ
    simp only [PortCfg.lanes, plain, if_false, nine, List.filter_append, List.length_append]
    cases spare : bit healthy 8
    · simp [spare]
      omega
    · simp [spare]
      omega

/-- Fewer than eight lanes leave a port at four. -/
theorem PortSt.laned_width {n : Nat} (hn : n = (c.lanes.filter (fun n => bit healthy n)).length) :
    (x.laned c healthy).degraded = decide (n < 8) ∧ (x.laned c healthy).width = (if n < 8 then 4 else 8) := by
  have count := c.trained_length healthy
  rw [← hn] at count
  unfold PortSt.laned
  dsimp only
  split
  · next all =>
    have full : ¬ n < 8 := by rw [all] at count; split at count <;> simp at count <;> omega
    simp [full]
  · next one =>
    rw [one] at count
    split
    · next spare =>
      rw [if_pos spare] at count
      have full : ¬ n < 8 := by simp at count; omega
      simp [full]
    · next spare =>
      rw [if_neg spare] at count
      have short : n < 8 := by simp at count; omega
      simp [short]
  · next many other =>
    have two : 2 ≤ ((List.range 8).filter (fun n => !(c.lanes.filter (fun n => bit healthy n)).contains n)).length := by
      generalize (List.range 8).filter _ = bad at many other
      match bad, many, other with
      | [], many, _ => exact absurd rfl many
      | [a], _, other => exact absurd rfl (other a)
      | _ :: _ :: _, _, _ => simp
    have short : n < 8 := by split at count <;> omega
    simp [short]

end

/-! ### Buffers advertised -/

theorem PortSt.advertise_owed (x : PortSt) {vcs : List Nat} (num : Nat) (each : vcs.Nodup) (vc : Nat) :
    (x.advertise vcs num).owed.get 0 vc = x.owed.get 0 vc + (if vc ∈ vcs then vcBuffer vc * num / 8 else 0) := by
  have run : ∀ o : Tab Nat, (vcs.foldl (fun o v => o.upd 0 v (· + vcBuffer v * num / 8)) o).get 0 vc =
      o.get 0 vc + (if vc ∈ vcs then vcBuffer vc * num / 8 else 0) := by
    induction vcs with
    | nil => intro o; simp
    | cons v vs ih =>
      obtain ⟨fresh, rest⟩ := List.nodup_cons.mp each
      intro o
      rw [List.foldl_cons, ih rest]
      by_cases same : v = vc
      · subst same
        simp [fresh]
      · simp [Tab.get_upd_ne _ _ _ _ _ same, Ne.symm same]
  exact run x.owed

/-- A port that has retrained goes on: with the rest of its buffers where READY was exchanged, and else QUIET. -/
theorem PortSt.resume_eq (x : PortSt) : x.resume.retry = x.retry ∧ x.resume.degraded = x.degraded ∧ x.resume.width = x.width ∧
    x.resume.mode = (if x.readySent = true ∧ x.readyRecv = true then .active else .quiet) ∧
    (x.readySent = true → x.readyRecv = true → ∀ vc, vc < 4 →
      x.resume.owed.get 0 vc = x.owed.get 0 vc + vcBuffer vc * (8 - 2 ^ x.rampStep) / 8) := by
  unfold PortSt.resume
  split
  · next h =>
    rw [Bool.and_eq_true] at h
    refine ⟨rfl, rfl, rfl, (if_pos h).symm, fun _ _ vc hvc => ?_⟩
    exact (PortSt.advertise_owed _ _ (by decide) vc).trans (congrArg _ (if_pos (by simp; omega)))
  · next h =>
    rw [Bool.and_eq_true] at h
    exact ⟨rfl, rfl, rfl, (if_neg h).symm, fun sent heard => absurd ⟨sent, heard⟩ h⟩

/-! ### Training -/

section
variable {s : State} {p : Nat}

theorem State.fabricCheck_boot (s : State) (verified : s.boot.imageVerified = true) : ∃ b, s.fabricCheck = s.setBoot b ∧
    b.fabricReady = (s.boot.fabricReady || (List.range s.variant.ports).all (fun q => !(s.portCfg q).enabled || (s.port q).started)) := by
  unfold State.fabricCheck
  split
  · next h =>
    simp only [Bool.and_eq_true] at h
    obtain ⟨-, all⟩ := h
    exact ⟨_, rfl, by simp [all]⟩
  · next h =>
    refine ⟨s.boot, rfl, ?_⟩
    cases ready : s.boot.fabricReady
    · simp only [verified, ready, Bool.not_false, Bool.true_and, Bool.not_eq_true] at h
      rw [h]
      rfl
    · rfl

theorem exec_portTrainingStart_rests (started : (s.port p).started = true)
    (early : s.clock.now.toNat < (s.port p).since.toNat + 100000000) : exec (.portTrainingStart p) s = .next s := by
  change execPortTrainingStart p s = _
  simp only [execPortTrainingStart]
  rw [if_neg]
  rintro ⟨-, -, -, -, -, rested⟩
  simp only [started, Bool.not_true, Bool.false_or, decide_eq_true_eq] at rested
  unfold downRestNs at rested
  omega

theorem exec_portTrainingStart (on : s.alive = true) (verified : s.boot.imageVerified = true) (port : p < s.variant.ports)
    (enabled : (s.portCfg p).enabled = true) (down : (s.port p).mode = .down)
    (rested : (s.port p).started = false ∨ (s.port p).since.toNat + 100000000 ≤ s.clock.now.toNat) :
    exec (.portTrainingStart p) s = .next (s.setPort p { s.port p with
      mode := .training, since := s.clock.now, started := true, trained := false }).fabricCheck := by
  change (s.port p).started = false ∨ (s.port p).since.toNat + downRestNs ≤ s.clock.now.toNat at rested
  change execPortTrainingStart p s = _
  simp only [execPortTrainingStart]
  rw [if_pos ⟨on, verified, port, enabled, down, by simpa using rested⟩]

section
variable {healthy n : Nat} (on : s.alive = true) (hn : n = ((s.portCfg p).lanes.filter (fun n => bit healthy n)).length)
include on hn

theorem exec_portTrained_hello (mode : (s.port p).mode = .training) (untrained : (s.port p).trained = false) (enough : 4 ≤ n) :
    exec (.portTrained p healthy) s = .next (s.setPort p { (s.port p).laned (s.portCfg p) healthy with
      trained := true, ctrlq := [.hello s.img.deviceId p] }) := by
  subst hn
  change execPortTrained p healthy s = _
  simp [execPortTrained, on, mode, untrained, Nat.not_lt.mpr enough]

theorem exec_portTrained_resumes (mode : (s.port p).mode = .retrain) (enough : 4 ≤ n) {y : PortSt}
    (hy : y = (s.port p).laned (s.portCfg p) healthy) :
    exec (.portTrained p healthy) s =
      .next (s.setPort p (PortSt.replayAll { y.resume with retry := y.retry.map (fun f => { f with sends := 0 }) })) := by
  subst hn hy
  change execPortTrained p healthy s = _
  simp [execPortTrained, on, mode, Nat.not_lt.mpr enough]

theorem exec_portTrained_down (few : n < 4)
    (mode : (s.port p).mode = .training ∧ (s.port p).trained = false ∨ (s.port p).mode = .retrain) :
    exec (.portTrained p healthy) s = .next (s.portDown p) := by
  subst hn
  change execPortTrained p healthy s = _
  rcases mode with ⟨mode, untrained⟩ | mode
  · simp [execPortTrained, on, mode, untrained, few]
  · simp [execPortTrained, on, mode, few]

end

theorem exec_trainingTimeout_early (early : s.clock.now.toNat < (s.port p).since.toNat + 500000000) :
    exec (.trainingTimeout p) s = .next s := by
  change execTrainingTimeout p s = _
  simp [execTrainingTimeout, trainLimitNs, Nat.not_le.mpr early]

theorem exec_trainingTimeout (on : s.alive = true) (mode : (s.port p).mode = .training ∨ (s.port p).mode = .retrain)
    (late : (s.port p).since.toNat + 500000000 ≤ s.clock.now.toNat) : exec (.trainingTimeout p) s = .next (s.portDown p) := by
  change execTrainingTimeout p s = _
  simp [execTrainingTimeout, trainLimitNs, on, mode, late]

theorem exec_portDown (on : s.alive = true) (down : (s.port p).mode ≠ .down) (miscabled : (s.port p).mode ≠ .miscabled) :
    exec (.portDown p) s = .next (s.portDown p) := by
  change execPortDown p s = _
  simp [execPortDown, on, down, miscabled]

theorem exec_portDown_past (h : (s.port p).mode = .down ∨ (s.port p).mode = .miscabled) : exec (.portDown p) s = .next s := by
  change execPortDown p s = _
  rcases h with h | h <;> simp [execPortDown, h]

/-! ### The quiet state and the ramp -/

theorem PortCfg.not_miscabled {c : PortCfg} {d : W16} {q : Nat} (right : c.checkPeer = false ∨ (d = c.peerDevice ∧ q = c.peerPort)) :
    ¬ (c.checkPeer = true ∧ (d ≠ c.peerDevice ∨ q ≠ c.peerPort)) := by
  rintro ⟨checks, other⟩
  rcases right with h | ⟨device, port⟩
  · simp [h] at checks
  · exact other.elim (· device) (· port)

section
variable {d : W16} {q : Nat}

theorem exec_hello_untrained (h : (s.port p).mode ≠ .training ∨ (s.port p).trained = false) : exec (.hello p d q) s = .next s := by
  change execHello p d q s = _
  rcases h with h | h <;> simp [execHello, h]

variable (on : s.alive = true) (mode : (s.port p).mode = .training) (trained : (s.port p).trained = true)
include on mode trained

theorem exec_hello_miscabled (checks : (s.portCfg p).checkPeer = true)
    (other : d ≠ (s.portCfg p).peerDevice ∨ q ≠ (s.portCfg p).peerPort) :
    exec (.hello p d q) s = .next ((s.setPort p { s.port p with
      peerDevice := d, peerPort := q, mode := .miscabled, width := 0 }).countModule cCskMiscabled) := by
  change execHello p d q s = _
  simp only [execHello]
  rw [if_pos ⟨on, mode, trained⟩, if_pos ⟨checks, other⟩]

variable (right : (s.portCfg p).checkPeer = false ∨ (d = (s.portCfg p).peerDevice ∧ q = (s.portCfg p).peerPort))
include right

theorem exec_hello_quiet (early : s.boot.standsReady = false) :
    exec (.hello p d q) s = .next (s.setPort p { s.port p with
      peerDevice := d, peerPort := q, mode := .quiet, since := s.clock.now, owed := (s.port p).owed.upd 0 3 (· + 2) }) := by
  change execHello p d q s = _
  simp only [execHello]
  rw [if_pos ⟨on, mode, trained⟩, if_neg (PortCfg.not_miscabled right), if_neg (by simp [early])]
  rfl

/-- After STANDS_READY the port is ready at once. -/
theorem exec_hello_ready (late : s.boot.standsReady = true) (unsent : (s.port p).readySent = false)
    (unheard : (s.port p).readyRecv = false) :
    exec (.hello p d q) s = .next ((s.setPort p { s.port p with
      peerDevice := d, peerPort := q, mode := .quiet, since := s.clock.now, owed := (s.port p).owed.upd 0 3 (· + 2)
      readySent := true, ctrlq := (s.port p).ctrlq ++ [.ready] }).countModule cBootLatePorts) := by
  change execHello p d q s = _
  simp only [execHello]
  rw [if_pos ⟨on, mode, trained⟩, if_neg (PortCfg.not_miscabled right), if_pos late]
  simp [PortSt.advertise, PortSt.sendReady, PortSt.enterRamp, unsent, unheard, vcBuffer]

end

theorem exec_ready_notQuiet (h : (s.port p).mode ≠ .quiet) : exec (.ready p) s = .next s := by
  change execReady p s = _
  simp [execReady, h]

section
variable (on : s.alive = true)
include on

theorem exec_ready_waits (quiet : (s.port p).mode = .quiet) (unsent : (s.port p).readySent = false) :
    exec (.ready p) s = .next (s.setPort p { s.port p with readyRecv := true }) := by
  change execReady p s = _
  simp [execReady, PortSt.enterRamp, on, quiet, unsent]

theorem exec_ready_ramps (quiet : (s.port p).mode = .quiet) (sent : (s.port p).readySent = true) :
    exec (.ready p) s = .next (s.setPort p (PortSt.advertise { s.port p with
      readyRecv := true, mode := .ramp, since := s.clock.now, rampStep := 0 } [0, 1, 2] 1)) := by
  change execReady p s = _
  simp [execReady, PortSt.enterRamp, on, quiet, sent]

theorem exec_rampDoubling (ramp : (s.port p).mode = .ramp) (late : (s.port p).since.toNat + 1000000 ≤ s.clock.now.toNat) :
    exec (.rampDoubling p) s = .next (s.setPort p (PortSt.advertise { s.port p with
      since := s.clock.now, rampStep := (s.port p).rampStep + 1
      mode := if (s.port p).rampStep = 2 then .active else .ramp } [0, 1, 2, 3] (2 ^ (s.port p).rampStep))) := by
  change execRampDoubling p s = _
  simp only [execRampDoubling]
  rw [if_pos ⟨on, ramp, late⟩]
  by_cases last : (s.port p).rampStep = 2
  · simp [PortSt.advertise, last]
  · simp [PortSt.advertise, last, ← ramp]

end

theorem exec_rampDoubling_early (early : s.clock.now.toNat < (s.port p).since.toNat + 1000000) :
    exec (.rampDoubling p) s = .next s := by
  change execRampDoubling p s = _
  simp [execRampDoubling, rampStepNs, Nat.not_le.mpr early]

end

/-! ### Bonds -/

theorem lagSpan_eq {ls : List (Nat × Nat)} {hi lo : Nat} (within : ∀ l ∈ ls, lo ≤ l.2 ∧ l.2 ≤ hi) (slow : ∃ l ∈ ls, l.2 = hi)
    (fast : ∃ l ∈ ls, l.2 = lo) : lagSpan ls = (hi, lo) := by
  have highest : (ls.map Prod.snd).max? = some hi := by
    rw [List.max?_eq_some_iff]
    exact ⟨List.mem_map.mpr slow, by rintro _ h; obtain ⟨l, hl, rfl⟩ := List.mem_map.mp h; exact (within l hl).2⟩
  have lowest : (ls.map Prod.snd).min? = some lo := by
    rw [List.min?_eq_some_iff]
    exact ⟨List.mem_map.mpr fast, by rintro _ h; obtain ⟨l, hl, rfl⟩ := List.mem_map.mp h; exact (within l hl).1⟩
  unfold lagSpan
  cases h : ls.map Prod.snd with
  | nil => simp [h] at highest
  | cons a as =>
    rw [h, List.max?_cons', Option.some.injEq] at highest
    rw [h, List.min?_cons', Option.some.injEq] at lowest
    exact Prod.ext highest lowest

theorem State.bondUp_nodup (s : State) (b : Nat) : (s.bondUp b).Nodup :=
  (List.nodup_range.map (fun _ _ h => Nat.add_left_cancel h)).filter _

/-- Ports each given one thing more to send: that, and nothing else. -/
theorem State.askEach_port (c : CtrlMsg) {ps : List Nat} (each : ps.Nodup) (s : State) :
    let t := ps.foldl (fun t p => t.setPort p { t.port p with ctrlq := (t.port p).ctrlq ++ [c] }) s
    (∀ p ∈ ps, t.port p = { s.port p with ctrlq := (s.port p).ctrlq ++ [c] }) ∧ (∀ p, p ∉ ps → t.port p = s.port p) ∧
      ∃ f, t = s.setFabric f := by
  induction ps generalizing s with
  | nil => exact ⟨by simp, fun _ _ => rfl, s.fabric, rfl⟩
  | cons a as ih =>
    obtain ⟨fresh, rest⟩ := List.nodup_cons.mp each
    obtain ⟨asked, others, f, only⟩ := ih rest (s.setPort a { s.port a with ctrlq := (s.port a).ctrlq ++ [c] })
    refine ⟨fun p hp => ?_, fun p hp => ?_, f, only⟩
    · rcases List.mem_cons.mp hp with rfl | hp
      · exact (others p fresh).trans (State.port_setPort_same _ _ _)
      · have ne : p ≠ a := fun e => fresh (e ▸ hp)
        refine (asked p hp).trans ?_
        rw [State.port_setPort_ne _ _ _ ne]
    · obtain ⟨ne, hp⟩ := not_or.mp (mt List.mem_cons.mpr hp)
      exact (others p hp).trans (State.port_setPort_ne _ _ _ ne)

section
variable {s : State} {b : Nat} {lags ls : List (Nat × Nat)} (on : s.alive = true) (bond : b < 12) (ports : (s.bondCfg b).ports ≠ 0)
  (up : s.bondUp b ≠ []) (hls : ls = lags.filter (fun l => (s.bondUp b).contains l.1))

include hls in
theorem exec_lock_waits (missing : ∃ p ∈ s.bondUp b, ∀ l ∈ ls, l.1 ≠ p) : exec (.lock b lags) s = .next s := by
  subst hls
  obtain ⟨p, hp, none_⟩ := missing
  change execLock b lags s = _
  simp only [execLock]
  rw [if_neg]
  rintro ⟨-, -, -, -, all⟩
  obtain ⟨l, hl, h⟩ := List.any_eq_true.mp (List.all_eq_true.mp all p hp)
  exact none_ l hl (of_decide_eq_true h)

variable {hi lo : Nat} (all : ∀ p ∈ s.bondUp b, ∃ l ∈ ls, l.1 = p) (span : lagSpan ls = (hi, lo))
include on bond ports up hls all span

theorem exec_lock_locks (near : hi - lo ≤ 64) : exec (.lock b lags) s = .next (s.setBond b { s.bond b with
    locked := true, skew := hi - lo, deskew := ls.foldl (fun t l => t.set l.1 (hi - l.2)) [] }) := by
  subst hls
  change execLock b lags s = _
  simp only [execLock]
  rw [if_pos ⟨on, bond, ports, up, by simpa [List.all_eq_true, List.any_eq_true] using all⟩, span]
  exact congrArg _ (if_pos near)

theorem exec_lock_unlocks (far : 64 < hi - lo) : exec (.lock b lags) s = .next ((s.setBond b { s.bond b with
    locked := false, skew := min (hi - lo) 255 }).count (kBond b cCskLockLost) (if (s.bond b).locked then 1 else 0)) := by
  subst hls
  change execLock b lags s = _
  simp only [execLock]
  rw [if_pos ⟨on, bond, ports, up, by simpa [List.all_eq_true, List.any_eq_true] using all⟩, span]
  exact congrArg _ (if_neg (Nat.not_le.mpr far))

end

/-- A port lost: how it stands, its loss counted, and, where it carried no request, the stands and the memory as they were. -/
theorem State.portDown_comesTo (s : State) (p : Nat) : ((s.portDown p).port p).LostAs (s.port p) s.clock.now ∧
    (s.portDown p).counters.get (kPort p cCskPortDown) = s.counters.get (kPort p cCskPortDown) + 1 ∧
    ((s.port p).owners = [] → (s.portDown p).stands = s.stands ∧ s.memoryKept (s.portDown p)) := by
  obtain ⟨lost, counted⟩ := s.portDown_lost p
  refine ⟨lost, counted, fun alone => ?_⟩
  obtain ⟨f, hf⟩ := s.portDown_fabric p alone
  rw [hf]
  exact ⟨rfl, rfl, rfl, rfl⟩

/-- Settles O51: each step of a port's life is its own lemma, and one lemma says what a loss comes to. -/
theorem portTraining : Obligations.PortTraining := by
  unfold Obligations.PortTraining
  refine ⟨fun s p on verified port enabled down => ⟨exec_portTrainingStart_rests, fun rested => ?start⟩,
    fun s p healthy n on hn => ⟨exec_portTrained_hello on hn, fun mode enough => ?resumes, fun mode few => ?trainedDown⟩,
    fun s p q d on => ⟨exec_hello_untrained, fun mode trained => ⟨exec_hello_miscabled on mode trained,
      fun right => ⟨exec_hello_quiet on mode trained right, exec_hello_ready on mode trained right⟩⟩⟩,
    fun s p on => ⟨exec_ready_notQuiet, fun quiet => ⟨exec_ready_waits on quiet, fun sent => ?ready⟩⟩,
    fun s p on ramp => ⟨exec_rampDoubling_early, fun late => ?doubling⟩,
    fun s p on down miscabled => ?lost, fun s p => exec_portDown_past,
    fun s p on mode => ⟨exec_trainingTimeout_early, fun late => ?timeout⟩,
    fun s b hi lo lags ls on bond ports up hls => ⟨exec_lock_waits hls, fun all within slow fast =>
      ⟨exec_lock_locks on bond ports up hls all (lagSpan_eq within slow fast),
        exec_lock_unlocks on bond ports up hls all (lagSpan_eq within slow fast)⟩⟩,
    fun s b on bond => ?remeasure⟩
  case start =>
    have runs := exec_portTrainingStart on verified port enabled down rested
    obtain ⟨boot, check, ready⟩ := State.fabricCheck_boot (s.setPort p { s.port p with
      mode := .training, since := s.clock.now, started := true, trained := false }) verified
    rw [check] at runs
    refine ⟨_, runs, State.port_setPort_same s p _, fun q other => State.port_setPort_ne s p _ other, ?_, rfl, ⟨rfl, rfl, rfl⟩, rfl, rfl⟩
    refine ready.trans (congrArg (s.boot.fabricReady || ·) (congrArg (fun g => (List.range s.variant.ports).all g) (funext fun q => ?_)))
    by_cases same : q = p
    · subst same
      simp
    · rw [State.port_setPort_ne s p _ same]
      simp [same]
      rfl
  case resumes =>
    have runs := exec_portTrained_resumes on hn mode enough rfl
    obtain ⟨retry, owed, sent, heard, step⟩ := (s.port p).laned_kept (s.portCfg p) healthy
    obtain ⟨degraded, width⟩ := (s.port p).laned_width (s.portCfg p) healthy hn
    obtain ⟨-, degraded', width', mode', owed'⟩ := ((s.port p).laned (s.portCfg p) healthy).resume_eq
    rw [sent, heard] at mode' owed'
    rw [owed, step] at owed'
    rw [retry] at runs
    refine ⟨_, runs, ?_, ?_, ?_, ?_, ?_, fun sent heard vc hvc => ?_, fun q other => State.port_setPort_ne s p _ other, rfl,
      ⟨rfl, rfl, rfl⟩, exec_frame _ rfl runs⟩
    all_goals rw [State.port_setPort_same]
    · exact mode'
    · rfl
    · simp [PortSt.replayAll]
    · exact degraded'.trans degraded
    · exact width'.trans width
    · exact owed' sent heard vc hvc
  case trainedDown =>
    have runs := exec_portTrained_down on hn few mode
    obtain ⟨⟨down, -⟩, counted, -⟩ := s.portDown_comesTo p
    exact ⟨_, runs, down, counted, exec_frame _ rfl runs⟩
  case ready =>
    have runs := exec_ready_ramps on quiet sent
    refine ⟨_, runs, ?_, ?_, ?_, fun vc hvc => ?_, ?_, fun q other => State.port_setPort_ne s p _ other, rfl, ⟨rfl, rfl, rfl⟩,
      exec_frame _ rfl runs⟩
    all_goals rw [State.port_setPort_same]
    · rfl
    · rfl
    · rfl
    · refine (PortSt.advertise_owed _ _ (by decide) vc).trans (congrArg _ ((if_pos (by simp; omega)).trans ?_))
      rw [Nat.mul_one]
    · rw [PortSt.advertise_owed _ _ (by decide)]
      rfl
  case doubling =>
    have runs := exec_rampDoubling on ramp late
    refine ⟨_, runs, ?_, ?_, ?_, fun vc hvc => ?_, fun q other => State.port_setPort_ne s p _ other, rfl, ⟨rfl, rfl, rfl⟩,
      exec_frame _ rfl runs⟩
    all_goals rw [State.port_setPort_same]
    · rfl
    · rfl
    · rfl
    · exact (PortSt.advertise_owed _ _ (by decide) vc).trans (congrArg _ (if_pos (by simp; omega)))
  case lost =>
    have runs := exec_portDown on down miscabled
    obtain ⟨⟨mode, retry, credits, failed, since⟩, counted, alone⟩ := s.portDown_comesTo p
    exact ⟨_, runs, mode, retry, credits, failed, since, counted, alone, exec_frame _ rfl runs⟩
  case timeout =>
    have runs := exec_trainingTimeout on mode late
    obtain ⟨⟨down, retry, -⟩, counted, alone⟩ := s.portDown_comesTo p
    exact ⟨_, runs, down, retry, counted, alone, exec_frame _ rfl runs⟩
  case remeasure =>
    have runs : exec (.lockRemeasure b) s = .next ((s.bondUp b).foldl (fun t p =>
        t.setPort p { t.port p with ctrlq := (t.port p).ctrlq ++ [.lock s.clock.now] }) s) :=
      congrArg Host.Outcome.next (if_pos ⟨on, bond⟩)
    obtain ⟨asked, others, f, only⟩ := State.askEach_port (.lock s.clock.now) (s.bondUp_nodup b) s
    refine ⟨_, runs, asked, others, ?_, ?_, exec_frame _ rfl runs⟩
    · rw [only]; rfl
    · rw [only]; exact ⟨rfl, rfl, rfl⟩

end Sys2Proof.Machine
end

section
/-! A statement that fails outside the numbering of the stands, 0 to 63 (spec/00 Table 0-6): by the places of spec/11 Table 11-9 the
counters of a stand 64, were there one, would lie among those of the HBM stacks, and ending a request of its CHECKPOINT starts a mirror
whose first write may find a word that fails correction. -/

namespace Sys2Proof.Machine

/-- A region of one 4 KiB granule, which stands at the start of landing die 1. -/
def granuleOnDie1 : Region :=
  { Region.undefined with valid := true, granLog2 := 12, rot := 1, base := 0, size := 4096 }

/-- A background copy of nothing to the start of memory: a CHECKPOINT's with its ticket, a mirror without. -/
def emptyCopy (ticket : Option Nat) : BgCopy :=
  { ticket := ticket, ctx := 0, groups := [], todo := [], got := [], remote := none, dest := 0, otver := 0, sign := false, step := 0
    meta_ := ⟨0, 0, 0, 0⟩ }

/-- A CHECKPOINT in flight. -/
def checkpointInFlight : Cmd := StandSt.reset.newCmd (0x43 :: List.replicate 63 0) .h0 (some 0) 0

/-- The CHECKPOINT's PUT, sent at time 0. -/
def checkpointPut : Req := ⟨64, 0, 1, 1, 0, 16, .checkpoint checkpointInFlight.ticket, 0, 0⟩

/-- Stand 64 copies for its CHECKPOINT and a mirror waits; the first word of landing die 1 fails correction. -/
def mirrorBeyond : State :=
  { runningModule [] with
    img := { ImageCfg.absent with regions := [(0, granuleOnDie1)] }
    hbm := { Mem.empty with diff := [(2 ^ 34, (1, 2))] }
    stands := [(64, { StandSt.reset with
      inflight := [checkpointInFlight]
      nextTicket := 1
      reqs := [checkpointPut]
      steps := { StepSt.reset with
        copy := some (emptyCopy (some checkpointInFlight.ticket))
        mirrorWait := some (emptyCopy none) } })] }

theorem mirrorBeyond_waits : mirrorBeyond.alive = true ∧
    (mirrorBeyond.stand 64).reqs.find? (fun r => decide (r.tag = 0)) = some checkpointPut ∧
    checkpointPut.sentAt.toNat + mirrorBeyond.img.txnTimeoutMs * 1000000 ≤ mirrorBeyond.clock.now.toNat := by decide +kernel

/-- The timeout counts for the stand, the word's poison for its stack, and both counters have the same place. -/
theorem mirrorBeyond_counts (t : State) (h : exec (.txnTimeout 64 0) mirrorBeyond = .next t) :
    kStand 64 cCskTxnTimeout = kStack 4 cMemPoisonWritten ∧ mirrorBeyond.counters.get (kStand 64 cCskTxnTimeout) = 0 ∧
      t.counters.get (kStand 64 cCskTxnTimeout) = 2 := by
  obtain rfl := Host.Outcome.next.inj h
  decide +kernel

/-- Refutes O49: nothing in the statement says that the stand is one of 0 to 63, and the counter of timeouts of a stand 64 is that of
poison written in stack 4, so that a timeout whose mirror meets a word that fails correction there counts twice. -/
theorem not_requestEndsAndTransit : ¬ Obligations.RequestEndsAndTransit := by
  unfold Obligations.RequestEndsAndTransit
  intro h
  obtain ⟨-, timeouts, -⟩ := h
  obtain ⟨alive, outstanding, late⟩ := mirrorBeyond_waits
  obtain ⟨t, runs, once, -⟩ := (timeouts mirrorBeyond 64 0 checkpointPut alive outstanding).2 late
  obtain ⟨-, zero, two⟩ := mirrorBeyond_counts t runs
  rw [zero, two] at once
  exact absurd once (by decide)

end Sys2Proof.Machine
end

section
/-! A flit as it is sent and read (spec/10 R254, R255), and a statement that fails outside the numbering of the ports, 0 to 27 (spec/00
Table 0-6). -/

namespace Sys2Proof.Machine

/-! ### A word and its check symbols -/

theorem chkXor_zero (c : Byte × Byte) : chkXor c (0, 0) = c := by simp [chkXor]

theorem chkXor_self (c : Byte × Byte) : chkXor c c = (0, 0) := by simp [chkXor]

theorem readWord_flashWord {d : List Byte} (word : d.length = 16) : readWord (flashWord d (0, 0)) = some (d, false) := by
  have length : (flashWord d (0, 0)).length = 18 := by simp [flashWord, word]
  have data : (flashWord d (0, 0)).take 16 = d := List.take_left' word
  have check : ((flashWord d (0, 0)).getD 16 0, (flashWord d (0, 0)).getD 17 0) = chkOf 0 d := by
    rw [flashWord, chkXor_zero]
    simp [word]
  have clean : checkWord (0, 0) = .clean := by decide
  simp only [readWord, length, data, check, chkXor_self, clean, ne_eq, not_true_eq_false, if_false]

/-! ### A header and its CRC -/

theorem leNat_append (a b : List Byte) : leNat (a ++ b) = leNat a + 256 ^ a.length * leNat b := by
  induction a with
  | nil => simp [leNat]
  | cons x xs ih => rw [List.cons_append, leNat, leNat, ih, List.length_cons, pow_succ']; ring

/-- A flit's header is read from its first eight bytes. -/
theorem flitHead_append {a : List Byte} (eight : a.length = 8) (b : List Byte) : flitHead (a ++ b) = flitHead a := by
  simp only [flitHead, leNat_append, eight, bits, bit]
  norm_num
  omega

theorem FlitHead.bytes_length (h : FlitHead) : h.bytes.length = 8 := natLe_length _ _

/-- The header word of a flit, with the CRC over the header's bytes and the body's data. -/
def FlitHead.word (h : FlitHead) (data : List (List Byte)) : List Byte :=
  h.bytes ++ natLe 4 (crc32c (h.bytes ++ data.flatten)).toNat ++ natLe 4 0

theorem FlitHead.word_length (h : FlitHead) (data : List (List Byte)) : (h.word data).length = 16 := by
  simp [FlitHead.word, h.bytes_length, natLe_length]

section
variable (h : FlitHead) {data : List (List Byte)}

theorem crcOk_word : crcOk (h.word data :: data) = true := by
  have crc : fld (h.word data) 8 4 = (crc32c (h.bytes ++ data.flatten)).toNat := by
    rw [FlitHead.word, List.append_assoc, fld, List.drop_left' h.bytes_length, List.take_left' (natLe_length _ _), leNat_natLe]
    exact Nat.mod_eq_of_lt (BitVec.isLt _)
  have bytes : (h.word data).take 8 = h.bytes := by
    rw [FlitHead.word, List.append_assoc, List.take_left' h.bytes_length]
  simp [crcOk, crc, bytes]

/-- A flit as it is sent is read as it was meant. -/
theorem readFlit_flitWords (body : data.length = 15) (words : ∀ d ∈ data, d.length = 16) (type : (flitHead h.bytes).type ≤ 3) :
    readFlit (flitWords h (data.map (flashWord · (0, 0)))) = (some (flitHead h.bytes, data), 0) := by
  have sent : flitWords h (data.map (flashWord · (0, 0))) = (h.word data :: data).map (flashWord · (0, 0)) := by
    have bare : (data.map (flashWord · (0, 0))).flatMap (·.take 16) = data.flatten := by
      rw [List.flatMap_map, ← List.flatMap_id']
      exact List.flatMap_congr fun d hd => List.take_left' (words d hd)
    rw [flitWords, bare]
    rfl
  have read : ((h.word data :: data).map (flashWord · (0, 0))).map readWord = (h.word data :: data).map (fun d => some (d, false)) := by
    rw [List.map_map]
    refine List.map_congr_left fun d hd => readWord_flashWord ?_
    rcases List.mem_cons.mp hd with rfl | hd
    · exact h.word_length data
    · exact words d hd
  have header : flitHead (h.word data) = flitHead h.bytes := by
    rw [FlitHead.word, List.append_assoc, flitHead_append h.bytes_length]
  rw [sent]
  unfold readFlit
  rw [read]
  have whole : ((h.word data :: data).map (fun d => some (d, false))).filterMap (fun r => r.map Prod.fst) = h.word data :: data := by
    simp [List.filterMap_map]
  simp only [whole]
  rw [if_pos ⟨by simp [body], by simp, crcOk_word h, by simpa [header] using type⟩]
  simp [header]

end

/-- A DATA flit in order is acknowledged, then its body taken. -/
theorem exec_flitReceive_data {s : State} {p c u n : Nat} {ws : List (List Byte)} {h : FlitHead} {b : List (List Byte)}
    (on : s.alive = true) (talks : (s.port p).talks = true) (reads : readFlit ws = (some (h, b), n)) (data : h.type = 1)
    (order : h.seq = (s.port p).rxSeq) :
    exec (.flitReceive p ⟨ws, c, u⟩) s = .next (((s.rxCounted p c u n).setPort p
      { (s.port p).goodHead h with rxSeq := ((s.port p).rxSeq + 1) % 4096, rxSome := true }).takeData p h b) := by
  change execFlitReceive p ⟨ws, c, u⟩ s = _
  simp only [execFlitReceive]
  rw [if_pos ⟨on, talks⟩]
  simp [reads, data, order, State.rxCounted]

/-! ### A port beyond the last -/

/-- The head of a DATA flit with one transaction, which begins in its first word. -/
def firstData : FlitHead := { plainHead 1 with start := 1 }

/-- A heartbeat without a payload. -/
def bareHeartbeat : Txn :=
  { ttype := 6, rsp := false, status := 0, dst := 0, src := 1, dstand := 0, sstand := 0, tag := 0, addr := 0, len := 0, ttl := 16
    meta_ := [], payload := [] }

/-- Its stream, filled up with zeros to the words of a flit. -/
def heartbeatWords : List (List Byte) :=
  (bareHeartbeat.stream (64, 0) .none).map (·.data) ++
    List.replicate (15 - (bareHeartbeat.stream (64, 0) .none).length) (List.replicate 16 0)

/-- The flit. -/
def heartbeatFlit : List (List Byte) := flitWords firstData (heartbeatWords.map (flashWord · (0, 0)))

/-- A module whose port 28 is active. -/
def portBeyond : State := (runningModule []).setPort 28 { PortSt.reset with mode := .active }

theorem heartbeatFlit_read : readFlit heartbeatFlit = (some (firstData, heartbeatWords), 0) := by
  have head : flitHead firstData.bytes = firstData := by decide +kernel
  have reads := readFlit_flitWords firstData (data := heartbeatWords) (by decide +kernel) (by decide +kernel) (by decide +kernel)
  rwa [head] at reads

theorem portBeyond_ready : portBeyond.alive = true ∧ (portBeyond.port 28).talks = true ∧ firstData.seq = (portBeyond.port 28).rxSeq ∧
    portBeyond.bondOf 28 = none ∧ (portBeyond.port 28).rxPart.get RxPart.none firstData.vc = RxPart.none ∧
    portBeyond.meetsFence bareHeartbeat = false := by decide +kernel

/-- Ports 0 to 27 are asked whether they hold a part of the flit; its credit is owed at once. -/
theorem portBeyond_owes (t : State) (h : exec (.flitReceive 28 ⟨heartbeatFlit, 0, 0⟩) portBeyond = .next t) :
    (portBeyond.port 28).owed = [] ∧ (t.port 28).owed = [(0, 1)] := by
  obtain ⟨alive, talks, order, -⟩ := portBeyond_ready
  obtain rfl := Host.Outcome.next.inj ((exec_flitReceive_data alive talks heartbeatFlit_read rfl order).symm.trans h)
  decide +kernel

/-- Refutes O50: nothing in the statement says that the port is one of 0 to 27, and the credit of a flit that port 28 buffers goes back at
once, because only ports 0 to 27 are looked at for what they hold. -/
theorem not_flits : ¬ Obligations.Flits := by
  unfold Obligations.Flits
  intro h
  obtain ⟨-, good, -⟩ := h
  obtain ⟨alive, talks, order, bond, part, fence⟩ := portBeyond_ready
  obtain ⟨-, -, data⟩ := good portBeyond 28 0 0 0 heartbeatFlit firstData heartbeatWords alive talks heartbeatFlit_read
  obtain ⟨t, runs, -, -, kept, -⟩ := (data bareHeartbeat (64, 0) rfl order rfl bond part (by decide) (by decide) (by decide) (by decide)
    (by decide) (by decide) (by decide) rfl rfl rfl (by decide +kernel) rfl).1 fence
  obtain ⟨none, one⟩ := portBeyond_owes t runs
  rw [none, one] at kept
  exact absurd kept (by decide)

end Sys2Proof.Machine
end

section
/-! A statement about a run in progress that fails where the run's core does not have MAT_STATE.CRUISE set (spec/04 Table 4-13): a
retirement finds the run that it ends by that flag (spec/11 Table 11-7), and without it leaves the run in progress. -/

namespace Sys2Proof.Machine

/-- A run of the spare of cluster 0 on a module none of whose cores is out for cruise. -/
def runOfCoreNotOut : State := { runningModule [] with integ := { Integ.reset with cruise := some ⟨0, 4⟩ } }

theorem runOfCoreNotOut_runs : runOfCoreNotOut.alive = true ∧ runOfCoreNotOut.integ.cruise = some ⟨0, 4⟩ ∧
    runOfCoreNotOut.cruiseRuns ⟨0, 4⟩ = true ∧ runOfCoreNotOut.integ.decided = [] ∧ (runOfCoreNotOut.core 4).retired = false ∧
    runOfCoreNotOut.warden.halted = false := by decide +kernel

/-- The failed run retires the spare; no core of the cluster has the flag, and the run stays. -/
theorem runOfCoreNotOut_stays (t : State) (h : exec (.cruiseRunEnd false) runOfCoreNotOut = .next t) :
    runOfCoreNotOut.cruisingCore 0 = none ∧ (t.core 4).retired = true ∧ t.integ.cruise = some ⟨0, 4⟩ := by
  obtain rfl := Host.Outcome.next.inj h
  decide +kernel

/-- Refutes O54: nothing in the statement says that the core of the run in progress has MAT_STATE.CRUISE set, and where no core of its
cluster has, a run that fails retires the core and stays in progress. -/
theorem not_cruiseRuns : ¬ Obligations.CruiseRuns := by
  unfold Obligations.CruiseRuns
  intro h
  obtain ⟨-, ends, -⟩ := h
  obtain ⟨alive, run, begun, undecided, unretired, active⟩ := runOfCoreNotOut_runs
  obtain ⟨-, -, taken⟩ := ends runOfCoreNotOut ⟨0, 4⟩ 4 alive run (by decide) rfl
  obtain ⟨-, fails⟩ := taken begun (by simp [undecided])
  obtain ⟨t, runs, -, -, applied, -⟩ := fails unretired
  obtain ⟨cleared, -⟩ := applied active
  obtain ⟨-, -, stays⟩ := runOfCoreNotOut_stays t runs
  exact Option.some_ne_none _ (stays.symm.trans cleared)

end Sys2Proof.Machine
end

section
/-! What a set of commit messages decides (spec/12 R312). -/

namespace Sys2Proof.Machine

/-- The least first live step that the messages ask for, from `a` on (spec/12 R312). -/
def leastLive (a : W64) (ms : List CommitMsg) : W64 :=
  ms.foldl (fun a m => if m.firstLive.toNat < a.toNat then m.firstLive else a) a

theorem leastLive_le (a : W64) (ms : List CommitMsg) :
    (leastLive a ms).toNat ≤ a.toNat ∧ ∀ m ∈ ms, (leastLive a ms).toNat ≤ m.firstLive.toNat := by
  induction ms generalizing a with
  | nil => exact ⟨le_refl _, fun _ h => absurd h List.not_mem_nil⟩
  | cons m ms ih =>
    obtain ⟨start, rest⟩ := ih (if m.firstLive.toNat < a.toNat then m.firstLive else a)
    have less : (if m.firstLive.toNat < a.toNat then m.firstLive else a).toNat ≤ a.toNat ∧
        (if m.firstLive.toNat < a.toNat then m.firstLive else a).toNat ≤ m.firstLive.toNat := by
      split <;> omega
    exact ⟨start.trans less.1, fun k hk => (List.mem_cons.mp hk).elim (fun e => e ▸ start.trans less.2) (rest k)⟩

theorem leastLive_mem (a : W64) (ms : List CommitMsg) : leastLive a ms = a ∨ ∃ m ∈ ms, leastLive a ms = m.firstLive := by
  induction ms generalizing a with
  | nil => exact .inl rfl
  | cons m ms ih =>
    rcases ih (if m.firstLive.toNat < a.toNat then m.firstLive else a) with start | ⟨k, hk, e⟩
    · by_cases less : m.firstLive.toNat < a.toNat
      · exact .inr ⟨m, List.mem_cons_self, start.trans (if_pos less)⟩
      · exact .inl (start.trans (if_neg less))
    · exact .inr ⟨k, List.mem_cons_of_mem m hk, e⟩

/-- The messages that carry a Blaze. -/
def carrying (ms : List CommitMsg) (b : BitVec 128) : List CommitMsg := ms.filter fun m => decide (m.blaze = b)

/-- Of two different Blazes the messages that carry them are together no more than all. -/
theorem carrying_disjoint (ms : List CommitMsg) {b d : BitVec 128} (h : b ≠ d) :
    (carrying ms b).length + (carrying ms d).length ≤ ms.length := by
  have apart : (carrying ms d).length ≤ (ms.filter fun m => !decide (m.blaze = b)).length := by
    refine (List.monotone_filter_right ms fun m hm => ?_).length_le
    obtain rfl : m.blaze = d := by simpa using hm
    simpa using h.symm
  have all := List.length_eq_length_filter_add (l := ms) fun m => decide (m.blaze = b)
  rw [carrying]
  omega

theorem verdict_rollback {ms : List CommitMsg} (h : ∃ m ∈ ms, m.rollback = true) :
    verdict ms = .rollback (leastLive 0xffffffffffffffff (ms.filter (·.rollback))) :=
  if_pos (List.any_eq_true.mpr h)

/-- Where no message asks for a rollback their Blazes decide. -/
theorem verdict_blazes {m : CommitMsg} {ms : List CommitMsg} (h : ∀ k ∈ m :: ms, k.rollback = false) :
    verdict (m :: ms) = if ms.all (fun k => decide (k.blaze = m.blaze)) then .commit
      else match (m :: ms).find? (fun k => decide ((m :: ms).length < 2 * (carrying (m :: ms) k.blaze).length)) with
        | some k => .majority k.blaze
        | none => .noneAgrees := by
  refine (if_neg fun asked => ?_).trans rfl
  obtain ⟨k, hk, asks⟩ := List.any_eq_true.mp asked
  exact Bool.false_ne_true ((h k hk).symm.trans asks)

theorem verdict_commit {ms : List CommitMsg} (h : ∀ m ∈ ms, m.rollback = false) (same : ∀ a ∈ ms, ∀ b ∈ ms, a.blaze = b.blaze) :
    verdict ms = .commit := by
  cases ms with
  | nil => rfl
  | cons m ms =>
    rw [verdict_blazes h, if_pos]
    simpa using fun k hk => same k (List.mem_cons_of_mem m hk) m List.mem_cons_self

section
variable {ms : List CommitMsg} (h : ∀ m ∈ ms, m.rollback = false) (differ : ∃ a ∈ ms, ∃ k ∈ ms, a.blaze ≠ k.blaze)
include h differ

theorem verdict_differ : verdict ms =
    match ms.find? (fun k => decide (ms.length < 2 * (carrying ms k.blaze).length)) with
    | some k => .majority k.blaze
    | none => .noneAgrees := by
  cases ms with
  | nil => obtain ⟨a, ha, -⟩ := differ; exact absurd ha List.not_mem_nil
  | cons m ms =>
    have mixed : ¬ ms.all (fun k => decide (k.blaze = m.blaze)) = true := by
      intro all
      have equal : ∀ k ∈ m :: ms, k.blaze = m.blaze := by simpa using all
      obtain ⟨a, ha, k, hk, ne⟩ := differ
      exact ne ((equal a ha).trans (equal k hk).symm)
    rw [verdict_blazes h, if_neg mixed]

theorem verdict_majority {b : BitVec 128} (most : ms.length < 2 * (carrying ms b).length) : verdict ms = .majority b := by
  rw [verdict_differ h differ]
  split
  · next k found =>
    have more : ms.length < 2 * (carrying ms k.blaze).length := by simpa using List.find?_some found
    by_cases same : k.blaze = b
    · rw [same]
    · have := carrying_disjoint ms same
      omega
  · next none =>
    obtain ⟨k, hk⟩ := List.exists_mem_of_length_pos (l := carrying ms b) (by omega)
    obtain ⟨mem, blaze⟩ := List.mem_filter.mp hk
    obtain rfl : k.blaze = b := by simpa using blaze
    exact absurd most (by simpa using List.find?_eq_none.mp none k mem)

theorem verdict_noneAgrees (few : ∀ b, 2 * (carrying ms b).length ≤ ms.length) : verdict ms = .noneAgrees := by
  rw [verdict_differ h differ, List.find?_eq_none.mpr fun k _ => by simpa using few k.blaze]

end

/-- Settles O41: each verdict by the lemma about it. -/
theorem verdictOfMessages : Obligations.VerdictOfMessages := by
  unfold Obligations.VerdictOfMessages
  intro ms _
  refine ⟨fun asked => ⟨_, verdict_rollback asked, fun m hm asks => ?least, ?one⟩, fun quiet =>
    ⟨verdict_commit quiet, fun b differ most => verdict_majority quiet differ most,
      fun differ few => verdict_noneAgrees quiet differ few⟩⟩
  case least => exact (leastLive_le _ _).2 m (List.mem_filter.mpr ⟨hm, asks⟩)
  case one =>
    rcases leastLive_mem 0xffffffffffffffff (ms.filter (·.rollback)) with start | ⟨m, hm, e⟩
    · obtain ⟨m, hm, asks⟩ := asked
      exact ⟨m, hm, asks, .inr start⟩
    · obtain ⟨mem, asks⟩ := List.mem_filter.mp hm
      exact ⟨m, mem, asks, .inl e⟩

end Sys2Proof.Machine
end

section
/-! The ends of commands in flight (spec/02 R48, R50), and steps that become APPLIED (spec/12 R303): the records, and the STEP_ENDs that
wait for them. -/

namespace Sys2Proof.Machine

/-! ### A command that completes, discarded or replayed too -/

/-- `y` is the stand `x` once the commands of a ticket have left flight: only the slot, the event counters of the module or the replay,
and what is in flight change. -/
structure StandSt.left (x y : StandSt) (c : Cmd) : Prop where
  rest : y = { x with slots := y.slots, evt := y.evt, inflight := y.inflight, steps := { x.steps with replay := y.steps.replay } }
  inflight : y.inflight = x.inflight.filter (fun d => decide (d.ticket ≠ c.ticket))

theorem StandSt.left.cmd_ne {x y : StandSt} {c : Cmd} (h : x.left y c) {tkt : Nat} (ne : tkt ≠ c.ticket) : y.cmd tkt = x.cmd tkt := by
  rw [StandSt.cmd, h.inflight, List.find?_filter, StandSt.cmd]
  congr 1
  funext d
  by_cases hd : d.ticket = tkt <;> simp [hd, ne]

theorem StandSt.left.cmd_gone {x y : StandSt} {c : Cmd} (h : x.left y c) : y.cmd c.ticket = none := by
  rw [StandSt.cmd, h.inflight, List.find?_filter]
  exact List.find?_eq_none.mpr fun d _ => by simp

section
variable (s : State) (st : Nat) (c : Cmd) (payload : List Byte)

theorem State.reportSlot_rest : (s.reportSlot st c payload).stand st =
    { s.stand st with slots := ((s.reportSlot st c payload).stand st).slots } := by
  unfold State.reportSlot
  (repeat' split) <;> simp [State.writeSlot_stand, StandSt.written, StandSt.freeUnwritten]

theorem State.reportSlot_slot_ne {m : Nat} (h : c.slot ≠ some m) :
    ((s.reportSlot st c payload).stand st).slot m = (s.stand st).slot m := by
  unfold State.reportSlot
  split
  · rfl
  · next n slot =>
    have ne : n ≠ m := fun e => h (e ▸ slot)
    split <;> simp [State.writeSlot_stand, StandSt.written, StandSt.freeUnwritten, StandSt.slot, Tab.get_set_ne _ _ _ _ _ ne]

theorem State.applySignal_rest : (s.applySignal st c).stand st = { s.stand st with
    evt := ((s.applySignal st c).stand st).evt
    steps := { (s.stand st).steps with replay := ((s.applySignal st c).stand st).steps.replay } } := by
  unfold State.applySignal
  dsimp only
  (repeat' split) <;> simp [StandSt.signal]

theorem State.finish_left : (s.stand st).left ((s.finish st c payload).stand st) c := by
  rw [State.finish, State.setStand_stand_same]
  have report := s.reportSlot_rest st c payload
  have signal := (s.reportSlot st c payload).applySignal_rest st c
  refine ⟨?_, ?_⟩
  · rw [signal, report]
  · dsimp only
    rw [signal, report]

theorem State.finish_slot_ne {m : Nat} (h : c.slot ≠ some m) : ((s.finish st c payload).stand st).slot m = (s.stand st).slot m := by
  have kept := s.reportSlot_slot_ne st c payload h
  rw [State.finish, State.setStand_stand_same, ← kept]
  have slots : ((s.reportSlot st c payload).applySignal st c).stand st = _ := State.applySignal_rest _ st c
  rw [StandSt.slot, slots]
  rfl

end

/-- The slot of a command that completes DONE, is not discarded and is no RESULT. -/
theorem StandSt.finished_slot_done {c : Cmd} (x : StandSt) {n : Nat} (payload : List Byte) (slot : c.slot = some n) (done : c.status = 0)
    (other : c.opcode ≠ 0x51) : (x.finished c payload).slot n =
      if c.rpt then (x.slot n).write c.seq 0 c.context c.opcode payload else { x.slot n with st := .free } := by
  split
  · next rpt => rw [StandSt.finished_slot_same c payload x slot (by simp [rpt]), done]
  · next quiet => simp [StandSt.finished, StandSt.reported, slot, done, other, quiet, StandSt.freeUnwritten, StandSt.slot]

/-! ### Steps that become APPLIED -/

/-- `y` is the stand `x` after steps became APPLIED or were discarded and STEP_ENDs completed. -/
structure StandSt.settledTo (x y : StandSt) : Prop where
  rest : y = { x with
    slots := y.slots, evt := y.evt, inflight := y.inflight, steps := { x.steps with records := y.steps.records, replay := y.steps.replay } }
  inflight : ∀ c ∈ y.inflight, c ∈ x.inflight

theorem StandSt.settledTo.refl (x : StandSt) : x.settledTo x := ⟨rfl, fun _ h => h⟩

theorem StandSt.settledTo.trans {x y z : StandSt} (h : x.settledTo y) (k : y.settledTo z) : x.settledTo z := by
  refine ⟨?_, fun c hc => h.inflight c (k.inflight c hc)⟩
  have hr := h.rest
  rw [k.rest, hr]

theorem StandSt.left.settledTo {x y : StandSt} {c : Cmd} (h : x.left y c) : x.settledTo y := by
  refine ⟨?_, fun d hd => ?_⟩
  · have hr := h.rest
    have records : y.steps.records = x.steps.records := by rw [hr]
    rw [records]
    exact hr
  · rw [h.inflight] at hd
    exact List.mem_of_mem_filter hd

/-- The record of a step that is over. -/
def StepRec.appliedAt (r : StepRec) (now : W64) : StepRec := { r with mode := .applied, applied := now, endTicket := none }

section
variable (s : State) (st : Nat)

/-- A record's STEP_END completes, or there is none in flight. -/
theorem State.endStep_cases (r : StepRec) (status : List W16) :
    s.endStep st r status = s ∧ (∀ tkt, r.endTicket = some tkt → (s.stand st).cmd tkt = none) ∨
      ∃ tkt c, r.endTicket = some tkt ∧ (s.stand st).cmd tkt = some c ∧
        s.endStep st r status = s.finish st { c with statuses := status } (timed c.tStart s.clock.now []) := by
  unfold State.endStep
  split
  · next none => exact .inl ⟨rfl, fun tkt h => by rw [none] at h; cases h⟩
  · next tkt due =>
    split
    · next gone =>
      refine .inl ⟨rfl, fun k h => ?_⟩
      obtain rfl := Option.some.inj (due.symm.trans h)
      exact gone
    · next c hc => exact .inr ⟨tkt, c, due, hc, rfl⟩

theorem State.endStep_settledTo (r : StepRec) (status : List W16) : (s.stand st).settledTo ((s.endStep st r status).stand st) := by
  rcases s.endStep_cases st r status with ⟨e, -⟩ | ⟨tkt, c, -, -, e⟩ <;> rw [e]
  · exact .refl _
  · exact (s.finish_left st _ _).settledTo

theorem State.endStep_onlyStand (r : StepRec) (status : List W16) : s.onlyStand (s.endStep st r status) st := by
  rcases s.endStep_cases st r status with ⟨e, -⟩ | ⟨tkt, c, -, -, e⟩ <;> rw [e]
  · exact State.onlyStand.refl s st
  · exact s.finish_onlyStand st _ _

theorem State.endStep_records (r : StepRec) (status : List W16) :
    ((s.endStep st r status).stand st).steps.records = (s.stand st).steps.records := by
  rcases s.endStep_cases st r status with ⟨e, -⟩ | ⟨tkt, c, -, -, e⟩ <;> rw [e]
  rw [(s.finish_left st _ _).rest]

/-- A command that no record's STEP_END is keeps its place in flight. -/
theorem State.endStep_cmd {r : StepRec} {status : List W16} {tkt : Nat} (h : r.endTicket ≠ some tkt) :
    ((s.endStep st r status).stand st).cmd tkt = (s.stand st).cmd tkt := by
  rcases s.endStep_cases st r status with ⟨e, -⟩ | ⟨k, c, due, hc, e⟩ <;> rw [e]
  refine (s.finish_left st _ _).cmd_ne fun same => h ?_
  rw [due, same]
  exact congrArg some (StandSt.cmd_ticket hc).symm

theorem State.onRec_settledTo (step : W64) (f : StepRec → StepRec) : (s.stand st).settledTo ((s.onRec st step f).stand st) := by
  rw [s.onRec_stand]
  exact ⟨rfl, fun _ h => h⟩

theorem State.onRec_records (step : W64) (f : StepRec → StepRec) :
    ((s.onRec st step f).stand st).steps.records = (s.stand st).steps.records.map fun r => if r.step = step then f r else r := by
  rw [s.onRec_stand]
  rfl

theorem State.onRec_cmd (step : W64) (f : StepRec → StepRec) (tkt : Nat) : ((s.onRec st step f).stand st).cmd tkt =
    (s.stand st).cmd tkt := by
  rw [s.onRec_stand]
  rfl

/-- One step becomes APPLIED, and its STEP_END completes. -/
def State.applyStep (now : W64) (r : StepRec) : State :=
  (s.onRec st r.step fun q => q.appliedAt now).endStep st r []

theorem State.applySteps_eq : s.applySteps st =
    ((s.stand st).steps.records.filter (s.stand st).stepOver).foldl (fun t r => t.applyStep st s.clock.now r) s := rfl

section
variable (now : W64) (rs : List StepRec)

theorem State.foldl_applyStep_onlyStand : s.onlyStand (rs.foldl (fun t r => t.applyStep st now r) s) st := by
  induction rs generalizing s with
  | nil => exact State.onlyStand.refl s st
  | cons r rs ih => exact ((s.onRec_onlyStand st _ _).trans (State.endStep_onlyStand _ st r [])).trans (ih _)

theorem State.foldl_applyStep_settledTo : (s.stand st).settledTo ((rs.foldl (fun t r => t.applyStep st now r) s).stand st) := by
  induction rs generalizing s with
  | nil => exact .refl _
  | cons r rs ih => exact ((s.onRec_settledTo st _ _).trans (State.endStep_settledTo _ st r [])).trans (ih _)

/-- Every record of the steps that are over, and no other, is APPLIED. -/
theorem State.foldl_applyStep_records : ((rs.foldl (fun t r => t.applyStep st now r) s).stand st).steps.records =
    (s.stand st).steps.records.map fun q => if ∃ r ∈ rs, r.step = q.step then q.appliedAt now else q := by
  induction rs generalizing s with
  | nil => simp
  | cons r rs ih =>
    rw [List.foldl_cons, ih, State.applyStep, State.endStep_records, State.onRec_records, List.map_map]
    congr 1
    funext q
    by_cases first : q.step = r.step
    · by_cases later : ∃ r' ∈ rs, r'.step = q.step
      · have later' : ∃ r' ∈ rs, r'.step = r.step := first ▸ later
        simp [first, StepRec.appliedAt, later']
      · have later' : ¬ ∃ r' ∈ rs, r'.step = r.step := first ▸ later
        simp [first, StepRec.appliedAt]
    · simp [first, Ne.symm first]

theorem State.foldl_applyStep_cmd {tkt : Nat} (h : ∀ r ∈ rs, r.endTicket ≠ some tkt) :
    ((rs.foldl (fun t r => t.applyStep st now r) s).stand st).cmd tkt = (s.stand st).cmd tkt := by
  induction rs generalizing s with
  | nil => rfl
  | cons r rs ih =>
    rw [List.foldl_cons, ih _ fun r' hr => h r' (List.mem_cons_of_mem r hr), State.applyStep,
      State.endStep_cmd _ st (h r List.mem_cons_self), State.onRec_cmd]

end

end

/-! ### A STEP_END and its slot -/

/-- Slot `n` is held by the one STEP_END of a ticket in flight, or that has completed into it. -/
structure StandSt.endsInto (x : StandSt) (d : Cmd) (n : Nat) (before after : Slot) : Prop where
  holder : ∀ c ∈ x.inflight, c.slot = some n → c.ticket = d.ticket
  slot : x.cmd d.ticket = some d ∧ x.slot n = before ∨ x.cmd d.ticket = none ∧ x.slot n = after

section
variable {s : State} {st n : Nat} {d : Cmd} {before after : Slot}

theorem State.onRec_endsInto (h : (s.stand st).endsInto d n before after) (step : W64) (f : StepRec → StepRec) :
    ((s.onRec st step f).stand st).endsInto d n before after := by
  rw [s.onRec_stand]
  exact ⟨h.holder, h.slot⟩

/-- A STEP_END that completes leaves its slot as a completion does, and another's leaves the slot alone. -/
theorem State.endStep_endsInto (h : (s.stand st).endsInto d n before after) (r : StepRec) (fresh : d.replay = false)
    (none : d.statuses = []) (slot : d.slot = some n) (other : d.opcode ≠ 0x51)
    (result : after = if d.rpt then before.write d.seq 0 d.context d.opcode (timed d.tStart s.clock.now [])
      else { before with st := .free }) :
    ((s.endStep st r []).stand st).endsInto d n before after ∧
      (r.endTicket = some d.ticket → ((s.endStep st r []).stand st).cmd d.ticket = Option.none) := by
  rcases s.endStep_cases st r [] with ⟨e, gone⟩ | ⟨tkt, c, due, hc, e⟩
  · rw [e]
    exact ⟨h, gone _⟩
  have ticket := StandSt.cmd_ticket hc
  obtain ⟨c', hc'⟩ : ∃ c' : Cmd, c' = { c with statuses := [] } := ⟨_, rfl⟩
  have same : c'.ticket = c.ticket := by rw [hc']
  rw [e, ← hc']
  have left := s.finish_left st c' (timed c.tStart s.clock.now [])
  have unslotted (other : tkt ≠ d.ticket) : c'.slot ≠ some n := fun held =>
    other (ticket ▸ h.holder c (List.mem_of_find?_eq_some hc) (by rw [← held, hc']))
  refine ⟨⟨fun k hk => h.holder k (left.settledTo.inflight k hk), ?_⟩, fun own => ?_⟩
  · rcases h.slot with ⟨there, held⟩ | ⟨absent, into⟩
    · by_cases own : tkt = d.ticket
      · subst own
        obtain rfl : d = c := Option.some.inj (there.symm.trans hc)
        obtain rfl : c' = d := by rw [hc', ← none]
        refine .inr ⟨left.cmd_gone, ?_⟩
        rw [State.finish_stand s st c' _ (by simp [Cmd.status, none, discarded]) fresh,
          StandSt.finished_slot_done _ _ slot (by simp [Cmd.status, none]) other, held, result]
      · rw [left.cmd_ne (by omega), s.finish_slot_ne st _ _ (unslotted own)]
        exact .inl ⟨there, held⟩
    · have other : tkt ≠ d.ticket := fun own => by rw [own, absent] at hc; cases hc
      rw [left.cmd_ne (by omega), s.finish_slot_ne st _ _ (unslotted other)]
      exact .inr ⟨absent, into⟩
  · have own' : d.ticket = c'.ticket := by rw [same, ticket]; exact Option.some.inj (own.symm.trans due)
    rw [own']
    exact left.cmd_gone

/-- Where one of the steps that are over waits for the STEP_END, it completes into its slot. -/
theorem State.foldl_applyStep_slot (h : (s.stand st).endsInto d n before after) {now : W64} (clock : s.clock.now = now)
    (rs : List StepRec) (fresh : d.replay = false) (none : d.statuses = []) (slot : d.slot = some n) (other : d.opcode ≠ 0x51)
    (result : after = if d.rpt then before.write d.seq 0 d.context d.opcode (timed d.tStart now []) else { before with st := .free })
    (due : (s.stand st).cmd d.ticket = Option.none ∨ ∃ r ∈ rs, r.endTicket = some d.ticket) :
    ((rs.foldl (fun t r => t.applyStep st now r) s).stand st).slot n = after := by
  induction rs generalizing s with
  | nil =>
    rcases due with gone | ⟨r, hr, -⟩
    · rcases h.slot with ⟨there, -⟩ | ⟨-, into⟩
      · rw [gone] at there; cases there
      · exact into
    · exact absurd hr List.not_mem_nil
  | cons r rs ih =>
    have step := (s.onRec_onlyStand st r.step fun q => q.appliedAt now).trans (State.endStep_onlyStand _ st r [])
    have clock' : (s.onRec st r.step fun q => q.appliedAt now).clock.now = now := clock
    obtain ⟨into, gone⟩ := State.endStep_endsInto (State.onRec_endsInto h r.step fun q => q.appliedAt now) r fresh none slot other
      (by rw [clock']; exact result)
    obtain ⟨-, -, -, -, kept, -⟩ := step
    refine ih into ((congrArg ClockSt.now kept).trans clock) ?_
    rcases due with before | ⟨q, hq, own⟩
    · left
      rcases into.slot with ⟨there, -⟩ | ⟨out, -⟩
      · have lost : d ∈ (s.stand st).inflight := by
          have := (State.endStep_settledTo (s.onRec st r.step fun q => q.appliedAt now) st r []).inflight d
            (List.mem_of_find?_eq_some there)
          rw [s.onRec_stand] at this
          exact this
        exact absurd (decide_eq_true rfl) (List.find?_eq_none.mp before d lost)
      · exact out
    · rcases List.mem_cons.mp hq with rfl | later
      · exact .inl (gone own)
      · exact .inr ⟨q, later, own⟩

end

end Sys2Proof.Machine
end

section
/-! STEP_BEGIN and STEP_END (spec/12 R303 to R305). -/

namespace Sys2Proof.Machine

/-! ### What an issue has found in order -/

/-- Every check passed. -/
theorem firstFail_none {cs : List (Bool × W16)} (h : firstFail cs = none) : ∀ c ∈ cs, c.1 = false := by
  induction cs with
  | nil => exact fun _ hc => absurd hc List.not_mem_nil
  | cons c cs ih =>
    obtain ⟨b, w⟩ := c
    cases b with
    | true => cases h
    | false => exact fun c hc => (List.mem_cons.mp hc).elim (fun e => e ▸ rfl) (ih h c)

theorem State.checkOp_of_issueCheck {s : State} {st : Nat} {p : List Byte} (h : s.issueCheck st p = none) : s.checkOp st p = none := by
  unfold State.issueCheck at h
  split at h
  · split at h <;> cases h
  · assumption

section
variable {s : State} {st : Nat} {p : List Byte}

/-- A STEP_BEGIN that passes has LOG clear and finds no step OPEN. -/
theorem State.stepBegin_passes (ho : fld p 0 1 = 0x40) (h : s.issueCheck st p = none) :
    bit (fld p 1 1) 2 = false ∧ (s.stand st).steps.openStep = none := by
  have check : s.checkStepBegin st p = none := by
    have := State.checkOp_of_issueCheck h
    simpa only [State.checkOp, ho] using this
  unfold State.checkStepBegin at check
  dsimp only at check
  split at check
  · cases check
  · have passed := firstFail_none check
    exact ⟨passed _ List.mem_cons_self, by simpa using passed _ (List.mem_cons_of_mem _ List.mem_cons_self)⟩

/-- A STEP_END that passes has LOG clear. -/
theorem State.stepEnd_passes (ho : fld p 0 1 = 0x41) (h : s.issueCheck st p = none) : bit (fld p 1 1) 2 = false := by
  have check : s.checkStepEnd st p = none := by
    have := State.checkOp_of_issueCheck h
    simpa only [State.checkOp, ho] using this
  unfold State.checkStepEnd at check
  split at check
  · cases check
  · exact firstFail_none check _ List.mem_cons_self

end

section
variable {s : State} {st : Nat} {c : Cmd}

theorem State.afterIssue_stepBegin (ho : c.opcode = 0x40) :
    s.afterIssue st c = (s.stepBegin st c.bytes).finish st c (timed s.clock.now s.clock.now []) := by
  simp only [State.afterIssue, ho]

theorem State.afterIssue_stepEnd (ho : c.opcode = 0x41) : s.afterIssue st c = (s.setStand st { s.stand st with
    inflight := (s.stand st).inflight ++ [{ c with stage := .running, tStart := s.clock.now }] }).stepEnd st c.ticket := by
  simp only [State.afterIssue, ho]

end

section
variable {s : State} {st n : Nat} {p : Packet} (hi : s.issuable st = some p) (hc : s.issueCheck st p.bytes = none)
  (hn : (s.stand st).freeSlot = some n)
include hi hc hn

/-- STEP_BEGIN that passes its checks and need not wait. -/
theorem exec_stepBegin_issues (ho : fld p.bytes 0 1 = 0x40) (ready : s.stepBeginWaits st = false) :
    exec (.stepBegin st) s =
      let i := s.issue st p (some n)
      .next ((i.1.stepBegin st p.bytes).finish st i.2 (timed i.1.clock.now i.1.clock.now [])) := by
  have opcode : (s.issue st p (some n)).2.opcode = 0x40 := ho
  have runs : exec (.stepBegin st) s = .next (s.issueHead st p) :=
    congrArg Host.Outcome.next (State.tryIssue_of_issuable hi (by simp [ho]))
  have takes : slotless p.bytes = false := by simp [slotless, ho]
  rw [runs]
  simp only [State.issueHead, hc, hn, ready, takes, Bool.and_false, Option.isNone_some, Bool.false_and, Bool.or_self,
    Bool.false_eq_true, if_false]
  exact congrArg Host.Outcome.next (State.afterIssue_stepBegin opcode)

/-- The command of an issued STEP_END. -/
def StandSt.stepEndCmd (x : StandSt) (p : Packet) (n : Nat) (now : W64) : Cmd :=
  { x.newCmd p.bytes p.link (some n) 0 with stage := .running, tStart := now }

/-- STEP_END that passes its checks. -/
theorem exec_stepEnd_issues (ho : fld p.bytes 0 1 = 0x41) :
    exec (.stepEnd st) s =
      let t := (s.issue st p (some n)).1
      .next ((t.setStand st { t.stand st with
        inflight := (t.stand st).inflight ++ [(s.stand st).stepEndCmd p n t.clock.now] }).stepEnd st (s.stand st).nextTicket) := by
  have opcode : (s.issue st p (some n)).2.opcode = 0x41 := ho
  have unnumbered : (s.issue st p (some n)).2 = (s.stand st).newCmd p.bytes p.link (some n) 0 := by
    have table : instTable p.bytes = none := by simp [instTable, ho]
    simp only [State.issue, StandSt.takeInst, table]
  have runs : exec (.stepEnd st) s = .next (s.issueHead st p) :=
    congrArg Host.Outcome.next (State.tryIssue_of_issuable hi (by simp [ho]))
  have takes : slotless p.bytes = false := by simp [slotless, ho]
  rw [runs, State.issueHead_of_passes hc (by omega) (by simp [hn]), takes, hn, if_neg Bool.false_ne_true]
  rw [State.afterIssue_stepEnd opcode, unnumbered]
  rfl

end

section
variable (s : State) (st : Nat) (p : Packet) (n : Nat)

theorem State.issue_clock (slot : Option Nat) : (s.issue st p slot).1.clock = s.clock := by
  obtain ⟨-, -, -, -, clock, -⟩ := s.issue_onlyStand st p slot
  exact clock

theorem State.issue_inflight (slot : Option Nat) : ((s.issue st p slot).1.stand st).inflight = (s.stand st).inflight := by
  rw [State.issue_stand]; cases slot <;> simp [StandSt.issued, StandSt.taken, StandSt.reserve]

end

/-! ### STEP_BEGIN takes effect (spec/12 R305) -/

/-- Of the records only step and mode decide which step is OPEN. -/
theorem StepSt.openStep_congr {x y : StepSt} (h : y.records.map (fun r => (r.step, r.mode)) = x.records.map (fun r => (r.step, r.mode))) :
    y.openStep = x.openStep := by
  have byPair (z : StepSt) : z.openStep = ((z.records.map fun r => (r.step, r.mode)).find? fun q => decide (q.2 = .isOpen)).map Prod.fst := by
    rw [StepSt.openStep, List.find?_map, Option.map_map]
    rfl
  rw [byPair, byPair, h]

/-- A step opened behind steps none of which is OPEN is the OPEN one. -/
theorem openStep_append {x y : StepSt} {r : StepRec} (none : x.openStep = none) (records : y.records = x.records ++ [r])
    (h : r.mode = .isOpen) : y.openStep = some r.step := by
  have closed : x.records.find? (fun r => decide (r.mode = .isOpen)) = Option.none := by
    simpa [StepSt.openStep] using none
  rw [StepSt.openStep, records, List.find?_append, closed]
  simp [h]

theorem StepSt.marked_modes (x : StepSt) (step : W64) (cause : Nat) :
    (x.marked step cause).records.map (fun r => (r.step, r.mode)) = x.records.map (fun r => (r.step, r.mode)) := by
  rw [StepSt.marked, List.map_map]
  congr 1
  funext r
  unfold StepRec.withMark
  dsimp only [Function.comp]
  (repeat' split) <;> rfl

section
variable (s : State) (st : Nat) (p : List Byte)

/-- The stand's steps with a new one open. -/
def State.stepsBegun : StepSt :=
  let r := s.newRecord st p
  let x := (s.stand st).steps
  { x with
    records := x.records ++ [r], next := r.step + 1, nextValid := true, opened := x.opened + 1
    last := some (r.rseed, r.dseed, r.step), gov := r.gov
    halted := x.halted && !resyncOf p
    expelled := x.expelled && !resyncOf p
    expellers := if resyncOf p then [] else x.expellers }

/-- The stand as a step opens, before a monitor's mark. -/
def State.begun : StandSt :=
  { s.stand st with
    steps := s.stepsBegun st p
    rst := { (s.stand st).rst with masked := (s.stand st).rst.masked && (s.stepsBegun st p).halted } }

/-- A step opens, and the counters; where a monitor of the stand's dies asks for it, the step is marked. -/
theorem State.stepBegin_eq : ∃ t : State, t.stand st = s.begun st p ∧ s.onlyStand t st ∧ s.stepBegin st p =
    if (t.standDies st).any t.dieMarks then (t.mark st (some (stepOf p)) 8).countStand st cIntMonitorMark else t := by
  unfold State.stepBegin
  extract_lets r x _ y _ begun counted t
  have stand : begun.stand st = s.begun st p := s.setStand_stand_same st _
  have kept : s.onlyStand begun st := s.setStand_onlyStand st _
  have sameStand : t.stand st = begun.stand st := by
    dsimp only [t, counted]
    (repeat' split) <;> simp only [State.countStand_stand, State.count_stand]
  have sameUnits : begun.onlyStand t st := by
    have first : begun.onlyStand counted st := (begun.count_onlyStand st _ 1).trans (State.count_onlyStand _ st _ _)
    dsimp only [t]
    (repeat' split)
    · exact first.trans (counted.count_onlyStand st _ 1)
    · exact first.trans (counted.count_onlyStand st _ 1)
    · exact first
  refine ⟨t, sameStand.trans stand, kept.trans sameUnits, ?_⟩
  clear_value t
  rfl

theorem State.stepBegin_stand : ∃ y : StepSt, (y = s.stepsBegun st p ∨ y = (s.stepsBegun st p).marked (stepOf p) 8) ∧
    (s.stepBegin st p).stand st = { s.begun st p with steps := y } := by
  obtain ⟨t, stand, -, e⟩ := s.stepBegin_eq st p
  rw [e]
  split
  · refine ⟨_, .inr rfl, ?_⟩
    simp only [State.mark, State.countStand_stand, State.count_stand, State.setStand_stand_same, stand]
    rfl
  · exact ⟨_, .inl rfl, stand⟩

theorem State.stepBegin_onlyStand : s.onlyStand (s.stepBegin st p) st := by
  obtain ⟨t, -, kept, e⟩ := s.stepBegin_eq st p
  rw [e]
  split
  · exact kept.trans (State.setStand_onlyStand t st _)
  · exact kept

/-- The new step is the OPEN one, with its seeds and number. -/
theorem State.stepBegin_opens (none : (s.stand st).steps.openStep = none) :
    ((s.stepBegin st p).stand st).steps.openStep = some (stepOf p) ∧ ((s.stepBegin st p).stand st).steps.next = stepOf p + 1 ∧
      ((s.stepBegin st p).stand st).steps.nextValid = true ∧
      ((s.stepBegin st p).stand st).steps.opened = (s.stand st).steps.opened + 1 ∧
      ((s.stepBegin st p).stand st).steps.last =
        some (BitVec.ofNat 64 (fld p 32 8), BitVec.ofNat 64 (fld p 40 8), stepOf p) ∧
      ((s.stepBegin st p).stand st).steps.records.length = (s.stand st).steps.records.length + 1 := by
  have opened : (s.stepsBegun st p).openStep = some (stepOf p) :=
    openStep_append (r := s.newRecord st p) none rfl rfl
  have longer : (s.stepsBegun st p).records.length = (s.stand st).steps.records.length + 1 := List.length_append
  obtain ⟨y, hy, e⟩ := s.stepBegin_stand st p
  rw [e]
  rcases hy with rfl | rfl
  · exact ⟨opened, rfl, rfl, rfl, rfl, longer⟩
  · exact ⟨(StepSt.openStep_congr (StepSt.marked_modes _ _ _)).trans opened, rfl, rfl, rfl, rfl, (List.length_map _).trans longer⟩

end

/-! ### STEP_END takes effect (spec/12 R303) -/

/-- A record whose step a STEP_END has closed. -/
def StepRec.closedBy (r : StepRec) (ticket : Nat) : StepRec := { r with mode := .closed, endTicket := some ticket }

theorem StepSt.openStep_none_iff (x : StepSt) : x.openStep = none ↔ ∀ r ∈ x.records, r.mode ≠ .isOpen := by
  simp [StepSt.openStep]

/-- After steps became APPLIED a record is one of those, or one that was there and is not over. -/
theorem State.applySteps_mem {s : State} {st : Nat} {q : StepRec} (h : q ∈ ((s.applySteps st).stand st).steps.records) :
    (∃ r ∈ (s.stand st).steps.records, q = r.appliedAt s.clock.now) ∨
      q ∈ (s.stand st).steps.records ∧ (s.stand st).stepOver q = false := by
  rw [State.applySteps_eq, State.foldl_applyStep_records] at h
  obtain ⟨r, hr, rfl⟩ := List.mem_map.mp h
  split
  · exact .inl ⟨r, hr, rfl⟩
  · next still =>
    refine .inr ⟨hr, Bool.eq_false_of_not_eq_true fun past => still ⟨r, List.mem_filter.mpr ⟨hr, past⟩, rfl⟩⟩

section
variable {u : State} {st tkt : Nat} {w : W64} (opened : (u.stand st).steps.openStep = some w)
include opened

theorem State.stepEnd_eq : u.stepEnd st tkt = (u.onRec st w fun r => r.closedBy tkt).applySteps st := by
  rw [State.stepEnd, opened]
  rfl

/-- After a STEP_END every record is APPLIED or one that it found, closed where it is of the OPEN step. -/
theorem State.stepEnd_mem {q : StepRec} (h : q ∈ ((u.stepEnd st tkt).stand st).steps.records) :
    q.mode = .applied ∨ (∃ r ∈ (u.stand st).steps.records, q = if r.step = w then r.closedBy tkt else r) ∧
      ((u.onRec st w fun r => r.closedBy tkt).stand st).stepOver q = false := by
  rw [State.stepEnd_eq opened] at h
  rcases State.applySteps_mem h with ⟨r, -, rfl⟩ | ⟨found, notOver⟩
  · exact .inl rfl
  · rw [State.onRec_records] at found
    obtain ⟨r, hr, rfl⟩ := List.mem_map.mp found
    exact .inr ⟨⟨r, hr, rfl⟩, notOver⟩

/-- The OPEN step is closed; where no other step is OPEN, none is then. -/
theorem State.stepEnd_closes (one : ∀ a b, a ∈ (u.stand st).steps.records → b ∈ (u.stand st).steps.records → a.mode = .isOpen →
    b.mode = .isOpen → a.step = b.step) :
    ((u.stepEnd st tkt).stand st).steps.openStep = none := by
  obtain ⟨r, hr, rfl⟩ : ∃ r, (u.stand st).steps.records.find? (fun r => decide (r.mode = .isOpen)) = some r ∧ r.step = w := by
    simpa [StepSt.openStep] using opened
  have rOpen : r.mode = .isOpen := by simpa using List.find?_some hr
  rw [StepSt.openStep_none_iff]
  intro q hq qOpen
  rcases State.stepEnd_mem opened hq with applied | ⟨⟨a, ha, rfl⟩, -⟩
  · rw [applied] at qOpen; cases qOpen
  · split at qOpen
    · cases qOpen
    · next other => exact other (one a r ha (List.mem_of_find?_eq_some hr) qOpen rOpen)

omit opened in
/-- A step closed by STEP_END is over where no command of it is left in flight and none is to be replayed. -/
theorem State.closed_over {r : StepRec} (own : r.step = w) (idle : ∀ d ∈ (u.stand st).inflight, d.step ≠ some w)
    (replayed : (u.stand st).steps.replaying w = false) :
    ((u.onRec st w fun r => r.closedBy tkt).stand st).stepOver (r.closedBy tkt) = true := by
  have stepped : (r.closedBy tkt).step = w := own
  have still : ((u.stand st).steps.onRec w fun r => r.closedBy tkt).replaying w = false := replayed
  rw [State.onRec_stand, StandSt.stepOver, stepped]
  simp only [still, Bool.not_false, Bool.and_true]
  simpa [StepRec.closedBy] using idle

theorem State.stepEnd_onlyStand : u.onlyStand (u.stepEnd st tkt) st := by
  rw [State.stepEnd_eq opened, State.applySteps_eq]
  exact (u.onRec_onlyStand st w _).trans (State.foldl_applyStep_onlyStand _ st _ _)

theorem State.stepEnd_settledTo : (u.stand st).settledTo ((u.stepEnd st tkt).stand st) := by
  rw [State.stepEnd_eq opened, State.applySteps_eq]
  exact (u.onRec_settledTo st w _).trans (State.foldl_applyStep_settledTo _ st _ _)

/-- Where no command of the step is left in flight and none is to be replayed, the step is APPLIED at once. -/
theorem State.stepEnd_applies (idle : ∀ d ∈ (u.stand st).inflight, d.step ≠ some w) (replayed : (u.stand st).steps.replaying w = false) :
    ∀ r ∈ ((u.stepEnd st tkt).stand st).steps.records, r.step = w → r.mode = .applied := by
  intro q hq own
  rcases State.stepEnd_mem opened hq with applied | ⟨⟨a, ha, rfl⟩, waits⟩
  · exact applied
  · split at own
    · next aw =>
      rw [if_pos aw, State.closed_over aw idle replayed] at waits
      cases waits
    · next other => exact absurd own other

/-- The STEP_END of the step that is over completes into its slot. -/
theorem State.stepEnd_slot {d : Cmd} {n : Nat} {before after : Slot} (into : (u.stand st).endsInto d n before after)
    (ticket : d.ticket = tkt) (fresh : d.replay = false) (none : d.statuses = []) (slot : d.slot = some n) (other : d.opcode ≠ 0x51)
    (result : after = if d.rpt then before.write d.seq 0 d.context d.opcode (timed d.tStart u.clock.now [])
      else { before with st := .free })
    (idle : ∀ d ∈ (u.stand st).inflight, d.step ≠ some w) (replayed : (u.stand st).steps.replaying w = false) :
    ((u.stepEnd st tkt).stand st).slot n = after := by
  obtain ⟨r, hr, own⟩ : ∃ r, (u.stand st).steps.records.find? (fun r => decide (r.mode = .isOpen)) = some r ∧ r.step = w := by
    simpa [StepSt.openStep] using opened
  have isOver := State.closed_over (r := r) (tkt := tkt) own idle replayed
  rw [State.stepEnd_eq opened, State.applySteps_eq]
  refine State.foldl_applyStep_slot (State.onRec_endsInto into w _) rfl _ fresh none slot other result (.inr ⟨r.closedBy tkt, ?_, ?_⟩)
  · rw [List.mem_filter, State.onRec_records]
    exact ⟨List.mem_map.mpr ⟨r, List.mem_of_find?_eq_some hr, if_pos own⟩, isOver⟩
  · rw [ticket]; rfl

end

/-- A command put in flight behind others, none of which has its ticket or its slot, ends into its slot. -/
theorem State.endsInto_of_last {x : StandSt} {cs : List Cmd} {d : Cmd} {n : Nat} {before : Slot} (after : Slot) (inflight : x.inflight = cs ++ [d])
    (apart : ∀ c ∈ cs, c.ticket ≠ d.ticket ∧ c.slot ≠ some n) (slot : x.slot n = before) : x.endsInto d n before after := by
  refine ⟨fun c hc held => ?_, .inl ⟨?_, slot⟩⟩
  · rw [inflight] at hc
    rcases List.mem_append.mp hc with old | new
    · exact absurd held (apart c old).2
    · rw [List.mem_singleton.mp new]
  · have unused : cs.find? (fun c => decide (c.ticket = d.ticket)) = none := List.find?_eq_none.mpr fun c hc => by simp [(apart c hc).1]
    rw [StandSt.cmd, inflight, List.find?_append, unused]
    simp

/-- Settles O26: an issued STEP_BEGIN is `State.stepBegin` and its completion; an issued STEP_END closes the OPEN step, and completes with
the steps that are over. -/
theorem stepsOpenAndClose : Obligations.StepsOpenAndClose := by
  unfold Obligations.StepsOpenAndClose
  refine ⟨?opens, ?closes⟩
  case opens =>
    intro s st n p ps hp hi ho hc ready hn
    refine ⟨_, exec_stepBegin_issues hi hc hn ho ready, ?_⟩
    obtain ⟨unlogged, none⟩ := State.stepBegin_passes ho hc
    have steps := s.issue_steps st p (some n) unlogged
    have clock := s.issue_clock st p (some n)
    set i := s.issue st p (some n) with issued
    obtain ⟨others, units⟩ := ((s.issue_onlyStand st p (some n)).trans (i.1.stepBegin_onlyStand st p.bytes)).trans
      (State.finish_onlyStand _ st i.2 (timed i.1.clock.now i.1.clock.now []))
    obtain ⟨opened, next, valid, count, last, longer⟩ := i.1.stepBegin_opens st p.bytes (by rw [steps]; exact none)
    obtain ⟨y, -, stand⟩ := i.1.stepBegin_stand st p.bytes
    have opcode : i.2.opcode = 0x40 := ho
    rw [State.finish_stand _ st i.2 _ rfl rfl, StandSt.finished_chute, StandSt.finished_steps, StandSt.finished_slot_done _ _ rfl rfl
      (by rw [opcode]; decide)]
    rw [steps] at count longer
    have slot : ((i.1.stepBegin st p.bytes).stand st).slot n = { (s.stand st).slot n with st := .reserved } := by
      rw [← s.issue_slot_same st p n, stand]; rfl
    refine ⟨?_, opened, next, valid, count, last, longer, ?_, others, units⟩
    · rw [stand]; exact s.issue_packets st p _ hp
    · rw [slot, clock, opcode]; rfl
  case closes =>
    intro s st n w p ps hp hi ho hc hn opened one apart
    refine ⟨_, exec_stepEnd_issues hi hc hn ho, ?_⟩
    have unlogged := State.stepEnd_passes ho hc
    have steps := s.issue_steps st p (some n) unlogged
    have clock := s.issue_clock st p (some n)
    have inflight := s.issue_inflight st p (some n)
    have slot := s.issue_slot_same st p n
    have packets := s.issue_packets st p (some n) hp
    have kept := s.issue_onlyStand st p (some n)
    dsimp only
    set t := (s.issue st p (some n)).1
    obtain ⟨d, hd⟩ : ∃ d, d = (s.stand st).stepEndCmd p n t.clock.now := ⟨_, rfl⟩
    rw [← hd]
    obtain ⟨u, hu⟩ : ∃ u, u = t.setStand st { t.stand st with inflight := (t.stand st).inflight ++ [d] } := ⟨_, rfl⟩
    have stand : u.stand st = { t.stand st with inflight := (t.stand st).inflight ++ [d] } := by rw [hu]; exact t.setStand_stand_same st _
    rw [← hu]
    have uSteps : (u.stand st).steps = (s.stand st).steps := by rw [stand]; exact steps
    have uInflight : (u.stand st).inflight = (s.stand st).inflight ++ [d] := by rw [stand, ← inflight]
    have uKept : s.onlyStand u st := hu ▸ kept.trans (State.setStand_onlyStand t st _)
    rw [← uSteps] at opened one
    have dTicket : d.ticket = (s.stand st).nextTicket := by rw [hd]; rfl
    have dSlot : d.slot = some n := by rw [hd]; rfl
    obtain ⟨others, units⟩ := uKept.trans (State.stepEnd_onlyStand (tkt := (s.stand st).nextTicket) opened)
    have rest := (State.stepEnd_settledTo (tkt := (s.stand st).nextTicket) opened).rest
    refine ⟨?_, State.stepEnd_closes opened one, ?_, fun idle replayed => ?_, units.1.1, others⟩
    · rw [rest, stand]; exact packets
    · exact fun r hr _ => (StepSt.openStep_none_iff _).mp (State.stepEnd_closes opened one) r hr
    · have control : d.step = none := by simp [hd, StandSt.stepEndCmd, StandSt.newCmd, stepControl, ho]
      have uIdle : ∀ c ∈ (u.stand st).inflight, c.step ≠ some w := by
        rw [uInflight]
        intro c hc
        rcases List.mem_append.mp hc with old | new
        · exact idle c old
        · rw [List.mem_singleton.mp new, control]; simp
      have uReplayed : (u.stand st).steps.replaying w = false := uSteps ▸ replayed
      have into (after : Slot) : (u.stand st).endsInto d n { (s.stand st).slot n with st := .reserved } after :=
        State.endsInto_of_last after uInflight (fun c hc => dTicket ▸ apart c hc) (by rw [stand]; exact slot)
      have uClock : u.clock = s.clock := by rw [hu]; exact clock
      have result : ((u.stepEnd st (s.stand st).nextTicket).stand st).slot n = _ :=
        State.stepEnd_slot opened (into _) dTicket (by rw [hd]; rfl) (by rw [hd]; rfl) dSlot
          (by rw [hd]; exact fun e => absurd (ho.symm.trans e) (by decide)) rfl uIdle uReplayed
      refine ⟨State.stepEnd_applies opened uIdle uReplayed, result.trans ?_⟩
      have fields : d.rpt = bit (fld p.bytes 1 1) 3 ∧ d.seq = BitVec.ofNat 32 (fld p.bytes 8 4) ∧ d.context = bits (fld p.bytes 4 1) 3 0 ∧
          d.opcode = 0x41 ∧ d.tStart = s.clock.now := by
        rw [hd, ← clock]; exact ⟨rfl, rfl, rfl, ho, rfl⟩
      obtain ⟨rpt, seq, context, opcode, start⟩ := fields
      rw [rpt, seq, context, opcode, start, uClock]
      rfl

end Sys2Proof.Machine
end

section
/-! What a stand sends (spec/10 R265, R266, R273), and the fence of a device (spec/12 R325): what changes of the stand, and what stays. -/

namespace Sys2Proof.Machine

/-! ### What sending changes -/

/-- `y` is the stand `x` but for its reductions, PERMUTEs, ledger, recovery window and requests. -/
def StandSt.sent (x y : StandSt) : Prop :=
  y = { x with colls := y.colls, perms := y.perms, ledger := y.ledger, recovery := y.recovery, reqs := y.reqs, nextTag := y.nextTag
               held := y.held }

theorem StandSt.sent.trans {x y z : StandSt} (h : x.sent y) (k : y.sent z) : x.sent z := by
  unfold StandSt.sent at h k ⊢
  rw [h] at k
  exact k

/-- The counters of a stand and of the module that requests, and late entries dropped, count. -/
def sendCounters : List Nat := [cCskNoRoute, cCskFenceOut, cCskUnreachable, cTrsDropped]

/-- From `s` to `t` stand `st` has sent requests: no memory, other stand, fence or configuration changes, and no counter but theirs. -/
structure State.sends (s t : State) (st : Nat) : Prop where
  stand : (s.stand st).sent (t.stand st)
  others : s.standOnly t st
  memory : s.memoryKept t
  clock : t.clock = s.clock
  frame : t.frame = s.frame
  fences : t.fabric.fences = s.fabric.fences
  nextTag : t.fabric.nextTag = s.fabric.nextTag
  modes : ∀ q, (t.port q).mode = (s.port q).mode
  counters : ∀ k, k % 512 ∉ sendCounters → t.counters.get k = s.counters.get k

section
variable {s t u : State} {st : Nat}

theorem State.sends.refl (s : State) (st : Nat) : s.sends s st :=
  ⟨rfl, fun _ _ => rfl, ⟨rfl, rfl, rfl⟩, rfl, rfl, rfl, rfl, fun _ => rfl, fun _ _ => rfl⟩

theorem State.sends.trans (h : s.sends t st) (k : t.sends u st) : s.sends u st :=
  ⟨h.stand.trans k.stand, h.others.trans k.others, h.memory.trans k.memory, k.clock.trans h.clock, k.frame.trans h.frame,
    k.fences.trans h.fences, k.nextTag.trans h.nextTag, fun q => (k.modes q).trans (h.modes q),
    fun c hc => (k.counters c hc).trans (h.counters c hc)⟩

theorem State.foldl_sends {α : Type} {f : State → α → State} (s : State) (h : ∀ (u : State) a, u.sends (f u a) st) (l : List α) :
    s.sends (l.foldl f s) st := by
  induction l generalizing s with
  | nil => exact State.sends.refl s st
  | cons a l ih => exact (h s a).trans (ih (f s a))

theorem State.sends.steps (h : s.sends t st) : (t.stand st).steps = (s.stand st).steps := by rw [h.stand]
theorem State.sends.peers (h : s.sends t st) : (t.stand st).peers = (s.stand st).peers := by rw [h.stand]
theorem State.sends.inflight (h : s.sends t st) : (t.stand st).inflight = (s.stand st).inflight := by rw [h.stand]
theorem State.sends.outputs (h : s.sends t st) : (t.stand st).outputs = (s.stand st).outputs := by rw [h.stand]; rfl
theorem State.sends.comp (h : s.sends t st) : t.comp = s.comp := h.memory.2.1
theorem State.sends.quiet (h : s.sends t st) : s.quiet t st := ⟨h.others, h.comp, h.inflight, h.outputs⟩

theorem State.sends.fenced (h : s.sends t st) (j : Nat) (d : W16) : t.fenced j d = s.fenced j d := by
  rw [State.fenced, h.fences]; rfl

/-- Routes stay. -/
theorem State.sends.routeTo (h : s.sends t st) (d : W16) : t.routeTo d = s.routeTo d := by
  have img : t.img = s.img := img_of_frame h.frame
  have up (e : Nat) : t.egressUp e = s.egressUp e := by
    simp only [State.egressUp, State.bondUp, State.bondCfg, PortSt.up, h.modes, img]
  simp only [State.routeTo, up, img]

theorem State.setStand_sends {x : StandSt} (h : (s.stand st).sent x) : s.sends (s.setStand st x) st :=
  ⟨by rw [s.setStand_stand_same]; exact h, fun _ hk => s.setStand_stand_ne hk x, s.setStand_memoryKept st x, rfl, rfl, rfl, rfl,
    fun _ => rfl, fun _ _ => rfl⟩

end

section
variable (s : State) (st : Nat)

theorem State.count_sends {k : Nat} (n : Nat) (h : k % 512 ∈ sendCounters) : s.sends (s.count k n) st :=
  ⟨rfl, fun _ _ => rfl, ⟨rfl, rfl, rfl⟩, rfl, rfl, rfl, rfl, fun _ => rfl, fun j hj => Counters.get_add_ne _ (fun e : k = j => hj (e ▸ h)) n⟩

theorem State.countStand_sends {c : Nat} (h : c % 512 ∈ sendCounters) : s.sends (s.countStand st c) st :=
  s.count_sends st 1 (by rwa [kStand, Nat.mul_add_mod])

theorem State.countNoRoute_sends : s.sends (s.countModule cCskNoRoute) st := s.count_sends st 1 (by decide)

theorem State.setPort_sends (p : Nat) (x : PortSt) (h : x.mode = (s.port p).mode) : s.sends (s.setPort p x) st := by
  refine ⟨rfl, fun _ _ => rfl, ⟨rfl, rfl, rfl⟩, rfl, rfl, rfl, rfl, fun q => ?_, fun _ _ => rfl⟩
  by_cases here : q = p
  · subst here; rw [State.port_setPort_same, h]
  · rw [State.port_setPort_ne _ _ _ here]

theorem State.emit_sends (e vc part : Nat) (t : Txn) (owner : Nat × Nat) : s.sends (s.emit e vc part t owner) st := by
  unfold State.emit
  split
  · exact s.setPort_sends st _ _ rfl
  · exact s.setPort_sends st _ _ rfl

theorem State.sendReq_sends (e : Nat) (h : HeldReq) : s.sends (s.sendReq st e h) st :=
  (State.setStand_sends (by rfl)).trans (State.emit_sends _ st _ _ _ _ _)

theorem State.ask_sends (h : HeldReq) : s.sends (s.ask st h).1 st := by
  unfold State.ask
  split
  · exact s.countStand_sends st (by decide)
  · split
    · exact (s.countNoRoute_sends st).trans (State.countStand_sends _ st (by decide))
    · dsimp only
      split
      · exact State.setStand_sends (by rfl)
      · exact s.sendReq_sends st _ h

theorem State.request_sends (ttype : Nat) (dst : W16) (dstand addr : Nat) (meta_ payload : List Byte) (coll : Bool) (what : ReqFor) :
    s.sends (s.request st ttype dst dstand addr meta_ payload coll what).1 st := s.ask_sends st _

theorem State.sendOnly_sends (ttype : Nat) (dst : W16) (payload : List Byte) : s.sends (s.sendOnly ttype dst payload) st := by
  unfold State.sendOnly
  split
  · exact s.countNoRoute_sends st
  · exact s.emit_sends st _ _ _ _ _

theorem State.respond_sends (q : Txn) (status : Nat) (payload : List Byte) : s.sends (s.respond q status payload) st := by
  unfold State.respond State.respondWith
  split
  · exact s.countNoRoute_sends st
  · exact s.emit_sends st _ _ _ _ _

theorem State.freeFlits_sends (vc : Nat) (rs : List (Nat × Nat)) : s.sends (s.freeFlits vc rs) st := by
  refine State.foldl_sends s (fun u r => ?_) rs
  split
  · exact State.sends.refl u st
  · exact u.setPort_sends st _ _ rfl

/-- What a port has received leaves it; no stand is concerned. -/
theorem State.takeRx_sends {s t : State} {p : Nat} {x : Txn} (h : s.takeRx p x = some t) (st : Nat) : s.sends t st := by
  obtain ⟨y, -, rfl⟩ := Option.map_eq_some_iff.mp h
  exact (s.setPort_sends st p { s.port p with rxq := (s.port p).rxq.erase y } rfl).trans (State.freeFlits_sends _ st _ _)

theorem State.takeRequest_sends {s t : State} {p ttype : Nat} {x : Txn} (h : s.takeRequest p x ttype = some t) (st : Nat) :
    s.sends t st := by
  unfold State.takeRequest at h
  split at h
  · exact State.takeRx_sends h st
  · cases h

theorem State.takeLink_sends {s t : State} {p ttype : Nat} {x : Txn} {rsp : Bool} (h : s.takeLink p x ttype rsp = some t) (st : Nat) :
    s.sends t st := by
  unfold State.takeLink at h
  split at h
  · exact State.takeRx_sends h st
  · cases h

/-! ### What a fence sends -/

theorem State.settleDropped_sends (p : LateEntry → Bool) : s.sends (s.settle st p .dropped) st := by
  have dropped : (kStand st cTrsDropped) % 512 ∈ sendCounters := by rw [kStand, Nat.mul_add_mod]; decide
  exact (State.setStand_sends (by rfl)).trans (State.count_sends _ st _ dropped)

theorem State.keepUnsent_sends (tkt k owner : Nat) : s.sends (s.keepUnsent st tkt k owner) st := by
  unfold State.keepUnsent
  split
  · exact State.setStand_sends (by rfl)
  · exact State.sends.refl s st

theorem State.askColl_sends (ttype : Nat) (y : Coll) (dev : W16) (ds addr k r : Nat) (meta_ payload : List Byte) :
    s.sends (s.askColl st ttype y dev ds addr k r meta_ payload).1 st := s.ask_sends st _

theorem State.sendContrib_sends (y : Coll) (my k owner : Nat) : s.sends (s.sendContrib st y my k owner) st := by
  unfold State.sendContrib
  dsimp only
  split
  · exact State.sends.refl s st
  · next dev ds _ =>
    refine State.foldl_sends s (fun u p => ?_) _
    have asked (m payload : List Byte) := u.askColl_sends st 3 y dev ds (4096 * p.2) k owner m payload
    split
    · next v h =>
      exact ((congrArg Prod.fst h).subst (motive := (u.sends · st)) (asked _ _)).trans (v.keepUnsent_sends st y.ticket k owner)
    · next v _ _ h => exact (congrArg Prod.fst h).subst (motive := (u.sends · st)) (asked _ _)

theorem State.resend_sends (before : State) (y : Coll) : s.sends (State.resend before s st y) st := by
  unfold State.resend
  dsimp only
  split
  · exact State.sends.refl s st
  · refine State.foldl_sends s (fun u k => ?_) _
    (repeat' split)
    · exact State.sends.refl u st
    · exact u.sendContrib_sends st y _ k _
    · exact State.sends.refl u st

theorem State.sendFence_sends (m named : W16 × Nat) : s.sends (s.sendFence st m named) st := s.request_sends st _ _ _ _ _ _ _ _

theorem State.relayFence_sends (m : Nat) (d : W16) : s.sends (s.relayFence st m d) st := by
  refine State.foldl_sends s (fun u x => ?_) _
  split
  · exact State.sends.refl u st
  · exact u.sendFence_sends st _ _

theorem State.sendCommit_sends (j : CommitSt) : s.sends (s.sendCommit st j) st := by
  refine State.foldl_sends s (fun u r => ?_) _
  (repeat' split)
  · exact State.sends.refl u st
  · exact u.request_sends st _ _ _ _ _ _ _ _
  · exact State.sends.refl u st

end

/-! ### A peer's entry -/

/-- Only the stand's list of peers changes, if anything does. -/
theorem State.setPeer_eq (s : State) (st : Nat) (d : W16) (f : Peer → Peer) :
    s.setPeer st d f = s ∨ ∃ ps, s.setPeer st d f = s.setStand st { s.stand st with peers := ps } := by
  unfold State.setPeer
  dsimp only
  (repeat' split)
  · exact .inr ⟨_, rfl⟩
  · exact .inr ⟨_, rfl⟩
  · exact .inl rfl

section
variable {s : State} {st : Nat} {d : W16} {f : Peer → Peer}

theorem State.setPeer_onlyStand : s.onlyStand (s.setPeer st d f) st := by
  rcases s.setPeer_eq st d f with e | ⟨ps, e⟩ <;> rw [e]
  · exact State.onlyStand.refl s st
  · exact State.setStand_onlyStand s st _

theorem State.setPeer_counters : (s.setPeer st d f).counters = s.counters := by
  rcases s.setPeer_eq st d f with e | ⟨ps, e⟩ <;> rw [e]
  rfl

theorem State.setPeer_stand : (s.setPeer st d f).stand st = { s.stand st with peers := ((s.setPeer st d f).stand st).peers } := by
  rcases s.setPeer_eq st d f with e | ⟨ps, e⟩ <;> rw [e]
  rw [s.setStand_stand_same]

/-- An entry that is there takes the change. -/
theorem State.setPeer_peer {p : Peer} (h : (s.stand st).peer d = some p) (keeps : ∀ q : Peer, (f q).device = q.device) :
    ((s.setPeer st d f).stand st).peer d = some (f p) := by
  have own : p.device = d := by simpa using List.find?_some h
  have watched : (s.stand st).peers.any (fun p => decide (p.device = d)) = true :=
    List.any_eq_true.mpr ⟨p, List.mem_of_find?_eq_some h, by simpa using own⟩
  have first : (fun q : Peer => decide (q.device = d)) ∘ (fun q => if q.device = d then f q else q) = fun q => decide (q.device = d) := by
    funext q
    by_cases hq : q.device = d <;> simp [hq, keeps]
  have found : (s.stand st).peers.find? (fun q => decide (q.device = d)) = some p := h
  rw [State.setPeer]
  simp only [watched, if_true]
  rw [s.setStand_stand_same, StandSt.peer, List.find?_map, first, found]
  simp [own]

/-- A device that is watched, or for which there is room, has an entry then. -/
theorem State.setPeer_enters (room : (s.stand st).peers.any (fun p => decide (p.device = d)) = true ∨ (s.stand st).peers.length < 256)
    (keeps : ∀ q : Peer, (f q).device = q.device) : ∃ p, ((s.setPeer st d f).stand st).peer d = some (f p) := by
  by_cases watched : (s.stand st).peers.any (fun p => decide (p.device = d)) = true
  · obtain ⟨p, hp⟩ : ∃ p, (s.stand st).peer d = some p := by
      obtain ⟨q, hq, own⟩ := List.any_eq_true.mp watched
      exact Option.isSome_iff_exists.mp (List.find?_isSome.mpr ⟨q, hq, own⟩)
    exact ⟨p, State.setPeer_peer hp keeps⟩
  · have fits : (s.stand st).peers.length < 256 := room.resolve_left watched
    have unwatched : (s.stand st).peers.find? (fun q => decide (q.device = d)) = none :=
      List.find?_eq_none.mpr fun q hq own => watched (List.any_eq_true.mpr ⟨q, hq, own⟩)
    refine ⟨s.newPeer d, ?_⟩
    rw [State.setPeer]
    simp only [watched, fits, if_true, Bool.false_eq_true, if_false]
    have own : (f (s.newPeer d)).device = d := (keeps _).trans rfl
    rw [s.setStand_stand_same, StandSt.peer, List.find?_append, unwatched]
    simp [own]

end

/-! ### The fence of a device -/

/-- The state with the fence's bit set and the peer's entry fenced, before anything that follows from it. -/
def State.barred (s : State) (st : Nat) (d : W16) (source : Nat) : State :=
  (s.setFabric { s.fabric with fences := (st, d) :: s.fabric.fences }).setPeer st d
    (fun p => { p with state := .fenced, source := source, saplingLeft := 0 })

section
variable {s : State} {st : Nat} {d : W16} {source : Nat}

theorem State.barred_stand : (s.barred st d source).stand st = { s.stand st with peers := ((s.barred st d source).stand st).peers } :=
  State.setPeer_stand

theorem State.barred_others : s.standOnly (s.barred st d source) st := State.setPeer_onlyStand.1

theorem State.barred_memory : s.memoryKept (s.barred st d source) := State.setPeer_onlyStand.2.1

theorem State.barred_fabric : (s.barred st d source).fabric = { s.fabric with fences := (st, d) :: s.fabric.fences } :=
  State.setPeer_onlyStand.2.2.1

theorem State.barred_counters : (s.barred st d source).counters = s.counters := State.setPeer_counters

theorem State.barred_peer {p : Peer} (h : (s.stand st).peer d = some p) :
    ((s.barred st d source).stand st).peer d = some { p with state := .fenced, source := source, saplingLeft := 0 } :=
  State.setPeer_peer (s := s.setFabric _) h fun _ => rfl

/-- What follows from a fence is what the stand sends. -/
theorem State.fenceDev_sends (open_ : s.fenced st d = false) : (s.barred st d source).sends (s.fenceDev st d source) st := by
  unfold State.fenceDev
  simp only [open_, Bool.false_eq_true, if_false]
  refine (State.settleDropped_sends (s.barred st d source) st _).trans (State.sends.trans (State.setStand_sends (by rfl))
    (State.foldl_sends _ (fun u y => ?_) _))
  split
  · exact u.resend_sends st s y
  · exact State.sends.refl u st

theorem State.fenceDev_of_fenced (h : s.fenced st d = true) : s.fenceDev st d source = s := by simp [State.fenceDev, h]

end

section
variable (s : State) (st : Nat) (d : W16) (source : Nat)

theorem State.fenceDev_fences : (s.fenceDev st d source).fabric.fences =
    if s.fenced st d then s.fabric.fences else (st, d) :: s.fabric.fences := by
  split
  · next h => rw [State.fenceDev_of_fenced h]
  · next h => rw [(State.fenceDev_sends (Bool.eq_false_of_not_eq_true h)).fences, State.barred_fabric]

theorem State.fenceDev_fenced : (s.fenceDev st d source).fenced st d = true := by
  rw [State.fenced, State.fenceDev_fences]
  split
  · assumption
  · simp

theorem State.fenceDev_memoryKept : s.memoryKept (s.fenceDev st d source) := by
  by_cases h : s.fenced st d
  · rw [State.fenceDev_of_fenced h]; exact ⟨rfl, rfl, rfl⟩
  · exact State.barred_memory.trans (State.fenceDev_sends (Bool.eq_false_of_not_eq_true h)).memory

theorem State.fenceDev_others : s.standOnly (s.fenceDev st d source) st := by
  by_cases h : s.fenced st d
  · rw [State.fenceDev_of_fenced h]; exact fun _ _ => rfl
  · exact State.barred_others.trans (State.fenceDev_sends (Bool.eq_false_of_not_eq_true h)).others

theorem State.fenceDev_counters {k : Nat} (h : k % 512 ∉ sendCounters) :
    (s.fenceDev st d source).counters.get k = s.counters.get k := by
  by_cases barred : s.fenced st d
  · rw [State.fenceDev_of_fenced barred]
  · rw [(State.fenceDev_sends (Bool.eq_false_of_not_eq_true barred)).counters k h, State.barred_counters]

/-- Of the stand a fence changes the peers and what sending changes. -/
theorem State.fenceDev_stand : ({ s.stand st with peers := ((s.fenceDev st d source).stand st).peers } : StandSt).sent
    ((s.fenceDev st d source).stand st) := by
  by_cases barred : s.fenced st d
  · rw [State.fenceDev_of_fenced barred]; rfl
  · have sent := State.fenceDev_sends (source := source) (Bool.eq_false_of_not_eq_true barred)
    rw [sent.peers, ← State.barred_stand]
    exact sent.stand

theorem State.fenceDev_steps : ((s.fenceDev st d source).stand st).steps = (s.stand st).steps := by rw [State.fenceDev_stand]
theorem State.fenceDev_inflight : ((s.fenceDev st d source).stand st).inflight = (s.stand st).inflight := by rw [State.fenceDev_stand]
theorem State.fenceDev_outputs : ((s.fenceDev st d source).stand st).outputs = (s.stand st).outputs := by rw [State.fenceDev_stand]; rfl

theorem State.fenceDev_quiet : s.quiet (s.fenceDev st d source) st :=
  ⟨s.fenceDev_others st d source, (s.fenceDev_memoryKept st d source).2.1, s.fenceDev_inflight st d source, s.fenceDev_outputs st d source⟩

end

/-! ### Where no COMMIT is in hand there is nothing to decide -/

theorem State.commitNow_none {s : State} {st : Nat} (h : (s.stand st).steps.commits = []) : s.commitNow st = none := by
  rw [State.commitNow, h]

theorem State.tryDecide_none {s : State} {st : Nat} (h : (s.stand st).steps.commits = []) : s.tryDecide st = s := by
  rw [State.tryDecide, State.commitNow_none h]

end Sys2Proof.Machine
end

section
/-! Heartbeats and fences heard (spec/12 R323, R325, R326). -/

namespace Sys2Proof.Machine

/-! ### A heartbeat heard -/

/-- A watched device's entry once its heartbeat came, which names the stand's peer stand or does not. -/
def State.heardPeer (s : State) (on : Bool) (p : Peer) : Peer :=
  if !on then { p with named := false }
  else
    let gap : Rat := ((s.clock.now.toNat - p.lastNamed.toNat : Nat) : Rat) / 1000 - s.img.hbPeriodUs
    let sample := if gap < 0 then -gap else gap
    { p with
      named := true, lastNamed := s.clock.now, state := if p.state = .suspect then .live else p.state
      est := if p.named then p.est + (sample - p.est) / 8 else p.est
      samples := if p.named then min 32 (p.samples + 1) else p.samples }

/-- The stand once it has heard a device's heartbeat. -/
def State.heard (s : State) (st : Nat) (d : W16) (mask : Nat) : StandSt :=
  { s.stand st with peers := (s.stand st).peers.map fun p => if p.device ≠ d then p else s.heardPeer (bit mask (s.peerStand st d)) p }

section
variable {s t : State} {st : Nat} {d : W16} {mask : Nat}

theorem State.hear_eq : s.hear st d mask = s.setStand st (s.heard st d mask) := rfl

theorem State.peerStand_congr (stand : t.stand st = s.stand st) : t.peerStand st d = s.peerStand st d := by
  have tab (m : Nat) : t.mtab st m = s.mtab st m := by rw [State.mtab, stand]; rfl
  simp only [State.peerStand, State.tablesOf, tab]

theorem State.heard_congr (stand : t.stand st = s.stand st) (clock : t.clock = s.clock) (img : t.img = s.img) :
    t.heard st d mask = s.heard st d mask := by
  simp only [State.heard, State.heardPeer, stand, clock, img, State.peerStand_congr stand]

/-- Each stand hears a heartbeat by itself. -/
theorem State.foldl_hear_stand (l : List Nat) (once : l.Nodup) : (l.foldl (fun v k => v.hear k d mask) s).stand st =
    if st ∈ l then s.heard st d mask else s.stand st := by
  induction l generalizing s with
  | nil => rfl
  | cons k l ih =>
    obtain ⟨fresh, rest⟩ := List.nodup_cons.mp once
    rw [List.foldl_cons, ih rest, State.hear_eq]
    by_cases here : st = k
    · subst here
      simp [fresh, s.setStand_stand_same]
    · have still : (s.setStand k (s.heard k d mask)).stand st = s.stand st := s.setStand_stand_ne here _
      simp only [List.mem_cons, here, false_or, still]
      rw [State.heard_congr still rfl rfl]

theorem State.foldl_hear_kept (l : List Nat) : s.memoryKept (l.foldl (fun v k => v.hear k d mask) s) ∧
    (l.foldl (fun v k => v.hear k d mask) s).clock = s.clock := by
  induction l generalizing s with
  | nil => exact ⟨⟨rfl, rfl, rfl⟩, rfl⟩
  | cons k l ih =>
    obtain ⟨memory, clock⟩ := ih (s := s.hear k d mask)
    exact ⟨(s.setStand_memoryKept k _).trans memory, clock⟩

theorem State.heard_peers {i : Nat} {q : Peer} (h : (s.stand st).peers[i]? = some q) :
    (s.heard st d mask).peers[i]? = some (if q.device ≠ d then q else s.heardPeer (bit mask (s.peerStand st d)) q) := by
  rw [State.heard, List.getElem?_map, h]
  rfl

end

/-! ### Heartbeats sent -/

/-- One heartbeat sent to a device, under the module's next sequence number. -/
def State.beat (u : State) (d : W16) : State :=
  (u.sendOnly 6 d (u.heartbeat u.fabric.nextTag)).setFabric
    { (u.sendOnly 6 d (u.heartbeat u.fabric.nextTag)).fabric with nextTag := (u.fabric.nextTag + 1) % 4096 }

section
variable {s : State} {d : W16}

theorem State.sendOnly_stands (ttype : Nat) (payload : List Byte) : (s.sendOnly ttype d payload).stands = s.stands := by
  unfold State.sendOnly State.emit
  (repeat' split) <;> rfl

theorem State.foldl_beat (ds : List W16) : (ds.foldl State.beat s).stands = s.stands ∧ (ds.foldl State.beat s).clock = s.clock ∧
    s.memoryKept (ds.foldl State.beat s) ∧
    (s.fabric.nextTag < 4096 → (ds.foldl State.beat s).fabric.nextTag = (s.fabric.nextTag + ds.length) % 4096) := by
  induction ds generalizing s with
  | nil => exact ⟨rfl, rfl, ⟨rfl, rfl, rfl⟩, fun small => (Nat.mod_eq_of_lt small).symm⟩
  | cons d ds ih =>
    obtain ⟨stands, clock, memory, tag⟩ := ih (s := s.beat d)
    have sent := s.sendOnly_sends 0 6 d (s.heartbeat s.fabric.nextTag)
    refine ⟨stands.trans (State.sendOnly_stands _ _), clock.trans sent.clock, sent.memory.trans memory, fun _ => ?_⟩
    have next : (s.beat d).fabric.nextTag = (s.fabric.nextTag + 1) % 4096 := rfl
    rw [List.foldl_cons, tag (by rw [next]; omega), next, List.length_cons]
    omega

/-- A route leads to the device itself or to a port or a bond. -/
theorem State.routeTo_other {e : Nat} (h : s.routeTo d = some e) (other : d ≠ s.img.deviceId) : e ≠ ownEgress := by
  rintro rfl
  have none : s.egressUp ownEgress = false := by simp [State.egressUp, ownEgress]
  unfold State.routeTo at h
  dsimp only at h
  split at h
  · exact other ‹_›
  · split_ifs at h with _ up up' <;> simp_all

/-- The HEARTBEAT transaction of some words to a device. -/
def State.beatTxn (s : State) (d : W16) (payload : List Byte) : Txn :=
  { ttype := 6, rsp := false, status := 0, dst := d, src := s.img.deviceId, dstand := 0, sstand := 0, tag := 0, addr := 0
    len := (padWords payload).length / 16, ttl := 16, meta_ := [], payload := padWords payload }

/-- A HEARTBEAT goes to the end of channel 3 of the port that leads to the device. -/
theorem State.sendOnly_queued {e : Nat} (h : s.routeTo d = some e) (other : d ≠ s.img.deviceId) (payload : List Byte) :
    ((s.sendOnly 6 d payload).port (s.egressPort e)).txq.get [] (65 * 3) =
      (s.port (s.egressPort e)).txq.get [] (65 * 3) ++ (s.beatTxn d payload).stream (64, 0) .none := by
  rw [State.sendOnly, h]
  simp only []
  rw [State.emit, if_neg (State.routeTo_other h other)]
  simp [PortSt.enqueue, Txn.channel, State.beatTxn]

theorem State.heartbeat_padded (seq : Nat) : padWords (s.heartbeat seq) = s.heartbeat seq := by
  have length : (s.heartbeat seq).length = 16 := by simp [State.heartbeat, natLe_length]
  simp [padWords, length, roundUp]

end

/-! ### FENCE -/

section
variable {s : State} {st : Nat} {src named : W16 × Nat}

/-- A FENCE from a member fences the device that it names. -/
theorem State.takeFence_member (other : named ≠ (s.img.deviceId, st))
    (member : (s.tablesOf st named.1).any (fun m => (s.mtab st m).members.contains src) = true)
    (none : (s.stand st).steps.commits = []) :
    s.takeFence st src named = (s.fenceDev st named.1 3).countStand st cLkoFenceRelayed := by
  rw [State.takeFence, if_neg other, if_pos member, State.tryDecide_none]
  rw [State.countStand_stand, State.fenceDev_steps, none]

/-- A stand named itself is expelled. -/
theorem State.takeFence_self (none : (s.stand st).steps.commits = []) :
    s.takeFence st src (s.img.deviceId, st) =
      (s.setSteps st fun x => { x with expelled := true, expellers := src.1 :: x.expellers }).countStand st cLkoSelfExpelled := by
  have idle : ((s.setSteps st fun x => { x with expelled := true, expellers := src.1 :: x.expellers }).countStand st
      cLkoSelfExpelled).commitNow st = Option.none :=
    State.commitNow_none (by rw [State.countStand_stand, State.setSteps, s.setStand_stand_same]; exact none)
  rw [State.takeFence, if_pos rfl, State.selfExpelled]
  simp only [idle]

end

/-- Settles O48: each stand hears a heartbeat by itself, sending takes one sequence number a device, and a FENCE is one fence or an
expulsion. -/
theorem heartbeatsAndFences : Obligations.HeartbeatsAndFences := by
  unfold Obligations.HeartbeatsAndFences
  refine ⟨?heard, ?sent, ?fence⟩
  case heard =>
    intro s t p x taken
    have sent := State.takeLink_sends taken
    have img : t.img = s.img := img_of_frame (sent 0).frame
    obtain ⟨f, rfl⟩ := State.takeLink_fabric taken
    obtain ⟨h, hh⟩ : ∃ h, h = (s.setFabric f).setCounters ((s.setFabric f).counters.addUnits (kModule cLkoHbRx4k) 4096 1) := ⟨_, rfl⟩
    have stand (st : Nat) : h.stand st = s.stand st := by rw [hh]; rfl
    have hImg : h.img = s.img := by rw [hh]; rfl
    have clock : h.clock = s.clock := by rw [hh]; rfl
    have runs : exec (.heartbeat p x) s = .next (((List.range 64).filter fun st => (s.cfg st).enabled).foldl
        (fun v st => v.hear st x.src (fld x.payload 8 8)) h) := by
      change execHeartbeat p x s = _
      rw [execHeartbeat, taken, hh]
    obtain ⟨memory, now⟩ := State.foldl_hear_kept (s := h) (d := x.src) (mask := fld x.payload 8 8)
      ((List.range 64).filter fun st => (s.cfg st).enabled)
    have hMemory : s.memoryKept h := by rw [hh]; exact ⟨rfl, rfl, rfl⟩
    refine ⟨_, runs, hMemory.trans memory, now.trans clock, exec_frame _ rfl runs, fun st inUse on i q hq => ?_⟩
    have listed : st ∈ (List.range 64).filter fun st => (s.cfg st).enabled := List.mem_filter.mpr ⟨List.mem_range.mpr inUse, on⟩
    rw [State.foldl_hear_stand _ (List.nodup_range.filter _), if_pos listed, State.heard_congr (stand st) clock hImg,
      State.heard_peers hq]
    refine ⟨fun other => by rw [if_pos other], fun own unnamed => ?_, fun own named => ⟨_, rfl, ?_⟩⟩
    · simp [own, State.heardPeer, unnamed]
    · simp [own, State.heardPeer, named]
  case sent =>
    intro s ds alive verified devices
    have runs : exec .heartbeatSend s = .next ((ds.foldl State.beat s).setCounters
        ((ds.foldl State.beat s).counters.addUnits (kModule cLkoHbTx4k) 4096 ds.length)) := by
      change execHeartbeatSend s = _
      rw [execHeartbeatSend, if_pos ⟨alive, verified⟩, devices]
      rfl
    obtain ⟨stands, clock, memory, tag⟩ := State.foldl_beat (s := s) ds
    refine ⟨_, runs, stands, clock, memory, exec_frame _ rfl runs, tag, fun d e one other route => ?_⟩
    subst one
    refine ⟨s.beatTxn d (s.heartbeat s.fabric.nextTag), rfl, rfl, rfl, s.heartbeat_padded _, ?_⟩
    exact State.sendOnly_queued route other _
  case fence =>
    intro s t p x d taken named idle
    have sent := State.takeRequest_sends taken
    have img : t.img = s.img := img_of_frame (sent 0).frame
    have cfg : t.cfg x.dstand = s.cfg x.dstand := by rw [State.cfg, img]; rfl
    obtain ⟨f, ht⟩ := State.takeRequest_fabric taken
    have stand : (t.countModule cLkoFenceRx).stand x.dstand = s.stand x.dstand := by rw [ht]; rfl
    have others : s.standOnly (t.countModule cLkoFenceRx) x.dstand := (sent _).others
    have memory : s.memoryKept (t.countModule cLkoFenceRx) := (sent 0).memory
    have rx : (t.countModule cLkoFenceRx).counters.get (kModule cLkoFenceRx) = s.counters.get (kModule cLkoFenceRx) + 1 := by
      rw [State.countModule, State.count_one, (sent 0).counters _ (by decide)]
    have before : (t.countModule cLkoFenceRx).counters.get (kStand x.dstand cLkoSelfExpelled) =
        s.counters.get (kStand x.dstand cLkoSelfExpelled) := by
      have uncounted : kStand x.dstand cLkoSelfExpelled % 512 = cLkoSelfExpelled := by
        simp only [kStand, cLkoSelfExpelled]; omega
      have apart : kModule cLkoFenceRx ≠ kStand x.dstand cLkoSelfExpelled := by
        simp only [kStand, kModule, cLkoSelfExpelled, cLkoFenceRx]; omega
      exact (Counters.get_add_ne _ apart 1).trans ((sent x.dstand).counters _ (by rw [uncounted]; decide))
    have runs : exec (.fence p x) s = .next (if (s.cfg x.dstand).enabled then
        ((t.countModule cLkoFenceRx).takeFence x.dstand (x.src, x.sstand) (d, bits (fld x.payload 2 1) 5 0)).respond x 0 []
        else (t.countModule cLkoFenceRx).respond x 1 []) := by
      change execFence p x s = _
      rw [execFence, taken, named]
      cases (s.cfg x.dstand).enabled <;> rfl
    have idle' : ((t.countModule cLkoFenceRx).stand x.dstand).steps.commits = [] := by rw [stand]; exact idle
    have device : (t.countModule cLkoFenceRx).img.deviceId = s.img.deviceId := congrArg ImageCfg.deviceId img
    clear named
    generalize t.countModule cLkoFenceRx = u at *
    refine ⟨fun off => ?_, fun on other member => ?_, fun on self own => ?_⟩
    · rw [runs, off]; rfl
    · have named : (d, bits (fld x.payload 2 1) 5 0) ≠ (u.img.deviceId, x.dstand) := by
        rw [device]; exact fun e => other (congrArg Prod.fst e)
      have tab (m : Nat) : u.mtab x.dstand m = s.mtab x.dstand m := by rw [State.mtab, stand]; rfl
      have heard : (u.tablesOf x.dstand d).any (fun m => (u.mtab x.dstand m).members.contains (x.src, x.sstand)) = true := by
        obtain ⟨m, hm, isMember⟩ := member
        refine List.any_eq_true.mpr ⟨m, ?_, by rw [tab]; exact List.contains_iff_mem.mpr isMember⟩
        simpa only [State.tablesOf, tab] using hm
      rw [if_pos on, State.takeFence_member named heard idle'] at runs
      have fenced := u.fenceDev_fenced x.dstand d 3
      have relayed : ((u.fenceDev x.dstand d 3).countStand x.dstand cLkoFenceRelayed).counters.get (kModule cLkoFenceRx) =
          u.counters.get (kModule cLkoFenceRx) := by
        have apart : kStand x.dstand cLkoFenceRelayed ≠ kModule cLkoFenceRx := by
          simp only [kStand, kModule, cLkoFenceRelayed, cLkoFenceRx]; omega
        exact (Counters.get_add_ne _ apart 1).trans (u.fenceDev_counters _ _ _ (by decide))
      have answered := ((u.fenceDev x.dstand d 3).countStand x.dstand cLkoFenceRelayed).respond_sends x.dstand x 0 []
      refine ⟨_, runs, (answered.fenced _ _).trans fenced, ?_, ?_, ?_, exec_frame _ rfl runs⟩
      · exact memory.trans ((u.fenceDev_memoryKept _ _ _).trans answered.memory)
      · rw [answered.counters _ (by decide), relayed, rx]
      · exact others.trans ((u.fenceDev_others _ _ _).trans answered.others)
    · have named : (d, bits (fld x.payload 2 1) 5 0) = (u.img.deviceId, x.dstand) := by rw [device, self, own]
      rw [if_pos on, named, State.takeFence_self idle'] at runs
      refine ⟨_, runs, ?_⟩
      obtain ⟨v, hv⟩ : ∃ v, v = (u.setSteps x.dstand fun y => { y with expelled := true, expellers := x.src :: y.expellers }).countStand
        x.dstand cLkoSelfExpelled := ⟨_, rfl⟩
      have vSteps : (v.stand x.dstand).steps = { (u.stand x.dstand).steps with
          expelled := true, expellers := x.src :: (u.stand x.dstand).steps.expellers } := by
        rw [hv, State.countStand_stand, State.setSteps, u.setStand_stand_same]
      have vKept : u.onlyStand v x.dstand := hv ▸ u.setStand_onlyStand x.dstand _
      have counted : v.counters.get (kStand x.dstand cLkoSelfExpelled) = u.counters.get (kStand x.dstand cLkoSelfExpelled) + 1 := by
        rw [hv, State.countStand, State.count_one]; rfl
      rw [← hv] at runs ⊢
      have answered := v.respond_sends x.dstand x 0 []
      have uncounted : kStand x.dstand cLkoSelfExpelled % 512 ∉ sendCounters := by rw [kStand, Nat.mul_add_mod]; decide
      refine ⟨by rw [answered.steps, vSteps], by rw [answered.steps, vSteps]; exact List.mem_cons_self,
        memory.trans (vKept.2.1.trans answered.memory), ?_, others.trans (vKept.1.trans answered.others), exec_frame _ rfl runs⟩
      rw [answered.counters _ uncounted, counted, before]

end Sys2Proof.Machine
end

section
/-! What writing to memory touches (spec/01 R20, spec/08), and what a COMMIT's decision leaves as it is whatever it is (spec/12 R312 to
R314, R328): the other stands, the compute dies, the commands in flight and the fences. -/

namespace Sys2Proof.Machine

/-! ### Writes to memory -/

/-- From `s` to `t` memory's words may change, and what counts and classifies them. -/
structure State.stored (s t : State) : Prop where
  stands : t.stands = s.stands
  comp : t.comp = s.comp
  groups : t.mem.groups = s.mem.groups
  fabric : t.fabric = s.fabric
  frame : t.frame = s.frame
  counters : ∀ k, 2 < k % 32 → t.counters.get k = s.counters.get k

section
variable {s t u : State}

theorem State.stored.refl (s : State) : s.stored s := ⟨rfl, rfl, rfl, rfl, rfl, fun _ _ => rfl⟩

theorem State.stored.trans (h : s.stored t) (k : t.stored u) : s.stored u :=
  ⟨k.stands.trans h.stands, k.comp.trans h.comp, k.groups.trans h.groups, k.fabric.trans h.fabric, k.frame.trans h.frame,
    fun c hc => (k.counters c hc).trans (h.counters c hc)⟩

theorem State.stored.stand (h : s.stored t) (k : Nat) : t.stand k = s.stand k := by rw [State.stand, h.stands]; rfl

theorem State.foldl_stored {α : Type} {f : State → α → State} (s : State) (h : ∀ (u : State) a, u.stored (f u a)) (l : List α) :
    s.stored (l.foldl f s) := by
  induction l generalizing s with
  | nil => exact State.stored.refl s
  | cons a l ih => exact (h s a).trans (ih (f s a))

end

section
variable (s : State)

theorem State.countStack_stored (n : Nat) {c : Nat} (h : c ≤ 2) (m : Nat) : s.stored (s.count (kStack n c) m) :=
  ⟨rfl, rfl, rfl, rfl, rfl, fun k hk => Counters.get_add_ne _ (by simp only [kStack]; omega) m⟩

theorem State.setHbm_stored (m : Mem) : s.stored (s.setHbm m) := ⟨rfl, rfl, rfl, rfl, rfl, fun _ _ => rfl⟩
theorem State.addFault_stored (w : Nat) (pos : Option Nat) : s.stored (s.addFault w pos) := ⟨rfl, rfl, rfl, rfl, rfl, fun _ _ => rfl⟩

theorem State.noteWord_stored (w : Nat) : s.stored (s.noteWord w) := by
  unfold State.noteWord
  split
  · exact State.stored.refl s
  · exact (s.countStack_stored _ (by decide) 1).trans (State.addFault_stored _ _ _)
  · dsimp only
    have uncorrected := s.countStack_stored (keyStack (16 * w)) (c := cMemUncorrectable) (by decide) 1
    split
    · exact uncorrected
    · exact ((uncorrected.trans (State.setHbm_stored _ _)).trans (State.countStack_stored _ _ (by decide) 1)).trans
        (State.addFault_stored _ _ _)

theorem State.noteWords_stored (ws : List Nat) : s.stored (s.noteWords ws) := by
  unfold State.noteWords
  split
  · exact State.stored.refl s
  · exact State.foldl_stored s (fun u w => u.noteWord_stored w) ws

theorem State.noteMerge_stored (ks : List Nat) : s.stored (s.noteMerge ks) := by
  unfold State.noteMerge
  split
  · exact State.stored.refl s
  · exact s.noteWords_stored _

theorem State.writeKey_stored (k : Nat) (bs : List Byte) : s.stored (s.writeKey k bs) :=
  (s.noteMerge_stored _).trans (State.setHbm_stored _ _)

theorem State.writeSoftN_stored (n a : Nat) (bs : List Byte) : s.stored (s.writeSoftN n a bs) := by
  induction n generalizing s a bs with
  | zero => exact State.stored.refl s
  | succ n ih =>
    cases bs with
    | nil => exact State.stored.refl s
    | cons b bs =>
      simp only [State.writeSoftN]
      split
      · exact (s.writeKey_stored _ _).trans (ih _ _ _)
      · exact ih s _ _

theorem State.writeSoft_stored (a : Nat) (bs : List Byte) : s.stored (s.writeSoft a bs) := s.writeSoftN_stored _ a bs

theorem State.keepDiffs_stored (a : Nat) (fs : Tab (Byte × Byte)) : s.stored (s.keepDiffs a fs) := s.setHbm_stored _

end

/-! ### Work beside the commands in flight -/

/-- From `s` to `t` the other stands, the compute dies, the tickets in flight at stand `st`, and every fence that stood stay. -/
structure State.underway (s t : State) (st : Nat) : Prop where
  others : s.standOnly t st
  comp : t.comp = s.comp
  tickets : (t.stand st).inflight.map Cmd.ticket = (s.stand st).inflight.map Cmd.ticket
  fences : ∀ f ∈ s.fabric.fences, f ∈ t.fabric.fences

section
variable {s t u : State} {st : Nat}

theorem State.underway.refl (s : State) (st : Nat) : s.underway s st := ⟨fun _ _ => rfl, rfl, rfl, fun _ h => h⟩

theorem State.underway.trans (h : s.underway t st) (k : t.underway u st) : s.underway u st :=
  ⟨h.others.trans k.others, k.comp.trans h.comp, k.tickets.trans h.tickets, fun f hf => k.fences f (h.fences f hf)⟩

theorem State.foldl_underway {α : Type} {f : State → α → State} (s : State) (h : ∀ (u : State) a, u.underway (f u a) st)
    (l : List α) : s.underway (l.foldl f s) st := by
  induction l generalizing s with
  | nil => exact State.underway.refl s st
  | cons a l ih => exact (h s a).trans (ih (f s a))

theorem State.underway.of_stands (stands : t.stands = s.stands) (comp : t.comp = s.comp) (fabric : t.fabric = s.fabric) :
    s.underway t st := by
  have same (k : Nat) : t.stand k = s.stand k := by rw [State.stand, stands]; rfl
  exact ⟨fun k _ => same k, comp, by rw [same], fun f hf => by rwa [fabric]⟩

theorem State.stored.underway (h : s.stored t) : s.underway t st := .of_stands h.stands h.comp h.fabric

theorem State.sends.underway (h : s.sends t st) : s.underway t st :=
  ⟨h.others, h.comp, by rw [h.inflight], fun f hf => by rwa [h.fences]⟩

theorem State.setStand_underway {x : StandSt} (h : x.inflight.map Cmd.ticket = (s.stand st).inflight.map Cmd.ticket) :
    s.underway (s.setStand st x) st :=
  ⟨fun _ hk => s.setStand_stand_ne hk x, rfl, by rw [s.setStand_stand_same, h], fun _ hf => hf⟩

theorem StandSt.setCmd_tickets (x : StandSt) (c : Cmd) : (x.setCmd c.ticket c).inflight.map Cmd.ticket = x.inflight.map Cmd.ticket := by
  rw [StandSt.setCmd, List.map_map]
  refine List.map_congr_left fun d _ => ?_
  by_cases h : d.ticket = c.ticket <;> simp [h]

/-- A command whose ticket is in flight is in flight. -/
theorem StandSt.cmd_isSome_congr {x y : StandSt} (h : y.inflight.map Cmd.ticket = x.inflight.map Cmd.ticket) (tkt : Nat) :
    (y.cmd tkt).isSome = (x.cmd tkt).isSome := by
  have listed (z : StandSt) : (z.cmd tkt).isSome = (z.inflight.map Cmd.ticket).any fun k => decide (k = tkt) := by
    rw [StandSt.cmd, List.isSome_find?, List.any_map]; rfl
  rw [listed, listed, h]

/-- A command ends although its stand decided meanwhile. -/
theorem State.underway.ends (h : s.underway t st) {tkt : Nat} {c d : Cmd} (hc : (s.stand st).cmd tkt = some c) (hd : d.ticket = tkt) :
    (t.engineDone st d).stageOf st tkt = some .done := by
  subst hd
  have there : ((t.stand st).cmd d.ticket).isSome := by
    rw [StandSt.cmd_isSome_congr h.tickets, hc]; rfl
  obtain ⟨e, he⟩ := Option.isSome_iff_exists.mp there
  exact congrArg (Option.map Cmd.stage) (State.engineDone_cmd he)

end

section
variable (s : State) (st : Nat)

theorem State.count_underway (k n : Nat) : s.underway (s.count k n) st := .of_stands rfl rfl rfl
theorem State.countStand_underway (c : Nat) : s.underway (s.countStand st c) st := .of_stands rfl rfl rfl
theorem State.setCmd_underway (c : Cmd) : s.underway (s.setCmd st c) st := State.setStand_underway (StandSt.setCmd_tickets _ c)
theorem State.engineDone_underway (c : Cmd) : s.underway (s.engineDone st c) st := s.setCmd_underway st _
theorem State.setSteps_underway (f : StepSt → StepSt) : s.underway (s.setSteps st f) st := State.setStand_underway rfl
theorem State.setCopy_underway (b : Option BgCopy) : s.underway (s.setCopy st b) st := State.setStand_underway rfl

theorem State.setPeer_underway (d : W16) (f : Peer → Peer) : s.underway (s.setPeer st d f) st := by
  obtain ⟨others, ⟨-, comp, -⟩, fabric, -⟩ := State.setPeer_onlyStand (s := s) (st := st) (d := d) (f := f)
  exact ⟨others, comp, by rw [State.setPeer_stand], fun f hf => by rwa [fabric]⟩

theorem State.fenceDev_underway (d : W16) (source : Nat) : s.underway (s.fenceDev st d source) st := by
  refine ⟨s.fenceDev_others st d source, (s.fenceDev_memoryKept st d source).2.1, by rw [s.fenceDev_inflight], fun f hf => ?_⟩
  rw [s.fenceDev_fences]
  split
  · exact hf
  · exact List.mem_cons_of_mem _ hf

/-- Of the update groups' work only the groups change. -/
theorem State.onGroups_eq (ks : List Nat) (f : UGroup → UGroup) : ∃ g, s.onGroups ks f = s.setMem { s.mem with groups := g } := by
  unfold State.onGroups
  induction ks generalizing s with
  | nil => exact ⟨s.mem.groups, rfl⟩
  | cons k ks ih =>
    obtain ⟨g, hg⟩ := ih (s.setUgroup k (f (s.ugroup k)))
    exact ⟨g, hg⟩

theorem State.onGroups_underway (ks : List Nat) (f : UGroup → UGroup) : s.underway (s.onGroups ks f) st := by
  obtain ⟨g, hg⟩ := s.onGroups_eq ks f
  rw [hg]
  exact .of_stands rfl rfl rfl

theorem State.onGroups_stand (ks : List Nat) (f : UGroup → UGroup) (k : Nat) : (s.onGroups ks f).stand k = s.stand k := by
  obtain ⟨g, hg⟩ := s.onGroups_eq ks f
  rw [hg]
  rfl

/-! ### The background copy of a mirror -/

/-- A copy's words to a peer's memory are requests, and what of them could not be sent is kept with the command. -/
theorem State.copyOut_underway (b : BgCopy) (off : Nat) (bs : List Byte) (fs : Tab (Byte × Byte)) :
    s.underway (s.copyOut st b off bs fs) st := by
  unfold State.copyOut
  split
  · exact ((s.writeSoft_stored _ _).trans (State.keepDiffs_stored _ _ _)).underway
  · refine State.foldl_underway s (fun u p => ?_) _
    dsimp only [State.requestWith]
    generalize hr : u.ask st _ = r
    have sent : u.underway r.1 st := hr ▸ (u.ask_sends st _).underway
    refine sent.trans ?_
    (repeat' split)
    · exact State.underway.refl _ st
    · exact State.underway.refl _ st
    · exact State.setCmd_underway _ st _
    · exact State.underway.refl _ st

theorem State.beginCopy_underway (b : BgCopy) : s.underway (s.beginCopy st b) st :=
  (s.setCopy_underway st _).trans (State.copyOut_underway _ st _ _ _ _)

theorem State.startMirror_underway (ctx : Nat) (a : CommitArgs) : s.underway (s.startMirror st ctx a) st := by
  unfold State.startMirror
  split
  · exact State.underway.refl s st
  · extract_lets x b t
    have turned : s.underway t st := s.setSteps_underway st _
    clear_value x b
    split
    · exact turned
    · split
      · exact (turned.trans (State.setSteps_underway _ st _)).trans (State.count_underway _ st _ _)
      · exact turned.trans (State.beginCopy_underway _ st _)

/-! ### The decision -/

theorem State.commitStand_underway (j : CommitSt) : s.underway (s.commitStand st j) st := by
  unfold State.commitStand
  extract_lets x n t _ y u
  have groups : s.underway t st := s.onGroups_underway st _ _
  have stand : t.stand st = s.stand st := s.onGroups_stand _ _ st
  have moved : s.underway u st := (groups.trans (State.setStand_underway (by rw [stand]; rfl))).trans (State.count_underway _ st _ _)
  split
  · exact moved.trans (State.setStand_underway rfl)
  · exact moved

theorem State.judgeSapling_underway (blaze : BitVec 128) (steps : Nat) (d : W16) (m : Option CommitMsg) :
    s.underway (s.judgeSapling st blaze steps d m) st := by
  have failed : s.underway (s.failSapling st d) st := (s.fenceDev_underway st d 5).trans (State.countStand_underway _ st _)
  unfold State.judgeSapling
  dsimp only
  split
  · split
    · exact failed
    · split
      · exact (s.setPeer_underway st d _).trans (State.countStand_underway _ st _)
      · exact s.setPeer_underway st d _
  · exact failed

theorem State.judgeSaplings_underway (j : CommitSt) (steps : Nat) (ms : List (Nat × Option CommitMsg)) :
    s.underway (s.judgeSaplings st j steps ms) st := by
  refine State.foldl_underway s (fun u q => ?_) ms
  (repeat' split)
  · exact u.judgeSapling_underway st _ _ _ _
  · exact State.underway.refl u st
  · exact State.underway.refl u st

theorem State.expel_underway (j : CommitSt) (ranks : List Nat) : s.underway (s.expel st j ranks) st := by
  refine (State.foldl_underway s (fun u m => State.foldl_underway u (fun v r => ?_) _) _).trans
    (State.foldl_underway _ (fun u m => (u.fenceDev_underway st _ 4).trans (State.countStand_underway _ st _)) _)
  split
  · exact (v.sendFence_sends st _ _).underway
  · exact State.underway.refl v st

theorem State.commitDone_underway (j : CommitSt) (c : Cmd) (status : List W16) (blaze : List Byte) (rounds : Nat) (n : List Byte) :
    s.underway (s.commitDone st j c status blaze rounds n) st :=
  (State.underway.of_stands (s := s) (t := s.setFreeCtr (s.freeCtr + 17)) rfl rfl rfl).trans
    ((State.setSteps_underway _ st _).trans (State.engineDone_underway _ st _))

theorem State.commitFlip_underway (j : CommitSt) (c : Cmd) (d : CommitDecision) : s.underway (s.commitFlip st j c d) st := by
  unfold State.commitFlip
  extract_lets a x steps t
  have committed : s.underway t st :=
    ((s.commitStand_underway st j).trans (State.judgeSaplings_underway _ st j steps d.msgs)).trans
      (State.commitDone_underway _ st _ c _ _ _ _)
  split
  · exact committed.trans (State.startMirror_underway _ st _ _)
  · exact committed

theorem State.settleCommit_underway (now : Bool) : s.underway (s.settleCommit st now) st := by
  unfold State.settleCommit
  (repeat' split)
  · exact State.underway.refl s st
  · exact s.commitFlip_underway st _ _ _
  · exact State.underway.refl s st
  · exact State.underway.refl s st

theorem State.wantRollback_underway (why : RollbackFor) : s.underway (s.wantRollback st why) st := s.setSteps_underway st _

theorem State.commitOk_underway (j : CommitSt) (c : Cmd) (n expelled : Nat) (ms : List (Nat × Option CommitMsg)) :
    s.underway (s.commitOk st j c n expelled ms) st := by
  unfold State.commitOk
  dsimp only
  split
  · exact (s.wantRollback_underway st _).trans (State.countStand_underway _ st _)
  · exact (s.setSteps_underway st _).trans (State.settleCommit_underway _ st false)

theorem State.decideCommit_underway (j : CommitSt) (c : Cmd) : s.underway (s.decideCommit st j c) st := by
  unfold State.decideCommit
  dsimp only
  have counted := s.countStand_underway st cDckBlazeMismatch
  (repeat' split)
  · exact s.wantRollback_underway st _
  · exact s.commitOk_underway st _ _ _ _ _
  · exact counted.trans (State.wantRollback_underway _ st _)
  · exact counted.trans ((State.expel_underway _ st _ _).trans (State.commitOk_underway _ st _ _ _ _ _))
  · exact counted.trans ((State.setSteps_underway _ st _).trans
      ((State.countStand_underway _ st _).trans (State.wantRollback_underway _ st _)))

/-- Whatever is decided, the other stands, the compute dies, the commands in flight and the fences stay. -/
theorem State.tryDecide_underway : s.underway (s.tryDecide st) st := by
  unfold State.tryDecide
  (repeat' split)
  · exact s.decideCommit_underway st _ _
  · exact State.underway.refl s st
  · exact State.underway.refl s st

end

end Sys2Proof.Machine
end

section
/-! FENCE_PEER, READMIT and silent peers (spec/12 R323, R324, R327). -/

namespace Sys2Proof.Machine

/-- A counter of a stand that sending does not use. -/
theorem kStand_unsent {st c : Nat} (small : c < 512) (h : c ∉ sendCounters) : kStand st c % 512 ∉ sendCounters := by
  rwa [kStand, Nat.mul_add_mod, Nat.mod_eq_of_lt small]

section
variable {s : State} {st tkt : Nat} {c : Cmd}

/-! ### FENCE_PEER -/

/-- The state once the device is fenced and the fence relayed, before what it decides. -/
def State.peerFenced (s : State) (st : Nat) (c : Cmd) : State :=
  let t := (s.fenceDev st (peerDevice c.bytes) 2).countStand st cLkoFenceCommand
  if bit (fld c.bytes 18 1) 4 then t.relayFence st (peerTab c.bytes) (peerDevice c.bytes) else t

theorem State.fencePeer_eq : s.fencePeer st c = ((s.peerFenced st c).tryDecide st).engineDone st
    { c with tStart := s.clock.now, pay := (s.peerFenced st c).peerPay st (peerDevice c.bytes) } := rfl

/-- What is relayed is sent. -/
theorem State.peerFenced_sends :
    ((s.fenceDev st (peerDevice c.bytes) 2).countStand st cLkoFenceCommand).sends (s.peerFenced st c) st := by
  unfold State.peerFenced
  dsimp only
  split
  · exact State.relayFence_sends _ st _ _
  · exact State.sends.refl _ st

theorem State.peerFenced_underway : s.underway (s.peerFenced st c) st :=
  ((s.fenceDev_underway st _ 2).trans (State.countStand_underway _ st _)).trans State.peerFenced_sends.underway

theorem State.peerFenced_fences : (s.peerFenced st c).fabric.fences =
    if s.fenced st (peerDevice c.bytes) then s.fabric.fences else (st, peerDevice c.bytes) :: s.fabric.fences :=
  State.peerFenced_sends.fences.trans (s.fenceDev_fences st _ 2)

theorem State.peerFenced_steps : ((s.peerFenced st c).stand st).steps = (s.stand st).steps :=
  State.peerFenced_sends.steps.trans (s.fenceDev_steps st _ 2)

theorem State.peerFenced_outputs : ((s.peerFenced st c).stand st).outputs = (s.stand st).outputs :=
  State.peerFenced_sends.outputs.trans (s.fenceDev_outputs st _ 2)

theorem State.peerFenced_memory : s.memoryKept (s.peerFenced st c) :=
  (s.fenceDev_memoryKept st _ 2).trans State.peerFenced_sends.memory

theorem State.peerFenced_counted :
    (s.peerFenced st c).counters.get (kStand st cLkoFenceCommand) = s.counters.get (kStand st cLkoFenceCommand) + 1 := by
  have unsent : kStand st cLkoFenceCommand % 512 ∉ sendCounters := kStand_unsent (by decide) (by decide)
  rw [State.peerFenced_sends.counters _ unsent, State.countStand, State.count_one, s.fenceDev_counters _ _ _ unsent]

/-! ### READMIT -/

/-- The peer an entry of the Lookout for the steps given. -/
def readmitted (s : State) (c : Cmd) (p : Peer) : Peer :=
  { p with state := .sapling, source := 0, saplingLeft := if fld c.bytes 19 1 = 0 then s.img.saplingSteps else fld c.bytes 19 1 }

/-- The state with the fence gone and the peer's entry that of a sapling. -/
def State.unbarred (s : State) (st : Nat) (c : Cmd) : State :=
  (s.setFabric { s.fabric with fences := s.fabric.fences.filter fun f => decide (f ≠ (st, peerDevice c.bytes)) }).setPeer st
    (peerDevice c.bytes) (readmitted s c)

theorem State.readmit_eq : s.readmit st c = ((s.unbarred st c).countStand st cLkoReadmit).engineDone st
    { c with tStart := s.clock.now, pay := (s.unbarred st c).peerPay st (peerDevice c.bytes) } := rfl

theorem State.unbarred_stand : (s.unbarred st c).stand st = { s.stand st with peers := ((s.unbarred st c).stand st).peers } :=
  State.setPeer_stand

theorem State.unbarred_fences : (s.unbarred st c).fabric.fences =
    s.fabric.fences.filter fun f => decide (f ≠ (st, peerDevice c.bytes)) := by
  obtain ⟨-, -, fabric, -⟩ := State.setPeer_onlyStand (s := s.setFabric { s.fabric with
    fences := s.fabric.fences.filter fun f => decide (f ≠ (st, peerDevice c.bytes)) }) (st := st) (d := peerDevice c.bytes)
    (f := readmitted s c)
  exact congrArg Fabric.fences fabric

theorem State.unbarred_quiet : s.quiet (s.unbarred st c) st := by
  obtain ⟨others, ⟨-, comp, -⟩, -⟩ := State.setPeer_onlyStand (s := s.setFabric { s.fabric with
    fences := s.fabric.fences.filter fun f => decide (f ≠ (st, peerDevice c.bytes)) }) (st := st) (d := peerDevice c.bytes)
    (f := readmitted s c)
  exact ⟨others, comp, by rw [State.unbarred_stand], by rw [State.unbarred_stand]; rfl⟩

theorem State.engineDone_peer (s : State) (st : Nat) (c : Cmd) (d : W16) : ((s.engineDone st c).stand st).peer d = (s.stand st).peer d := by
  rw [State.engineDone, State.setCmd, s.setStand_stand_same]; rfl

/-! ### A silent peer -/

/-- A silent peer that is heard too little becomes SUSPECT. -/
def State.suspected (s : State) (st : Nat) (p : Peer) : State :=
  (s.setPeer st p.device fun q => { q with state := .suspect }).countStand st cLkoSuspect

/-- A silent peer is fenced, and the fence relayed over each table that holds it. -/
def State.lookedOut (s : State) (st : Nat) (p : Peer) : State :=
  (s.tablesOf st p.device).foldl (fun u m => u.relayFence st m p.device)
    ((s.fenceDev st p.device 1).countStand st cLkoFenceLookout)

theorem State.silent_suspect {p : Peer} (few : p.samples < 32) (live : p.state = .live) : s.silent st p = s.suspected st p := by
  rw [State.silent, if_pos few, if_pos live]; rfl

theorem State.silent_skip {p : Peer} (few : p.samples < 32) (other : p.state ≠ .live) : s.silent st p = s := by
  rw [State.silent, if_pos few, if_neg other]

theorem State.silent_fence {p : Peer} (many : 32 ≤ p.samples) : s.silent st p = (s.lookedOut st p).tryDecide st := by
  rw [State.silent, if_neg (by omega)]; rfl

theorem State.lookedOut_sends {p : Peer} : ((s.fenceDev st p.device 1).countStand st cLkoFenceLookout).sends (s.lookedOut st p) st :=
  State.foldl_sends _ (fun u m => u.relayFence_sends st m _) _

end

/-- Settles O45: FENCE_PEER and a seasoned Lookout set a fence and send it on, READMIT takes it away; what a fence decides leaves the
commands in flight. -/
theorem membership : Obligations.Membership := by
  unfold Obligations.Membership
  refine ⟨?fencePeer, ?readmit, ?silent⟩
  case fencePeer =>
    intro s st tkt c run
    obtain ⟨cmd, -⟩ := State.canRun_some run
    have ticket := StandSt.cmd_ticket cmd
    have runs : exec (.fencePeer st tkt) s = .next (s.fencePeer st c) := by
      change execFencePeer st tkt s = _
      rw [execFencePeer, run]
    have decided := State.peerFenced_underway.trans (State.tryDecide_underway (s.peerFenced st c) st)
    have barred : (st, peerDevice c.bytes) ∈ (s.peerFenced st c).fabric.fences := by
      rw [State.peerFenced_fences]
      split
      · next old => exact List.contains_iff_mem.mp old
      · exact List.mem_cons_self
    rw [State.fencePeer_eq] at runs
    refine ⟨_, runs, decided.ends cmd ticket, ?_, decided.comp, decided.others.trans State.engineDone_standOnly, exec_frame _ rfl runs,
      fun none => ?_⟩
    · exact List.contains_iff_mem.mpr ((State.tryDecide_underway _ st).fences _ barred)
    · have none' : ((s.peerFenced st c).stand st).steps.commits = [] := by rw [State.peerFenced_steps, none]
      rw [State.tryDecide_none none']
      exact ⟨State.peerFenced_fences, State.peerFenced_counted, State.peerFenced_memory.trans ⟨rfl, rfl, rfl⟩,
        State.engineDone_outputs.trans State.peerFenced_outputs⟩
  case readmit =>
    intro s st tkt c run
    obtain ⟨cmd, -⟩ := State.canRun_some run
    have ticket := StandSt.cmd_ticket cmd
    have runs : exec (.readmit st tkt) s = .next (s.readmit st c) := by
      change execReadmit st tkt s = _
      rw [execReadmit, run]
    rw [State.readmit_eq] at runs
    have work := State.unbarred_quiet.trans (State.count_quiet (s.unbarred st c) st (kStand st cLkoReadmit) 1)
    obtain ⟨-, stage, -, outputs, others⟩ := work.ends
      (d := { c with tStart := s.clock.now, pay := (s.unbarred st c).peerPay st (peerDevice c.bytes) }) cmd ticket
    refine ⟨_, runs, stage, State.unbarred_fences, fun room => ?_, ?_, outputs, others, exec_frame _ rfl runs⟩
    · obtain ⟨p, hp⟩ := State.setPeer_enters (s := s.setFabric { s.fabric with
        fences := s.fabric.fences.filter fun f => decide (f ≠ (st, peerDevice c.bytes)) }) (f := readmitted s c) room fun _ => rfl
      exact ⟨readmitted s c p, (State.engineDone_peer _ st _ _).trans hp, rfl, rfl⟩
    · exact (State.setPeer_onlyStand (s := s.setFabric _)).2.1
  case silent =>
    intro s st d p alive on watched
    have own : p.device = d := by simpa using List.find?_some watched
    have runs : exec (.peerSilent st d) s = .next (if p.state ≠ .fenced ∧
        s.silenceUs p ≤ ((s.clock.now.toNat - p.lastNamed.toNat : Nat) : Rat) / 1000 then s.silent st p else s) := by
      change execPeerSilent st d s = _
      simp only [execPeerSilent, watched, alive, on, true_and]
    refine ⟨fun early => ?_, fun unfenced late => ⟨fun few live => ?_, fun many none open_ => ?_⟩⟩
    · rw [runs]
      congr 1
      split
      · next due =>
        obtain ⟨unfenced, late⟩ := due
        rcases early with fenced | early | ⟨few, other⟩
        · exact absurd fenced unfenced
        · exact absurd late (not_le.mpr early)
        · exact State.silent_skip few other
      · rfl
    · rw [if_pos ⟨unfenced, late⟩, State.silent_suspect few live] at runs
      obtain ⟨others, memory, fabric, -⟩ := State.setPeer_onlyStand (s := s) (st := st) (d := p.device)
        (f := fun q => { q with state := .suspect })
      have stand := State.setPeer_stand (s := s) (st := st) (d := p.device) (f := fun q => { q with state := .suspect })
      refine ⟨_, runs, ?_, ?_, fabric, memory, ?_, others, exec_frame _ rfl runs⟩
      · subst own; exact State.setPeer_peer watched fun _ => rfl
      · rw [State.suspected, State.countStand, State.count_one, State.setPeer_counters]
      · rw [State.suspected, State.countStand_stand, stand]; rfl
    · rw [if_pos ⟨unfenced, late⟩, State.silent_fence many] at runs
      subst own
      have sent := State.lookedOut_sends (s := s) (st := st) (p := p)
      have none' : ((s.lookedOut st p).stand st).steps.commits = [] := by
        rw [sent.steps, State.countStand_stand, s.fenceDev_steps, none]
      rw [State.tryDecide_none none'] at runs
      have fenced := s.fenceDev_fenced st p.device 1
      have unsent : kStand st cLkoFenceLookout % 512 ∉ sendCounters := kStand_unsent (by decide) (by decide)
      refine ⟨_, { p with state := .fenced, source := 1, saplingLeft := 0 }, runs, (sent.fenced _ _).trans fenced, ?_, rfl, rfl, ?_, (s.fenceDev_memoryKept st _ 1).trans sent.memory, ?_,
        (s.fenceDev_others st _ 1).trans sent.others, exec_frame _ rfl runs⟩
      · rw [StandSt.peer, sent.peers, State.countStand_stand, (State.fenceDev_sends open_).peers]
        exact State.barred_peer watched
      · rw [sent.counters _ unsent, State.countStand, State.count_one, s.fenceDev_counters _ _ _ unsent]
      · rw [sent.outputs, State.countStand_stand, s.fenceDev_outputs]

end Sys2Proof.Machine
end

section
/-! COMMIT and its phases (spec/12 R310, R311, R326). -/

namespace Sys2Proof.Machine

/-! ### The COMMIT in hand -/

section
variable {s : State} {st : Nat} {c : Cmd} {j : CommitSt}

/-- The COMMIT in hand is the first, and its command is in flight. -/
theorem State.commitNow_some (h : s.commitNow st = some (j, c)) :
    (∃ js, (s.stand st).steps.commits = j :: js) ∧ (s.stand st).cmd j.ticket = some c := by
  unfold State.commitNow at h
  split at h
  · cases h
  · next k ks commits =>
    obtain ⟨d, hd, e⟩ := Option.map_eq_some_iff.mp h
    obtain ⟨rfl, rfl⟩ := Prod.mk.inj e
    exact ⟨⟨ks, commits⟩, hd⟩

theorem State.commitNow_congr {t : State} (stand : t.stand st = s.stand st) : t.commitNow st = s.commitNow st := by
  rw [State.commitNow, stand]; rfl

/-- A COMMIT in hand that changes is still the one in hand. -/
theorem StepSt.onCommit_head {x : StepSt} {z : CommitSt} {js : List CommitSt} (h : x.commits = j :: js) (same : z.ticket = j.ticket) :
    ∃ ks, (x.onCommit z).commits = z :: ks := by
  rw [StepSt.onCommit, h]
  exact ⟨_, by rw [List.map_cons, if_pos same.symm]⟩

theorem State.setSteps_stand (f : StepSt → StepSt) : (s.setSteps st f).stand st = { s.stand st with steps := f (s.stand st).steps } :=
  s.setStand_stand_same st _

theorem State.setSteps_onlyStand (f : StepSt → StepSt) : s.onlyStand (s.setSteps st f) st := s.setStand_onlyStand st _

/-- A COMMIT that changes is in hand then as it was. -/
theorem State.onCommit_commitNow {z : CommitSt} (h : s.commitNow st = some (j, c)) (same : z.ticket = j.ticket) :
    (s.setSteps st fun x => x.onCommit z).commitNow st = some (z, c) := by
  obtain ⟨⟨js, commits⟩, cmd⟩ := State.commitNow_some h
  obtain ⟨ks, head⟩ := StepSt.onCommit_head commits same
  rw [State.commitNow, State.setSteps_stand, head]
  simp only [same]
  rw [show ({ s.stand st with steps := (s.stand st).steps.onCommit z } : StandSt).cmd j.ticket = some c from cmd]
  rfl

end

/-! ### COMMIT begins -/

/-- The COMMIT as it begins. -/
def State.commitBegun (s : State) (st tkt : Nat) (a : CommitArgs) : CommitSt :=
  { ticket := tkt, mtab := a.mtab, step := a.step, phase := 1, rollback := false, firstLive := 0xffffffffffffffff, blaze := 0
    waitFrom := 0, expelled := 0, restored := decide (((s.stand st).steps.restored.map (·.step)) = some a.step), bad := false
    decided := none }

/-- The state with the COMMIT in hand and its command running. -/
def State.commitEntered (s : State) (st tkt : Nat) (c : Cmd) : State :=
  (s.setSteps st fun y => { y with commits := [s.commitBegun st tkt (commitArgs c.bytes)] }).setCmd st
    { c with stage := .running, tStart := s.clock.now }

section
variable {s : State} {st tkt : Nat} {c : Cmd}

theorem State.commitEntered_stand : (s.commitEntered st tkt c).stand st = ({ s.stand st with steps := { (s.stand st).steps with
    commits := [s.commitBegun st tkt (commitArgs c.bytes)] } } : StandSt).setCmd c.ticket
      { c with stage := .running, tStart := s.clock.now } := by
  rw [State.commitEntered, State.setCmd, State.setStand_stand_same, State.setSteps_stand]

theorem State.commitEntered_onlyStand : s.onlyStand (s.commitEntered st tkt c) st :=
  (s.setStand_onlyStand st _).trans (State.setStand_onlyStand _ st _)

theorem State.commitEntered_cmd (h : (s.stand st).cmd tkt = some c) :
    ((s.commitEntered st tkt c).stand st).cmd tkt = some { c with stage := .running, tStart := s.clock.now } := by
  have ticket := StandSt.cmd_ticket h
  subst ticket
  rw [State.commitEntered_stand]
  exact StandSt.cmd_setCmd (x := { s.stand st with steps := _ }) h rfl

variable (h : s.canRun st tkt 0x42 = some c)
include h

theorem exec_commit_waits (busy : (s.stand st).steps.commits ≠ [] ∨ (s.stand st).steps.rollback ≠ none ∨
    (∃ d ∈ (s.stand st).inflight, d.ticket < tkt ∧ d.opcode = 0x42 ∧ d.ended = false)) : exec (.commit st tkt) s = .next s := by
  change execCommit st tkt s = _
  rw [execCommit, h]
  simp only []
  rw [if_pos]
  rcases busy with commits | rollback | ⟨d, hd, older, commit, running⟩
  · exact .inl (by simpa using commits)
  · exact .inr (.inl (by simpa [Option.isSome_iff_ne_none] using rollback))
  · exact .inr (.inr (List.any_eq_true.mpr ⟨d, hd, by simp [older, commit, running]⟩))

theorem exec_commit_begins (free : (s.stand st).steps.commits = []) (none : (s.stand st).steps.rollback = none)
    (first : ∀ d ∈ (s.stand st).inflight, d.ticket < tkt → d.opcode = 0x42 → d.ended = true) :
    exec (.commit st tkt) s = .next (
      if (commitArgs c.bytes).rollbackOnly then (s.commitEntered st tkt c).wantRollback st .only
      else if s.expelledFrom st (commitArgs c.bytes).mtab then (s.commitEntered st tkt c).wantRollback st (.halt 0x0111)
      else if !(s.stand st).steps.commitable (commitArgs c.bytes).step then
        (s.commitEntered st tkt c).commitDone st (s.commitBegun st tkt (commitArgs c.bytes)) c [0x0102]
          (s.commitEntered st tkt c).freeBlaze (s.stand st).steps.round
          ((s.commitEntered st tkt c).nByte ((s.commitEntered st tkt c).countedMembers st (s.commitBegun st tkt (commitArgs c.bytes))))
      else s.commitEntered st tkt c) := by
  change execCommit st tkt s = _
  rw [execCommit, h]
  simp only []
  rw [if_neg]
  · rfl
  · rintro (commits | rollback | older)
    · simp [free] at commits
    · simp [none] at rollback
    · obtain ⟨d, hd, older⟩ := List.any_eq_true.mp older
      simp only [Bool.and_eq_true, decide_eq_true_eq, Bool.not_eq_true'] at older
      obtain ⟨⟨before, commit⟩, running⟩ := older
      rw [first d hd before commit] at running
      cases running

end

/-- A rollback asked for, or not. -/
def State.asked (u : State) (st : Nat) : Option RollbackFor → State
  | none => u
  | some why => u.wantRollback st why

section
variable {u : State} {st : Nat} (why : Option RollbackFor)

theorem State.asked_stand (none : (u.stand st).steps.rollback = none) :
    (u.asked st why).stand st = { u.stand st with steps := { (u.stand st).steps with rollback := why } } := by
  cases why with
  | none => rw [State.asked, ← none]
  | some why => exact State.setSteps_stand _

theorem State.asked_onlyStand : u.onlyStand (u.asked st why) st := by
  cases why with
  | none => exact State.onlyStand.refl u st
  | some why => exact State.setSteps_onlyStand _

end

/-! ### A COMMIT's end -/

section
variable {s : State} {st : Nat} {j : CommitSt} {c : Cmd} {status : List W16} {blaze n : List Byte} {rounds : Nat}

/-- The command of a COMMIT as it ends. -/
def CommitSt.endCmd (j : CommitSt) (c : Cmd) (status : List W16) (blaze : List Byte) (rounds : Nat) (n : List Byte) : Cmd :=
  { c with
    statuses := c.statuses ++ status, stage := .done
    pay := natLe 8 j.step.toNat ++ blaze ++ natLe 1 rounds ++ n ++ natLe 2 j.expelled }

theorem State.commitDone_stand : (s.commitDone st j c status blaze rounds n).stand st =
    ({ s.stand st with steps := { (s.stand st).steps with
      commits := (s.stand st).steps.commits.filter fun k => decide (k.ticket ≠ j.ticket) } } : StandSt).setCmd c.ticket
        (j.endCmd c status blaze rounds n) := by
  rw [State.commitDone, State.engineDone, State.setCmd, State.setStand_stand_same, State.setSteps_stand]
  rfl

theorem State.commitDone_onlyStand : s.onlyStand (s.commitDone st j c status blaze rounds n) st := by
  refine State.onlyStand.trans (t := (s.setFreeCtr (s.freeCtr + 17)).setSteps st _) ⟨?_, ?_⟩ (State.setStand_onlyStand _ st _)
  · exact fun _ hk => State.setStand_stand_ne _ hk _
  · exact ⟨⟨rfl, rfl, rfl⟩, rfl, rfl, rfl, rfl, rfl, rfl, rfl, rfl⟩

theorem State.commitDone_counters : (s.commitDone st j c status blaze rounds n).counters = s.counters := rfl

theorem State.commitDone_steps : ((s.commitDone st j c status blaze rounds n).stand st).steps = { (s.stand st).steps with
    commits := (s.stand st).steps.commits.filter fun k => decide (k.ticket ≠ j.ticket) } := by
  rw [State.commitDone_stand]; rfl

theorem State.commitDone_outputs : ((s.commitDone st j c status blaze rounds n).stand st).outputs = (s.stand st).outputs := by
  rw [State.commitDone_stand]; rfl

/-- The command is done, its status behind those that it had. -/
theorem State.commitDone_cmd {tkt : Nat} {k : Cmd} (h : (s.stand st).cmd tkt = some k) (own : c.ticket = tkt) :
    ((s.commitDone st j c status blaze rounds n).stand st).cmd tkt = some (j.endCmd c status blaze rounds n) := by
  subst own
  rw [State.commitDone_stand]
  exact StandSt.cmd_setCmd (x := { s.stand st with steps := _ }) h rfl

end

/-! ### Phase 1 ends -/

section
variable {s : State} {st tkt : Nat} {c : Cmd} {j : CommitSt} (now : s.commitNow st = some (j, c))

/-- The state with the groups of a COMMIT digested and sealed, and a word that fails correction noted. -/
def State.commitSealed (s : State) (st : Nat) (j : CommitSt) (a : CommitArgs) : State :=
  let ks := groupSpan a.ugrp a.count
  let words := s.digestWords ks (s.digestCopy false)
  let bad := if s.hbm.diff = [] then [] else words.filter s.hbm.bad
  let t := ((s.noteWords words).sealGroups ks).count (kStand st cLndPoisonRead) bad.length
  if bad.isEmpty then t else t.mark st (some j.step) 6

/-- The COMMIT once its groups are digested. -/
def State.commitDigested (s : State) (j : CommitSt) (a : CommitArgs) : CommitSt :=
  let ks := groupSpan a.ugrp a.count
  { j with
    phase := 3, bad := (s.digestWords ks (s.digestCopy false)).any s.hbm.bad, blaze := s.blaze a.key ks (s.digestCopy false)
    waitFrom := s.clock.now }

/-- Memory that checks throughout has no word that fails. -/
theorem State.badWords_nonempty (words : List Nat) :
    (!(if s.hbm.diff = [] then [] else words.filter s.hbm.bad).isEmpty) = words.any s.hbm.bad := by
  split
  · next clean =>
    have none : words.any s.hbm.bad = false := List.any_eq_false.mpr fun w _ => by simp [Mem.bad_of_diff_nil clean w]
    rw [none]; rfl
  · rw [Bool.eq_iff_iff]
    simp [List.filter_eq_nil_iff]

theorem State.commitDigest_eq (a : CommitArgs) : s.commitDigest st j a =
    (s.commitSealed st j a).setSteps st fun x => x.onCommit (s.commitDigested j a) := by
  have noted := State.badWords_nonempty (s := s) (s.digestWords (groupSpan a.ugrp a.count) (s.digestCopy false))
  unfold State.commitDigest State.commitDigested
  simp only [noted]
  rfl

theorem State.mark_landWork (step : W64) (cause : Nat) : s.landWork (s.mark st (some step) cause) st :=
  ⟨⟨by rw [State.stepsOnly, State.mark, State.count_stand, s.setStand_stand_same], fun _ hk => s.setStand_stand_ne hk _, rfl, rfl⟩, rfl⟩

theorem State.commitSealed_landAside (a : CommitArgs) : s.landAside (s.commitSealed st j a) st := by
  unfold State.commitSealed
  extract_lets ks words bad t
  have sealed : s.landAside t st := (((s.noteWords_landWork st words).tolandAside).trans (State.sealGroups_landAside _ st ks)).trans
    (State.count_landWork _ st _ _).tolandAside
  split
  · exact sealed
  · exact sealed.trans (State.mark_landWork _ _).tolandAside

theorem State.commitSealed_commits (a : CommitArgs) :
    ((s.commitSealed st j a).stand st).steps.commits = (s.stand st).steps.commits := by
  unfold State.commitSealed
  extract_lets ks words bad t
  have stand : t.stand st = s.stand st := (State.onGroups_stand _ ks UGroup.sealUp st).trans ((s.noteWords_stored words).stand st)
  split
  · rw [stand]
  · rw [State.mark, State.count_stand, State.setStand_stand_same, stand]; rfl

theorem State.commitSealed_ugroup (a : CommitArgs) (k : Nat) : (s.commitSealed st j a).ugroup k = { s.ugroup k with
    isSealed := (s.ugroup k).isSealed || ((groupSpan a.ugrp a.count).contains k && (s.ugroup k).tent) } := by
  unfold State.commitSealed
  extract_lets ks words bad t
  have sealed : t.ugroup k = { s.ugroup k with isSealed := (s.ugroup k).isSealed || (ks.contains k && (s.ugroup k).tent) } := by
    refine (State.sealGroups_ugroup _ ks k).trans ?_
    rw [(s.noteWords_landWork st words).ugroup k]
  split
  · exact sealed
  · exact (State.mark_landWork _ _).ugroup k |>.trans sealed

theorem State.commitSealed_clean (a : CommitArgs) (clean : s.hbm.diff = []) : (s.commitSealed st j a).hbm = s.hbm := by
  unfold State.commitSealed
  extract_lets ks words bad t
  have kept : t.hbm = s.hbm := (State.sealGroups_hbm _ ks).trans (by rw [State.noteWords_clean clean])
  split
  · exact kept
  · exact kept

include now

theorem exec_commitPhase1End (own : j.ticket = tkt) (alive : s.alive = true) : exec (.commitPhase1End st tkt) s = .next (
    if j.phase = 1 ∧ (s.stand st).steps.rollback.isNone ∧ !(s.stand st).steps.inReplay ∧ s.phase1Over st j c then
      s.commitDigest st j (commitArgs c.bytes) else s) := by
  change execCommitPhase1End st tkt s = _
  simp only [execCommitPhase1End, now, own, alive, true_and]

end

/-! ### The ledger settled, and the message sent -/

section
variable {s t : State} {st tkt : Nat} {c : Cmd} {j z : CommitSt}

/-- The messages that a COMMIT waits for depend on the member table, the messages that came, and the fences. -/
theorem State.commitMsgs_congr (mtabs : (t.stand st).mtabs = (s.stand st).mtabs)
    (msgs : (t.stand st).steps.msgs = (s.stand st).steps.msgs) (round : (t.stand st).steps.round = (s.stand st).steps.round)
    (img : t.img = s.img) (fences : t.fabric.fences = s.fabric.fences) (mtab : z.mtab = j.mtab) (step : z.step = j.step) :
    t.commitMsgs st z = s.commitMsgs st j := by
  have tab : t.mtab st j.mtab = s.mtab st j.mtab := by rw [State.mtab, mtabs]; rfl
  have ranks (r : Nat) : t.rankFenced st j.mtab r = s.rankFenced st j.mtab r := by
    simp only [State.rankFenced, State.fenced, tab, fences]
  simp only [State.commitMsgs, State.rankIn, mtab, step, tab, ranks, msgs, round, img]
  rfl

/-- The COMMIT once its message is sent: the message names the oldest marked step. -/
def CommitSt.told (j : CommitSt) (x : StepSt) : CommitSt :=
  let live := ((x.covered j.step).find? fun r => r.mark.isSome).map (·.step)
  { j with phase := 4, rollback := live.isSome || j.bad, firstLive := live.getD 0xffffffffffffffff }

theorem CommitSt.told_rollback (x : StepSt) : (j.told x).rollback = ((x.covered j.step).any (fun r => r.mark.isSome) || j.bad) := by
  simp [CommitSt.told, Option.isSome_map, List.isSome_find?]

/-- The state once the message is sent, before what it decides. -/
def State.commitTold (s : State) (st : Nat) (j : CommitSt) : State :=
  (s.setSteps st fun y => y.onCommit (j.told (s.stand st).steps)).sendCommit st (j.told (s.stand st).steps)

theorem State.commitTold_sends : (s.setSteps st fun y => y.onCommit (j.told (s.stand st).steps)).sends (s.commitTold st j) st :=
  State.sendCommit_sends _ st _

theorem State.commitTold_steps : ((s.commitTold st j).stand st).steps = (s.stand st).steps.onCommit (j.told (s.stand st).steps) := by
  rw [State.commitTold_sends.steps, State.setSteps_stand]

theorem State.commitTold_commitNow (now : s.commitNow st = some (j, c)) :
    (s.commitTold st j).commitNow st = some (j.told (s.stand st).steps, c) := by
  have first := State.onCommit_commitNow now (z := j.told (s.stand st).steps) rfl
  rw [← first, State.commitNow, State.commitNow, State.commitTold_sends.stand]
  rfl

theorem State.commitTold_msgs : (s.commitTold st j).commitMsgs st (j.told (s.stand st).steps) = s.commitMsgs st j := by
  have sent := State.commitTold_sends (s := s) (st := st) (j := j)
  refine State.commitMsgs_congr ?_ ?_ ?_ (img_of_frame sent.frame) sent.fences rfl rfl
  · rw [sent.stand, State.setSteps_stand]
  · rw [sent.steps, State.setSteps_stand]; rfl
  · rw [sent.steps, State.setSteps_stand]; rfl

theorem State.commitTold_memory : s.memoryKept (s.commitTold st j) :=
  State.memoryKept.trans (t := s.setSteps st fun y => y.onCommit (j.told (s.stand st).steps)) ⟨rfl, rfl, rfl⟩ State.commitTold_sends.memory

theorem State.commitTold_others : s.standOnly (s.commitTold st j) st :=
  (State.setSteps_onlyStand _).1.trans State.commitTold_sends.others

theorem State.commitTold_outputs : ((s.commitTold st j).stand st).outputs = (s.stand st).outputs := by
  rw [State.commitTold_sends.outputs, State.setSteps_stand]; rfl

/-- A COMMIT that still waits for a message decides nothing. -/
theorem State.tryDecide_waits (now : s.commitNow st = some (j, c)) (missing : ∃ q ∈ s.commitMsgs st j, q.2 = none) :
    s.tryDecide st = s := by
  obtain ⟨q, hq, none⟩ := missing
  rw [State.tryDecide, now]
  simp only []
  rw [if_neg]
  rintro ⟨-, -, all⟩
  have came := List.all_eq_true.mp all q hq
  rw [none] at came
  cases came

theorem exec_ledgerSettled (now : s.commitNow st = some (j, c)) (own : j.ticket = tkt) (alive : s.alive = true) :
    exec (.ledgerSettled st tkt) s = .next (
      if j.phase = 3 ∧ (s.stand st).steps.rollback.isNone ∧ (s.stand st).openOwn.all (fun e =>
          !((s.stand st).steps.covered j.step).any fun r => decide (e.step = some r.step)) then (s.commitTold st j).tryDecide st
      else s) := by
  subst own
  change execLedgerSettled st j.ticket s = _
  simp only [execLedgerSettled, now, alive, true_and]
  rfl

/-- No open entry belongs to a covered step. -/
theorem StandSt.settled_iff {x : StandSt} {step : W64} : (x.openOwn.all fun e => !(x.steps.covered step).any fun r => decide (e.step = some r.step)) =
    true ↔ ∀ e ∈ x.openOwn, ∀ r ∈ x.steps.covered step, e.step ≠ some r.step := by
  simp

end

/-- Settles O40: each phase is its equation of `exec`, and what it leaves as it was is what digesting, marking and sending leave. -/
theorem commitPhases : Obligations.CommitPhases := by
  unfold Obligations.CommitPhases
  refine ⟨?begins, ?digests, ?tells⟩
  case begins =>
    intro s st tkt c a run ha
    obtain ⟨cmd, -⟩ := State.canRun_some run
    have ticket := StandSt.cmd_ticket cmd
    subst ha
    refine ⟨exec_commit_waits run, fun free none first => ?_⟩
    have runs := exec_commit_begins run free none first
    obtain ⟨others, memory, -⟩ := State.commitEntered_onlyStand (s := s) (st := st) (tkt := tkt) (c := c)
    have stand := State.commitEntered_stand (s := s) (st := st) (tkt := tkt) (c := c)
    have entered := State.commitEntered_cmd cmd
    generalize hu : s.commitEntered st tkt c = u at *
    refine ⟨fun may => ?_, fun ordinary member never => ?_⟩
    · have outcome : exec (.commit st tkt) s = .next (u.asked st (if (commitArgs c.bytes).rollbackOnly then some .only
          else if s.expelledFrom st (commitArgs c.bytes).mtab then some (.halt 0x0111) else Option.none)) := by
        rw [runs]
        congr 1
        split_ifs with only expelled never
        · rfl
        · rfl
        · simp [only, expelled] at may
          simp [may] at never
        · rfl
      have idle : (u.stand st).steps.rollback = Option.none := by rw [stand]; exact none
      obtain ⟨others', memory', -⟩ := State.asked_onlyStand (u := u) (st := st) (if (commitArgs c.bytes).rollbackOnly then some .only
        else if s.expelledFrom st (commitArgs c.bytes).mtab then some (.halt 0x0111) else Option.none)
      have asked := State.asked_stand (if (commitArgs c.bytes).rollbackOnly then some .only
        else if s.expelledFrom st (commitArgs c.bytes).mtab then some (.halt 0x0111) else Option.none) idle
      refine ⟨_, s.commitBegun st tkt (commitArgs c.bytes), outcome, ?_, ?_, rfl, rfl, rfl, rfl, ?_, ?_, memory.trans memory', ?_,
        others.trans others', exec_frame _ rfl outcome⟩
      · rw [State.stageOf, asked]
        exact congrArg (Option.map Cmd.stage) entered
      · rw [asked, stand]; rfl
      · rw [asked]
      · rw [asked, stand]; rfl
      · rw [asked, stand]; rfl
    · rw [ordinary, member, never] at runs
      simp only [Bool.false_eq_true, if_false, Bool.not_false, if_true] at runs
      obtain ⟨others', memory', -⟩ := State.commitDone_onlyStand (s := u) (st := st) (j := s.commitBegun st tkt (commitArgs c.bytes)) (c := c)
        (status := [0x0102]) (blaze := u.freeBlaze) (rounds := (s.stand st).steps.round)
        (n := u.nByte (u.countedMembers st (s.commitBegun st tkt (commitArgs c.bytes))))
      have ended := State.commitDone_cmd (j := s.commitBegun st tkt (commitArgs c.bytes)) (status := [0x0102]) (blaze := u.freeBlaze)
        (rounds := (s.stand st).steps.round) (n := u.nByte (u.countedMembers st (s.commitBegun st tkt (commitArgs c.bytes))))
        entered ticket
      refine ⟨_, runs, congrArg (Option.map Cmd.stage) ended, ?_, congrArg (Option.map Cmd.statuses) ended, memory.trans memory', ?_,
        others.trans others', exec_frame _ rfl runs⟩
      · rw [State.commitDone_steps, stand]
        simp [StandSt.setCmd]
      · rw [State.commitDone_outputs, stand]; rfl
  case digests =>
    intro s st tkt c j ks alive now own span
    obtain ⟨⟨js, commits⟩, cmd⟩ := State.commitNow_some now
    have runs := exec_commitPhase1End now own alive
    subst span
    refine ⟨fun skip => ?_, fun one none idle begun applied => ?_⟩
    · rw [runs, if_neg]
      rintro ⟨one, none, idle, past⟩
      rcases skip with other | rollback | replay | early
      · exact other one
      · exact rollback (Option.isNone_iff_eq_none.mp none)
      · simp [replay] at idle
      · simp [early] at past
    · have past : s.phase1Over st j c = true := by
        rw [State.phase1Over, Bool.and_eq_true, decide_eq_true_eq, List.all_eq_true]
        exact ⟨begun, fun r hr => Bool.and_eq_true_iff.mpr ((applied r hr).imp decide_eq_true decide_eq_true)⟩
      rw [if_pos ⟨one, by rw [none]; rfl, by simp [idle], past⟩, State.commitDigest_eq] at runs
      have aside := State.commitSealed_landAside (s := s) (st := st) (j := j) (commitArgs c.bytes)
      have commits' := (State.commitSealed_commits (s := s) (st := st) (j := j) (commitArgs c.bytes)).trans commits
      obtain ⟨rest, head⟩ := StepSt.onCommit_head (z := s.commitDigested j (commitArgs c.bytes)) commits' rfl
      refine ⟨_, runs, ?_, State.commitSealed_ugroup _, State.commitSealed_clean _, aside.comp, ?_,
        aside.others.trans (State.setSteps_onlyStand _).1, exec_frame _ rfl runs⟩
      · rw [State.setSteps_stand, head]; rfl
      · rw [State.setSteps_stand, aside.steps]; rfl
  case tells =>
    intro s st tkt c j alive now own three none
    obtain ⟨⟨js, commits⟩, cmd⟩ := State.commitNow_some now
    have runs := exec_ledgerSettled now own alive
    refine ⟨fun unsettled => ?_, fun settled missing => ?_⟩
    · rw [runs, if_neg]
      rintro ⟨-, -, settled⟩
      obtain ⟨e, he, r, hr, step⟩ := unsettled
      exact StandSt.settled_iff.mp settled e he r hr step
    · rw [if_pos ⟨three, by rw [none]; rfl, StandSt.settled_iff.mpr settled⟩,
        State.tryDecide_waits (State.commitTold_commitNow now) (by rw [State.commitTold_msgs]; exact missing)] at runs
      obtain ⟨rest, head⟩ := StepSt.onCommit_head (z := j.told (s.stand st).steps) commits rfl
      refine ⟨_, j.told (s.stand st).steps, runs, ?_, rfl, rfl, rfl, CommitSt.told_rollback _, rfl, State.commitTold_memory,
        State.commitTold_outputs, State.commitTold_others, exec_frame _ rfl runs⟩
      rw [State.commitTold_steps, head]; rfl

end Sys2Proof.Machine
end

section
/-! The commit (spec/12 R312 to R314, R328): the messages that agree, the decision, and every update group at one point. -/

namespace Sys2Proof.Machine

/-! ### Messages that agree -/

section
variable {s : State} {st : Nat} {c : Cmd} {j : CommitSt}

/-- No peer of the stand is a sapling. -/
theorem StandSt.sapling_false {x : StandSt} (grown : ∀ p ∈ x.peers, p.state ≠ .sapling) (d : W16) : x.sapling d = false :=
  List.any_eq_false.mpr fun p hp => by simp [grown p hp]

/-- Where every message is there and carries the stand's own Blaze, and none is a sapling's, the stand commits. -/
theorem State.tryDecide_commits (now : s.commitNow st = some (j, c)) (four : j.phase = 4) (none : (s.stand st).steps.rollback = none)
    (own : j.rollback = false) (grown : ∀ p ∈ (s.stand st).peers, p.state ≠ .sapling)
    (agree : ∀ q ∈ s.commitMsgs st j, ∃ m, q.2 = some m ∧ m.rollback = false ∧ m.blaze = j.blaze) :
    s.tryDecide st = s.commitOk st j c (1 + (s.commitMsgs st j).length) 0 (s.commitMsgs st j) := by
  have came : (s.commitMsgs st j).all (fun q => q.2.isSome) = true := List.all_eq_true.mpr fun q hq => by
    obtain ⟨m, hm, -⟩ := agree q hq
    rw [hm]; rfl
  have kept (p : Nat × Option CommitMsg → Bool) (h : ∀ q, p q = true) : (s.commitMsgs st j).filter p = s.commitMsgs st j :=
    List.filter_eq_self.mpr fun q _ => h q
  have counted : ((s.commitMsgs st j).filterMap Prod.snd).length = (s.commitMsgs st j).length :=
    List.filterMap_length_eq_length.mpr fun q hq => List.all_eq_true.mp came q hq
  have carried : ∀ m ∈ s.ownMsg st j :: (s.commitMsgs st j).filterMap Prod.snd, m.rollback = false ∧ m.blaze = j.blaze := by
    intro m hm
    rcases List.mem_cons.mp hm with rfl | hm
    · exact ⟨own, rfl⟩
    · obtain ⟨q, hq, found⟩ := List.mem_filterMap.mp hm
      obtain ⟨k, hk, carries⟩ := agree q hq
      obtain rfl := Option.some.inj (found.symm.trans hk)
      exact carries
  have verdict := verdict_commit (fun m hm => (carried m hm).1) fun a ha b hb => (carried a ha).2.trans (carried b hb).2.symm
  rw [State.tryDecide, now]
  simp only []
  rw [if_pos ⟨four, by rw [none]; rfl, came⟩, State.decideCommit]
  dsimp only
  rw [kept]
  · rw [verdict, List.length_cons, counted, Nat.add_comm]
  · intro q
    split
    · rw [StandSt.sapling_false grown]; rfl
    · rfl

end

/-! ### A background copy begins -/

/-- `y` is the stand `x` but for its background copy and what sending changes. -/
def StandSt.mirrored (x y : StandSt) : Prop :=
  y = { x with
    steps := { x.steps with copy := y.steps.copy, mirrorWait := y.steps.mirrorWait, mirrorOdd := y.steps.mirrorOdd }
    colls := y.colls, perms := y.perms, ledger := y.ledger, recovery := y.recovery, reqs := y.reqs, nextTag := y.nextTag
    held := y.held }

theorem StandSt.mirrored.trans {x y z : StandSt} (h : x.mirrored y) (k : y.mirrored z) : x.mirrored z := by
  unfold StandSt.mirrored at h k ⊢
  rw [h] at k
  exact k

/-- From `s` to `t` a background copy of stand `st` may begin and write, and no update group and no other stand changes. -/
structure State.copies (s t : State) (st : Nat) : Prop where
  stand : (s.stand st).mirrored (t.stand st)
  others : s.standOnly t st
  comp : t.comp = s.comp
  groups : t.mem.groups = s.mem.groups
  frame : t.frame = s.frame

section
variable {s t u : State} {st : Nat}

theorem State.copies.refl (s : State) (st : Nat) : s.copies s st := ⟨rfl, fun _ _ => rfl, rfl, rfl, rfl⟩

theorem State.copies.trans (h : s.copies t st) (k : t.copies u st) : s.copies u st :=
  ⟨h.stand.trans k.stand, h.others.trans k.others, k.comp.trans h.comp, k.groups.trans h.groups, k.frame.trans h.frame⟩

theorem State.sends.copies (h : s.sends t st) : s.copies t st := by
  obtain ⟨-, comp, mem⟩ := h.memory
  refine ⟨?_, h.others, comp, by rw [mem], h.frame⟩
  have sent := h.stand
  unfold StandSt.sent at sent
  unfold StandSt.mirrored
  rw [sent]

theorem State.stored.copies (h : s.stored t) : s.copies t st :=
  ⟨by rw [h.stand]; rfl, fun k _ => h.stand k, h.comp, h.groups, h.frame⟩

theorem State.setStand_copies {x : StandSt} (h : (s.stand st).mirrored x) : s.copies (s.setStand st x) st :=
  ⟨by rw [s.setStand_stand_same]; exact h, fun _ hk => s.setStand_stand_ne hk x, rfl, rfl, rfl⟩

theorem State.count_copies (s : State) (st k n : Nat) : s.copies (s.count k n) st := ⟨rfl, fun _ _ => rfl, rfl, rfl, rfl⟩

theorem State.copies.ugroup (h : s.copies t st) (k : Nat) : t.ugroup k = s.ugroup k := by
  rw [State.ugroup, h.groups, State.udef, img_of_frame h.frame]; rfl

theorem State.copies.cmd (h : s.copies t st) (tkt : Nat) : (t.stand st).cmd tkt = (s.stand st).cmd tkt := by
  rw [StandSt.cmd, h.stand]; rfl

theorem State.copies.outputs (h : s.copies t st) : (t.stand st).outputs = (s.stand st).outputs := by rw [h.stand]; rfl

/-- A request that finds no fence and a route is sent, or waits to be. -/
theorem State.ask_sent {h : HeldReq} (clear : s.fenced st h.dst = false) (route : (s.routeOf h).isSome = true) :
    (s.ask st h).2 = .sent := by
  obtain ⟨e, he⟩ := Option.isSome_iff_exists.mp route
  rw [State.ask, clear, if_neg Bool.false_ne_true, he]
  dsimp only
  split <;> rfl

/-- A fold of sends whose steps need what sending keeps. -/
theorem State.foldl_sends_of {α : Type} {f : State → α → State} {P : State → Prop} (keeps : ∀ u v, u.sends v st → P u → P v)
    (h : ∀ (u : State) a, P u → u.sends (f u a) st) (l : List α) (hs : P s) : s.sends (l.foldl f s) st := by
  induction l generalizing s with
  | nil => exact State.sends.refl s st
  | cons a l ih => exact (h s a hs).trans (ih (keeps _ _ (h s a hs) hs))

/-- A copy to a peer sends its words, where nobody is to hear of a request that is not sent, or each is. -/
theorem State.copyOut_sends {b : BgCopy} {d : W16} {ds : Nat} (remote : b.remote = some (d, ds)) (off : Nat) (bs : List Byte)
    (fs : Tab (Byte × Byte)) (sent : b.ticket = none ∨ s.fenced st d = false ∧ (s.routeTo d).isSome = true) :
    s.sends (s.copyOut st b off bs fs) st := by
  rw [State.copyOut, remote]
  refine State.foldl_sends_of (P := fun u => b.ticket = none ∨ u.fenced st d = false ∧ (u.routeTo d).isSome = true) ?_ ?_ _ sent
  · rintro u v work (none | ⟨clear, route⟩)
    · exact .inl none
    · exact .inr ⟨(work.fenced st d).trans clear, by rw [work.routeTo]; exact route⟩
  · intro u p ready
    dsimp only [State.requestWith]
    generalize hr : u.ask st _ = r
    have work : u.sends r.1 st := hr ▸ u.ask_sends st _
    rcases ready with none | ⟨clear, route⟩
    · rw [none]
      cases r.2 <;> exact work
    · have went : r.2 = .sent := hr ▸ State.ask_sent clear route
      rw [went]
      exact work

/-- A copy in the stand's own memory writes its words. -/
theorem State.copyOut_stored {b : BgCopy} (own : b.remote = none) (off : Nat) (bs : List Byte) (fs : Tab (Byte × Byte)) :
    s.stored (s.copyOut st b off bs fs) := by
  rw [State.copyOut, own]
  exact (s.writeSoft_stored _ _).trans (State.keepDiffs_stored _ _ _)

theorem State.copyOut_copies {b : BgCopy} (none : b.ticket = none) (off : Nat) (bs : List Byte) (fs : Tab (Byte × Byte)) :
    s.copies (s.copyOut st b off bs fs) st := by
  cases remote : b.remote with
  | none => exact (State.copyOut_stored remote off bs fs).copies
  | some m => exact (State.copyOut_sends remote off bs fs (.inl none)).copies

theorem State.setCopy_copies (b : Option BgCopy) : s.copies (s.setCopy st b) st := State.setStand_copies (by rfl)

theorem State.beginCopy_copies {b : BgCopy} (none : b.ticket = none) : s.copies (s.beginCopy st b) st :=
  (State.setCopy_copies _).trans (State.copyOut_copies (b := s.pinned st b) none _ _ _)

theorem State.startMirror_copies (ctx : Nat) (a : CommitArgs) : s.copies (s.startMirror st ctx a) st := by
  unfold State.startMirror
  split
  · exact State.copies.refl s st
  · extract_lets x b t
    have turned : s.copies t st := State.setStand_copies (by rfl)
    have unnamed : b.ticket = none := rfl
    clear_value x b
    split
    · exact turned
    · split
      · exact (turned.trans (State.setStand_copies (by rfl))).trans (State.count_copies _ st _ _)
      · exact turned.trans (State.beginCopy_copies unnamed)

end

/-! ### The update groups at one point -/

/-- An operation on groups that done twice is the same as once does each group named once. -/
theorem State.onGroups_ugroup {f : UGroup → UGroup} (twice : ∀ g, f (f g) = f g) (s : State) (ks : List Nat) (k : Nat) :
    (s.onGroups ks f).ugroup k = if k ∈ ks then f (s.ugroup k) else s.ugroup k := by
  induction ks generalizing s with
  | nil => rfl
  | cons a ks ih =>
    have first : s.onGroups (a :: ks) f = (s.setUgroup a (f (s.ugroup a))).onGroups ks f := rfl
    rw [first, ih]
    by_cases here : k = a
    · subst here
      rw [State.setUgroup_ugroup_same]
      simp [twice]
    · rw [State.setUgroup_ugroup_ne _ here]
      simp [here]

theorem State.onlyStand.ugroup {s t : State} {st : Nat} (h : s.onlyStand t st) (k : Nat) : t.ugroup k = s.ugroup k := by
  obtain ⟨-, ⟨-, -, mem⟩, -, -, -, -, -, -, -, frame⟩ := h
  rw [State.ugroup, mem, State.udef, img_of_frame frame]
  rfl

theorem UGroup.commit_commit (g : UGroup) : g.commit.commit = g.commit := by
  unfold UGroup.commit
  by_cases stays : (g.damaged || !g.tent) = true
  · simp [stays]
  · simp only [stays, Bool.false_eq_true, if_false, Bool.not_false, Bool.or_true, if_true]

/-! ### The commit takes effect -/

/-- The stand's steps once a COMMIT has taken effect. -/
def StepSt.committedTo (x : StepSt) (step : W64) : StepSt :=
  { x with
    committed := step, committedValid := true, meta_ := x.metaFor step, restored := none, round := 0
    records := x.records.filter fun r => decide (step.toNat < r.step.toNat)
    msgs := x.msgs.filter fun m => decide (step.toNat < m.step.toNat) }

section
variable {s : State} {st : Nat} {j : CommitSt} {c k : Cmd} {d : CommitDecision}

theorem State.commitStand_stand : ∃ window, (s.commitStand st j).stand st =
    { (({ s.stand st with steps := (s.stand st).steps.committedTo j.step } : StandSt).release j.step) with recovery := window } := by
  unfold State.commitStand
  extract_lets x n t y _ u
  have stand : u.stand st = ({ s.stand st with steps := (s.stand st).steps.committedTo j.step } : StandSt).release j.step := by
    exact State.setStand_stand_same _ st _
  split
  · exact ⟨false, (State.setStand_stand_same u st _).trans (congrArg (fun x : StandSt => { x with recovery := false }) stand)⟩
  · exact ⟨_, stand⟩

theorem State.commitStand_ugroup (i : Nat) : (s.commitStand st j).ugroup i =
    if i ∈ s.groupsOf st then (s.ugroup i).commit else s.ugroup i := by
  rw [← State.onGroups_ugroup UGroup.commit_commit s (s.groupsOf st) i]
  unfold State.commitStand
  extract_lets x n t y _ u
  split <;> rfl

theorem State.commitStand_cmd (tkt : Nat) : ((s.commitStand st j).stand st).cmd tkt = (s.stand st).cmd tkt := by
  obtain ⟨window, stand⟩ := State.commitStand_stand (s := s) (st := st) (j := j)
  rw [stand]
  rfl

theorem State.judgeSaplings_adults (grown : ∀ p ∈ (s.stand st).peers, p.state ≠ .sapling) (steps : Nat)
    (ms : List (Nat × Option CommitMsg)) : s.judgeSaplings st j steps ms = s := by
  refine List.foldl_fixed' (fun q => ?_) ms
  split
  · rw [StandSt.sapling_false grown, if_neg Bool.false_ne_true]
  · rfl

/-- The state with the stand committed and the COMMIT at its end, before a mirror begins. -/
def State.commitEnded (s : State) (st : Nat) (j : CommitSt) (c : Cmd) (d : CommitDecision) : State :=
  (s.commitStand st j).commitDone st { j with expelled := d.expelled } c [] (natLe 16 j.blaze.toNat) (s.stand st).steps.round (s.nByte d.n)

/-- Where no member is a sapling, a commit is the groups' and the records', the COMMIT's end, and perhaps a mirror. -/
theorem State.commitFlip_copies (grown : ∀ p ∈ (s.stand st).peers, p.state ≠ .sapling) :
    (s.commitEnded st j c d).copies (s.commitFlip st j c d) st := by
  have grown' : ∀ p ∈ ((s.commitStand st j).stand st).peers, p.state ≠ .sapling := by
    obtain ⟨window, stand⟩ := State.commitStand_stand (s := s) (st := st) (j := j)
    rw [stand]
    exact grown
  have flip : s.commitFlip st j c d = if (commitArgs c.bytes).mirror then
      (s.commitEnded st j c d).startMirror st c.context (commitArgs c.bytes) else s.commitEnded st j c d := by
    rw [State.commitFlip]
    simp only [State.judgeSaplings_adults grown']
    rfl
  rw [flip]
  split
  · exact State.startMirror_copies _ _
  · exact State.copies.refl _ st

theorem State.commitEnded_steps : ((s.commitEnded st j c d).stand st).steps = { (s.stand st).steps.committedTo j.step with
    commits := (s.stand st).steps.commits.filter fun k => decide (k.ticket ≠ j.ticket) } := by
  obtain ⟨window, stand⟩ := State.commitStand_stand (s := s) (st := st) (j := j)
  rw [State.commitEnded, State.commitDone_steps, stand]
  rfl

theorem State.commitEnded_outputs : ((s.commitEnded st j c d).stand st).outputs = (s.stand st).outputs := by
  obtain ⟨window, stand⟩ := State.commitStand_stand (s := s) (st := st) (j := j)
  rw [State.commitEnded, State.commitDone_outputs, stand]
  rfl

theorem State.commitEnded_cmd {tkt : Nat} (cmd : (s.stand st).cmd tkt = some k) (own : c.ticket = tkt) :
    (s.commitEnded st j c d).stageOf st tkt = some .done :=
  congrArg (Option.map Cmd.stage) (State.commitDone_cmd ((State.commitStand_cmd tkt).trans cmd) own)

theorem State.commitEnded_underway : s.underway (s.commitEnded st j c d) st :=
  (s.commitStand_underway st j).trans (State.commitDone_underway _ st _ c _ _ _ _)

theorem State.commitEnded_ugroup (i : Nat) : (s.commitEnded st j c d).ugroup i =
    if i ∈ s.groupsOf st then (s.ugroup i).commit else s.ugroup i :=
  (State.commitDone_onlyStand.ugroup i).trans (State.commitStand_ugroup i)

/-- What a commit leaves. -/
structure State.flipped (s t : State) (st tkt : Nat) (step : W64) : Prop where
  stage : t.stageOf st tkt = some .done
  committed : (t.stand st).steps.committed = step ∧ (t.stand st).steps.committedValid = true
  fresh : (t.stand st).steps.round = 0 ∧ (t.stand st).steps.restored = none
  records : (t.stand st).steps.records = (s.stand st).steps.records.filter fun r => decide (step.toNat < r.step.toNat)
  groups : ∀ i, t.ugroup i = if i ∈ s.groupsOf st then (s.ugroup i).commit else s.ugroup i
  outputs : (t.stand st).outputs = (s.stand st).outputs
  others : s.standOnly t st
  comp : t.comp = s.comp

theorem State.commitFlip_flipped (grown : ∀ p ∈ (s.stand st).peers, p.state ≠ .sapling) {tkt : Nat} (cmd : (s.stand st).cmd tkt = some k)
    (own : c.ticket = tkt) : s.flipped (s.commitFlip st j c d) st tkt j.step := by
  have copied := State.commitFlip_copies (s := s) (st := st) (j := j) (c := c) (d := d) grown
  have underway := State.commitEnded_underway (s := s) (st := st) (j := j) (c := c) (d := d)
  have steps := State.commitEnded_steps (s := s) (st := st) (j := j) (c := c) (d := d)
  have groups (i : Nat) := State.commitEnded_ugroup (s := s) (st := st) (j := j) (c := c) (d := d) i
  have outputs := State.commitEnded_outputs (s := s) (st := st) (j := j) (c := c) (d := d)
  have ended := State.commitEnded_cmd (j := j) (c := c) (d := d) cmd own
  generalize s.commitEnded st j c d = t at *
  generalize s.commitFlip st j c d = u at *
  have moved : (u.stand st).steps = { (s.stand st).steps.committedTo j.step with
      commits := (u.stand st).steps.commits, copy := (u.stand st).steps.copy, mirrorWait := (u.stand st).steps.mirrorWait
      mirrorOdd := (u.stand st).steps.mirrorOdd } := by
    rw [copied.stand, steps]
  refine ⟨?_, ?_, ?_, ?_, fun i => (copied.ugroup i).trans (groups i), copied.outputs.trans outputs,
    underway.others.trans copied.others, copied.comp.trans underway.comp⟩
  · rw [State.stageOf, copied.cmd]
    exact ended
  · rw [moved]; exact ⟨rfl, rfl⟩
  · rw [moved]; exact ⟨rfl, rfl⟩
  · rw [moved]; rfl

end

/-! ### The decision is due -/

/-- From `s` to `v` the COMMIT in hand of `s` is ready to be decided, and nothing else changes but what sending does. -/
structure State.poised (s v : State) (st : Nat) (j z : CommitSt) (c : Cmd) : Prop where
  now : v.commitNow st = some (z, c)
  four : z.phase = 4
  calm : z.rollback = false
  blaze : z.blaze = j.blaze
  step : z.step = j.step
  mtab : z.mtab = j.mtab
  msgs : v.commitMsgs st z = s.commitMsgs st j
  steps : (v.stand st).steps = { (s.stand st).steps with commits := (v.stand st).steps.commits }
  stand : ({ s.stand st with steps := (v.stand st).steps } : StandSt).sent (v.stand st)
  others : s.standOnly v st
  memory : s.memoryKept v
  frame : v.frame = s.frame

section
variable {s v : State} {st : Nat} {c : Cmd} {j z : CommitSt}

/-- The ledger settled, and none of the covered steps marked. -/
theorem State.commitTold_poised (now : s.commitNow st = some (j, c)) (unmarked : ∀ r ∈ (s.stand st).steps.covered j.step, r.mark = none)
    (good : j.bad = false) : s.poised (s.commitTold st j) st j (j.told (s.stand st).steps) c := by
  have sent := State.commitTold_sends (s := s) (st := st) (j := j)
  refine ⟨State.commitTold_commitNow now, rfl, ?_, rfl, rfl, rfl, State.commitTold_msgs, ?_, ?_, State.commitTold_others,
    State.commitTold_memory, sent.frame⟩
  · rw [CommitSt.told_rollback, good, Bool.or_false]
    exact List.any_eq_false.mpr fun r hr => by simp [unmarked r hr]
  · rw [State.commitTold_steps]; rfl
  · have stand := sent.stand
    rw [State.setSteps_stand] at stand
    rw [State.commitTold_steps]
    exact stand

/-- The stand's steps with a commit message kept, unless its step is committed already. -/
def StepSt.keepMsg (x : StepSt) (m : CommitMsg) : StepSt :=
  if x.committedValid ∧ m.step.toNat ≤ x.committed.toNat then x
  else { x with msgs := x.msgs.filter (fun k => !(decide (k.mtabVersion = m.mtabVersion) && decide (k.step = m.step) &&
    decide (k.round = m.round) && decide (k.rank = m.rank))) ++ [m] }

theorem State.takeCommitMsg_eq (m : CommitMsg) : s.takeCommitMsg st m = (s.setSteps st fun x => x.keepMsg m).tryDecide st := rfl

theorem exec_commitMessage {m : CommitMsg} (alive : s.alive = true) (on : (s.cfg st).enabled = true) :
    exec (.commitMessage st m) s = .next ((s.setSteps st fun x => x.keepMsg m).tryDecide st) := by
  change execCommitMessage st m s = _
  rw [execCommitMessage, if_pos ⟨alive, on⟩, State.takeCommitMsg_eq]

/-- A member's message of a step that is committed already changes nothing. -/
theorem State.message_poised (now : s.commitNow st = some (j, c)) (four : j.phase = 4) (calm : j.rollback = false) {f : StepSt → StepSt}
    (same : f (s.stand st).steps = (s.stand st).steps) : s.poised (s.setSteps st f) st j j c := by
  have stand : (s.setSteps st f).stand st = s.stand st := by rw [State.setSteps_stand, same]
  refine ⟨(State.commitNow_congr stand).trans now, four, calm, rfl, rfl, rfl, ?_, by rw [stand], by rw [stand]; rfl,
    (State.setSteps_onlyStand f).1, ⟨rfl, rfl, rfl⟩, rfl⟩
  exact State.commitMsgs_congr (by rw [stand]) (by rw [stand]) (by rw [stand]) rfl rfl rfl rfl

/-- The COMMIT decided. -/
def CommitSt.decidedBy (z : CommitSt) (before : Nat) (ms : List (Nat × Option CommitMsg)) : CommitSt :=
  { z with phase := 5, decided := some ⟨before, 1 + ms.length, 0, ms⟩ }

/-- Messages that agree decide the commit, which takes effect unless a command has still to reach the old versions. -/
theorem State.poised.decides (h : s.poised v st j z c) (none : (s.stand st).steps.rollback = none)
    (grown : ∀ p ∈ (s.stand st).peers, p.state ≠ .sapling)
    (agree : ∀ q ∈ s.commitMsgs st j, ∃ m, q.2 = some m ∧ m.rollback = false ∧ m.blaze = j.blaze)
    (most : ¬((commitArgs c.bytes).quorum = true ∧ 2 * (1 + (s.commitMsgs st j).length) ≤ (s.mtab st j.mtab).members.length)) :
    v.tryDecide st = (v.setSteps st fun x => x.onCommit (z.decidedBy (s.stand st).nextTicket (s.commitMsgs st j))).settleCommit st
      false := by
  have peers : (v.stand st).peers = (s.stand st).peers := by rw [h.stand]
  have ticket : (v.stand st).nextTicket = (s.stand st).nextTicket := by rw [h.stand]
  have tab : v.mtab st z.mtab = s.mtab st j.mtab := by rw [State.mtab, h.stand, h.mtab]; rfl
  rw [State.tryDecide_commits h.now h.four (by rw [h.steps]; exact none) h.calm (by rw [peers]; exact grown)
    (by rw [h.msgs, h.blaze]; exact agree), State.commitOk, h.msgs, if_neg (by rw [tab]; exact most), ticket]
  rfl

/-- Which commands hold a commit back is decided by what is in flight and by the groups. -/
theorem State.commitHeld_congr {t : State} (inflight : (t.stand st).inflight = (s.stand st).inflight)
    (groups : ∀ k, t.ugroup k = s.ugroup k) (before : Nat) : t.commitHeld st before = s.commitHeld st before := by
  simp only [State.commitHeld, State.awaitsSeal, inflight, groups]

end

/-- Settles O42: the messages decide the commit, and either it takes effect or the decision stands. -/
theorem commitCommits : Obligations.CommitCommits := by
  unfold Obligations.CommitCommits
  intro s st tkt i c j alive now own none last agree grown most
  obtain ⟨v, z, runs, ready⟩ : ∃ v z, exec i s = .next (v.tryDecide st) ∧ s.poised v st j z c := by
    rcases last with ⟨rfl, three, settled, unmarked, good⟩ | ⟨⟨m, rfl, valid, past⟩, four, calm, on⟩
    · refine ⟨_, _, ?_, State.commitTold_poised now unmarked good⟩
      rw [exec_ledgerSettled now own alive, if_pos ⟨three, by rw [none]; rfl, StandSt.settled_iff.mpr settled⟩]
    · exact ⟨_, _, exec_commitMessage alive on, State.message_poised now four calm (if_pos ⟨valid, past⟩)⟩
  rw [ready.decides none grown agree most] at runs
  obtain ⟨z5, hz5⟩ : ∃ z5, z5 = z.decidedBy (s.stand st).nextTicket (s.commitMsgs st j) := ⟨_, rfl⟩
  obtain ⟨w, hw⟩ : ∃ w, w = v.setSteps st fun x => x.onCommit z5 := ⟨_, rfl⟩
  rw [← hz5, ← hw] at runs
  have decidedNow : w.commitNow st = some (z5, c) := by rw [hw]; exact State.onCommit_commitNow ready.now (by rw [hz5]; rfl)
  have stand : w.stand st = { v.stand st with steps := (v.stand st).steps.onCommit z5 } := by rw [hw]; exact State.setSteps_stand _
  have inflight : (w.stand st).inflight = (s.stand st).inflight := by rw [stand, ready.stand]
  obtain ⟨-, -, mem⟩ := ready.memory
  have img : w.img = s.img := by rw [hw]; exact img_of_frame ready.frame
  have groups (k : Nat) : w.ugroup k = s.ugroup k := by
    rw [State.ugroup, State.udef, img, hw]
    exact congrArg (fun g => Tab.get _ g k) (congrArg MemSys.groups mem)
  have others : s.standOnly w st := hw ▸ ready.others.trans (State.setSteps_onlyStand _).1
  have memory : s.memoryKept w := hw ▸ ready.memory.trans ⟨rfl, rfl, rfl⟩
  have records : (w.stand st).steps.records = (s.stand st).steps.records := by rw [stand, ready.steps]; rfl
  have committed : (w.stand st).steps.committed = (s.stand st).steps.committed := by rw [stand, ready.steps]; rfl
  have outputs : (w.stand st).outputs = (s.stand st).outputs := by rw [stand, ready.stand]; rfl
  have waits := State.commitHeld_congr inflight groups (s.stand st).nextTicket
  have settles : w.settleCommit st false = if s.commitHeld st (s.stand st).nextTicket then w
      else w.commitFlip st z5 c ⟨(s.stand st).nextTicket, 1 + (s.commitMsgs st j).length, 0, s.commitMsgs st j⟩ := by
    have decided : z5.decided = some ⟨(s.stand st).nextTicket, 1 + (s.commitMsgs st j).length, 0, s.commitMsgs st j⟩ := by rw [hz5]; rfl
    rw [State.settleCommit, decidedNow]
    simp only [decided, waits, Bool.not_false, Bool.true_and]
  rw [settles] at runs
  refine ⟨fun held => ?_, fun free => ?_⟩
  · rw [held, if_pos rfl] at runs
    obtain ⟨⟨zs, head⟩, -⟩ := State.commitNow_some decidedNow
    refine ⟨w, z5, runs, by rw [head]; rfl, by rw [hz5]; rfl, by rw [hz5]; rfl, committed, records, memory, outputs, others, exec_frame _ ?_ runs⟩
    rcases last with ⟨rfl, -⟩ | ⟨⟨m, rfl, -⟩, -⟩ <;> rfl
  · rw [free, if_neg Bool.false_ne_true] at runs
    have cmd : (w.stand st).cmd tkt = some c := by
      obtain ⟨-, cmd⟩ := State.commitNow_some now
      rw [← own, StandSt.cmd, inflight]
      exact cmd
    have grown' : ∀ p ∈ (w.stand st).peers, p.state ≠ .sapling := by rw [stand, ready.stand]; exact grown
    have step : z5.step = j.step := by rw [hz5]; exact ready.step
    have owned : w.groupsOf st = s.groupsOf st := by rw [State.groupsOf, img]; rfl
    generalize (⟨(s.stand st).nextTicket, 1 + (s.commitMsgs st j).length, 0, s.commitMsgs st j⟩ : CommitDecision) = d at runs
    obtain ⟨stage, ⟨done, valid⟩, ⟨round, restored⟩, kept, flipped, shown, otherStands, comp⟩ :=
      State.commitFlip_flipped (j := z5) (d := d) grown' cmd (StandSt.cmd_ticket cmd)
    rw [step] at done kept
    rw [records] at kept
    refine ⟨_, runs, stage, done, valid, round, restored, kept, fun k hk => ?_, fun k hk => ?_, shown.trans outputs,
      others.trans otherStands, comp.trans memory.2.1, exec_frame _ ?_ runs⟩
    · rw [flipped, owned, if_pos hk, groups]
    · rw [flipped, owned, if_neg hk, groups]
    · rcases last with ⟨rfl, -⟩ | ⟨⟨m, rfl, -⟩, -⟩ <;> rfl

end Sys2Proof.Machine
end

section
/-! What ends a COMMIT otherwise, and replay (spec/12 R311, R314 to R317). -/

namespace Sys2Proof.Machine

/-! ### Messages and waits -/

section
variable {s : State} {st tkt : Nat} {c : Cmd} {j : CommitSt}

theorem State.setSteps_congr {f g : StepSt → StepSt} (h : f (s.stand st).steps = g (s.stand st).steps) :
    s.setSteps st f = s.setSteps st g := by
  rw [State.setSteps, h]
  rfl

/-- A wait that runs out, while a member that is no sapling has not answered, asks for a rollback. -/
theorem exec_commitWaitExpire (now : s.commitNow st = some (j, c)) (own : j.ticket = tkt) (alive : s.alive = true)
    (waits : j.phase = 3 ∨ j.phase = 4) (none : (s.stand st).steps.rollback = none)
    (late : j.waitFrom.toNat + (s.cfg st).commitWaitMs * 1000000 ≤ s.clock.now.toNat)
    (silent : ∃ q ∈ s.commitMsgs st j, q.2 = Option.none ∧ ∀ m, (s.mtab st j.mtab).members[q.1]? = some m →
      (s.stand st).sapling m.1 = false) :
    exec (.commitWaitExpire st tkt) s = .next ((s.wantRollback st (.halt 0x0112)).countStand st cDckPeerTimeout) := by
  subst own
  change execCommitWaitExpire st j.ticket s = _
  simp only [execCommitWaitExpire, now]
  rw [if_pos ⟨alive, trivial, waits, by rw [none]; rfl, late⟩, if_neg]
  rintro ⟨-, all⟩
  obtain ⟨q, hq, missing, adult⟩ := silent
  have young := List.all_eq_true.mp all q (List.mem_filter.mpr ⟨hq, by rw [missing]; rfl⟩)
  cases member : (s.mtab st j.mtab).members[q.1]? with
  | none => simp [member] at young
  | some m => simp [member, adult m member] at young

end

/-! ### Records discarded -/

/-- No record of the steps waits for the STEP_END of a ticket. -/
def StepSt.unawaited (x : StepSt) (tkt : Nat) : Prop := ∀ r ∈ x.records, r.endTicket ≠ some tkt

section
variable (s : State) (st : Nat) (status : List W16) (rs : List StepRec)

theorem State.foldl_endStep_onlyStand : s.onlyStand (rs.foldl (fun t r => t.endStep st r status) s) st := by
  induction rs generalizing s with
  | nil => exact State.onlyStand.refl s st
  | cons r rs ih => exact (s.endStep_onlyStand st r status).trans (ih _)

theorem State.foldl_endStep_settledTo : (s.stand st).settledTo ((rs.foldl (fun t r => t.endStep st r status) s).stand st) := by
  induction rs generalizing s with
  | nil => exact .refl _
  | cons r rs ih => exact (s.endStep_settledTo st r status).trans (ih _)

theorem State.foldl_endStep_records : ((rs.foldl (fun t r => t.endStep st r status) s).stand st).steps.records =
    (s.stand st).steps.records := by
  induction rs generalizing s with
  | nil => rfl
  | cons r rs ih => rw [List.foldl_cons, ih, s.endStep_records]

theorem State.foldl_endStep_cmd {tkt : Nat} (h : ∀ r ∈ rs, r.endTicket ≠ some tkt) :
    ((rs.foldl (fun t r => t.endStep st r status) s).stand st).cmd tkt = (s.stand st).cmd tkt := by
  induction rs generalizing s with
  | nil => rfl
  | cons r rs ih =>
    rw [List.foldl_cons, ih _ fun q hq => h q (List.mem_cons_of_mem r hq), s.endStep_cmd st (h r List.mem_cons_self)]

end

section
variable {s : State} {st : Nat}

/-- The stand with every record gone, what it added open again, before the STEP_ENDs end. -/
def State.recordsGone (s : State) (st : Nat) : State :=
  let x := s.stand st
  let steps := x.steps.records.map (·.step)
  s.setStand st { x with
    steps := { x.steps with records := [] }
    ledger := x.ledger.filter (fun e => match e.step with | some n => !steps.contains n | none => true)
    carries := x.carries.map (·.unadd steps) }

theorem State.discardRecords_eq : s.discardRecords st =
    (s.stand st).steps.records.foldl (fun t r => t.endStep st r [0x0116]) (s.recordsGone st) := rfl

theorem State.discardRecords_onlyStand : s.onlyStand (s.discardRecords st) st :=
  (s.setStand_onlyStand st _).trans (State.foldl_endStep_onlyStand _ st _ _)

/-- No record is left; of the steps only the replay may change beside. -/
theorem State.discardRecords_steps : ∃ r, ((s.discardRecords st).stand st).steps = { (s.stand st).steps with records := [], replay := r } := by
  have begun : ((s.recordsGone st).stand st).steps = { (s.stand st).steps with records := [] } := by
    rw [State.recordsGone, State.setStand_stand_same]
  have none := (s.recordsGone st).foldl_endStep_records st [0x0116] (s.stand st).steps.records
  have rest := ((s.recordsGone st).foldl_endStep_settledTo st [0x0116] (s.stand st).steps.records).rest
  rw [State.discardRecords_eq]
  generalize (s.stand st).steps.records.foldl (fun t r => t.endStep st r [0x0116]) (s.recordsGone st) = u at *
  refine ⟨(u.stand st).steps.replay, ?_⟩
  rw [rest, none, begun]

theorem State.discardRecords_cmd {tkt : Nat} (h : (s.stand st).steps.unawaited tkt) :
    ((s.discardRecords st).stand st).cmd tkt = (s.stand st).cmd tkt := by
  rw [State.discardRecords_eq, State.foldl_endStep_cmd _ _ _ _ h, State.recordsGone, State.setStand_stand_same]
  rfl

end

/-! ### The rollback of the groups -/

section
variable {s : State} {st : Nat}

theorem UGroup.rollback_rollback (g : UGroup) : g.rollback.rollback = g.rollback := rfl

/-- The groups roll back, the member tables may take back the oldest record's instances, and the window opens. -/
theorem State.rollBack_eq : ∃ tabs, ∃ v : State,
    (v = s.onGroups (s.groupsOf st) UGroup.rollback ∨ v = (s.onGroups (s.groupsOf st) UGroup.rollback).setStand st
      { (s.onGroups (s.groupsOf st) UGroup.rollback).stand st with mtabs := tabs }) ∧
    s.rollBack st = (v.countStand st cDckRollbacks).openWindow st := by
  unfold State.rollBack
  dsimp only
  split
  · exact ⟨(s.stand st).mtabs, _, .inl rfl, rfl⟩
  · exact ⟨_, _, .inr rfl, rfl⟩

theorem State.rollBack_onlyStand : (s.onGroups (s.groupsOf st) UGroup.rollback).onlyStand (s.rollBack st) st := by
  obtain ⟨tabs, v, hv, e⟩ := State.rollBack_eq (s := s) (st := st)
  have moved : (s.onGroups (s.groupsOf st) UGroup.rollback).onlyStand v st := by
    rcases hv with rfl | rfl
    · exact State.onlyStand.refl _ st
    · exact State.setStand_onlyStand _ st _
  rw [e]
  exact (moved.trans (v.count_onlyStand st _ 1)).trans (State.setStand_onlyStand _ st _)

/-- Of the stand the member tables' instances and the recovery window may change. -/
theorem State.rollBack_stand : ∃ tabs, (s.rollBack st).stand st = { s.stand st with mtabs := tabs, recovery := true } := by
  obtain ⟨tabs, v, hv, e⟩ := State.rollBack_eq (s := s) (st := st)
  have stand := s.onGroups_stand (s.groupsOf st) UGroup.rollback st
  have opened : (s.rollBack st).stand st = { v.stand st with recovery := true } := by
    rw [e, State.openWindow, State.setStand_stand_same]
    rfl
  rw [opened]
  rcases hv with rfl | rfl
  · exact ⟨(s.stand st).mtabs, by rw [stand]⟩
  · exact ⟨tabs, by rw [State.setStand_stand_same, stand]⟩

theorem State.rollBack_ugroup (k : Nat) : (s.rollBack st).ugroup k =
    if k ∈ s.groupsOf st then (s.ugroup k).rollback else s.ugroup k :=
  (State.rollBack_onlyStand.ugroup k).trans (State.onGroups_ugroup UGroup.rollback_rollback s _ k)

theorem State.rollBack_hbm : (s.rollBack st).hbm = s.hbm := by
  obtain ⟨g, hg⟩ := s.onGroups_eq (s.groupsOf st) UGroup.rollback
  obtain ⟨-, ⟨hbm, -⟩, -⟩ := State.rollBack_onlyStand (s := s) (st := st)
  rw [hbm, hg]
  rfl

theorem State.rollBack_underway : s.underway (s.rollBack st) st := by
  obtain ⟨others, ⟨-, comp, -⟩, fabric, -⟩ := State.rollBack_onlyStand (s := s) (st := st)
  obtain ⟨tabs, stand⟩ := State.rollBack_stand (s := s) (st := st)
  refine (s.onGroups_underway st (s.groupsOf st) UGroup.rollback).trans ⟨others, comp, ?_, fun f hf => by rwa [fabric]⟩
  rw [stand, s.onGroups_stand]

/-! ### A rollback after which nothing is replayed -/

theorem State.rollbackOver_onlyStand (halt : Bool) : s.onlyStand (s.rollbackOver st halt) st :=
  State.discardRecords_onlyStand.trans (State.setSteps_onlyStand _)

theorem State.rollbackOver_steps (halt : Bool) : ∃ x : StepSt, ((s.rollbackOver st halt).stand st).steps = x ∧ x.records = [] ∧
    x.rollback = none ∧ x.round = 0 ∧ x.restored = none ∧ x.halted = ((s.stand st).steps.halted || halt) ∧
    x.commits = (s.stand st).steps.commits := by
  obtain ⟨r, steps⟩ := State.discardRecords_steps (s := s) (st := st)
  refine ⟨_, rfl, ?_⟩
  rw [State.rollbackOver, State.setSteps_stand, steps]
  exact ⟨rfl, rfl, rfl, rfl, rfl, rfl⟩

theorem State.rollbackOver_cmd (halt : Bool) {tkt : Nat} (h : (s.stand st).steps.unawaited tkt) :
    ((s.rollbackOver st halt).stand st).cmd tkt = (s.stand st).cmd tkt := by
  rw [State.rollbackOver, State.setSteps_stand, ← State.discardRecords_cmd h]
  rfl

end

/-- What a rollback without replay leaves. -/
structure State.rolledBack (s t : State) (st : Nat) (c : Cmd) (status : W16) (halt : Bool) : Prop where
  cmd : ∃ d, (t.stand st).cmd c.ticket = some d ∧ d.stage = .done ∧ d.statuses = c.statuses ++ [status]
  gone : (t.stand st).steps.records = [] ∧ (t.stand st).steps.rollback = none
  fresh : (t.stand st).steps.round = 0 ∧ (t.stand st).steps.restored = none
  halted : (t.stand st).steps.halted = ((s.stand st).steps.halted || halt)
  groups : ∀ k, t.ugroup k = if k ∈ s.groupsOf st then (s.ugroup k).rollback else s.ugroup k
  memory : t.hbm = s.hbm ∧ t.comp = s.comp
  others : s.standOnly t st

/-- The records are discarded and the COMMIT ends. -/
theorem State.rollbackEnds_rolledBack {s : State} {st : Nat} {c : Cmd} {j : CommitSt} (now : s.commitNow st = some (j, c))
    (free : (s.stand st).steps.unawaited j.ticket) (status : W16) (halt : Bool) (rounds : Nat) :
    s.rolledBack ((((s.rollBack st).rollbackOver st halt).rollbackEnds st status rounds)) st c status halt := by
  obtain ⟨⟨js, commits⟩, cmd⟩ := State.commitNow_some now
  have ticket := StandSt.cmd_ticket cmd
  obtain ⟨tabs, stand⟩ := State.rollBack_stand (s := s) (st := st)
  have free' : ((s.rollBack st).stand st).steps.unawaited j.ticket := by rw [stand]; exact free
  obtain ⟨x, hx, none, calm, round, restored, halted, kept⟩ := State.rollbackOver_steps (s := s.rollBack st) (st := st) halt
  have cmd' : (((s.rollBack st).rollbackOver st halt).stand st).cmd j.ticket = some c := by
    rw [State.rollbackOver_cmd halt free', stand]; exact cmd
  have now' : ((s.rollBack st).rollbackOver st halt).commitNow st = some (j, c) := by
    rw [State.commitNow, hx, kept, stand, commits]
    simp only [cmd', Option.map_some]
  rw [State.rollbackEnds, now']
  dsimp only
  have back := State.rollBack_underway (s := s) (st := st)
  obtain ⟨others, memory, units⟩ := State.rollbackOver_onlyStand (s := s.rollBack st) (st := st) halt
  have groups (k : Nat) := State.onlyStand.ugroup ⟨others, memory, units⟩ k
  generalize (s.rollBack st).rollbackOver st halt = u at *
  have ended := State.commitDone_onlyStand (s := u) (st := st) (j := j) (c := c) (status := [status])
    (blaze := if j.phase = 1 then u.freeBlaze else natLe 16 j.blaze.toNat) (rounds := rounds)
    (n := if (commitArgs c.bytes).rollbackOnly then u.nByte 256 else u.nByte (u.countedMembers st j))
  have done := State.commitDone_cmd (j := j) (status := [status]) (blaze := if j.phase = 1 then u.freeBlaze else natLe 16 j.blaze.toNat)
    (rounds := rounds) (n := if (commitArgs c.bytes).rollbackOnly then u.nByte 256 else u.nByte (u.countedMembers st j)) cmd' ticket
  have steps := State.commitDone_steps (s := u) (st := st) (j := j) (c := c) (status := [status])
    (blaze := if j.phase = 1 then u.freeBlaze else natLe 16 j.blaze.toNat) (rounds := rounds)
    (n := if (commitArgs c.bytes).rollbackOnly then u.nByte 256 else u.nByte (u.countedMembers st j))
  generalize u.commitDone st j c [status] _ rounds _ = t at *
  obtain ⟨hbm, comp, -⟩ := memory
  obtain ⟨hbm', comp', -⟩ := ended.2.1
  refine ⟨⟨_, ticket ▸ done, rfl, rfl⟩, ?_, ?_, ?_, fun k => ?_, ⟨(hbm'.trans hbm).trans State.rollBack_hbm, ?_⟩, ?_⟩
  · rw [steps, hx]; exact ⟨none, calm⟩
  · rw [steps, hx]; exact ⟨round, restored⟩
  · rw [steps, hx]; exact halted.trans (by rw [stand])
  · rw [ended.ugroup, groups, State.rollBack_ugroup]
  · exact (comp'.trans comp).trans back.comp
  · exact (back.others.trans others).trans ended.1

/-! ### Records that cannot be read -/

/-- `y` is the stand `x` with other records, which wait for no STEP_END that those of `x` did not. -/
def StandSt.rerecorded (x y : StandSt) : Prop :=
  ∃ rs, y = { x with steps := { x.steps with records := rs } } ∧ ∀ q ∈ rs, ∃ r ∈ x.steps.records, q.endTicket = r.endTicket

theorem StandSt.rerecorded.refl (x : StandSt) : x.rerecorded x := ⟨x.steps.records, rfl, fun q hq => ⟨q, hq, rfl⟩⟩

theorem StandSt.rerecorded.trans {x y z : StandSt} (h : x.rerecorded y) (k : y.rerecorded z) : x.rerecorded z := by
  obtain ⟨rs, rfl, hr⟩ := h
  obtain ⟨qs, rfl, hq⟩ := k
  refine ⟨qs, rfl, fun q mem => ?_⟩
  obtain ⟨r, memr, same⟩ := hq q mem
  obtain ⟨p, memp, same'⟩ := hr r memr
  exact ⟨p, memp, same.trans same'⟩

theorem StandSt.rerecorded.unawaited {x y : StandSt} (h : x.rerecorded y) {tkt : Nat} (free : x.steps.unawaited tkt) :
    y.steps.unawaited tkt := by
  obtain ⟨rs, rfl, hr⟩ := h
  intro q hq
  obtain ⟨r, mem, same⟩ := hr q hq
  rw [same]
  exact free r mem

/-- A step's records changed but for the STEP_END that they wait for. -/
theorem StandSt.onRec_rerecorded (x : StandSt) (step : W64) {f : StepRec → StepRec} (keeps : ∀ r, (f r).endTicket = r.endTicket) :
    x.rerecorded { x with steps := x.steps.onRec step f } := by
  refine ⟨_, rfl, fun q hq => ?_⟩
  obtain ⟨r, hr, rfl⟩ := List.mem_map.mp hq
  refine ⟨r, hr, ?_⟩
  split
  · exact keeps r
  · rfl

section
variable {s : State} {st : Nat}

theorem State.overflowRec_rerecorded (step : W64) : (s.stand st).rerecorded ((s.overflowRec st step).stand st) := by
  unfold State.overflowRec
  (repeat' split)
  · exact .refl _
  · rw [State.countStand_stand, State.onRec_stand]
    exact StandSt.onRec_rerecorded _ step fun _ => rfl
  · exact .refl _

theorem State.foldl_overflowRec (lost : List W64) : s.onlyStand (lost.foldl (fun u n => u.overflowRec st n) s) st ∧
    (s.stand st).rerecorded ((lost.foldl (fun u n => u.overflowRec st n) s).stand st) := by
  induction lost generalizing s with
  | nil => exact ⟨State.onlyStand.refl s st, .refl _⟩
  | cons n lost ih =>
    obtain ⟨kept, records⟩ := ih (s := s.overflowRec st n)
    exact ⟨s.overflowRec_onlyStand st n |>.trans kept, (State.overflowRec_rerecorded n).trans records⟩

/-- A step without a record has none to mark. -/
theorem State.foldl_overflowRec_none {lost : List W64} (h : ∀ r ∈ (s.stand st).steps.records, r.step ∉ lost) :
    lost.foldl (fun u n => u.overflowRec st n) s = s := by
  induction lost with
  | nil => rfl
  | cons n lost ih =>
    have none : (s.stand st).steps.rec_ n = Option.none := List.find?_eq_none.mpr fun r hr own =>
      h r hr (by simp only [decide_eq_true_eq] at own; rw [own]; exact List.mem_cons_self)
    have same : s.overflowRec st n = s := by rw [State.overflowRec, none]
    rw [List.foldl_cons, same]
    exact ih fun r hr later => h r hr (List.mem_cons_of_mem n later)

theorem State.settleCommit_undecided {c : Cmd} {j : CommitSt} {now : Bool} (h : s.commitNow st = some (j, c)) (none : j.decided = Option.none) :
    s.settleCommit st now = s := by
  rw [State.settleCommit, h]
  simp only [none]

/-- A rollback that is due waits for commands other than COMMITs and STEP_ENDs. -/
theorem exec_rollback {c : Cmd} {j : CommitSt} {why : RollbackFor} {lost : List W64} (alive : s.alive = true)
    (now : s.commitNow st = some (j, c)) (due : (s.stand st).steps.rollback = some why) (none : j.decided = Option.none) :
    exec (.rollback ⟨st, lost⟩) s = .next (if ∀ d ∈ (s.stand st).inflight, d.opcode = 0x42 ∨ d.opcode = 0x41 then
      (lost.foldl (fun u n => u.overflowRec st n) s).doRollback st why else s) := by
  change execRollback ⟨st, lost⟩ s = _
  simp only [execRollback, due, alive, true_and, State.settleCommit_undecided now none, List.all_eq_true, Bool.or_eq_true,
    decide_eq_true_eq]

/-- The status of the COMMIT that a rollback without replay ends. -/
def RollbackFor.status : RollbackFor → W16
  | .halt v => v
  | _ => 0x0110

/-- A rollback that nothing is to be replayed after. -/
theorem State.doRollback_ends {why : RollbackFor} (ungrouped : why = .only ∨ ∃ v, why = .halt v) :
    s.doRollback st why = ((s.rollBack st).rollbackOver st (decide (why ≠ .only))).rollbackEnds st
      why.status (s.stand st).steps.round := by
  rcases ungrouped with rfl | ⟨v, rfl⟩ <;> rfl

/-- A rollback of records that are whole, with rounds left and no restored step, takes them up for replay. -/
theorem State.doRollback_replays {fl : W64} (unrestored : ∀ k ∈ (s.stand st).steps.commits, k.restored = false)
    (whole : ∀ r ∈ (s.stand st).steps.records, r.overflow = false) (rounds : (s.stand st).steps.round < (s.cfg st).replayMax) :
    s.doRollback st (.group fl) = (s.rollBack st).startReplay st fl := by
  have new : (s.stand st).steps.commits.any (·.restored) = false := List.any_eq_false.mpr fun k hk => by simp [unrestored k hk]
  have held : (s.stand st).steps.records.any (·.overflow) = false := List.any_eq_false.mpr fun r hr => by simp [whole r hr]
  simp only [State.doRollback, new, held, Bool.false_eq_true, false_and, or_self, if_false, not_le.mpr rounds]

/-- The steps as a replay begins. -/
def StepSt.replayed (x : StepSt) (fl : W64) (r : StepRec) : StepSt :=
  { x with
    rollback := none, round := x.round + 1
    records := x.records.map (fun q => { q with mark := none, mode := if q.mode = .applied then .closed else q.mode })
    commits := x.commits.map (fun j => { j with phase := 1, rollback := false, bad := false, firstLive := 0xffffffffffffffff })
    replay := some ⟨x.records.map (·.step), 0, r.snapEvt, r.snapWait, fl, (x.commits.map (·.ticket)).headD 0⟩ }

theorem State.startReplay_steps {fl : W64} (some_ : (s.stand st).steps.records ≠ []) :
    ∃ r, ((s.startReplay st fl).stand st).steps = (s.stand st).steps.replayed fl r := by
  obtain ⟨r, rs, records⟩ := List.exists_cons_of_ne_nil some_
  refine ⟨r, ?_⟩
  rw [State.startReplay, State.setSteps_stand]
  simp only [records]
  rw [StepSt.replayed, records]

end

end Sys2Proof.Machine
end

section
/-! Replay issues the logged commands again (spec/12 R309, R316), and the statement about rollback and replay. -/

namespace Sys2Proof.Machine

/-! ### The command that issues again -/

/-- A command of a replay: its ticket, its packet and its step, and no slot. -/
structure Cmd.replays (c : Cmd) (tkt : Nat) (bytes : List Byte) (step : W64) : Prop where
  ticket : c.ticket = tkt
  bytes : c.bytes = bytes
  replay : c.replay = true
  slot : c.slot = none
  step : c.step = some step

/-- From `s` to `t` a command of a replay went into flight at stand `st` under the next ticket, for which no record waits. -/
structure State.reissued (s t : State) (st : Nat) (bytes : List Byte) (step : W64) : Prop where
  cmd : ∃ c ∈ (t.stand st).inflight, c.replays (s.stand st).nextTicket bytes step
  next : (t.stand st).nextTicket = (s.stand st).nextTicket + 1
  free : (t.stand st).steps.unawaited (s.stand st).nextTicket
  others : s.standOnly t st

section
variable {s t u : State} {st : Nat} {bytes : List Byte} {step : W64}

/-- What keeps the tickets, the records' STEP_ENDs and the command leaves it issued. -/
theorem State.reissued.keeps (h : s.reissued t st bytes step) (others : t.standOnly u st)
    (cmd : ∀ c ∈ (t.stand st).inflight, c.replays (s.stand st).nextTicket bytes step →
      ∃ d ∈ (u.stand st).inflight, d.replays (s.stand st).nextTicket bytes step)
    (next : (u.stand st).nextTicket = (t.stand st).nextTicket)
    (free : (t.stand st).steps.unawaited (s.stand st).nextTicket → (u.stand st).steps.unawaited (s.stand st).nextTicket) :
    s.reissued u st bytes step := by
  obtain ⟨c, hc, mine⟩ := h.cmd
  exact ⟨cmd c hc mine, next.trans h.next, free h.free, h.others.trans others⟩

/-- Work that touches no command in flight, no ticket and no record. -/
theorem State.reissued.keeps_stand (h : s.reissued t st bytes step) (others : t.standOnly u st)
    (stand : ∃ x : StepSt, u.stand st = { t.stand st with steps := x } ∧ x.records = (t.stand st).steps.records) :
    s.reissued u st bytes step := by
  obtain ⟨x, hx, records⟩ := stand
  refine h.keeps others (fun c hc mine => ⟨c, by rw [hx]; exact hc, mine⟩) (by rw [hx]) fun free r hr => ?_
  rw [hx, records] at hr
  exact free r hr

theorem State.reissued.of_stands (h : s.reissued t st bytes step) (stands : u.stands = t.stands) : s.reissued u st bytes step := by
  have same (k : Nat) : u.stand k = t.stand k := by rw [State.stand, stands]; rfl
  exact h.keeps_stand (fun k _ => same k) ⟨(t.stand st).steps, same st, rfl⟩

theorem State.reissued.foldl {α : Type} {f : State → α → State} (h : s.reissued t st bytes step)
    (keeps : ∀ (v : State) a, (f v a).stands = v.stands) (l : List α) : s.reissued (l.foldl f t) st bytes step := by
  induction l generalizing t with
  | nil => exact h
  | cons a l ih => exact ih (h.of_stands (keeps t a))

/-! ### A tap armed -/

/-- The record's mark changes no STEP_END. -/
theorem StepRec.withMark_endTicket (r : StepRec) (cause : Nat) : (r.withMark cause).endTicket = r.endTicket := by
  unfold StepRec.withMark
  split <;> rfl

theorem State.mark_rerecorded (step : Option W64) (cause : Nat) : (s.stand st).rerecorded ((s.mark st step cause).stand st) := by
  cases step with
  | none => exact .refl _
  | some n =>
    rw [State.mark, State.count_stand, State.setStand_stand_same]
    exact StandSt.onRec_rerecorded _ n fun r => r.withMark_endTicket cause

theorem State.reissued.rerecorded (h : s.reissued t st bytes step) (others : t.standOnly u st)
    (records : (t.stand st).rerecorded (u.stand st)) : s.reissued u st bytes step := by
  refine h.keeps others (fun c hc mine => ⟨c, ?_, mine⟩) ?_ records.unawaited
  · obtain ⟨rs, stand, -⟩ := records; rw [stand]; exact hc
  · obtain ⟨rs, stand, -⟩ := records; rw [stand]

/-- A command of the ticket put in the place of those in flight. -/
theorem State.reissued.setCmd (h : s.reissued t st bytes step) {d : Cmd} (mine : d.replays (s.stand st).nextTicket bytes step) :
    s.reissued (t.setCmd st d) st bytes step := by
  have stand : (t.setCmd st d).stand st = (t.stand st).setCmd d.ticket d := t.setStand_stand_same st _
  refine h.keeps (State.setCmd_others d) (fun c hc own => ⟨d, ?_, mine⟩) (by rw [stand]; rfl) fun free => by rw [stand]; exact free
  rw [stand]
  exact List.mem_map.mpr ⟨c, hc, if_pos (own.ticket.trans mine.ticket.symm)⟩

theorem State.reissued.endTaps (h : s.reissued t st bytes step) : s.reissued (t.endTaps st) st bytes step := by
  refine h.keeps (fun _ hk => t.setStand_stand_ne hk _) (fun c hc mine => ⟨t.afterTaps st c, ?_, ?_⟩) (by rw [State.endTaps_stand])
    fun free => by rw [State.endTaps_stand]; exact free
  · rw [State.endTaps_stand]
    exact List.mem_map_of_mem hc
  · obtain ⟨ticket, bytes, replay, slot, step⟩ := mine
    unfold State.afterTaps
    split
    · exact ⟨ticket, bytes, replay, slot, step⟩
    · exact ⟨ticket, bytes, replay, slot, step⟩

theorem State.reissued.armTap (h : s.reissued t st bytes step) {c : Cmd} (mine : c.replays (s.stand st).nextTicket bytes step) :
    s.reissued (t.armTap st c) st bytes step := by
  obtain ⟨ticket, own, replay, slot, step'⟩ := mine
  unfold State.armTap
  have armed (v : State) (hv : s.reissued v st bytes step) (d : Cmd) (hd : d.replays (s.stand st).nextTicket bytes step) :
      s.reissued (((t.rowCores st (rowArgs c.bytes)).foldl (fun w pc => w.armOn st c pc)
        (v.setCmd st { d with stream := (Config.freeW32 t.freeCtr).toNat }).tookFree).endTaps st) st bytes step := by
    have replaced : s.reissued (v.setCmd st { d with stream := (Config.freeW32 t.freeCtr).toNat }).tookFree st bytes step :=
      (hv.setCmd (d := { d with stream := (Config.freeW32 t.freeCtr).toNat })
        ⟨hd.ticket, hd.bytes, hd.replay, hd.slot, hd.step⟩).of_stands rfl
    exact (replaced.foldl (f := fun w pc => w.armOn st c pc) (fun _ _ => rfl) _).endTaps
  dsimp only
  by_cases missing : t.rowMissing st (rowArgs c.bytes) = true
  · rw [if_pos missing]
    have counted : s.reissued (t.countStand st cIntCoreUnavailable) st bytes step := h.of_stands rfl
    exact armed (t.unavailable st c).1 (counted.rerecorded (State.markCmd_onlyStand _ st c 9).1 (State.mark_rerecorded _ _))
      (t.unavailable st c).2 ⟨ticket, own, replay, slot, step'⟩
  · rw [if_neg missing]
    exact armed t h c ⟨ticket, own, replay, slot, step'⟩

end

/-! ### The replay goes on -/

section
variable {s t : State} {st : Nat} {bytes : List Byte} {step : W64}

/-- The command as it issues again. -/
def StandSt.replayCmd (x : StandSt) (q : StepRec) (k : LoggedCmd) : Cmd :=
  { x.newCmd k.bytes k.link none (x.takeInst k.bytes).1 with
    replay := true, step := some q.step, seeds := (q.rseed, q.dseed, q.step) }

/-- An engine's command goes into flight. -/
theorem State.afterIssue_engine {c : Cmd} (engine : c.opcode < 0x40) : s.afterIssue st c =
    if c.isTap then (s.setStand st { s.stand st with
        inflight := (s.stand st).inflight ++ [{ c with stage := .running, tStart := s.clock.now }] }).armTap st
          { c with stage := .running, tStart := s.clock.now }
    else s.setStand st { s.stand st with inflight := (s.stand st).inflight ++ [c] } := by
  unfold State.afterIssue
  split
  case h_7 => rfl
  all_goals omega

theorem State.reissue_reissued {q : StepRec} {k : LoggedCmd} (engine : fld k.bytes 0 1 < 0x40)
    (free : (s.stand st).steps.unawaited (s.stand st).nextTicket) : s.reissued (s.reissue st q k) st k.bytes q.step := by
  obtain ⟨t, ht⟩ : ∃ t, t = s.setStand st { s.stand st with
      nextTicket := (s.stand st).nextTicket + 1, mtabs := ((s.stand st).takeInst k.bytes).2 } := ⟨_, rfl⟩
  have stand : t.stand st = { s.stand st with
      nextTicket := (s.stand st).nextTicket + 1, mtabs := ((s.stand st).takeInst k.bytes).2 } := by
    rw [ht]; exact s.setStand_stand_same st _
  have runs : s.reissue st q k = t.afterIssue st ((s.stand st).replayCmd q k) := by rw [ht]; rfl
  have entered (d : Cmd) (mine : d.replays (s.stand st).nextTicket k.bytes q.step) :
      s.reissued (t.setStand st { t.stand st with inflight := (t.stand st).inflight ++ [d] }) st k.bytes q.step := by
    refine ⟨⟨d, ?_, mine⟩, ?_, ?_, fun j hj => ?_⟩
    · rw [State.setStand_stand_same]
      exact List.mem_append_right _ List.mem_cons_self
    · rw [State.setStand_stand_same, stand]
    · rw [State.setStand_stand_same, stand]; exact free
    · rw [State.setStand_stand_ne _ hj, ht, State.setStand_stand_ne _ hj]
  rw [runs, State.afterIssue_engine (c := (s.stand st).replayCmd q k) engine]
  split
  · exact (entered _ ⟨rfl, rfl, rfl, rfl, rfl⟩).armTap ⟨rfl, rfl, rfl, rfl, rfl⟩
  · exact entered _ ⟨rfl, rfl, rfl, rfl, rfl⟩

/-- The search for the next command changes only where the replay stands. -/
theorem State.replaySeek_stand (r : Replay) (ws : List W64) (i : Nat) : s.standOnly (s.replaySeek st r ws i) st ∧
    ∃ x : StepSt, (s.replaySeek st r ws i).stand st = { s.stand st with steps := x } ∧ x.records = (s.stand st).steps.records := by
  induction ws generalizing s i with
  | nil => exact ⟨(State.setSteps_onlyStand _).1, _, State.setSteps_stand _, rfl⟩
  | cons w ws ih =>
    rw [State.replaySeek]
    split
    · split
      · exact ⟨(State.setSteps_onlyStand _).1, _, State.setSteps_stand _, rfl⟩
      · exact ih 0
    · exact ih 0

/-- A command whose ticket no record waits for stays while steps become APPLIED. -/
theorem State.endStep_inflight {r : StepRec} {status : List W16} {c : Cmd} (h : c ∈ (s.stand st).inflight)
    (free : r.endTicket ≠ some c.ticket) : c ∈ ((s.endStep st r status).stand st).inflight := by
  rcases s.endStep_cases st r status with ⟨e, -⟩ | ⟨tkt, d, due, hd, e⟩ <;> rw [e]
  · exact h
  · rw [(s.finish_left st _ _).inflight, List.mem_filter]
    refine ⟨h, decide_eq_true fun same => free ?_⟩
    rw [due, same]
    exact congrArg some (StandSt.cmd_ticket hd).symm

theorem State.foldl_applyStep_inflight {now : W64} {c : Cmd} (rs : List StepRec) (h : c ∈ (s.stand st).inflight)
    (free : ∀ r ∈ rs, r.endTicket ≠ some c.ticket) : c ∈ ((rs.foldl (fun t r => t.applyStep st now r) s).stand st).inflight := by
  induction rs generalizing s with
  | nil => exact h
  | cons r rs ih =>
    refine ih (State.endStep_inflight ?_ (free r List.mem_cons_self)) fun q hq => free q (List.mem_cons_of_mem r hq)
    rw [State.onRec_stand]
    exact h

theorem State.reissued.applySteps (h : s.reissued t st bytes step) : s.reissued (t.applySteps st) st bytes step := by
  rw [State.applySteps_eq]
  refine h.keeps (State.foldl_applyStep_onlyStand t st _ _).1 (fun c hc mine => ⟨c, ?_, mine⟩) ?_ fun free r hr => ?_
  · exact State.foldl_applyStep_inflight _ hc fun r hr => mine.ticket ▸ h.free r (List.mem_of_mem_filter hr)
  · rw [(State.foldl_applyStep_settledTo t st _ _).rest]
  · rw [State.foldl_applyStep_records] at hr
    obtain ⟨q, hq, rfl⟩ := List.mem_map.mp hr
    split
    · simp [StepRec.appliedAt]
    · exact free q hq

/-- The replay as it finds the command at which it stands. -/
theorem State.replaySeek_here {r : Replay} {w : W64} {ws : List W64} {n : Nat} {q : StepRec} {k : LoggedCmd}
    (rec_ : (s.stand st).steps.rec_ w = some q) (here : q.cmds[n]? = some k) (live : k.live = true) :
    s.replaySeek st r (w :: ws) n = s.setSteps st fun x => { x with replay := some { r with steps := w :: ws, next := n } } := by
  have first : (q.cmds.drop n).findIdx? LoggedCmd.live = some 0 := by
    obtain ⟨small, own⟩ := List.getElem?_eq_some_iff.mp here
    rw [List.drop_eq_getElem_cons small, List.findIdx?_cons, own, live]
    rfl
  rw [State.replaySeek]
  simp only [rec_, first, Nat.add_zero]

end

/-- The next logged command issues again, and what it leaves over is applied. -/
theorem exec_replayIssue {s : State} {st n : Nat} {w : W64} {ws : List W64} {r : Replay} {q : StepRec} {k : LoggedCmd}
    (fronts : s.fronts st = true) (replay : (s.stand st).steps.replay = some r) (steps : r.steps = w :: ws)
    (rec_ : (s.stand st).steps.rec_ w = some q) (next : r.next = n) (here : q.cmds[n]? = some k) (engine : fld k.bytes 0 1 < 0x40)
    (holds : bit (fld k.bytes 1 1) 0 = true → r.waitHolds k.bytes = true) {u : State} (hu : u = s.replaySeek st r (w :: ws) n)
    (room : u.roomFor st ((u.stand st).newCmd k.bytes k.link none 0) = true) (passes : u.checkOp st k.bytes = none) :
    exec (.replayIssue st) s = .next (((u.reissue st q k).replaySeek st { r with steps := w :: ws, next := n } (w :: ws) (n + 1)).applySteps
      st) := by
  have live : k.live = true := decide_eq_true (by omega)
  rw [State.replaySeek_here rec_ here live] at hu
  have stand : u.stand st = { s.stand st with steps := { (s.stand st).steps with
      replay := some { r with steps := w :: ws, next := n } } } := by rw [hu]; exact State.setSteps_stand _
  have waits : (bit (fld k.bytes 1 1) 0 && !({ r with steps := w :: ws, next := n } : Replay).waitHolds k.bytes) = false := by
    cases waiting : bit (fld k.bytes 1 1) 0 with
    | false => rfl
    | true => exact congrArg (!·) (holds waiting)
  have found : ({ r with steps := w :: ws, next := n } : Replay).steps.head?.bind (u.stand st).steps.rec_ = some q := by
    rw [stand]; exact rec_
  change execReplayIssue st s = _
  rw [execReplayIssue, replay]
  simp only []
  rw [if_neg (by rw [fronts, steps]; simp), steps, next, State.replaySeek_here rec_ here live, ← hu]
  have again : (u.stand st).steps.replay = some { r with steps := w :: ws, next := n } := by rw [stand]
  rw [again]
  simp only []
  rw [found]
  simp only [here]
  rw [State.replayNext]
  simp only [waits, room, passes, Bool.not_true, Bool.or_self, Bool.false_eq_true, if_false, Option.isSome_none]

/-- Settles O43: a COMMIT ends otherwise by a wait that runs out or by a rollback, and a replay issues the logged commands again. -/
theorem rollbackAndReplay : Obligations.RollbackAndReplay := by
  unfold Obligations.RollbackAndReplay
  refine ⟨?message, ?expire, ?rollback, ?replay⟩
  case message =>
    intro s st m alive on idle later
    have idle' : ((s.setSteps st fun x => x.keepMsg m).stand st).steps.commits = [] := by
      rw [State.setSteps_stand, ← idle, StepSt.keepMsg]
      split <;> rfl
    rw [exec_commitMessage alive on, State.tryDecide_none idle']
    refine congrArg Host.Outcome.next (State.setSteps_congr (if_neg ?_))
    rintro ⟨valid, past⟩
    rcases later with invalid | above
    · rw [invalid] at valid; cases valid
    · exact absurd past (by omega)
  case expire =>
    intro s st tkt c j alive now own waits none late silent
    have runs := exec_commitWaitExpire now own alive waits none late silent
    refine ⟨_, runs, ?_, State.count_one _ _, ?_, ⟨rfl, rfl, rfl⟩, fun _ hk => s.setStand_stand_ne hk _, exec_frame _ rfl runs⟩
    · rw [State.countStand_stand, State.wantRollback, State.setSteps_stand]
    · rw [State.countStand_stand, State.wantRollback, State.setSteps_stand]
  case rollback =>
    intro s st c j why lost alive now due undecided
    have runs := exec_rollback (lost := lost) alive now due undecided
    obtain ⟨⟨js, commits⟩, cmd⟩ := State.commitNow_some now
    have ticket := StandSt.cmd_ticket cmd
    refine ⟨fun busy => ?_, fun quiet free => ⟨fun ungrouped => ?_, fun fl group some_ rounds unrestored whole => ?_⟩⟩
    · rw [runs, if_neg]
      obtain ⟨d, hd, other, other'⟩ := busy
      exact fun quiet => (quiet d hd).elim other other'
    · obtain ⟨kept, records⟩ := State.foldl_overflowRec (s := s) (st := st) lost
      rw [if_pos quiet, State.doRollback_ends ungrouped] at runs
      generalize lost.foldl (fun u n => u.overflowRec st n) s = u at runs kept records
      have free' := records.unawaited free
      obtain ⟨rs, stand, -⟩ := records
      have now' : u.commitNow st = some (j, c) := by
        rw [State.commitNow, stand, commits]
        exact congrArg (Option.map fun c => (j, c)) cmd
      have back := State.rollbackEnds_rolledBack now' free' why.status (decide (why ≠ .only)) (u.stand st).steps.round
      generalize ((u.rollBack st).rollbackOver st (decide (why ≠ .only))).rollbackEnds st why.status (u.stand st).steps.round = t at runs back
      have groups (k : Nat) := kept.ugroup k
      obtain ⟨others, ⟨hbm, comp, -⟩, -, -, -, -, -, -, -, frame⟩ := kept
      have owned : u.groupsOf st = s.groupsOf st := by rw [State.groupsOf, img_of_frame frame]; rfl
      obtain ⟨⟨d, ended, stage, statuses⟩, ⟨gone, calm⟩, ⟨round, restored⟩, stops, flipped, ⟨hbm', comp'⟩, others'⟩ := back
      rw [ticket] at ended
      refine ⟨t, runs, ?_, ?_, gone, calm, round, restored, by rw [stops, stand], fun k hk => ?_, fun k hk => ?_, hbm'.trans hbm,
        comp'.trans comp, others.trans others', exec_frame _ rfl runs⟩
      · rw [State.stageOf, ended]; exact congrArg some stage
      · rw [ended]
        refine (congrArg some statuses).trans ?_
        cases why <;> rfl
      · rw [flipped, owned, if_pos hk, groups]
      · rw [flipped, owned, if_neg hk, groups]
    · subst group
      rw [if_pos quiet, State.foldl_overflowRec_none fun r hr => (whole r hr).2,
        State.doRollback_replays unrestored (fun r hr => (whole r hr).1) rounds] at runs
      obtain ⟨tabs, stand⟩ := State.rollBack_stand (s := s) (st := st)
      have back := State.rollBack_underway (s := s) (st := st)
      obtain ⟨r, steps⟩ := State.startReplay_steps (s := s.rollBack st) (st := st) (fl := fl) (by rw [stand]; exact some_)
      rw [stand] at steps
      refine ⟨_, _, runs, by rw [steps]; rfl, rfl, rfl, rfl, by rw [steps]; rfl, by rw [steps]; rfl, ?_, ?_, fun k hk => ?_,
        State.rollBack_hbm, back.comp, back.others.trans (State.setSteps_onlyStand _).1, exec_frame _ rfl runs⟩
      · rw [steps, StepSt.replayed, List.map_map]; rfl
      · rw [steps, StepSt.replayed]
        intro q hq
        obtain ⟨p, -, rfl⟩ := List.mem_map.mp hq
        rfl
      · exact (State.rollBack_ugroup k).trans (if_pos hk)
  case replay =>
    intro s st n w ws r q k fronts replay steps rec_ next here engine holds ready free
    obtain ⟨room, passes⟩ := ready _ rfl
    have runs := exec_replayIssue fronts replay steps rec_ next here engine holds rfl room passes
    obtain ⟨seekOthers, x, stand, records⟩ := State.replaySeek_stand (s := s) (st := st) r (w :: ws) n
    have issued := State.reissue_reissued (s := s.replaySeek st r (w :: ws) n) (st := st) (q := q) (k := k) engine
      (by rw [stand]; intro y hy; exact free y (records ▸ hy))
    obtain ⟨others, sought⟩ := State.replaySeek_stand (s := (s.replaySeek st r (w :: ws) n).reissue st q k) (st := st)
      { r with steps := w :: ws, next := n } (w :: ws) (n + 1)
    obtain ⟨⟨c, hc, own, bytes, again, slot, step⟩, ticket, -, others'⟩ := (issued.keeps_stand others sought).applySteps
    rw [stand] at own ticket
    refine ⟨_, c, runs, hc, own, bytes, again, slot, step, ticket, ?_, seekOthers.trans others'⟩
    exact congrArg Prod.fst (by simp : (((s.replaySeek st r (w :: ws) n).reissue st q k).replaySeek st _ (w :: ws) (n + 1)
      |>.applySteps st).memory = s.memory)

end Sys2Proof.Machine
end

section
/-! CHECKPOINT and the reads of background copies (spec/12 R319, R320, spec/08 R208 to R210). -/

namespace Sys2Proof.Machine

/-! ### What a copy keeps -/

/-- From `s` to `t` a background copy of stand `st` may read, write and send; the stand's steps, the update groups, the compute dies and
the other stands stay. -/
structure State.aside (s t : State) (st : Nat) : Prop where
  steps : (t.stand st).steps = (s.stand st).steps
  others : s.standOnly t st
  comp : t.comp = s.comp
  groups : t.mem.groups = s.mem.groups
  counters : ∀ k, 2 < k % 32 → k % 512 ∉ sendCounters → t.counters.get k = s.counters.get k

section
variable {s t u : State} {st : Nat}

theorem State.aside.refl (s : State) (st : Nat) : s.aside s st := ⟨rfl, fun _ _ => rfl, rfl, rfl, fun _ _ _ => rfl⟩

theorem State.aside.trans (h : s.aside t st) (k : t.aside u st) : s.aside u st :=
  ⟨k.steps.trans h.steps, h.others.trans k.others, k.comp.trans h.comp, k.groups.trans h.groups,
    fun c hc hs => (k.counters c hc hs).trans (h.counters c hc hs)⟩

theorem State.foldl_aside {α : Type} {f : State → α → State} (s : State) (h : ∀ (u : State) a, u.aside (f u a) st) (l : List α) :
    s.aside (l.foldl f s) st := by
  induction l generalizing s with
  | nil => exact State.aside.refl s st
  | cons a l ih => exact (h s a).trans (ih (f s a))

theorem State.sends.aside (h : s.sends t st) : s.aside t st := by
  obtain ⟨-, comp, mem⟩ := h.memory
  exact ⟨h.steps, h.others, comp, by rw [mem], fun k _ hs => h.counters k hs⟩

theorem State.stored.aside (h : s.stored t) : s.aside t st :=
  ⟨by rw [h.stand], fun k _ => h.stand k, h.comp, h.groups, fun k hk _ => h.counters k hk⟩

theorem State.setCmd_aside (s : State) (st : Nat) (c : Cmd) : s.aside (s.setCmd st c) st :=
  ⟨by rw [State.setCmd, s.setStand_stand_same]; rfl, State.setCmd_others c, rfl, rfl, fun _ _ _ => rfl⟩

theorem State.setLand_aside (s : State) (st n : Nat) (x : LandDie) : s.aside (s.setLand n x) st :=
  ⟨rfl, fun _ _ => rfl, rfl, rfl, fun _ _ _ => rfl⟩

theorem State.takeKeys_aside (s : State) (st : Nat) (m : Mem) (ks : List Nat) : s.aside (s.takeKeys m ks).2 st := by
  unfold State.takeKeys
  dsimp only
  split
  · exact ⟨rfl, fun _ _ => rfl, rfl, rfl, fun _ _ _ => rfl⟩
  · exact State.aside.refl s st

/-- Bytes written at a copy's destination, and what of them could not be sent kept with the command. -/
theorem State.copyOut_aside (s : State) (st : Nat) (b : BgCopy) (off : Nat) (bs : List Byte) (fs : Tab (Byte × Byte)) :
    s.aside (s.copyOut st b off bs fs) st := by
  cases remote : b.remote with
  | none => exact (State.copyOut_stored remote off bs fs).aside
  | some m =>
    rw [State.copyOut, remote]
    refine State.foldl_aside s (fun u _ => ?_) _
    dsimp only [State.requestWith]
    generalize hr : u.ask st _ = r
    have sent : u.aside r.1 st := hr ▸ (u.ask_sends st _).aside
    refine sent.trans ?_
    (repeat' split)
    · exact State.aside.refl _ st
    · exact State.aside.refl _ st
    · exact State.setCmd_aside _ st _
    · exact State.aside.refl _ st

/-- Sound bytes written at a copy's destination: bytes of the stand's own memory, or messages to the peer that leave memory as it is. -/
theorem State.copyOut_effect (b : BgCopy) (off : Nat) (bs : List Byte)
    (route : ∀ d ds, b.remote = some (d, ds) → s.fenced st d = false ∧ (s.routeTo d).isSome = true) :
    s.aside (s.copyOut st b off bs []) st ∧ (∀ k, ((s.copyOut st b off bs []).stand st).cmd k = (s.stand st).cmd k) ∧
      ((s.copyOut st b off bs []).stand st).outputs = (s.stand st).outputs ∧
      (s.copyOut st b off bs []).hbm = if b.remote.isSome then s.hbm else (s.writeSoft (b.dest + off) bs).hbm := by
  cases remote : b.remote with
  | none =>
    have kept : s.stored (s.copyOut st b off bs []) := State.copyOut_stored remote off bs []
    refine ⟨kept.aside, fun k => by rw [kept.stand], by rw [kept.stand], ?_⟩
    rw [State.copyOut, remote]
    rfl
  | some m =>
    have sent : s.sends (s.copyOut st b off bs []) st := State.copyOut_sends remote off bs [] (.inr (route _ _ remote))
    exact ⟨sent.aside, sent.quiet.cmd, sent.outputs, sent.memory.1⟩

theorem State.copyHeads_aside (s : State) (st : Nat) (b : BgCopy) : s.aside (s.copyHeads st b) st :=
  (State.foldl_aside s (fun u _ => u.copyOut_aside st b _ _ _) _).trans (State.copyOut_aside _ st b _ _ _)

/-! ### One block read -/

/-- Where every word checks, the bytes at some keys are what memory holds. -/
theorem State.takeKeys_clean {m : Mem} (clean : m.diff = []) (ks : List Nat) : s.takeKeys m ks = (ks.map m.read, s) := by
  have bytes : ks.zipIdx.map (fun p => m.read p.1) = ks.map m.read := by
    rw [show (fun p : Nat × Nat => m.read p.1) = m.read ∘ Prod.fst from rfl, ← List.map_map, List.zipIdx_map_fst]
  simp [State.takeKeys, Mem.bad_of_diff_nil clean, bytes]

/-- The pieces of a block read one after the other from memory that checks throughout. -/
theorem State.foldl_copyPiece {m : Mem} (clean : m.diff = []) (offs : List Nat) (ps : List CopyPiece) (b : BgCopy) :
    s.aside (ps.foldl (fun a p => a.1.copyPiece st m offs a.2 p) (s, b)).1 st ∧
      (ps.foldl (fun a p => a.1.copyPiece st m offs a.2 p) (s, b)).2 = { b with
        got := b.got ++ ps.map fun p => (p.shard, p.off, (List.range p.len).map fun i => m.read (p.key + i)) } := by
  induction ps generalizing s b with
  | nil => exact ⟨State.aside.refl s st, by simp⟩
  | cons p ps ih =>
    have first : s.aside (s.copyPiece st m offs b p).1 st := (s.takeKeys_aside st m _).trans (State.copyOut_aside _ st b _ _ _)
    have noted : (s.copyPiece st m offs b p).2 = { b with
        got := b.got ++ [(p.shard, p.off, (List.range p.len).map fun i => m.read (p.key + i))] } := by
      simp only [State.copyPiece, State.takeKeys_clean clean, List.map_map]
      rfl
    obtain ⟨rest, got⟩ := ih (s := (s.copyPiece st m offs b p).1) (s.copyPiece st m offs b p).2
    refine ⟨first.trans rest, ?_⟩
    rw [List.foldl_cons]
    refine got.trans ?_
    rw [noted]
    simp

theorem State.setCopy_steps (b : Option BgCopy) : ((s.setCopy st b).stand st).steps = { (s.stand st).steps with copy := b } := by
  rw [State.setCopy, s.setStand_stand_same]

/-- A block of memory that checks throughout, read and taken from what is left. -/
theorem State.readBlock_read {b : BgCopy} {die block : Nat} (unstaged : (s.land die).stagedMem st block = none) (clean : s.hbm.diff = []) :
    ∃ v : State, s.aside v st ∧ s.readBlock st b die block = v.setCopy st (some { b with
      todo := b.todo.filter fun p => !(decide (p.die = die) && decide (p.block = block))
      got := b.got ++ (b.todo.filter fun p => decide (p.die = die) && decide (p.block = block)).map fun p =>
        (p.shard, p.off, (List.range p.len).map fun i => s.hbm.read (p.key + i)) }) := by
  obtain ⟨work, got⟩ := State.foldl_copyPiece (s := s) (st := st) clean (s.layout (b.groups.map Prod.fst))
    (b.todo.filter fun p => decide (p.die = die) && decide (p.block = block)) b
  unfold State.readBlock
  simp only [unstaged, Option.getD_none, Option.isSome_none, Bool.false_eq_true, if_false, State.noteWords_clean clean, got]
  exact ⟨_, work.trans (State.setLand_aside _ st _ _), rfl⟩

/-- Blocks that no copy wants kept ahead need no room. -/
theorem State.stageFor_unwanted {bs : List (Nat × Nat)} (h : ∀ q ∈ bs, s.wantStage q.1 q.2 = []) : s.stageFor bs = some s := by
  induction bs with
  | nil => rfl
  | cons q bs ih =>
    rw [State.stageFor]
    simp only [h q List.mem_cons_self, ne_eq, not_true_eq_false, and_false, if_false, List.foldl_nil]
    exact ih fun p hp => h p (List.mem_cons_of_mem q hp)

end

/-! ### The copy that runs -/

section
variable {s : State} {st : Nat} {b : BgCopy}

/-- A copy whose command has not ended goes on. -/
theorem exec_backgroundCopyRead (alive : s.alive = true) (copy : (s.stand st).steps.copy = some b)
    (runs : ∀ k c, b.ticket = some k → (s.stand st).cmd k = some c → c.stage ≠ .phase 2 ∧ c.lost = []) :
    exec (.backgroundCopyRead st) s = .next (s.copyStep st b) := by
  have unended : (match b.ticket with
      | some t => match (s.stand st).cmd t with
        | some c => decide (c.stage = .phase 2) || !c.lost.isEmpty
        | none => false
      | none => false) = false := by
    split
    · next t own =>
      split
      · next c hc =>
        obtain ⟨early, whole⟩ := runs t c own hc
        simp [early, whole]
      · rfl
    · rfl
  change execBackgroundCopyRead st s = _
  rw [execBackgroundCopyRead, copy]
  simp only [alive, Bool.not_true, Bool.false_eq_true, if_false]
  rw [if_neg]
  exact Bool.eq_false_iff.mp unended

/-- The blocks at the destination of what is read now have nothing to keep ahead. -/
theorem State.copyStep_reads {die block : Nat} (next : s.nextBlock st b = some (die, block))
    (unwanted : ∀ p ∈ b.todo, ∀ q ∈ s.softBlocks (b.dest + (s.layout (b.groups.map Prod.fst)).getD p.shard 0 + 256 + p.off) p.len,
      s.wantStage q.1 q.2 = []) : s.copyStep st b = s.readBlock st b die block := by
  rw [State.copyStep, next]
  dsimp only
  rw [State.stageFor_unwanted]
  intro q hq
  split at hq
  · exact absurd hq List.not_mem_nil
  · obtain ⟨p, hp, mine⟩ := List.mem_flatMap.mp (List.mem_dedup.mp hq)
    exact unwanted p (List.mem_of_mem_filter hp) q mine

/-- Where no mirror waits, a copy that is over leaves its pin and what was staged for it. -/
theorem State.endCopy_pinless (none : (s.stand st).steps.mirrorWait = Option.none) : (s.setCopy st Option.none).aside (s.endCopy st) st := by
  have freed := State.foldl_aside (st := st) (s.setCopy st Option.none) (fun u l => u.setLand_aside st l
    { u.land l with staged := (u.land l).staged.filter (fun b => decide (b.stand ≠ st)) }) (List.range s.variant.landDies)
  unfold State.endCopy
  extract_lets t x
  have unmirrored : x.mirrorWait = Option.none := by
    dsimp only [x]
    rw [freed.steps, State.setCopy_steps]
    exact none
  rw [unmirrored]
  exact freed

theorem State.setCopy_others (b : Option BgCopy) : s.standOnly (s.setCopy st b) st := fun _ hk => s.setStand_stand_ne hk _

/-- A mirror with nothing left writes its headers and is over. -/
theorem State.copyStep_mirrored (last : s.nextBlock st b = none) (mirror : b.ticket = none) :
    s.copyStep st b = ((s.copyHeads st b).endCopy st).countStand st cDckMirrors := by
  rw [State.copyStep, last]
  dsimp only
  rw [State.copyRead, mirror]

end

/-! ### CHECKPOINT begins -/

section
variable {s : State} {st tkt : Nat} {c : Cmd}

/-- The copy of a CHECKPOINT, before it takes its pin. -/
def ckptCopy (s : State) (st tkt : Nat) (c : Cmd) (a : CkptArgs) : BgCopy :=
  { ticket := some tkt, ctx := c.context, groups := (groupSpan a.ugrp a.count).map (fun k => (k, false)), todo := [], got := []
    remote := if a.remote then some (a.device, a.dstand) else none, dest := a.addr
    otver := a.otver, sign := a.sign, step := 0, meta_ := (s.stand st).steps.meta_ }

/-- The command of a CHECKPOINT as it begins. -/
def ckptCmd (s : State) (c : Cmd) : Cmd := { c with stage := .running, tStart := s.clock.now }

variable (h : s.canRun st tkt 0x43 = some c)
include h

theorem exec_checkpoint_waits (busy : (s.stand st).steps.copy ≠ none ∨ s.ckptHeld st c = true ∨ s.ckptSwept st c = true) :
    exec (.checkpoint st tkt) s = .next s := by
  change execCheckpoint st tkt s = _
  rw [execCheckpoint, h]
  simp only []
  rw [if_pos]
  rcases busy with copy | held | swept
  · simp [Option.isSome_iff_ne_none.mpr copy]
  · simp [held]
  · simp [swept]

theorem exec_checkpoint_begins (free : (s.stand st).steps.copy = none) (unheld : s.ckptHeld st c = false) (swept : s.ckptSwept st c = false) :
    exec (.checkpoint st tkt) s = .next (((s.setCmd st (ckptCmd s c)).beginCopy st (ckptCopy s st tkt c (ckptArgs c.bytes))).ckptPoll st tkt) := by
  change execCheckpoint st tkt s = _
  rw [execCheckpoint, h]
  simp only []
  rw [if_neg (by simp [free, unheld, swept])]
  rfl

omit h in
/-- A CHECKPOINT that runs on and has lost nothing goes on. -/
theorem State.ckptPoll_runs {d : Cmd} (cmd : (s.stand st).cmd tkt = some d) (whole : d.lost = []) (early : d.stage = .running) :
    s.ckptPoll st tkt = s := by
  rw [State.ckptPoll, cmd]
  simp [whole, early]

end

/-! ### Writes beside the stands -/

section
variable (s : State) (v : Tab StandSt)

theorem State.noteWord_setStands (w : Nat) : (s.setStands v).noteWord w = (s.noteWord w).setStands v := by
  have same : (s.setStands v).hbm.check w = s.hbm.check w := rfl
  unfold State.noteWord
  rw [same]
  cases s.hbm.check w with
  | clean => rfl
  | corrected pos bit => rfl
  | uncorrectable =>
    dsimp only
    rw [apply_ite (State.setStands · v)]
    rfl

theorem State.noteMerge_setStands (ks : List Nat) : (s.setStands v).noteMerge ks = (s.noteMerge ks).setStands v := by
  have words (ws : List Nat) : ∀ u : State, ws.foldl State.noteWord (u.setStands v) = (ws.foldl State.noteWord u).setStands v := by
    induction ws with
    | nil => exact fun _ => rfl
    | cons w ws ih =>
      intro u
      rw [List.foldl_cons, u.noteWord_setStands v, ih, List.foldl_cons]
  have clean : (s.setStands v).hbm.diff = s.hbm.diff := rfl
  unfold State.noteMerge State.noteWords
  rw [clean, words]
  split <;> rfl

theorem State.writeKey_setStands (k : Nat) (bs : List Byte) : (s.setStands v).writeKey k bs = (s.writeKey k bs).setStands v := by
  unfold State.writeKey
  rw [s.noteMerge_setStands v]
  rfl

theorem State.writeSoftN_setStands (n a : Nat) (bs : List Byte) : (s.setStands v).writeSoftN n a bs = (s.writeSoftN n a bs).setStands v := by
  induction n generalizing s a bs with
  | zero => rfl
  | succ n ih =>
    cases bs with
    | nil => rfl
    | cons b bs =>
      have same : (s.setStands v).visKey a = s.visKey a := rfl
      simp only [State.writeSoftN, same]
      split
      · rw [s.writeKey_setStands v, ih]
      · exact ih s _ _

/-- What a write stores does not depend on the stands. -/
theorem State.writeSoft_hbm_setStands (a : Nat) (bs : List Byte) : ((s.setStands v).writeSoft a bs).hbm = (s.writeSoft a bs).hbm := by
  rw [State.writeSoft, s.writeSoftN_setStands v]
  rfl

end

end Sys2Proof.Machine
end

section
/-! RESTORE (spec/12 R321, spec/08 R196), and the statement about checkpoints. -/

namespace Sys2Proof.Machine

/-! ### A source read -/

section
variable {s t : State} {st : Nat} {c : Cmd} {a : RestArgs}

/-- What a RESTORE reads of the stand's own memory, where every word checks. -/
theorem State.restBytes_clean (own : a.remote = false) (clean : s.hbm.diff = []) (addr n : Nat) :
    s.restBytes c a addr n = (((List.range n).filterMap fun i => s.visKey (addr + i)).map s.hbm.read, s) := by
  have noted : s.noteSoft addr n = s := State.noteWords_clean clean _
  rw [State.restBytes, own, if_neg Bool.false_ne_true, noted, State.takeKeys_clean clean]

theorem State.restBytes_mapped (own : a.remote = false) (clean : s.hbm.diff = []) {addr n : Nat}
    (keys : ∀ i, i < n → (s.visKey (addr + i)).isSome = true) : (s.restBytes c a addr n).1 = s.readSoft addr n := by
  rw [State.restBytes_clean own clean, State.readSoft, List.map_filterMap, ← List.filterMap_eq_map]
  refine List.filterMap_congr fun i hi => ?_
  obtain ⟨k, hk⟩ := Option.isSome_iff_exists.mp (keys i (List.mem_range.mp hi))
  simp [State.readByte, hk]

/-- The shards of the groups read one after the other. -/
theorem State.foldl_restBytes (own : a.remote = false) (clean : s.hbm.diff = []) (offs : List Nat) (l : List (Nat × Nat))
    (acc : List (Nat × Nat × List Byte)) :
    l.foldl (fun (acc : List (Nat × Nat × List Byte) × State) p =>
      let (b, u) := acc.2.restBytes c a (a.addr + offs.getD p.2 0) (s.shardBytes p.1)
      (acc.1 ++ [(p.2, p.1, b)], u)) (acc, s) =
    (acc ++ l.map fun p => (p.2, p.1, (s.restBytes c a (a.addr + offs.getD p.2 0) (s.shardBytes p.1)).1), s) := by
  induction l generalizing acc with
  | nil => simp
  | cons p l ih =>
    have state (addr n : Nat) : (s.restBytes c a addr n).2 = s := by rw [State.restBytes_clean own clean]
    rw [List.foldl_cons]
    dsimp only
    rw [state, ih, List.map_cons, List.append_assoc]
    rfl

/-! ### A group installed -/

theorem State.writeRegionN_stored (s : State) (r n off : Nat) (bs : List Byte) : s.stored (s.writeRegionN r n off bs) := by
  induction n generalizing s off bs with
  | zero => exact State.stored.refl s
  | succ n ih =>
    cases bs with
    | nil => exact State.stored.refl s
    | cons b bs => exact (s.writeKey_stored _ _).trans (ih _ _ _)

theorem foldl_stored_fst {α β : Type} {f : State × β → α → State × β} (h : ∀ (q : State × β) (a : α), q.1.stored (f q a).1) (l : List α) (q : State × β) :
    q.1.stored (l.foldl f q).1 := by
  induction l generalizing q with
  | nil => exact State.stored.refl _
  | cons a l ih => exact (h q a).trans (ih (f q a))

/-- A group restored: its other copy, or the tentative one in place, is the tentative version. -/
def UGroup.restored (g : UGroup) (seed : Int) : UGroup := { g with tent := true, uTent := seed }

/-- An installed group's data is in memory, and the group has a tentative version. -/
theorem State.install_eq (s : State) (k : Nat) (b : List Byte) :
    ∃ v : State, s.stored v ∧ s.install k b = v.setUgroup k ((s.ugroup k).restored (s.udef k).seedU) := by
  refine ⟨_, ?_, rfl⟩
  exact foldl_stored_fst (f := fun (acc : State × List Byte) (p : Nat × Nat) =>
    let (o, n) := s.groupRange k p.2
    (acc.1.writeRegion (s.copyOf p.2 (!(s.ugroup k).sel)) o (acc.2.take n), acc.2.drop n))
    (fun q _ => q.1.writeRegionN_stored _ _ _ _) (s.rolesOf k) (s, b.drop 256)

/-- From `s` to `t` groups were installed: memory may change, and the groups named have a tentative version. -/
structure State.installs (s t : State) (ks : List Nat) : Prop where
  stands : t.stands = s.stands
  comp : t.comp = s.comp
  frame : t.frame = s.frame
  counters : ∀ k, 2 < k % 32 → t.counters.get k = s.counters.get k
  groups : ∀ k, t.ugroup k = if k ∈ ks then (s.ugroup k).restored (s.udef k).seedU else s.ugroup k

theorem State.stored.ugroup (h : s.stored t) (k : Nat) : t.ugroup k = s.ugroup k := by
  rw [State.ugroup, h.groups, State.udef, img_of_frame h.frame]; rfl

theorem State.install_installs (s : State) (k : Nat) (b : List Byte) : s.installs (s.install k b) [k] := by
  obtain ⟨v, work, e⟩ := s.install_eq k b
  rw [e]
  refine ⟨work.stands, work.comp, work.frame, work.counters, fun i => ?_⟩
  by_cases here : i = k
  · subst here; rw [State.setUgroup_ugroup_same, if_pos List.mem_cons_self]
  · rw [State.setUgroup_ugroup_ne _ here, work.ugroup, if_neg (by simpa using here)]

theorem State.installs.udef {ks : List Nat} (h : s.installs t ks) (k : Nat) : t.udef k = s.udef k := by
  rw [State.udef, img_of_frame h.frame]; rfl

theorem State.foldl_install (l : List (Nat × Nat × List Byte)) : s.installs (l.foldl (fun u x => u.install x.2.1 x.2.2) s)
    (l.map fun x => x.2.1) := by
  induction l generalizing s with
  | nil => exact ⟨rfl, rfl, rfl, fun _ _ => rfl, fun _ => by simp⟩
  | cons x l ih =>
    have first := s.install_installs x.2.1 x.2.2
    have rest := ih (s := s.install x.2.1 x.2.2)
    refine ⟨rest.stands.trans first.stands, rest.comp.trans first.comp, rest.frame.trans first.frame,
      fun k hk => (rest.counters k hk).trans (first.counters k hk), fun k => ?_⟩
    rw [List.foldl_cons, rest.groups, first.groups, first.udef, List.map_cons]
    by_cases here : k = x.2.1
    · subst here
      by_cases later : x.2.1 ∈ l.map fun x => x.2.1 <;> simp [UGroup.restored]
    · simp only [List.mem_cons, here, false_or, List.not_mem_nil, if_false]

end

/-! ### RESTORE runs -/

section
variable {s : State} {st tkt : Nat} {c : Cmd} (h : s.canRun st tkt 0x44 = some c)

/-- The command of a RESTORE as it begins. -/
def restCmd (s : State) (c : Cmd) : Cmd := { c with tStart := s.clock.now }

/-- The GETs of a range are sent, and what could not be sent is kept with the command. -/
theorem State.restGet_sends (d : Cmd) (a : RestArgs) (addr n : Nat) : s.sends (s.restGet st d a addr n).1 st ∧
    ∃ lost, (s.restGet st d a addr n).2 = { d with lost := lost } := by
  unfold State.restGet
  have run (l : List (Nat × Nat)) : ∀ (u : State) (e : Cmd), (∃ lost, e = { d with lost := lost }) →
      u.sends (l.foldl (fun acc p =>
        let (u, k) := acc.1.request st 2 a.device a.sstand p.1 [] (natLe 16 p.2) false (.checkpoint d.ticket)
        (u, if k = .sent then acc.2 else { acc.2 with lost := p.1 :: acc.2.lost })) (u, e)).1 st ∧
      ∃ lost, (l.foldl (fun acc p =>
        let (u, k) := acc.1.request st 2 a.device a.sstand p.1 [] (natLe 16 p.2) false (.checkpoint d.ticket)
        (u, if k = .sent then acc.2 else { acc.2 with lost := p.1 :: acc.2.lost })) (u, e)).2 = { d with lost := lost } := by
    induction l with
    | nil => exact fun u e he => ⟨State.sends.refl u st, he⟩
    | cons p l ih =>
      intro u e ⟨lost, he⟩
      have sent := u.request_sends st 2 a.device a.sstand p.1 [] (natLe 16 p.2) false (.checkpoint d.ticket)
      have kept : ∃ lost, (if (u.request st 2 a.device a.sstand p.1 [] (natLe 16 p.2) false (.checkpoint d.ticket)).2 = .sent then e
          else { e with lost := p.1 :: e.lost }) = { d with lost := lost } := by
        split
        · exact ⟨lost, he⟩
        · exact ⟨p.1 :: e.lost, by rw [he]⟩
      obtain ⟨work, final⟩ := ih _ _ kept
      exact ⟨sent.trans work, final⟩
  exact run _ s d ⟨d.lost, rfl⟩

include h

theorem exec_restore_remote (remote : (restArgs c.bytes).remote = true) : exec (.restore st tkt) s = .next
    ((s.restGet st { restCmd s c with stage := .phase 1 } (restArgs c.bytes) (restArgs c.bytes).addr
      (manifestBytes (restArgs c.bytes).count)).1.setCmd st
      (s.restGet st { restCmd s c with stage := .phase 1 } (restArgs c.bytes) (restArgs c.bytes).addr
        (manifestBytes (restArgs c.bytes).count)).2) := by
  change execRestore st tkt s = _
  rw [execRestore, h]
  simp only [remote, if_true]
  rfl

theorem exec_restore_local (own : (restArgs c.bytes).remote = false) :
    exec (.restore st tkt) s = .next ((s.restRun st (restCmd s c) (restArgs c.bytes)).getD s) := by
  change execRestore st tkt s = _
  rw [execRestore, h]
  simp only [own, Bool.false_eq_true, if_false]
  rfl

omit h in
theorem State.restRun_waits (swept : s.restSwept st c = true) : s.restRun st (restCmd s c) (restArgs c.bytes) = none := by
  have same : s.restSwept st (restCmd s c) = true := swept
  rw [State.restRun, same, if_pos rfl]

end

/-! ### A RESTORE of the stand's own memory -/

/-- The step that a manifest restores. -/
def restoredOf (m : List Byte) : RestoredStep :=
  { step := BitVec.ofNat 64 (fld m 16 8), dpos := BitVec.ofNat 64 (fld m 24 8), rseed := BitVec.ofNat 64 (fld m 32 8)
    dseed := BitVec.ofNat 64 (fld m 40 8), job := BitVec.ofNat 32 (fld m 8 4), issued := false }

/-- The steps once a manifest's step is restored. -/
def StepSt.restoring (x : StepSt) (m : List Byte) : StepSt :=
  { x with restored := some (restoredOf m), next := (restoredOf m).step + 1, nextValid := true }

/-- A RESTORE whose groups are installed ends. -/
def State.restoreEnds (t : State) (st : Nat) (d : Cmd) (m : List Byte) (bytes : Nat) : State :=
  ((t.setStand st { t.stand st with steps := (t.stand st).steps.restoring m }).engineDone st
    { d with fetched := [], pay := restPay m 0xffffffff 0 bytes }).countStand st cDckRestores

/-- The shards of a RESTORE, each with its number, its group and its bytes. -/
def State.shardsRead (s : State) (d : Cmd) (a : RestArgs) : List (Nat × Nat × List Byte) :=
  (groupSpan a.ugrp a.count).zipIdx.map fun p =>
    (p.2, p.1, (s.restBytes d a (a.addr + (s.layout (groupSpan a.ugrp a.count)).getD p.2 0) (s.shardBytes p.1)).1)

section
variable {s : State} {st : Nat} {d : Cmd} {a : RestArgs} {m : List Byte} (own : a.remote = false) (clean : s.hbm.diff = [])

theorem State.shardsRead_mem {x : Nat × Nat × List Byte} (h : x ∈ s.shardsRead d a) : (groupSpan a.ugrp a.count)[x.1]? = some x.2.1 ∧
    x.2.2 = (s.restBytes d a (a.addr + (s.layout (groupSpan a.ugrp a.count)).getD x.1 0) (s.shardBytes x.2.1)).1 := by
  obtain ⟨p, hp, rfl⟩ := List.mem_map.mp h
  exact ⟨List.mem_zipIdx_iff_getElem?.mp hp, rfl⟩

theorem State.shardsRead_groups : (s.shardsRead d a).map (fun x => x.2.1) = groupSpan a.ugrp a.count := by
  rw [State.shardsRead, List.map_map]
  exact List.zipIdx_map_fst 0 _

variable (swept : s.restSwept st d = false) (head : (s.restBytes d a a.addr (manifestBytes a.count)).1 = m)
include own clean swept head

/-- A manifest that is not whole is rejected. -/
theorem State.restRun_rejects (bad : manifestOk m a.count = false) : s.restRun st d a =
    some ((s.restFail st d [0x0118] m 0xffffffff (manifestBytes a.count)).countStand st cDckRestoreRejected) := by
  have read : s.restBytes d a a.addr (manifestBytes a.count) = (m, s) := by
    rw [← head, State.restBytes_clean own clean]
  rw [State.restRun, swept, if_neg Bool.false_ne_true]
  simp only [read, bad, Bool.not_false, if_true]

/-- A manifest that is whole, and shards that match it, are installed. -/
theorem State.restRun_installs (whole : manifestOk m a.count = true) (wanted : ∀ d q, s.wantStage d q = []) (agrees : restFails a m = [])
    (good : ∀ x ∈ s.shardsRead d a, s.shardFails a m x.2.2 x.1 x.2.1 ((s.layout (groupSpan a.ugrp a.count)).getD x.1 0) = [])
    (free : ∀ k ∈ groupSpan a.ugrp a.count, (s.ugroup k).isSealed = false ∧ ∀ p ∈ s.rolesOf k, s.groupHeld st d.ticket k p.2 = false) :
    ∃ bytes, s.restRun st d a = some (((s.shardsRead d a).foldl (fun u x => u.install x.2.1 x.2.2) s).restoreEnds st d m bytes) := by
  have read : s.restBytes d a a.addr (manifestBytes a.count) = (m, s) := by
    rw [← head, State.restBytes_clean own clean]
  have shards := State.foldl_restBytes (s := s) (c := d) own clean (s.layout (groupSpan a.ugrp a.count))
    (groupSpan a.ugrp a.count).zipIdx []
  rw [List.nil_append] at shards
  have matching : ((s.shardsRead d a).map fun x =>
      (x.1, s.shardFails a m x.2.2 x.1 x.2.1 ((s.layout (groupSpan a.ugrp a.count)).getD x.1 0))).flatMap Prod.snd = [] := by
    refine List.flatMap_eq_nil_iff.mpr fun y hy => ?_
    obtain ⟨x, hx, rfl⟩ := List.mem_map.mp hy
    exact good x hx
  have unheld : (groupSpan a.ugrp a.count).any (fun k => (s.ugroup k).isSealed ||
      (s.rolesOf k).any fun x => s.groupHeld st d.ticket k x.2) = false := by
    refine List.any_eq_false.mpr fun k hk => ?_
    obtain ⟨unsealed, roles⟩ := free k hk
    rw [unsealed, Bool.false_or, Bool.not_eq_true]
    exact List.any_eq_false.mpr fun p hp => by simp [roles p hp]
  refine ⟨manifestBytes a.count + ((groupSpan a.ugrp a.count).map s.shardBytes).sum, ?_⟩
  rw [State.restRun, swept, if_neg Bool.false_ne_true]
  simp only [read, whole, Bool.not_true, Bool.false_eq_true, if_false, shards]
  change (if (!(restFails a m ++ ((s.shardsRead d a).map fun x => (x.1, s.shardFails a m x.2.2 x.1 x.2.1
    ((s.layout (groupSpan a.ugrp a.count)).getD x.1 0))).flatMap Prod.snd).isEmpty) = true then _ else _) = _
  rw [matching, agrees, if_neg (by simp), unheld, if_neg Bool.false_ne_true, State.stageFor_unwanted fun q _ => wanted q.1 q.2]
  rfl

end

/-! ### What a RESTORE leaves -/

section
variable {s t : State} {st tkt : Nat} {c d : Cmd} {m : List Byte} {bytes : Nat}

theorem State.restoreEnds_stand : (t.restoreEnds st d m bytes).stand st =
    ({ t.stand st with steps := (t.stand st).steps.restoring m } : StandSt).setCmd d.ticket
      { d with fetched := [], pay := restPay m 0xffffffff 0 bytes, stage := .done } := by
  rw [State.restoreEnds, State.countStand_stand, State.engineDone, State.setCmd, State.setStand_stand_same, State.setStand_stand_same]

theorem State.restoreEnds_others : t.standOnly (t.restoreEnds st d m bytes) st :=
  State.standOnly.trans (t := t.setStand st { t.stand st with steps := (t.stand st).steps.restoring m })
    (fun _ hk => t.setStand_stand_ne hk _) State.engineDone_standOnly

theorem State.restoreEnds_counted : (t.restoreEnds st d m bytes).counters.get (kStand st cDckRestores) =
    t.counters.get (kStand st cDckRestores) + 1 := State.count_one _ _

theorem State.restoreEnds_stage (cmd : (t.stand st).cmd d.ticket = some c) :
    (t.restoreEnds st d m bytes).stageOf st d.ticket = some .done := by
  have cmd' : ((t.setStand st { t.stand st with steps := (t.stand st).steps.restoring m }).stand st).cmd d.ticket = some c := by
    rw [State.setStand_stand_same]; exact cmd
  exact congrArg (Option.map Cmd.stage)
    (State.engineDone_cmd (d := { d with fetched := [], pay := restPay m 0xffffffff 0 bytes }) cmd')

/-- A counter of a stand that memory's words do not count. -/
theorem kStand_stored {c : Nat} (h : 2 < c % 32) : 2 < kStand st c % 32 := by
  simp only [kStand]
  omega

end

/-- Settles O44: a CHECKPOINT and its reads are work beside the stand's steps, and a RESTORE reads, checks and then installs. -/
theorem checkpointAndRestore : Obligations.CheckpointAndRestore := by
  unfold Obligations.CheckpointAndRestore
  refine ⟨?checkpoint, ?reads, ?restore⟩
  case checkpoint =>
    intro s st tkt c a run ha
    subst ha
    refine ⟨exec_checkpoint_waits run, fun free unheld swept whole route => ?_⟩
    have runs := exec_checkpoint_begins run free unheld swept
    obtain ⟨cmd, -⟩ := State.canRun_some run
    have ticket := StandSt.cmd_ticket cmd
    obtain ⟨u, hu⟩ : ∃ u, u = s.setCmd st (ckptCmd s c) := ⟨_, rfl⟩
    obtain ⟨p, hp⟩ : ∃ p, p = u.pinned st (ckptCopy s st tkt c (ckptArgs c.bytes)) := ⟨_, rfl⟩
    obtain ⟨v, hv⟩ : ∃ v, v = u.setCopy st (some p) := ⟨_, rfl⟩
    have begins : u.beginCopy st (ckptCopy s st tkt c (ckptArgs c.bytes)) = v.copyOut st p 0 (natLe 8 0) [] := by
      rw [hv, hp]; rfl
    rw [← hu, begins] at runs
    have uCmd : (u.stand st).cmd tkt = some (ckptCmd s c) := by rw [hu]; exact State.setCmd_cmd cmd ticket
    have vStand : v.stand st = { u.stand st with steps := { (u.stand st).steps with copy := some p } } := by
      rw [hv, State.setCopy, u.setStand_stand_same]
    have uSteps : (u.stand st).steps = (s.stand st).steps := by rw [hu]; exact (s.setCmd_aside st _).steps
    have outputs : (v.stand st).outputs = (s.stand st).outputs := by
      rw [vStand, ← State.setCmd_outputs (s := s) (st := st) (ckptCmd s c), hu]; rfl
    have others : s.standOnly v st := by
      rw [hv, hu]; exact (State.setCmd_others _).trans (State.setCopy_others _)
    have base : v = s.setStands v.stands := by rw [hv, hu]; rfl
    obtain ⟨w, hw⟩ : ∃ w, w = v.copyOut st p 0 (natLe 8 0) [] := ⟨_, rfl⟩
    have remote : p.remote = if (ckptArgs c.bytes).remote then some ((ckptArgs c.bytes).device, (ckptArgs c.bytes).dstand) else none := by
      rw [hp]; rfl
    have routed : ∀ d ds, p.remote = some (d, ds) → v.fenced st d = false ∧ (v.routeTo d).isSome = true := by
      intro d ds there
      rw [remote] at there
      split at there
      next away =>
        cases there
        rw [base]
        exact route away
      next => cases there
    obtain ⟨beside, cmdKept, shown, hbm⟩ := hw ▸ v.copyOut_effect p 0 (natLe 8 0) routed
    have written : w.hbm = if (ckptArgs c.bytes).remote then s.hbm else (s.writeSoft (ckptArgs c.bytes).addr (natLe 8 0)).hbm := by
      have dest : p.dest = (ckptArgs c.bytes).addr := by rw [hp]; rfl
      rw [hbm, remote, dest, base]
      cases (ckptArgs c.bytes).remote with
      | true => rfl
      | false => simpa using s.writeSoft_hbm_setStands v.stands _ _
    have wCmd : (w.stand st).cmd tkt = some (ckptCmd s c) := (cmdKept tkt).trans (by rw [vStand]; exact uCmd)
    rw [← hw, State.ckptPoll_runs wCmd whole rfl] at runs
    refine ⟨w, p, runs, congrArg (Option.map Cmd.stage) wCmd, by rw [beside.steps, vStand], by rw [hp]; rfl, ?_, ?_, ?_, by rw [hp]; rfl,
      by rw [hp]; rfl, remote, written, ?_, ?_, shown.trans outputs, others.trans beside.others, exec_frame _ rfl runs⟩
    · rw [hp, State.pinned, ckptCopy, List.map_map, hu]
      rfl
    · rw [← uSteps, hp]; rfl
    · rw [← uSteps, hp]; rfl
    · exact beside.comp.trans (by rw [base]; rfl)
    · exact beside.groups.trans (by rw [base]; rfl)
  case reads =>
    intro s st b alive copy running
    have runs := exec_backgroundCopyRead alive copy running
    refine ⟨fun die block next unstaged clean unwanted => ?_, fun last mirror alone => ?_⟩
    · rw [State.copyStep_reads next unwanted] at runs
      obtain ⟨v, work, e⟩ := State.readBlock_read (st := st) unstaged clean
      rw [e] at runs
      refine ⟨_, _, runs, by rw [State.setCopy_steps], rfl, rfl, work.comp, work.groups,
        work.others.trans (State.setCopy_others _), exec_frame _ rfl runs⟩
    · rw [State.copyStep_mirrored last mirror] at runs
      have heads := s.copyHeads_aside st b
      have ends := State.endCopy_pinless (s := s.copyHeads st b) (st := st) (by rw [heads.steps]; exact alone)
      have counted : kStand st cDckMirrors % 512 ∉ sendCounters := kStand_unsent (by decide) (by decide)
      refine ⟨_, runs, ?_, ?_, ends.comp.trans heads.comp, ends.groups.trans heads.groups,
        (heads.others.trans (State.setCopy_others _)).trans ends.others, exec_frame _ rfl runs⟩
      · rw [State.countStand_stand, ends.steps, State.setCopy_steps]
      · rw [State.countStand, State.count_one, ends.counters _ (kStand_stored (by decide)) counted]
        exact congrArg (· + 1) (heads.counters _ (kStand_stored (by decide)) counted)
  case restore =>
    intro s st tkt c a run ha
    subst ha
    obtain ⟨cmd, -⟩ := State.canRun_some run
    have ticket := StandSt.cmd_ticket cmd
    refine ⟨fun remote => ?_, fun own swept => ?_, fun own unswept clean m u read => ?_⟩
    · have runs := exec_restore_remote run remote
      obtain ⟨sent, lost, asked⟩ := s.restGet_sends (st := st) { restCmd s c with stage := .phase 1 } (restArgs c.bytes)
        (restArgs c.bytes).addr (manifestBytes (restArgs c.bytes).count)
      rw [asked] at runs
      have cmd' := (sent.quiet.cmd tkt).trans cmd
      refine ⟨_, runs, ?_, sent.memory.trans (State.setCmd_memoryKept _ st _), (State.setCmd_outputs _).trans sent.outputs,
        sent.others.trans (State.setCmd_others _), exec_frame _ rfl runs⟩
      rw [State.stageOf, State.setCmd_cmd cmd' (by exact ticket)]
      rfl
    · rw [exec_restore_local run own, State.restRun_waits swept]
      rfl
    · have head : (s.restBytes (restCmd s c) (restArgs c.bytes) (restArgs c.bytes).addr (manifestBytes (restArgs c.bytes).count)).1 = m :=
        congrArg Prod.fst read
      have unswept' : s.restSwept st (restCmd s c) = false := unswept
      have runs := exec_restore_local run own
      refine ⟨fun bad => ?_, fun whole wanted agrees good => ?_⟩
      · rw [State.restRun_rejects own clean unswept' head bad, Option.getD_some] at runs
        obtain ⟨d, hd⟩ : ∃ d, d = { restCmd s c with
            statuses := (restCmd s c).statuses ++ [0x0118], fetched := []
            pay := restPay m 0xffffffff ({ restCmd s c with statuses := (restCmd s c).statuses ++ [0x0118], fetched := [] } : Cmd).status
              (manifestBytes (restArgs c.bytes).count) } := ⟨_, rfl⟩
        have fails : s.restFail st (restCmd s c) [0x0118] m 0xffffffff (manifestBytes (restArgs c.bytes).count) = s.engineDone st d := by
          rw [hd]; rfl
        rw [fails] at runs
        have own : d.ticket = tkt := by rw [hd]; exact ticket
        obtain ⟨ended, stage, -, outputs, others⟩ := (State.quiet.refl s st).ends cmd own
        refine ⟨_, runs, stage, ?_, State.count_one _ _, ?_, ⟨rfl, rfl, rfl⟩, outputs, others, exec_frame _ rfl runs⟩
        · rw [State.countStand_stand, ended, hd]; rfl
        · rw [State.countStand_stand, State.engineDone]
          exact (s.setCmd_aside st _).steps
      · obtain ⟨bytes, installs⟩ := State.restRun_installs own clean unswept' head whole wanted agrees
          (fun x hx => by
            obtain ⟨place, read⟩ := State.shardsRead_mem hx
            obtain ⟨match_, keys, -⟩ := good x.1 x.2.1 place
            rw [read, State.restBytes_mapped own clean keys]
            exact match_)
          (fun k hk => by
            obtain ⟨i, place⟩ := List.mem_iff_getElem?.mp hk
            obtain ⟨-, -, unsealed, roles⟩ := good i k place
            exact ⟨unsealed, roles⟩)
        rw [installs, Option.getD_some] at runs
        have work := State.foldl_install (s := s) (s.shardsRead (restCmd s c) (restArgs c.bytes))
        rw [State.shardsRead_groups] at work
        generalize (s.shardsRead (restCmd s c) (restArgs c.bytes)).foldl (fun u x => u.install x.2.1 x.2.2) s = t at runs work
        have stand (k : Nat) : t.stand k = s.stand k := by rw [State.stand, work.stands]; rfl
        have stage : (t.restoreEnds st (restCmd s c) m bytes).stageOf st (restCmd s c).ticket = some .done :=
          State.restoreEnds_stage (by rw [stand]; exact ticket ▸ cmd)
        have ended := State.restoreEnds_stand (t := t) (st := st) (d := restCmd s c) (m := m) (bytes := bytes)
        have others : s.standOnly (t.restoreEnds st (restCmd s c) m bytes) st := fun k hk => (State.restoreEnds_others k hk).trans (stand k)
        refine ⟨_, restoredOf m, runs, ticket ▸ stage, by rw [ended]; rfl, rfl, rfl, by rw [ended]; rfl, fun k hk => ?_, fun k hk => ?_, ?_, ?_,
          others, work.comp, exec_frame _ rfl runs⟩
        · exact (work.groups k).trans (if_pos hk)
        · exact (work.groups k).trans (if_neg hk)
        · rw [State.restoreEnds_counted, work.counters _ (kStand_stored (by decide))]
        · rw [ended, stand]; rfl

end Sys2Proof.Machine
end
